-- ==== Sys2Proof/Word.lean ====
section
/-! DEFINITION. The word types of the Fjarien Helul and nothing else (spec 01 R12, R16, R17; 02 R44). -/
namespace Sys2Proof

/-- A byte of memory. -/
abbrev Byte := BitVec 8

/-- A lane of a vector register, or a 32-bit field (01 R17). -/
abbrev W32 := BitVec 32

/-- A scalar register, latch or staging word (01 R16, R21, R27). -/
abbrev W64 := BitVec 64

/-- The 2,048-bit image of a vector register: lane `i` is bits `[32i+31:32i]` (01 R17). -/
abbrev Vec := BitVec 2048

/-- A bundle: slot `k` is bits `[32k+31:32k]` (03 R70). -/
abbrev Bundle := BitVec 256

end Sys2Proof
end

