-- ==== Sys2Proof/Syntax.lean ====
section
/-! DEFINITION. Instructions and events of the machine as data: one constructor of `Instr` for each row of spec/opcode_table.json
(slot words of 03 R70 to R87, then the steps of 95). Register numbers, operation codes and field codes are constructors here;
the bits are Decode's. -/
namespace Sys2Proof

/-- The eight slots of a bundle (03 R70). -/
inductive Slot where
  | c | s | va | vb | m | xa | xb | f
  deriving DecidableEq, Repr

/-- A 6-bit source selector (03 R74). -/
inductive Sel where
  | reg (r : Fin 32)      -- 0x00 to 0x1f
  | own (b : Fin 4)       -- 0x20 to 0x23
  | partner (b : Fin 4)   -- 0x24 to 0x27
  | zero                  -- 0x28
  | lane                  -- 0x29
  | tileid                -- 0x2a
  | cuelo                 -- 0x2b
  | cross (i : Fin 4)     -- 0x2c to 0x2f
  deriving DecidableEq, Repr

/-- The guard of a CT or EX word: predicate and inversion (03 R75). -/
structure Guard where
  p : Fin 8
  inv : Bool
  deriving DecidableEq, Repr

/-- The destination of a word with a register result: suppress bit N, result latch L, register D (03 R73). -/
structure Dst where
  n : Bool
  l : Fin 4
  d : Fin 32
  deriving DecidableEq, Repr

/-- Rounding modes (02 R49). -/
inductive Rnd where
  | rne | rz | ru | rd | sr
  deriving DecidableEq, Repr

/-- Format codes of VCVT (03 R84). -/
inductive CvtFmt where
  | fp32 | bf16 | fp16 | e4m3 | e5m2 | i32 | n32
  deriving DecidableEq, Repr

/-- Mantissa widths (03 R84, 02 R55). -/
inductive Width where
  | w4 | w6 | w8 | w16
  deriving DecidableEq, Repr

/-- MX element formats (03 R84, 02 R59). -/
inductive MxFmt where
  | int8 | e4m3 | e5m2 | e2m3 | e3m2 | e2m1
  deriving DecidableEq, Repr

/-- Types of a reduction (03 R84). -/
inductive RedTy where
  | i32 | n32 | fp32
  deriving DecidableEq, Repr

/-- Formats of a drain (03 R85). -/
inductive DrainFmt where
  | fp32 | bf16 | fp16
  deriving DecidableEq, Repr

/-- Scopes (03 R86, 10 R278). -/
inductive Scope where
  | tile | gang | module | company | deck | system
  deriving DecidableEq, Repr

/-- Operations of a collective (03 R86). -/
inductive COp where
  | i32 | fp32 | max | bf16
  deriving DecidableEq, Repr

/-- Sides of a tile (03 R87). -/
inductive Side where
  | n | e | s | w
  deriving DecidableEq, Repr

/-- A tile of a company: company number, gang, row and column in the gang (01 R40). -/
structure TileKey where
  co : Nat
  gang : Nat
  row : Nat
  col : Nat
  deriving DecidableEq, Repr

/-- Sites: 0 to 7 are C0 to C7, 8 to 15 are M0 to M7, 16 is S (03 R86, 11 R301). -/
abbrev SiteId := Fin 17

/-- A deck link by its site and its port there: 0 to 7 are N0, N1, E0, E1, S0, S1, W0, W1 (12 R309, R313). -/
structure DeckLink where
  site : SiteId
  port : Fin 8
  deriving DecidableEq, Repr

/-- Where a storage error lies (11 R299, unit codes 0x01 to 0x0c). -/
inductive ErrPlace where
  | tile (k : TileKey) (unit : Fin 6)                        -- 0x01 to 0x05 in a tile's state; 0 unused
  | weights (site : SiteId) (q : Fin 4) (row col : Fin 16)   -- 0x06
  | shadow (k : TileKey) (boundary : Bool)                   -- 0x07
  | gate (co : Nat) (site : SiteId) (q : Fin 4) (sealed : Bool)   -- 0x08
  | hbm (addr : BitVec 48)                                   -- 0x09
  | mailbox (w : Fin 4096)                                   -- 0x0a
  | link (l : DeckLink)                                      -- 0x0b
  | xlate (site : SiteId) (q : Fin 4)                        -- 0x0c
  deriving DecidableEq, Repr

/-- One failing unit found by self-test: place, unit code, error kind, detail (15 R367, R368). -/
structure TestEntry where
  q : Fin 4
  prow : Fin 16
  pcol : Fin 17
  unit : BitVec 8
  error : BitVec 8
  detail : BitVec 16
  addr : BitVec 64
  deriving DecidableEq, Repr

/-- What TESTING found: failing units, whether the configuration record verifies, whether the leaf firmware is accepted (13 R326). -/
structure TestOutcome where
  entries : List TestEntry
  recordOk : Bool
  firmwareOk : Bool
  deriving DecidableEq, Repr

/-- What TRAINING found (13 R326, R328): the trained ports, or the failure of LASTCAUSE 9 or 10. -/
inductive TrainOutcome where
  | trained (ports : List (Fin 8))
  | noLink
  | noTrim
  deriving DecidableEq, Repr

/-- A configuration record of the flash (14 R353): type, sequence number, payload and signature as bytes. -/
structure FlashRecord where
  typ : Nat
  seq : Nat
  payload : List (BitVec 8)
  sig : List (BitVec 8)
  deriving DecidableEq, Repr

/-- Where a host access of deck memory falls: its PCIe port and its address (14 R360). -/
structure PortAddr where
  port : Fin 4
  addr : BitVec 48
  deriving DecidableEq, Repr

/-- A window of registers: its PCIe port, BAR2 or BAR0 (14 R340, R354; 15 R369). -/
structure PortBar where
  port : Fin 4
  bar2 : Bool
  deriving DecidableEq, Repr

/-- Every step of the part: slot words, then events of the machine. Each constructor's docstring names its row's rule. -/
inductive Instr where
  /-- NOP: R71. -/
  | nop
  /-- HALT: R114. -/
  | halt
  /-- TRAP: R115. -/
  | trap (imm : BitVec 16)
  /-- BR: R101. -/
  | br (t : BitVec 11)
  /-- BRP: R101. -/
  | brp (g : Guard) (t : BitVec 11)
  /-- BRZ: R101. -/
  | brz (nz : Bool) (k : Fin 32) (t : BitVec 11)
  /-- CALL: R102. -/
  | call (g : Guard) (t : BitVec 11)
  /-- RET: R102. -/
  | ret (g : Guard)
  /-- LOOP: R97. -/
  | loop (lv : Fin 4) (x : BitVec 12) (t : BitVec 11)
  /-- LOOPS: R97. -/
  | loops (lv : Fin 4) (k : Fin 32) (t : BitVec 11)
  /-- REPLAY: R98. -/
  | replay (lv : Fin 4) (st : Fin 8) (k : Fin 32) (t : BitVec 11)
  /-- WAITCUE: R103. -/
  | waitcue (a : Sel)
  /-- WAITREL: R104. -/
  | waitrel (imm : BitVec 16)
  /-- JOIN: R103. -/
  | join (a : Sel)
  /-- WAITE: R106. -/
  | waite (j : Fin 16) (imm : BitVec 16)
  /-- CLRE: R108. -/
  | clre (imm : BitVec 16)
  /-- WAITOWN: R107. -/
  | waitown (u : Fin 256) (imm : BitVec 16)
  /-- SKIPM: R110. -/
  | skipm (n : BitVec 11)
  /-- MARK_RB: R111. -/
  | markRb
  /-- MARK_OV: R112. -/
  | markOv (imm : BitVec 16)
  /-- JUMP_OV: R113. -/
  | jumpOv (t : BitVec 11)
  /-- SIGNAL: R109. -/
  | signal (j : Fin 16)
  /-- ADD: R119. -/
  | add (r : Dst) (a : Sel) (b : Sel)
  /-- SUB: R119. -/
  | sub (r : Dst) (a : Sel) (b : Sel)
  /-- AND: R119. -/
  | and (r : Dst) (a : Sel) (b : Sel)
  /-- OR: R119. -/
  | or (r : Dst) (a : Sel) (b : Sel)
  /-- XOR: R119. -/
  | xor (r : Dst) (a : Sel) (b : Sel)
  /-- SHL: R119. -/
  | shl (r : Dst) (a : Sel) (b : Sel)
  /-- SHR: R119. -/
  | shr (r : Dst) (a : Sel) (b : Sel)
  /-- SHA: R119. -/
  | sha (r : Dst) (a : Sel) (b : Sel)
  /-- MIN: R119. -/
  | min (r : Dst) (a : Sel) (b : Sel)
  /-- MAX: R119. -/
  | max (r : Dst) (a : Sel) (b : Sel)
  /-- MINN: R119. -/
  | minn (r : Dst) (a : Sel) (b : Sel)
  /-- MAXN: R119. -/
  | maxn (r : Dst) (a : Sel) (b : Sel)
  /-- CLZ: R119. -/
  | clz (r : Dst) (a : Sel)
  /-- POPC: R119. -/
  | popc (r : Dst) (a : Sel)
  /-- MUL: R120. -/
  | mul (r : Dst) (a : Sel) (b : Sel)
  /-- MULH: R120. -/
  | mulh (r : Dst) (a : Sel) (b : Sel)
  /-- MULHN: R120. -/
  | mulhn (r : Dst) (a : Sel) (b : Sel)
  /-- DIV: R120. -/
  | div (r : Dst) (a : Sel) (b : Sel)
  /-- DIVN: R120. -/
  | divn (r : Dst) (a : Sel) (b : Sel)
  /-- REM: R120. -/
  | rem (r : Dst) (a : Sel) (b : Sel)
  /-- REMN: R120. -/
  | remn (r : Dst) (a : Sel) (b : Sel)
  /-- CMP_EQ: R121. -/
  | cmpEq (n : Bool) (l : Fin 4) (p : Fin 8) (a : Sel) (b : Sel)
  /-- CMP_NE: R121. -/
  | cmpNe (n : Bool) (l : Fin 4) (p : Fin 8) (a : Sel) (b : Sel)
  /-- CMP_LT: R121. -/
  | cmpLt (n : Bool) (l : Fin 4) (p : Fin 8) (a : Sel) (b : Sel)
  /-- CMP_LTN: R121. -/
  | cmpLtn (n : Bool) (l : Fin 4) (p : Fin 8) (a : Sel) (b : Sel)
  /-- CMP_GE: R121. -/
  | cmpGe (n : Bool) (l : Fin 4) (p : Fin 8) (a : Sel) (b : Sel)
  /-- CMP_GEN: R121. -/
  | cmpGen (n : Bool) (l : Fin 4) (p : Fin 8) (a : Sel) (b : Sel)
  /-- SEL: R121. -/
  | sel (r : Dst) (a : Sel) (b : Sel) (inv : Bool) (q : Fin 8)
  /-- BFX: R122. -/
  | bfx (r : Dst) (a : Sel) (b : Sel)
  /-- BFI: R122. -/
  | bfi (r : Dst) (a : Sel) (b : Sel)
  /-- ADDI: R119. -/
  | addi (r : Dst) (i : BitVec 16)
  /-- ANDI: R119. -/
  | andi (r : Dst) (i : BitVec 16)
  /-- ORI: R119. -/
  | ori (r : Dst) (i : BitVec 16)
  /-- XORI: R119. -/
  | xori (r : Dst) (i : BitVec 16)
  /-- SHLI: R119. -/
  | shli (r : Dst) (i : BitVec 6)
  /-- SHRI: R119. -/
  | shri (r : Dst) (i : BitVec 6)
  /-- SHAI: R119. -/
  | shai (r : Dst) (i : BitVec 6)
  /-- LI: R119. -/
  | li (r : Dst) (i : BitVec 16)
  /-- LIH: R119. -/
  | lih (r : Dst) (i : BitVec 16)
  /-- LD_8: R123. -/
  | ld8 (r : Dst) (base : Fin 32) (off : BitVec 10)
  /-- LD_8_STREAM: R123. -/
  | ld8Stream (r : Dst) (st : Fin 8)
  /-- LD_16: R123. -/
  | ld16 (r : Dst) (base : Fin 32) (off : BitVec 10)
  /-- LD_16_STREAM: R123. -/
  | ld16Stream (r : Dst) (st : Fin 8)
  /-- LD_32: R123. -/
  | ld32 (r : Dst) (base : Fin 32) (off : BitVec 10)
  /-- LD_32_STREAM: R123. -/
  | ld32Stream (r : Dst) (st : Fin 8)
  /-- LD_64: R123. -/
  | ld64 (r : Dst) (base : Fin 32) (off : BitVec 10)
  /-- LD_64_STREAM: R123. -/
  | ld64Stream (r : Dst) (st : Fin 8)
  /-- ST_8: R123. -/
  | st8 (d : Sel) (base : Fin 32) (off : BitVec 10)
  /-- ST_8_STREAM: R123. -/
  | st8Stream (d : Sel) (st : Fin 8)
  /-- ST_16: R123. -/
  | st16 (d : Sel) (base : Fin 32) (off : BitVec 10)
  /-- ST_16_STREAM: R123. -/
  | st16Stream (d : Sel) (st : Fin 8)
  /-- ST_32: R123. -/
  | st32 (d : Sel) (base : Fin 32) (off : BitVec 10)
  /-- ST_32_STREAM: R123. -/
  | st32Stream (d : Sel) (st : Fin 8)
  /-- ST_64: R123. -/
  | st64 (d : Sel) (base : Fin 32) (off : BitVec 10)
  /-- ST_64_STREAM: R123. -/
  | st64Stream (d : Sel) (st : Fin 8)
  /-- SETK: R125. -/
  | setk (k : Fin 32) (a : Sel)
  /-- SETA: R125. -/
  | seta (st : Fin 8) (a : Sel)
  /-- SETD: R125. -/
  | setd (st : Fin 8) (j : Fin 4) (a : Sel)
  /-- SETLC: R100. -/
  | setlc (j : Fin 4) (a : Sel)
  /-- SETLB: R100. -/
  | setlb (j : Fin 4) (a : Sel) (b : Sel)
  /-- RDID: R126. -/
  | rdid (r : Dst) (i : BitVec 16)
  /-- RDCFG: R126. -/
  | rdcfg (r : Dst) (i : BitVec 16)
  /-- RDCUE: R126. -/
  | rdcue (r : Dst)
  /-- RDDECK: R126. -/
  | rddeck (r : Dst)
  /-- VADD: R130. -/
  | vadd (r : Dst) (a : Sel) (b : Sel)
  /-- VSUB: R130. -/
  | vsub (r : Dst) (a : Sel) (b : Sel)
  /-- VMUL: R130. -/
  | vmul (r : Dst) (a : Sel) (b : Sel)
  /-- VMULH: R130. -/
  | vmulh (r : Dst) (a : Sel) (b : Sel)
  /-- VMIN: R130. -/
  | vmin (r : Dst) (a : Sel) (b : Sel)
  /-- VMAX: R130. -/
  | vmax (r : Dst) (a : Sel) (b : Sel)
  /-- VMINN: R130. -/
  | vminn (r : Dst) (a : Sel) (b : Sel)
  /-- VMAXN: R130. -/
  | vmaxn (r : Dst) (a : Sel) (b : Sel)
  /-- VAND: R130. -/
  | vand (r : Dst) (a : Sel) (b : Sel)
  /-- VOR: R130. -/
  | vor (r : Dst) (a : Sel) (b : Sel)
  /-- VXOR: R130. -/
  | vxor (r : Dst) (a : Sel) (b : Sel)
  /-- VSHL: R130. -/
  | vshl (r : Dst) (a : Sel) (b : Sel)
  /-- VSHR: R130. -/
  | vshr (r : Dst) (a : Sel) (b : Sel)
  /-- VSHA: R130. -/
  | vsha (r : Dst) (a : Sel) (b : Sel)
  /-- VCMP_EQ: R131. -/
  | vcmpEq (a : Sel) (b : Sel)
  /-- VCMP_NE: R131. -/
  | vcmpNe (a : Sel) (b : Sel)
  /-- VCMP_LT: R131. -/
  | vcmpLt (a : Sel) (b : Sel)
  /-- VCMP_LTN: R131. -/
  | vcmpLtn (a : Sel) (b : Sel)
  /-- VCMP_GE: R131. -/
  | vcmpGe (a : Sel) (b : Sel)
  /-- VCMP_GEN: R131. -/
  | vcmpGen (a : Sel) (b : Sel)
  /-- VCMP_FEQ: R131. -/
  | vcmpFeq (a : Sel) (b : Sel)
  /-- VCMP_FNE: R131. -/
  | vcmpFne (a : Sel) (b : Sel)
  /-- VCMP_FLT: R131. -/
  | vcmpFlt (a : Sel) (b : Sel)
  /-- VCMP_FGE: R131. -/
  | vcmpFge (a : Sel) (b : Sel)
  /-- VPUSHM: R132. -/
  | vpushm (a : Sel)
  /-- VINVM: R132. -/
  | vinvm
  /-- VPOPM: R132. -/
  | vpopm
  /-- VSEL: R133. -/
  | vsel (r : Dst) (a : Sel) (b : Sel)
  /-- VFADD: R134. -/
  | vfadd (r : Dst) (a : Sel) (b : Sel) (rm : Rnd)
  /-- VFSUB: R134. -/
  | vfsub (r : Dst) (a : Sel) (b : Sel) (rm : Rnd)
  /-- VFMUL: R134. -/
  | vfmul (r : Dst) (a : Sel) (b : Sel) (rm : Rnd)
  /-- VFMA: R134. -/
  | vfma (r : Dst) (a : Sel) (b : Sel) (rm : Rnd)
  /-- VFMIN: R135. -/
  | vfmin (r : Dst) (a : Sel) (b : Sel)
  /-- VFMAX: R135. -/
  | vfmax (r : Dst) (a : Sel) (b : Sel)
  /-- VFABS: R135. -/
  | vfabs (r : Dst) (a : Sel)
  /-- VFNEG: R135. -/
  | vfneg (r : Dst) (a : Sel)
  /-- VCVT: R136. -/
  | vcvt (r : Dst) (a : Sel) (fr : CvtFmt) (tf : CvtFmt) (rm : Rnd)
  /-- VQBLK: R138. -/
  | vqblk (r : Dst) (a : Sel) (w : Width) (rm : Rnd)
  /-- VDQBLK: R138. -/
  | vdqblk (r : Dst) (a : Sel) (w : Width) (rm : Rnd)
  /-- VMXQ: R139. -/
  | vmxq (r : Dst) (a : Sel) (f : MxFmt) (rm : Rnd)
  /-- VMXDQ: R139. -/
  | vmxdq (r : Dst) (a : Sel) (f : MxFmt) (rm : Rnd)
  /-- VEXP2: R141. -/
  | vexp2 (r : Dst) (a : Sel)
  /-- VLOG2: R142. -/
  | vlog2 (r : Dst) (a : Sel)
  /-- VRCP: R143. -/
  | vrcp (r : Dst) (a : Sel)
  /-- VRSQ: R144. -/
  | vrsq (r : Dst) (a : Sel)
  /-- VTANH: R145. -/
  | vtanh (r : Dst) (a : Sel)
  /-- VREDADD: R146. -/
  | vredadd (r : Dst) (a : Sel) (ty : RedTy)
  /-- VREDMAX: R146. -/
  | vredmax (r : Dst) (a : Sel) (ty : RedTy)
  /-- VREDMIN: R146. -/
  | vredmin (r : Dst) (a : Sel) (ty : RedTy)
  /-- VSCAN: R147. -/
  | vscan (r : Dst) (a : Sel) (ty : RedTy)
  /-- VPERM: R148. -/
  | vperm (r : Dst) (a : Sel) (b : Sel)
  /-- VSHUF: R148. -/
  | vshuf (r : Dst) (a : Sel) (b : Sel)
  /-- VBCAST: R148. -/
  | vbcast (r : Dst) (a : Sel) (b : Sel)
  /-- VINS: R148. -/
  | vins (r : Dst) (a : Sel) (b : Sel)
  /-- VEXT: R148. -/
  | vext (r : Dst) (a : Sel) (b : Sel)
  /-- VLIDX: R148. -/
  | vlidx (r : Dst) (a : Sel) (b : Sel)
  /-- VLD: R149. -/
  | vld (r : Dst) (base : Fin 32) (off : BitVec 10)
  /-- VLD_STREAM: R149. -/
  | vldStream (r : Dst) (st : Fin 8)
  /-- VST: R149. -/
  | vst (d : Sel) (base : Fin 32) (off : BitVec 10)
  /-- VST_STREAM: R149. -/
  | vstStream (d : Sel) (st : Fin 8)
  /-- VLDX: R152. -/
  | vldx (r : Dst) (a : Sel) (b : Sel)
  /-- VSTX: R152. -/
  | vstx (d : Sel) (a : Sel) (b : Sel)
  /-- MLOADB_W: R159. -/
  | mloadbW (a : Sel)
  /-- MLOADB_S: R160. -/
  | mloadbS (row : Fin 32) (a : Sel)
  /-- MPUSH: R166. -/
  | mpush (set : Fin 2) (row : Fin 32) (a : Sel) (wa : Width) (wb : Width) (sp : Bool) (step : Fin 8)
  /-- MSHIFT: R161. -/
  | mshift (b : BitVec 6)
  /-- MACC: R168. -/
  | macc (set : Fin 2) (row : Fin 32)
  /-- MACC_DROP: R168. -/
  | maccDrop (set : Fin 2) (row : Fin 32)
  /-- MSCALE: R162. -/
  | mscale (a : Sel)
  /-- MZERO: R169. -/
  | mzero (set : Fin 2)
  /-- MDRAIN: R170. -/
  | mdrain (r : Dst) (set : Fin 2) (row : Fin 32) (f : DrainFmt)
  /-- MMODE: R163. -/
  | mmode (syn : Bool) (sp : Bool) (pw : Width)
  /-- MSPARSE: R164. -/
  | msparse (a : Sel)
  /-- MFLAGS: R171. -/
  | mflags (r : Dst) (set : Fin 2)
  /-- FLY_RD: R185. -/
  | flyRd (g : Guard) (kg : Fin 8)
  /-- FLY_WR: R185. -/
  | flyWr (g : Guard) (kg : Fin 8)
  /-- FLY_RD2: R185. -/
  | flyRd2 (g : Guard) (kg : Fin 8)
  /-- FLY_WR2: R185. -/
  | flyWr2 (g : Guard) (kg : Fin 8)
  /-- ACOPY_RD: R188. -/
  | acopyRd (g : Guard) (kg : Fin 8) (sc : Scope)
  /-- ACOPY_WR: R188. -/
  | acopyWr (g : Guard) (kg : Fin 8) (sc : Scope)
  /-- ACOPY_2D: R188. -/
  | acopy2d (g : Guard) (kg : Fin 8) (sc : Scope)
  /-- QMARK: R190. -/
  | qmark (g : Guard) (sc : Scope)
  /-- XCOPY: R193. -/
  | xcopy (g : Guard) (kg : Fin 8) (rm : Rnd)
  /-- XFILL: R194. -/
  | xfill (g : Guard) (kg : Fin 8)
  /-- GIVE: R180. -/
  | give (g : Guard) (kg : Fin 8) (o : Fin 16)
  /-- OWNQ: R181. -/
  | ownq (l : Fin 4) (g : Guard) (kg : Fin 8)
  /-- WHEEL_LD: R196. -/
  | wheelLd (l : Fin 4) (g : Guard) (kg : Fin 8)
  /-- WHEEL_ST: R196. -/
  | wheelSt (g : Guard) (kg : Fin 8)
  /-- WHEEL_ADD: R196. -/
  | wheelAdd (l : Fin 4) (g : Guard) (kg : Fin 8)
  /-- WHEEL_XCHG: R196. -/
  | wheelXchg (l : Fin 4) (g : Guard) (kg : Fin 8)
  /-- WHEEL_CAS: R196. -/
  | wheelCas (l : Fin 4) (g : Guard) (kg : Fin 8)
  /-- MBPUT: R197. -/
  | mbput (g : Guard) (kg : Fin 8)
  /-- MBGET: R197. -/
  | mbget (l : Fin 4) (g : Guard) (kg : Fin 8)
  /-- CHORUS_AR: R201. -/
  | chorusAr (g : Guard) (kg : Fin 8) (sc : Scope) (op : COp)
  /-- CHORUS_AG: R201. -/
  | chorusAg (g : Guard) (kg : Fin 8) (sc : Scope)
  /-- CHORUS_RS: R201. -/
  | chorusRs (g : Guard) (kg : Fin 8) (sc : Scope) (op : COp)
  /-- CHORUS_BC: R201. -/
  | chorusBc (g : Guard) (kg : Fin 8) (sc : Scope)
  /-- CHORUS_BAR: R202. -/
  | chorusBar (g : Guard) (kg : Fin 8) (sc : Scope)
  /-- CHORUS_READY: R200. -/
  | chorusReady (g : Guard) (kg : Fin 8) (sc : Scope)
  /-- CHORUS_COMBINE: R203. -/
  | chorusCombine (g : Guard) (kg : Fin 8) (sc : Scope) (op : COp)
  /-- CHORUS_JOIN: R205. -/
  | chorusJoin (g : Guard) (kg : Fin 8) (sc : Scope)
  /-- CHORUS_LEAVE: R205. -/
  | chorusLeave (g : Guard) (kg : Fin 8) (sc : Scope)
  /-- SITEQ: R182. -/
  | siteq (l : Fin 4) (g : Guard) (st : Fin 32)
  /-- HOP: R210. -/
  | hop (a : Sel) (side : Side) (w : Bool)
  /-- HOP_PASS: R211. -/
  | hopPass (side : Side) (w : Bool) (fr : Side)
  /-- RECV: R213. -/
  | recv (r : Dst) (side : Side) (w : Bool)
  /-- XSEND: R215. -/
  | xsend (a : Sel) (side : Side) (w : Bool) (ch : Fin 8)
  /-- XRECV: R216. -/
  | xrecv (r : Dst) (side : Side) (w : Bool) (ch : Fin 8)
  /-- BANDQ: R217. -/
  | bandq (r : Dst) (a : Sel)
  /-- CUETRIM: R218. -/
  | cuetrim
  /-- CAST_KEY: R225. -/
  | castKey (a : Sel) (b : Sel)
  /-- CAST_RAND: R226. -/
  | castRand (r : Dst) (a : Sel)
  /-- CAST_UNIF: R226. -/
  | castUnif (r : Dst) (a : Sel)
  /-- CAST_SCORE: R227. -/
  | castScore (r : Dst) (a : Sel)
  /-- CAST_TOPK_K: R228. -/
  | castTopkK (a : Sel) (b : Sel)
  /-- CAST_TOPK_P: R228. -/
  | castTopkP (a : Sel) (b : Sel)
  /-- CAST_MASS: R229. -/
  | castMass (r : Dst)
  /-- CAST_PICK: R230. -/
  | castPick (r : Dst) (a : Sel)
  /-- CAST_CLR: R231. -/
  | castClr
  /-- SEQUENCER_ISSUE: R96. -/
  | sequencerIssue (k : TileKey)
  /-- RESULT_LANDING: R13. -/
  | resultLanding (k : TileKey)
  /-- WAITCUE_TARGET_REACHED: R103. -/
  | waitcueTargetReached (k : TileKey)
  /-- WAITREL_EXPIRY: R104. -/
  | waitrelExpiry (k : TileKey)
  /-- WAITE_WAKE: R106. -/
  | waiteWake (k : TileKey)
  /-- WAITE_DEADLINE: R106. -/
  | waiteDeadline (k : TileKey)
  /-- WAITOWN_WAKE: R107. -/
  | waitownWake (k : TileKey)
  /-- WAITOWN_DEADLINE: R107. -/
  | waitownDeadline (k : TileKey)
  /-- LOCAL_LIMIT_DEADLINE: R241. -/
  | localLimitDeadline (k : TileKey)
  /-- MISSING_MARK_RB: R247. -/
  | missingMarkRb (k : TileKey)
  /-- SIGNAL_ARRIVAL: R109. -/
  | signalArrival (k : TileKey)
  /-- HOP_BEAT_LANDING: R210. -/
  | hopBeatLanding (k : TileKey)
  /-- CROSSING_BEAT_ARRIVAL: R215. -/
  | crossingBeatArrival (k : TileKey)
  /-- CROSSING_WORD_LOST: R311. -/
  | crossingWordLost (k : TileKey) (side : Side) (ch : Fin 8)
  /-- GATED_WRITE_RELEASE: R248. -/
  | gatedWriteRelease (co : Nat)
  /-- FLY_MEMORY_POINT: R185. -/
  | flyMemoryPoint (k : TileKey)
  /-- FLY_COMPLETION: R185. -/
  | flyCompletion (k : TileKey)
  /-- WHEEL_MEMORY_POINT: R196. -/
  | wheelMemoryPoint (k : TileKey)
  /-- WHEEL_RESULT: R196. -/
  | wheelResult (k : TileKey)
  /-- ACOPY_LOAD_COMPLETION: R188. -/
  | acopyLoadCompletion (k : TileKey)
  /-- ACOPY_STORE_COMPLETION: R188. -/
  | acopyStoreCompletion (k : TileKey)
  /-- ACOPY_PAGE_FAULT: R191. -/
  | acopyPageFault (k : TileKey) (store : Bool)
  /-- QMARK_COMPLETION: R190. -/
  | qmarkCompletion (k : TileKey)
  /-- TILE_COPY_START: R194. -/
  | tileCopyStart (k : TileKey)
  /-- TILE_COPY_COMPLETION: R194. -/
  | tileCopyCompletion (k : TileKey)
  /-- MAILBOX_PUT_PERFORMED: R197. -/
  | mailboxPutPerformed (k : TileKey)
  /-- MAILBOX_GET_PERFORMED: R197. -/
  | mailboxGetPerformed (k : TileKey)
  /-- CHORUS_MEMBER_COMPLETION: R200. -/
  | chorusMemberCompletion (k : TileKey) (b : Fin 64)
  /-- CHORUS_STALE_COMPLETION: R200. -/
  | chorusStaleCompletion (k : TileKey)
  /-- CHORUS_TIMEOUT: R204. -/
  | chorusTimeout (k : TileKey) (b : Fin 64)
  /-- BAR_COMPLETION: R202. -/
  | barCompletion (k : TileKey) (b : Fin 64)
  /-- COMBINE_COMPLETION: R203. -/
  | combineCompletion (k : TileKey)
  /-- RING_BOUNDARY: R198. -/
  | ringBoundary (co : Nat)
  /-- OVERLAY_FETCH_COMPLETION: R245. -/
  | overlayFetchCompletion (k : TileKey)
  /-- HOLD_ANNOUNCEMENT: R242. -/
  | holdAnnouncement (co : Nat) (h : Nat)
  /-- HOLD_BEGIN: R243. -/
  | holdBegin (co : Nat)
  /-- HOLD_END: R243. -/
  | holdEnd (co : Nat)
  /-- COMPANY_START: R235. -/
  | companyStart (co : Nat)
  /-- LAUNCH_END: R260. -/
  | launchEnd (co : Nat)
  /-- LAUNCH_FAULT_END: R298. -/
  | launchFaultEnd (co : Nat)
  /-- UNCORRECTABLE_ERROR: R299. -/
  | uncorrectableError (w : ErrPlace)
  /-- ROLLBACK_RESTART: R250. -/
  | rollbackRestart (co : Nat)
  /-- CORRECTED_ERROR: R299. -/
  | correctedError (w : ErrPlace)
  /-- SCRUB: R300. -/
  | scrub (site : SiteId)
  /-- FREEZE_ANNOUNCEMENT: R251. -/
  | freezeAnnouncement (co : Nat) (cue : Nat)
  /-- FREEZE: R252. -/
  | freeze (co : Nat)
  /-- FREEZE_SAVE_COMPLETE: R252. -/
  | freezeSaveComplete (co : Nat)
  /-- INSTRUCTION_MEMORY_REWRITE: R255. -/
  | instructionMemoryRewrite (co : Nat)
  /-- RESUME: R253. -/
  | resume (co : Nat)
  /-- PLACEMENT_PASS: R256. -/
  | placementPass
  /-- PFACK: R340. -/
  | pfack (i : BitVec 32)
  /-- PAGE_FAULT_UNRESOLVABLE: R303. -/
  | pageFaultUnresolvable (i : BitVec 32)
  /-- PAGE_MIGRATION: R276. -/
  | pageMigration (co : Nat) (seg : Fin 64) (va : BitVec 48) (frame : BitVec 48)
  /-- HOST_CXL_READ: R280. -/
  | hostCxlRead (at_ : PortAddr) (n : Nat)
  /-- HOST_CXL_WRITE: R269. -/
  | hostCxlWrite (at_ : PortAddr) (bytes : List (BitVec 8))
  /-- HDM_DECODER_COMMIT: R360. -/
  | hdmDecoderCommit (port : Fin 4) (dec : Fin 4) (base : BitVec 48) (size : BitVec 48)
  /-- PERIODIC_TRIM: R315. -/
  | periodicTrim (site : SiteId) (q : Fin 4)
  /-- TRIM_EXCHANGE: R314. -/
  | trimExchange (site : SiteId) (q : Fin 4) (t1 : BitVec 64) (t2 : BitVec 64) (t4 : BitVec 64)
  /-- OFS_MEASUREMENT: R311. -/
  | ofsMeasurement (k : TileKey) (side : Side) (t1 : BitVec 64) (t2 : BitVec 64) (t4 : BitVec 64)
  /-- CIRCUIT_TEARDOWN: R319. -/
  | circuitTeardown (i : Nat)
  /-- CIRCUIT_SETUP: R319. -/
  | circuitSetup (i : Nat) (route : List DeckLink)
  /-- LINK_CRC_FAILURE: R299. -/
  | linkCrcFailure (link : DeckLink) (second : Bool)
  /-- ISLAND_REGULATOR_FAILURE: R317. -/
  | islandRegulatorFailure (site : SiteId) (q : Fin 4) (i : Fin 32)
  /-- REGION_RAIL_FAILURE: R318. -/
  | regionRailFailure (site : SiteId) (q : Fin 4)
  /-- BUS_LOW: R321. -/
  | busLow
  /-- BUS_COLLAPSE: R321. -/
  | busCollapse
  /-- POWER_STAGE_TRIP: R323. -/
  | powerStageTrip (site : SiteId)
  /-- PRESENCE_CLAMP_CLOSED: R326. -/
  | presenceClampClosed (site : SiteId)
  /-- PRESENCE_OPEN: R326. -/
  | presenceOpen (site : SiteId)
  /-- CLAMP_OPEN: R326. -/
  | clampOpen (site : SiteId)
  /-- POWER_GOOD: R326. -/
  | powerGood (site : SiteId)
  /-- PHASE_TIME_LIMIT: R326. -/
  | phaseTimeLimit (site : SiteId)
  /-- SELF_TEST: R367. -/
  | selfTest (site : SiteId) (o : TestOutcome)
  /-- ADMISSION: R328. -/
  | admission (site : SiteId) (o : TrainOutcome)
  /-- SITE_TRANSITION_EFFECT: R327. -/
  | siteTransitionEffect
  /-- KEEP_ALIVE_SEND: R327. -/
  | keepAliveSend (site : SiteId)
  /-- KEEP_ALIVE_SILENCE: R327. -/
  | keepAliveSilence (site : SiteId)
  /-- CMD_POWER: R326. -/
  | cmdPower (site : SiteId)
  /-- CMD_DRAIN: R326. -/
  | cmdDrain (site : SiteId)
  /-- CMD_UNDRAIN: R326. -/
  | cmdUndrain (site : SiteId)
  /-- CMD_RESET: R326. -/
  | cmdReset (site : SiteId)
  /-- SITE_REQUEST_BUTTON: R325. -/
  | siteRequestButton (site : SiteId)
  /-- FRESHRD_CLEAR: R332. -/
  | freshrdClear (site : SiteId)
  /-- REJOIN_GANG_START: R334. -/
  | rejoinGangStart (co : Nat) (g : Fin 8)
  /-- DOORBELL: R341. -/
  | doorbell (q : Fin 64) (v : BitVec 32)
  /-- QCMD_RESUME: R341. -/
  | qcmdResume (q : Fin 64)
  /-- QCMD_SKIP: R341. -/
  | qcmdSkip (q : Fin 64)
  /-- QCMD_RESET: R341. -/
  | qcmdReset (q : Fin 64)
  /-- QUEUE_VISIT: R342. -/
  | queueVisit
  /-- PACKET_UNBLOCK: R342. -/
  | packetUnblock (q : Fin 64)
  /-- PACKET_NOP: R344. -/
  | packetNop (q : Fin 64)
  /-- LAUNCH: R346. -/
  | launch (q : Fin 64)
  /-- COPY: R347. -/
  | copy (q : Fin 64)
  /-- COPY_COMPLETION: R347. -/
  | copyCompletion (id : Nat)
  /-- WEIGHTLOAD: R348. -/
  | weightload (q : Fin 64)
  /-- WEIGHTLOAD_APPLY: R348. -/
  | weightloadApply (co : Nat)
  /-- PUTMB: R344. -/
  | putmb (q : Fin 64)
  /-- WAITMB: R344. -/
  | waitmb (q : Fin 64)
  /-- UNLOAD_CODE: R350. -/
  | unloadCode (q : Fin 64)
  /-- UNLOAD_DATA: R350. -/
  | unloadData (q : Fin 64)
  /-- UNLOAD_LAUNCH: R350. -/
  | unloadLaunch (q : Fin 64)
  /-- UNLOAD_COMPLETION: R350. -/
  | unloadCompletion (id : Nat)
  /-- INDIRECT: R349. -/
  | indirect (q : Fin 64)
  /-- FENCE: R344. -/
  | fence (q : Fin 64)
  /-- REJOIN: R351. -/
  | rejoin (q : Fin 64)
  /-- REJOIN_WITHDRAW: R351. -/
  | rejoinWithdraw (q : Fin 64)
  /-- MAILBOX_FULL_CLEAR: R340. -/
  | mailboxFullClear (i : Fin 64) (mask : BitVec 64)
  /-- LOGDROP_CLEAR: R340. -/
  | logdropClear (v : BitVec 64)
  /-- DECK_COLD_START: R354. -/
  | deckColdStart (strap : Bool)
  /-- RECOVERY_IMAGE_WRITE: R354. -/
  | recoveryImageWrite (len : BitVec 64)
  /-- FIRMWARE_UPDATE: R358. -/
  | firmwareUpdate (len : BitVec 64)
  /-- FIRMWARE_RESTART: R358. -/
  | firmwareRestart
  /-- OWNER_KEY_ENROLMENT: R356. -/
  | ownerKeyEnrolment (rec : FlashRecord)
  /-- ATTESTATION_REPORT: R357. -/
  | attestationReport (nonce : BitVec 512)
  /-- COMMAND_LINK_MESSAGE: R355. -/
  | commandLinkMessage (site : SiteId) (up : Bool)
  /-- COMMAND_LINK_PERMIT_TIMEOUT: R355. -/
  | commandLinkPermitTimeout (site : SiteId) (up : Bool)
  /-- NETWORK_WRITE_RECEIVED: R361. -/
  | networkWriteReceived (peer : Fin 16) (addr : BitVec 48) (bytes : List (BitVec 8)) (imm : Option (BitVec 32))
  /-- CONGESTION_NOTIFICATION: R361. -/
  | congestionNotification (peer : Fin 16)
  /-- RETRANSMISSION_LIMIT: R361. -/
  | retransmissionLimit (id : Nat)
  /-- SENSOR_READ: R366. -/
  | sensorRead (site : SiteId) (q : Fin 4) (i : Fin 32) (temp : BitVec 8)
  /-- REEF_TARGET_RAISE: R363. -/
  | reefTargetRaise (site : SiteId)
  /-- REEF_TARGET_LOWER: R363. -/
  | reefTargetLower (site : SiteId)
  /-- THERMAL_TRIP: R363. -/
  | thermalTrip (site : SiteId)
  /-- REEF_LEVEL_CHANGE: R364. -/
  | reefLevelChange (co : Nat)
  /-- REEFMIN_WRITE: R370. -/
  | reefminWrite (site : SiteId) (v : BitVec 2)
  /-- ISLAND_WAKE: R365. -/
  | islandWake (site : SiteId) (q : Fin 4) (i : Fin 32)
  /-- REGISTER_WRITE: R369. -/
  | registerWrite (bar : PortBar) (off : BitVec 25) (v : BitVec 64)
  /-- FATAL_MODULE_ERROR: R326. -/
  | fatalModuleError (site : SiteId)
  /-- PRESENCE_OPEN_FOR_2_22_CYCLES: R326. -/
  | presenceOpenFor222Cycles (site : SiteId)
  /-- OVERLAY_FETCH_TRANSLATION_FAULT: R246. -/
  | overlayFetchTranslationFault (k : TileKey)
  /-- LINK_RETURN_TO_SERVICE: R319. -/
  | linkReturnToService (link : DeckLink)
  deriving DecidableEq, Repr

end Sys2Proof
end

