-- ==== Sys2Proof/WellFormed.lean ====
section
/-! DEFINITION. The encodings the syntax can still write down that are illegal words (03 R75, R77; 04 R95; 05 R129; 06 R158; 07 R175,
R176, R180, R182). The checks that need the segment a word stands in (R79, R95 on overlaid binaries) are Machine/Sequencer's. -/
namespace Sys2Proof

/-- G = 0 with GI = 1 could never take effect and is illegal (R75). -/
def Guard.wf (g : Guard) : Bool := !(g.p == 0 && g.inv)

/-- The indices of RDCFG (01 R41). -/
def rdcfgListed (i : Nat) : Bool :=
  i ≤ 0x16 || (0x18 ≤ i && i ≤ 0x26) || (0x28 ≤ i && i ≤ 0x2b) || (0x30 ≤ i && i ≤ 0x37) || (0x40 ≤ i && i ≤ 0x60)

/-- A register that heads a group: v0, v4, …, v28 (05 R137). -/
def groupHead (r : Fin 32) : Bool := r.val % 4 == 0

/-- Whether a selector names a group of four registers (05 R129, R137). -/
def Sel.isGroup : Sel → Bool
  | .reg r => groupHead r
  | _ => false

/-- Whether a word is legal as far as the word alone decides; an event has no word and is well formed. -/
def Instr.wf : Instr → Bool
  | .brp g _ => g.wf
  | .call g _ => g.wf
  | .ret g => g.wf
  | .loop _ x _ => x != 0
  | .waitrel imm => imm != 0
  | .skipm n => n != 0
  | .signal j => 10 ≤ j.val
  | .rdid _ i => i.toNat ≤ 6
  | .rdcfg _ i => rdcfgListed i.toNat
  | .vcvt _ _ fr tf _ => fr != tf
  | .vqblk r a _ _ => groupHead r.d && a.isGroup
  | .vdqblk r a _ _ => groupHead r.d && a.isGroup
  | .mpush _ _ _ wa wb _ step => !(wa == .w16 && wb == .w16) && step.val ≤ 6 && (step == 0 || wa == .w8 && wb == .w8)
  | .mshift b => 1 ≤ b.toNat && b.toNat ≤ 31
  | .mmode syn _ pw => !syn || pw == .w8 || pw == .w16
  | .flyRd g _ => g.wf
  | .flyWr g _ => g.wf
  | .flyRd2 g _ => g.wf
  | .flyWr2 g _ => g.wf
  | .acopyRd g _ _ => g.wf
  | .acopyWr g _ _ => g.wf
  | .acopy2d g kg _ => g.wf && kg.val ≤ 6
  | .qmark g _ => g.wf
  | .xcopy g _ _ => g.wf
  | .xfill g _ => g.wf
  | .give g _ o => g.wf && 1 ≤ o.val && o.val ≤ 4
  | .ownq _ g _ => g.wf
  | .wheelLd _ g _ => g.wf
  | .wheelSt g _ => g.wf
  | .wheelAdd _ g _ => g.wf
  | .wheelXchg _ g _ => g.wf
  | .wheelCas _ g _ => g.wf
  | .mbput g _ => g.wf
  | .mbget _ g _ => g.wf
  | .chorusAr g _ _ _ => g.wf
  | .chorusAg g _ _ => g.wf
  | .chorusRs g _ _ _ => g.wf
  | .chorusBc g _ _ => g.wf
  | .chorusBar g _ _ => g.wf
  | .chorusReady g _ _ => g.wf
  | .chorusCombine g _ _ _ => g.wf
  | .chorusJoin g _ _ => g.wf
  | .chorusLeave g _ _ => g.wf
  | .siteq _ g st => g.wf && st.val ≤ 16
  | .nop | .halt | .trap .. | .br .. | .brz .. | .loops ..
  | .replay .. | .waitcue .. | .join .. | .waite .. | .clre .. | .waitown ..
  | .markRb | .markOv .. | .jumpOv .. | .add .. | .sub .. | .and ..
  | .or .. | .xor .. | .shl .. | .shr .. | .sha .. | .min ..
  | .max .. | .minn .. | .maxn .. | .clz .. | .popc .. | .mul ..
  | .mulh .. | .mulhn .. | .div .. | .divn .. | .rem .. | .remn ..
  | .cmpEq .. | .cmpNe .. | .cmpLt .. | .cmpLtn .. | .cmpGe .. | .cmpGen ..
  | .sel .. | .bfx .. | .bfi .. | .addi .. | .andi .. | .ori ..
  | .xori .. | .shli .. | .shri .. | .shai .. | .li .. | .lih ..
  | .ld8 .. | .ld8Stream .. | .ld16 .. | .ld16Stream .. | .ld32 .. | .ld32Stream ..
  | .ld64 .. | .ld64Stream .. | .st8 .. | .st8Stream .. | .st16 .. | .st16Stream ..
  | .st32 .. | .st32Stream .. | .st64 .. | .st64Stream .. | .setk .. | .seta ..
  | .setd .. | .setlc .. | .setlb .. | .rdcue .. | .rddeck .. | .vadd ..
  | .vsub .. | .vmul .. | .vmulh .. | .vmin .. | .vmax .. | .vminn ..
  | .vmaxn .. | .vand .. | .vor .. | .vxor .. | .vshl .. | .vshr ..
  | .vsha .. | .vcmpEq .. | .vcmpNe .. | .vcmpLt .. | .vcmpLtn .. | .vcmpGe ..
  | .vcmpGen .. | .vcmpFeq .. | .vcmpFne .. | .vcmpFlt .. | .vcmpFge .. | .vpushm ..
  | .vinvm | .vpopm | .vsel .. | .vfadd .. | .vfsub .. | .vfmul ..
  | .vfma .. | .vfmin .. | .vfmax .. | .vfabs .. | .vfneg .. | .vmxq ..
  | .vmxdq .. | .vexp2 .. | .vlog2 .. | .vrcp .. | .vrsq .. | .vtanh ..
  | .vredadd .. | .vredmax .. | .vredmin .. | .vscan .. | .vperm .. | .vshuf ..
  | .vbcast .. | .vins .. | .vext .. | .vlidx .. | .vld .. | .vldStream ..
  | .vst .. | .vstStream .. | .vldx .. | .vstx .. | .mloadbW .. | .mloadbS ..
  | .macc .. | .maccDrop .. | .mscale .. | .mzero .. | .mdrain .. | .msparse ..
  | .mflags .. | .hop .. | .hopPass .. | .recv .. | .xsend .. | .xrecv ..
  | .bandq .. | .cuetrim | .castKey .. | .castRand .. | .castUnif .. | .castScore ..
  | .castTopkK .. | .castTopkP .. | .castMass .. | .castPick .. | .castClr | .sequencerIssue ..
  | .resultLanding .. | .waitcueTargetReached .. | .waitrelExpiry .. | .waiteWake .. | .waiteDeadline .. | .waitownWake ..
  | .waitownDeadline .. | .localLimitDeadline .. | .missingMarkRb .. | .signalArrival .. | .hopBeatLanding .. | .crossingBeatArrival ..
  | .crossingWordLost .. | .gatedWriteRelease .. | .flyMemoryPoint .. | .flyCompletion .. | .wheelMemoryPoint .. | .wheelResult ..
  | .acopyLoadCompletion .. | .acopyStoreCompletion .. | .acopyPageFault .. | .qmarkCompletion .. | .tileCopyStart .. | .tileCopyCompletion ..
  | .mailboxPutPerformed .. | .mailboxGetPerformed .. | .chorusMemberCompletion .. | .chorusStaleCompletion .. | .chorusTimeout .. | .barCompletion ..
  | .combineCompletion .. | .ringBoundary .. | .overlayFetchCompletion .. | .holdAnnouncement .. | .holdBegin .. | .holdEnd ..
  | .companyStart .. | .launchEnd .. | .launchFaultEnd .. | .uncorrectableError .. | .rollbackRestart .. | .correctedError ..
  | .scrub .. | .freezeAnnouncement .. | .freeze .. | .freezeSaveComplete .. | .instructionMemoryRewrite .. | .resume ..
  | .placementPass | .pfack .. | .pageFaultUnresolvable .. | .pageMigration .. | .hostCxlRead .. | .hostCxlWrite ..
  | .hdmDecoderCommit .. | .periodicTrim .. | .trimExchange .. | .ofsMeasurement .. | .circuitTeardown .. | .circuitSetup ..
  | .linkCrcFailure .. | .islandRegulatorFailure .. | .regionRailFailure .. | .busLow | .busCollapse | .powerStageTrip ..
  | .presenceClampClosed .. | .presenceOpen .. | .clampOpen .. | .powerGood .. | .phaseTimeLimit .. | .selfTest ..
  | .admission .. | .siteTransitionEffect | .keepAliveSend .. | .keepAliveSilence .. | .cmdPower .. | .cmdDrain ..
  | .cmdUndrain .. | .cmdReset .. | .siteRequestButton .. | .freshrdClear .. | .rejoinGangStart .. | .doorbell ..
  | .qcmdResume .. | .qcmdSkip .. | .qcmdReset .. | .queueVisit | .packetUnblock .. | .packetNop ..
  | .launch .. | .copy .. | .copyCompletion .. | .weightload .. | .weightloadApply .. | .putmb ..
  | .waitmb .. | .unloadCode .. | .unloadData .. | .unloadLaunch .. | .unloadCompletion .. | .indirect ..
  | .fence .. | .rejoin .. | .rejoinWithdraw .. | .mailboxFullClear .. | .logdropClear .. | .deckColdStart ..
  | .recoveryImageWrite .. | .firmwareUpdate .. | .firmwareRestart | .ownerKeyEnrolment .. | .attestationReport .. | .commandLinkMessage ..
  | .commandLinkPermitTimeout .. | .networkWriteReceived .. | .congestionNotification .. | .retransmissionLimit .. | .sensorRead .. | .reefTargetRaise ..
  | .reefTargetLower .. | .thermalTrip .. | .reefLevelChange .. | .reefminWrite .. | .islandWake .. | .registerWrite ..
  | .fatalModuleError .. | .presenceOpenFor222Cycles .. | .overlayFetchTranslationFault .. | .linkReturnToService .. => true

end Sys2Proof
end

