-- ==== Sys2Proof/Decode.lean ====
section
/-! DEFINITION. Slot words from bits and back: the formats of 03 R72, the opcode maps of R82 to R87, the illegal encodings of R77,
R129, R158, R175, R208. `decode` is total on every 32-bit number; `encode` is written from the same tables. -/
namespace Sys2Proof

/-- Bits `hi` to `lo` of a word (00 R9). -/
def fld (w hi lo : Nat) : Nat := w / 2 ^ lo % 2 ^ (hi + 1 - lo)

/-- The selector of a 6-bit code; 0x30 to 0x3f are illegal (R74, R77). -/
def selOf (c : Nat) : Option Sel :=
  if c < 0x20 then some (.reg (Fin.ofNat 32 c))
  else if c < 0x24 then some (.own (Fin.ofNat 4 (c - 0x20)))
  else if c < 0x28 then some (.partner (Fin.ofNat 4 (c - 0x24)))
  else if c = 0x28 then some .zero
  else if c = 0x29 then some .lane
  else if c = 0x2a then some .tileid
  else if c = 0x2b then some .cuelo
  else if c < 0x30 then some (.cross (Fin.ofNat 4 (c - 0x2c)))
  else none

/-- The 6-bit code of a selector (R74). -/
def selCode : Sel → Nat
  | .reg r => r.val
  | .own b => 0x20 + b.val
  | .partner b => 0x24 + b.val
  | .zero => 0x28
  | .lane => 0x29
  | .tileid => 0x2a
  | .cuelo => 0x2b
  | .cross i => 0x2c + i.val

/-- N, L and D of a word with a register result; D outside 0x00 to 0x1f is illegal (R73, R77). -/
def dstOf (w : Nat) : Option Dst :=
  if fld w 21 16 < 32 then
    some ⟨fld w 24 24 == 1, Fin.ofNat 4 (fld w 23 22), Fin.ofNat 32 (fld w 21 16)⟩
  else none

/-- N, L and D as bits (R72, R73). -/
def dstCode (r : Dst) : Nat := r.n.toNat * 2 ^ 24 + r.l.val * 2 ^ 22 + r.d.val * 2 ^ 16

/-- CvtFmt by its code (R84: code 7 is illegal). -/
def cvtFmtOf : Nat → Option CvtFmt
  | 0 => some .fp32
  | 1 => some .bf16
  | 2 => some .fp16
  | 3 => some .e4m3
  | 4 => some .e5m2
  | 5 => some .i32
  | 6 => some .n32
  | _ => none

/-- The code of a CvtFmt (R84: code 7 is illegal). -/
def cvtFmtCode : CvtFmt → Nat
  | .fp32 => 0
  | .bf16 => 1
  | .fp16 => 2
  | .e4m3 => 3
  | .e5m2 => 4
  | .i32 => 5
  | .n32 => 6

/-- Width by its code (R84). -/
def widthOf : Nat → Option Width
  | 0 => some .w4
  | 1 => some .w6
  | 2 => some .w8
  | 3 => some .w16
  | _ => none

/-- The code of a Width (R84). -/
def widthCode : Width → Nat
  | .w4 => 0
  | .w6 => 1
  | .w8 => 2
  | .w16 => 3

/-- MxFmt by its code (R84, R129: 6 and 7 are illegal). -/
def mxFmtOf : Nat → Option MxFmt
  | 0 => some .int8
  | 1 => some .e4m3
  | 2 => some .e5m2
  | 3 => some .e2m3
  | 4 => some .e3m2
  | 5 => some .e2m1
  | _ => none

/-- The code of a MxFmt (R84, R129: 6 and 7 are illegal). -/
def mxFmtCode : MxFmt → Nat
  | .int8 => 0
  | .e4m3 => 1
  | .e5m2 => 2
  | .e2m3 => 3
  | .e3m2 => 4
  | .e2m1 => 5

/-- RedTy by its code (R84, R129: 3 is illegal). -/
def redTyOf : Nat → Option RedTy
  | 0 => some .i32
  | 1 => some .n32
  | 2 => some .fp32
  | _ => none

/-- The code of a RedTy (R84, R129: 3 is illegal). -/
def redTyCode : RedTy → Nat
  | .i32 => 0
  | .n32 => 1
  | .fp32 => 2

/-- DrainFmt by its code (R85, R158). -/
def drainFmtOf : Nat → Option DrainFmt
  | 0 => some .fp32
  | 1 => some .bf16
  | 2 => some .fp16
  | _ => none

/-- The code of a DrainFmt (R85, R158). -/
def drainFmtCode : DrainFmt → Nat
  | .fp32 => 0
  | .bf16 => 1
  | .fp16 => 2

/-- Scope by its code (R86: 6 and 7 are illegal). -/
def scopeOf : Nat → Option Scope
  | 0 => some .tile
  | 1 => some .gang
  | 2 => some .module
  | 3 => some .company
  | 4 => some .deck
  | 5 => some .system
  | _ => none

/-- The code of a Scope (R86: 6 and 7 are illegal). -/
def scopeCode : Scope → Nat
  | .tile => 0
  | .gang => 1
  | .module => 2
  | .company => 3
  | .deck => 4
  | .system => 5

/-- COp by its code (R86). -/
def cOpOf : Nat → Option COp
  | 0 => some .i32
  | 1 => some .fp32
  | 2 => some .max
  | 3 => some .bf16
  | _ => none

/-- The code of a COp (R86). -/
def cOpCode : COp → Nat
  | .i32 => 0
  | .fp32 => 1
  | .max => 2
  | .bf16 => 3

/-- Side by its code (R87: 4 to 7 are illegal). -/
def sideOf : Nat → Option Side
  | 0 => some .n
  | 1 => some .e
  | 2 => some .s
  | 3 => some .w
  | _ => none

/-- The code of a Side (R87: 4 to 7 are illegal). -/
def sideCode : Side → Nat
  | .n => 0
  | .e => 1
  | .s => 2
  | .w => 3

/-- Rnd by its code (R49: 5 to 7 name no mode). -/
def rndOf : Nat → Option Rnd
  | 0 => some .rne
  | 1 => some .rz
  | 2 => some .ru
  | 3 => some .rd
  | 4 => some .sr
  | _ => none

/-- The code of a Rnd (R49: 5 to 7 name no mode). -/
def rndCode : Rnd → Nat
  | .rne => 0
  | .rz => 1
  | .ru => 2
  | .rd => 3
  | .sr => 4

/-- The c map (R82); an opcode or sub-code it does not list is illegal (R77). -/
def decodeC (wd : Nat) : Option Instr :=
  match fld wd 31 25 with
  | 0x01 =>
    if fld wd 24 0 = 0 then
      some .halt
    else none
  | 0x02 =>
    if fld wd 24 16 = 0 then
      some (.trap (BitVec.ofNat 16 (fld wd 15 0)))
    else none
  | 0x04 =>
    if fld wd 24 11 = 0 then
      some (.br (BitVec.ofNat 11 (fld wd 10 0)))
    else none
  | 0x05 =>
    if fld wd 20 11 = 0 then
      some (.brp ⟨Fin.ofNat 8 (fld wd 24 22), fld wd 21 21 == 1⟩ (BitVec.ofNat 11 (fld wd 10 0)))
    else none
  | 0x06 =>
    if fld wd 24 22 = 0 ∧ fld wd 15 11 = 0 then
      some (.brz (fld wd 21 21 == 1) (Fin.ofNat 32 (fld wd 20 16)) (BitVec.ofNat 11 (fld wd 10 0)))
    else none
  | 0x07 =>
    if fld wd 20 11 = 0 then
      some (.call ⟨Fin.ofNat 8 (fld wd 24 22), fld wd 21 21 == 1⟩ (BitVec.ofNat 11 (fld wd 10 0)))
    else none
  | 0x08 =>
    if fld wd 20 0 = 0 then
      some (.ret ⟨Fin.ofNat 8 (fld wd 24 22), fld wd 21 21 == 1⟩)
    else none
  | 0x0c =>
    some (.loop (Fin.ofNat 4 (fld wd 24 23)) (BitVec.ofNat 12 (fld wd 22 11)) (BitVec.ofNat 11 (fld wd 10 0)))
  | 0x0d =>
    if fld wd 22 16 = 0 then
      some (.loops (Fin.ofNat 4 (fld wd 24 23)) (Fin.ofNat 32 (fld wd 15 11)) (BitVec.ofNat 11 (fld wd 10 0)))
    else none
  | 0x0e =>
    if fld wd 19 16 = 0 then
      some (.replay (Fin.ofNat 4 (fld wd 24 23)) (Fin.ofNat 8 (fld wd 22 20)) (Fin.ofNat 32 (fld wd 15 11)) (BitVec.ofNat 11 (fld wd 10 0)))
    else none
  | 0x10 =>
    if fld wd 24 22 = 0 ∧ fld wd 15 0 = 0 then
      (selOf (fld wd 21 16)).bind fun a => some (.waitcue a)
    else none
  | 0x11 =>
    if fld wd 24 16 = 0 then
      some (.waitrel (BitVec.ofNat 16 (fld wd 15 0)))
    else none
  | 0x12 =>
    if fld wd 24 22 = 0 ∧ fld wd 15 0 = 0 then
      (selOf (fld wd 21 16)).bind fun a => some (.join a)
    else none
  | 0x14 =>
    if fld wd 20 16 = 0 then
      some (.waite (Fin.ofNat 16 (fld wd 24 21)) (BitVec.ofNat 16 (fld wd 15 0)))
    else none
  | 0x15 =>
    if fld wd 24 16 = 0 then
      some (.clre (BitVec.ofNat 16 (fld wd 15 0)))
    else none
  | 0x16 =>
    if fld wd 16 16 = 0 then
      some (.waitown (Fin.ofNat 256 (fld wd 24 17)) (BitVec.ofNat 16 (fld wd 15 0)))
    else none
  | 0x18 =>
    if fld wd 24 11 = 0 then
      some (.skipm (BitVec.ofNat 11 (fld wd 10 0)))
    else none
  | 0x1a =>
    if fld wd 24 0 = 0 then
      some .markRb
    else none
  | 0x1b =>
    if fld wd 24 16 = 0 then
      some (.markOv (BitVec.ofNat 16 (fld wd 15 0)))
    else none
  | 0x1c =>
    if fld wd 24 11 = 0 then
      some (.jumpOv (BitVec.ofNat 11 (fld wd 10 0)))
    else none
  | 0x1e =>
    if fld wd 20 0 = 0 then
      some (.signal (Fin.ofNat 16 (fld wd 24 21)))
    else none
  | _ => none

/-- The s map (R83); an opcode or sub-code it does not list is illegal (R77). -/
def decodeS (wd : Nat) : Option Instr :=
  match fld wd 31 25 with
  | 0x01 =>
    if fld wd 3 0 = 0 then
      (dstOf wd).bind fun r => (selOf (fld wd 15 10)).bind fun a => (selOf (fld wd 9 4)).bind fun b => some (.add r a b)
    else if fld wd 3 0 = 1 then
      (dstOf wd).bind fun r => (selOf (fld wd 15 10)).bind fun a => (selOf (fld wd 9 4)).bind fun b => some (.sub r a b)
    else if fld wd 3 0 = 2 then
      (dstOf wd).bind fun r => (selOf (fld wd 15 10)).bind fun a => (selOf (fld wd 9 4)).bind fun b => some (.and r a b)
    else if fld wd 3 0 = 3 then
      (dstOf wd).bind fun r => (selOf (fld wd 15 10)).bind fun a => (selOf (fld wd 9 4)).bind fun b => some (.or r a b)
    else if fld wd 3 0 = 4 then
      (dstOf wd).bind fun r => (selOf (fld wd 15 10)).bind fun a => (selOf (fld wd 9 4)).bind fun b => some (.xor r a b)
    else if fld wd 3 0 = 5 then
      (dstOf wd).bind fun r => (selOf (fld wd 15 10)).bind fun a => (selOf (fld wd 9 4)).bind fun b => some (.shl r a b)
    else if fld wd 3 0 = 6 then
      (dstOf wd).bind fun r => (selOf (fld wd 15 10)).bind fun a => (selOf (fld wd 9 4)).bind fun b => some (.shr r a b)
    else if fld wd 3 0 = 7 then
      (dstOf wd).bind fun r => (selOf (fld wd 15 10)).bind fun a => (selOf (fld wd 9 4)).bind fun b => some (.sha r a b)
    else if fld wd 3 0 = 8 then
      (dstOf wd).bind fun r => (selOf (fld wd 15 10)).bind fun a => (selOf (fld wd 9 4)).bind fun b => some (.min r a b)
    else if fld wd 3 0 = 9 then
      (dstOf wd).bind fun r => (selOf (fld wd 15 10)).bind fun a => (selOf (fld wd 9 4)).bind fun b => some (.max r a b)
    else if fld wd 3 0 = 10 then
      (dstOf wd).bind fun r => (selOf (fld wd 15 10)).bind fun a => (selOf (fld wd 9 4)).bind fun b => some (.minn r a b)
    else if fld wd 3 0 = 11 then
      (dstOf wd).bind fun r => (selOf (fld wd 15 10)).bind fun a => (selOf (fld wd 9 4)).bind fun b => some (.maxn r a b)
    else if fld wd 9 0 = 12 then
      (dstOf wd).bind fun r => (selOf (fld wd 15 10)).bind fun a => some (.clz r a)
    else if fld wd 9 0 = 13 then
      (dstOf wd).bind fun r => (selOf (fld wd 15 10)).bind fun a => some (.popc r a)
    else none
  | 0x02 =>
    if fld wd 3 0 = 0 then
      (dstOf wd).bind fun r => (selOf (fld wd 15 10)).bind fun a => (selOf (fld wd 9 4)).bind fun b => some (.mul r a b)
    else if fld wd 3 0 = 1 then
      (dstOf wd).bind fun r => (selOf (fld wd 15 10)).bind fun a => (selOf (fld wd 9 4)).bind fun b => some (.mulh r a b)
    else if fld wd 3 0 = 2 then
      (dstOf wd).bind fun r => (selOf (fld wd 15 10)).bind fun a => (selOf (fld wd 9 4)).bind fun b => some (.mulhn r a b)
    else if fld wd 3 0 = 3 then
      (dstOf wd).bind fun r => (selOf (fld wd 15 10)).bind fun a => (selOf (fld wd 9 4)).bind fun b => some (.div r a b)
    else if fld wd 3 0 = 4 then
      (dstOf wd).bind fun r => (selOf (fld wd 15 10)).bind fun a => (selOf (fld wd 9 4)).bind fun b => some (.divn r a b)
    else if fld wd 3 0 = 5 then
      (dstOf wd).bind fun r => (selOf (fld wd 15 10)).bind fun a => (selOf (fld wd 9 4)).bind fun b => some (.rem r a b)
    else if fld wd 3 0 = 6 then
      (dstOf wd).bind fun r => (selOf (fld wd 15 10)).bind fun a => (selOf (fld wd 9 4)).bind fun b => some (.remn r a b)
    else none
  | 0x03 =>
    if fld wd 21 19 = 0 ∧ fld wd 3 0 = 0 then
      (selOf (fld wd 15 10)).bind fun a => (selOf (fld wd 9 4)).bind fun b => some (.cmpEq (fld wd 24 24 == 1) (Fin.ofNat 4 (fld wd 23 22)) (Fin.ofNat 8 (fld wd 18 16)) a b)
    else if fld wd 21 19 = 0 ∧ fld wd 3 0 = 1 then
      (selOf (fld wd 15 10)).bind fun a => (selOf (fld wd 9 4)).bind fun b => some (.cmpNe (fld wd 24 24 == 1) (Fin.ofNat 4 (fld wd 23 22)) (Fin.ofNat 8 (fld wd 18 16)) a b)
    else if fld wd 21 19 = 0 ∧ fld wd 3 0 = 2 then
      (selOf (fld wd 15 10)).bind fun a => (selOf (fld wd 9 4)).bind fun b => some (.cmpLt (fld wd 24 24 == 1) (Fin.ofNat 4 (fld wd 23 22)) (Fin.ofNat 8 (fld wd 18 16)) a b)
    else if fld wd 21 19 = 0 ∧ fld wd 3 0 = 3 then
      (selOf (fld wd 15 10)).bind fun a => (selOf (fld wd 9 4)).bind fun b => some (.cmpLtn (fld wd 24 24 == 1) (Fin.ofNat 4 (fld wd 23 22)) (Fin.ofNat 8 (fld wd 18 16)) a b)
    else if fld wd 21 19 = 0 ∧ fld wd 3 0 = 4 then
      (selOf (fld wd 15 10)).bind fun a => (selOf (fld wd 9 4)).bind fun b => some (.cmpGe (fld wd 24 24 == 1) (Fin.ofNat 4 (fld wd 23 22)) (Fin.ofNat 8 (fld wd 18 16)) a b)
    else if fld wd 21 19 = 0 ∧ fld wd 3 0 = 5 then
      (selOf (fld wd 15 10)).bind fun a => (selOf (fld wd 9 4)).bind fun b => some (.cmpGen (fld wd 24 24 == 1) (Fin.ofNat 4 (fld wd 23 22)) (Fin.ofNat 8 (fld wd 18 16)) a b)
    else none
  | 0x04 =>
    (dstOf wd).bind fun r => (selOf (fld wd 15 10)).bind fun a => (selOf (fld wd 9 4)).bind fun b => some (.sel r a b (fld wd 3 3 == 1) (Fin.ofNat 8 (fld wd 2 0)))
  | 0x05 =>
    if fld wd 3 0 = 0 then
      (dstOf wd).bind fun r => (selOf (fld wd 15 10)).bind fun a => (selOf (fld wd 9 4)).bind fun b => some (.bfx r a b)
    else if fld wd 3 0 = 1 then
      (dstOf wd).bind fun r => (selOf (fld wd 15 10)).bind fun a => (selOf (fld wd 9 4)).bind fun b => some (.bfi r a b)
    else none
  | 0x08 =>
    (dstOf wd).bind fun r => some (.addi r (BitVec.ofNat 16 (fld wd 15 0)))
  | 0x09 =>
    (dstOf wd).bind fun r => some (.andi r (BitVec.ofNat 16 (fld wd 15 0)))
  | 0x0a =>
    (dstOf wd).bind fun r => some (.ori r (BitVec.ofNat 16 (fld wd 15 0)))
  | 0x0b =>
    (dstOf wd).bind fun r => some (.xori r (BitVec.ofNat 16 (fld wd 15 0)))
  | 0x0c =>
    if fld wd 15 6 = 0 then
      (dstOf wd).bind fun r => some (.shli r (BitVec.ofNat 6 (fld wd 5 0)))
    else none
  | 0x0d =>
    if fld wd 15 6 = 0 then
      (dstOf wd).bind fun r => some (.shri r (BitVec.ofNat 6 (fld wd 5 0)))
    else none
  | 0x0e =>
    if fld wd 15 6 = 0 then
      (dstOf wd).bind fun r => some (.shai r (BitVec.ofNat 6 (fld wd 5 0)))
    else none
  | 0x0f =>
    (dstOf wd).bind fun r => some (.li r (BitVec.ofNat 16 (fld wd 15 0)))
  | 0x10 =>
    (dstOf wd).bind fun r => some (.lih r (BitVec.ofNat 16 (fld wd 15 0)))
  | 0x18 =>
    if fld wd 15 15 = 0 then
      (dstOf wd).bind fun r => some (.ld8 r (Fin.ofNat 32 (fld wd 14 10)) (BitVec.ofNat 10 (fld wd 9 0)))
    else if fld wd 15 15 = 1 ∧ fld wd 11 0 = 0 then
      (dstOf wd).bind fun r => some (.ld8Stream r (Fin.ofNat 8 (fld wd 14 12)))
    else none
  | 0x19 =>
    if fld wd 15 15 = 0 then
      (dstOf wd).bind fun r => some (.ld16 r (Fin.ofNat 32 (fld wd 14 10)) (BitVec.ofNat 10 (fld wd 9 0)))
    else if fld wd 15 15 = 1 ∧ fld wd 11 0 = 0 then
      (dstOf wd).bind fun r => some (.ld16Stream r (Fin.ofNat 8 (fld wd 14 12)))
    else none
  | 0x1a =>
    if fld wd 15 15 = 0 then
      (dstOf wd).bind fun r => some (.ld32 r (Fin.ofNat 32 (fld wd 14 10)) (BitVec.ofNat 10 (fld wd 9 0)))
    else if fld wd 15 15 = 1 ∧ fld wd 11 0 = 0 then
      (dstOf wd).bind fun r => some (.ld32Stream r (Fin.ofNat 8 (fld wd 14 12)))
    else none
  | 0x1b =>
    if fld wd 15 15 = 0 then
      (dstOf wd).bind fun r => some (.ld64 r (Fin.ofNat 32 (fld wd 14 10)) (BitVec.ofNat 10 (fld wd 9 0)))
    else if fld wd 15 15 = 1 ∧ fld wd 11 0 = 0 then
      (dstOf wd).bind fun r => some (.ld64Stream r (Fin.ofNat 8 (fld wd 14 12)))
    else none
  | 0x1c =>
    if fld wd 24 22 = 0 ∧ fld wd 15 15 = 0 then
      (selOf (fld wd 21 16)).bind fun d => some (.st8 d (Fin.ofNat 32 (fld wd 14 10)) (BitVec.ofNat 10 (fld wd 9 0)))
    else if fld wd 24 22 = 0 ∧ fld wd 15 15 = 1 ∧ fld wd 11 0 = 0 then
      (selOf (fld wd 21 16)).bind fun d => some (.st8Stream d (Fin.ofNat 8 (fld wd 14 12)))
    else none
  | 0x1d =>
    if fld wd 24 22 = 0 ∧ fld wd 15 15 = 0 then
      (selOf (fld wd 21 16)).bind fun d => some (.st16 d (Fin.ofNat 32 (fld wd 14 10)) (BitVec.ofNat 10 (fld wd 9 0)))
    else if fld wd 24 22 = 0 ∧ fld wd 15 15 = 1 ∧ fld wd 11 0 = 0 then
      (selOf (fld wd 21 16)).bind fun d => some (.st16Stream d (Fin.ofNat 8 (fld wd 14 12)))
    else none
  | 0x1e =>
    if fld wd 24 22 = 0 ∧ fld wd 15 15 = 0 then
      (selOf (fld wd 21 16)).bind fun d => some (.st32 d (Fin.ofNat 32 (fld wd 14 10)) (BitVec.ofNat 10 (fld wd 9 0)))
    else if fld wd 24 22 = 0 ∧ fld wd 15 15 = 1 ∧ fld wd 11 0 = 0 then
      (selOf (fld wd 21 16)).bind fun d => some (.st32Stream d (Fin.ofNat 8 (fld wd 14 12)))
    else none
  | 0x1f =>
    if fld wd 24 22 = 0 ∧ fld wd 15 15 = 0 then
      (selOf (fld wd 21 16)).bind fun d => some (.st64 d (Fin.ofNat 32 (fld wd 14 10)) (BitVec.ofNat 10 (fld wd 9 0)))
    else if fld wd 24 22 = 0 ∧ fld wd 15 15 = 1 ∧ fld wd 11 0 = 0 then
      (selOf (fld wd 21 16)).bind fun d => some (.st64Stream d (Fin.ofNat 8 (fld wd 14 12)))
    else none
  | 0x20 =>
    if fld wd 24 21 = 0 ∧ fld wd 9 0 = 0 then
      (selOf (fld wd 15 10)).bind fun a => some (.setk (Fin.ofNat 32 (fld wd 21 16)) a)
    else none
  | 0x21 =>
    if fld wd 24 19 = 0 ∧ fld wd 9 0 = 0 then
      (selOf (fld wd 15 10)).bind fun a => some (.seta (Fin.ofNat 8 (fld wd 18 16)) a)
    else none
  | 0x22 =>
    if fld wd 24 21 = 0 ∧ fld wd 9 0 = 0 then
      (selOf (fld wd 15 10)).bind fun a => some (.setd (Fin.ofNat 8 (fld wd 20 18)) (Fin.ofNat 4 (fld wd 17 16)) a)
    else none
  | 0x23 =>
    if fld wd 24 18 = 0 ∧ fld wd 9 0 = 0 then
      (selOf (fld wd 15 10)).bind fun a => some (.setlc (Fin.ofNat 4 (fld wd 17 16)) a)
    else none
  | 0x24 =>
    if fld wd 24 18 = 0 ∧ fld wd 3 0 = 0 then
      (selOf (fld wd 15 10)).bind fun a => (selOf (fld wd 9 4)).bind fun b => some (.setlb (Fin.ofNat 4 (fld wd 17 16)) a b)
    else none
  | 0x28 =>
    (dstOf wd).bind fun r => some (.rdid r (BitVec.ofNat 16 (fld wd 15 0)))
  | 0x29 =>
    (dstOf wd).bind fun r => some (.rdcfg r (BitVec.ofNat 16 (fld wd 15 0)))
  | 0x2a =>
    if fld wd 15 0 = 0 then
      (dstOf wd).bind fun r => some (.rdcue r)
    else none
  | 0x2b =>
    if fld wd 15 0 = 0 then
      (dstOf wd).bind fun r => some (.rddeck r)
    else none
  | _ => none

/-- The va and vb map (R84); an opcode or sub-code it does not list is illegal (R77). -/
def decodeV (wd : Nat) : Option Instr :=
  match fld wd 31 25 with
  | 0x01 =>
    if fld wd 3 0 = 0 then
      (dstOf wd).bind fun r => (selOf (fld wd 15 10)).bind fun a => (selOf (fld wd 9 4)).bind fun b => some (.vadd r a b)
    else if fld wd 3 0 = 1 then
      (dstOf wd).bind fun r => (selOf (fld wd 15 10)).bind fun a => (selOf (fld wd 9 4)).bind fun b => some (.vsub r a b)
    else if fld wd 3 0 = 2 then
      (dstOf wd).bind fun r => (selOf (fld wd 15 10)).bind fun a => (selOf (fld wd 9 4)).bind fun b => some (.vmul r a b)
    else if fld wd 3 0 = 3 then
      (dstOf wd).bind fun r => (selOf (fld wd 15 10)).bind fun a => (selOf (fld wd 9 4)).bind fun b => some (.vmulh r a b)
    else if fld wd 3 0 = 4 then
      (dstOf wd).bind fun r => (selOf (fld wd 15 10)).bind fun a => (selOf (fld wd 9 4)).bind fun b => some (.vmin r a b)
    else if fld wd 3 0 = 5 then
      (dstOf wd).bind fun r => (selOf (fld wd 15 10)).bind fun a => (selOf (fld wd 9 4)).bind fun b => some (.vmax r a b)
    else if fld wd 3 0 = 6 then
      (dstOf wd).bind fun r => (selOf (fld wd 15 10)).bind fun a => (selOf (fld wd 9 4)).bind fun b => some (.vminn r a b)
    else if fld wd 3 0 = 7 then
      (dstOf wd).bind fun r => (selOf (fld wd 15 10)).bind fun a => (selOf (fld wd 9 4)).bind fun b => some (.vmaxn r a b)
    else if fld wd 3 0 = 8 then
      (dstOf wd).bind fun r => (selOf (fld wd 15 10)).bind fun a => (selOf (fld wd 9 4)).bind fun b => some (.vand r a b)
    else if fld wd 3 0 = 9 then
      (dstOf wd).bind fun r => (selOf (fld wd 15 10)).bind fun a => (selOf (fld wd 9 4)).bind fun b => some (.vor r a b)
    else if fld wd 3 0 = 10 then
      (dstOf wd).bind fun r => (selOf (fld wd 15 10)).bind fun a => (selOf (fld wd 9 4)).bind fun b => some (.vxor r a b)
    else if fld wd 3 0 = 11 then
      (dstOf wd).bind fun r => (selOf (fld wd 15 10)).bind fun a => (selOf (fld wd 9 4)).bind fun b => some (.vshl r a b)
    else if fld wd 3 0 = 12 then
      (dstOf wd).bind fun r => (selOf (fld wd 15 10)).bind fun a => (selOf (fld wd 9 4)).bind fun b => some (.vshr r a b)
    else if fld wd 3 0 = 13 then
      (dstOf wd).bind fun r => (selOf (fld wd 15 10)).bind fun a => (selOf (fld wd 9 4)).bind fun b => some (.vsha r a b)
    else none
  | 0x02 =>
    if fld wd 24 16 = 0 ∧ fld wd 3 0 = 0 then
      (selOf (fld wd 15 10)).bind fun a => (selOf (fld wd 9 4)).bind fun b => some (.vcmpEq a b)
    else if fld wd 24 16 = 0 ∧ fld wd 3 0 = 1 then
      (selOf (fld wd 15 10)).bind fun a => (selOf (fld wd 9 4)).bind fun b => some (.vcmpNe a b)
    else if fld wd 24 16 = 0 ∧ fld wd 3 0 = 2 then
      (selOf (fld wd 15 10)).bind fun a => (selOf (fld wd 9 4)).bind fun b => some (.vcmpLt a b)
    else if fld wd 24 16 = 0 ∧ fld wd 3 0 = 3 then
      (selOf (fld wd 15 10)).bind fun a => (selOf (fld wd 9 4)).bind fun b => some (.vcmpLtn a b)
    else if fld wd 24 16 = 0 ∧ fld wd 3 0 = 4 then
      (selOf (fld wd 15 10)).bind fun a => (selOf (fld wd 9 4)).bind fun b => some (.vcmpGe a b)
    else if fld wd 24 16 = 0 ∧ fld wd 3 0 = 5 then
      (selOf (fld wd 15 10)).bind fun a => (selOf (fld wd 9 4)).bind fun b => some (.vcmpGen a b)
    else if fld wd 24 16 = 0 ∧ fld wd 3 0 = 8 then
      (selOf (fld wd 15 10)).bind fun a => (selOf (fld wd 9 4)).bind fun b => some (.vcmpFeq a b)
    else if fld wd 24 16 = 0 ∧ fld wd 3 0 = 9 then
      (selOf (fld wd 15 10)).bind fun a => (selOf (fld wd 9 4)).bind fun b => some (.vcmpFne a b)
    else if fld wd 24 16 = 0 ∧ fld wd 3 0 = 10 then
      (selOf (fld wd 15 10)).bind fun a => (selOf (fld wd 9 4)).bind fun b => some (.vcmpFlt a b)
    else if fld wd 24 16 = 0 ∧ fld wd 3 0 = 11 then
      (selOf (fld wd 15 10)).bind fun a => (selOf (fld wd 9 4)).bind fun b => some (.vcmpFge a b)
    else none
  | 0x03 =>
    if fld wd 24 16 = 0 ∧ fld wd 9 0 = 0 then
      (selOf (fld wd 15 10)).bind fun a => some (.vpushm a)
    else if fld wd 24 0 = 1 then
      some .vinvm
    else if fld wd 24 0 = 2 then
      some .vpopm
    else none
  | 0x04 =>
    if fld wd 3 0 = 0 then
      (dstOf wd).bind fun r => (selOf (fld wd 15 10)).bind fun a => (selOf (fld wd 9 4)).bind fun b => some (.vsel r a b)
    else none
  | 0x05 =>
    if fld wd 3 3 = 0 then
      (dstOf wd).bind fun r => (selOf (fld wd 15 10)).bind fun a => (selOf (fld wd 9 4)).bind fun b => (rndOf (fld wd 2 0)).bind fun rm => some (.vfadd r a b rm)
    else none
  | 0x06 =>
    if fld wd 3 3 = 0 then
      (dstOf wd).bind fun r => (selOf (fld wd 15 10)).bind fun a => (selOf (fld wd 9 4)).bind fun b => (rndOf (fld wd 2 0)).bind fun rm => some (.vfsub r a b rm)
    else none
  | 0x07 =>
    if fld wd 3 3 = 0 then
      (dstOf wd).bind fun r => (selOf (fld wd 15 10)).bind fun a => (selOf (fld wd 9 4)).bind fun b => (rndOf (fld wd 2 0)).bind fun rm => some (.vfmul r a b rm)
    else none
  | 0x08 =>
    if fld wd 3 3 = 0 then
      (dstOf wd).bind fun r => (selOf (fld wd 15 10)).bind fun a => (selOf (fld wd 9 4)).bind fun b => (rndOf (fld wd 2 0)).bind fun rm => some (.vfma r a b rm)
    else none
  | 0x09 =>
    if fld wd 3 0 = 0 then
      (dstOf wd).bind fun r => (selOf (fld wd 15 10)).bind fun a => (selOf (fld wd 9 4)).bind fun b => some (.vfmin r a b)
    else if fld wd 3 0 = 1 then
      (dstOf wd).bind fun r => (selOf (fld wd 15 10)).bind fun a => (selOf (fld wd 9 4)).bind fun b => some (.vfmax r a b)
    else if fld wd 9 0 = 2 then
      (dstOf wd).bind fun r => (selOf (fld wd 15 10)).bind fun a => some (.vfabs r a)
    else if fld wd 9 0 = 3 then
      (dstOf wd).bind fun r => (selOf (fld wd 15 10)).bind fun a => some (.vfneg r a)
    else none
  | 0x0a =>
    if fld wd 3 3 = 0 then
      (dstOf wd).bind fun r => (selOf (fld wd 15 10)).bind fun a => (cvtFmtOf (fld wd 9 7)).bind fun fr => (cvtFmtOf (fld wd 6 4)).bind fun tf => (rndOf (fld wd 2 0)).bind fun rm => some (.vcvt r a fr tf rm)
    else none
  | 0x0b =>
    if fld wd 7 3 = 0 then
      (dstOf wd).bind fun r => (selOf (fld wd 15 10)).bind fun a => (widthOf (fld wd 9 8)).bind fun w => (rndOf (fld wd 2 0)).bind fun rm => some (.vqblk r a w rm)
    else none
  | 0x0c =>
    if fld wd 7 3 = 0 then
      (dstOf wd).bind fun r => (selOf (fld wd 15 10)).bind fun a => (widthOf (fld wd 9 8)).bind fun w => (rndOf (fld wd 2 0)).bind fun rm => some (.vdqblk r a w rm)
    else none
  | 0x0d =>
    if fld wd 6 3 = 0 then
      (dstOf wd).bind fun r => (selOf (fld wd 15 10)).bind fun a => (mxFmtOf (fld wd 9 7)).bind fun f => (rndOf (fld wd 2 0)).bind fun rm => some (.vmxq r a f rm)
    else none
  | 0x0e =>
    if fld wd 6 3 = 0 then
      (dstOf wd).bind fun r => (selOf (fld wd 15 10)).bind fun a => (mxFmtOf (fld wd 9 7)).bind fun f => (rndOf (fld wd 2 0)).bind fun rm => some (.vmxdq r a f rm)
    else none
  | 0x10 =>
    if fld wd 9 0 = 0 then
      (dstOf wd).bind fun r => (selOf (fld wd 15 10)).bind fun a => some (.vexp2 r a)
    else if fld wd 9 0 = 1 then
      (dstOf wd).bind fun r => (selOf (fld wd 15 10)).bind fun a => some (.vlog2 r a)
    else if fld wd 9 0 = 2 then
      (dstOf wd).bind fun r => (selOf (fld wd 15 10)).bind fun a => some (.vrcp r a)
    else if fld wd 9 0 = 3 then
      (dstOf wd).bind fun r => (selOf (fld wd 15 10)).bind fun a => some (.vrsq r a)
    else if fld wd 9 0 = 4 then
      (dstOf wd).bind fun r => (selOf (fld wd 15 10)).bind fun a => some (.vtanh r a)
    else none
  | 0x11 =>
    if fld wd 9 4 = 0 ∧ fld wd 1 0 = 0 then
      (dstOf wd).bind fun r => (selOf (fld wd 15 10)).bind fun a => (redTyOf (fld wd 3 2)).bind fun ty => some (.vredadd r a ty)
    else if fld wd 9 4 = 0 ∧ fld wd 1 0 = 1 then
      (dstOf wd).bind fun r => (selOf (fld wd 15 10)).bind fun a => (redTyOf (fld wd 3 2)).bind fun ty => some (.vredmax r a ty)
    else if fld wd 9 4 = 0 ∧ fld wd 1 0 = 2 then
      (dstOf wd).bind fun r => (selOf (fld wd 15 10)).bind fun a => (redTyOf (fld wd 3 2)).bind fun ty => some (.vredmin r a ty)
    else if fld wd 9 4 = 0 ∧ fld wd 1 0 = 3 then
      (dstOf wd).bind fun r => (selOf (fld wd 15 10)).bind fun a => (redTyOf (fld wd 3 2)).bind fun ty => some (.vscan r a ty)
    else none
  | 0x12 =>
    if fld wd 3 0 = 0 then
      (dstOf wd).bind fun r => (selOf (fld wd 15 10)).bind fun a => (selOf (fld wd 9 4)).bind fun b => some (.vperm r a b)
    else if fld wd 3 0 = 1 then
      (dstOf wd).bind fun r => (selOf (fld wd 15 10)).bind fun a => (selOf (fld wd 9 4)).bind fun b => some (.vshuf r a b)
    else if fld wd 3 0 = 2 then
      (dstOf wd).bind fun r => (selOf (fld wd 15 10)).bind fun a => (selOf (fld wd 9 4)).bind fun b => some (.vbcast r a b)
    else if fld wd 3 0 = 3 then
      (dstOf wd).bind fun r => (selOf (fld wd 15 10)).bind fun a => (selOf (fld wd 9 4)).bind fun b => some (.vins r a b)
    else if fld wd 3 0 = 4 then
      (dstOf wd).bind fun r => (selOf (fld wd 15 10)).bind fun a => (selOf (fld wd 9 4)).bind fun b => some (.vext r a b)
    else if fld wd 3 0 = 5 then
      (dstOf wd).bind fun r => (selOf (fld wd 15 10)).bind fun a => (selOf (fld wd 9 4)).bind fun b => some (.vlidx r a b)
    else none
  | 0x18 =>
    if fld wd 15 15 = 0 then
      (dstOf wd).bind fun r => some (.vld r (Fin.ofNat 32 (fld wd 14 10)) (BitVec.ofNat 10 (fld wd 9 0)))
    else if fld wd 15 15 = 1 ∧ fld wd 11 0 = 0 then
      (dstOf wd).bind fun r => some (.vldStream r (Fin.ofNat 8 (fld wd 14 12)))
    else none
  | 0x19 =>
    if fld wd 24 22 = 0 ∧ fld wd 15 15 = 0 then
      (selOf (fld wd 21 16)).bind fun d => some (.vst d (Fin.ofNat 32 (fld wd 14 10)) (BitVec.ofNat 10 (fld wd 9 0)))
    else if fld wd 24 22 = 0 ∧ fld wd 15 15 = 1 ∧ fld wd 11 0 = 0 then
      (selOf (fld wd 21 16)).bind fun d => some (.vstStream d (Fin.ofNat 8 (fld wd 14 12)))
    else none
  | 0x1a =>
    if fld wd 3 0 = 0 then
      (dstOf wd).bind fun r => (selOf (fld wd 15 10)).bind fun a => (selOf (fld wd 9 4)).bind fun b => some (.vldx r a b)
    else none
  | 0x1b =>
    if fld wd 24 22 = 0 ∧ fld wd 3 0 = 0 then
      (selOf (fld wd 21 16)).bind fun d => (selOf (fld wd 15 10)).bind fun a => (selOf (fld wd 9 4)).bind fun b => some (.vstx d a b)
    else none
  | _ => none

/-- The m map (R85); an opcode or sub-code it does not list is illegal (R77). -/
def decodeM (wd : Nat) : Option Instr :=
  match fld wd 31 25 with
  | 0x01 =>
    if fld wd 24 16 = 0 ∧ fld wd 9 0 = 0 then
      (selOf (fld wd 15 10)).bind fun a => some (.mloadbW a)
    else none
  | 0x02 =>
    if fld wd 24 21 = 0 ∧ fld wd 9 0 = 0 then
      (selOf (fld wd 15 10)).bind fun a => some (.mloadbS (Fin.ofNat 32 (fld wd 20 16)) a)
    else none
  | 0x03 =>
    if fld wd 24 22 = 0 ∧ fld wd 5 4 = 0 then
      (selOf (fld wd 15 10)).bind fun a => (widthOf (fld wd 9 8)).bind fun wa => (widthOf (fld wd 7 6)).bind fun wb => some (.mpush (Fin.ofNat 2 (fld wd 21 21)) (Fin.ofNat 32 (fld wd 20 16)) a wa wb (fld wd 3 3 == 1) (Fin.ofNat 8 (fld wd 2 0)))
    else none
  | 0x04 =>
    if fld wd 24 10 = 0 ∧ fld wd 3 0 = 0 then
      some (.mshift (BitVec.ofNat 6 (fld wd 9 4)))
    else none
  | 0x05 =>
    if fld wd 24 22 = 0 ∧ fld wd 15 0 = 1 then
      some (.macc (Fin.ofNat 2 (fld wd 21 21)) (Fin.ofNat 32 (fld wd 20 16)))
    else if fld wd 24 22 = 0 ∧ fld wd 15 0 = 0 then
      some (.maccDrop (Fin.ofNat 2 (fld wd 21 21)) (Fin.ofNat 32 (fld wd 20 16)))
    else none
  | 0x06 =>
    if fld wd 24 16 = 0 ∧ fld wd 9 0 = 0 then
      (selOf (fld wd 15 10)).bind fun a => some (.mscale a)
    else none
  | 0x07 =>
    if fld wd 24 22 = 0 ∧ fld wd 20 0 = 0 then
      some (.mzero (Fin.ofNat 2 (fld wd 21 21)))
    else none
  | 0x08 =>
    if fld wd 9 2 = 0 then
      (dstOf wd).bind fun r => (drainFmtOf (fld wd 1 0)).bind fun f => some (.mdrain r (Fin.ofNat 2 (fld wd 15 15)) (Fin.ofNat 32 (fld wd 14 10)) f)
    else none
  | 0x09 =>
    if fld wd 24 4 = 0 then
      (widthOf (fld wd 1 0)).bind fun pw => some (.mmode (fld wd 3 3 == 1) (fld wd 2 2 == 1) pw)
    else none
  | 0x0a =>
    if fld wd 24 16 = 0 ∧ fld wd 9 0 = 0 then
      (selOf (fld wd 15 10)).bind fun a => some (.msparse a)
    else none
  | 0x0b =>
    if fld wd 14 0 = 0 then
      (dstOf wd).bind fun r => some (.mflags r (Fin.ofNat 2 (fld wd 15 15)))
    else none
  | _ => none

/-- The xa and xb map (R86); an opcode or sub-code it does not list is illegal (R77). -/
def decodeX (wd : Nat) : Option Instr :=
  match fld wd 31 25 with
  | 0x01 =>
    if fld wd 24 22 = 0 ∧ fld wd 14 0 = 0 then
      some (.flyRd ⟨Fin.ofNat 8 (fld wd 21 19), fld wd 18 18 == 1⟩ (Fin.ofNat 8 (fld wd 17 15)))
    else none
  | 0x02 =>
    if fld wd 24 22 = 0 ∧ fld wd 14 0 = 0 then
      some (.flyWr ⟨Fin.ofNat 8 (fld wd 21 19), fld wd 18 18 == 1⟩ (Fin.ofNat 8 (fld wd 17 15)))
    else none
  | 0x03 =>
    if fld wd 24 22 = 0 ∧ fld wd 14 0 = 0 then
      some (.flyRd2 ⟨Fin.ofNat 8 (fld wd 21 19), fld wd 18 18 == 1⟩ (Fin.ofNat 8 (fld wd 17 15)))
    else none
  | 0x04 =>
    if fld wd 24 22 = 0 ∧ fld wd 14 0 = 0 then
      some (.flyWr2 ⟨Fin.ofNat 8 (fld wd 21 19), fld wd 18 18 == 1⟩ (Fin.ofNat 8 (fld wd 17 15)))
    else none
  | 0x08 =>
    if fld wd 24 22 = 0 ∧ fld wd 11 0 = 0 then
      (scopeOf (fld wd 14 12)).bind fun sc => some (.acopyRd ⟨Fin.ofNat 8 (fld wd 21 19), fld wd 18 18 == 1⟩ (Fin.ofNat 8 (fld wd 17 15)) sc)
    else none
  | 0x09 =>
    if fld wd 24 22 = 0 ∧ fld wd 11 0 = 0 then
      (scopeOf (fld wd 14 12)).bind fun sc => some (.acopyWr ⟨Fin.ofNat 8 (fld wd 21 19), fld wd 18 18 == 1⟩ (Fin.ofNat 8 (fld wd 17 15)) sc)
    else none
  | 0x0a =>
    if fld wd 24 22 = 0 ∧ fld wd 11 0 = 0 then
      (scopeOf (fld wd 14 12)).bind fun sc => some (.acopy2d ⟨Fin.ofNat 8 (fld wd 21 19), fld wd 18 18 == 1⟩ (Fin.ofNat 8 (fld wd 17 15)) sc)
    else none
  | 0x0b =>
    if fld wd 24 22 = 0 ∧ fld wd 17 15 = 0 ∧ fld wd 11 0 = 0 then
      (scopeOf (fld wd 14 12)).bind fun sc => some (.qmark ⟨Fin.ofNat 8 (fld wd 21 19), fld wd 18 18 == 1⟩ sc)
    else none
  | 0x0c =>
    if fld wd 24 22 = 0 ∧ fld wd 14 3 = 0 then
      (rndOf (fld wd 2 0)).bind fun rm => some (.xcopy ⟨Fin.ofNat 8 (fld wd 21 19), fld wd 18 18 == 1⟩ (Fin.ofNat 8 (fld wd 17 15)) rm)
    else none
  | 0x0d =>
    if fld wd 24 22 = 0 ∧ fld wd 14 0 = 0 then
      some (.xfill ⟨Fin.ofNat 8 (fld wd 21 19), fld wd 18 18 == 1⟩ (Fin.ofNat 8 (fld wd 17 15)))
    else none
  | 0x10 =>
    if fld wd 24 22 = 0 ∧ fld wd 14 8 = 0 ∧ fld wd 3 0 = 0 then
      some (.give ⟨Fin.ofNat 8 (fld wd 21 19), fld wd 18 18 == 1⟩ (Fin.ofNat 8 (fld wd 17 15)) (Fin.ofNat 16 (fld wd 7 4)))
    else none
  | 0x11 =>
    if fld wd 24 24 = 0 ∧ fld wd 14 0 = 0 then
      some (.ownq (Fin.ofNat 4 (fld wd 23 22)) ⟨Fin.ofNat 8 (fld wd 21 19), fld wd 18 18 == 1⟩ (Fin.ofNat 8 (fld wd 17 15)))
    else none
  | 0x14 =>
    if fld wd 24 24 = 0 ∧ fld wd 14 0 = 0 then
      some (.wheelLd (Fin.ofNat 4 (fld wd 23 22)) ⟨Fin.ofNat 8 (fld wd 21 19), fld wd 18 18 == 1⟩ (Fin.ofNat 8 (fld wd 17 15)))
    else none
  | 0x15 =>
    if fld wd 24 22 = 0 ∧ fld wd 14 0 = 0 then
      some (.wheelSt ⟨Fin.ofNat 8 (fld wd 21 19), fld wd 18 18 == 1⟩ (Fin.ofNat 8 (fld wd 17 15)))
    else none
  | 0x16 =>
    if fld wd 24 24 = 0 ∧ fld wd 14 0 = 0 then
      some (.wheelAdd (Fin.ofNat 4 (fld wd 23 22)) ⟨Fin.ofNat 8 (fld wd 21 19), fld wd 18 18 == 1⟩ (Fin.ofNat 8 (fld wd 17 15)))
    else none
  | 0x17 =>
    if fld wd 24 24 = 0 ∧ fld wd 14 0 = 0 then
      some (.wheelXchg (Fin.ofNat 4 (fld wd 23 22)) ⟨Fin.ofNat 8 (fld wd 21 19), fld wd 18 18 == 1⟩ (Fin.ofNat 8 (fld wd 17 15)))
    else none
  | 0x18 =>
    if fld wd 24 24 = 0 ∧ fld wd 14 0 = 0 then
      some (.wheelCas (Fin.ofNat 4 (fld wd 23 22)) ⟨Fin.ofNat 8 (fld wd 21 19), fld wd 18 18 == 1⟩ (Fin.ofNat 8 (fld wd 17 15)))
    else none
  | 0x1a =>
    if fld wd 24 22 = 0 ∧ fld wd 14 0 = 0 then
      some (.mbput ⟨Fin.ofNat 8 (fld wd 21 19), fld wd 18 18 == 1⟩ (Fin.ofNat 8 (fld wd 17 15)))
    else none
  | 0x1b =>
    if fld wd 24 24 = 0 ∧ fld wd 14 0 = 0 then
      some (.mbget (Fin.ofNat 4 (fld wd 23 22)) ⟨Fin.ofNat 8 (fld wd 21 19), fld wd 18 18 == 1⟩ (Fin.ofNat 8 (fld wd 17 15)))
    else none
  | 0x20 =>
    if fld wd 24 22 = 0 ∧ fld wd 11 2 = 0 then
      (scopeOf (fld wd 14 12)).bind fun sc => (cOpOf (fld wd 1 0)).bind fun op => some (.chorusAr ⟨Fin.ofNat 8 (fld wd 21 19), fld wd 18 18 == 1⟩ (Fin.ofNat 8 (fld wd 17 15)) sc op)
    else none
  | 0x21 =>
    if fld wd 24 22 = 0 ∧ fld wd 11 0 = 0 then
      (scopeOf (fld wd 14 12)).bind fun sc => some (.chorusAg ⟨Fin.ofNat 8 (fld wd 21 19), fld wd 18 18 == 1⟩ (Fin.ofNat 8 (fld wd 17 15)) sc)
    else none
  | 0x22 =>
    if fld wd 24 22 = 0 ∧ fld wd 11 2 = 0 then
      (scopeOf (fld wd 14 12)).bind fun sc => (cOpOf (fld wd 1 0)).bind fun op => some (.chorusRs ⟨Fin.ofNat 8 (fld wd 21 19), fld wd 18 18 == 1⟩ (Fin.ofNat 8 (fld wd 17 15)) sc op)
    else none
  | 0x23 =>
    if fld wd 24 22 = 0 ∧ fld wd 11 0 = 0 then
      (scopeOf (fld wd 14 12)).bind fun sc => some (.chorusBc ⟨Fin.ofNat 8 (fld wd 21 19), fld wd 18 18 == 1⟩ (Fin.ofNat 8 (fld wd 17 15)) sc)
    else none
  | 0x24 =>
    if fld wd 24 22 = 0 ∧ fld wd 11 0 = 0 then
      (scopeOf (fld wd 14 12)).bind fun sc => some (.chorusBar ⟨Fin.ofNat 8 (fld wd 21 19), fld wd 18 18 == 1⟩ (Fin.ofNat 8 (fld wd 17 15)) sc)
    else none
  | 0x25 =>
    if fld wd 24 22 = 0 ∧ fld wd 11 0 = 0 then
      (scopeOf (fld wd 14 12)).bind fun sc => some (.chorusReady ⟨Fin.ofNat 8 (fld wd 21 19), fld wd 18 18 == 1⟩ (Fin.ofNat 8 (fld wd 17 15)) sc)
    else none
  | 0x26 =>
    if fld wd 24 22 = 0 ∧ fld wd 11 2 = 0 then
      (scopeOf (fld wd 14 12)).bind fun sc => (cOpOf (fld wd 1 0)).bind fun op => some (.chorusCombine ⟨Fin.ofNat 8 (fld wd 21 19), fld wd 18 18 == 1⟩ (Fin.ofNat 8 (fld wd 17 15)) sc op)
    else none
  | 0x27 =>
    if fld wd 24 22 = 0 ∧ fld wd 11 0 = 0 then
      (scopeOf (fld wd 14 12)).bind fun sc => some (.chorusJoin ⟨Fin.ofNat 8 (fld wd 21 19), fld wd 18 18 == 1⟩ (Fin.ofNat 8 (fld wd 17 15)) sc)
    else none
  | 0x28 =>
    if fld wd 24 22 = 0 ∧ fld wd 11 0 = 0 then
      (scopeOf (fld wd 14 12)).bind fun sc => some (.chorusLeave ⟨Fin.ofNat 8 (fld wd 21 19), fld wd 18 18 == 1⟩ (Fin.ofNat 8 (fld wd 17 15)) sc)
    else none
  | 0x2c =>
    if fld wd 24 24 = 0 ∧ fld wd 17 9 = 0 ∧ fld wd 3 0 = 0 then
      some (.siteq (Fin.ofNat 4 (fld wd 23 22)) ⟨Fin.ofNat 8 (fld wd 21 19), fld wd 18 18 == 1⟩ (Fin.ofNat 32 (fld wd 8 4)))
    else none
  | _ => none

/-- The f map (R87); an opcode or sub-code it does not list is illegal (R77). -/
def decodeF (wd : Nat) : Option Instr :=
  match fld wd 31 25 with
  | 0x01 =>
    if fld wd 24 16 = 0 ∧ fld wd 5 0 = 0 then
      (selOf (fld wd 15 10)).bind fun a => (sideOf (fld wd 9 7)).bind fun side => some (.hop a side (fld wd 6 6 == 1))
    else if fld wd 24 10 = 0 ∧ fld wd 5 2 = 2 then
      (sideOf (fld wd 9 7)).bind fun side => (sideOf (fld wd 1 0)).bind fun fr => some (.hopPass side (fld wd 6 6 == 1) fr)
    else none
  | 0x02 =>
    if fld wd 15 10 = 0 ∧ fld wd 5 0 = 0 then
      (dstOf wd).bind fun r => (sideOf (fld wd 9 7)).bind fun side => some (.recv r side (fld wd 6 6 == 1))
    else none
  | 0x03 =>
    if fld wd 24 16 = 0 ∧ fld wd 5 3 = 0 then
      (selOf (fld wd 15 10)).bind fun a => (sideOf (fld wd 9 7)).bind fun side => some (.xsend a side (fld wd 6 6 == 1) (Fin.ofNat 8 (fld wd 2 0)))
    else none
  | 0x04 =>
    if fld wd 15 10 = 0 ∧ fld wd 5 3 = 0 then
      (dstOf wd).bind fun r => (sideOf (fld wd 9 7)).bind fun side => some (.xrecv r side (fld wd 6 6 == 1) (Fin.ofNat 8 (fld wd 2 0)))
    else none
  | 0x05 =>
    if fld wd 9 0 = 0 then
      (dstOf wd).bind fun r => (selOf (fld wd 15 10)).bind fun a => some (.bandq r a)
    else none
  | 0x06 =>
    if fld wd 24 0 = 0 then
      some .cuetrim
    else none
  | 0x10 =>
    if fld wd 24 16 = 0 ∧ fld wd 3 0 = 0 then
      (selOf (fld wd 15 10)).bind fun a => (selOf (fld wd 9 4)).bind fun b => some (.castKey a b)
    else none
  | 0x11 =>
    if fld wd 9 0 = 0 then
      (dstOf wd).bind fun r => (selOf (fld wd 15 10)).bind fun a => some (.castRand r a)
    else none
  | 0x12 =>
    if fld wd 9 0 = 0 then
      (dstOf wd).bind fun r => (selOf (fld wd 15 10)).bind fun a => some (.castUnif r a)
    else none
  | 0x13 =>
    if fld wd 9 0 = 0 then
      (dstOf wd).bind fun r => (selOf (fld wd 15 10)).bind fun a => some (.castScore r a)
    else none
  | 0x14 =>
    if fld wd 24 16 = 0 ∧ fld wd 3 0 = 0 then
      (selOf (fld wd 15 10)).bind fun a => (selOf (fld wd 9 4)).bind fun b => some (.castTopkK a b)
    else if fld wd 24 16 = 0 ∧ fld wd 3 0 = 1 then
      (selOf (fld wd 15 10)).bind fun a => (selOf (fld wd 9 4)).bind fun b => some (.castTopkP a b)
    else none
  | 0x15 =>
    if fld wd 15 0 = 0 then
      (dstOf wd).bind fun r => some (.castMass r)
    else none
  | 0x16 =>
    if fld wd 9 0 = 0 then
      (dstOf wd).bind fun r => (selOf (fld wd 15 10)).bind fun a => some (.castPick r a)
    else none
  | 0x17 =>
    if fld wd 24 0 = 0 then
      some .castClr
    else none
  | _ => none

/-- The word of a slot: the all-zero NOP, or the slot's map and then the checks of WellFormed (R71, R72, R77). -/
def decode (sl : Slot) (w : Nat) : Option Instr :=
  if w = 0 then some .nop
  else
    (match sl with
      | .c => decodeC w
      | .s => decodeS w
      | .va | .vb => decodeV w
      | .m => decodeM w
      | .xa | .xb => decodeX w
      | .f => decodeF w).bind fun i => if i.wf then some i else none


/-- The words of the c map by its encoding table (R82); none for any other step. -/
def encodeC : Instr → Option Nat
  | .halt => some (0x02000000)
  | .trap imm => some (0x04000000 + imm.toNat)
  | .br t => some (0x08000000 + t.toNat)
  | .brp g t => some (0x0a000000 + g.p.val * 2 ^ 22 + g.inv.toNat * 2 ^ 21 + t.toNat)
  | .brz nz k t => some (0x0c000000 + nz.toNat * 2 ^ 21 + k.val * 2 ^ 16 + t.toNat)
  | .call g t => some (0x0e000000 + g.p.val * 2 ^ 22 + g.inv.toNat * 2 ^ 21 + t.toNat)
  | .ret g => some (0x10000000 + g.p.val * 2 ^ 22 + g.inv.toNat * 2 ^ 21)
  | .loop lv x t => some (0x18000000 + lv.val * 2 ^ 23 + x.toNat * 2 ^ 11 + t.toNat)
  | .loops lv k t => some (0x1a000000 + lv.val * 2 ^ 23 + k.val * 2 ^ 11 + t.toNat)
  | .replay lv st k t => some (0x1c000000 + lv.val * 2 ^ 23 + st.val * 2 ^ 20 + k.val * 2 ^ 11 + t.toNat)
  | .waitcue a => some (0x20000000 + selCode a * 2 ^ 16)
  | .waitrel imm => some (0x22000000 + imm.toNat)
  | .join a => some (0x24000000 + selCode a * 2 ^ 16)
  | .waite j imm => some (0x28000000 + j.val * 2 ^ 21 + imm.toNat)
  | .clre imm => some (0x2a000000 + imm.toNat)
  | .waitown u imm => some (0x2c000000 + u.val * 2 ^ 17 + imm.toNat)
  | .skipm n => some (0x30000000 + n.toNat)
  | .markRb => some (0x34000000)
  | .markOv imm => some (0x36000000 + imm.toNat)
  | .jumpOv t => some (0x38000000 + t.toNat)
  | .signal j => some (0x3c000000 + j.val * 2 ^ 21)
  | _ => none

/-- The words of the s map by its encoding table (R83); none for any other step. -/
def encodeS : Instr → Option Nat
  | .add r a b => some (0x02000000 + dstCode r + selCode a * 2 ^ 10 + selCode b * 2 ^ 4)
  | .sub r a b => some (0x02000001 + dstCode r + selCode a * 2 ^ 10 + selCode b * 2 ^ 4)
  | .and r a b => some (0x02000002 + dstCode r + selCode a * 2 ^ 10 + selCode b * 2 ^ 4)
  | .or r a b => some (0x02000003 + dstCode r + selCode a * 2 ^ 10 + selCode b * 2 ^ 4)
  | .xor r a b => some (0x02000004 + dstCode r + selCode a * 2 ^ 10 + selCode b * 2 ^ 4)
  | .shl r a b => some (0x02000005 + dstCode r + selCode a * 2 ^ 10 + selCode b * 2 ^ 4)
  | .shr r a b => some (0x02000006 + dstCode r + selCode a * 2 ^ 10 + selCode b * 2 ^ 4)
  | .sha r a b => some (0x02000007 + dstCode r + selCode a * 2 ^ 10 + selCode b * 2 ^ 4)
  | .min r a b => some (0x02000008 + dstCode r + selCode a * 2 ^ 10 + selCode b * 2 ^ 4)
  | .max r a b => some (0x02000009 + dstCode r + selCode a * 2 ^ 10 + selCode b * 2 ^ 4)
  | .minn r a b => some (0x0200000a + dstCode r + selCode a * 2 ^ 10 + selCode b * 2 ^ 4)
  | .maxn r a b => some (0x0200000b + dstCode r + selCode a * 2 ^ 10 + selCode b * 2 ^ 4)
  | .clz r a => some (0x0200000c + dstCode r + selCode a * 2 ^ 10)
  | .popc r a => some (0x0200000d + dstCode r + selCode a * 2 ^ 10)
  | .mul r a b => some (0x04000000 + dstCode r + selCode a * 2 ^ 10 + selCode b * 2 ^ 4)
  | .mulh r a b => some (0x04000001 + dstCode r + selCode a * 2 ^ 10 + selCode b * 2 ^ 4)
  | .mulhn r a b => some (0x04000002 + dstCode r + selCode a * 2 ^ 10 + selCode b * 2 ^ 4)
  | .div r a b => some (0x04000003 + dstCode r + selCode a * 2 ^ 10 + selCode b * 2 ^ 4)
  | .divn r a b => some (0x04000004 + dstCode r + selCode a * 2 ^ 10 + selCode b * 2 ^ 4)
  | .rem r a b => some (0x04000005 + dstCode r + selCode a * 2 ^ 10 + selCode b * 2 ^ 4)
  | .remn r a b => some (0x04000006 + dstCode r + selCode a * 2 ^ 10 + selCode b * 2 ^ 4)
  | .cmpEq n l p a b => some (0x06000000 + n.toNat * 2 ^ 24 + l.val * 2 ^ 22 + p.val * 2 ^ 16 + selCode a * 2 ^ 10 + selCode b * 2 ^ 4)
  | .cmpNe n l p a b => some (0x06000001 + n.toNat * 2 ^ 24 + l.val * 2 ^ 22 + p.val * 2 ^ 16 + selCode a * 2 ^ 10 + selCode b * 2 ^ 4)
  | .cmpLt n l p a b => some (0x06000002 + n.toNat * 2 ^ 24 + l.val * 2 ^ 22 + p.val * 2 ^ 16 + selCode a * 2 ^ 10 + selCode b * 2 ^ 4)
  | .cmpLtn n l p a b => some (0x06000003 + n.toNat * 2 ^ 24 + l.val * 2 ^ 22 + p.val * 2 ^ 16 + selCode a * 2 ^ 10 + selCode b * 2 ^ 4)
  | .cmpGe n l p a b => some (0x06000004 + n.toNat * 2 ^ 24 + l.val * 2 ^ 22 + p.val * 2 ^ 16 + selCode a * 2 ^ 10 + selCode b * 2 ^ 4)
  | .cmpGen n l p a b => some (0x06000005 + n.toNat * 2 ^ 24 + l.val * 2 ^ 22 + p.val * 2 ^ 16 + selCode a * 2 ^ 10 + selCode b * 2 ^ 4)
  | .sel r a b inv q => some (0x08000000 + dstCode r + selCode a * 2 ^ 10 + selCode b * 2 ^ 4 + inv.toNat * 2 ^ 3 + q.val)
  | .bfx r a b => some (0x0a000000 + dstCode r + selCode a * 2 ^ 10 + selCode b * 2 ^ 4)
  | .bfi r a b => some (0x0a000001 + dstCode r + selCode a * 2 ^ 10 + selCode b * 2 ^ 4)
  | .addi r i => some (0x10000000 + dstCode r + i.toNat)
  | .andi r i => some (0x12000000 + dstCode r + i.toNat)
  | .ori r i => some (0x14000000 + dstCode r + i.toNat)
  | .xori r i => some (0x16000000 + dstCode r + i.toNat)
  | .shli r i => some (0x18000000 + dstCode r + i.toNat)
  | .shri r i => some (0x1a000000 + dstCode r + i.toNat)
  | .shai r i => some (0x1c000000 + dstCode r + i.toNat)
  | .li r i => some (0x1e000000 + dstCode r + i.toNat)
  | .lih r i => some (0x20000000 + dstCode r + i.toNat)
  | .ld8 r base off => some (0x30000000 + dstCode r + base.val * 2 ^ 10 + off.toNat)
  | .ld8Stream r st => some (0x30008000 + dstCode r + st.val * 2 ^ 12)
  | .ld16 r base off => some (0x32000000 + dstCode r + base.val * 2 ^ 10 + off.toNat)
  | .ld16Stream r st => some (0x32008000 + dstCode r + st.val * 2 ^ 12)
  | .ld32 r base off => some (0x34000000 + dstCode r + base.val * 2 ^ 10 + off.toNat)
  | .ld32Stream r st => some (0x34008000 + dstCode r + st.val * 2 ^ 12)
  | .ld64 r base off => some (0x36000000 + dstCode r + base.val * 2 ^ 10 + off.toNat)
  | .ld64Stream r st => some (0x36008000 + dstCode r + st.val * 2 ^ 12)
  | .st8 d base off => some (0x38000000 + selCode d * 2 ^ 16 + base.val * 2 ^ 10 + off.toNat)
  | .st8Stream d st => some (0x38008000 + selCode d * 2 ^ 16 + st.val * 2 ^ 12)
  | .st16 d base off => some (0x3a000000 + selCode d * 2 ^ 16 + base.val * 2 ^ 10 + off.toNat)
  | .st16Stream d st => some (0x3a008000 + selCode d * 2 ^ 16 + st.val * 2 ^ 12)
  | .st32 d base off => some (0x3c000000 + selCode d * 2 ^ 16 + base.val * 2 ^ 10 + off.toNat)
  | .st32Stream d st => some (0x3c008000 + selCode d * 2 ^ 16 + st.val * 2 ^ 12)
  | .st64 d base off => some (0x3e000000 + selCode d * 2 ^ 16 + base.val * 2 ^ 10 + off.toNat)
  | .st64Stream d st => some (0x3e008000 + selCode d * 2 ^ 16 + st.val * 2 ^ 12)
  | .setk k a => some (0x40000000 + k.val * 2 ^ 16 + selCode a * 2 ^ 10)
  | .seta st a => some (0x42000000 + st.val * 2 ^ 16 + selCode a * 2 ^ 10)
  | .setd st j a => some (0x44000000 + st.val * 2 ^ 18 + j.val * 2 ^ 16 + selCode a * 2 ^ 10)
  | .setlc j a => some (0x46000000 + j.val * 2 ^ 16 + selCode a * 2 ^ 10)
  | .setlb j a b => some (0x48000000 + j.val * 2 ^ 16 + selCode a * 2 ^ 10 + selCode b * 2 ^ 4)
  | .rdid r i => some (0x50000000 + dstCode r + i.toNat)
  | .rdcfg r i => some (0x52000000 + dstCode r + i.toNat)
  | .rdcue r => some (0x54000000 + dstCode r)
  | .rddeck r => some (0x56000000 + dstCode r)
  | _ => none

/-- The words of the va and vb map by its encoding table (R84); none for any other step. -/
def encodeV : Instr → Option Nat
  | .vadd r a b => some (0x02000000 + dstCode r + selCode a * 2 ^ 10 + selCode b * 2 ^ 4)
  | .vsub r a b => some (0x02000001 + dstCode r + selCode a * 2 ^ 10 + selCode b * 2 ^ 4)
  | .vmul r a b => some (0x02000002 + dstCode r + selCode a * 2 ^ 10 + selCode b * 2 ^ 4)
  | .vmulh r a b => some (0x02000003 + dstCode r + selCode a * 2 ^ 10 + selCode b * 2 ^ 4)
  | .vmin r a b => some (0x02000004 + dstCode r + selCode a * 2 ^ 10 + selCode b * 2 ^ 4)
  | .vmax r a b => some (0x02000005 + dstCode r + selCode a * 2 ^ 10 + selCode b * 2 ^ 4)
  | .vminn r a b => some (0x02000006 + dstCode r + selCode a * 2 ^ 10 + selCode b * 2 ^ 4)
  | .vmaxn r a b => some (0x02000007 + dstCode r + selCode a * 2 ^ 10 + selCode b * 2 ^ 4)
  | .vand r a b => some (0x02000008 + dstCode r + selCode a * 2 ^ 10 + selCode b * 2 ^ 4)
  | .vor r a b => some (0x02000009 + dstCode r + selCode a * 2 ^ 10 + selCode b * 2 ^ 4)
  | .vxor r a b => some (0x0200000a + dstCode r + selCode a * 2 ^ 10 + selCode b * 2 ^ 4)
  | .vshl r a b => some (0x0200000b + dstCode r + selCode a * 2 ^ 10 + selCode b * 2 ^ 4)
  | .vshr r a b => some (0x0200000c + dstCode r + selCode a * 2 ^ 10 + selCode b * 2 ^ 4)
  | .vsha r a b => some (0x0200000d + dstCode r + selCode a * 2 ^ 10 + selCode b * 2 ^ 4)
  | .vcmpEq a b => some (0x04000000 + selCode a * 2 ^ 10 + selCode b * 2 ^ 4)
  | .vcmpNe a b => some (0x04000001 + selCode a * 2 ^ 10 + selCode b * 2 ^ 4)
  | .vcmpLt a b => some (0x04000002 + selCode a * 2 ^ 10 + selCode b * 2 ^ 4)
  | .vcmpLtn a b => some (0x04000003 + selCode a * 2 ^ 10 + selCode b * 2 ^ 4)
  | .vcmpGe a b => some (0x04000004 + selCode a * 2 ^ 10 + selCode b * 2 ^ 4)
  | .vcmpGen a b => some (0x04000005 + selCode a * 2 ^ 10 + selCode b * 2 ^ 4)
  | .vcmpFeq a b => some (0x04000008 + selCode a * 2 ^ 10 + selCode b * 2 ^ 4)
  | .vcmpFne a b => some (0x04000009 + selCode a * 2 ^ 10 + selCode b * 2 ^ 4)
  | .vcmpFlt a b => some (0x0400000a + selCode a * 2 ^ 10 + selCode b * 2 ^ 4)
  | .vcmpFge a b => some (0x0400000b + selCode a * 2 ^ 10 + selCode b * 2 ^ 4)
  | .vpushm a => some (0x06000000 + selCode a * 2 ^ 10)
  | .vinvm => some (0x06000001)
  | .vpopm => some (0x06000002)
  | .vsel r a b => some (0x08000000 + dstCode r + selCode a * 2 ^ 10 + selCode b * 2 ^ 4)
  | .vfadd r a b rm => some (0x0a000000 + dstCode r + selCode a * 2 ^ 10 + selCode b * 2 ^ 4 + rndCode rm)
  | .vfsub r a b rm => some (0x0c000000 + dstCode r + selCode a * 2 ^ 10 + selCode b * 2 ^ 4 + rndCode rm)
  | .vfmul r a b rm => some (0x0e000000 + dstCode r + selCode a * 2 ^ 10 + selCode b * 2 ^ 4 + rndCode rm)
  | .vfma r a b rm => some (0x10000000 + dstCode r + selCode a * 2 ^ 10 + selCode b * 2 ^ 4 + rndCode rm)
  | .vfmin r a b => some (0x12000000 + dstCode r + selCode a * 2 ^ 10 + selCode b * 2 ^ 4)
  | .vfmax r a b => some (0x12000001 + dstCode r + selCode a * 2 ^ 10 + selCode b * 2 ^ 4)
  | .vfabs r a => some (0x12000002 + dstCode r + selCode a * 2 ^ 10)
  | .vfneg r a => some (0x12000003 + dstCode r + selCode a * 2 ^ 10)
  | .vcvt r a fr tf rm => some (0x14000000 + dstCode r + selCode a * 2 ^ 10 + cvtFmtCode fr * 2 ^ 7 + cvtFmtCode tf * 2 ^ 4 + rndCode rm)
  | .vqblk r a w rm => some (0x16000000 + dstCode r + selCode a * 2 ^ 10 + widthCode w * 2 ^ 8 + rndCode rm)
  | .vdqblk r a w rm => some (0x18000000 + dstCode r + selCode a * 2 ^ 10 + widthCode w * 2 ^ 8 + rndCode rm)
  | .vmxq r a f rm => some (0x1a000000 + dstCode r + selCode a * 2 ^ 10 + mxFmtCode f * 2 ^ 7 + rndCode rm)
  | .vmxdq r a f rm => some (0x1c000000 + dstCode r + selCode a * 2 ^ 10 + mxFmtCode f * 2 ^ 7 + rndCode rm)
  | .vexp2 r a => some (0x20000000 + dstCode r + selCode a * 2 ^ 10)
  | .vlog2 r a => some (0x20000001 + dstCode r + selCode a * 2 ^ 10)
  | .vrcp r a => some (0x20000002 + dstCode r + selCode a * 2 ^ 10)
  | .vrsq r a => some (0x20000003 + dstCode r + selCode a * 2 ^ 10)
  | .vtanh r a => some (0x20000004 + dstCode r + selCode a * 2 ^ 10)
  | .vredadd r a ty => some (0x22000000 + dstCode r + selCode a * 2 ^ 10 + redTyCode ty * 2 ^ 2)
  | .vredmax r a ty => some (0x22000001 + dstCode r + selCode a * 2 ^ 10 + redTyCode ty * 2 ^ 2)
  | .vredmin r a ty => some (0x22000002 + dstCode r + selCode a * 2 ^ 10 + redTyCode ty * 2 ^ 2)
  | .vscan r a ty => some (0x22000003 + dstCode r + selCode a * 2 ^ 10 + redTyCode ty * 2 ^ 2)
  | .vperm r a b => some (0x24000000 + dstCode r + selCode a * 2 ^ 10 + selCode b * 2 ^ 4)
  | .vshuf r a b => some (0x24000001 + dstCode r + selCode a * 2 ^ 10 + selCode b * 2 ^ 4)
  | .vbcast r a b => some (0x24000002 + dstCode r + selCode a * 2 ^ 10 + selCode b * 2 ^ 4)
  | .vins r a b => some (0x24000003 + dstCode r + selCode a * 2 ^ 10 + selCode b * 2 ^ 4)
  | .vext r a b => some (0x24000004 + dstCode r + selCode a * 2 ^ 10 + selCode b * 2 ^ 4)
  | .vlidx r a b => some (0x24000005 + dstCode r + selCode a * 2 ^ 10 + selCode b * 2 ^ 4)
  | .vld r base off => some (0x30000000 + dstCode r + base.val * 2 ^ 10 + off.toNat)
  | .vldStream r st => some (0x30008000 + dstCode r + st.val * 2 ^ 12)
  | .vst d base off => some (0x32000000 + selCode d * 2 ^ 16 + base.val * 2 ^ 10 + off.toNat)
  | .vstStream d st => some (0x32008000 + selCode d * 2 ^ 16 + st.val * 2 ^ 12)
  | .vldx r a b => some (0x34000000 + dstCode r + selCode a * 2 ^ 10 + selCode b * 2 ^ 4)
  | .vstx d a b => some (0x36000000 + selCode d * 2 ^ 16 + selCode a * 2 ^ 10 + selCode b * 2 ^ 4)
  | _ => none

/-- The words of the m map by its encoding table (R85); none for any other step. -/
def encodeM : Instr → Option Nat
  | .mloadbW a => some (0x02000000 + selCode a * 2 ^ 10)
  | .mloadbS row a => some (0x04000000 + row.val * 2 ^ 16 + selCode a * 2 ^ 10)
  | .mpush set row a wa wb sp step => some (0x06000000 + set.val * 2 ^ 21 + row.val * 2 ^ 16 + selCode a * 2 ^ 10 + widthCode wa * 2 ^ 8 + widthCode wb * 2 ^ 6 + sp.toNat * 2 ^ 3 + step.val)
  | .mshift b => some (0x08000000 + b.toNat * 2 ^ 4)
  | .macc set row => some (0x0a000001 + set.val * 2 ^ 21 + row.val * 2 ^ 16)
  | .maccDrop set row => some (0x0a000000 + set.val * 2 ^ 21 + row.val * 2 ^ 16)
  | .mscale a => some (0x0c000000 + selCode a * 2 ^ 10)
  | .mzero set => some (0x0e000000 + set.val * 2 ^ 21)
  | .mdrain r set row f => some (0x10000000 + dstCode r + set.val * 2 ^ 15 + row.val * 2 ^ 10 + drainFmtCode f)
  | .mmode syn sp pw => some (0x12000000 + syn.toNat * 2 ^ 3 + sp.toNat * 2 ^ 2 + widthCode pw)
  | .msparse a => some (0x14000000 + selCode a * 2 ^ 10)
  | .mflags r set => some (0x16000000 + dstCode r + set.val * 2 ^ 15)
  | _ => none

/-- The words of the xa and xb map by its encoding table (R86); none for any other step. -/
def encodeX : Instr → Option Nat
  | .flyRd g kg => some (0x02000000 + g.p.val * 2 ^ 19 + g.inv.toNat * 2 ^ 18 + kg.val * 2 ^ 15)
  | .flyWr g kg => some (0x04000000 + g.p.val * 2 ^ 19 + g.inv.toNat * 2 ^ 18 + kg.val * 2 ^ 15)
  | .flyRd2 g kg => some (0x06000000 + g.p.val * 2 ^ 19 + g.inv.toNat * 2 ^ 18 + kg.val * 2 ^ 15)
  | .flyWr2 g kg => some (0x08000000 + g.p.val * 2 ^ 19 + g.inv.toNat * 2 ^ 18 + kg.val * 2 ^ 15)
  | .acopyRd g kg sc => some (0x10000000 + g.p.val * 2 ^ 19 + g.inv.toNat * 2 ^ 18 + kg.val * 2 ^ 15 + scopeCode sc * 2 ^ 12)
  | .acopyWr g kg sc => some (0x12000000 + g.p.val * 2 ^ 19 + g.inv.toNat * 2 ^ 18 + kg.val * 2 ^ 15 + scopeCode sc * 2 ^ 12)
  | .acopy2d g kg sc => some (0x14000000 + g.p.val * 2 ^ 19 + g.inv.toNat * 2 ^ 18 + kg.val * 2 ^ 15 + scopeCode sc * 2 ^ 12)
  | .qmark g sc => some (0x16000000 + g.p.val * 2 ^ 19 + g.inv.toNat * 2 ^ 18 + scopeCode sc * 2 ^ 12)
  | .xcopy g kg rm => some (0x18000000 + g.p.val * 2 ^ 19 + g.inv.toNat * 2 ^ 18 + kg.val * 2 ^ 15 + rndCode rm)
  | .xfill g kg => some (0x1a000000 + g.p.val * 2 ^ 19 + g.inv.toNat * 2 ^ 18 + kg.val * 2 ^ 15)
  | .give g kg o => some (0x20000000 + g.p.val * 2 ^ 19 + g.inv.toNat * 2 ^ 18 + kg.val * 2 ^ 15 + o.val * 2 ^ 4)
  | .ownq l g kg => some (0x22000000 + l.val * 2 ^ 22 + g.p.val * 2 ^ 19 + g.inv.toNat * 2 ^ 18 + kg.val * 2 ^ 15)
  | .wheelLd l g kg => some (0x28000000 + l.val * 2 ^ 22 + g.p.val * 2 ^ 19 + g.inv.toNat * 2 ^ 18 + kg.val * 2 ^ 15)
  | .wheelSt g kg => some (0x2a000000 + g.p.val * 2 ^ 19 + g.inv.toNat * 2 ^ 18 + kg.val * 2 ^ 15)
  | .wheelAdd l g kg => some (0x2c000000 + l.val * 2 ^ 22 + g.p.val * 2 ^ 19 + g.inv.toNat * 2 ^ 18 + kg.val * 2 ^ 15)
  | .wheelXchg l g kg => some (0x2e000000 + l.val * 2 ^ 22 + g.p.val * 2 ^ 19 + g.inv.toNat * 2 ^ 18 + kg.val * 2 ^ 15)
  | .wheelCas l g kg => some (0x30000000 + l.val * 2 ^ 22 + g.p.val * 2 ^ 19 + g.inv.toNat * 2 ^ 18 + kg.val * 2 ^ 15)
  | .mbput g kg => some (0x34000000 + g.p.val * 2 ^ 19 + g.inv.toNat * 2 ^ 18 + kg.val * 2 ^ 15)
  | .mbget l g kg => some (0x36000000 + l.val * 2 ^ 22 + g.p.val * 2 ^ 19 + g.inv.toNat * 2 ^ 18 + kg.val * 2 ^ 15)
  | .chorusAr g kg sc op => some (0x40000000 + g.p.val * 2 ^ 19 + g.inv.toNat * 2 ^ 18 + kg.val * 2 ^ 15 + scopeCode sc * 2 ^ 12 + cOpCode op)
  | .chorusAg g kg sc => some (0x42000000 + g.p.val * 2 ^ 19 + g.inv.toNat * 2 ^ 18 + kg.val * 2 ^ 15 + scopeCode sc * 2 ^ 12)
  | .chorusRs g kg sc op => some (0x44000000 + g.p.val * 2 ^ 19 + g.inv.toNat * 2 ^ 18 + kg.val * 2 ^ 15 + scopeCode sc * 2 ^ 12 + cOpCode op)
  | .chorusBc g kg sc => some (0x46000000 + g.p.val * 2 ^ 19 + g.inv.toNat * 2 ^ 18 + kg.val * 2 ^ 15 + scopeCode sc * 2 ^ 12)
  | .chorusBar g kg sc => some (0x48000000 + g.p.val * 2 ^ 19 + g.inv.toNat * 2 ^ 18 + kg.val * 2 ^ 15 + scopeCode sc * 2 ^ 12)
  | .chorusReady g kg sc => some (0x4a000000 + g.p.val * 2 ^ 19 + g.inv.toNat * 2 ^ 18 + kg.val * 2 ^ 15 + scopeCode sc * 2 ^ 12)
  | .chorusCombine g kg sc op => some (0x4c000000 + g.p.val * 2 ^ 19 + g.inv.toNat * 2 ^ 18 + kg.val * 2 ^ 15 + scopeCode sc * 2 ^ 12 + cOpCode op)
  | .chorusJoin g kg sc => some (0x4e000000 + g.p.val * 2 ^ 19 + g.inv.toNat * 2 ^ 18 + kg.val * 2 ^ 15 + scopeCode sc * 2 ^ 12)
  | .chorusLeave g kg sc => some (0x50000000 + g.p.val * 2 ^ 19 + g.inv.toNat * 2 ^ 18 + kg.val * 2 ^ 15 + scopeCode sc * 2 ^ 12)
  | .siteq l g st => some (0x58000000 + l.val * 2 ^ 22 + g.p.val * 2 ^ 19 + g.inv.toNat * 2 ^ 18 + st.val * 2 ^ 4)
  | _ => none

/-- The words of the f map by its encoding table (R87); none for any other step. -/
def encodeF : Instr → Option Nat
  | .hop a side w => some (0x02000000 + selCode a * 2 ^ 10 + sideCode side * 2 ^ 7 + w.toNat * 2 ^ 6)
  | .hopPass side w fr => some (0x02000008 + sideCode side * 2 ^ 7 + w.toNat * 2 ^ 6 + sideCode fr)
  | .recv r side w => some (0x04000000 + dstCode r + sideCode side * 2 ^ 7 + w.toNat * 2 ^ 6)
  | .xsend a side w ch => some (0x06000000 + selCode a * 2 ^ 10 + sideCode side * 2 ^ 7 + w.toNat * 2 ^ 6 + ch.val)
  | .xrecv r side w ch => some (0x08000000 + dstCode r + sideCode side * 2 ^ 7 + w.toNat * 2 ^ 6 + ch.val)
  | .bandq r a => some (0x0a000000 + dstCode r + selCode a * 2 ^ 10)
  | .cuetrim => some (0x0c000000)
  | .castKey a b => some (0x20000000 + selCode a * 2 ^ 10 + selCode b * 2 ^ 4)
  | .castRand r a => some (0x22000000 + dstCode r + selCode a * 2 ^ 10)
  | .castUnif r a => some (0x24000000 + dstCode r + selCode a * 2 ^ 10)
  | .castScore r a => some (0x26000000 + dstCode r + selCode a * 2 ^ 10)
  | .castTopkK a b => some (0x28000000 + selCode a * 2 ^ 10 + selCode b * 2 ^ 4)
  | .castTopkP a b => some (0x28000001 + selCode a * 2 ^ 10 + selCode b * 2 ^ 4)
  | .castMass r => some (0x2a000000 + dstCode r)
  | .castPick r a => some (0x2c000000 + dstCode r + selCode a * 2 ^ 10)
  | .castClr => some (0x2e000000)
  | _ => none

/-- The word of an instruction by the encoding tables R82 to R87; none for an event, which has no word (R71 for NOP). -/
def encode (i : Instr) : Option Nat :=
  if i = .nop then some 0
  else (encodeC i).or ((encodeS i).or ((encodeV i).or ((encodeM i).or ((encodeX i).or (encodeF i)))))

/-- Words of one slot, and the slot's kind, in which the opcode table's words are tried: a 32-bit word alone does not say its slot
(03 R70: the slot is its place in the bundle), and one word may be legal in several. DESIGN CHOICE, safe: log 7. -/
def tableSlots : List Slot := [.va, .s, .m, .xa, .f, .c]

/-- Rows of the opcode table as (match, mask, slot), part 1 (log 7). -/
def tableRows1 : List (Nat × Nat × Slot) :=
  [(0x0, 0xffffffff, .c), (0x2000000, 0xffffffff, .c), (0x34000000, 0xffffffff, .c), (0x6000001, 0xffffffff, .va),
   (0x6000002, 0xffffffff, .va), (0xc000000, 0xffffffff, .f), (0x2e000000, 0xffffffff, .f), (0xe000000, 0xffdfffff, .m),
   (0x10000000, 0xfe1fffff, .c), (0x3c000000, 0xfe1fffff, .c), (0x12000000, 0xfffffff0, .m), (0x20000000, 0xffc0ffff, .c),
   (0x24000000, 0xffc0ffff, .c), (0x6000000, 0xffff03ff, .va), (0x2000000, 0xffff03ff, .m), (0x8000000, 0xfffffc0f, .m),
   (0xa000001, 0xffc0ffff, .m), (0xa000000, 0xffc0ffff, .m), (0xc000000, 0xffff03ff, .m), (0x14000000, 0xffff03ff, .m),
   (0x2000008, 0xfffffc3c, .f), (0x2000000, 0xffc07fff, .xa), (0x4000000, 0xffc07fff, .xa), (0x6000000, 0xffc07fff, .xa),
   (0x8000000, 0xffc07fff, .xa), (0x16000000, 0xffc38fff, .xa), (0x1a000000, 0xffc07fff, .xa), (0x2a000000, 0xffc07fff, .xa),
   (0x34000000, 0xffc07fff, .xa), (0x46000000, 0xfffc03ff, .s), (0x38008000, 0xffc08fff, .s), (0x3a008000, 0xffc08fff, .s),
   (0x3c008000, 0xffc08fff, .s), (0x3e008000, 0xffc08fff, .s), (0x42000000, 0xfff803ff, .s)]

/-- Rows of the opcode table as (match, mask, slot), part 2 (log 7). -/
def tableRows2 : List (Nat × Nat × Slot) :=
  [(0x54000000, 0xfe00ffff, .s), (0x56000000, 0xfe00ffff, .s), (0x32008000, 0xffc08fff, .va), (0x22000000, 0xff007fff, .xa),
   (0x28000000, 0xff007fff, .xa), (0x2c000000, 0xff007fff, .xa), (0x2e000000, 0xff007fff, .xa), (0x30000000, 0xff007fff, .xa),
   (0x36000000, 0xff007fff, .xa), (0x2a000000, 0xfe00ffff, .f), (0x16000000, 0xfe007fff, .m), (0x10000000, 0xffc00fff, .xa),
   (0x12000000, 0xffc00fff, .xa), (0x14000000, 0xffc00fff, .xa), (0x18000000, 0xffc07ff8, .xa), (0x42000000, 0xffc00fff, .xa),
   (0x46000000, 0xffc00fff, .xa), (0x48000000, 0xffc00fff, .xa), (0x4a000000, 0xffc00fff, .xa), (0x4e000000, 0xffc00fff, .xa),
   (0x50000000, 0xffc00fff, .xa), (0x2000000, 0xffff003f, .f), (0x8000000, 0xfffff800, .c), (0x30000000, 0xfffff800, .c),
   (0x38000000, 0xfffff800, .c), (0x44000000, 0xffe003ff, .s), (0x4000000, 0xffe003ff, .m), (0x20000000, 0xffc07f0f, .xa),
   (0x58000000, 0xff03fe0f, .xa), (0x30008000, 0xfe008fff, .s), (0x32008000, 0xfe008fff, .s), (0x34008000, 0xfe008fff, .s),
   (0x36008000, 0xfe008fff, .s), (0x40000000, 0xffc003ff, .s), (0x4000000, 0xffff000f, .va)]

/-- Rows of the opcode table as (match, mask, slot), part 3 (log 7). -/
def tableRows3 : List (Nat × Nat × Slot) :=
  [(0x4000001, 0xffff000f, .va), (0x4000002, 0xffff000f, .va), (0x4000003, 0xffff000f, .va), (0x4000004, 0xffff000f, .va),
   (0x4000005, 0xffff000f, .va), (0x4000008, 0xffff000f, .va), (0x4000009, 0xffff000f, .va), (0x400000a, 0xffff000f, .va),
   (0x400000b, 0xffff000f, .va), (0x30008000, 0xfe008fff, .va), (0x40000000, 0xffc00ffc, .xa), (0x44000000, 0xffc00ffc, .xa),
   (0x4c000000, 0xffc00ffc, .xa), (0x20000000, 0xffff000f, .f), (0x28000000, 0xffff000f, .f), (0x28000001, 0xffff000f, .f),
   (0x4000000, 0xfe00fc3f, .f), (0x6000000, 0xffff0038, .f), (0x48000000, 0xfffc000f, .s), (0xa000000, 0xfe1ff800, .c),
   (0xe000000, 0xfe1ff800, .c), (0x200000c, 0xfe0003ff, .s), (0x200000d, 0xfe0003ff, .s), (0x18000000, 0xfe00ffc0, .s),
   (0x1a000000, 0xfe00ffc0, .s), (0x1c000000, 0xfe00ffc0, .s), (0x12000002, 0xfe0003ff, .va), (0x12000003, 0xfe0003ff, .va),
   (0x20000000, 0xfe0003ff, .va), (0x20000001, 0xfe0003ff, .va), (0x20000002, 0xfe0003ff, .va), (0x20000003, 0xfe0003ff, .va),
   (0x20000004, 0xfe0003ff, .va), (0xa000000, 0xfe0003ff, .f), (0x22000000, 0xfe0003ff, .f)]

/-- Rows of the opcode table as (match, mask, slot), part 4 (log 7). -/
def tableRows4 : List (Nat × Nat × Slot) :=
  [(0x24000000, 0xfe0003ff, .f), (0x26000000, 0xfe0003ff, .f), (0x2c000000, 0xfe0003ff, .f), (0x4000000, 0xffff0000, .c),
   (0x22000000, 0xffff0000, .c), (0x2a000000, 0xffff0000, .c), (0x36000000, 0xffff0000, .c), (0x8000000, 0xfe00fc38, .f),
   (0xc000000, 0xffc0f800, .c), (0x22000000, 0xfe0003f3, .va), (0x22000001, 0xfe0003f3, .va), (0x22000002, 0xfe0003f3, .va),
   (0x22000003, 0xfe0003f3, .va), (0x10000000, 0xfe0003fc, .m), (0x1a000000, 0xfe7f0000, .c), (0x6000000, 0xfe38000f, .s),
   (0x6000001, 0xfe38000f, .s), (0x6000002, 0xfe38000f, .s), (0x6000003, 0xfe38000f, .s), (0x6000004, 0xfe38000f, .s),
   (0x6000005, 0xfe38000f, .s), (0x36000000, 0xffc0000f, .va), (0x28000000, 0xfe1f0000, .c), (0x16000000, 0xfe0000f8, .va),
   (0x18000000, 0xfe0000f8, .va), (0x6000000, 0xffc00030, .m), (0x1c000000, 0xfe0f0000, .c), (0x2000000, 0xfe00000f, .s),
   (0x2000001, 0xfe00000f, .s), (0x2000002, 0xfe00000f, .s), (0x2000003, 0xfe00000f, .s), (0x2000004, 0xfe00000f, .s),
   (0x2000005, 0xfe00000f, .s), (0x2000006, 0xfe00000f, .s), (0x2000007, 0xfe00000f, .s)]

/-- Rows of the opcode table as (match, mask, slot), part 5 (log 7). -/
def tableRows5 : List (Nat × Nat × Slot) :=
  [(0x2000008, 0xfe00000f, .s), (0x2000009, 0xfe00000f, .s), (0x200000a, 0xfe00000f, .s), (0x200000b, 0xfe00000f, .s),
   (0x4000000, 0xfe00000f, .s), (0x4000001, 0xfe00000f, .s), (0x4000002, 0xfe00000f, .s), (0x4000003, 0xfe00000f, .s),
   (0x4000004, 0xfe00000f, .s), (0x4000005, 0xfe00000f, .s), (0x4000006, 0xfe00000f, .s), (0xa000000, 0xfe00000f, .s),
   (0xa000001, 0xfe00000f, .s), (0x38000000, 0xffc08000, .s), (0x3a000000, 0xffc08000, .s), (0x3c000000, 0xffc08000, .s),
   (0x3e000000, 0xffc08000, .s), (0x2000000, 0xfe00000f, .va), (0x2000001, 0xfe00000f, .va), (0x2000002, 0xfe00000f, .va),
   (0x2000003, 0xfe00000f, .va), (0x2000004, 0xfe00000f, .va), (0x2000005, 0xfe00000f, .va), (0x2000006, 0xfe00000f, .va),
   (0x2000007, 0xfe00000f, .va), (0x2000008, 0xfe00000f, .va), (0x2000009, 0xfe00000f, .va), (0x200000a, 0xfe00000f, .va),
   (0x200000b, 0xfe00000f, .va), (0x200000c, 0xfe00000f, .va), (0x200000d, 0xfe00000f, .va), (0x8000000, 0xfe00000f, .va),
   (0x12000000, 0xfe00000f, .va), (0x12000001, 0xfe00000f, .va), (0x1a000000, 0xfe000078, .va)]

/-- Rows of the opcode table as (match, mask, slot), part 6 (log 7). -/
def tableRows6 : List (Nat × Nat × Slot) :=
  [(0x1c000000, 0xfe000078, .va), (0x24000000, 0xfe00000f, .va), (0x24000001, 0xfe00000f, .va), (0x24000002, 0xfe00000f, .va),
   (0x24000003, 0xfe00000f, .va), (0x24000004, 0xfe00000f, .va), (0x24000005, 0xfe00000f, .va), (0x32000000, 0xffc08000, .va),
   (0x34000000, 0xfe00000f, .va), (0x2c000000, 0xfe010000, .c), (0x30000000, 0xfe008000, .s), (0x32000000, 0xfe008000, .s),
   (0x34000000, 0xfe008000, .s), (0x36000000, 0xfe008000, .s), (0xa000000, 0xfe000008, .va), (0xc000000, 0xfe000008, .va),
   (0xe000000, 0xfe000008, .va), (0x10000000, 0xfe000008, .va), (0x14000000, 0xfe000008, .va), (0x30000000, 0xfe008000, .va),
   (0x18000000, 0xfe000000, .c), (0x8000000, 0xfe000000, .s), (0x10000000, 0xfe000000, .s), (0x12000000, 0xfe000000, .s),
   (0x14000000, 0xfe000000, .s), (0x16000000, 0xfe000000, .s), (0x1e000000, 0xfe000000, .s), (0x20000000, 0xfe000000, .s),
   (0x50000000, 0xfe000000, .s), (0x52000000, 0xfe000000, .s)]

/-- The rows of the opcode table that are slot words, those with most fixed bits first (log 7). -/
def tableRows : List (Nat × Nat × Slot) := tableRows1 ++ tableRows2 ++ tableRows3 ++ tableRows4 ++ tableRows5 ++ tableRows6

/-- The slot a word of the opcode table is read in: for a row's word with every field zero the first slot of `tableSlots` in which it is
legal, for any other the slot of the legal row with most fixed bits (log 7). -/
def tableSlot (w : Nat) : Option Slot :=
  if tableRows.any fun r => r.1 == w then tableSlots.find? fun sl => (decode sl w).isSome
  else (tableRows.find? fun r => (w &&& r.2.1) == r.1 && (decode r.2.2 w).isSome).map fun r => r.2.2

/-- The instruction read from the first `nbits` bits of a word, the rest zero (log 7). -/
def decodeTableWord (nbits w : Nat) : Option Instr :=
  if nbits ≤ 32 ∧ w < 2 ^ 32 then (tableSlot w).bind fun sl => decode sl w else none

end Sys2Proof
end

