-- ==== Sys2Proof/Config.lean ====
section
/-! DEFINITION. Figures of the part (spec 00) and the free values: opaque constants with no body, so that nothing can evaluate them or
prove a value of them (logs 2, 5, 9). A statement about one holds whatever it is. -/
namespace Sys2Proof.Config

/-- A choice the manual leaves open, drawn at one value of the counter `State.free` (log 5). -/
opaque freeNat : Nat → Nat

/-- A yes or no the manual leaves open (log 5). -/
opaque freeBool : Nat → Bool

/-- A byte of host memory the host has not written in the model's view, by port and bus address (log 2). -/
opaque hostByte : Nat → Nat → Byte

/-- SHA3-512 of a string of bytes (14 R353, R354, R357; log 9). -/
opaque sha3 : List Byte → BitVec 512

/-- Whether an ML-DSA-87 signature over a digest verifies under a public key: key, digest, signature (14 R353, R354; log 9). -/
opaque verifies : List Byte → BitVec 512 → List Byte → Bool

/-- The vendor's public key (14 R353, R354; log 9). -/
opaque vendorKey : List Byte

/-- The signature over a digest by the identity key that a service module's PUF and helper data give (14 R357; log 9). -/
opaque identitySign : Nat → List Byte → BitVec 512 → List Byte

/-- The digest of the public key that a service module's PUF and helper data give (14 R357; log 9). -/
opaque identityDigest : Nat → List Byte → BitVec 512

/-- The digest of the mask ROM (14 R357; log 9). -/
opaque romDigest : BitVec 512

/-- The signature a firmware image or a signed binary carries, its security version, and the digest of its leaf firmware (14 R346,
R353, R354, R358; log 9). -/
opaque imageSignature : List Byte → List Byte
opaque imageVersion : List Byte → BitVec 32
opaque leafDigest : List Byte → BitVec 512

/-- Rows, columns and grade of a gang, for which the image has no place in R93: image, gang (log 23). -/
opaque gangRows : List Byte → Nat → Nat
opaque gangCols : List Byte → Nat → Nat
opaque gangGrade : List Byte → Nat → Nat

/-- The scratchpad address of a data section, for which its directory entry has no place: image, entry (log 23). -/
opaque dataAddress : List Byte → Nat → Nat

/-- The deck range of a peer in the payload of a Peers record: first address, length; a length of zero for none (14 R361; log 9). -/
opaque peerBase : List Byte → Nat → Nat
opaque peerLength : List Byte → Nat → Nat

/-- A peer's address, queue pair and local port in the payload of a Peers record (14 R361; log 9). -/
opaque peerAddress : List Byte → Nat → BitVec 128
opaque peerPair : List Byte → Nat → BitVec 24
opaque peerPort : List Byte → Nat → BitVec 3

/-- A byte of the defect map in the configuration record that a module brings along: the module, region, physical row (12 R305; log 76). -/
opaque cardByte : Nat → Nat → Nat → Byte

/-- The voltage of an island at a reef level from a module's configuration record, in millivolts: the module, region, island, level (15 R365; log
9). -/
opaque islandVolts : Nat → Nat → Nat → Nat → BitVec 12

/-- The retention voltage of an island of a module, in millivolts (15 R365; log 9). -/
opaque retentionVolts : Nat → Nat → Nat → BitVec 12

/-- Cycles of the calendar of the weight store and of one slice's turn (10 R266). -/
def refreshPeriod : Nat := 16384

/-- Positions of the wheel (07 R195). -/
def wheelPositions : Nat := 8192

/-- Bytes of a site's window, and of the populated range of a compute and of a memory site (00 R3). -/
def siteWindow : Nat := 0x10000000000

/-- Populated bytes of a compute site (00 R3). -/
def computeBytes : Nat := 0x6000000000

/-- Populated bytes of a memory site (00 R3). -/
def memoryBytes : Nat := 0x8000000000

/-- Bytes of a tile's weight store (00 R4, 10 R265). -/
def weightBytes : Nat := 0x400000

/-- Lead of a site transition (13 R327), of an overlay entry (09 R245), of a freeze (09 R251), of a hold (09 R242). -/
def transitionLead : Nat := 4096

/-- Lead of an overlay entry over its MARK.OV (09 R245). -/
def overlayLead : Nat := 4096

/-- Lead of a freeze announcement (09 R251). -/
def freezeLead : Nat := 2048

/-- Lead of a hold announcement (09 R242). -/
def holdLead : Nat := 256

end Sys2Proof.Config
end

