-- ==== Sys2Proof/Machine/Bits.lean ====
section
/-! DEFINITION. Lanes, bytes and fields of words (01 R17, R21; 00 R9; 02 R44). -/
namespace Sys2Proof.Machine

/-- Bits `hi` to `lo` of a 64-bit word as a number (00 R9). -/
def bits (w : W64) (hi lo : Nat) : Nat := w.toNat / 2 ^ lo % 2 ^ (hi + 1 - lo)

/-- Bit `i` of a word. -/
def bit (w : W64) (i : Nat) : Bool := w.getLsbD i

/-- The signed value of the low `n` bits of `x` (02 R44). -/
def sextNat (n x : Nat) : Int := if 2 * (x % 2 ^ n) < 2 ^ n then (x % 2 ^ n : Nat) else (x % 2 ^ n : Nat) - (2 ^ n : Nat)

/-- Lane `i` of a vector image (01 R17). -/
def lane (v : Vec) (i : Nat) : W32 := v.extractLsb' (32 * i) 32

/-- The first `n` lanes of `f` as one number. -/
def lanesNat (f : Nat → W32) : Nat → Nat
  | 0 => 0
  | n + 1 => lanesNat f n + (f n).toNat * 2 ^ (32 * n)

/-- The image whose lane `i` is `f i` (01 R17). -/
def ofLanes (f : Nat → W32) : Vec := BitVec.ofNat 2048 (lanesNat f 64)

/-- Lanes taken from `new` where the mask enables them, kept from `old` elsewhere (01 R19). -/
def blend (mask : W64) (old new : Vec) : Vec := ofLanes fun i => if mask.getLsbD i then lane new i else lane old i

/-- A 64-bit value read by a vector slot: low half in even lanes, high half in odd lanes (01 R21). -/
def broadcast (x : W64) : Vec := ofLanes fun i => if i % 2 = 0 then x.extractLsb' 0 32 else x.extractLsb' 32 32

/-- A vector read by a 64-bit slot: lanes 1:0, lane 0 low (01 R21). -/
def low64 (v : Vec) : W64 := v.extractLsb' 0 64

/-- A 64-bit value in lanes 1:0, every other lane zero (08 R207). -/
def inLow (x : W64) : Vec := x.setWidth 2048

/-- Two lanes, every other lane zero (08 R226, R230). -/
def twoLanes (a b : W32) : Vec := inLow (b ++ a)

/-- Byte `q` of an image (05 R148). -/
def byteOf (v : Vec) (q : Nat) : Byte := v.extractLsb' (8 * q) 8

/-- The first `n` bytes of a number, least significant first (02 R44). -/
def leBytes : Nat → Nat → List Byte
  | 0, _ => []
  | n + 1, x => BitVec.ofNat 8 x :: leBytes n (x / 256)

/-- The number whose little-endian bytes are these (02 R44). -/
def leNat : List Byte → Nat
  | [] => 0
  | b :: r => b.toNat + 256 * leNat r

/-- Lanes as truth values in a 64-bit mask (01 R18). -/
def maskOf (f : Nat → Bool) : Nat → W64
  | 0 => 0
  | n + 1 => maskOf f n ||| (if f n then (1#64 <<< n) else 0)

/-- The bits of a number that is a list of flags, lowest first. -/
def flagsNat : List Bool → Nat
  | [] => 0
  | b :: r => b.toNat + 2 * flagsNat r

end Sys2Proof.Machine
end

