-- ==== Sys2Proof/Machine/Num.lean ====
section
/-! DEFINITION. Number formats, rounding, conversion and the random integers of stochastic rounding (spec 02). A finite value is held
exactly as (-1)^neg × m × 2^e. -/
namespace Sys2Proof.Machine

/-- A value read from a format: NaN, infinity, or an exact finite value with its sign (R45, R46). -/
inductive Val where
  | nan
  | inf (neg : Bool)
  | fin (neg : Bool) (m : Nat) (e : Int)
  deriving DecidableEq, Repr

/-- How a format uses its top exponent: IEEE specials, E4M3's single NaN, or no specials at all (R46, R59). -/
inductive Top where
  | ieee | e4m3 | plain
  deriving DecidableEq, Repr

/-- A floating-point layout: fraction bits, exponent bits, bias, specials, whether R53 flushes it (R45, R59). -/
structure FpFmt where
  f : Nat
  x : Nat
  bias : Nat
  top : Top
  ieee3 : Bool
  deriving DecidableEq, Repr

def fp32 : FpFmt := ⟨23, 8, 127, .ieee, true⟩
def bf16 : FpFmt := ⟨7, 8, 127, .ieee, true⟩
def fp16 : FpFmt := ⟨10, 5, 15, .ieee, true⟩
def e4m3 : FpFmt := ⟨3, 4, 7, .e4m3, false⟩
def e5m2 : FpFmt := ⟨2, 5, 15, .ieee, false⟩
def e2m3 : FpFmt := ⟨3, 2, 1, .plain, false⟩
def e3m2 : FpFmt := ⟨2, 3, 3, .plain, false⟩
def e2m1 : FpFmt := ⟨1, 2, 1, .plain, false⟩

/-- Position of the highest set bit (0 for 0). -/
def ilog2 (m : Nat) : Nat := m.log2

/-- The value of an encoding (R45, R46, R59). -/
def fpDecode (t : FpFmt) (w : Nat) : Val :=
  let f := w % 2 ^ t.f
  let e := w / 2 ^ t.f % 2 ^ t.x
  let s := w / 2 ^ (t.f + t.x) % 2 == 1
  if t.top == .ieee && e == 2 ^ t.x - 1 then (if f == 0 then .inf s else .nan)
  else if t.top == .e4m3 && e == 2 ^ t.x - 1 && f == 2 ^ t.f - 1 then .nan
  else if e == 0 then .fin s f (1 - (t.bias : Int) - t.f)
  else .fin s (2 ^ t.f + f) ((e : Int) - t.bias - t.f)

/-- Top exponent field of a finite value. -/
def FpFmt.topExp (t : FpFmt) : Nat := if t.top == .ieee then 2 ^ t.x - 2 else 2 ^ t.x - 1

/-- The largest finite magnitude as an encoding without sign (R45, R59). -/
def FpFmt.maxEnc (t : FpFmt) : Nat :=
  t.topExp * 2 ^ t.f + (if t.top == .e4m3 then 2 ^ t.f - 2 else 2 ^ t.f - 1)

/-- The canonical NaN (R46): quiet bit of an IEEE layout, 0x7f for E4M3; a layout without NaN never asks for one. -/
def FpFmt.nanEnc (t : FpFmt) : Nat :=
  if t.top == .e4m3 then 0x7f else (2 ^ t.x - 1) * 2 ^ t.f + 2 ^ (t.f - 1)

/-- The encoding of an infinity of an IEEE layout (R46). -/
def FpFmt.infEnc (t : FpFmt) : Nat := (2 ^ t.x - 1) * 2 ^ t.f

/-- The sign bit of a layout. -/
def FpFmt.signBit (t : FpFmt) (neg : Bool) : Nat := if neg then 2 ^ (t.f + t.x) else 0

/-- Whether `m / 2^k` rounds away from its floor, for `m` not a multiple of `2^k` (R49; R51 for SR, by the 24-bit integer `rb`). -/
def roundsUp (mode : Rnd) (neg : Bool) (m k rb : Nat) : Bool :=
  let lo := m / 2 ^ k
  let rem := m % 2 ^ k
  match mode with
  | .rne => decide (2 ^ k < 2 * rem) || (decide (2 * rem = 2 ^ k) && lo % 2 == 1)
  | .rz => false
  | .ru => !neg
  | .rd => neg
  | .sr => decide (2 ^ 24 ≤ rem * 2 ^ 24 / 2 ^ k + rb)

/-- The integer multiple of `2^q` to which a magnitude rounds (R49, R51). -/
def roundQuantum (mode : Rnd) (neg : Bool) (m : Nat) (e q : Int) (rb : Nat) : Nat :=
  if q ≤ e then m * 2 ^ (e - q).toNat
  else
    let k := (q - e).toNat
    if m % 2 ^ k == 0 then m / 2 ^ k
    else m / 2 ^ k + (roundsUp mode neg m k rb).toNat

/-- The exponent of the grid of a layout around a magnitude `m × 2^e`, the exponent unbounded above (R49). -/
def FpFmt.quantum (t : FpFmt) (m : Nat) (e : Int) : Int :=
  max ((ilog2 m : Int) + e - t.f) (1 - (t.bias : Int) - t.f)

/-- The encoding, without sign, of `n × 2^q` on the grid of a layout; at or above `2^(x)` exponent fields it is beyond the format. -/
def FpFmt.encMag (t : FpFmt) (n : Nat) (q : Int) : Nat :=
  (q - (1 - (t.bias : Int) - t.f)).toNat * 2 ^ t.f + n

/-- What a rounded magnitude beyond the format becomes (R50). -/
def FpFmt.overflow (t : FpFmt) (mode : Rnd) (neg : Bool) : Nat :=
  if t == fp32 || t == bf16 || t == fp16 then
    match mode with
    | .rne | .sr => t.infEnc
    | .rz => t.maxEnc
    | .ru => if neg then t.maxEnc else t.infEnc
    | .rd => if neg then t.infEnc else t.maxEnc
  else t.maxEnc

/-- A subnormal of FP32, BF16 or FP16 becomes a zero of its sign under FTZ (R53); `enc` is without sign. -/
def FpFmt.flushMag (t : FpFmt) (ftz : Bool) (enc : Nat) : Nat := if ftz && t.ieee3 && decide (enc < 2 ^ t.f) then 0 else enc

/-- A value rounded once, then overflow, then flush: its encoding (R48, R54). -/
def fpEncode (t : FpFmt) (mode : Rnd) (ftz : Bool) (rb : Nat) : Val → Nat
  | .nan => t.nanEnc
  | .inf neg => t.signBit neg + (if t.top == .ieee then t.infEnc else t.maxEnc)
  | .fin neg m e =>
    if m == 0 then t.signBit neg
    else
      let q := t.quantum m e
      let enc := t.encMag (roundQuantum mode neg m e q rb) q
      t.signBit neg + t.flushMag ftz (if t.maxEnc < enc then t.overflow mode neg else enc)

/-- A source after R53: subnormals of FP32, BF16 and FP16 read as zeros of their sign under FTZ. -/
def fpRead (t : FpFmt) (ftz : Bool) (w : Nat) : Val :=
  if ftz && t.ieee3 && (w / 2 ^ t.f % 2 ^ t.x == 0) then .fin (w / 2 ^ (t.f + t.x) % 2 == 1) 0 0
  else fpDecode t w

/-- A signed integer as an exact value. -/
def intVal (i : Int) : Val := .fin (i < 0) i.natAbs 0

/-- A value rounded to an integer and clamped to a range; NaN gives 0, an infinity the end of its sign (R50, R54). -/
def toInt (mode : Rnd) (rb : Nat) (lo hi : Int) : Val → Int
  | .nan => 0
  | .inf neg => if neg then lo else hi
  | .fin neg m e =>
    let n := roundQuantum mode neg m e 0 rb
    max lo (min hi (if neg then -(n : Int) else n))

/-- Clamp an integer to a range (R50). -/
def clampInt (lo hi i : Int) : Int := max lo (min hi i)

/-! ### Exact arithmetic on values (R47, R48) -/

/-- The negated value. -/
def Val.neg : Val → Val
  | .nan => .nan
  | .inf s => .inf (!s)
  | .fin s m e => .fin (!s) m e

/-- The magnitude. -/
def Val.abs : Val → Val
  | .nan => .nan
  | .inf _ => .inf false
  | .fin _ m e => .fin false m e

/-- Whether the sign is negative. -/
def Val.isNeg : Val → Bool
  | .nan => false
  | .inf s => s
  | .fin s _ _ => s

/-- Signed mantissa at exponent `q`, for `q` at most the value's exponent. -/
def scaled (neg : Bool) (m : Nat) (e q : Int) : Int := (if neg then -1 else 1) * (m * 2 ^ (e - q).toNat : Nat)

/-- The exact sum; the sign of an exact zero is IEEE's, and RNE's under SR (R47). -/
def Val.add (mode : Rnd) : Val → Val → Val
  | .nan, _ => .nan
  | _, .nan => .nan
  | .inf s, .inf t => if s == t then .inf s else .nan
  | .inf s, .fin .. => .inf s
  | .fin .., .inf t => .inf t
  | .fin s m e, .fin t n f =>
    let q := min e f
    let r := scaled s m e q + scaled t n f q
    if r == 0 then .fin (if s == t then s else mode == .rd) 0 0
    else .fin (r < 0) r.natAbs q

/-- The exact product. -/
def Val.mul : Val → Val → Val
  | .nan, _ => .nan
  | _, .nan => .nan
  | .inf s, .inf t => .inf (s != t)
  | .inf s, .fin t n _ => if n == 0 then .nan else .inf (s != t)
  | .fin s m _, .inf t => if m == 0 then .nan else .inf (s != t)
  | .fin s m e, .fin t n f => .fin (s != t) (m * n) (e + f)

/-- Order of two finite or infinite values, as a signed comparison; NaN compares with nothing (05 R131). -/
def Val.lt : Val → Val → Bool
  | .nan, _ => false
  | _, .nan => false
  | .inf s, .inf t => s && !t
  | .inf s, .fin .. => s
  | .fin .., .inf t => !t
  | .fin s m e, .fin t n f => let q := min e f; decide (scaled s m e q < scaled t n f q)

/-- Equality of values: −0 equals +0 (05 R131). -/
def Val.eq : Val → Val → Bool
  | .nan, _ => false
  | _, .nan => false
  | a, b => !(a.lt b) && !(b.lt a)

/-- Whether a value is zero. -/
def Val.isZero : Val → Bool
  | .fin _ m _ => m == 0
  | _ => false

/-- FP32 rounding to nearest with subnormals honoured, as an encoding (05 R145, 08 R227). -/
def rne32 (v : Val) : Nat := fpEncode fp32 .rne false 0 v

/-! ### The random integer of stochastic rounding (R52) -/

/-- One round of Philox4x32 on (c0, c1, c2, c3) with key (k0, k1) (R52). -/
def philoxRound (k0 k1 : Nat) (c : Nat × Nat × Nat × Nat) : Nat × Nat × Nat × Nat :=
  let p0 := 0xd2511f53 * c.1
  let p1 := 0xcd9e8d57 * c.2.2.1
  ((p1 / 2 ^ 32) ^^^ c.2.1 ^^^ k0, p1 % 2 ^ 32, (p0 / 2 ^ 32) ^^^ c.2.2.2 ^^^ k1, p0 % 2 ^ 32)

/-- `n` rounds, the key stepping before every round but the first (R52). -/
def philoxRounds : Nat → Nat → Nat → Nat × Nat × Nat × Nat → Nat × Nat × Nat × Nat
  | 0, _, _, c => c
  | n + 1, k0, k1, c =>
    philoxRounds n ((k0 + 0x9e3779b9) % 2 ^ 32) ((k1 + 0xbb67ae85) % 2 ^ 32) (philoxRound k0 k1 c)

/-- Philox4x32-10 (R52). -/
def philox (key : W64) (c : Nat × Nat × Nat × Nat) : Nat × Nat × Nat × Nat :=
  philoxRounds 10 (key.toNat % 2 ^ 32) (key.toNat / 2 ^ 32) c

/-- What SR keys on: launch seed, tile id, bundle ordinal, unit (R52). -/
structure SrKey where
  seed : W64
  tile : Nat
  ordinal : W64
  unit : Nat
  deriving DecidableEq, Repr

/-- The 24-bit random integer of element `n` (R52). -/
def srRb (k : SrKey) (n : Nat) : Nat :=
  let o := philox k.seed (k.tile, k.ordinal.toNat % 2 ^ 32, k.ordinal.toNat / 2 ^ 32, 0xff000000 + k.unit * 0x100000 + n / 4)
  (match n % 4 with
    | 0 => o.1
    | 1 => o.2.1
    | 2 => o.2.2.1
    | _ => o.2.2.2) / 256

end Sys2Proof.Machine
end

