-- ==== Sys2Proof/Machine/State.lean ====
section
/-! DEFINITION. The state of the part as plain data: tiles, companies, sites, queues, memories (INVENTORY.md, State), the reasons a
step may stop, and the machine at deck cold start. Nothing here computes beyond naming launch and reset values. -/
namespace Sys2Proof.Machine

/-- Bytes by address in one canonical form: addresses strictly rising, no entry zero, an unlisted address reads zero
(01 R42 for the scratchpad, 10 R265 for the weight stores, 10 R267 for deck memory). -/
abbrev Memory := List Host.Cell

/-! ### A tile's registers -/

/-- A loop level (01 R23); `stages` is 0 for LOOP and LOOPS and the stage count for REPLAY (04 R98). -/
structure LoopLevel where
  active : Bool
  start : BitVec 11
  stop : BitVec 11
  count : W32
  idx : W32
  stages : Nat
  deriving DecidableEq, Repr

/-- An address stream (01 R25). -/
structure AStream where
  base : BitVec 20
  d : Vector W32 4
  deriving DecidableEq, Repr

/-- An accumulator (A, X), value A times 2 to the X (02 R63). -/
structure Acc where
  a : Int
  x : Int
  deriving DecidableEq, Repr

/-- A block partial of an accumulator row (06 R155). `age` marks the older of two open partials. -/
structure Partial where
  p : Vector Int 32
  ea : BitVec 8
  eb : Vector (BitVec 8) 32
  w : Nat
  pnan : Bool
  isOpen : Bool
  age : Bool
  deriving DecidableEq, Repr

/-- What an MPUSH adds to one partial when it lands (06 R166). -/
structure PushDelta where
  par : Fin 2
  dp : Vector Int 32
  ea : BitVec 8
  eb : Vector (BitVec 8) 32
  w : Nat
  deriving DecidableEq, Repr

/-- The array state (06 R155). Sets, rows: index 32 set + row; partials: 2 (32 set + row) + parity. The plane is held as R173 saves
it: the offset of the last MLOADB.W, or none, and the rows MLOADB.S wrote after it. -/
structure ArrayState where
  acc : Vector (Vector Acc 32) 64
  sat : BitVec 64
  nan : BitVec 64
  part : Vector Partial 128
  planeBase : Option Nat
  planeRows : Vector (Option Vec) 32
  cursor : Nat
  hdr : Vec
  pw : Width
  sparse : Bool
  syn : Bool
  spMeta : Vec
  deriving DecidableEq, Repr

/-- The cast state (08 R221); the list is in rank order, (weight, id). -/
structure CastState where
  key : W64
  seq : W32
  pos : W32
  stream : BitVec 24
  tbase : W32
  kmax : BitVec 7
  list : List (W32 × W32)
  mass : W64
  last : W64
  deriving DecidableEq, Repr

/-- What a result in flight does when it lands (01 R13). -/
inductive Eff where
  | sreg (r : Fin 32) (v : W64)
  | pred (p : Fin 8) (t : Bool)
  | vreg (r : Fin 32) (v : Vec) (mask : W64)
  | latS (u : Slot) (b : Fin 4) (v : W64)
  | latV (u : Slot) (b : Fin 4) (v : Vec) (mask : W64)
  | push (t : W64)
  | invm
  | popm
  | store (bytes : List Host.Cell)
  | stage (k : Fin 32) (v : W64)
  | streamBase (n : Fin 8) (v : BitVec 20)
  | streamDelta (n : Fin 8) (j : Fin 4) (v : W32)
  | loopCount (j : Fin 4) (v : W32)
  | loopRange (j : Fin 4) (a b : BitVec 11)
  | give (first cnt : Nat) (owner : BitVec 4)
  | flag (j : Fin 16)
  | plane (off : Nat)
  | planeRow (row : Fin 32) (v : Vec)
  | mpush (set : Fin 2) (row : Fin 32) (ds : List PushDelta)
  | mshift (n : Nat)
  | macc (set : Fin 2) (row : Fin 32) (fold : Bool)
  | mscale (v : Vec)
  | mzero (set : Fin 2)
  | mmode (syn sp : Bool) (pw : Width)
  | msparse (v : Vec)
  | satSet (set : Fin 2) (row : Fin 32)
  | castKey (key : W64) (seq pos : W32) (kmax : BitVec 7) (stream : BitVec 24) (tbase : W32)
  | castTbase
  | castMerge (cands : List (W32 × W32))
  | castTopp (p : W32) (kmin : Nat)
  | castMass (m : W64)
  | castLast (v : W64)
  | castClr
  deriving DecidableEq, Repr

/-- A result in flight: its landing cycle in company cue and what it does. The list's order is issue order, then slot order
(01 R14, 03 R76). -/
structure Flight where
  due : Nat
  eff : Eff
  deriving DecidableEq, Repr

/-- Who translates: the async-copy engine of a region for a segment of a launch (10 R274), or its overlay engine for the launch's
instruction space, where `seg` is none (09 R245). -/
structure XlateKey where
  site : SiteId
  region : Fin 4
  co : Nat
  seg : Option Nat
  deriving DecidableEq, Repr

/-- A buffered leaf translation (10 R274, 09 R245): the page's first virtual address and size as a power of two, its aperture, frame and
writability, and the table words it was derived from, by address. -/
structure XlateEntry where
  key : XlateKey
  page : Nat
  bits : Nat
  aper : Nat
  pa : Nat
  w : Bool
  words : List (Nat × Nat)
  deriving DecidableEq, Repr

/-- What holds the next bundle back (04 R103 to R107). `until` is WAITCUE, JOIN and WAITREL: the cue the next bundle issues at, and
whether a WAITREL set it. -/
inductive Wait where
  | none
  | until (cue : Nat) (rel : Bool)
  | event (j : Fin 16) (last : Nat) (budget : Nat)
  | owner (u : Fin 256) (last : Nat) (budget : Nat)
  deriving DecidableEq, Repr

/-- What the control word of the bundle in issue decided, applied when the bundle's issue ends (04 R96). -/
inductive Xfer where
  | none
  | branch (t : Nat)                          -- taken BR, BRP, BRZ; LOOPS or REPLAY with zero count
  | call (t : Nat)
  | ret
  | jumpOv (t : BitVec 11)
  | loop (lv : Fin 4) (count : W32) (stop : BitVec 11) (stages : Nat)
  | halt
  | markRb
  | trapReturn (cue : Nat)
  deriving DecidableEq, Repr

/-- The group of a bundle: overlay segment and innermost covering level (01 R22). -/
structure Group where
  seg : BitVec 16
  level : Option (Fin 4)
  deriving DecidableEq, Repr

/-! ### Work of the fabric and the engines held by the issuing tile -/

/-- What a beat on a hop wire carries: lanes read at issue, or the buffer of a side as it stands when the beat is sent (08 R210,
R211). -/
inductive BeatSrc where
  | val (v : BitVec 256)
  | pass (fr : Side)
  deriving DecidableEq, Repr

/-- A beat on a hop wire: its sending cue, its side, its width class, its place in the word (08 R210). -/
structure HopBeat where
  sent : Nat
  side : Side
  vec : Bool
  beat : Nat
  src : BeatSrc
  deriving DecidableEq, Repr

/-- A word in a crossing: side, channel, width, value, issue cue, the cue its last beat arrives (08 R215), and the earliest its band allows (09
R243). -/
structure XWord where
  side : Side
  ch : Fin 8
  vec : Bool
  v : Vec
  sent : Nat
  arrive : Nat
  least : Nat
  deriving DecidableEq, Repr

/-- A word in a channel FIFO (08 R214, R216). -/
structure FifoWord where
  vec : Bool
  v : Vec
  deriving DecidableEq, Repr

/-- One row of a transfer: memory address (deck physical, host bus or virtual), scratchpad address, bytes. -/
structure XRow where
  mem : Nat
  spad : Nat
  len : Nat
  deriving DecidableEq, Repr

/-- A fly command outstanding (07 R183 to R186). `data` is what the memory point read, or what the write has read of its rows; `slot` is
the slot that issued it (03 R76). -/
structure FlyCmd where
  wr : Bool
  issued : Nat
  site : SiteId
  w : Nat
  rows : List XRow
  data : List Host.Cell
  point : Bool
  landed : Bool
  slot : Slot
  deriving DecidableEq, Repr

/-- The wheel operations (07 R196). -/
inductive WheelOp where
  | ld | st | add | xchg | cas
  deriving DecidableEq, Repr

/-- A wheel operation outstanding; `lat` is the result latch, none for WHEEL.ST or after a group switch (01 R22); `res` is the result
once its memory point is performed; `slot` is the slot that issued it (03 R76). -/
structure WheelCmd where
  op : WheelOp
  addr : Nat
  site : SiteId
  val : W32
  new : W32
  issued : Nat
  w : Nat
  lat : Option (Slot × Fin 4)
  res : Option W64
  slot : Slot
  deriving DecidableEq, Repr

/-- Where a copy-queue entry stands. -/
inductive AcStage where
  | waiting                          -- not begun, or held by its predecessors
  | suspended (cause : Nat) (page : Nat) (req : BitVec 32)  -- at a page without a mapping (07 R191)
  | gated                            -- a store whose writes are all in the gate (09 R248)
  | failed (sub : Nat) (page : Nat)    -- a store that met a fault, waiting for its predecessors (07 R188, R191)
  deriving DecidableEq, Repr

/-- An entry of a load or store queue; a mark stands in both queues under one `id`, ids rising with age (07 R187 to R190). `pos` is how
many bytes of a store stand in the gate (09 R248); `got` the bytes a load has read, by their places in the transfer's byte stream (10
R280). -/
structure AcEntry where
  id : Nat
  mark : Bool
  scope : Scope
  seg : Nat
  rows : List XRow
  rep : Bool
  rslot : Nat
  stage : AcStage
  pos : Nat
  got : List (Nat × List Byte)
  deriving DecidableEq, Repr

/-- A side of an XCOPY: a format code of R29, or an MX format (07 R193). -/
inductive ElFmt where
  | code (c : BitVec 8)
  | mx (f : MxFmt)
  deriving DecidableEq, Repr

/-- A command of the tile copy unit (07 R192 to R194). -/
inductive CopyKind where
  | xcopy (fs fd : ElFmt) (sw : Bool) (src dst scl nel : Nat) (rm : Rnd) (unit : Nat) (ordinal : W64)
  | xfill (addr bytes : Nat) (pat : W32)
  deriving DecidableEq, Repr

/-- A copy command with its start and completion cues and, once started, the bytes it will write (07 R194). -/
structure CopyCmd where
  kind : CopyKind
  start : Nat
  finish : Nat
  out : Option (List Host.Cell)
  deriving DecidableEq, Repr

/-- A mailbox command (07 R197). -/
structure MbCmd where
  put : Bool
  word : Nat
  val : W64
  lat : Option (Slot × Fin 4)
  issued : Nat
  deriving DecidableEq, Repr

/-- The collectives (07 R200, R201). -/
inductive CKind where
  | ar | ag | rs | bc | bar
  deriving DecidableEq, Repr

/-- A descriptor a tile has posted for a bucket (07 R199, R200). -/
structure CDesc where
  bucket : Fin 64
  kind : CKind
  op : COp
  scope : Scope
  gen : BitVec 16
  rep : Bool
  rslot : Nat
  buf : Nat
  slots : Nat
  root : Nat
  nel : Nat
  tmo : Nat
  issued : Nat
  ready : Bool
  stale : Bool
  deriving DecidableEq, Repr

/-- A COMBINE outstanding (07 R203). -/
structure CombineCmd where
  bucket : Fin 64
  op : COp
  scope : Scope
  buf : Nat
  slots : Nat
  ns : Nat
  nel : Nat
  rep : Bool
  rslot : Nat
  issued : Nat
  deriving DecidableEq, Repr

/-- A JOIN or LEAVE waiting for its ring boundary (07 R205). `now` marks one that completes at once because it changes nothing. -/
structure RingReq where
  bucket : Fin 64
  join : Bool
  rep : Bool
  rslot : Nat
  issued : Nat
  now : Bool
  deriving DecidableEq, Repr

/-- The MARK.OV request outstanding (04 R112, 09 R245). -/
structure OvlReq where
  seg : BitVec 16
  entry : Nat
  done : Bool
  fault : Bool
  deriving DecidableEq, Repr

/-- Units that an engine has done with in this cycle: they return when the cycle's issue is over (01 R32, 07 R177). -/
structure UnitReturn where
  code : Nat
  units : List Nat
  poison : Bool
  deriving DecidableEq, Repr

/-- The state of a tile that a rollback restores and a freeze keeps (01 R42), with the work outstanding at that moment (07 R206, 08
R209, R219). `pc` is the address the next bundle issues from, 2,048 past the last (03 R79); the `last` fields name the bundle issued
last, for traps after issue (11 R293). `localNext` is what the words of the bundle in issue make
of `localSince` when its issue ends (09 R240). `popped` marks a `pc` that a RET took from the return stack (04 R102). `replay` is what a freeze
captured of the crossings that end here, with the receiving side (08 R219). -/
structure TState where
  s : Vector W64 32
  p : BitVec 8
  v : Vector Vec 32
  mask : List W64
  latS : Vector W64 16
  latV : Vector Vec 16
  loops : Vector LoopLevel 4
  nest : List (Fin 4)
  rstack : List (BitVec 11)
  a : Vector AStream 8
  q : BitVec 8
  k : Vector W64 32
  own : Vector Byte 256
  e : BitVec 16
  clre : BitVec 16
  arrive : BitVec 16
  arr : ArrayState
  cast : CastState
  spad : Memory
  ordinal : W64
  pc : Nat
  lastAddr : Nat
  lastSeg : BitVec 16
  lastBundle : Bundle
  half : Fin 2
  segs : Vector (BitVec 16) 2
  wait : Wait
  skip : Nat
  halted : Bool
  localSince : Option Nat
  localNext : Option (Option Nat)
  handler : Bool
  retAddr : Nat
  lastGroup : Option Group
  xfer : Xfer
  popped : Bool
  marked : Option Nat
  flight : List Flight
  bufS : Vector W64 4
  bufV : Vector Vec 4
  hopBusy : Vector Nat 4
  xBusy : Vector Nat 4
  xLast : Vector Nat 4
  wires : List HopBeat
  xwords : List XWord
  replay : List (Side × XWord)
  fifo : Vector (List FifoWord) 32
  signals : List (Nat × Fin 16)
  ovl : Option OvlReq
  flyTaken : List (Nat × Nat)
  fly : List FlyCmd
  wheel : List WheelCmd
  loadQ : List AcEntry
  storeQ : List AcEntry
  nextEntry : Nat
  copyQ : List CopyCmd
  mbQ : List MbCmd
  chorus : List CDesc
  combine : List CombineCmd
  ringReq : List RingReq
  back : List UnitReturn
  deriving DecidableEq, Repr

/-- The trap state (01 R39). -/
structure TrapState where
  cause : BitVec 8
  pc : W32
  info : W64
  bundle : Bundle
  deriving DecidableEq, Repr

/-- The pending boundary causes of a tile and what their reports carry (11 R296). -/
structure Pending where
  siteLost : Bool
  regionLost : Bool
  islandLost : Bool
  routeLost : Bool
  hole : Bool
  sites : BitVec 16
  region : BitVec 10
  island : BitVec 10
  holeAddr : Option (BitVec 48)
  deriving DecidableEq, Repr

/-- The status word of a side, by fields (08 R217). -/
structure SideStatus where
  lost : BitVec 16
  torn : BitVec 8
  overrun : BitVec 8
  under : BitVec 8
  deriving DecidableEq, Repr

/-- A logical tile of a company: where it stands (01 R40), its instruction memory halves, its state, its images (01 R43), its trap
state, pending causes and status words. `ofsDue` marks the sides whose OFS is still to be measured (12 R311); `lost` a tile that never issues again
(11 R297); `imgBad` a boundary image with an error (11 R299). `skew` is the offset of the region's deck counter from the deck reference when its
company-cue counter started (09 R235). -/
structure Tile where
  key : TileKey
  site : SiteId
  region : Fin 4
  row : Fin 16
  col : Fin 16
  grade : Nat
  fmts : Vector W32 16
  vctl : W32
  imem : Vector (List Bundle) 2
  st : TState
  img : TState
  imgTrap : Option TrapState
  frz : Option TState
  trap : TrapState
  pend : Pending
  status : Vector SideStatus 4
  ofs : Vector (BitVec 8) 4
  ofsDue : Vector Bool 4
  lost : Bool
  imgBad : Bool
  skew : Int
  deriving DecidableEq, Repr

/-! ### Companies and launches -/

/-- Kinds of prompt-book record (09 R237). -/
inductive BookKind where
  | flyRd | flyWr | rb | share
  deriving DecidableEq, Repr

/-- A prompt-book record (09 R237); `times` and `every` as encoded, `len` as encoded. -/
structure BookRec where
  kind : BookKind
  row : Nat
  col : Nat
  site : Nat
  off : Nat
  times : Nat
  every : Nat
  len : Nat
  deriving DecidableEq, Repr

/-- A gang as its binary gives it (03 R92, R93). -/
structure GangBin where
  rows : Nat
  cols : Nat
  grade : Nat
  fmts : Vector W32 16
  vctl : W32
  data : Memory
  segs : List (BitVec 16 × List Bundle)
  book : List BookRec
  wheel : List Nat
  localLimit : Nat
  deriving DecidableEq, Repr

/-- A gang of a company: what the binary gives it, where it is placed (09 R234), its cue base (01 R37, 13 R334). -/
structure Gang where
  idx : Nat
  bin : GangBin
  site : SiteId
  row0 : Nat
  col0 : Nat
  detached : Bool
  base : Nat
  deriving DecidableEq, Repr

/-- A segment-table entry (10 R270). -/
structure SegEntry where
  aper : Nat
  paged : Bool
  rd : Bool
  wr : Bool
  port : Nat
  base : Nat
  limit : Nat
  root : Nat
  deriving DecidableEq, Repr

/-- A WEIGHTLOAD bound to a launch (14 R348). -/
structure WLoad where
  op : Nat
  gang : Nat
  src : W64
  trow : Nat
  tcol : Nat
  nr : Nat
  nc : Nat
  stride : Nat
  waddr : Nat
  len : Nat
  deriving DecidableEq, Repr

/-- The first illegal word of a binary that the loader refuses with ENCODING: its segment, its bundle's address in the segment, its slot (03
R78). -/
structure BadWord where
  seg : Nat
  addr : Nat
  slot : Slot
  deriving DecidableEq, Repr

/-- What a launch brings besides its gangs (09 R233, 14 R345). -/
structure LaunchInfo where
  op : Nat
  queue : Nat
  cmb : Nat
  gen : Nat
  pri : Nat
  readCue : Nat
  overlaid : Bool
  handler : Option (BitVec 11)
  seed : W64
  segtab : List SegEntry
  binds : List (BitVec 16)
  ovRoot : Nat
  ovTab : List (Nat × Nat)
  pins : List W64
  gangs : List GangBin
  loads : List WLoad
  deriving DecidableEq, Repr

/-- A place in coherence order (10 R269): the deck cycle of the placement; who places, 0 a leaf controller, 1 a company, 2 the host; the
company's number; how many places were taken before it. -/
structure Coh where
  cycle : Nat
  kind : Nat
  co : Nat
  count : Nat
  deriving DecidableEq, Repr

/-- A gated write: its place in coherence order, the region that holds it, its bytes in deck memory or (port, bytes) in host memory,
the tile and store entry it belongs to when a store, the tile of a fly write otherwise (09 R248, 10 R269). -/
structure GWrite where
  ord : Coh
  site : SiteId
  region : Fin 4
  host : Option Nat
  bytes : List Host.Cell
  tile : TileKey
  entry : Option Nat
  deriving DecidableEq, Repr

/-- An interval of sealed writes, the company cue of its seal, whether its release has begun (09 R248). -/
structure GInterval where
  start : Nat
  begun : Bool
  writes : List GWrite
  deriving DecidableEq, Repr

/-- A round of a bucket: the members it counts, who has posted, the buffers handed over and the deck cue each was handed at, who has
completed (07 R200, R201; 13 R331). -/
structure Round where
  bucket : Fin 64
  row : Nat
  col : Nat
  members : List Nat
  posted : List Nat
  contrib : List (Nat × List Byte)
  handed : List (Nat × Nat)
  done : List Nat
  deriving DecidableEq, Repr

/-- What a company is doing (09 R235, R243, R250 to R253, R298). -/
inductive CoMode where
  | loading (start : Nat)                 -- placed; the first bundle issues at deck cue `start`
  | running
  | held (since : Nat)                    -- at company cue H since deck cue `since`
  | frozen (saved : Bool) (since : Nat)
  | resuming (rewritten : Bool) (since : Nat)   -- chosen for resumption; instruction memory rewritten or not
  | rolling (restart : Option Nat)        -- rolled back; the restart deck cue, once announced
  deriving DecidableEq, Repr

/-- Causes of a hold (09 R242); a reef hold names the level it brings (15 R364). -/
inductive HoldCause where
  | overlay
  | reef (level : Fin 4)
  deriving DecidableEq, Repr

/-- A hold announced at company cue `at_` (09 R242). -/
structure Hold where
  at_ : Nat
  cause : HoldCause
  deriving DecidableEq, Repr

/-- The first cause that ended a launch (11 R298): its code and what its fault record carries, the deck cue of the cause, and the draw
from which each region's stopping cue is taken (log 5); whether every region has stopped and its work is undone; with ROUTE_LOST, the status words of
the tile's sides (11 R301). -/
structure FatalCause where
  code : BitVec 8
  info : W64
  pc : W32
  unit : Nat
  tile : Option TileKey
  since : Nat
  draw : Nat
  stopped : Bool
  words : Vector W64 4
  deriving DecidableEq, Repr

/-- A company (09 R233 to R262). `since` is the company cue of its placement or last resume (R258); `rested` marks a frozen one whose
resumption waits for the waking of its islands to end (15 R365; log 63). -/
structure Company where
  num : Nat
  info : LaunchInfo
  gangs : List Gang
  cue : Nat
  base : Nat
  mode : CoMode
  placedAt : Nat
  since : Nat
  freezeAt : Option Nat
  freezeNext : Option Nat
  holds : List Hold
  holdCyc : Nat
  rollbacks : Nat
  lastB : Nat
  sameB : Nat
  gateOpen : List GWrite
  gateSealed : List GInterval
  ring : List Nat
  gen : BitVec 16
  leaves : List Nat
  rounds : List Round
  imgRounds : List Round
  level : Fin 4
  d0 : Nat
  wanted : Fin 4
  wantedCue : Nat
  covering : Bool
  rested : Bool
  fatal : Option FatalCause
  deriving DecidableEq, Repr

/-! ### Sites, regions, power -/

/-- Site states (07 R182, 13 R324). -/
inductive SiteState where
  | empty | seated | powering | testing | training | admitted | active | draining | released | lost | faulted
  deriving DecidableEq, Repr

/-- What a site's lamp shows (13 R324). -/
inductive Lamp where
  | off | amber | green | greenBlinking | blue | red
  deriving DecidableEq, Repr

/-- The lamp of a site (13 R324). -/
def SiteState.lamp : SiteState → Lamp
  | .empty => .off
  | .seated | .powering | .testing | .training => .amber
  | .admitted | .active => .green
  | .draining => .greenBlinking
  | .released => .blue
  | .lost | .faulted => .red

/-- A voltage island (12 R317, 15 R370). -/
structure Island where
  temp : BitVec 8
  vmeas : BitVec 12
  vset : BitVec 12
  mode : BitVec 2
  failed : Bool
  woken : Option Nat
  deriving DecidableEq, Repr

/-- A region of a compute module: offset of its cue counter from the deck reference, the deck cue to which a correction holds it, trim words, the
deck cue from which a pending exchange may run, exchanges made in TRAINING and how many of the last found zero (12 R315), rail, the signed map of the
module's configuration record and its live copy, the map and the grade in force (R305, R317), islands, counters (12 R305, R312, R317, R318; 08 R217; 11 R302). -/
structure Region where
  offset : Int
  heldTo : Nat
  trimGen : W32
  lastCorr : BitVec 8
  trimFrom : Option Nat
  loads : Nat
  zeros : Nat
  rail : Bool
  record : Vector Byte 16
  defects : Vector Byte 16
  mapped : Vector Byte 16
  grade : Nat
  islands : Vector Island 32
  counts : Vector (BitVec 16) 4
  deriving DecidableEq, Repr

/-- A fault record: eight words (11 R301). -/
structure FaultRec where
  w0 : W64
  w1 : W64
  w2 : W64
  w3 : W64
  st : Vector W64 4
  deriving DecidableEq, Repr

/-- A site with its status word's fields (13 R325), contact and phase times (R326), the cue of the last keep-alive and whether the
module's links are mute (R327), the type of the module in it and which piece of hardware it is (14 R357), loss cue (R329), power stage, its input current in tenths of an ampere, since when
that stands above the trip level, the deck cue at which the disconnect opens after a trip, whether a trip keeps the output isolated (R322), whether the links were trained in this TRAINING
(R328), the OFS measured on each link trained (R328), module registers (15 R370), report (15 R368), held fault records (R336), command-link permits (14 R355). -/
structure Site where
  state : SiteState
  epoch : BitVec 16
  freshCo : BitVec 16
  lastCause : BitVec 8
  typ : BitVec 4
  present : Bool
  clamp : Bool
  freshRd : Bool
  auto : Bool
  cmdErr : Bool
  closedSince : Option Nat
  openSince : Option Nat
  phaseSince : Nat
  keepAlive : Nat
  mute : Bool
  module : BitVec 4
  chip : Nat
  lossCue : Option Nat
  stage : Bool
  amps : BitVec 16
  overSince : Option Nat
  openAt : Option Nat
  tripped : Bool
  trained : Bool
  regions : Vector Region 4
  modCounts : Vector (BitVec 16) 4
  pwr : BitVec 16
  tmax : BitVec 8
  target : BitVec 2
  reefMin : BitVec 2
  hotNext : Option Nat
  warmNext : Option Nat
  coolSince : Option Nat
  tripSince : Option Nat
  links : List (Fin 8)
  linkOfs : Vector (Option (BitVec 8)) 8
  report : List W64
  heldRecs : List FaultRec
  dropped : Nat
  permits : Vector Nat 2
  permitSince : Vector (Option Nat) 2
  waitingMsgs : Vector Nat 2
  leaf : BitVec 512
  deriving DecidableEq, Repr

/-- A keeper decision and the deck cue it takes effect (13 R327); one on an opening of the contacts leads where the site's state then says (13
R326). -/
structure Decision where
  effect : Nat
  site : SiteId
  to_ : SiteState
  cause : BitVec 8
  opening : Bool
  deriving DecidableEq, Repr

/-- A transition of a site that counters of the deck have still to reach: its effect by their own count, the site, what the site's entry said
before (state, EPOCH, TYPE, LASTCAUSE), the counters ahead of which it still stands, the companies that lose the site by it (13 R325, R327, R330). -/
structure SiteChange where
  effect : Nat
  site : SiteId
  was : SiteState
  epoch : BitVec 16
  typ : BitVec 4
  cause : BitVec 8
  ahead : List (SiteId × Fin 4)
  loses : List Nat
  deriving DecidableEq, Repr

/-- A deck circuit: its company, its two end sides, its route, whether it is set up, the deck cue of its last tear-down (12 R319, R320). -/
structure Circuit where
  co : Nat
  a : TileKey × Side
  b : TileKey × Side
  route : List DeckLink
  up : Bool
  tornAt : Option Nat
  deriving DecidableEq, Repr

/-! ### Queues, packets, firmware -/

/-- A mailbox word (14 R339). -/
structure MbWord where
  v : W64
  full : Bool
  deriving DecidableEq, Repr

/-- An open indirect buffer: its address word, packet count, packets taken (14 R349). -/
structure IFrame where
  addr : W64
  count : Nat
  pos : Nat
  deriving DecidableEq, Repr

/-- A queue: register block, open buffers, the packet in hand, whether it waits (14 R341, R342). `blocked` is its place among the
blocked packets. -/
structure Queue where
  qbase : W64
  enable : Bool
  log2n : Nat
  head : W32
  tail : W32
  code : BitVec 8
  stopped : Bool
  blocked : Option Nat
  chain : List IFrame
  packet : Option (Vector W64 8)
  freed : Option Nat
  bound : List WLoad
  deriving DecidableEq, Repr

/-- Where a rejoin request stands: it waits; its gang has its tiles, whose islands wake; its images are loaded and it starts past a boundary (13
R334, 15 R365). -/
inductive RejoinStage where
  | waiting
  | placed
  | starts (b : Nat)
  deriving DecidableEq, Repr

/-- Kinds of packet that complete later (14 R344); of a copy, the 64-byte blocks already moved (R347). -/
inductive OpKind where
  | launch
  | copy (src dst : W64) (len : Nat) (imm : Option W32) (moved : List Nat)
  | weightload
  | unloadCode (gen : Nat)
  | unloadData
  | unloadLaunch (word : Nat)
  | rejoin (word gang : Nat) (stage : RejoinStage)
  deriving DecidableEq, Repr

/-- A packet issued and not completed: number in reading order, queue, completion word (14 R344). -/
structure PendOp where
  id : Nat
  queue : Nat
  kind : OpKind
  done : Option Nat
  deriving DecidableEq, Repr

/-- What a page fault holds up: a copy entry, an overlay fetch, the rewrite of instruction memory before a resume or restart (11 R303,
09 R255). -/
inductive PfKind where
  | load | store | overlay | rewrite
  deriving DecidableEq, Repr

/-- A page-fault request of the ring read by the host (14 R340): its index, contents and deck cue; whose it is, the cue of the first
report, whether it stands (11 R303). -/
structure PfReq where
  idx : W32
  co : Nat
  seg : Nat
  cause : Nat
  va : Nat
  cue : Nat
  first : Nat
  tile : TileKey
  kind : PfKind
  live : Bool
  deriving DecidableEq, Repr

/-- What the service module runs (14 R354, R358). -/
inductive FwMode where
  | off | rom | recovery | running | restarting (since : Nat)
  deriving DecidableEq, Repr

/-- Firmware and records (14 R353 to R358, 15 R369): what runs, the image in flash, its security version, records, jumper, strap, nonce, the state of an
update, the image it writes, whether the flash image is half overwritten (R358), the update window, the attestation report. -/
structure Firmware where
  mode : FwMode
  flash : List Byte
  secVersion : W32
  records : List FlashRecord
  jumper : Bool
  strap : Bool
  nonce : BitVec 512
  updStat : BitVec 3
  update : List Byte
  torn : Bool
  window : Memory
  report : List Byte
  deriving DecidableEq, Repr

/-- A committed HDM decoder (14 R360). -/
structure Hdm where
  port : Fin 4
  dec : Fin 4
  base : Nat
  size : Nat
  deriving DecidableEq, Repr

/-- A network peer: its address, queue pair and local port, the deck range it may write, whether its connection stands, the halvings of the sender's
rate (14 R361). -/
structure Peer where
  address : BitVec 128
  pair : BitVec 24
  port : BitVec 3
  base : Nat
  len : Nat
  up : Bool
  halvings : Nat
  deriving DecidableEq, Repr

/-! ### Events -/

/-- The events of 95 as the machine's own data, for what is still to be done and for what comes from outside: one constructor for each
event of `Instr`, with the same arguments. (Lean's compiler builds no value of a type past its 245th constructor with fields, so an `Instr`
event could be named in a proof but not made in a run.) -/
inductive Event where
  | sequencerIssue (k : TileKey)
  | resultLanding (k : TileKey)
  | waitcueTargetReached (k : TileKey)
  | waitrelExpiry (k : TileKey)
  | waiteWake (k : TileKey)
  | waiteDeadline (k : TileKey)
  | waitownWake (k : TileKey)
  | waitownDeadline (k : TileKey)
  | localLimitDeadline (k : TileKey)
  | missingMarkRb (k : TileKey)
  | signalArrival (k : TileKey)
  | hopBeatLanding (k : TileKey)
  | crossingBeatArrival (k : TileKey)
  | crossingWordLost (k : TileKey) (side : Side) (ch : Fin 8)
  | gatedWriteRelease (co : Nat)
  | flyMemoryPoint (k : TileKey)
  | flyCompletion (k : TileKey)
  | wheelMemoryPoint (k : TileKey)
  | wheelResult (k : TileKey)
  | acopyLoadCompletion (k : TileKey)
  | acopyStoreCompletion (k : TileKey)
  | acopyPageFault (k : TileKey) (store : Bool)
  | qmarkCompletion (k : TileKey)
  | tileCopyStart (k : TileKey)
  | tileCopyCompletion (k : TileKey)
  | mailboxPutPerformed (k : TileKey)
  | mailboxGetPerformed (k : TileKey)
  | chorusMemberCompletion (k : TileKey) (b : Fin 64)
  | chorusStaleCompletion (k : TileKey)
  | chorusTimeout (k : TileKey) (b : Fin 64)
  | barCompletion (k : TileKey) (b : Fin 64)
  | combineCompletion (k : TileKey)
  | ringBoundary (co : Nat)
  | overlayFetchCompletion (k : TileKey)
  | holdAnnouncement (co : Nat) (h : Nat)
  | holdBegin (co : Nat)
  | holdEnd (co : Nat)
  | companyStart (co : Nat)
  | launchEnd (co : Nat)
  | launchFaultEnd (co : Nat)
  | uncorrectableError (w : ErrPlace)
  | rollbackRestart (co : Nat)
  | correctedError (w : ErrPlace)
  | scrub (site : SiteId)
  | freezeAnnouncement (co : Nat) (cue : Nat)
  | freeze (co : Nat)
  | freezeSaveComplete (co : Nat)
  | instructionMemoryRewrite (co : Nat)
  | resume (co : Nat)
  | placementPass
  | pfack (i : BitVec 32)
  | pageFaultUnresolvable (i : BitVec 32)
  | pageMigration (co : Nat) (seg : Fin 64) (va : BitVec 48) (frame : BitVec 48)
  | hostCxlRead (at_ : PortAddr) (n : Nat)
  | hostCxlWrite (at_ : PortAddr) (bytes : List (BitVec 8))
  | hdmDecoderCommit (port : Fin 4) (dec : Fin 4) (base : BitVec 48) (size : BitVec 48)
  | periodicTrim (site : SiteId) (q : Fin 4)
  | trimExchange (site : SiteId) (q : Fin 4) (t1 : BitVec 64) (t2 : BitVec 64) (t4 : BitVec 64)
  | ofsMeasurement (k : TileKey) (side : Side) (t1 : BitVec 64) (t2 : BitVec 64) (t4 : BitVec 64)
  | circuitTeardown (i : Nat)
  | circuitSetup (i : Nat) (route : List DeckLink)
  | linkCrcFailure (link : DeckLink) (second : Bool)
  | islandRegulatorFailure (site : SiteId) (q : Fin 4) (i : Fin 32)
  | regionRailFailure (site : SiteId) (q : Fin 4)
  | busLow
  | busCollapse
  | powerStageTrip (site : SiteId)
  | presenceClampClosed (site : SiteId)
  | presenceOpen (site : SiteId)
  | clampOpen (site : SiteId)
  | powerGood (site : SiteId)
  | phaseTimeLimit (site : SiteId)
  | selfTest (site : SiteId) (o : TestOutcome)
  | admission (site : SiteId) (o : TrainOutcome)
  | siteTransitionEffect
  | keepAliveSend (site : SiteId)
  | keepAliveSilence (site : SiteId)
  | cmdPower (site : SiteId)
  | cmdDrain (site : SiteId)
  | cmdUndrain (site : SiteId)
  | cmdReset (site : SiteId)
  | siteRequestButton (site : SiteId)
  | freshrdClear (site : SiteId)
  | rejoinGangStart (co : Nat) (g : Fin 8)
  | doorbell (q : Fin 64) (v : BitVec 32)
  | qcmdResume (q : Fin 64)
  | qcmdSkip (q : Fin 64)
  | qcmdReset (q : Fin 64)
  | queueVisit
  | packetUnblock (q : Fin 64)
  | packetNop (q : Fin 64)
  | launch (q : Fin 64)
  | copy (q : Fin 64)
  | copyCompletion (id : Nat)
  | weightload (q : Fin 64)
  | weightloadApply (co : Nat)
  | putmb (q : Fin 64)
  | waitmb (q : Fin 64)
  | unloadCode (q : Fin 64)
  | unloadData (q : Fin 64)
  | unloadLaunch (q : Fin 64)
  | unloadCompletion (id : Nat)
  | indirect (q : Fin 64)
  | fence (q : Fin 64)
  | rejoin (q : Fin 64)
  | rejoinWithdraw (q : Fin 64)
  | mailboxFullClear (i : Fin 64) (mask : BitVec 64)
  | logdropClear (v : BitVec 64)
  | deckColdStart (strap : Bool)
  | recoveryImageWrite (len : BitVec 64)
  | firmwareUpdate (len : BitVec 64)
  | firmwareRestart
  | ownerKeyEnrolment (rec : FlashRecord)
  | attestationReport (nonce : BitVec 512)
  | commandLinkMessage (site : SiteId) (up : Bool)
  | commandLinkPermitTimeout (site : SiteId) (up : Bool)
  | networkWriteReceived (peer : Fin 16) (addr : BitVec 48) (bytes : List (BitVec 8)) (imm : Option (BitVec 32))
  | congestionNotification (peer : Fin 16)
  | retransmissionLimit (id : Nat)
  | sensorRead (site : SiteId) (q : Fin 4) (i : Fin 32) (temp : BitVec 8)
  | reefTargetRaise (site : SiteId)
  | reefTargetLower (site : SiteId)
  | thermalTrip (site : SiteId)
  | reefLevelChange (co : Nat)
  | reefminWrite (site : SiteId) (v : BitVec 2)
  | islandWake (site : SiteId) (q : Fin 4) (i : Fin 32)
  | registerWrite (bar : PortBar) (off : BitVec 25) (v : BitVec 64)
  | fatalModuleError (site : SiteId)
  | presenceOpenFor222Cycles (site : SiteId)
  | overlayFetchTranslationFault (k : TileKey)
  | linkReturnToService (link : DeckLink)
  deriving DecidableEq, Repr

/-! ### The machine -/

/-- Happenings of the outside world, by which the machine's inputs arrive (log 4): a step of the table that the outside times, a
read that an async-copy engine does ahead of its entry's completion (10 R280), a block that the copy engine moves ahead of its copy's completion (14
R347), an OFS exchange on a link in training (13 R328), a configuration record the host brings (14 R353), a change of a site's contacts, a module whose links fall mute, bytes the host writes in its own memory, power, current, bus and coolant measurements, the presence jumper. -/
inductive Stim where
  | event (e : Event)
  | acopyRead (k : TileKey) (id : Nat) (places : List Nat)
  | linkOfs (site : SiteId) (port : Fin 8) (t1 t2 t4 : BitVec 64)
  | contacts (site : SiteId) (present clamp : Bool) (typ : BitVec 4)
  | mute (site : SiteId) (m : Bool)
  | hostBytes (port : Nat) (bytes : List Host.Cell)
  | power (site : SiteId) (watts : BitVec 16)
  | current (site : SiteId) (amps10 : BitVec 16)
  | bus (deckWatts centivolts : BitVec 16)
  | outlet (temp : BitVec 8)
  | inlet (temp : BitVec 8)
  | copyBlock (id block : Nat)
  | record (r : FlashRecord)
  | jumper (closed : Bool)
  deriving DecidableEq, Repr

/-- The parts of a deck cycle, in order (log 3). -/
inductive Phase where
  | deck | land | issue | work | sample | close
  deriving DecidableEq, Repr

/-- A raised cause: tcause code, tinfo, slot (11 R289, R291). -/
structure Raise where
  code : BitVec 8
  info : W64
  slot : Slot
  deriving DecidableEq, Repr

/-- What the last CXL.mem read gave the host: bytes and the poison indication (10 R267, 11 R300). -/
structure HostRead where
  bytes : List Byte
  poison : Bool
  deriving DecidableEq, Repr

/-- The whole part. The first block is the model's own (INVENTORY, State: logs 3, 4, 5, 10); the rest is the spec's. -/
structure State where
  phase : Phase
  agenda : List Event
  inputs : List (Nat × Stim)
  focus : TileKey
  slot : Slot
  raised : Option Raise
  free : Nat
  cue : Nat
  tiles : List Tile
  companies : List Company
  launches : List LaunchInfo
  sites : Vector Site 17
  cards : List (Nat × Vector (Vector Byte 16) 4)
  decisions : List Decision
  changes : List SiteChange
  linksOut : List DeckLink
  stitchesOut : List (SiteId × Fin 4)
  circuits : List Circuit
  mem : Memory
  memOrd : List (Nat × Coh)
  nextOrd : Nat
  written : List Nat
  poison : List Nat
  xlate : List XlateEntry
  weights : Memory
  weightBad : List Nat
  hostMem : List (Nat × Memory)
  hostRead : Option HostRead
  mbox : List (Nat × MbWord)
  mirror : List (Nat × MbWord)
  mirrorHolder : Option SiteId
  heldPosts : List (Nat × W64)
  netPuts : List (Nat × W64)
  area : List SiteId
  queues : Vector Queue 64
  nextQueue : Fin 64
  ops : List PendOp
  nextOp : Nat
  nextBlock : Nat
  logHead : W32
  logTail : W64
  logDrop : W64
  log : List FaultRec
  pfHead : W32
  pfNext : W32
  pfReqs : List PfReq
  busCv : BitVec 16
  deckWatts : BitVec 16
  busLowSince : Option Nat
  deckHotSince : Option Nat
  outlet : BitVec 8
  inlet : BitVec 8
  fw : Firmware
  hdm : List Hdm
  peers : Vector Peer 16
  badWord : Option BadWord
  stopped : Bool
  deriving DecidableEq, Repr

/-- Reasons the machine stops with a fault. -/
inductive Fault where
  /-- Raised by every meaning of a slot word when no tile stands at `focus`: there is no tile to issue it. Safe. -/
  | noTile
  deriving DecidableEq, Repr

/-- Reasons a step has no meaning. -/
inductive Refusal where
  /-- An arm of exec that has no meaning yet. Safe. -/
  | notModelled (mnemonic : String)
  deriving DecidableEq, Repr

/-! ### Launch start of a tile (01 R42) -/

/-- A loop level at launch start (R42: inactive). -/
def LoopLevel.launch : LoopLevel := ⟨false, 0, 0, 0, 0, 0⟩

/-- A partial at launch start (06 R155: zero or clear). -/
def Partial.launch : Partial := ⟨Vector.replicate 32 0, 0, Vector.replicate 32 0, 0, false, false, false⟩

/-- The array state at launch start (06 R155). -/
def ArrayState.launch : ArrayState where
  acc := Vector.replicate 64 (Vector.replicate 32 ⟨0, 0⟩)
  sat := 0
  nan := 0
  part := Vector.replicate 128 Partial.launch
  planeBase := none
  planeRows := Vector.replicate 32 none
  cursor := 0
  hdr := 0
  pw := .w4
  sparse := false
  syn := false
  spMeta := 0

/-- The cast state at launch start and after CAST.CLR (R42, 08 R231). -/
def CastState.launch : CastState := ⟨0, 0, 0, 0, 0, 0, [], 0, 0⟩

/-- The registers of a tile at launch start, with the data sections of the binary in the scratchpad (R42). -/
def TState.launch (data : Memory) : TState where
  s := Vector.replicate 32 0
  p := 1
  v := Vector.replicate 32 0
  mask := [BitVec.allOnes 64]
  latS := Vector.replicate 16 0
  latV := Vector.replicate 16 0
  loops := Vector.replicate 4 LoopLevel.launch
  nest := []
  rstack := []
  a := Vector.replicate 8 ⟨0, Vector.replicate 4 0⟩
  q := 0
  k := Vector.replicate 32 0
  own := Vector.replicate 256 0
  e := 0
  clre := 0
  arrive := 0
  arr := ArrayState.launch
  cast := CastState.launch
  spad := data
  ordinal := 0
  pc := 0
  lastAddr := 0
  lastSeg := 0
  lastBundle := 0
  half := 0
  segs := Vector.replicate 2 0
  wait := .none
  skip := 0
  halted := false
  localSince := none
  localNext := none
  handler := false
  retAddr := 0
  lastGroup := none
  xfer := .none
  popped := false
  marked := none
  flight := []
  bufS := Vector.replicate 4 0
  bufV := Vector.replicate 4 0
  hopBusy := Vector.replicate 4 0
  xBusy := Vector.replicate 4 0
  xLast := Vector.replicate 4 0
  wires := []
  xwords := []
  replay := []
  fifo := Vector.replicate 32 []
  signals := []
  ovl := none
  flyTaken := []
  fly := []
  wheel := []
  loadQ := []
  storeQ := []
  nextEntry := 0
  copyQ := []
  mbQ := []
  chorus := []
  combine := []
  ringReq := []
  back := []

/-- No trap taken (R42: zero). -/
def TrapState.launch : TrapState := ⟨0, 0, 0, 0⟩

/-- No boundary cause pending (11 R296). -/
def Pending.launch : Pending := ⟨false, false, false, false, false, 0, 0, 0, none⟩

/-- A status word at launch start (08 R217: zero). -/
def SideStatus.launch : SideStatus := ⟨0, 0, 0, 0⟩

/-! ### Deck cold start -/

/-- An island at cold start: its word reads zero (15 R370). -/
def Island.reset : Island := ⟨0, 0, 0, 0, false, none⟩

/-- A region at cold start: counters and trim words zero (11 R302, 08 R217). Rail live, no tile retired: DESIGN CHOICE, logs 12
and 13, unsafe. -/
def Region.reset : Region where
  offset := 0
  heldTo := 0
  trimGen := 0
  lastCorr := 0
  trimFrom := none
  loads := 0
  zeros := 0
  rail := true
  record := Vector.replicate 16 0x1f
  defects := Vector.replicate 16 0x1f
  mapped := Vector.replicate 16 0x1f
  grade := 16
  islands := Vector.replicate 32 Island.reset
  counts := Vector.replicate 4 0

/-- A site at cold start: the status word's reset values, AUTO 1 (13 R325), EMPTY (14 R354); links untrained (13 R328); power stage
open and permits 16: DESIGN CHOICE, log 12, unsafe. -/
def Site.reset : Site where
  state := .empty
  epoch := 0
  freshCo := 0
  lastCause := 0
  typ := 0
  present := false
  clamp := false
  freshRd := false
  auto := true
  cmdErr := false
  closedSince := none
  openSince := none
  phaseSince := 0
  keepAlive := 0
  mute := false
  module := 0
  chip := 0
  lossCue := none
  stage := false
  amps := 0
  overSince := none
  openAt := none
  tripped := false
  trained := false
  regions := Vector.replicate 4 Region.reset
  modCounts := Vector.replicate 4 0
  pwr := 0
  tmax := 0
  target := 0
  reefMin := 0
  hotNext := none
  warmNext := none
  coolSince := none
  tripSince := none
  links := []
  linkOfs := Vector.replicate 8 none
  report := []
  heldRecs := []
  dropped := 0
  permits := Vector.replicate 2 16
  permitSince := Vector.replicate 2 none
  waitingMsgs := Vector.replicate 2 0
  leaf := 0

/-- A queue at cold start: zero but LOG2N = 4 (14 R341). -/
def Queue.reset : Queue where
  qbase := 0
  enable := false
  log2n := 4
  head := 0
  tail := 0
  code := 0
  stopped := false
  blocked := none
  chain := []
  packet := none
  freed := none
  bound := []

/-- Firmware at cold start, before DECK_COLD_START (14 R354); flash and records empty: DESIGN CHOICE, log 12, unsafe. -/
def Firmware.reset : Firmware := ⟨.off, [], 0, [], false, false, 0, 0, [], false, [], []⟩

/-- A peer at cold start: none (14 R361). -/
def Peer.none : Peer := ⟨0, 0, 0, 0, 0, false, 0⟩

/-- The deck at cold start: deck cue zero (00 R11), memory zero (10 R267, R265), mailbox words empty (14 R339), sites EMPTY (14
R354), no launch. The bus stands at 54 V (13 R321, DESIGN CHOICE, log 12, unsafe). -/
def State.reset : State where
  phase := .deck
  agenda := []
  inputs := []
  focus := ⟨0, 0, 0, 0⟩
  slot := .c
  raised := none
  free := 0
  cue := 0
  tiles := []
  companies := []
  launches := []
  sites := Vector.replicate 17 Site.reset
  cards := []
  decisions := []
  changes := []
  linksOut := []
  stitchesOut := []
  circuits := []
  mem := []
  memOrd := []
  nextOrd := 0
  written := []
  poison := []
  xlate := []
  weights := []
  weightBad := []
  hostMem := []
  hostRead := none
  mbox := []
  mirror := []
  mirrorHolder := none
  heldPosts := []
  netPuts := []
  area := []
  queues := Vector.replicate 64 Queue.reset
  nextQueue := 0
  ops := []
  nextOp := 0
  nextBlock := 0
  logHead := 0
  logTail := 0
  logDrop := 0
  log := []
  pfHead := 0
  pfNext := 0
  pfReqs := []
  busCv := 5400
  deckWatts := 0
  busLowSince := none
  deckHotSince := none
  outlet := 0
  inlet := 0
  fw := Firmware.reset
  hdm := []
  peers := Vector.replicate 16 Peer.none
  badWord := none
  stopped := false

end Sys2Proof.Machine
end

