-- ==== Sys2Proof/Machine/Block.lean ====
section
/-! DEFINITION. Fjarien blocks, MX blocks, the accumulator and the synthesised slices (02 R55 to R69). -/
namespace Sys2Proof.Machine

/-- Bits of a mantissa width (02 R55, 03 R84). -/
def widthBits : Width → Nat
  | .w4 => 4
  | .w6 => 6
  | .w8 => 8
  | .w16 => 16

/-- A block: scale byte, sub-shifts of eight sub-blocks, 256 mantissas (R55, R56). -/
structure Blk where
  e : Nat
  sh : List Nat
  m : List Int
  deriving DecidableEq, Repr

/-- Whether a value is NaN or infinite. -/
def Val.special : Val → Bool
  | .fin .. => false
  | _ => true

/-- floor(log2) of a non-zero magnitude `m × 2^e`. -/
def floorLog2 (m : Nat) (e : Int) : Int := (ilog2 m : Int) + e

/-- The greater of two magnitudes. -/
def magMax (a b : Nat × Int) : Nat × Int :=
  let q := min a.2 b.2
  if a.1 * 2 ^ (a.2 - q).toNat < b.1 * 2 ^ (b.2 - q).toNat then b else a

/-- The magnitude of a finite value. -/
def Val.mag : Val → Nat × Int
  | .fin _ m e => (m, e)
  | _ => (0, 0)

/-- The largest magnitude of a list of values, zero for none. -/
def maxMag (xs : List Val) : Nat × Int := xs.foldl (fun a x => if x.isZero then a else if a.1 == 0 then x.mag else magMax a x.mag) (0, 0)

/-- Whether `m × 2^e < 2^k`. -/
def magBelow (m : Nat) (e k : Int) : Bool := m == 0 || decide (floorLog2 m e < k)

/-- The sub-shift of a sub-block: the largest s in 0..3 that keeps it below 2^(w−1), or 0 (R57). -/
def subShift (w : Nat) (e : Nat) (mx : Nat × Int) : Nat :=
  let ok (s : Nat) := magBelow mx.1 (mx.2 + 127 - e + s) (w - 1)
  if ok 3 then 3 else if ok 2 then 2 else if ok 1 then 1 else 0

/-- A value times 2^k rounded to an integer within ±lim (R57, R62). -/
def roundScaled (mode : Rnd) (rb : Nat) (k lim : Int) : Val → Int
  | .fin s m e => toInt mode rb (-lim) lim (.fin s m (e + k))
  | _ => 0

/-- encode_block of R57; `rb n` is the random integer of element n. -/
def encodeBlock (xs : List Val) (w : Nat) (mode : Rnd) (rb : Nat → Nat) : Blk :=
  if xs.any Val.special then ⟨0xff, List.replicate 8 0, List.replicate 256 0⟩
  else
    let a := maxMag xs
    let e := if a.1 == 0 then 0 else (min 254 (max 0 (floorLog2 a.1 a.2 - (w - 2) + 127))).toNat
    let sh := (List.range 8).map fun j => subShift w e (maxMag ((xs.drop (32 * j)).take 32))
    ⟨e, sh, xs.zipIdx.map fun x => roundScaled mode (rb x.2) (127 - (e : Int) + sh.getD (x.2 / 32) 0) (2 ^ (w - 1) - 1) x.1⟩

/-- The exact value of element i of a block (R56); every element of a NaN block is NaN. -/
def Blk.val (b : Blk) (i : Nat) : Val :=
  if b.e == 0xff then .nan
  else let m := b.m.getD i 0; .fin (m < 0) m.natAbs ((b.e : Int) - 127 - b.sh.getD (i / 32) 0)

/-- Bytes of a block image of width w (R55). -/
def blkBytes (w : Nat) : Nat := 4 + 32 * w

/-- The payload of mantissas as one number, mantissa i at bit w × i (R55). -/
def packInts (w : Nat) : List Int → Nat
  | [] => 0
  | m :: r => (m % (2 ^ w : Nat)).toNat + 2 ^ w * packInts w r

/-- The header word (R55). -/
def Blk.header (b : Blk) : Nat := b.e + 2 ^ 8 * (b.sh.foldr (fun s a => s % 4 + 4 * a) 0)

/-- The image of a block as one little-endian number (R55). -/
def Blk.image (w : Nat) (b : Blk) : Nat := b.header + 2 ^ 32 * packInts w b.m

/-- `n` signed fields of width w from bit 0 of a number. -/
def unpackInts (w : Nat) : Nat → Nat → List Int
  | 0, _ => []
  | n + 1, x => sextNat w x :: unpackInts w n (x / 2 ^ w)

/-- The sub-shift j of a header word (R55, 06 R166). -/
def hdrShift (h j : Nat) : Nat := h / 2 ^ (8 + 2 * j) % 4

/-- A block from its image; the reserved byte is ignored (R55). -/
def blkOf (w : Nat) (img : Nat) : Blk :=
  ⟨img % 256, (List.range 8).map (hdrShift img), unpackInts w 256 (img / 2 ^ 32)⟩

/-! ### MX blocks (R59 to R62) -/

/-- Element width of an MX format (R59). -/
def mxBits : MxFmt → Nat
  | .int8 | .e4m3 | .e5m2 => 8
  | .e2m3 | .e3m2 => 6
  | .e2m1 => 4

/-- The floating-point layout of an MX format; none for MXINT8 (R59). -/
def mxFp : MxFmt → Option FpFmt
  | .int8 => none
  | .e4m3 => some e4m3
  | .e5m2 => some e5m2
  | .e2m3 => some e2m3
  | .e3m2 => some e3m2
  | .e2m1 => some e2m1

/-- emax of R59. -/
def mxEmax : MxFmt → Int
  | .int8 => 0
  | .e4m3 => 8
  | .e5m2 => 15
  | .e2m3 => 2
  | .e3m2 => 4
  | .e2m1 => 2

/-- A value scaled by a power of two. -/
def Val.scale (k : Int) : Val → Val
  | .fin s m e => .fin s m (e + k)
  | v => v

/-- The exact value of an MX element under its scale; scale 0xff makes it NaN (R59). -/
def mxVal (f : MxFmt) (scale elem : Nat) : Val :=
  if scale == 0xff then .nan
  else
    let v := match mxFp f with
      | some t => fpDecode t elem
      | none => let q := sextNat 8 elem; .fin (q < 0) q.natAbs (-6)
    v.scale ((scale : Int) - 127)

/-- Rounding onto an element grid, saturating to the format's maximum (R62); no flush. -/
def mxElem (t : FpFmt) (mode : Rnd) (rb : Nat) : Val → Nat
  | .fin s m e =>
    if m == 0 then t.signBit s
    else
      let q := t.quantum m e
      let enc := t.encMag (roundQuantum mode s m e q rb) q
      t.signBit s + min enc t.maxEnc
  | _ => 0

/-- export_mx of R62 for 32 exact values: the scale and the elements. -/
def exportMx (xs : List Val) (f : MxFmt) (mode : Rnd) (rb : Nat → Nat) : Nat × List Nat :=
  if xs.any Val.special then (0xff, List.replicate 32 0)
  else
    let a := maxMag xs
    let x := if a.1 == 0 then 0 else (min 254 (max 0 (floorLog2 a.1 a.2 - mxEmax f + 127))).toNat
    (x, xs.zipIdx.map fun y =>
      let v := y.1.scale (127 - (x : Int))
      match mxFp f with
      | some t => mxElem t mode (rb y.2) v
      | none => (roundScaled mode (rb y.2) 6 127 v % 256).toNat)

/-- Fields of width w packed from bit 0 (R60). -/
def packNats (w : Nat) : List Nat → Nat
  | [] => 0
  | m :: r => m % 2 ^ w + 2 ^ w * packNats w r

/-! ### The accumulator (R63 to R67) -/

/-- v / 2^k to the nearest integer, ties to even; 0 when k ≥ 48 (R65). -/
def rneShift (v : Int) (k : Nat) : Int :=
  if 48 ≤ k then 0
  else
    let n := roundQuantum .rne false v.natAbs 0 k 0
    if v < 0 then -(n : Int) else n

/-- Halvings that bring a magnitude below 2^46, each rounded to even (R65). -/
def normDown : Nat → Int × Int → Int × Int
  | 0, p => p
  | n + 1, (s, z) => if s.natAbs < 2 ^ 46 then (s, z) else normDown n (rneShift s 1, z + 1)

/-- Doublings that bring a magnitude to at least 2^45 (R65). -/
def normUp : Nat → Int × Int → Int × Int
  | 0, p => p
  | n + 1, (s, z) => if 2 ^ 45 ≤ s.natAbs then (s, z) else normUp n (s * 2, z - 1)

/-- normal of R65. The fuels cover every 64-bit sum. -/
def normal (p : Int × Int) : Int × Int := if p.1 == 0 then (0, 0) else normUp 64 (normDown 64 p)

/-- fold of R65: one block sum (P, Y) into an accumulator. -/
def foldAcc (c : Acc) (p : Int × Int) : Acc :=
  if p.1 == 0 then c
  else
    let n := normal p
    if c.a == 0 then ⟨n.1, n.2⟩
    else
      let r := if n.2 ≤ c.x then normal (c.a + rneShift n.1 (c.x - n.2).toNat, c.x)
        else normal (rneShift c.a (n.2 - c.x).toNat + n.1, n.2)
      ⟨r.1, r.2⟩

/-- The drain of an accumulator to FP32 and whether it saturated (R67); `nan` is the row's NAN flag, which is looked at first (log 68). -/
def drain32 (ftz nan : Bool) (c : Acc) : Nat × Bool :=
  if nan then (fp32.nanEnc, false)
  else
    let v := Val.fin (c.a < 0) c.a.natAbs c.x
    if c.a == 0 then (0, false)
    else
      let q := fp32.quantum c.a.natAbs c.x
      let enc := fp32.encMag (roundQuantum .rne (c.a < 0) c.a.natAbs c.x q 0) q
      if fp32.maxEnc < enc then (fp32.signBit (c.a < 0) + fp32.maxEnc, true)
      else (fpEncode fp32 .rne ftz 0 v, false)

/-! ### Synthesised slices (R68, R69, 06 R167) -/

/-- The slices of an aligned operand of a step: (A slice, B slice, weight); (0, 0, 0) for a step the form lacks. `fp32Form` is the
24-bit form (06 R167). -/
def synSlices (fp32Form : Bool) (step : Nat) (x y : Int) : Int × Int × Nat :=
  if fp32Form then
    let h (m : Int) := m / 2 ^ 16
    let d (m : Int) := m / 2 ^ 8 % 256
    let l (m : Int) := m % 256
    match step with
    | 1 => (h x, h y, 32)
    | 2 => (h x, d y, 24)
    | 3 => (d x, h y, 24)
    | 4 => (h x, l y, 16)
    | 5 => (d x, d y, 16)
    | 6 => (l x, h y, 16)
    | _ => (0, 0, 0)
  else
    let h (m : Int) := m / 2 ^ 8
    let l (m : Int) := m % 256
    match step with
    | 1 => (h x, h y, 16)
    | 2 => (h x, l y, 8)
    | 3 => (l x, h y, 8)
    | 4 => (l x, l y, 0)
    | _ => (0, 0, 0)

end Sys2Proof.Machine
end

