-- ==== Sys2Proof/Machine/Memory.lean ====
section
/-! DEFINITION. Reading and writing bytes of a memory in canonical form (10 R263, R267): an unlisted address reads zero. -/
namespace Sys2Proof.Machine

/-- The byte at an address; an unlisted address reads zero (01 R42, 10 R265, R267). -/
def memGet : Memory → Nat → Byte
  | [], _ => 0
  | (b, v) :: r, a => if b = a then v else memGet r a

/-- One byte written; writing zero removes the entry. -/
def memPut : Memory → Nat → Byte → Memory
  | [], a, v => if v = 0 then [] else [(a, v)]
  | (b, u) :: r, a, v =>
    if a < b then (if v = 0 then (b, u) :: r else (a, v) :: (b, u) :: r)
    else if a = b then (if v = 0 then r else (a, v) :: r)
    else (b, u) :: memPut r a v

/-- Strictly rising addresses and no zero entry, above a bound. -/
def memWfFrom : Nat → Memory → Bool
  | _, [] => true
  | lo, (a, v) :: r => decide (lo ≤ a) && v != 0 && memWfFrom (a + 1) r

/-- The canonical form of a memory. -/
def memWf (m : Memory) : Bool := memWfFrom 0 m

/-- Cells written in order; the later write of one address stands. -/
def memPutAll (m : Memory) : List Host.Cell → Memory
  | [] => m
  | (a, v) :: r => memPutAll (memPut m a v) r

/-- `n` bytes from an address upward. -/
def memBytes (m : Memory) (a : Nat) : Nat → List Byte
  | 0 => []
  | n + 1 => memGet m a :: memBytes m (a + 1) n

/-- The little-endian value of `n` bytes (02 R44). -/
def memNat (m : Memory) (a n : Nat) : Nat := leNat (memBytes m a n)

/-- The little-endian value of [a, a + n), read in one pass over the list. -/
def memSpan (m : Memory) (a n : Nat) : Nat :=
  m.foldl (fun v c => if a ≤ c.1 ∧ c.1 < a + n then v + c.2.toNat * 2 ^ (8 * (c.1 - a)) else v) 0

/-- Bytes as cells from an address upward. -/
def cellsAt (a : Nat) : List Byte → List Host.Cell
  | [] => []
  | b :: r => (a, b) :: cellsAt (a + 1) r

/-- The cells of `[a, a + n)` in `m`, as written elsewhere from `b` upward. -/
def moveCells (m : Memory) (a b n : Nat) : List Host.Cell := cellsAt b (memBytes m a n)

/-- The memory without the entries in `[a, a + n)`: the range cleared to zero. -/
def memClear (m : Memory) (a n : Nat) : Memory := m.filter fun c => decide (c.1 < a) || decide (a + n ≤ c.1)

end Sys2Proof.Machine
end

