-- ==== Sys2Proof/Machine/Ops.lean ====
section
/-! DEFINITION. The shared operations: finding a tile and putting it back, results in flight, loop stepping (09, 04 R96), owner checks
(01 R32), taking a trap and returning from one (11 R293, R295), causes that end a launch (11 R298), fault records (11 R301) and mailbox
words (14 R339). -/
namespace Sys2Proof.Machine

/-! ### Lists in an order -/

/-- A list with one more in its order. -/
def insertBy {α : Type} (before : α → α → Bool) (a : α) : List α → List α
  | [] => [a]
  | b :: r => if before b a then b :: insertBy before a r else a :: b :: r

/-- A list in an order. -/
def sortBy {α : Type} (before : α → α → Bool) (l : List α) : List α := l.foldr (insertBy before) []

/-! ### Finding and replacing -/

/-- The tile of a key. -/
def State.tileAt (s : State) (k : TileKey) : Option Tile := s.tiles.find? fun t => decide (t.key = k)

/-- The company of a number. -/
def State.coAt (s : State) (n : Nat) : Option Company := s.companies.find? fun c => decide (c.num = n)

/-- The gang of an index in a company. -/
def Company.gangAt (c : Company) (g : Nat) : Option Gang := c.gangs.find? fun x => decide (x.idx = g)

/-- The state with one tile replaced, found by its key. -/
def State.setTile (s : State) (t : Tile) : State :=
  { s with tiles := s.tiles.map fun u => if u.key = t.key then t else u }

/-- The state with one company replaced, found by its number. -/
def State.setCo (s : State) (c : Company) : State :=
  { s with companies := s.companies.map fun d => if d.num = c.num then c else d }

/-- The state with one site replaced. -/
def State.setSite (s : State) (n : SiteId) (f : Site → Site) : State := { s with sites := s.sites.set n (f s.sites[n]) }

/-- One region of a site replaced. -/
def State.setRegion (s : State) (n : SiteId) (q : Fin 4) (f : Region → Region) : State :=
  s.setSite n fun x => { x with regions := x.regions.set q (f x.regions[q]) }

/-- A tile with the company, gang and state it stands in: what a word reads. -/
structure Here where
  s : State
  co : Company
  gang : Gang
  t : Tile

/-- The registers of the tile. -/
abbrev Here.st (h : Here) : TState := h.t.st

/-- The company cue of the cycle (00 R11). -/
abbrev Here.cue (h : Here) : Nat := h.co.cue

/-- The company cue as a 64-bit count (00 R4). -/
def Here.cue64 (h : Here) : Nat := h.cue % 2 ^ 64

/-- A tile with its company and gang. -/
def State.hereAt (s : State) (k : TileKey) : Option Here :=
  (s.tileAt k).bind fun t => (s.coAt k.co).bind fun c => (c.gangAt k.gang).map fun g => ⟨s, c, g, t⟩

/-- The tile in focus. -/
def State.here (s : State) : Option Here := s.hereAt s.focus

/-- The state with the tile's registers replaced. -/
def Here.put (h : Here) (st : TState) : State := h.s.setTile { h.t with st := st }

/-- Tiles of a company. -/
def State.tilesOf (s : State) (n : Nat) : List Tile := s.tiles.filter fun t => decide (t.key.co = n)

/-- Every tile of a company replaced. -/
def State.mapTiles (s : State) (n : Nat) (f : Tile → Tile) : State :=
  { s with tiles := s.tiles.map fun t => if t.key.co = n then f t else t }

/-- A value drawn from the free choices: a number below `n`, and the state with the counter advanced (log 5). -/
def State.draw (s : State) (n : Nat) : Nat × State := (Config.freeNat s.free % n, { s with free := s.free + 1 })

/-- A number from `lo` to `hi`. -/
def State.drawIn (s : State) (lo hi : Nat) : Nat × State := let d := s.draw (hi - lo + 1); (lo + d.1, d.2)

/-! ### Results in flight (01 R13) -/

/-- An effect that lands `lat` cycles after cue `c`. -/
def TState.fly1 (st : TState) (c lat : Nat) (e : Eff) : TState := { st with flight := st.flight ++ [⟨c + lat, e⟩] }

/-- Index of a scalar latch; the units with 64-bit latches are c, s, xa, xb (01 R21). -/
def latSIdx (u : Slot) (b : Fin 4) : Fin 16 :=
  match u with
  | .c => ⟨b, by omega⟩
  | .s => ⟨4 + b, by omega⟩
  | .xa => ⟨8 + b, by omega⟩
  | _ => ⟨12 + b, by omega⟩

/-- Index of a vector latch; the units are va, vb, m, f (01 R21). -/
def latVIdx (u : Slot) (b : Fin 4) : Fin 16 :=
  match u with
  | .va => ⟨b, by omega⟩
  | .vb => ⟨4 + b, by omega⟩
  | .m => ⟨8 + b, by omega⟩
  | _ => ⟨12 + b, by omega⟩

/-- A 64-bit result of the s slot: its latch, and its register unless N (01 R20, 03 R73). -/
def TState.resS (st : TState) (c lat : Nat) (r : Dst) (v : W64) : TState :=
  let st := st.fly1 c lat (.latS .s r.l v)
  if r.n then st else st.fly1 c lat (.sreg r.d v)

/-- A vector result of a unit under a mask: its latch, and its register unless N (01 R19, R20). -/
def TState.resV (st : TState) (u : Slot) (c lat : Nat) (r : Dst) (v : Vec) (mask : W64) : TState :=
  let st := st.fly1 c lat (.latV u r.l v mask)
  if r.n then st else st.fly1 c lat (.vreg r.d v mask)

/-- All lanes. -/
def allLanes : W64 := BitVec.allOnes 64

/-- A result of the f slot for a scalar register: its vector latch holds the word in lanes 1:0 (01 R21, 08 R207). -/
def TState.resF (st : TState) (c lat : Nat) (r : Dst) (v : W64) : TState :=
  let st := st.fly1 c lat (.latV .f r.l (inLow v) allLanes)
  if r.n then st else st.fly1 c lat (.sreg r.d v)

/-- The active mask (01 R18). -/
def TState.active (st : TState) : W64 := st.mask.head?.getD allLanes

/-- Latches cleared and latch writes in flight dropped (01 R22); an engine's result outstanding loses its latch. -/
def TState.groupSwitch (st : TState) : TState :=
  { st with
    latS := Vector.replicate 16 0
    latV := Vector.replicate 16 0
    flight := st.flight.filter fun f => match f.eff with
      | .latS .. | .latV .. => false
      | _ => true
    wheel := st.wheel.map fun w => { w with lat := none }
    mbQ := st.mbQ.map fun w => { w with lat := none } }

/-! ### Loop levels and the next address (04 R96) -/

/-- Whether an address lies in the range of a level. -/
def LoopLevel.covers (l : LoopLevel) (a : Nat) : Bool := decide (l.start.toNat ≤ a) && decide (a ≤ l.stop.toNat)

/-- A level deactivated, IDX kept; a REPLAY level clears q (04 R96, R98). -/
def TState.deact (st : TState) (l : Fin 4) : TState :=
  { st with
    loops := st.loops.set l { st.loops[l] with active := false }
    nest := st.nest.filter fun x => x != l
    q := if st.loops[l].stages ≠ 0 then 0 else st.q }

/-- The step past address `a` through the levels that end there, innermost first (04 R96, R98). -/
def TState.endSteps (a : Nat) : List (Fin 4) → TState → TState
  | [], st => { st with pc := a + 1 }
  | l :: r, st =>
    let v := st.loops[l]
    if v.stop.toNat = a then
      if v.count ≠ 0 then
        let n := v.count - 1
        { st with
          pc := v.start.toNat
          loops := st.loops.set l { v with count := n, idx := v.idx + 1 }
          q := if v.stages ≠ 0 then (st.q <<< 1) ||| (if decide (v.stages - 1 ≤ n.toNat) then 1 else 0) else st.q }
      else TState.endSteps a r (st.deact l)
    else TState.endSteps a r st

/-- The step of a bundle that takes no transfer (04 R96). -/
def TState.stepOn (st : TState) : TState := TState.endSteps st.pc st.nest st

/-- A taken transfer: levels left by it are deactivated (04 R96). -/
def TState.transfer (st : TState) (t : Nat) : TState :=
  let st' := st.nest.foldl (fun u l => if u.loops[l].covers st.pc && !u.loops[l].covers t then u.deact l else u) st
  { st' with pc := t }

/-- The innermost active level that covers the address (01 R22). -/
def TState.groupOf (st : TState) : Group := ⟨st.segs[st.half], st.nest.find? fun l => st.loops[l].covers st.pc⟩

/-- Whether the bundle at `pc` is in replay mode (04 R99). -/
def TState.replayMode (st : TState) : Bool := st.nest.any fun l => st.loops[l].stages != 0 && st.loops[l].covers st.pc

/-! ### Instruction memory (03 R70, R79) -/

/-- Address of the first bundle of the current half; a binary that is not overlaid stands in half 0 whole. -/
def TState.base (st : TState) : Nat := 1024 * st.half.val

/-- The bundle at an address, or none outside the segment in the current half. -/
def Tile.bundleAt (t : Tile) (a : Nat) : Option Bundle :=
  if a < t.st.base then none else (t.imem[t.st.half])[a - t.st.base]?

/-- Bundles of the segment in the current half. -/
def Tile.segLen (t : Tile) : Nat := (t.imem[t.st.half]).length

/-- Whether the launch's binary is overlaid. -/
abbrev Here.overlaid (h : Here) : Bool := h.co.info.overlaid

/-- The absolute address of a target, none when it breaks R79: in an overlaid binary T[10] alone is asked, though the segment may be
shorter (log 55). -/
def Here.target (h : Here) (t : BitVec 11) : Option Nat :=
  if h.overlaid then (if t.toNat < 1024 then some (h.st.base + t.toNat) else none)
  else if t.toNat < h.t.segLen then some t.toNat else none

/-! ### Owner of units (01 R31, R32) -/

/-- The OWNER field of a unit. -/
def TState.owner (st : TState) (u : Nat) : Nat := (st.own.getD u 0).toNat % 16

/-- The owner value CORE. -/
def ownCore : Nat := 0

/-- The lowest unit of [a, a + n) whose owner is not `o`, for n > 0 (01 R32). -/
def TState.notOwned (st : TState) (o a n : Nat) : Option Nat :=
  ((List.range ((a + n - 1) / 4096 + 1 - a / 4096)).map (· + a / 4096)).find? fun u => st.owner u != o

/-- Units returned to CORE, with POISON set or kept (01 R31, 07 R177). -/
def TState.returnUnits (st : TState) (us : List Nat) (poison : Bool) : TState :=
  { st with own := us.foldl (fun o u =>
      if h : u < 256 then o.set u (if poison then 0x10 else o[u] &&& 0x10) else o) st.own }

/-- An event flag arrives (04 R106). -/
def TState.arrives (st : TState) (j : Nat) : TState := { st with arrive := st.arrive ||| (1#16 <<< j) }

/-! ### Causes (11 R289) -/

def cILLEGAL : BitVec 8 := 0x01
def cOWNER : BitVec 8 := 0x02
def cBOUNDS : BitVec 8 := 0x03
def cBANKFMT : BitVec 8 := 0x04
def cLOOPREG : BitVec 8 := 0x05
def cDEADLINE : BitVec 8 := 0x06
def cWREFRESH : BitVec 8 := 0x07
def cSTACK : BitVec 8 := 0x08
def cUSER : BitVec 8 := 0x09
def cWHEELPOS : BitVec 8 := 0x0a
def cECC : BitVec 8 := 0x10
def cSITE : BitVec 8 := 0x11
def cREGION : BitVec 8 := 0x12
def cISLAND : BitVec 8 := 0x13
def cHOLE : BitVec 8 := 0x14
def cROUTE : BitVec 8 := 0x15

/-- The priority of a cause, 1 the highest (11 R289). -/
def priority (c : BitVec 8) : Nat :=
  match c.toNat with
  | 0x01 => 1
  | 0x09 => 2
  | 0x06 => 3
  | 0x05 => 4
  | 0x08 => 5
  | 0x0a => 6
  | 0x03 => 7
  | 0x04 => 8
  | 0x02 => 9
  | 0x07 => 10
  | 0x11 => 11
  | 0x12 => 12
  | 0x13 => 13
  | 0x15 => 14
  | 0x14 => 15
  | _ => 16

/-- Causes that end the launch even when it has a handler: ILLEGAL and DEADLINE of kinds 5 to 7 (11 R289). -/
def finalCause (c : BitVec 8) (info : W64) : Bool := c == cILLEGAL || (c == cDEADLINE && decide (5 ≤ bits info 63 60))

/-- A DEADLINE's tinfo: kind in [63:60], event or unit in [47:40], cycles in [39:0] (04 R116), modulo 2^40 where there are more (DESIGN CHOICE, log
80). -/
def deadlineInfo (kind arg cycles : Nat) : W64 := BitVec.ofNat 64 (kind * 2 ^ 60 + arg % 2 ^ 8 * 2 ^ 40 + cycles % 2 ^ 40)

/-- The tinfo of OWNER: lane, owner found, unit (04 R116, 05 R154). -/
def ownerInfo (lane owner unit : Nat) : W64 := BitVec.ofNat 64 (lane % 64 * 2 ^ 40 + owner % 16 * 2 ^ 8 + unit % 256)

/-! ### Fault records (11 R301) -/

/-- Where a record says a fault lies. -/
structure RecPlace where
  site : Nat
  region : Nat
  row : Nat
  col : Nat
  pcol : Nat
  deriving DecidableEq, Repr

/-- Physical rows that are not retired, in ascending order (12 R306). -/
def workingRows (d : Vector Byte 16) : List Nat := (List.range 16).filter fun p => !(d.getD p 0).getLsbD 7

/-- The physical row of a logical row (12 R306). -/
def physRow (d : Vector Byte 16) (r : Nat) : Nat := (workingRows d).getD r r

/-- The physical column of a logical column of a physical row (12 R306). -/
def physCol (d : Vector Byte 16) (p j : Nat) : Nat := if j < (d.getD p 0x1f).toNat % 32 then j else j + 1

/-- The place of a tile. -/
def State.placeOf (s : State) (t : Tile) : RecPlace :=
  let d := (s.sites[t.site].regions[t.region]).mapped
  ⟨t.site, t.region, t.row, t.col, physCol d (physRow d t.row) t.col⟩

/-- Where a tile's weight store begins in `State.weights`: stores stand by physical tile (01 R42, 10 R265). -/
def State.weightBase (s : State) (t : Tile) : Nat :=
  let d := (s.sites[t.site].regions[t.region]).mapped
  let p := physRow d t.row
  (((t.site.val * 4 + t.region.val) * 16 + p) * 17 + physCol d p t.col) * Config.weightBytes

/-- A status word (08 R217). -/
def SideStatus.image (x : SideStatus) : W64 :=
  BitVec.ofNat 64 (x.lost.toNat * 2 ^ 32 + x.torn.toNat * 2 ^ 16 + x.overrun.toNat * 2 ^ 8 + x.under.toNat)

/-- A record's words 0 to 3 (11 R301); DROPPED is filled when a leaf controller posts it. -/
def faultRec (kind : Nat) (code : BitVec 8) (co : Nat) (p : RecPlace) (unit : Nat) (info : W64) (pc : W32) (deck : Nat) : FaultRec where
  w0 := BitVec.ofNat 64 (kind * 2 ^ 56 + code.toNat * 2 ^ 48 + co % 2 ^ 16 * 2 ^ 32 + p.site % 32 * 2 ^ 27 + p.region % 4 * 2 ^ 25 +
    p.row % 16 * 2 ^ 21 + p.col % 16 * 2 ^ 17 + p.pcol % 32 * 2 ^ 12 + unit % 256 * 2 ^ 4)
  w1 := info
  w2 := BitVec.ofNat 64 (pc.toNat * 2 ^ 32)
  w3 := BitVec.ofNat 64 deck
  st := Vector.replicate 4 0

end Sys2Proof.Machine
end

