-- ==== Sys2Proof/Machine/Deck.lean ====
section
/-! DEFINITION. Deck memory and what a party reads of it (00 R3; 10 R267 to R269, R279, R280; 13 R332), host memory (10 R277), mailbox
words (14 R339), the fault log (11 R301, 14 R340). -/
namespace Sys2Proof.Machine

/-! ### Sites and windows -/

/-- Whether a site stands in ADMITTED, ACTIVE or DRAINING (00 R3). -/
def SiteState.up : SiteState → Bool
  | .admitted | .active | .draining => true
  | _ => false

/-- Whether a state lies in POWERING … DRAINING (13 R326). -/
def SiteState.powered : SiteState → Bool
  | .powering | .testing | .training | .admitted | .active | .draining => true
  | _ => false

/-- The loss cue of a site, the earliest at which the loss was sensed: the one on record, or that of a module that has fallen silent, 4,096 cycles
after its last keep-alive (13 R329). -/
def Site.lossAt (x : Site) : Option Nat :=
  if x.mute && x.state.powered then some ((x.lossCue.map (min (x.keepAlive + 4096))).getD (x.keepAlive + 4096)) else x.lossCue

/-- The loss cue of a site. -/
def State.lossOf (s : State) (n : SiteId) : Option Nat := (s.sites[n]).lossAt

/-- Whether a site is past its loss cue (13 R329). -/
def State.pastLoss (s : State) (n : SiteId) : Bool := (s.lossOf n).any fun l => decide (l ≤ s.cue)

/-- Whether a site is ADMITTED or ACTIVE. -/
def SiteState.serving : SiteState → Bool
  | .admitted | .active => true
  | _ => false

/-- Site S. -/
def siteS : SiteId := 16

/-- Whether the stage manager is there: site S serves and its firmware runs, restarts apart (13 R336, 14 R358). -/
def State.serviceUp (s : State) : Bool :=
  (s.sites[siteS]).state.serving && (s.sites[siteS]).lossCue.isNone && decide (s.fw.mode = .running)

/-- Whether a site is a compute site. -/
def isCompute (n : SiteId) : Bool := n.val < 8

/-- The site whose window holds a deck physical address; none in the reserved range (00 R3). -/
def winSite (a : Nat) : Option SiteId :=
  if h : a / Config.siteWindow < 16 then some ⟨a / Config.siteWindow, Nat.lt_trans h (by decide)⟩ else none

/-- Whether an address lies in the populated part of its window (00 R3). -/
def populated (a : Nat) : Bool :=
  decide (a / Config.siteWindow < 16) &&
    decide (a % Config.siteWindow < if a / Config.siteWindow < 8 then Config.computeBytes else Config.memoryBytes)

/-- Whether [a, a + n) lies in the populated range of one window. -/
def populatedRange (a n : Nat) : Bool :=
  populated a && (n == 0 || populated (a + n - 1) && a / Config.siteWindow == (a + n - 1) / Config.siteWindow)

/-- Whether a region's always-on rail is live. -/
def State.railLive (s : State) (site : SiteId) (q : Fin 4) : Bool := ((s.sites[site]).regions[q]).rail

/-- The anchor region of a module (12 R313). -/
def State.anchor (s : State) (n : SiteId) : Fin 4 :=
  if isCompute n then ((List.finRange 4).find? fun q => s.railLive n q).getD 0 else 0

/-- What the copy of the site table that a region of a module reads says of a site: as before the oldest transition that the region's own counter has
not reached, else as it stands (13 R327). -/
def State.siteView (s : State) (n : SiteId) (q : Fin 4) (m : Nat) : SiteState × BitVec 16 :=
  let x := s.sites.toList.getD m Site.reset
  ((s.changes.find? fun c => c.site.val == m && c.ahead.contains (n, q)).map fun c => (c.was, c.epoch)).getD (x.state, x.epoch)

/-- A site as its entry of the table shows it at site S (13 R325, R327). -/
def State.shown (s : State) (m : SiteId) : Site :=
  let x := s.sites[m]
  ((s.changes.find? fun c => c.site == m && c.ahead.contains (siteS, 0)).map fun c =>
    { x with state := c.was, epoch := c.epoch, typ := c.typ, lastCause := c.cause }).getD x

/-- The state a module knows itself in, by its own counter: its window and its lamp follow it (13 R327). -/
def State.ownView (s : State) (n : SiteId) : SiteState := (s.siteView n (s.anchor n) n.val).1

/-- The lamp of a site (13 R324, R327). -/
def State.lampOf (s : State) (n : SiteId) : Lamp := (s.ownView n).lamp

/-- Whether the window of a site is a hole for an access performed now (00 R3; 13 R327, R329). -/
def State.siteHole (s : State) (n : SiteId) : Bool :=
  !(s.ownView n).up || s.pastLoss n

/-- Whether an address is a hole for an access performed now (00 R3, 13 R329). -/
def State.hole (s : State) (a : Nat) : Bool :=
  !populated a || match winSite a with
    | none => true
    | some n => s.siteHole n

/-! ### Coherence order (10 R269) -/

/-- Whether one place is another or lies before it: by cycle, then leaf controllers, companies by number, the host, then by the order in which
the places were taken (10 R269). -/
def Coh.le (a b : Coh) : Bool :=
  decide (a.cycle < b.cycle) || a.cycle == b.cycle && (decide (a.kind < b.kind) || a.kind == b.kind &&
    (decide (a.co < b.co) || a.co == b.co && decide (a.count ≤ b.count)))

/-- Who places a write (10 R269). -/
inductive Placer where
  | leaf
  | company (n : Nat)
  | host
  deriving DecidableEq, Repr

/-- The place a write takes now, `i` others of the same moment before it (10 R269). -/
def State.place0 (s : State) (p : Placer) (i : Nat) : Coh :=
  match p with
  | .leaf => ⟨s.cue, 0, 0, s.nextOrd + 1 + i⟩
  | .company n => ⟨s.cue, 1, n, s.nextOrd + 1 + i⟩
  | .host => ⟨s.cue, 2, 0, s.nextOrd + 1 + i⟩

/-- The place of the write whose byte memory holds. -/
def State.ordOf (s : State) (a : Nat) : Coh := ((s.memOrd.find? fun p => p.1 == a).map (·.2)).getD ⟨0, 0, 0, 0⟩

/-- One byte of a write of place `ord` performed on memory; a later write already performed stands (10 R269). -/
def State.performByte (s : State) (ord : Coh) (c : Host.Cell) : State :=
  if (s.ordOf c.1).le ord then
    { s with mem := memPut s.mem c.1 c.2, memOrd := (c.1, ord) :: s.memOrd.filter fun p => p.1 != c.1 }
  else s

/-- The 64-byte block of an address. -/
def blockOf (a : Nat) : Nat := a / 64

/-- The blocks that cells touch, each once. -/
def blocksOf (cs : List Host.Cell) : List Nat := (cs.map fun c => blockOf c.1).eraseDups

/-- Whether cells cover a whole block (11 R300). -/
def coversBlock (cs : List Host.Cell) (b : Nat) : Bool := (List.range 64).all fun i => cs.any fun c => c.1 == 64 * b + i

/-- A write performed on deck memory: its bytes outside holes, the blocks no longer fresh, the poison it clears (10 R267, R269; 11 R300;
13 R332). -/
def State.perform (s : State) (ord : Coh) (cs : List Host.Cell) : State :=
  let cs := cs.filter fun c => !s.hole c.1
  let s := cs.foldl (fun s c => s.performByte ord c) s
  { s with
    written := (blocksOf cs ++ s.written).eraseDups
    poison := s.poison.filter fun b => !coversBlock cs b }

/-- A write placed now and performed at once (10 R269): those of the host, of the wheel and of leaf controllers. -/
def State.placeWrite (s : State) (p : Placer) (cs : List Host.Cell) : State := { s with nextOrd := s.nextOrd + 1 }.perform (s.place0 p 0) cs

/-- Every gated write of a company, sealed and open. -/
def Company.gated (c : Company) : List GWrite := (c.gateSealed.map (·.writes)).flatten ++ c.gateOpen

/-- A byte of deck memory, or of host memory on a port, as the latest of some writes leaves it, over a start value of place `ord`. -/
def latestByte (port : Option Nat) (a : Nat) (p : Coh × Byte) (ws : List GWrite) : Coh × Byte :=
  ws.foldl (fun p w => if w.host == port && p.1.le w.ord then
    match w.bytes.find? fun c => c.1 == a with
    | some c => (w.ord, c.2)
    | none => p
    else p) p

/-- Gated writes whose gate buffer stands: none of a module past its loss cue (13 R329, R330). -/
def State.gatedOf (s : State) (c : Company) : List GWrite := c.gated.filter fun w => !s.pastLoss w.site

/-- What a party of the company reads at an address: the coherence-latest write visible to it (10 R279, R280). -/
def State.companyByte (s : State) (c : Company) (a : Nat) : Byte := (latestByte none a (s.ordOf a, memGet s.mem a) (s.gatedOf c)).2

/-- `n` bytes read by a company, a hole reading zero. -/
def State.companyBytes (s : State) (c : Company) (a n : Nat) : List Byte :=
  (List.range n).map fun i => if s.hole (a + i) then 0 else s.companyByte c (a + i)

/-- Whether a block is fresh to a company, or to a party outside every company (13 R332). -/
def State.freshTo (s : State) (c : Option Company) (b : Nat) : Bool :=
  !s.written.contains b && match c with
    | none => true
    | some c => !((s.gatedOf c).any fun w => w.host.isNone && w.bytes.any fun x => blockOf x.1 == b)

/-- Blocks of [a, a + n). -/
def blockRange (a n : Nat) : List Nat := if n = 0 then [] else (List.range ((a + n - 1) / 64 + 1 - a / 64)).map (· + a / 64)

/-- The status words after a read of fresh blocks (13 R332); `who` is the company number, 0xffff for the host or a walker. -/
def State.freshRead (s : State) (c : Option Company) (who : BitVec 16) (a n : Nat) : State :=
  (blockRange a n).foldl (fun s b =>
    match winSite (64 * b) with
    | some i =>
      if !s.hole (64 * b) && s.freshTo c b then
        s.setSite i fun x => { x with freshRd := true, freshCo := if x.freshRd then x.freshCo else who }
      else s
    | none => s) s

/-- Whether a read of [a, a + n) meets a poisoned block (11 R300). -/
def State.poisoned (s : State) (a n : Nat) : Bool := (blockRange a n).any s.poison.contains

/-! ### Host memory (10 R277, log 2) -/

/-- A byte of host memory on a port: what was written through the model, else the free value (log 2). -/
def State.hostGet (s : State) (port a : Nat) : Byte :=
  match s.hostMem.find? fun p => p.1 == port with
  | some p => ((p.2.find? fun c => c.1 == a).map (·.2)).getD (Config.hostByte port a)
  | none => Config.hostByte port a

/-- `n` bytes of host memory as a party of a company reads them: the company's own writes are visible to it once they stand in the gate (10
R279, R283; log 60). -/
def State.companyHost (s : State) (c : Company) (port a n : Nat) : List Byte :=
  (List.range n).map fun i => (latestByte (some port) (a + i) (⟨0, 0, 0, 0⟩, s.hostGet port (a + i)) (s.gatedOf c)).2

/-- `n` bytes of host memory. -/
def State.hostBytes (s : State) (port a n : Nat) : List Byte := (List.range n).map fun i => s.hostGet port (a + i)

/-- A cell put into a rising list, zero kept. -/
def cellPut : Memory → Host.Cell → Memory
  | [], c => [c]
  | d :: r, c => if c.1 < d.1 then c :: d :: r else if c.1 = d.1 then c :: r else d :: cellPut r c

/-- Bytes written in host memory of a port. -/
def State.hostPut (s : State) (port : Nat) (cs : List Host.Cell) : State :=
  match s.hostMem.find? fun p => p.1 == port with
  | some _ => { s with hostMem := s.hostMem.map fun p => if p.1 == port then (port, cs.foldl cellPut p.2) else p }
  | none => { s with hostMem := s.hostMem ++ [(port, cs.foldl cellPut [])] }

/-! ### Mailbox words (14 R339) -/

/-- A word put into a rising list whose unlisted words are empty and zero. -/
def mbInsert : List (Nat × MbWord) → Nat → MbWord → List (Nat × MbWord)
  | [], w, x => if x = ⟨0, false⟩ then [] else [(w, x)]
  | p :: r, w, x =>
    if w < p.1 then (if x = ⟨0, false⟩ then p :: r else (w, x) :: p :: r)
    else if w = p.1 then (if x = ⟨0, false⟩ then r else (w, x) :: r)
    else p :: mbInsert r w x

/-- A mailbox word. -/
def State.mb (s : State) (w : Nat) : MbWord := ((s.mbox.find? fun p => p.1 == w).map (·.2)).getD ⟨0, false⟩

/-- A mailbox word changed; the mirror follows every performed change (13 R337, 14 R339). -/
def State.mbSet (s : State) (w : Nat) (x : MbWord) : State :=
  let m := mbInsert s.mbox w x
  { s with mbox := m, mirror := if s.mirrorHolder.isSome then m else s.mirror }

/-- A post: the value written, the word full whatever it was (14 R339); it waits while site S is away (13 R336). -/
def State.mbPost (s : State) (w : Nat) (v : W64) : State :=
  if s.serviceUp then s.mbSet w ⟨v, true⟩ else { s with heldPosts := s.heldPosts ++ [(w, v)] }

/-- The posts that waited for site S, in order. -/
def State.flushPosts (s : State) : State := s.heldPosts.foldl (fun s p => s.mbSet p.1 ⟨p.2, true⟩) { s with heldPosts := [] }

/-! ### The fault log (11 R301, 13 R336, 14 R340) -/

/-- A record written in the log, or dropped when 1,024 records wait for the host (14 R340). -/
def State.logRec (s : State) (r : FaultRec) : State :=
  if (s.logHead - s.logTail.setWidth 32).toNat < 1024 then
    { s with log := (s.log ++ [r]).drop (s.log.length + 1 - 1024), logHead := s.logHead + 1 }
  else { s with logDrop := if s.logDrop = BitVec.allOnes 64 then s.logDrop else s.logDrop + 1 }

/-- A record posted by the leaf controller of a site: held while site S is away, 256 at most (11 R301, 13 R336). -/
def State.postRec (s : State) (site : SiteId) (r : FaultRec) : State :=
  if s.serviceUp then s.logRec r
  else s.setSite site fun x =>
    if x.heldRecs.length < 256 then { x with heldRecs := x.heldRecs ++ [r] }
    else { x with dropped := min (2 ^ 32 - 1) (x.dropped + 1) }

/-- The records a site held are posted, the first with the count it dropped (11 R301, 13 R336); they are held though the site's own module is lost or
replaced (DESIGN CHOICE, log 86). -/
def State.flushRecs (s : State) (site : SiteId) : State :=
  let x := s.sites[site]
  match x.heldRecs with
  | [] => s
  | r :: rest =>
    let r := { r with w2 := r.w2 ||| BitVec.ofNat 64 x.dropped }
    let s := s.setSite site fun x => { x with heldRecs := [], dropped := 0 }
    (r :: rest).foldl State.logRec s

end Sys2Proof.Machine
end

