-- ==== Sys2Proof/Machine/Tree.lean ====
section
/-! DEFINITION. Deck links (00 R2, 12 R309), the trim tree (12 R313), the deck counters (12 R312). -/
namespace Sys2Proof.Machine

/-! ### Links (00 R2, 12 R309) -/

/-- The neighbour of a site: 0 north, 1 east, 2 south, 3 west (00 R2). -/
def neighbour (n : SiteId) (d : Nat) : Option SiteId :=
  let k := n.val
  let at_ (x : Nat) : Option SiteId := if h : x < 17 then some ⟨x, h⟩ else none
  if k < 8 then
    let row := k / 4 * 4
    match d with
    | 0 => at_ (if k < 4 then 8 + k else k - 4)
    | 1 => at_ (row + (k + 1) % 4)
    | 2 => at_ (if k < 4 then k + 4 else 8 + k)
    | _ => at_ (row + (k + 3) % 4)
  else if k < 16 then
    match d with
    | 0 => if 12 ≤ k then at_ (k - 8) else none
    | 1 => if k % 4 < 3 then at_ (k + 1) else none
    | 2 => if k < 12 then at_ (k - 8) else none
    | _ => if 0 < k % 4 then at_ (k - 1) else none
  else none

/-- The link a link meets: N0 with S1, N1 with S0, E0 with W1, E1 with W0; a memory module has one link east and one west (12 R309). -/
def linkPeer (l : DeckLink) : Option DeckLink :=
  let d := l.port.val / 2
  if 8 ≤ l.site.val ∧ d % 2 = 1 ∧ l.port.val % 2 ≠ d / 2 then none
  else (neighbour l.site d).map fun m => ⟨m, ⟨((d + 2) % 4) * 2 + (1 - l.port.val % 2), by omega⟩⟩

/-- The region of a compute module whose edge carries a link (12 R309). -/
def linkRegion (p : Fin 8) : Fin 4 :=
  match p.val with
  | 0 => 0
  | 1 => 1
  | 2 => 1
  | 3 => 2
  | 4 => 2
  | 5 => 3
  | 6 => 3
  | _ => 0

/-- The link of an outer side of a region; none for a stitch side (12 R309). -/
def sideLink (q : Fin 4) (d : Side) : Option (Fin 8) :=
  match q, d with
  | 0, .n => some 0
  | 0, .w => some 7
  | 1, .n => some 1
  | 1, .e => some 2
  | 2, .e => some 3
  | 2, .s => some 4
  | 3, .s => some 5
  | 3, .w => some 6
  | _, _ => none

/-- Whether the end of a link at its site can serve: the port is trained, which ends when the site enters LOST, FAULTED or RELEASED (13 R330,
R333), the region's rail live (12 R318). -/
def State.endUp (s : State) (l : DeckLink) : Bool :=
  let x := s.sites[l.site]
  x.links.contains l.port && !s.linksOut.contains l && (!isCompute l.site || s.railLive l.site (linkRegion l.port))

/-- Whether a link is in service. -/
def State.linkUp (s : State) (l : DeckLink) : Bool := s.endUp l && (linkPeer l).any s.endUp

/-- The trained and serving links of a site, in the order of R313. -/
def State.linksOf (s : State) (n : SiteId) : List DeckLink :=
  ((List.finRange 8).map fun p => (⟨n, p⟩ : DeckLink)).filter s.linkUp

/-! ### The trim tree (12 R313) -/

/-- Compute sites, then memory sites, in order. -/
def computeSites : List SiteId := (List.finRange 17).filter fun n => decide (n.val < 8)
def memorySites : List SiteId := (List.finRange 17).filter fun n => decide (8 ≤ n.val) && decide (n.val < 16)

/-- The site of the trim root (12 R313). -/
def State.rootSite (s : State) : Option SiteId := (computeSites ++ memorySites).find? fun n => (s.sites[n]).state.serving

/-- The link of a memory module to its compute neighbour, which serves; and the one to its memory neighbour on a side, 3 west, 1 east (12 R313). -/
def State.computeLink (s : State) (n : SiteId) : Option DeckLink :=
  (s.linksOf n).find? fun l => (linkPeer l).any fun y => isCompute y.site && (s.sites[y.site]).state.serving
def State.memoryLink (s : State) (n : SiteId) (d : Nat) : Option DeckLink :=
  (s.linksOf n).find? fun l => l.port.val / 2 == d && (linkPeer l).any fun y => (s.sites[y.site]).state.up

/-- Whether a module takes the cue on from its neighbour `x`: a compute module over any link, a memory module from its compute neighbour that
serves, else from its memory neighbours (12 R313). A compute module that serves is no follower of a memory module, one in TRAINING no part of the
tree. -/
def State.passesCue (s : State) (x y : SiteId) : Bool :=
  (s.sites[y]).state.up &&
    if isCompute y then isCompute x || !(s.sites[y]).state.serving
    else if isCompute x then (s.sites[x]).state.serving else (s.computeLink y).isNone

/-- Sites at each distance in links from a set, up to a bound, by paths that leave out a site: (site, distance) (12 R313; log 75). -/
def State.spread (s : State) (without : SiteId) : Nat → List (SiteId × Nat) → List (SiteId × Nat)
  | 0, l => l
  | n + 1, l =>
    let next := l.foldl (fun (a : List (SiteId × Nat)) p => (s.linksOf p.1).foldl (fun a x => match linkPeer x with
      | some y => if s.passesCue p.1 y.site && y.site != without && !(a.any fun z => z.1 == y.site) then a ++ [(y.site, p.2 + 1)] else a
      | none => a) a) l
    s.spread without n next

/-- The link of a compute site's anchor toward the root: of the anchor's own outer links, the shortest path, then the lowest neighbour, then the
first link (12 R313). -/
def State.rootLink (s : State) (n : SiteId) : Option DeckLink :=
  s.rootSite.bind fun r =>
    let dist := s.spread n 16 [(r, 0)]
    let d (m : SiteId) : Option Nat := (dist.find? fun p => p.1 == m).map (·.2)
    let own := (s.linksOf n).filter fun l => decide (linkRegion l.port = s.anchor n)
    let cands := own.filterMap fun l => (linkPeer l).bind fun y => (d y.site).map fun k => (k, y.site.val, l)
    (cands.foldl (fun (b : Option (Nat × Nat × DeckLink)) c => match b with
      | none => some c
      | some x => if c.1 < x.1 ∨ (c.1 = x.1 ∧ c.2.1 < x.2.1) then some c else b) none).map (·.2.2)

/-- A trim parent: a region of another module across a link, of the same module across a stitch, or the root over a command link. -/
inductive Parent where
  | link (l : DeckLink)
  | stitch (q : Fin 4)
  | command
  deriving DecidableEq, Repr

/-- Regions joined to a region by a stitch in trim service: q to q + 1 by stitch q (12 R309, R310, R316). The command link of site S stands
among the stitches as (S, 0). -/
def State.stitched (s : State) (n : SiteId) (q : Fin 4) : List (Fin 4) :=
  (if s.stitchesOut.contains (n, q) then [] else [q + 1]) ++ (if s.stitchesOut.contains (n, q - 1) then [] else [q - 1])

/-- The stitch parent of a region: the shortest path to the anchor, the lower region first (12 R313). -/
def State.stitchParent (s : State) (n : SiteId) (q : Fin 4) : Option (Fin 4) :=
  let a := s.anchor n
  let near := ((s.stitched n q).filter fun p => s.railLive n p)
  let one := near.filter fun p => p == a
  let two := near.filter fun p => (s.stitched n p).contains a
  let three := near.filter fun p => (s.stitched n p).any fun r => s.railLive n r && r != q && (s.stitched n r).contains a
  let low (l : List (Fin 4)) : Option (Fin 4) := (List.finRange 4).find? fun p => l.contains p
  (low one).orElse fun _ => (low two).orElse fun _ => low three

/-- Whether the memory neighbours on a side lead to a module that trims from its compute neighbour, or to the root; the number bounds the steps (12
R313, R316; log 75). -/
def State.memoryPath (s : State) (d : Nat) : Nat → SiteId → Bool
  | 0, _ => false
  | k + 1, n => ((s.memoryLink n d).bind linkPeer).any fun y =>
      s.rootSite == some y.site || (s.computeLink y.site).isSome || s.memoryPath d k y.site

/-- The trim parent of a region, or of a memory or service module's counter; none for the root and where no path stands (12 R313). -/
def State.parentOf (s : State) (n : SiteId) (q : Fin 4) : Option Parent :=
  if s.rootSite = some n ∧ s.anchor n = q then none
  else if isCompute n then
    if s.anchor n = q then (s.rootLink n).map .link else (s.stitchParent n q).map .stitch
  else if n = siteS then (if s.rootSite.isSome && !s.stitchesOut.contains (siteS, 0) then some .command else none)
  else
    ((s.computeLink n).orElse fun _ => if s.memoryPath 3 4 n then s.memoryLink n 3 else if s.memoryPath 1 4 n then s.memoryLink n 1
      else none).map .link

/-- Counters of the deck: the regions of a compute module, the one counter of another. -/
def countersOf (n : SiteId) : List (SiteId × Fin 4) := if isCompute n then (List.finRange 4).map fun q => (n, q) else [(n, 0)]

/-- Every counter of a site that takes part. -/
def State.counters (s : State) : List (SiteId × Fin 4) :=
  ((List.finRange 17).filter fun n => (s.sites[n]).state.up || decide ((s.sites[n]).state = .training)).flatMap countersOf

/-- The deck counter of a region at a deck cue; a correction of −k holds it for k cycles (12 R312). -/
def Region.counterAt (r : Region) (cue : Nat) : Int := (max cue r.heldTo : Nat) + r.offset

/-- The deck counter of a region now. -/
def State.counter (s : State) (n : SiteId) (q : Fin 4) : Int := ((s.sites[n]).regions[q]).counterAt s.cue

/-- The counters of the modules that are up: those a transition takes effect on (13 R327). -/
def State.countersUp (s : State) : List (SiteId × Fin 4) := ((List.finRange 17).filter fun n => (s.sites[n]).state.up).flatMap countersOf

/-- The count of the counter that is furthest on, the deck reference among them. -/
def State.firstCue (s : State) : Nat := (s.countersUp.foldl (fun (a : Int) x => max a (s.counter x.1 x.2)) (s.cue : Int)).toNat

/-- The deck cue at which a region's counter next stands at a multiple of n (12 R315). -/
def State.nextMultiple (s : State) (n : SiteId) (q : Fin 4) (k : Nat) : Nat := s.cue + (k - (s.counter n q % (k : Int)).toNat)

/-- An exchange of a region asked for, not before a deck cue; one already pending takes it in (08 R218, 12 R315). A region without a parent
runs none. -/
def State.askTrim (s : State) (n : SiteId) (q : Fin 4) (from_ : Nat) : State :=
  if (s.parentOf n q).isNone then s
  else s.setRegion n q fun r => { r with trimFrom := some ((r.trimFrom.map (min from_)).getD from_) }

/-- The company-cue counter of a tile's region starts on the region's own deck counter (09 R235). -/
def State.counterOf (s : State) (t : Tile) : Tile := { t with skew := ((s.sites[t.site]).regions[t.region]).offset }

/-- The company-cue counters of a company's regions start on the regions' own deck counters (09 R235, R253). -/
def State.startCounters (s : State) (co : Nat) : State := s.mapTiles co s.counterOf

/-- Those of a gang that comes back start alone: the others go on (13 R334, 12 R312). -/
def State.startGang (s : State) (co g : Nat) : State := s.mapTiles co fun t => if t.key.gang = g then s.counterOf t else t

end Sys2Proof.Machine
end

