-- ==== Sys2Proof/Machine/Trap.lean ====
section
/-! DEFINITION. Taking a trap and returning from one (11 R289 to R296), and the causes that end a launch (11 R298). -/
namespace Sys2Proof.Machine

/-- The image tpc of R39. -/
def tpcOf (seg : BitVec 16) (a : Nat) : W32 := BitVec.ofNat 32 (seg.toNat * 2 ^ 16 + a % 2 ^ 11)

/-- The trap state of a cause: the bundle in issue, or the bundle issued last for a cause after issue (01 R39, 11 R293).
Where no bundle stands at the address, its words are zero (log 55). -/
def Tile.trapOf (t : Tile) (atIssue : Bool) (code : BitVec 8) (info : W64) : TrapState :=
  if atIssue then ⟨code, tpcOf t.st.segs[t.st.half] t.st.pc, info, (t.bundleAt t.st.pc).getD 0⟩
  else ⟨code, tpcOf t.st.lastSeg t.st.lastAddr, info, t.st.lastBundle⟩

/-- The status words that a launch end's record carries: with ROUTE_LOST those of the tile's sides before clearing (11 R301). -/
def State.causeWords (s : State) (code : BitVec 8) (tile : Option TileKey) : Vector W64 4 :=
  if code = cROUTE then ((tile.bind s.tileAt).map fun t => t.status.map SideStatus.image).getD (Vector.replicate 4 0) else Vector.replicate 4 0

/-- The first cause that ends a company's launch is kept (11 R298); the draw names the regions' stopping cues. -/
def State.endCause (s : State) (co : Nat) (code : BitVec 8) (info : W64) (pc : W32) (unit : Nat) (tile : Option TileKey) : State :=
  match s.coAt co with
  | none => s
  | some c =>
    match c.fatal with
    | some _ => s
    | none => { s.setCo { c with fatal := some ⟨code, info, pc, unit, tile, s.cue, s.free, false, s.causeWords code tile⟩, freezeAt := none, freezeNext := none } with
        free := s.free + 72 }

/-- Entry into the handler H (11 R293 steps 2 to 5): `st` has its next address formed. -/
def TState.enterHandler (st : TState) (c h : Nat) : TState :=
  { st with
    retAddr := st.pc
    handler := true
    localSince := some (st.localSince.getD c)
    skip := 0
    wait := .none
    xfer := .none
    pc := st.base + h
    lastGroup := none }

/-- A tile that takes a cause with no way on issues nothing more (11 R294, R298). -/
def TState.stopFatal (st : TState) : TState := { st with halted := true, localSince := none, wait := .none, xfer := .none }

/-- TAKING A TRAP (11 R289, R293, R294): the trap state is written; the launch ends when the cause is final, when the tile is in handler
mode or when the launch has no handler; otherwise the tile enters its handler, the next address formed now for a trap at issue. -/
def Here.takeTrap (h : Here) (atIssue : Bool) (code : BitVec 8) (info : W64) : State :=
  let trap := h.t.trapOf atIssue code info
  match h.co.info.handler with
  | some hd =>
    if finalCause code info || h.st.handler then
      (h.s.setTile { h.t with trap := trap, st := h.st.stopFatal }).endCause h.co.num code info trap.pc 0 (some h.t.key)
    else
      let st := if atIssue then h.st.stepOn else h.st
      h.s.setTile { h.t with trap := trap, st := st.enterHandler h.cue hd.toNat }
  | none => (h.s.setTile { h.t with trap := trap, st := h.st.stopFatal }).endCause h.co.num code info trap.pc 0 (some h.t.key)

/-- TRAP RETURN (11 R295): handler mode and local state end; the bundle at the return address issues at cue `t` and starts a group. -/
def TState.trapReturn (st : TState) (t : Nat) : TState :=
  { st with handler := false, localSince := none, pc := st.retAddr, wait := .until t false, xfer := .none, lastGroup := none }

/-- What a word does at issue: a new state of the tile's registers, a new state of the tile with
free choices drawn (log 5), a new state of the whole part, a cause it raises (03 R80), or an error that ends the launch (11 R299). -/
inductive Res where
  | ok (st : TState)
  | tile (t : Tile) (free : Nat)
  | all (s : State)
  | trap (code : BitVec 8) (info : W64)
  | fatal (code : BitVec 8) (info : W64) (unit : Nat)

/-- The machine with a result of a word: the tile's new state, or the trap taken, with the cause left in `raised` (log 10). -/
def Here.finish (h : Here) : Res → State
  | .ok st => h.put st
  | .tile t n => { h.s.setTile t with free := h.s.free + n }
  | .all s => s
  | .trap code info => { h.takeTrap true code info with raised := some ⟨code, info, h.s.slot⟩ }
  | .fatal code info unit => h.s.endCause h.co.num code info 0 unit (some h.t.key)

/-- The step of a slot word issued by the tile in focus. -/
def word (f : Here → Res) (s : State) : Host.Outcome State Fault Refusal :=
  match s.here with
  | none => .fault .noTile
  | some h => .next (h.finish (f h))

end Sys2Proof.Machine
end

