-- ==== Sys2Proof/Machine/Operands.lean ====
section
/-! DEFINITION. Operand forms: selectors by slot (03 R74), guards (03 R75, 04 R99), addresses of loads and stores (04 R123, 01 R25) and
the checks made on them. -/
namespace Sys2Proof.Machine

/-- What a selector names, before its width is fitted to the reader (03 R74, 01 R21). -/
inductive Src where
  | word (x : W64)
  | vec (x : Vec)
  | lanes
  | every (x : W32)

/-- A source read by a 64-bit reader: lanes 1:0 of a vector, LANE as 0 (01 R21, 03 R74). -/
def Src.to64 : Src → W64
  | .word x => x
  | .vec x => low64 x
  | .lanes => 0
  | .every x => x.setWidth 64

/-- A source read by a vector reader: a 64-bit value by halves, LANE as the lane index (01 R21, 03 R74). -/
def Src.toVec : Src → Vec
  | .word x => broadcast x
  | .vec x => x
  | .lanes => ofLanes fun i => BitVec.ofNat 32 i
  | .every x => ofLanes fun _ => x

/-- The tile id (01 R40). -/
def tileIdOf (k : TileKey) : Nat := k.gang % 8 * 1024 + k.row % 32 * 32 + k.col % 32

/-- A scalar register as read: s0 is zero (01 R16). -/
def TState.sreg (st : TState) (r : Fin 32) : W64 := if r = 0 then 0 else st.s[r]

/-- A predicate as read: p0 is 1 (01 R16). -/
def TState.pred (st : TState) (p : Fin 8) : Bool := p == 0 || st.p.getLsbD p

/-- A latch of a unit as a source. -/
def TState.latch (st : TState) (u : Slot) (b : Fin 4) : Src :=
  match u with
  | .c | .s | .xa | .xb => .word st.latS[latSIdx u b]
  | .va | .vb | .m | .f => .vec st.latV[latVIdx u b]

/-- The unit whose latches 0x24 to 0x27 name (03 R74). -/
def partnerOf : Slot → Slot
  | .c => .s
  | .s => .c
  | .va => .vb
  | .vb => .va
  | .m => .va
  | _ => .vb

/-- The latch that 0x2c to 0x2f name (03 R74). -/
def crossOf (u : Slot) (i : Fin 4) : Slot × Fin 4 :=
  match u with
  | .c | .s => if i = 0 then (.xa, 0) else if i = 1 then (.xb, 0) else if i = 2 then (.f, 0) else (.f, 1)
  | .m => if i = 0 then (.s, 0) else if i = 1 then (.s, 1) else if i = 2 then (.vb, 0) else (.vb, 1)
  | _ => if i = 0 then (.s, 0) else if i = 1 then (.s, 1) else if i = 2 then (.m, 0) else (.m, 1)

/-- The source a selector names for a slot (03 R74). -/
def Here.source (h : Here) (u : Slot) : Sel → Src
  | .reg r => match u with
    | .c | .s => .word (h.st.sreg r)
    | _ => .vec h.st.v[r]
  | .own b => h.st.latch u b
  | .partner b => h.st.latch (partnerOf u) b
  | .zero => .word 0
  | .lane => .lanes
  | .tileid => .every (BitVec.ofNat 32 (tileIdOf h.t.key))
  | .cuelo => .every (BitVec.ofNat 32 h.cue)
  | .cross i => h.st.latch (crossOf u i).1 (crossOf u i).2

/-- A source of the c or s slot, or a 64-bit source of another slot. -/
def Here.get64 (h : Here) (u : Slot) (a : Sel) : W64 := (h.source u a).to64

/-- A source of the s slot. -/
def Here.getS (h : Here) (a : Sel) : W64 := h.get64 .s a

/-- A vector source of a slot. -/
def Here.getV (h : Here) (u : Slot) (a : Sel) : Vec := (h.source u a).toVec

/-- Whether a guard passes (03 R75); in replay mode it reads q (04 R99). -/
def Here.passes (h : Here) (g : Guard) : Bool :=
  (if h.st.replayMode then h.st.q.getLsbD g.p else h.st.pred g.p) != g.inv

/-- The address of a stream: BASE and, for each active level, IDX times its delta (01 R25). -/
def TState.streamAddr (st : TState) (n : Fin 8) : Int :=
  (List.finRange 4).foldl (fun a j =>
    if (st.loops[j]).active then a + ((st.loops[j]).idx.toNat : Int) * ((st.a[n]).d[j]).toInt else a) ((st.a[n]).base.toNat : Int)

/-- The address of a register and offset form; `unit` is the offset's unit (03 R72, 04 R123). -/
def TState.baseAddr (st : TState) (base : Fin 32) (off : BitVec 10) (unit : Nat) : Int := (st.sreg base).toInt + off.toInt * unit

/-- Size of the scratchpad. -/
def spadSize : Nat := 0x100000

/-- Whether an address lies in the scratchpad and is aligned (01 R25, 04 R123). -/
def addrOk (a : Int) (align : Nat) : Bool := decide (0 ≤ a) && decide (a < spadSize) && a % align == 0

/-- The tinfo of BOUNDS for an address: its 64-bit two's complement (04 R116). -/
def addrInfo (a : Int) : W64 := BitVec.ofInt 64 a

/-- The checks of a scalar access in order: BOUNDS, then OWNER (04 R123). -/
def Here.scalarCheck (h : Here) (a : Int) (w : Nat) (k : Nat → Res) : Res :=
  if addrOk a w then
    match h.st.notOwned ownCore a.toNat w with
    | some u => .trap cOWNER (ownerInfo 0 (h.st.owner u) u)
    | none => k a.toNat
  else .trap cBOUNDS (addrInfo a)

/-- The random key of the bundle in issue for a unit (02 R52). -/
def Here.srKey (h : Here) (unit : Nat) : SrKey := ⟨h.co.info.seed, (tileIdOf h.t.key), h.st.ordinal, unit⟩

/-- Whether FTZ holds for the tile (01 R30). -/
def Here.ftz (h : Here) : Bool := h.t.vctl.getLsbD 0

end Sys2Proof.Machine
end

