-- ==== Sys2Proof/Machine/Flags.lean ====
section
/-! DEFINITION. Relations of compares (04 R121, 05 R131), the mask stack's projected depth (05 R128) and its changes, event flags (04
R106). -/
namespace Sys2Proof.Machine

/-- a < b as signed numbers. -/
def ltS {n : Nat} (a b : BitVec n) : Bool := decide (a.toInt < b.toInt)

/-- a < b as unsigned numbers. -/
def ltU {n : Nat} (a b : BitVec n) : Bool := decide (a.toNat < b.toNat)

/-- The event flags after a cycle: cleared flags first, then arrivals (04 R106). -/
def TState.settleFlags (st : TState) : TState := { st with e := (st.e &&& ~~~st.clre) ||| st.arrive, clre := 0, arrive := 0 }

/-- Whether flag j is set. -/
def TState.flag (st : TState) (j : Fin 16) : Bool := st.e.getLsbD j

end Sys2Proof.Machine
end

