-- ==== Sys2Proof/Machine/Control.lean ====
section
/-! DEFINITION. The control words (04 R95 to R115). Each leaves in the tile what the sequencer applies when the bundle's issue ends:
`xfer`, `wait`, `skip` and `localNext`. -/
namespace Sys2Proof.Machine

/-- ILLEGAL of the control word's own slot (03 R78). -/
def illegalC : Res := .trap cILLEGAL 1

/-- ILLEGAL of the flow rule (03 R78, R79). -/
def illegalFlow : Res := .trap cILLEGAL 0x100

/-- Local state entered by the bundle in issue, unless the tile is in it (09 R240). -/
def Here.enterLocal (h : Here) (st : TState) : TState :=
  if st.localSince.isNone then { st with localNext := some (some h.cue) } else st

/-- A taken transfer to an absolute address. -/
def TState.goTo (st : TState) (a : Nat) : TState := { st with xfer := .branch a }

/-- NOP reads and writes nothing (03 R71). -/
def execNop (s : State) : Host.Outcome State Fault Refusal := word (fun h => .ok h.st) s

/-- HALT stops issue after its bundle (04 R114); local state ends (09 R241). -/
def execHalt (s : State) : Host.Outcome State Fault Refusal := word (fun h => .ok { h.st with xfer := .halt, localNext := some none }) s

/-- TRAP raises USER with its code (04 R115). -/
def execTrap (imm : BitVec 16) (s : State) : Host.Outcome State Fault Refusal := word (fun _ => .trap cUSER (imm.setWidth 64)) s

/-- BR (04 R101). -/
def execBr (t : BitVec 11) (s : State) : Host.Outcome State Fault Refusal :=
  word (fun h => match h.target t with
    | none => illegalC
    | some a => .ok (h.st.goTo a)) s

/-- BRP (04 R101): its guard is its condition; a word whose guard fails has no effect, local state included (09 R240, log 14). -/
def execBrp (g : Guard) (t : BitVec 11) (s : State) : Host.Outcome State Fault Refusal :=
  word (fun h => match h.target t with
    | none => illegalC
    | some a => .ok (if h.passes g then h.enterLocal (h.st.goTo a) else h.st)) s

/-- BRZ (04 R101): branch when the register is zero, or non-zero for the other sense. -/
def execBrz (nz : Bool) (k : Fin 32) (t : BitVec 11) (s : State) : Host.Outcome State Fault Refusal :=
  word (fun h => match h.target t with
    | none => illegalC
    | some a => .ok (h.enterLocal (if (h.st.sreg k == 0) != nz then h.st.goTo a else h.st))) s

/-- A CALL or RET with a guard predicate enters local state outside replay mode (09 R240). -/
def Here.guardedLocal (h : Here) (g : Guard) (st : TState) : TState :=
  if g.p ≠ 0 ∧ !h.st.replayMode then h.enterLocal st else st

/-- CALL (04 R102): STACK at depth 8. -/
def execCall (g : Guard) (t : BitVec 11) (s : State) : Host.Outcome State Fault Refusal :=
  word (fun h => match h.target t with
    | none => illegalC
    | some a =>
      if h.passes g then
        if 8 ≤ h.st.rstack.length then .trap cSTACK 0
        else .ok (h.guardedLocal g { h.st with xfer := .call a })
      else .ok h.st) s

/-- RET (04 R102): STACK at depth 0. -/
def execRet (g : Guard) (s : State) : Host.Outcome State Fault Refusal :=
  word (fun h =>
    if h.passes g then
      if h.st.rstack.isEmpty then .trap cSTACK 2
      else .ok (h.guardedLocal g { h.st with xfer := .ret })
    else .ok h.st) s

/-- The END of a loop word: a legal target after the word's own bundle, within the segment (03 R79). -/
def Here.loopEnd (h : Here) (t : BitVec 11) : Option Nat :=
  (h.target t).bind fun a => if h.st.pc < a ∧ a < h.st.base + h.t.segLen then some a else none

/-- The kind of LOOPREG a loop word raises, the lowest that holds (04 R97, R98, R116). -/
def Here.loopKind (h : Here) (lv : Fin 4) (replay : Bool) : Option Nat :=
  if (h.st.loops[lv]).active then some 0
  else if replay && h.st.nest.any (fun l => (h.st.loops[l]).stages != 0) then some 2
  else if h.st.nest.any (fun l => (h.st.loops[l]).stop.toNat == h.st.pc) then some 3
  else none

/-- The tinfo of LOOPREG (04 R116). -/
def loopregInfo (kind : Nat) (lv : Fin 4) : W64 := BitVec.ofNat 64 (kind * 4 + lv)

/-- A loop word: `n` iterations to run as `count` + 1 passes, or a transfer to END + 1 when `n` is zero (04 R97, R98), past the segment too (log 55). -/
def Here.loopWord (h : Here) (lv : Fin 4) (t : BitVec 11) (n count stages : Nat) : Res :=
  match h.loopEnd t with
  | none => illegalC
  | some e =>
    match h.loopKind lv (stages != 0) with
    | some k => .trap cLOOPREG (loopregInfo k lv)
    | none => if n = 0 then .ok (h.st.goTo (e + 1)) else .ok { h.st with xfer := .loop lv (BitVec.ofNat 32 count) (BitVec.ofNat 11 e) stages }

/-- LOOP (04 R97). -/
def execLoop (lv : Fin 4) (x : BitVec 12) (t : BitVec 11) (s : State) : Host.Outcome State Fault Refusal :=
  word (fun h => h.loopWord lv t x.toNat (x.toNat - 1) 0) s

/-- LOOPS takes its count from s[K][31:0] (04 R97). -/
def execLoops (lv : Fin 4) (k : Fin 32) (t : BitVec 11) (s : State) : Host.Outcome State Fault Refusal :=
  word (fun h => let n := bits (h.st.sreg k) 31 0; h.loopWord lv t n (n - 1) 0) s

/-- REPLAY runs n + S − 1 passes of a body of S stages, n = s[K][27:0] (04 R98). -/
def execReplay (lv : Fin 4) (st : Fin 8) (k : Fin 32) (t : BitVec 11) (s : State) : Host.Outcome State Fault Refusal :=
  word (fun h => let n := bits (h.st.sreg k) 27 0; h.loopWord lv t n (n + (st.val + 1) - 2) (st.val + 1)) s

/-- WAITCUE (04 R103). -/
def execWaitcue (a : Sel) (s : State) : Host.Outcome State Fault Refusal :=
  word (fun h =>
    let t := (h.get64 .c a).toNat
    if h.cue64 < t then .ok { h.st with wait := .until (h.cue + (t - h.cue64)) false }
    else .trap cDEADLINE (deadlineInfo 1 0 (h.cue64 - t))) s

/-- WAITREL (04 R104). -/
def execWaitrel (imm : BitVec 16) (s : State) : Host.Outcome State Fault Refusal :=
  word (fun h => .ok { h.st with wait := .until (h.cue + imm.toNat) true }) s

/-- JOIN (04 R103): waits like WAITCUE; ends local state (09 R240), or returns from the handler (11 R295). -/
def execJoin (a : Sel) (s : State) : Host.Outcome State Fault Refusal :=
  word (fun h =>
    let t := (h.get64 .c a).toNat
    let at_ := h.cue + (t - h.cue64)
    if h.cue64 < t then
      if h.st.handler then .ok { h.st with xfer := .trapReturn at_ }
      else .ok { h.st with wait := .until at_ false, localNext := some none }
    else .trap cDEADLINE (deadlineInfo 2 0 (h.cue64 - t))) s

/-- WAITE (04 R106). -/
def execWaite (j : Fin 16) (imm : BitVec 16) (s : State) : Host.Outcome State Fault Refusal :=
  word (fun h => .ok (h.enterLocal { h.st with wait := .event j (h.cue + 16 * imm.toNat) (16 * imm.toNat) })) s

/-- CLRE (04 R108): the flags named are cleared before the cycle's arrivals (R106). -/
def execClre (imm : BitVec 16) (s : State) : Host.Outcome State Fault Refusal :=
  word (fun h => .ok { h.st with clre := h.st.clre ||| imm }) s

/-- WAITOWN (04 R107). -/
def execWaitown (u : Fin 256) (imm : BitVec 16) (s : State) : Host.Outcome State Fault Refusal :=
  word (fun h => .ok (h.enterLocal { h.st with wait := .owner u (h.cue + 16 * imm.toNat) (16 * imm.toNat) })) s

/-- SKIPM (04 R110): the next n bundles are suppressed when the active mask is zero. -/
def execSkipm (n : BitVec 11) (s : State) : Host.Outcome State Fault Refusal :=
  word (fun h => .ok (if h.st.active = 0 then { h.st with skip := n.toNat } else h.st)) s

/-- Whether an occurrence of a record falls at cue offset `o` from the company's cue base (09 R237). -/
def BookRec.at? (r : BookRec) (o : Nat) : Bool :=
  decide (r.off ≤ o) && (if r.every = 0 then o == r.off else (o - r.off) % r.every == 0 && decide ((o - r.off) / r.every ≤ r.times))

/-- Whether a cue is a replay boundary of the company, boundary zero apart (09 R247). -/
def boundaryAt (c : Company) (cue : Nat) : Bool :=
  decide (c.base ≤ cue) && c.gangs.any fun g => g.bin.book.any fun r => r.kind == .rb && r.at? (cue - c.base)

/-- MARK.RB (04 R111): a replay boundary, completed when its cycle ends (log 3); DEADLINE of kind 6 in local state, in handler mode or
off the book (09 R240, R247; 11 R294). -/
def execMarkRb (s : State) : Host.Outcome State Fault Refusal :=
  word (fun h =>
    if h.st.handler || h.st.localSince.isSome || !boundaryAt h.co h.cue then .trap cDEADLINE (deadlineInfo 6 0 h.cue)
    else .ok { h.st with xfer := .markRb }) s

/-- Whether a launch's binary has a segment, with its entry in the overlay table (04 R95, 14 R345). -/
def LaunchInfo.hasSegment (i : LaunchInfo) (seg : BitVec 16) : Bool :=
  decide (seg.toNat < i.ovTab.length) && i.gangs.any fun g => g.segs.any fun p => p.1 == seg

/-- MARK.OV (04 R112, 09 R245): the entry cue is 4,096 cycles on. ILLEGAL in a binary that is not overlaid or lacks the segment (04
R95), and in handler mode (11 R294). -/
def execMarkOv (imm : BitVec 16) (s : State) : Host.Outcome State Fault Refusal :=
  word (fun h =>
    if !h.overlaid || !h.co.info.hasSegment imm then illegalC
    else if h.st.handler then illegalFlow
    else .ok { h.st with ovl := some ⟨imm, h.cue + Config.overlayLead, false, false⟩ }) s

/-- JUMP.OV (04 R113, 09 R245): enters the requested segment in the other half, at its entry cue or later. -/
def execJumpOv (t : BitVec 11) (s : State) : Host.Outcome State Fault Refusal :=
  word (fun h =>
    if !h.overlaid || decide (1024 ≤ t.toNat) then illegalC
    else if h.st.handler then illegalFlow
    else match h.st.ovl with
      | none => illegalFlow
      | some o =>
        if h.cue < o.entry then illegalFlow
        else .ok { h.st with xfer := .jumpOv t }) s

/-- SIGNAL (04 R109): lands 64 cycles on in every tile of the gang. -/
def execSignal (j : Fin 16) (s : State) : Host.Outcome State Fault Refusal :=
  word (fun h => .ok { h.st with signals := h.st.signals ++ [(h.cue + 64, j)] }) s

/-! ### The end of a bundle's issue (04 R96) -/

/-- A level activated (04 R97, R98). -/
def TState.activate (st : TState) (lv : Fin 4) (count : W32) (stop : BitVec 11) (stages : Nat) : TState :=
  { st with
    loops := st.loops.set lv ⟨true, BitVec.ofNat 11 (st.pc + 1), stop, count, 0, stages⟩
    nest := lv :: st.nest
    q := if stages ≠ 0 then 1 else st.q }

/-- Entry into the other half (04 R113). -/
def TState.enterHalf (st : TState) (t : BitVec 11) : TState :=
  let other : Fin 2 := if st.half = 0 then 1 else 0
  { st with
    half := other
    pc := 1024 * other.val + t.toNat
    loops := st.loops.map fun l => { l with active := false }
    nest := []
    q := 0
    rstack := []
    ovl := none
    lastGroup := none }

/-- The next address and what goes with it (04 R96 to R98, R102, R113; 09 R240, R241). A CALL in bundle 2,047 pushes 2,048 modulo 2,048 (DESIGN CHOICE, log
79); local state begins as the bundle that enters it ends, so a FLY word of that bundle still finds its occurrence (DESIGN CHOICE, log 85). -/
def TState.leaveBundle (st : TState) (cue : Nat) (x : Xfer) : TState :=
  let st := { st with localSince := st.localNext.getD st.localSince, localNext := none, xfer := .none }
  match x with
    | Xfer.none => st.stepOn
    | .branch t => st.transfer t
    | .call t => { st with rstack := BitVec.ofNat 11 (st.pc + 1) :: st.rstack, pc := t }
    | .ret => match st.rstack with
      | [] => st.stepOn
      | r :: rest => { st with rstack := rest, pc := r.toNat, popped := true }
    | .jumpOv t => st.enterHalf t
    | .loop lv count stop stages => (st.activate lv count stop stages).stepOn
    | .halt => { st.stepOn with halted := true, wait := .none }
    | .markRb => { st.stepOn with marked := some cue, lastGroup := none }
    | .trapReturn t => st.stepOn.trapReturn t

end Sys2Proof.Machine
end

