-- ==== Sys2Proof/Machine/Tables.lean ====
section
/-! DEFINITION. The fixed tables of the special functions: each entry the stated real number rounded to the nearest integer, halves
upward (05 R140). -/
namespace Sys2Proof.Machine

/-- 2^30 times 2^(j/256), entries 0 to 63 (05 R140). -/
def tableT0 : List Nat := [
  1073741824, 1076653033, 1079572136, 1082499153, 1085434106, 1088377016, 1091327906, 1094286796,
  1097253708, 1100228665, 1103211687, 1106202798, 1109202018, 1112209370, 1115224875, 1118248556,
  1121280436, 1124320536, 1127368878, 1130425485, 1133490379, 1136563583, 1139645120, 1142735011,
  1145833280, 1148939949, 1152055042, 1155178580, 1158310587, 1161451085, 1164600099, 1167757650,
  1170923762, 1174098458, 1177281762, 1180473697, 1183674286, 1186883552, 1190101520, 1193328213,
  1196563654, 1199807867, 1203060876, 1206322705, 1209593378, 1212872918, 1216161350, 1219458698,
  1222764986, 1226080238, 1229404479, 1232737732, 1236080024, 1239431376, 1242791816, 1246161366,
  1249540052, 1252927899, 1256324931, 1259731174, 1263146652, 1266571390, 1270005413, 1273448747]

/-- 2^30 times 2^(j/256), entries 64 to 127 (05 R140). -/
def tableT1 : List Nat := [
  1276901417, 1280363448, 1283834865, 1287315695, 1290805962, 1294305692, 1297814910, 1301333643,
  1304861917, 1308399756, 1311947188, 1315504238, 1319070932, 1322647296, 1326233356, 1329829140,
  1333434672, 1337049980, 1340675091, 1344310030, 1347954824, 1351609500, 1355274085, 1358948606,
  1362633090, 1366327563, 1370032052, 1373746586, 1377471191, 1381205894, 1384950723, 1388705706,
  1392470869, 1396246240, 1400031848, 1403827719, 1407633882, 1411450365, 1415277195, 1419114401,
  1422962010, 1426820052, 1430688553, 1434567544, 1438457051, 1442357104, 1446267730, 1450188960,
  1454120821, 1458063343, 1462016553, 1465980482, 1469955159, 1473940611, 1477936870, 1481943963,
  1485961921, 1489990772, 1494030547, 1498081275, 1502142985, 1506215708, 1510299473, 1514394310]

/-- 2^30 times 2^(j/256), entries 128 to 191 (05 R140). -/
def tableT2 : List Nat := [
  1518500250, 1522617322, 1526745556, 1530884983, 1535035634, 1539197537, 1543370725, 1547555228,
  1551751076, 1555958300, 1560176931, 1564406999, 1568648537, 1572901575, 1577166143, 1581442275,
  1585730000, 1590029350, 1594340357, 1598663052, 1602997467, 1607343634, 1611701585, 1616071351,
  1620452965, 1624846459, 1629251865, 1633669214, 1638098541, 1642539877, 1646993254, 1651458706,
  1655936265, 1660425963, 1664927835, 1669441912, 1673968228, 1678506817, 1683057710, 1687620943,
  1692196547, 1696784557, 1701385007, 1705997930, 1710623359, 1715261330, 1719911875, 1724575029,
  1729250827, 1733939301, 1738640488, 1743354420, 1748081133, 1752820662, 1757573041, 1762338305,
  1767116489, 1771907628, 1776711757, 1781528911, 1786359126, 1791202437, 1796058879, 1800928489]

/-- 2^30 times 2^(j/256), entries 192 to 255 (05 R140). -/
def tableT3 : List Nat := [
  1805811301, 1810707353, 1815616678, 1820539314, 1825475297, 1830424663, 1835387448, 1840363688,
  1845353420, 1850356681, 1855373507, 1860403934, 1865448001, 1870505744, 1875577199, 1880662405,
  1885761398, 1890874216, 1896000896, 1901141476, 1906295993, 1911464486, 1916646992, 1921843549,
  1927054196, 1932278970, 1937517909, 1942771053, 1948038440, 1953320108, 1958616096, 1963926443,
  1969251188, 1974590370, 1979944027, 1985312200, 1990694927, 1996092249, 2001504204, 2006930832,
  2012372174, 2017828268, 2023299156, 2028784876, 2034285470, 2039800978, 2045331439, 2050876895,
  2056437387, 2062012954, 2067603638, 2073209480, 2078830522, 2084466803, 2090118366, 2095785251,
  2101467502, 2107165158, 2112878262, 2118606857, 2124350982, 2130110682, 2135885998, 2141676973]

/-- 2^30 times 2^(j/256) (05 R140). -/
def tableT : List Nat := tableT0 ++ tableT1 ++ tableT2 ++ tableT3

/-- 2^30 times log2(1 + j/256), entries 0 to 63 (05 R140). -/
def tableL0 : List Nat := [
  0, 6039314, 12055174, 18047761, 24017256, 29963836, 35887675, 41788947,
  47667823, 53524472, 59359063, 65171760, 70962728, 76732128, 82480119, 88206862,
  93912511, 99597222, 105261148, 110904440, 116527248, 122129721, 127712004, 133274244,
  138816582, 144339162, 149842124, 155325606, 160789745, 166234679, 171660541, 177067464,
  182455581, 187825021, 193175914, 198508388, 203822568, 209118580, 214396548, 219656594,
  224898839, 230123404, 235330407, 240519966, 245692198, 250847218, 255985140, 261106077,
  266210141, 271297442, 276368092, 281422197, 286459867, 291481207, 296486323, 301475319,
  306448299, 311405366, 316346620, 321272163, 326182095, 331076513, 335955515, 340819199]

/-- 2^30 times log2(1 + j/256), entries 64 to 127 (05 R140). -/
def tableL1 : List Nat := [
  345667660, 350500993, 355319292, 360122651, 364911162, 369684916, 374444004, 379188517,
  383918542, 388634168, 393335482, 398022572, 402695523, 407354420, 411999347, 416630388,
  421247625, 425851141, 430441017, 435017334, 439580170, 444129607, 448665721, 453188592,
  457698295, 462194908, 466678506, 471149164, 475606957, 480051959, 484484242, 488903880,
  493310944, 497705506, 502087636, 506457405, 510814882, 515160136, 519493235, 523814248,
  528123241, 532420281, 536705435, 540978767, 545240343, 549490228, 553728485, 557955178,
  562170370, 566374123, 570566499, 574747559, 578917365, 583075977, 587223455, 591359858,
  595485245, 599599675, 603703206, 607795895, 611877800, 615948977, 620009483, 624059373]

/-- 2^30 times log2(1 + j/256), entries 128 to 191 (05 R140). -/
def tableL2 : List Nat := [
  628098702, 632127527, 636145900, 640153876, 644151509, 648138853, 652115959, 656082880,
  660039669, 663986377, 667923055, 671849754, 675766525, 679673418, 683570481, 687457766,
  691335320, 695203192, 699061430, 702910083, 706749198, 710578822, 714399001, 718209783,
  722011213, 725803337, 729586201, 733359850, 737124328, 740879680, 744625951, 748363183,
  752091421, 755810707, 759521085, 763222597, 766915285, 770599192, 774274358, 777940826,
  781598637, 785247830, 788888448, 792520529, 796144114, 799759243, 803365955, 806964289,
  810554283, 814135978, 817709409, 821274617, 824831638, 828380510, 831921271, 835453956,
  838978604, 842495250, 846003931, 849504683, 852997541, 856482542, 859959719, 863429109]

/-- 2^30 times log2(1 + j/256), entries 192 to 255 (05 R140). -/
def tableL3 : List Nat := [
  866890747, 870344666, 873790901, 877229486, 880660455, 884083842, 887499680, 890908003,
  894308843, 897702233, 901088206, 904466794, 907838029, 911201944, 914558569, 917907937,
  921250079, 924585025, 927912807, 931233456, 934547002, 937853475, 941152905, 944445323,
  947730758, 951009239, 954280797, 957545460, 960803257, 964054218, 967298370, 970535742,
  973766362, 976990259, 980207461, 983417995, 986621888, 989819169, 993009864, 996194001,
  999371606, 1002542707, 1005707329, 1008865499, 1012017244, 1015162589, 1018301561, 1021434185,
  1024560487, 1027680492, 1030794226, 1033901713, 1037002979, 1040098049, 1043186948, 1046269699,
  1049346328, 1052416858, 1055481314, 1058539720, 1061592099, 1064638476, 1067678873, 1070713315]

/-- 2^30 times log2(1 + j/256) (05 R140). -/
def tableL : List Nat := tableL0 ++ tableL1 ++ tableL2 ++ tableL3

/-- 2^30 over the root of 2^h (128 + k)/128, at j = 128 h + k, entries 0 to 63 (05 R140). -/
def tableH0 : List Nat := [
  1073741824, 1069571937, 1065450257, 1061375863, 1057347856, 1053365364, 1049427536, 1045533543,
  1041682578, 1037873853, 1034106604, 1030380081, 1026693558, 1023046322, 1019437682, 1015866961,
  1012333500, 1008836655, 1005375799, 1001950318, 998559613, 995203101, 991880210, 988590382,
  985333074, 982107753, 978913898, 975751001, 972618566, 969516107, 966443148, 963399225,
  960383883, 957396679, 954437177, 951504951, 948599586, 945720673, 942867814, 940040618,
  937238702, 934461692, 931709222, 928980931, 926276469, 923595489, 920937655, 918302635,
  915690104, 913099745, 910531246, 907984300, 905458609, 902953878, 900469818, 898006148,
  895562589, 893138870, 890734723, 888349887, 885984104, 883637122, 881308694, 878998575]

/-- 2^30 over the root of 2^h (128 + k)/128, at j = 128 h + k, entries 64 to 127 (05 R140). -/
def tableH1 : List Nat := [
  876706528, 874432318, 872175715, 869936492, 867714429, 865509306, 863320910, 861149030,
  858993459, 856853995, 854730438, 852622592, 850530263, 848453263, 846391405, 844344506,
  842312387, 840294869, 838291779, 836302947, 834328203, 832367382, 830420321, 828486860,
  826566842, 824660110, 822766514, 820885902, 819018128, 817163045, 815320510, 813490383,
  811672525, 809866800, 808073073, 806291212, 804521086, 802762568, 801015531, 799279851,
  797555404, 795842072, 794139734, 792448274, 790767575, 789097526, 787438013, 785788926,
  784150157, 782521599, 780903145, 779294692, 777696137, 776107379, 774528319, 772958857,
  771398898, 769848346, 768307107, 766775087, 765252196, 763738342, 762233438, 760737394]

/-- 2^30 over the root of 2^h (128 + k)/128, at j = 128 h + k, entries 128 to 191 (05 R140). -/
def tableH2 : List Nat := [
  759250125, 756301570, 753387102, 750506070, 747657839, 744841792, 742057327, 739303858,
  736580814, 733887640, 731223792, 728588743, 725981977, 723402992, 720851298, 718326417,
  715827883, 713355240, 710908045, 708485864, 706088274, 703714861, 701365222, 699038963,
  696735698, 694455052, 692196655, 689960150, 687745184, 685551414, 683378504, 681226125,
  679093957, 676981684, 674889000, 672815603, 670761200, 668725501, 666708225, 664709095,
  662727842, 660764199, 658817909, 656888716, 654976372, 653080633, 651201261, 649338020,
  647490682, 645659022, 643842818, 642041856, 640255922, 638484810, 636728315, 634986237,
  633258380, 631544551, 629844563, 628158229, 626485368, 624825801, 623179354, 621545853]

/-- 2^30 over the root of 2^h (128 + k)/128, at j = 128 h + k, entries 192 to 255 (05 R140). -/
def tableH3 : List Nat := [
  619925131, 618317022, 616721362, 615137993, 613566757, 612007499, 610460069, 608924318,
  607400100, 605887270, 604385689, 602895216, 601415717, 599947056, 598489102, 597041726,
  595604800, 594178200, 592761802, 591355485, 589959130, 588572620, 587195840, 585828677,
  584471019, 583122756, 581783781, 580453988, 579133272, 577821530, 576518662, 575224566,
  573939147, 572662306, 571393950, 570133983, 568882316, 567638856, 566403514, 565176202,
  563956835, 562745326, 561541591, 560345548, 559157115, 557976212, 556802759, 555636678,
  554477894, 553326329, 552181909, 551044561, 549914212, 548790791, 547674226, 546564450,
  545461392, 544364986, 543275165, 542191864, 541115017, 540044561, 538980433, 537922570]

/-- 2^30 over the root of 2^h (128 + k)/128, at j = 128 h + k (05 R140). -/
def tableH : List Nat := tableH0 ++ tableH1 ++ tableH2 ++ tableH3

/-- 2^30 times 256 / (256 + j), halves upward (05 R140). -/
def tableG (j : Nat) : Nat := (2 ^ 39 + (256 + j)) / (2 * (256 + j))

end Sys2Proof.Machine
end

