-- ==== Sys2Proof/Machine/Vector.lean ====
section
/-! DEFINITION. The vector words on integers, masks and lanes (05 R127 to R133, R148). -/
namespace Sys2Proof.Machine

/-- A vector word: a vector computed at issue, written under the active mask read at issue (05 R127, 01 R19). -/
def vword (lat : Nat) (r : Dst) (f : Here → Vec) (s : State) : Host.Outcome State Fault Refusal :=
  word (fun h => .ok (h.st.resV h.s.slot h.cue lat r (f h) h.st.active)) s

/-- A source of the slot in issue. -/
def Here.src (h : Here) (a : Sel) : Vec := h.getV h.s.slot a

/-- The register named by D as a source (05 R127). -/
def Here.dreg (h : Here) (r : Dst) : Vec := h.st.v[r.d]

/-- A lane-wise result of two sources. -/
def lane2 (lat : Nat) (r : Dst) (a b : Sel) (f : W32 → W32 → W32) (s : State) : Host.Outcome State Fault Refusal :=
  vword lat r (fun h => let x := h.src a; let y := h.src b; ofLanes fun i => f (lane x i) (lane y i)) s

/-- A lane-wise result of one source. -/
def lane1 (lat : Nat) (r : Dst) (a : Sel) (f : W32 → W32) (s : State) : Host.Outcome State Fault Refusal :=
  vword lat r (fun h => let x := h.src a; ofLanes fun i => f (lane x i)) s

/-! ### Integer words (05 R130) -/

/-- VADD (05 R130). -/
def execVadd (r : Dst) (a b : Sel) (s : State) : Host.Outcome State Fault Refusal := lane2 2 r a b (fun x y => x + y) s

/-- VSUB (05 R130). -/
def execVsub (r : Dst) (a b : Sel) (s : State) : Host.Outcome State Fault Refusal := lane2 2 r a b (fun x y => x - y) s

/-- VMUL (05 R130). -/
def execVmul (r : Dst) (a b : Sel) (s : State) : Host.Outcome State Fault Refusal := lane2 4 r a b (fun x y => x * y) s

/-- VMULH (05 R130). -/
def execVmulh (r : Dst) (a b : Sel) (s : State) : Host.Outcome State Fault Refusal := lane2 4 r a b (fun x y => BitVec.ofInt 32 (x.toInt * y.toInt / 2 ^ 32)) s

/-- VMIN (05 R130). -/
def execVmin (r : Dst) (a b : Sel) (s : State) : Host.Outcome State Fault Refusal := lane2 2 r a b (fun x y => if ltS x y then x else y) s

/-- VMAX (05 R130). -/
def execVmax (r : Dst) (a b : Sel) (s : State) : Host.Outcome State Fault Refusal := lane2 2 r a b (fun x y => if ltS x y then y else x) s

/-- VMINN (05 R130). -/
def execVminn (r : Dst) (a b : Sel) (s : State) : Host.Outcome State Fault Refusal := lane2 2 r a b (fun x y => if ltU x y then x else y) s

/-- VMAXN (05 R130). -/
def execVmaxn (r : Dst) (a b : Sel) (s : State) : Host.Outcome State Fault Refusal := lane2 2 r a b (fun x y => if ltU x y then y else x) s

/-- VAND (05 R130). -/
def execVand (r : Dst) (a b : Sel) (s : State) : Host.Outcome State Fault Refusal := lane2 2 r a b (fun x y => x &&& y) s

/-- VOR (05 R130). -/
def execVor (r : Dst) (a b : Sel) (s : State) : Host.Outcome State Fault Refusal := lane2 2 r a b (fun x y => x ||| y) s

/-- VXOR (05 R130). -/
def execVxor (r : Dst) (a b : Sel) (s : State) : Host.Outcome State Fault Refusal := lane2 2 r a b (fun x y => x ^^^ y) s

/-- VSHL (05 R130). -/
def execVshl (r : Dst) (a b : Sel) (s : State) : Host.Outcome State Fault Refusal := lane2 2 r a b (fun x y => x <<< (y.toNat % 32)) s

/-- VSHR (05 R130). -/
def execVshr (r : Dst) (a b : Sel) (s : State) : Host.Outcome State Fault Refusal := lane2 2 r a b (fun x y => x >>> (y.toNat % 32)) s

/-- VSHA (05 R130). -/
def execVsha (r : Dst) (a b : Sel) (s : State) : Host.Outcome State Fault Refusal := lane2 2 r a b (fun x y => x.sshiftRight (y.toNat % 32)) s

/-! ### The mask stack (05 R128) -/

/-- The depth a mask change adds. -/
def Eff.depth : Eff → Int
  | .push _ => 1
  | .popm => -1
  | _ => 0

/-- The depth that the vb word of the bundle in issue adds one cycle on, for a va word of latency 2 (05 R128). -/
def Here.vbChange (h : Here) : Int :=
  match h.t.bundleAt h.st.pc with
  | none => 0
  | some b => match decode .vb ((b.extractLsb' 96 32).toNat) with
    | some (.vpushm _) => 1
    | some .vpopm => -1
    | _ => 0

/-- The projected depth of a mask word of latency `lat` (05 R128). -/
def Here.projDepth (h : Here) (lat : Nat) : Int :=
  h.st.flight.foldl (fun d f => if f.due ≤ h.cue + lat then d + f.eff.depth else d) (h.st.mask.length : Int) +
    (if h.s.slot = .va ∧ lat = 2 then h.vbChange else 0)

/-- A push: STACK above depth 8 (05 R128, R154). -/
def pushWord (lat : Nat) (t : Here → W64) (s : State) : Host.Outcome State Fault Refusal :=
  word (fun h => if 8 ≤ h.projDepth lat then .trap cSTACK 1 else .ok (h.st.fly1 h.cue lat (.push (t h)))) s

/-- A change that needs two entries: STACK at projected depth 1 (05 R128, R154). -/
def popWord (e : Eff) (s : State) : Host.Outcome State Fault Refusal :=
  word (fun h => if h.projDepth 1 ≤ 1 then .trap cSTACK 3 else .ok (h.st.fly1 h.cue 1 e)) s

/-- A compare pushes the lane vector of its relation two cycles on (05 R131). -/
def vcompare (a b : Sel) (f : Here → W32 → W32 → Bool) (s : State) : Host.Outcome State Fault Refusal :=
  pushWord 2 (fun h => let x := h.src a; let y := h.src b; let g := f h; maskOf (fun i => g (lane x i) (lane y i)) 64) s

/-- VCMP.EQ (05 R131). -/
def execVcmpEq (a b : Sel) (s : State) : Host.Outcome State Fault Refusal := vcompare a b (fun _ x y => x == y) s

/-- VCMP.NE (05 R131). -/
def execVcmpNe (a b : Sel) (s : State) : Host.Outcome State Fault Refusal := vcompare a b (fun _ x y => x != y) s

/-- VCMP.LT (05 R131). -/
def execVcmpLt (a b : Sel) (s : State) : Host.Outcome State Fault Refusal := vcompare a b (fun _ x y => ltS x y) s

/-- VCMP.LTN (05 R131). -/
def execVcmpLtn (a b : Sel) (s : State) : Host.Outcome State Fault Refusal := vcompare a b (fun _ x y => ltU x y) s

/-- VCMP.GE (05 R131). -/
def execVcmpGe (a b : Sel) (s : State) : Host.Outcome State Fault Refusal := vcompare a b (fun _ x y => !ltS x y) s

/-- VCMP.GEN (05 R131). -/
def execVcmpGen (a b : Sel) (s : State) : Host.Outcome State Fault Refusal := vcompare a b (fun _ x y => !ltU x y) s

/-- A lane as FP32, flushed under FTZ (02 R53). -/
def f32 (h : Here) (x : W32) : Val := fpRead fp32 h.ftz x.toNat

/-- a ≥ b, false with a NaN (05 R131). -/
def fge (a b : Val) : Bool := b.lt a || a.eq b

/-- VCMP.FEQ (05 R131). -/
def execVcmpFeq (a b : Sel) (s : State) : Host.Outcome State Fault Refusal := vcompare a b (fun h x y => f32 h x |>.eq (f32 h y)) s

/-- VCMP.FNE (05 R131). -/
def execVcmpFne (a b : Sel) (s : State) : Host.Outcome State Fault Refusal := vcompare a b (fun h x y => !(f32 h x |>.eq (f32 h y))) s

/-- VCMP.FLT (05 R131). -/
def execVcmpFlt (a b : Sel) (s : State) : Host.Outcome State Fault Refusal := vcompare a b (fun h x y => f32 h x |>.lt (f32 h y)) s

/-- VCMP.FGE (05 R131). -/
def execVcmpFge (a b : Sel) (s : State) : Host.Outcome State Fault Refusal := vcompare a b (fun h x y => fge (f32 h x) (f32 h y)) s

/-- VPUSHM (05 R132). -/
def execVpushm (a : Sel) (s : State) : Host.Outcome State Fault Refusal :=
  pushWord 1 (fun h => let x := h.src a; maskOf (fun i => lane x i != 0) 64) s

/-- VINVM (05 R132). -/
def execVinvm (s : State) : Host.Outcome State Fault Refusal := popWord .invm s

/-- VPOPM (05 R132). -/
def execVpopm (s : State) : Host.Outcome State Fault Refusal := popWord .popm s

/-- VSEL (05 R133). -/
def execVsel (r : Dst) (a b : Sel) (s : State) : Host.Outcome State Fault Refusal :=
  vword 2 r (fun h => let x := h.src a; let y := h.src b; let d := h.dreg r
    ofLanes fun i => if lane d i != 0 then lane x i else lane y i) s

/-! ### Lane movement (05 R148) -/

/-- The lane number k in b[0][5:0]. -/
def laneNo (b : Vec) : Nat := (lane b 0).toNat % 64

/-- VPERM. -/
def execVperm (r : Dst) (a b : Sel) (s : State) : Host.Outcome State Fault Refusal :=
  vword 2 r (fun h => let x := h.src a; let y := h.src b; ofLanes fun i => lane x ((lane y i).toNat % 64)) s

/-- VSHUF: byte q of the result is byte b_q of a. -/
def execVshuf (r : Dst) (a b : Sel) (s : State) : Host.Outcome State Fault Refusal :=
  vword 2 r (fun h => let x := h.src a; let y := h.src b
    BitVec.ofNat 2048 (leNat ((List.range 256).map fun q => byteOf x (byteOf y q).toNat))) s

/-- VBCAST. -/
def execVbcast (r : Dst) (a b : Sel) (s : State) : Host.Outcome State Fault Refusal :=
  vword 2 r (fun h => let x := h.src a; let k := laneNo (h.src b); ofLanes fun _ => lane x k) s

/-- VINS. -/
def execVins (r : Dst) (a b : Sel) (s : State) : Host.Outcome State Fault Refusal :=
  vword 2 r (fun h => let x := h.src a; let k := laneNo (h.src b); let d := h.dreg r
    ofLanes fun i => if i = k then lane x 0 else lane d i) s

/-- VEXT. -/
def execVext (r : Dst) (a b : Sel) (s : State) : Host.Outcome State Fault Refusal :=
  vword 2 r (fun h => let x := h.src a; let k := laneNo (h.src b); let d := h.dreg r
    ofLanes fun i => if i + k ≤ 63 then lane x (i + k) else lane d (i + k - 64)) s

/-- Lanes below i that are not zero. -/
def nonZeroBelow (x : Vec) : Nat → Nat
  | 0 => 0
  | i + 1 => nonZeroBelow x i + (lane x i != 0).toNat

/-- VLIDX. -/
def execVlidx (r : Dst) (a b : Sel) (s : State) : Host.Outcome State Fault Refusal :=
  vword 2 r (fun h => let x := h.src a; let y := h.src b; ofLanes fun i => lane y i + BitVec.ofNat 32 (nonZeroBelow x i)) s

end Sys2Proof.Machine
end

