-- ==== Sys2Proof/Machine/VectorFp.lean ====
section
/-! DEFINITION. The vector words on floating-point lanes: arithmetic, conversion, blocks, special functions, reductions (05 R134 to R147). -/
namespace Sys2Proof.Machine

/-- The unit number that keys stochastic rounding (02 R52). -/
def srUnit : Slot → Nat
  | .va => 0
  | .vb => 1
  | .xa => 2
  | _ => 3

/-- The random integer of element n of the word in issue (02 R52). -/
def Here.rb (h : Here) (n : Nat) : Nat := srRb (h.srKey (srUnit h.s.slot)) n

/-- The random integer when the mode draws one. -/
def Here.rbFor (h : Here) (mode : Rnd) (n : Nat) : Nat := if mode = .sr then h.rb n else 0

/-- An exact value as an FP32 lane under the tile's FTZ (02 R48). -/
def toF32 (h : Here) (mode : Rnd) (i : Nat) (v : Val) : W32 := BitVec.ofNat 32 (fpEncode fp32 mode h.ftz (h.rbFor mode i) v)

/-- A lane-wise FP32 operation rounded once (05 R134). -/
def flane (r : Dst) (mode : Rnd) (f : Here → Nat → Val) (s : State) : Host.Outcome State Fault Refusal :=
  vword 4 r (fun h => let g := f h; ofLanes fun i => toF32 h mode i (g i)) s

/-- VFADD (05 R134). -/
def execVfadd (r : Dst) (a b : Sel) (rm : Rnd) (s : State) : Host.Outcome State Fault Refusal :=
  flane r rm (fun h => let x := h.src a; let y := h.src b; fun i => (f32 h (lane x i)).add rm (f32 h (lane y i))) s

/-- VFSUB (05 R134). -/
def execVfsub (r : Dst) (a b : Sel) (rm : Rnd) (s : State) : Host.Outcome State Fault Refusal :=
  flane r rm (fun h => let x := h.src a; let y := h.src b; fun i => (f32 h (lane x i)).add rm (f32 h (lane y i)).neg) s

/-- VFMUL (05 R134). -/
def execVfmul (r : Dst) (a b : Sel) (rm : Rnd) (s : State) : Host.Outcome State Fault Refusal :=
  flane r rm (fun h => let x := h.src a; let y := h.src b; fun i => (f32 h (lane x i)).mul (f32 h (lane y i))) s

/-- VFMA: a × b + d rounded once (05 R134). -/
def execVfma (r : Dst) (a b : Sel) (rm : Rnd) (s : State) : Host.Outcome State Fault Refusal :=
  flane r rm (fun h => let x := h.src a; let y := h.src b; let d := h.dreg r
    fun i => ((f32 h (lane x i)).mul (f32 h (lane y i))).add rm (f32 h (lane d i))) s

/-- The IEEE minimum: NaN for a NaN, −0 below +0 (05 R135). -/
def minVal (a b : Val) : Val :=
  match a, b with
  | .nan, _ => .nan
  | _, .nan => .nan
  | _, _ => if a.eq b then (if a.isNeg then a else b) else if a.lt b then a else b

/-- The IEEE maximum (05 R135). -/
def maxVal (a b : Val) : Val :=
  match a, b with
  | .nan, _ => .nan
  | _, .nan => .nan
  | _, _ => if a.eq b then (if a.isNeg then b else a) else if a.lt b then b else a

/-- VFMIN (05 R135). -/
def execVfmin (r : Dst) (a b : Sel) (s : State) : Host.Outcome State Fault Refusal :=
  vword 2 r (fun h => let x := h.src a; let y := h.src b; ofLanes fun i => toF32 h .rne i (minVal (f32 h (lane x i)) (f32 h (lane y i)))) s

/-- VFMAX (05 R135). -/
def execVfmax (r : Dst) (a b : Sel) (s : State) : Host.Outcome State Fault Refusal :=
  vword 2 r (fun h => let x := h.src a; let y := h.src b; ofLanes fun i => toF32 h .rne i (maxVal (f32 h (lane x i)) (f32 h (lane y i)))) s

/-- VFABS (05 R135). -/
def execVfabs (r : Dst) (a : Sel) (s : State) : Host.Outcome State Fault Refusal :=
  vword 2 r (fun h => let x := h.src a; ofLanes fun i => toF32 h .rne i (f32 h (lane x i)).abs) s

/-- VFNEG (05 R135). -/
def execVfneg (r : Dst) (a : Sel) (s : State) : Host.Outcome State Fault Refusal :=
  vword 2 r (fun h => let x := h.src a; ofLanes fun i => toF32 h .rne i (f32 h (lane x i)).neg) s

/-! ### Conversion (05 R136, 02 R54) -/

/-- The floating-point layout of a VCVT code; none for an integer. -/
def cvtFp : CvtFmt → Option FpFmt
  | .fp32 => some fp32
  | .bf16 => some bf16
  | .fp16 => some fp16
  | .e4m3 => some e4m3
  | .e5m2 => some e5m2
  | .i32 | .n32 => none

/-- The value of a lane read in a format: a narrow value lies in its low bits (05 R127). -/
def cvtRead (ftz : Bool) (f : CvtFmt) (x : W32) : Val :=
  match cvtFp f with
  | some t => fpRead t ftz x.toNat
  | none => if f = .i32 then intVal x.toInt else intVal x.toNat

/-- A value written in a format into a lane (05 R136). -/
def cvtWrite (ftz : Bool) (f : CvtFmt) (mode : Rnd) (rb : Nat) (v : Val) : W32 :=
  match cvtFp f with
  | some t => BitVec.ofNat 32 (fpEncode t mode ftz rb v)
  | none => if f = .i32 then BitVec.ofInt 32 (toInt mode rb (-2 ^ 31) (2 ^ 31 - 1) v) else BitVec.ofInt 32 (toInt mode rb 0 (2 ^ 32 - 1) v)

/-- VCVT (05 R136). -/
def execVcvt (r : Dst) (a : Sel) (fr tf : CvtFmt) (rm : Rnd) (s : State) : Host.Outcome State Fault Refusal :=
  vword 4 r (fun h => let x := h.src a; ofLanes fun i => cvtWrite h.ftz tf rm (h.rbFor rm i) (cvtRead h.ftz fr (lane x i))) s

/-! ### Groups and blocks (05 R137, R138) -/

/-- Register j of the group that begins at r. -/
def groupReg (r : Fin 32) (j : Nat) : Fin 32 := ⟨(r.val + j) % 32, Nat.mod_lt _ (by decide)⟩

/-- Register number a selector names; groups are named by registers only (05 R137). -/
def selReg : Sel → Fin 32
  | .reg r => r
  | _ => 0

/-- The 256 elements of a group (05 R137). -/
def TState.group (st : TState) (r : Fin 32) : List W32 :=
  (List.range 256).map fun i => lane (st.v.getD (groupReg r (i / 64)).val 0) (i % 64)

/-- The first `n` bytes of a group's image as a number (05 R137). -/
def TState.groupNat (st : TState) (r : Fin 32) (n : Nat) : Nat :=
  ((List.range 4).foldr (fun j a => (st.v.getD (groupReg r j).val 0).toNat + 2 ^ 2048 * a) 0) % 2 ^ (8 * n)

/-- A group written under the mask, and the latch with the value bound for its first register (05 R127, R137). -/
def TState.resGroup (st : TState) (u : Slot) (c lat : Nat) (r : Dst) (img : Nat) (mask : W64) : TState :=
  let v (j : Nat) : Vec := BitVec.ofNat 2048 (img / 2 ^ (2048 * j))
  let st := st.fly1 c lat (.latV u r.l (v 0) mask)
  if r.n then st else (List.range 4).foldl (fun st j => st.fly1 c lat (.vreg (groupReg r.d j) (v j) mask)) st

/-- The image of a group of 256 words. -/
def groupImage (xs : List W32) : Nat := packNats 32 (xs.map (·.toNat))

/-- A word that writes a group. -/
def gword (r : Dst) (f : Here → Nat) (s : State) : Host.Outcome State Fault Refusal :=
  word (fun h => .ok (h.st.resGroup h.s.slot h.cue 8 r (f h) h.st.active)) s

/-- VQBLK (05 R138). -/
def execVqblk (r : Dst) (a : Sel) (w : Width) (rm : Rnd) (s : State) : Host.Outcome State Fault Refusal :=
  gword r (fun h =>
    (encodeBlock ((h.st.group (selReg a)).map (f32 h)) (widthBits w) rm (h.rbFor rm)).image (widthBits w)) s

/-- VDQBLK (05 R138). -/
def execVdqblk (r : Dst) (a : Sel) (w : Width) (rm : Rnd) (s : State) : Host.Outcome State Fault Refusal :=
  gword r (fun h =>
    let b := blkOf (widthBits w) (h.st.groupNat (selReg a) (blkBytes (widthBits w)))
    groupImage ((List.range 256).map fun i => toF32 h rm i (b.val i))) s

/-! ### MX forms (05 R139) -/

/-- VMXQ: two blocks of 32 lanes, scales in lane 63 (05 R139). -/
def execVmxq (r : Dst) (a : Sel) (f : MxFmt) (rm : Rnd) (s : State) : Host.Outcome State Fault Refusal :=
  vword 8 r (fun h =>
    let x := h.src a
    let blk (j : Nat) := exportMx ((List.range 32).map fun i => f32 h (lane x (32 * j + i))) f rm fun n => h.rbFor rm (32 * j + n)
    let b0 := blk 0
    let b1 := blk 1
    BitVec.ofNat 2048 (packNats (mxBits f) (b0.2 ++ b1.2) + 2 ^ 2016 * (b0.1 + 256 * b1.1))) s

/-- VMXDQ (05 R139). -/
def execVmxdq (r : Dst) (a : Sel) (f : MxFmt) (rm : Rnd) (s : State) : Host.Outcome State Fault Refusal :=
  vword 8 r (fun h =>
    let x := h.src a
    let w := mxBits f
    let sc (j : Nat) := (lane x 63).toNat / 256 ^ j % 256
    ofLanes fun n => toF32 h rm n (mxVal f (sc (n / 32)) (x.toNat / 2 ^ (w * n) % 2 ^ w))) s

/-! ### Special functions (05 R140 to R145) -/

/-- A finite non-zero value as (M, e): 2^23 ≤ M < 2^24, magnitude M × 2^(e − 23) (05 R140). -/
def normM (m : Nat) (e : Int) : Nat × Int :=
  let l := ilog2 m
  (if l ≤ 23 then m * 2 ^ (23 - l) else m / 2 ^ (l - 23), e + l)

/-- floor of a signed value times 2^k. -/
def floorScaled (s : Bool) (m : Nat) (e k : Int) : Int :=
  let q := e + k
  let v : Int := if s then -(m : Int) else m
  if 0 ≤ q then v * 2 ^ q.toNat else v / 2 ^ (-q).toNat

/-- The exact value of an integer times 2^e. -/
def dyadic (z : Int) (e : Int) : Val := .fin (z < 0) z.natAbs e

/-- vexp2 before its last rounding (05 R141). -/
def vexp2 : Val → Val
  | .nan => .nan
  | .inf s => if s then .fin false 0 0 else .inf false
  | .fin s m e =>
    if !s && (Val.lt (.fin false m e) (.fin false 128 0) == false) then .inf false
    else if Val.lt (.fin s m e) (.fin true 160 0) then .fin false 0 0
    else
      let x := floorScaled s m e 22
      let n := x / 2 ^ 22
      let f := (x % 2 ^ 22).toNat
      let j := f / 2 ^ 14
      let r := f % 2 ^ 14
      let p := 2 ^ 30 + 744261118 * r / 2 ^ 22 + 257941248 * r * r / 2 ^ 44
      let m := tableT.getD j 0 * p / 2 ^ 30
      .fin false m (n - 30)

/-- vlog2 before its last rounding (05 R142). -/
def vlog2 : Val → Val
  | .nan => .nan
  | .inf s => if s then .nan else .inf false
  | .fin s m e =>
    if m = 0 then .inf true
    else if s then .nan
    else
      let n := normM m e
      let j := n.1 / 2 ^ 15 - 256
      let r := n.1 % 2 ^ 15
      let u := r * tableG j / 2 ^ 23
      let p : Int := (1549082005 * u / 2 ^ 30 : Nat) - (774541002 * (u * u / 2 ^ 30) / 2 ^ 30 : Nat)
      dyadic (n.2 * 2 ^ 30 + tableL.getD j 0 + p) (-30)

/-- vrcp before its last rounding (05 R143). -/
def vrcp : Val → Val
  | .nan => .nan
  | .inf s => .fin s 0 0
  | .fin s m e =>
    if m = 0 then .inf s
    else
      let n := normM m e
      let j := n.1 / 2 ^ 15 - 256
      let r := n.1 % 2 ^ 15
      let g := tableG j
      let u := r * g / 2 ^ 23
      let q := 2 ^ 30 - u + u * u / 2 ^ 30
      .fin s (g * q / 2 ^ 30) (-n.2 - 30)

/-- vrsq before its last rounding (05 R144). -/
def vrsq : Val → Val
  | .nan => .nan
  | .inf s => if s then .nan else .fin false 0 0
  | .fin s m e =>
    if m = 0 then .inf s
    else if s then .nan
    else
      let n := normM m e
      let hh := (n.2 % 2).toNat
      let k := (n.2 - hh) / 2
      let j := n.1 / 2 ^ 16 - 128
      let r := n.1 % 2 ^ 16
      let u := r * tableG (2 * j) / 2 ^ 23
      let q := 2 ^ 30 - u / 2 + 3 * (u * u / 2 ^ 30) / 8
      .fin false (tableH.getD (128 * hh + j) 0 * q / 2 ^ 30) (-k - 30)

/-- A value rounded to FP32 by RNE, subnormals honoured (05 R145). -/
def rnd32 (v : Val) : Val := fpDecode fp32 (rne32 v)

/-- vtanh before the final flush (05 R145). -/
def vtanh : Val → Val
  | .nan => .nan
  | .inf s => .fin s 1 0
  | .fin s m e =>
    if Val.lt (.fin false m e) (.fin false 1 (-12)) then .fin s m e
    else if !Val.lt (.fin false m e) (.fin false 16 0) then .fin s 1 0
    else
      let z := rnd32 (Val.mul (.fin false m e) (fpDecode fp32 0xc038aa3b))
      let x := rnd32 (vexp2 z)
      let n := rnd32 (Val.add .rne (.fin false 1 0) x.neg)
      let d := rnd32 (Val.add .rne (.fin false 1 0) x)
      let y := rnd32 (Val.mul n (rnd32 (vrcp d)))
      if s then y.neg else y

/-- A special function of each lane. -/
def special (r : Dst) (a : Sel) (f : Val → Val) (s : State) : Host.Outcome State Fault Refusal :=
  vword 8 r (fun h => let x := h.src a; ofLanes fun i => toF32 h .rne i (f (f32 h (lane x i)))) s


/-- VEXP2 (05 R141). -/
def execVexp2 (r : Dst) (a : Sel) (s : State) : Host.Outcome State Fault Refusal := special r a vexp2 s

/-- VLOG2 (05 R142). -/
def execVlog2 (r : Dst) (a : Sel) (s : State) : Host.Outcome State Fault Refusal := special r a vlog2 s

/-- VRCP (05 R143). -/
def execVrcp (r : Dst) (a : Sel) (s : State) : Host.Outcome State Fault Refusal := special r a vrcp s

/-- VRSQ (05 R144). -/
def execVrsq (r : Dst) (a : Sel) (s : State) : Host.Outcome State Fault Refusal := special r a vrsq s

/-- VTANH (05 R145). -/
def execVtanh (r : Dst) (a : Sel) (s : State) : Host.Outcome State Fault Refusal := special r a vtanh s

/-! ### Reductions and scans (05 R146, R147) -/

/-- The addition of a type (05 R146). -/
def redAdd (ftz : Bool) (ty : RedTy) (x y : W32) : W32 :=
  match ty with
  | .fp32 => BitVec.ofNat 32 (fpEncode fp32 .rne ftz 0 ((fpRead fp32 ftz x.toNat).add .rne (fpRead fp32 ftz y.toNat)))
  | _ => x + y

/-- The maximum of a type (05 R146). -/
def redMax (ftz : Bool) (ty : RedTy) (x y : W32) : W32 :=
  match ty with
  | .i32 => if ltS x y then y else x
  | .n32 => if ltU x y then y else x
  | .fp32 => BitVec.ofNat 32 (fpEncode fp32 .rne ftz 0 (maxVal (fpRead fp32 ftz x.toNat) (fpRead fp32 ftz y.toNat)))

/-- The minimum of a type (05 R146). -/
def redMin (ftz : Bool) (ty : RedTy) (x y : W32) : W32 :=
  match ty with
  | .i32 => if ltS x y then x else y
  | .n32 => if ltU x y then x else y
  | .fp32 => BitVec.ofNat 32 (fpEncode fp32 .rne ftz 0 (minVal (fpRead fp32 ftz x.toNat) (fpRead fp32 ftz y.toNat)))

/-- The identity of the addition. -/
def idAdd : RedTy → W32
  | .fp32 => 0x80000000
  | _ => 0

/-- The identity of the maximum. -/
def idMax : RedTy → W32
  | .i32 => 0x80000000
  | .n32 => 0
  | .fp32 => 0xff800000

/-- The identity of the minimum. -/
def idMin : RedTy → W32
  | .i32 => 0x7fffffff
  | .n32 => 0xffffffff
  | .fp32 => 0x7f800000

/-- One level of the tree: neighbours combined. -/
def pairs (f : W32 → W32 → W32) : List W32 → List W32
  | x :: y :: r => f x y :: pairs f r
  | xs => xs

/-- `n` levels of the tree. -/
def treeFold (f : W32 → W32 → W32) : Nat → List W32 → List W32
  | 0, xs => xs
  | n + 1, xs => treeFold f n (pairs f xs)

/-- The lanes of a source, a masked-off lane as the identity (05 R146). -/
def activeLanes (h : Here) (id : W32) (x : Vec) : List W32 :=
  (List.range 64).map fun i => if h.st.active.getLsbD i then lane x i else id

/-- A reduction to one value, written to every active lane (05 R146). -/
def reduce (r : Dst) (a : Sel) (f : Bool → W32 → W32 → W32) (id : W32) (s : State) : Host.Outcome State Fault Refusal :=
  vword 6 r (fun h => let v := (treeFold (f h.ftz) 6 (activeLanes h id (h.src a))).headD 0; ofLanes fun _ => v) s

/-- VREDADD (05 R146). -/
def execVredadd (r : Dst) (a : Sel) (ty : RedTy) (s : State) : Host.Outcome State Fault Refusal :=
  reduce r a (fun z => redAdd z ty) (idAdd ty) s

/-- VREDMAX (05 R146). -/
def execVredmax (r : Dst) (a : Sel) (ty : RedTy) (s : State) : Host.Outcome State Fault Refusal :=
  reduce r a (fun z => redMax z ty) (idMax ty) s

/-- VREDMIN (05 R146). -/
def execVredmin (r : Dst) (a : Sel) (ty : RedTy) (s : State) : Host.Outcome State Fault Refusal :=
  reduce r a (fun z => redMin z ty) (idMin ty) s

/-- One pass of the prefix sum at distance `d` (05 R147). -/
def scanStep (f : W32 → W32 → W32) (d : Nat) (xs : List W32) : List W32 :=
  xs.take d ++ List.zipWith f xs (xs.drop d)

/-- A lane of a scan as a result of its type: a NaN canonical, a subnormal flushed (02 R47, R53); lane 0 passes no addition. -/
def scanLane (ftz : Bool) (ty : RedTy) (x : W32) : W32 :=
  match ty with
  | .fp32 => BitVec.ofNat 32 (fpEncode fp32 .rne ftz 0 (fpRead fp32 ftz x.toNat))
  | _ => x

/-- VSCAN (05 R147). -/
def execVscan (r : Dst) (a : Sel) (ty : RedTy) (s : State) : Host.Outcome State Fault Refusal :=
  vword 6 r (fun h =>
    let xs := [1, 2, 4, 8, 16, 32].foldl (fun xs d => scanStep (redAdd h.ftz ty) d xs) (activeLanes h (idAdd ty) (h.src a))
    ofLanes fun i => scanLane h.ftz ty (xs.getD i 0)) s

end Sys2Proof.Machine
end

