-- ==== Sys2Proof/Machine/VectorMem.lean ====
section
/-! DEFINITION. Vector loads and stores: bank formats, block banks, indexed access (05 R149 to R154). -/
namespace Sys2Proof.Machine

/-- What a format code says of an access (01 R29, 05 R150, R151). -/
inductive BankFmt where
  | plain (bytes : Nat)                  -- verbatim words
  | int (bytes : Nat) (signed : Bool)
  | fp (t : FpFmt)
  | block (w : Width)
  deriving DecidableEq, Repr

/-- The format of a CODE; RAW32 for any other, which no loader accepts (01 R29). -/
def bankFmtOf (c : Nat) : BankFmt :=
  match c with
  | 0x01 => .int 1 true
  | 0x02 => .int 1 false
  | 0x03 => .int 2 true
  | 0x04 => .int 2 false
  | 0x09 => .fp bf16
  | 0x0a => .fp fp16
  | 0x0b => .fp e4m3
  | 0x0c => .fp e5m2
  | 0x10 => .block .w4
  | 0x11 => .block .w6
  | 0x12 => .block .w8
  | 0x13 => .block .w16
  | _ => .plain 4

/-- Element bytes of a format that is no block format. -/
def BankFmt.bytes : BankFmt → Nat
  | .plain n => n
  | .int n _ => n
  | .fp t => (t.f + t.x + 1) / 8
  | .block _ => 1

/-- The fmt word of a bank (01 R28). -/
def Tile.fmt (t : Tile) (b : Nat) : W32 := t.fmts.getD b 0

/-- The format of a bank. -/
def Tile.bankFmt (t : Tile) (b : Nat) : BankFmt := bankFmtOf ((t.fmt b).toNat % 256)

/-- The rounding mode RND of a bank (01 R28). -/
def Tile.bankRnd (t : Tile) (b : Nat) : Rnd := (rndOf ((t.fmt b).toNat / 2 ^ 9 % 8)).getD .rne

/-- A lane's element stored in a format (05 R150). -/
def elemOut (h : Here) (f : BankFmt) (rnd : Rnd) (n : Nat) (x : W32) : Nat :=
  match f with
  | .plain _ | .block _ => x.toNat
  | .int b true => (BitVec.ofInt 32 (clampInt (-2 ^ (8 * b - 1)) (2 ^ (8 * b - 1) - 1) x.toInt)).toNat % 2 ^ (8 * b)
  | .int b false => min (2 ^ (8 * b) - 1) x.toNat
  | .fp t => fpEncode t rnd h.ftz (h.rbFor rnd n) (f32 h x)

/-- A lane read from an element in a format (05 R150). -/
def elemIn (h : Here) (f : BankFmt) (x : Nat) : W32 :=
  match f with
  | .plain _ | .block _ => BitVec.ofNat 32 x
  | .int b true => BitVec.ofInt 32 (sextNat (8 * b) x)
  | .int _ false => BitVec.ofNat 32 x
  | .fp t => BitVec.ofNat 32 (fpEncode fp32 .rne h.ftz 0 (fpRead t h.ftz x))

/-- The tinfo of BANKFMT (05 R154). -/
def bankInfo (lane bank reason : Nat) : W64 := BitVec.ofNat 64 (lane % 64 * 2 ^ 40 + bank % 16 * 2 ^ 16 + reason)

/-- The block bound of a block bank (05 R151). -/
def blockCount : Width → Nat
  | .w4 => 496
  | .w6 => 334
  | .w8 => 252
  | .w16 => 127

/-- Whether an address is the start of a block of its bank (05 R151). -/
def blockStart (w : Width) (a : Nat) : Bool :=
  a % 0x10000 % blkBytes (widthBits w) == 0 && decide (a % 0x10000 / blkBytes (widthBits w) < blockCount w)

/-- The OWNER check of a range (01 R32, 05 R149). -/
def Here.ownerCheck (h : Here) (a n : Nat) (k : Res) : Res :=
  match h.st.notOwned ownCore a n with
  | some u => .trap cOWNER (ownerInfo 0 (h.st.owner u) u)
  | none => k

/-- The checks of a plain vector access, in order, and what runs with its address and format (05 R149). -/
def Here.vecCheck (h : Here) (a : Int) (blk : Width → Nat → Res) (k : BankFmt → Nat → Res) : Res :=
  if !addrOk a 1 then .trap cBOUNDS (addrInfo a)
  else
    let n := a.toNat
    match h.t.bankFmt (n / 0x10000) with
    | .block w => if blockStart w n then blk w n else .trap cBOUNDS (addrInfo a)
    | f =>
      let e := f.bytes
      if n % e ≠ 0 ∨ spadSize < n + 64 * e then .trap cBOUNDS (addrInfo a)
      else
        let last := (n + 64 * e - 1) / 0x10000
        if last ≠ n / 0x10000 ∧ h.t.fmt last ≠ h.t.fmt (n / 0x10000) then .trap cBANKFMT (bankInfo 0 last 3)
        else h.ownerCheck n (64 * e) (k f n)

/-- VLD from an address (05 R149 to R151). -/
def Here.vload (h : Here) (r : Dst) (a : Int) : Res :=
  h.vecCheck a
    (fun w n =>
      if r.d.val % 4 ≠ 0 then .trap cBANKFMT (bankInfo 0 (n / 0x10000) 1)
      else
        let sz := blkBytes (widthBits w)
        h.ownerCheck n sz
          (let b := blkOf (widthBits w) (memNat h.st.spad n sz)
           .ok (h.st.resGroup h.s.slot h.cue 5 r (groupImage ((List.range 256).map fun i => toF32 h .rne i (b.val i))) h.st.active)))
    (fun f n =>
      .ok (h.st.resV h.s.slot h.cue 5 r (ofLanes fun i => elemIn h f (memNat h.st.spad (n + i * f.bytes) f.bytes)) h.st.active))

/-- VST to an address (05 R149 to R151). Of BANKFMT's reasons for a block bank the source's comes before the mask's (log 70). -/
def Here.vstore (h : Here) (d : Sel) (a : Int) : Res :=
  h.vecCheck a
    (fun w n =>
      if !d.isGroup then .trap cBANKFMT (bankInfo 0 (n / 0x10000) 1)
      else if h.st.active ≠ allLanes then .trap cBANKFMT (bankInfo 0 (n / 0x10000) 2)
      else
        let sz := blkBytes (widthBits w)
        let rnd := h.t.bankRnd (n / 0x10000)
        h.ownerCheck n sz
          (let b := encodeBlock ((h.st.group (selReg d)).map (f32 h)) (widthBits w) rnd (h.rbFor rnd)
           .ok (h.st.fly1 h.cue 2 (.store (cellsAt n (leBytes sz (b.image (widthBits w))))))))
    (fun f n =>
      let x := h.src d
      let rnd := h.t.bankRnd (n / 0x10000)
      .ok (h.st.fly1 h.cue 2 (.store ((((List.range 64).filter fun i => h.st.active.getLsbD i).map fun i =>
        cellsAt (n + i * f.bytes) (leBytes f.bytes (elemOut h f rnd i (lane x i)))).flatten))))

/-- VLD (05 R149). -/
def execVld (r : Dst) (base : Fin 32) (off : BitVec 10) (s : State) : Host.Outcome State Fault Refusal :=
  word (fun h => h.vload r (h.st.baseAddr base off 64)) s

/-- VLD through a stream (05 R149). -/
def execVldStream (r : Dst) (st : Fin 8) (s : State) : Host.Outcome State Fault Refusal := word (fun h => h.vload r (h.st.streamAddr st)) s

/-- VST (05 R149). -/
def execVst (d : Sel) (base : Fin 32) (off : BitVec 10) (s : State) : Host.Outcome State Fault Refusal :=
  word (fun h => h.vstore d (h.st.baseAddr base off 64)) s

/-- VST through a stream (05 R149). -/
def execVstStream (d : Sel) (st : Fin 8) (s : State) : Host.Outcome State Fault Refusal := word (fun h => h.vstore d (h.st.streamAddr st)) s

/-! ### Indexed access (05 R152) -/

/-- Active lanes with their addresses. -/
def Here.laneAddrs (h : Here) (a b : Sel) : List (Nat × Nat) :=
  let x := h.src a
  let y := h.src b
  ((List.range 64).filter fun i => h.st.active.getLsbD i).map fun i => (i, (lane x i).toNat + (lane y i).toNat)

/-- Whether a format is a block format. -/
def BankFmt.isBlock : BankFmt → Bool
  | .block _ => true
  | _ => false

/-- The format of the bank that holds an address. -/
def Tile.fmtAt (t : Tile) (a : Nat) : BankFmt := t.bankFmt (a / 0x10000)

/-- The first check that an active lane fails, with its tinfo (05 R152, R154). -/
def Here.laneFault (h : Here) (ls : List (Nat × Nat)) : Option (BitVec 8 × W64) :=
  match ls.find? fun p => decide (spadSize ≤ p.2) || (!(h.t.fmtAt p.2).isBlock && p.2 % (h.t.fmtAt p.2).bytes != 0) with
  | some p => some (cBOUNDS, BitVec.ofNat 64 (p.1 * 2 ^ 40 + p.2))
  | none =>
    match ls.find? fun p => (h.t.fmtAt p.2).isBlock with
    | some p => some (cBANKFMT, bankInfo p.1 (p.2 / 0x10000) 4)
    | none =>
      match ls.find? fun p => (h.st.notOwned ownCore p.2 (h.t.fmtAt p.2).bytes).isSome with
      | some p =>
        let u := (h.st.notOwned ownCore p.2 (h.t.fmtAt p.2).bytes).getD 0
        some (cOWNER, ownerInfo p.1 (h.st.owner u) u)
      | none => none

/-- VLDX (05 R152). -/
def execVldx (r : Dst) (a b : Sel) (s : State) : Host.Outcome State Fault Refusal :=
  word (fun h =>
    let ls := h.laneAddrs a b
    match h.laneFault ls with
    | some p => .trap p.1 p.2
    | none =>
      let at1 (i : Nat) : Nat := ((ls.find? fun p => p.1 == i).map (·.2)).getD 0
      .ok (h.st.resV h.s.slot h.cue 5 r (ofLanes fun i =>
        let f := h.t.fmtAt (at1 i)
        elemIn h f (memNat h.st.spad (at1 i) f.bytes)) h.st.active)) s

/-- VSTX: where two lanes write one byte, the higher lane wins (05 R152). -/
def execVstx (d a b : Sel) (s : State) : Host.Outcome State Fault Refusal :=
  word (fun h =>
    let ls := h.laneAddrs a b
    match h.laneFault ls with
    | some p => .trap p.1 p.2
    | none =>
      let x := h.src d
      .ok (h.st.fly1 h.cue 2 (.store ((ls.map fun p =>
        let f := h.t.fmtAt p.2
        cellsAt p.2 (leBytes f.bytes (elemOut h f (h.t.bankRnd (p.2 / 0x10000)) p.1 (lane x p.1)))).flatten)))) s

end Sys2Proof.Machine
end

