-- ==== Sys2Proof/Machine/Engine.lean ====
section
/-! DEFINITION. Common rules of the engine words (07 R175 to R179): guards, staging, memory references, the order of checks, units on
loan and reports; and the words GIVE, OWNQ, SITEQ, MBPUT, MBGET, FLY, ACOPY, QMARK and WHEEL (07 R180 to R197). -/
namespace Sys2Proof.Machine

/-! ### Guards and staging (07 R175, R176) -/

/-- An engine word: nothing when its guard fails (03 R75). -/
def engine (g : Guard) (f : Here → Res) (s : State) : Host.Outcome State Fault Refusal :=
  word (fun h => if h.passes g then f h else .ok h.st) s

/-- Staging word j of a command (07 R176). -/
def Here.stage (h : Here) (kg : Fin 8) (j : Nat) : W64 := h.st.k.toList.getD (4 * kg.val + j) 0

/-- The tinfo of BOUNDS for an engine word (07 R178). -/
def boundsInfo (reason j field : Nat) : W64 := BitVec.ofNat 64 (reason * 2 ^ 40 + j * 2 ^ 32 + field % 2 ^ 32)

/-- A check: whether it fails, and the tinfo of BOUNDS it then gives. -/
abbrev Check := Bool × W64

/-- The first BOUNDS check that fails is raised (07 R178). -/
def bounds (cs : List Check) (k : Res) : Res :=
  match cs.find? (·.1) with
  | some c => .trap cBOUNDS c.2
  | none => k

/-! ### Units on loan (01 R31, R32; 07 R177) -/

/-- Owner codes (01 R31). -/
def ownFly : Nat := 1
def ownAcopy : Nat := 2
def ownCopy : Nat := 3
def ownChorus : Nat := 4

/-- A scratchpad range. -/
abbrev Span := Nat × Nat

/-- Units that a range touches. -/
def spanUnits (p : Span) : List Nat := if p.2 = 0 then [] else (List.range ((p.1 + p.2 - 1) / 4096 + 1 - p.1 / 4096)).map (· + p.1 / 4096)

/-- Units that ranges touch. -/
def unitsOf (ps : List Span) : List Nat := (ps.map spanUnits).flatten.eraseDups

/-- Rows of a transfer as scratchpad ranges. -/
def rowSpans (rows : List XRow) : List Span := rows.map fun r => (r.spad, r.len)

/-- Size in bytes of an element of a collective (07 R199). -/
def opBytes : COp → Nat
  | .bf16 => 2
  | _ => 4

/-- Ranges a descriptor names (07 R200). -/
def CDesc.spans (d : CDesc) : List Span :=
  let n := d.nel * opBytes d.op
  match d.kind with
  | .ar | .rs => [(d.buf, n), (d.slots, n)]
  | .ag | .bc => [(d.buf, n)]
  | .bar => []

/-- Ranges a COMBINE names (07 R203). -/
def CombineCmd.spans (c : CombineCmd) : List Span :=
  let n := c.nel * opBytes c.op
  [(c.slots, (c.ns + 1) * n), (c.buf, n)]

/-- A format's size of `n` elements that lie one behind the other, in bits; blocks apart. -/
def ElFmt.elemBits : ElFmt → Nat
  | .code c => 8 * (bankFmtOf c.toNat).bytes
  | .mx f => mxBits f

/-- The block width of a side, if it is a block format. -/
def ElFmt.block? : ElFmt → Option Width
  | .code c => match bankFmtOf c.toNat with
    | .block w => some w
    | _ => none
  | .mx _ => none

/-- Address of block i of a run that starts at a block of a bank: blocks lie back to back up to the bound of each bank (05 R151). -/
def spadBlock (w : Width) (a i : Nat) : Nat :=
  let k := a % 0x10000 / blkBytes (widthBits w) + i
  (a / 0x10000 + k / blockCount w) * 0x10000 + k % blockCount w * blkBytes (widthBits w)

/-- Scratchpad ranges of a side of an XCOPY (07 R193). -/
def ElFmt.spans (f : ElFmt) (a nel scl : Nat) : List Span :=
  match f.block? with
  | some w => (List.range (nel / 256)).map fun i => (spadBlock w a i, blkBytes (widthBits w))
  | none => match f with
    | .mx m => [(a, nel * mxBits m / 8), (scl, nel / 32)]
    | .code _ => [(a, nel * f.elemBits / 8)]

/-- Scratchpad ranges a copy command names (07 R192, R193). -/
def CopyKind.spans : CopyKind → List Span
  | .xcopy fs fd sw src dst scl nel _ _ _ => (if sw then [] else fs.spans src nel scl) ++ fd.spans dst nel scl
  | .xfill a n _ => [(a, n)]

/-- Units named by the outstanding commands of an engine (07 R177). -/
def TState.unitsHeld (st : TState) (code : Nat) : List Nat :=
  unitsOf (
    if code = ownFly then ((st.fly.filter fun c => !c.landed).map fun c => rowSpans c.rows).flatten
    else if code = ownAcopy then ((st.loadQ ++ st.storeQ).map fun e => rowSpans e.rows).flatten
    else if code = ownCopy then (st.copyQ.map fun c => c.kind.spans).flatten
    else (st.chorus.map CDesc.spans).flatten ++ (st.combine.map CombineCmd.spans).flatten)

/-- A command's units after its completion: those no other command of the engine names return to CORE; POISON is marked on all and
stays until the next GIVE (01 R31, 07 R177). The completed command is out of its queue already. -/
def TState.giveBack (st : TState) (code : Nat) (us : List Nat) (poison : Bool) : TState :=
  let mine := us.filter fun u => st.owner u == code
  let st := if poison then
      { st with own := mine.foldl (fun o u => if h : u < 256 then o.set u (o[u] ||| 0x10) else o) st.own }
    else st
  let held := st.unitsHeld code
  st.returnUnits (mine.filter fun u => !held.contains u) false

/-- Units of a command that completes before the cycle's issue: they go back once the cycle's commands have been issued (01 R32, 07 R177). -/
def TState.giveBackLate (st : TState) (code : Nat) (us : List Nat) (poison : Bool) : TState :=
  { st with back := st.back ++ [⟨code, us, poison⟩] }

/-- The units of the cycle's completions go back. -/
def TState.settleBack (st : TState) : TState :=
  st.back.foldl (fun st (r : UnitReturn) => st.giveBack r.code r.units r.poison) { st with back := [] }

/-- The lowest unit of some ranges that an engine does not own. -/
def TState.notOwnedSpans (st : TState) (code : Nat) (ps : List Span) : Option Nat :=
  (ps.filterMap fun p => if p.2 = 0 then none else st.notOwned code p.1 p.2).min?

/-- The OWNER check of an engine word (07 R177, R178). -/
def Here.owned (h : Here) (code : Nat) (ps : List Span) (k : Res) : Res :=
  match h.st.notOwnedSpans code ps with
  | some u => .trap cOWNER (ownerInfo 0 (h.st.owner u) u)
  | none => k

/-- Whether a core store is still in flight to one of some units: no engine touches them before it lands (10 R281). -/
def TState.storesTo (st : TState) (us : List Nat) : Bool :=
  st.flight.any fun f => match f.eff with
    | .store cs => cs.any fun c => us.contains (c.1 / 4096)
    | _ => false

/-! ### Memory references (07 R179, 10 R270 to R272) -/

/-- A transfer as its staging words name it; `mj`, `sj` are the words of the strides, `mf`, `sf` their fields as encoded. -/
structure Move where
  seg : Nat
  off : Nat
  addr : Nat
  len : Nat
  rows : Nat
  mstr : Int
  sstr : Int
  mj : Nat
  mf : Nat
  sj : Nat
  sf : Nat
  wr : Bool

/-- Memory offset and scratchpad address of row r (07 R183). -/
def Move.memAt (m : Move) (r : Nat) : Int := (m.off : Int) + r * m.mstr
def Move.spadAt (m : Move) (r : Nat) : Int := (m.addr : Int) + r * m.sstr

/-- Whether some row meets a condition. -/
def Move.anyRow (m : Move) (p : Nat → Bool) : Bool := (List.range m.rows).any p

/-- The segment a number names. -/
def Here.segOf (h : Here) (n : Nat) : Option SegEntry := h.co.info.segtab[n]?

/-- Whether a segment is pinned and in the deck aperture. -/
def SegEntry.pinnedDeck (e : SegEntry) : Bool := !e.paged && e.aper == 0

/-- Whether [off, off + n) passes the limit of a segment or, when it is pinned deck memory, crosses a site window (07 R178 reason 3). -/
def SegEntry.passes (e : SegEntry) (off : Int) (n : Nat) : Bool :=
  decide (off < 0) || decide ((e.limit : Int) < off + n) ||
    e.pinnedDeck && (e.base + off.toNat) / Config.siteWindow != (e.base + off.toNat + n - 1) / Config.siteWindow

/-- The first row's memory address: deck physical, host bus or virtual (10 R272). -/
def Move.target (m : Move) (e : SegEntry) : Nat := e.base + m.off

/-- The rows of a transfer that passed its checks. -/
def Move.xrows (m : Move) (e : SegEntry) : List XRow :=
  (List.range m.rows).map fun r => ⟨e.base + (m.memAt r).toNat, (m.spadAt r).toNat, m.len⟩

/-- The BOUNDS checks that transfers share, by reason: 5, 6, 1, 3, 11, 2, 4 (07 R178); `six` are the word's own of reason 6. -/
def Here.moveChecks (h : Here) (m : Move) (pinned : Bool) (six : List Check) : List Check :=
  let e := h.segOf m.seg
  let on (p : SegEntry → Bool) : Bool := (e.map p).getD false
  [(m.off % 64 != 0, boundsInfo 5 0 m.off), (m.addr % 64 != 0, boundsInfo 5 1 m.addr),
   (m.mf % 64 != 0, boundsInfo 5 m.mj m.mf), (m.sf % 64 != 0, boundsInfo 5 m.sj m.sf)] ++ six ++
  [(e.isNone, boundsInfo 1 0 m.seg),
   (on fun e => m.anyRow fun r => e.passes (m.memAt r) m.len, boundsInfo 3 0 m.off),
   (on fun e => if m.wr then !e.wr else !e.rd, boundsInfo 11 0 m.seg),
   (pinned && on fun e => !e.pinnedDeck, boundsInfo 2 0 m.seg),
   (m.anyRow fun r => decide (m.spadAt r < 0) || decide ((spadSize : Int) < m.spadAt r + m.len), boundsInfo 4 1 m.addr)]

/-- SEG and OFF of a staging word (07 R179). -/
def segField (w : W64) : Nat := bits w 53 48
def offField (w : W64) : Nat := bits w 47 0

/-! ### Mailbox bindings and reports (07 R179, R189) -/

/-- The mailbox word bound to a slot (14 R345). -/
def Company.bound (c : Company) (slot : Nat) : Option Nat :=
  match c.info.binds[slot]? with
  | some b => if b.getLsbD 15 then some (b.toNat % 4096) else none
  | none => none

/-- A report word (07 R189). -/
def reportWord (code sub gen : Nat) (k : TileKey) (where_ : Nat) : W64 :=
  BitVec.ofNat 64 (code % 256 * 2 ^ 56 + sub % 256 * 2 ^ 48 + gen % 2 ^ 16 * 2 ^ 32 + tileIdOf k % 2 ^ 13 * 2 ^ 19 + where_ % 2 ^ 19)

/-- A report posted when REP asks for it (07 R189); one to a slot that is not bound is dropped (log 72). -/
def State.report (s : State) (c : Company) (rep : Bool) (rslot : Nat) (w : W64) : State :=
  if rep then match c.bound rslot with
    | some m => s.mbPost m w
    | none => s
  else s

/-! ### GIVE, OWNQ, SITEQ (07 R180 to R182) -/

/-- GIVE (07 R180): effective one cycle on (01 R32). -/
def execGive (g : Guard) (kg : Fin 8) (o : Fin 16) (s : State) : Host.Outcome State Fault Refusal :=
  engine g (fun h =>
    let w := h.stage kg 0
    let first := bits w 7 0
    let cnt := bits w 15 8
    bounds [(decide (255 < first + cnt), boundsInfo 6 0 cnt)] <|
      h.owned ownCore [(first * 4096, (cnt + 1) * 4096)] <|
        .ok (h.st.fly1 h.cue 1 (.give first (cnt + 1) (BitVec.ofNat 4 o.val)))) s

/-- own[u] as read: POISON is set as a unit returns, so a unit on loan shows none (01 R31). -/
def TState.ownRead (st : TState) (u : Nat) : Nat := let b := (st.own.getD u 0).toNat; if b % 16 = 0 then b else b % 16

/-- OWNQ (07 R181). -/
def execOwnq (l : Fin 4) (g : Guard) (kg : Fin 8) (s : State) : Host.Outcome State Fault Refusal :=
  engine g (fun h =>
    .ok (h.st.fly1 h.cue 2 (.latS h.s.slot l (BitVec.ofNat 64 (h.st.ownRead (bits (h.stage kg 0) 7 0)))))) s

/-- The code of a site state (07 R182). -/
def SiteState.code : SiteState → Nat
  | .empty => 0
  | .seated => 1
  | .powering => 2
  | .testing => 3
  | .training => 4
  | .admitted => 5
  | .active => 6
  | .draining => 7
  | .released => 8
  | .lost => 9
  | .faulted => 10

/-- SITEQ (07 R182). -/
def execSiteq (l : Fin 4) (g : Guard) (st : Fin 32) (s : State) : Host.Outcome State Fault Refusal :=
  engine g (fun h =>
    let x := h.s.siteView h.t.site h.t.region st.val
    .ok (h.st.fly1 h.cue 2 (.latS h.s.slot l (BitVec.ofNat 64 (x.2.toNat * 2 ^ 32 + x.1.code))))) s

/-! ### Mailbox words (07 R197) -/

/-- A mailbox command enters its FIFO of eight. -/
def Here.mbEnter (h : Here) (kg : Fin 8) (put : Bool) (v : W64) (lat : Option (Slot × Fin 4)) : Res :=
  let w := h.stage kg 0
  bounds [((h.co.bound (bits w 7 0)).isNone, boundsInfo 9 0 w.toNat), (decide (8 ≤ h.st.mbQ.length), boundsInfo 8 0 w.toNat)] <|
    .ok { h.st with mbQ := h.st.mbQ ++ [⟨put, (h.co.bound (bits w 7 0)).getD 0, v, lat, h.cue⟩] }

/-- MBPUT (07 R197). -/
def execMbput (g : Guard) (kg : Fin 8) (s : State) : Host.Outcome State Fault Refusal :=
  engine g (fun h => h.mbEnter kg true (h.stage kg 1) none) s

/-- MBGET (07 R197). -/
def execMbget (l : Fin 4) (g : Guard) (kg : Fin 8) (s : State) : Host.Outcome State Fault Refusal :=
  engine g (fun h => h.mbEnter kg false 0 (some (h.s.slot, l))) s

/-! ### FLY (07 R183 to R186) -/

/-- The fly window of a tile's site for a memory site (07 R185). -/
def flyWindow (own target : SiteId) : Nat := if target = own then 1280 else if target.val = own.val + 8 then 1600 else 1920

/-- The site that holds an address; S for none. -/
def siteOf (a : Nat) : SiteId := (winSite a).getD siteS

/-- The occurrence of the gang's fly calendar that a FLY word takes at this cue: a record of the same direction, tile and site with
bytes enough, not taken in this cycle (07 R184, 09 R238); of several the first of the book (DESIGN CHOICE, log 96). -/
def Here.flyEntry (h : Here) (wr : Bool) (site total : Nat) : Option Nat :=
  let o := h.cue - h.co.base
  ((h.gang.bin.book.zipIdx.find? fun r =>
    r.1.kind == (if wr then .flyWr else .flyRd) && r.1.row == h.t.key.row && r.1.col == h.t.key.col && r.1.site == site &&
      decide (total ≤ (r.1.len + 1) * 64) && decide (h.gang.base ≤ h.cue) && r.1.at? o && !h.st.flyTaken.contains (r.2, h.cue)).map (·.2))

/-- A FLY word's transfer; `two` is the four-word form (07 R183). -/
def Here.flyMove (h : Here) (kg : Fin 8) (two wr : Bool) : Move :=
  let w0 := h.stage kg 0
  let w1 := h.stage kg 1
  let w2 := if two then h.stage kg 2 else 0
  let w3 := if two then h.stage kg 3 else 0
  ⟨segField w0, offField w0, bits w1 19 0, (bits w1 41 32 + 1) * 64, bits w2 11 0 + 1, sextNat 48 (bits w2 63 16), sextNat 32 (bits w3 31 0),
   2, bits w2 63 16, 3, bits w3 31 0, wr⟩

/-- FLY (07 R183 to R185): BOUNDS in R178's order, the calendar last, then OWNER. -/
def Here.fly (h : Here) (kg : Fin 8) (two wr : Bool) : Res :=
  let m := h.flyMove kg two wr
  let total := m.rows * m.len
  bounds (h.moveChecks m true [(decide (65536 < total), boundsInfo 6 1 (m.len / 64 - 1))]) <|
    match h.segOf m.seg with
    | none => .ok h.st
    | some e =>
      let site := siteOf (m.target e)
      match (if h.st.localSince.isSome then none else h.flyEntry wr site total) with
      | none => .trap cBOUNDS (boundsInfo 7 0 (h.stage kg 0).toNat)
      | some i =>
        let rows := m.xrows e
        h.owned ownFly (rowSpans rows) <|
          .ok { h.st with
            flyTaken := (i, h.cue) :: h.st.flyTaken.filter fun p => p.2 == h.cue
            fly := h.st.fly ++ [⟨wr, h.cue, site, flyWindow h.t.site site, rows, [], false, false, h.s.slot⟩] }

/-- FLY.RD (07 R185). -/
def execFlyRd (g : Guard) (kg : Fin 8) (s : State) : Host.Outcome State Fault Refusal := engine g (fun h => h.fly kg false false) s

/-- FLY.WR (07 R185). -/
def execFlyWr (g : Guard) (kg : Fin 8) (s : State) : Host.Outcome State Fault Refusal := engine g (fun h => h.fly kg false true) s

/-- FLY.RD2 (07 R183). -/
def execFlyRd2 (g : Guard) (kg : Fin 8) (s : State) : Host.Outcome State Fault Refusal := engine g (fun h => h.fly kg true false) s

/-- FLY.WR2 (07 R183). -/
def execFlyWr2 (g : Guard) (kg : Fin 8) (s : State) : Host.Outcome State Fault Refusal := engine g (fun h => h.fly kg true true) s

/-! ### ACOPY and QMARK (07 R187 to R190) -/

/-- Entries a copy queue holds. -/
def queueDepth : Nat := 32

/-- An ACOPY word's transfer; `six` is ACOPY.2D (07 R187). -/
def Here.acopyMove (h : Here) (kg : Fin 8) (six wr : Bool) : Move :=
  let w0 := h.stage kg 0
  let w1 := h.stage kg 1
  let w2 := h.stage kg 2
  let w3 := if six then h.stage kg 3 else 0
  let w4 := if six then h.stage kg 4 else 0
  let w5 := if six then h.stage kg 5 else 0
  ⟨segField w0, offField w0, bits w1 19 0, bits w2 20 0, bits w3 11 0 + 1, sextNat 48 (bits w4 47 0), sextNat 32 (bits w5 31 0),
   4, bits w4 47 0, 5, bits w5 31 0, wr⟩

/-- ACOPY (07 R187, R188): BOUNDS in R178's order, then OWNER; the entry joins its queue. -/
def Here.acopy (h : Here) (kg : Fin 8) (sc : Scope) (six wr : Bool) : Res :=
  let m := h.acopyMove kg six wr
  let w0 := h.stage kg 0
  let w1 := h.stage kg 1
  let rep := bit w1 20
  let rslot := bits w1 28 21
  let q := if wr then h.st.storeQ else h.st.loadQ
  bounds (h.moveChecks m false [(m.len % 64 != 0 || decide (m.len < 64) || decide (0x100000 < m.len), boundsInfo 6 2 m.len)] ++
      [(rep && (h.co.bound rslot).isNone, boundsInfo 9 0 w0.toNat), (decide (queueDepth ≤ q.length), boundsInfo 8 0 w0.toNat)]) <|
    match h.segOf m.seg with
    | none => .ok h.st
    | some e =>
      let rows := m.xrows e
      let x : AcEntry := ⟨h.st.nextEntry, false, sc, m.seg, rows, rep, rslot, .waiting, 0, []⟩
      h.owned ownAcopy (rowSpans rows) <|
        .ok (if wr then { h.st with storeQ := q ++ [x], nextEntry := h.st.nextEntry + 1 }
          else { h.st with loadQ := q ++ [x], nextEntry := h.st.nextEntry + 1 })

/-- ACOPY.RD (07 R188). -/
def execAcopyRd (g : Guard) (kg : Fin 8) (sc : Scope) (s : State) : Host.Outcome State Fault Refusal :=
  engine g (fun h => h.acopy kg sc false false) s

/-- ACOPY.WR (07 R188). -/
def execAcopyWr (g : Guard) (kg : Fin 8) (sc : Scope) (s : State) : Host.Outcome State Fault Refusal :=
  engine g (fun h => h.acopy kg sc false true) s

/-- ACOPY.2D: DIR chooses the queue (07 R187, R188). -/
def execAcopy2d (g : Guard) (kg : Fin 8) (sc : Scope) (s : State) : Host.Outcome State Fault Refusal :=
  engine g (fun h => h.acopy kg sc true (bit (h.stage kg 3) 12)) s

/-- QMARK enters both queues or neither (07 R190). It reads no staging word: [31:0] of its tinfo is zero. -/
def execQmark (g : Guard) (sc : Scope) (s : State) : Host.Outcome State Fault Refusal :=
  engine g (fun h =>
    let x : AcEntry := ⟨h.st.nextEntry, true, sc, 0, [], false, 0, .waiting, 0, []⟩
    bounds [(decide (queueDepth ≤ h.st.loadQ.length) || decide (queueDepth ≤ h.st.storeQ.length), boundsInfo 8 0 0)] <|
      .ok { h.st with loadQ := h.st.loadQ ++ [x], storeQ := h.st.storeQ ++ [x], nextEntry := h.st.nextEntry + 1 }) s

/-! ### The wheel (07 R195, R196) -/

/-- The tinfo of WHEELPOS (07 R178). -/
def wheelInfo (reason pos : Nat) : W64 := BitVec.ofNat 64 (reason * 2 ^ 14 + pos)

/-- The guard of a wheel word, none for another word. -/
def wheelGuard : Instr → Option Guard
  | .wheelLd _ g _ | .wheelAdd _ g _ | .wheelXchg _ g _ | .wheelCas _ g _ => some g
  | .wheelSt g _ => some g
  | _ => none

/-- A slot of a bundle as a word. -/
def slotWord (b : Bundle) (u : Slot) : Nat :=
  let n := match u with
    | .c => 0
    | .s => 1
    | .va => 2
    | .vb => 3
    | .m => 4
    | .xa => 5
    | .xb => 6
    | .f => 7
  (b.extractLsb' (32 * n) 32).toNat

/-- Whether the other engine slot of the bundle in issue holds a wheel word whose guard passes (07 R195). -/
def Here.twoWheels (h : Here) : Bool :=
  let other : Slot := if h.s.slot = .xa then .xb else .xa
  match (h.t.bundleAt h.st.pc).bind fun b => (decode other (slotWord b other)).bind wheelGuard with
  | some g => h.passes g
  | none => false

/-- A wheel word (07 R195, R196, 10 R272). Of WHEELPOS's reasons the position's comes first (log 70). -/
def Here.wheel (h : Here) (op : WheelOp) (kg : Fin 8) (lat : Option (Slot × Fin 4)) : Res :=
  let p := h.cue % Config.wheelPositions
  if !h.gang.bin.wheel.contains p then .trap cWHEELPOS (wheelInfo 1 p)
  else if h.twoWheels then .trap cWHEELPOS (wheelInfo 2 p)
  else
    let w0 := h.stage kg 0
    let w1 := if op = .ld then 0 else h.stage kg 1
    let off := offField w0
    let e := h.segOf (segField w0)
    let on (q : SegEntry → Bool) : Bool := (e.map q).getD false
    bounds
      [(off % 4 != 0, boundsInfo 5 0 off), (e.isNone, boundsInfo 1 0 (segField w0)),
       (on fun e => e.passes off 4, boundsInfo 3 0 off),
       (on fun e => (op != .st && !e.rd) || (op != .ld && !e.wr), boundsInfo 11 0 (segField w0)),
       (on fun e => !e.pinnedDeck, boundsInfo 2 0 (segField w0))] <|
      match e with
      | none => .ok h.st
      | some e =>
        let a := e.base + off
        let site := siteOf a
        .ok { h.st with wheel := h.st.wheel ++
          [⟨op, a, site, w1.setWidth 32, w1.extractLsb' 32 32, h.cue, flyWindow h.t.site site, lat, none, h.s.slot⟩] }

/-- WHEEL.LD (07 R196). -/
def execWheelLd (l : Fin 4) (g : Guard) (kg : Fin 8) (s : State) : Host.Outcome State Fault Refusal :=
  engine g (fun h => h.wheel .ld kg (some (h.s.slot, l))) s

/-- WHEEL.ST (07 R196). -/
def execWheelSt (g : Guard) (kg : Fin 8) (s : State) : Host.Outcome State Fault Refusal := engine g (fun h => h.wheel .st kg none) s

/-- WHEEL.ADD (07 R196). -/
def execWheelAdd (l : Fin 4) (g : Guard) (kg : Fin 8) (s : State) : Host.Outcome State Fault Refusal :=
  engine g (fun h => h.wheel .add kg (some (h.s.slot, l))) s

/-- WHEEL.XCHG (07 R196). -/
def execWheelXchg (l : Fin 4) (g : Guard) (kg : Fin 8) (s : State) : Host.Outcome State Fault Refusal :=
  engine g (fun h => h.wheel .xchg kg (some (h.s.slot, l))) s

/-- WHEEL.CAS (07 R196). -/
def execWheelCas (l : Fin 4) (g : Guard) (kg : Fin 8) (s : State) : Host.Outcome State Fault Refusal :=
  engine g (fun h => h.wheel .cas kg (some (h.s.slot, l))) s

end Sys2Proof.Machine
end

