-- ==== Sys2Proof/Machine/Paging.lean ====
section
/-! DEFINITION. Translation of paged segments and of the instruction space (10 R273 to R275, 09 R245) and the segments fetched through it. -/
namespace Sys2Proof.Machine

/-- The end of a walk: aperture, address; the cause of R273; or a hole (10 R267). -/
inductive Walk where
  | ok (aper : Nat) (pa : Nat)
  | fault (cause : Nat)
  | hole
  deriving DecidableEq, Repr

/-- The fields of a table entry (10 R273). -/
structure Pte where
  aper : Nat
  zero : Bool
  pa : Nat
  mig : Bool
  w : Bool
  leaf : Bool
  v : Bool

/-- A table entry from its word. -/
def pteOf (x : Nat) : Pte where
  aper := x / 2 ^ 62
  zero := x / 2 ^ 48 % 2 ^ 14 == 0 && x / 2 ^ 4 % 2 ^ 8 == 0
  pa := x % 2 ^ 48 / 2 ^ 12 * 2 ^ 12
  mig := x.testBit 3
  w := x.testBit 2
  leaf := x.testBit 1
  v := x.testBit 0

/-- Whether an entry of level l, whose pages have 2^b bytes, is malformed (10 R273; the instruction space wants leaves of level 2 with
aperture 0 and no others). -/
def Pte.malformed (e : Pte) (instr : Bool) (l b : Nat) : Bool :=
  !e.zero || decide (2 ≤ e.aper) ||
    (if e.leaf then l == 4 || e.pa % 2 ^ b != 0 || instr && (l != 2 || e.aper != 0)
     else l == 1 || e.aper != 0 || e.mig || e.w || instr && l == 2)

/-- The levels of a walk, with the bit where each index starts (10 R273). -/
def walkLevels : List (Nat × Nat) := [(4, 39), (3, 30), (2, 21), (1, 12)]

/-- A 64-bit word of deck memory as the deck sees it (10 R274, R278). -/
def State.deckWord (s : State) (a : Nat) : Nat := memNat s.mem a 8

/-- A walk from a table: its end, and the entries it read (10 R273). -/
def State.walkFrom (s : State) (instr wr : Bool) (va : Nat) : List (Nat × Nat) → Nat → Walk × List Nat
  | [], _ => (.fault 2, [])
  | (l, b) :: r, table =>
    let a := table + 8 * (va / 2 ^ b % 512)
    if s.hole a then (.hole, [])
    else
      let e := pteOf (s.deckWord a)
      if !e.v then (.fault 1, [a])
      else if e.malformed instr l b then (.fault 2, [a])
      else if e.leaf then
        if e.mig then (.fault 3, [a])
        else if wr && !e.w then (.fault 4, [a])
        else (.ok e.aper (e.pa + va % 2 ^ b), [a])
      else
        let x := s.walkFrom instr wr va r e.pa
        (x.1, a :: x.2)

/-- A walk of a virtual address from its root (10 R273). -/
def State.walk (s : State) (root : Nat) (instr wr : Bool) (va : Nat) : Walk × List Nat := s.walkFrom instr wr va walkLevels root

/-! ### Translation buffers (10 R274, 09 R245) -/

/-- The page size of a leaf, as a power of two, by the entries its walk read (10 R273). -/
def leafBits (reads : List Nat) : Nat := 48 - 9 * reads.length

/-- A walk for an entry that references its page goes on through a leaf marked as migrating (10 R276). `held` tells which pages, by first address
and size, the entry references. -/
def State.heldWalk (s : State) (wr : Bool) (held : Nat → Nat → Bool) (va : Nat) (w : Walk × List Nat) : Walk × List Nat :=
  match w.1, w.2.getLast? with
  | .fault 3, some a =>
    let e := pteOf (s.deckWord a)
    let n := 2 ^ leafBits w.2
    if held (va / n * n) n then (if wr && !e.w then .fault 4 else .ok e.aper (e.pa + va % n), w.2) else w
  | _, _ => w

/-- Whether a buffered translation serves an access: the words it was derived from still stand, since a change of one invalidates it (10
R274). -/
def XlateEntry.serves (x : XlateEntry) (s : State) (k : XlateKey) (wr : Bool) (va : Nat) : Bool :=
  decide (x.key = k) && va / 2 ^ x.bits * 2 ^ x.bits == x.page && (x.w || !wr) && x.words.all fun p => s.deckWord p.1 == p.2

/-- A translation: its walk, the table entries read for it, what it leaves in the buffer. -/
structure Xlated where
  walk : Walk
  reads : List Nat
  fills : List XlateEntry

/-- A virtual address translated through the buffer, or by a walk from a root where the buffer has no translation (10 R273, R274). `held`
tells the pages that the entry which makes the access references already (10 R276). -/
def State.translate (s : State) (k : XlateKey) (root : Nat) (wr : Bool) (held : Nat → Nat → Bool) (va : Nat) : Xlated :=
  match s.xlate.find? fun x => x.serves s k wr va with
  | some x => ⟨.ok x.aper (x.pa + va % 2 ^ x.bits), [], []⟩
  | none =>
    let w0 := s.walk root k.seg.isNone wr va
    let w := s.heldWalk wr held va w0
    ⟨w.1, w.2, match w.1, w.2.getLast? with
      | .ok .., some a =>
        let e := pteOf (s.deckWord a)
        let b := leafBits w.2
        if e.mig then [] else [⟨k, va / 2 ^ b * 2 ^ b, b, e.aper, e.pa, e.w, w.2.map fun a => (a, s.deckWord a)⟩]
      | _, _ => []⟩

/-- Translations that a buffer holds: 512 of an async-copy engine (10 R274), 32 of an overlay engine (09 R245). -/
def XlateKey.room (k : XlateKey) : Nat := if k.seg.isNone then 32 else 512

/-- Whether two keys name one region's buffer. -/
def XlateKey.together (a b : XlateKey) : Bool := a.site == b.site && a.region == b.region && a.seg.isNone == b.seg.isNone

/-- A translation put into its buffer; a full buffer loses its oldest (log 59). -/
def State.fill1 (s : State) (x : XlateEntry) : State :=
  let l := s.xlate.filter fun y => !(decide (y.key = x.key) && y.page == x.page)
  let mine (y : XlateEntry) : Bool := y.key.together x.key
  let l := if x.key.room ≤ (l.filter mine).length then l.eraseP mine else l
  { s with xlate := l ++ [x] }

/-- Translations put into their buffers. -/
def State.fill (s : State) (xs : List XlateEntry) : State := xs.foldl State.fill1 s

/-! ### Segments of a launch (10 R270 to R275) -/

/-- Where an access of a segment lands: deck memory, host memory on a port, or why it does not (10 R272 to R275). -/
inductive Place where
  | deck (pa : Nat)
  | host (port bus : Nat)
  | fault (cause : Nat)
  | hole
  deriving DecidableEq, Repr

/-- The place of an address of a segment, with the translation it took. -/
def State.place (s : State) (k : XlateKey) (e : SegEntry) (wr : Bool) (held : Nat → Nat → Bool) (a : Nat) : Place × Xlated :=
  let deck (pa : Nat) : Place := if s.hole pa then .hole else .deck pa
  if e.paged then
    let x := s.translate k e.root wr held a
    (match x.walk with
      | .ok 0 pa => deck pa
      | .ok _ pa => .host e.port pa
      | .fault c => .fault c
      | .hole => .hole, x)
  else (if e.aper = 0 then deck a else .host e.port a, ⟨.ok e.aper a, [], []⟩)

/-! ### Segments of an overlaid binary (09 R245, R246) -/

/-- A segment read through the instruction space: bundles, their frames, the table entries read, what the buffer gains, and the first
address whose translation fails, with the cause of R273. -/
structure SegFetch where
  bundles : List Bundle
  frames : List Nat
  walks : List Nat
  fills : List XlateEntry
  bad : Option (Nat × Nat)

/-- Bundles read at virtual addresses of the instruction space, up to the first that has no translation; a hole counts as not valid (09 R245,
R246; log 18). -/
def State.fetchFrom (s : State) (k : XlateKey) (root : Nat) : List Nat → SegFetch
  | [] => ⟨[], [], [], [], none⟩
  | va :: r =>
    let x := s.translate k root false (fun _ _ => false) va
    let stop (c : Nat) : SegFetch := ⟨[], [], x.reads, x.fills, some (c, va)⟩
    match x.walk with
    | .ok _ pa =>
      if s.hole pa then stop 1
      else
        let y := s.fetchFrom k root r
        ⟨BitVec.ofNat 256 (memNat s.mem pa 32) :: y.bundles, pa :: y.frames, x.reads ++ y.walks, x.fills ++ y.fills, y.bad⟩
    | .fault c => stop c
    | .hole => stop 1

/-- A segment of a launch's overlay table read by the overlay engine of a region; one the table lacks has no bundle (09 R245). -/
def State.fetch (s : State) (c : Company) (site : SiteId) (q : Fin 4) (seg : Nat) : SegFetch :=
  s.fetchFrom ⟨site, q, c.num, none⟩ c.info.ovRoot
    ((c.info.ovTab[seg]?).elim [] fun e => (List.range e.2).map fun i => e.1 + 32 * i)

/-! ### Page-fault requests (11 R303, 14 R340) -/

/-- Whether a request of an index is kept for the host: it stands, or is among the last 256 (14 R340). -/
def PfReq.kept (next : W32) (r : PfReq) : Bool := r.live || decide ((next - r.idx).toNat ≤ 256)

/-- A page fault reported: a request, written in the ring at once when site S is there, else when it returns (11 R303, 13 R336). -/
def State.reportFault (s : State) (r : PfReq) : State :=
  let next := s.pfNext + 1
  { s with
    pfNext := next
    pfHead := if s.serviceUp then next else s.pfHead
    pfReqs := (s.pfReqs ++ [{ r with idx := s.pfNext, cue := s.cue, live := true }]).filter (PfReq.kept next) }

/-- A request that no longer stands. -/
def State.closeReq (s : State) (i : W32) : State :=
  { s with pfReqs := s.pfReqs.map fun r => if r.idx = i then { r with live := false } else r }

/-- Every request of a company closed. -/
def State.closeReqs (s : State) (co : Nat) : State :=
  { s with pfReqs := s.pfReqs.map fun r => if r.co = co then { r with live := false } else r }

/-- A translation fault of a segment met while the instruction memory of a tile is rewritten, reported once (09 R255). -/
def State.rewriteFault (s : State) (c : Company) (k : TileKey) (seg : Nat) (f : Nat × Nat) : State :=
  if s.pfReqs.any fun r => r.live && r.co == c.num && decide (r.kind = .rewrite) then s
  else s.reportFault ⟨0, c.num, seg, f.1, f.2, 0, s.cue, k, .rewrite, true⟩

/-- The bundles a segment of a gang's binary holds; of two sections with its number the first (03 R92, log 69). -/
def GangBin.segment (b : GangBin) (seg : Nat) : List Bundle := ((b.segs.find? fun p => p.1.toNat == seg).map (·.2)).getD []

/-! ### Instruction memory written again (09 R250, R255) -/

/-- The half that is not current. -/
def otherHalf (x : Fin 2) : Fin 2 := if x = 0 then 1 else 0

/-- A fetched segment in the idle half of a tile (09 R245). -/
def Tile.fetched (t : Tile) (seg : BitVec 16) (bs : List Bundle) : Tile :=
  let o := otherHalf t.st.half
  { t with
    imem := t.imem.set o bs
    st := { t.st with segs := t.st.segs.set o seg, ovl := t.st.ovl.map fun x => { x with done := true } } }

/-- The segments a rewrite of an overlaid binary's tile reads: those of its halves, then the one its outstanding MARK.OV asked for (09
R255). -/
def Tile.rewriteSegs (t : Tile) : List Nat :=
  [t.st.segs[0].toNat, t.st.segs[1].toNat] ++ match t.st.ovl with
    | some o => if o.done then [] else [o.seg.toNat]
    | none => []

/-- A tile whose instruction memory is written again: from the binary, or through the instruction space for an overlaid one, an outstanding
fetch completed with it (09 R255). -/
def State.rewritten (s : State) (c : Company) (g : Gang) (t : Tile) : Tile :=
  if c.info.overlaid then
    let f (n : Nat) : List Bundle := (s.fetch c t.site t.region n).bundles
    let u := { t with imem := #v[f t.st.segs[0].toNat, f t.st.segs[1].toNat] }
    match t.st.ovl with
    | some o => if o.done then u else u.fetched o.seg (f o.seg.toNat)
    | none => u
  else { t with imem := #v[g.bin.segment 0, []] }

end Sys2Proof.Machine
end

