-- ==== Sys2Proof/Machine/Cast.lean ====
section
/-! DEFINITION. The cast words (08 R221 to R231) and their changes of the cast state as they land. -/
namespace Sys2Proof.Machine

/-- A source of the f slot. -/
def Here.fsrc (h : Here) (a : Sel) : Vec := h.getV .f a

/-- u ranks before v; entries are (weight, id) (08 R222). -/
def ranks (u v : W32 × W32) : Bool := ltU v.1 u.1 || (u.1 == v.1 && ltU u.2 v.2)

/-- An entry put at its place in rank order. -/
def insertRank (u : W32 × W32) : List (W32 × W32) → List (W32 × W32)
  | [] => [u]
  | v :: r => if ranks u v then u :: v :: r else v :: insertRank u r

/-- The longest list kept: 0 or above 64 means 64 (08 R221). -/
def CastState.limit (c : CastState) : Nat := if c.kmax.toNat = 0 ∨ 64 < c.kmax.toNat then 64 else c.kmax.toNat

/-- A candidate taken: weight 0, an id in the list, an id of a lower lane are dropped (08 R222); the list is cut at the end. -/
def takeCand (l : List (W32 × W32)) (u : W32 × W32) : List (W32 × W32) :=
  if u.1 == 0 || l.any (fun v => v.2 == u.2) then l else insertRank u l

/-- Candidates of a merge, in lane order (08 R222); the list is cut to the KMAX that stands when the merge lands (DESIGN CHOICE, log 81). -/
def CastState.merge (c : CastState) (cands : List (W32 × W32)) : CastState :=
  { c with list := (cands.foldl takeCand c.list).take c.limit }

/-- The sum of weights. -/
def sumWeights (l : List (W32 × W32)) : Nat := l.foldl (fun s u => s + u.1.toNat) 0

/-- TOPK.p: entry j stays if j < KMIN or C_j × 2^32 < P × M (08 R228). -/
def CastState.topp (c : CastState) (p : W32) (kmin : Nat) : CastState :=
  let m := sumWeights c.list
  { c with list := ((c.list.zipIdx.filter fun x =>
      decide (x.2 < kmin) || decide (sumWeights (c.list.take x.2) * 2 ^ 32 < p.toNat * m)).map (·.1)) }

/-- The draw of R224 with index d. -/
def CastState.draw (c : CastState) (d : W32) : Nat × Nat × Nat × Nat := philox c.key (c.seq.toNat, c.pos.toNat, d.toNat, c.stream.toNat)

/-- weight(x) of R227; FTZ is ignored. -/
def castWeight (x : W32) : W32 :=
  let y := rnd32 (Val.mul (fpDecode fp32 x.toNat) (fpDecode fp32 0x3fb8aa3b))
  match y with
  | .nan => 0
  | .inf s => if s then 0 else 0xffffffff
  | .fin s m e =>
    if !s || m == 0 then 0xffffffff
    else if Val.lt y (.fin true 40 0) then 0
    else
      let x := floorScaled s m e 22
      let n := x / 2 ^ 22
      let f := (x % 2 ^ 22).toNat
      let r := f % 2 ^ 14
      let p := 2 ^ 30 + 744261118 * r / 2 ^ 22 + 257941248 * r * r / 2 ^ 44
      let q := tableT.getD (f / 2 ^ 14) 0 * p / 2 ^ 30
      let k := n + 2
      BitVec.ofNat 32 (min 0xffffffff (if 0 ≤ k then q * 2 ^ k.toNat else q / 2 ^ (-k).toNat))

/-- A result of a cast word: lanes as given, in the register and the f latch. -/
def castRes (h : Here) (lat : Nat) (r : Dst) (v : Vec) : TState := h.st.resV .f h.cue lat r v allLanes

/-- CAST.KEY (08 R225). -/
def execCastKey (a b : Sel) (s : State) : Host.Outcome State Fault Refusal :=
  word (fun h =>
    let x := h.fsrc a
    let y := h.fsrc b
    .ok (h.st.fly1 h.cue 1 (.castKey h.co.info.seed (lane x 0) (lane x 1) ((lane x 2).setWidth 7) ((lane y 0).setWidth 24) (lane y 1)))) s

/-- CAST.RAND (08 R226). -/
def execCastRand (r : Dst) (a : Sel) (s : State) : Host.Outcome State Fault Refusal :=
  word (fun h =>
    let o := h.st.cast.draw (lane (h.fsrc a) 0)
    .ok (castRes h 10 r (twoLanes (BitVec.ofNat 32 o.1) (BitVec.ofNat 32 o.2.1)))) s

/-- CAST.UNIF: the FP32 value (o0 >> 8) × 2^−24, exact (08 R226). -/
def execCastUnif (r : Dst) (a : Sel) (s : State) : Host.Outcome State Fault Refusal :=
  word (fun h =>
    let o := h.st.cast.draw (lane (h.fsrc a) 0)
    .ok (castRes h 12 r (twoLanes (BitVec.ofNat 32 (rne32 (.fin false (o.1 / 256) (-24)))) 0))) s

/-- CAST.SCORE (08 R227). -/
def execCastScore (r : Dst) (a : Sel) (s : State) : Host.Outcome State Fault Refusal :=
  word (fun h =>
    let x := h.fsrc a
    let cands := (List.range 64).map fun i => (castWeight (lane x i), h.st.cast.tbase + BitVec.ofNat 32 i)
    let st := { h with t := { h.t with st := (h.st.fly1 h.cue 1 .castTbase).fly1 h.cue 8 (.castMerge cands) } }
    .ok (castRes st 8 r (inLow (BitVec.ofNat 64 (sumWeights cands))))) s

/-- CAST.TOPK.k merges 64 candidates (08 R228). -/
def execCastTopkK (a b : Sel) (s : State) : Host.Outcome State Fault Refusal :=
  word (fun h =>
    let x := h.fsrc a
    let y := h.fsrc b
    .ok (h.st.fly1 h.cue 4 (.castMerge ((List.range 64).map fun i => (lane x i, lane y i))))) s

/-- CAST.TOPK.p truncates the list (08 R228). -/
def execCastTopkP (a b : Sel) (s : State) : Host.Outcome State Fault Refusal :=
  word (fun h =>
    let k := (lane (h.fsrc b) 0).toNat % 128
    .ok (h.st.fly1 h.cue 4 (.castTopp (lane (h.fsrc a) 0) (if k = 0 ∨ 64 < k then 1 else k)))) s

/-- CAST.MASS sums the list as it stands at issue (08 R223, R229). -/
def execCastMass (r : Dst) (s : State) : Host.Outcome State Fault Refusal :=
  word (fun h =>
    let m : W64 := BitVec.ofNat 64 (sumWeights h.st.cast.list)
    .ok ((castRes h 6 r (inLow m)).fly1 h.cue 6 (.castMass m))) s

/-- The list in ascending id order. -/
def byId (l : List (W32 × W32)) : List (W32 × W32) :=
  l.foldl (fun acc u => acc.takeWhile (fun v => ltU v.2 u.2) ++ u :: acc.dropWhile (fun v => ltU v.2 u.2)) []

/-- The walk of a draw: the entry whose inclusive sum exceeds u, with its position (08 R230). -/
def walkPick (u : Nat) : List (W32 × W32) → Nat → Nat → W32 × W32
  | [], _, _ => (0xffffffff, 64)
  | x :: r, sum, k => if u < sum + x.1.toNat then (x.2, BitVec.ofNat 32 k) else walkPick u r (sum + x.1.toNat) (k + 1)

/-- The result of CAST.PICK (08 R230). -/
def CastState.pick (c : CastState) (a : Vec) : W32 × W32 :=
  if (lane a 1).getLsbD 0 then
    match c.list[(lane a 0).toNat % 64]? with
    | some u => u
    | none => (0, 0xffffffff)
  else
    let o := c.draw (lane a 0)
    let m := sumWeights c.list
    if m = 0 then (0xffffffff, 64) else walkPick (m * (o.2.1 * 2 ^ 32 + o.1) / 2 ^ 64) (byId c.list) 0 0

/-- CAST.PICK (08 R230). -/
def execCastPick (r : Dst) (a : Sel) (s : State) : Host.Outcome State Fault Refusal :=
  word (fun h =>
    let p := h.st.cast.pick (h.fsrc a)
    .ok ((castRes h 12 r (twoLanes p.1 p.2)).fly1 h.cue 12 (.castLast (p.2 ++ p.1)))) s

/-- CAST.CLR (08 R231). -/
def execCastClr (s : State) : Host.Outcome State Fault Refusal := word (fun h => .ok (h.st.fly1 h.cue 1 .castClr)) s

end Sys2Proof.Machine
end

