-- ==== Sys2Proof/Machine/Fabric.lean ====
section
/-! DEFINITION. Hops, crossings and what BANDQ reads (08 R207 to R220; 12 R309, R310, R319). -/
namespace Sys2Proof.Machine

/-- A side's number: 0 n, 1 e, 2 s, 3 w (03 R87). -/
def sideNo : Side → Fin 4
  | .n => 0
  | .e => 1
  | .s => 2
  | .w => 3

/-- The facing side. -/
def facing : Side → Side
  | .n => .s
  | .e => .w
  | .s => .n
  | .w => .e

/-- The sides, in order. -/
def allSides : List Side := [.n, .e, .s, .w]

/-- The next tile of the gang's rectangle on a side; none at its edge (09 R234). -/
def gangNext (g : Gang) (k : TileKey) : Side → Option TileKey
  | .n => if k.row = 0 then none else some { k with row := k.row - 1 }
  | .s => if k.row + 1 < g.bin.rows then some { k with row := k.row + 1 } else none
  | .w => if k.col = 0 then none else some { k with col := k.col - 1 }
  | .e => if k.col + 1 < g.bin.cols then some { k with col := k.col + 1 } else none

/-- The region of a grid position (09 R234). -/
def gridRegion (r c : Nat) : Fin 4 := if r < 16 then (if c < 16 then 0 else 1) else if c < 16 then 3 else 2

/-- The region of a tile of a gang by its place. -/
def Gang.regionOf (g : Gang) (k : TileKey) : Fin 4 := gridRegion (g.row0 + k.row) (g.col0 + k.col)

/-- The tile in whose buffer a beat sent on a side lands: the next logical tile of the same region and gang (08 R212). -/
def hopNext (g : Gang) (k : TileKey) (d : Side) : Option TileKey :=
  (gangNext g k d).filter fun n => g.regionOf n = g.regionOf k

/-- The link of a side is free from beat c on (08 R211). -/
def claimInfo (d : Side) : W64 := BitVec.ofNat 64 (8 * 2 ^ 40 + (sideNo d).val)

/-- A claim of `n` beats of a hop link from cue c, or BOUNDS with reason 8 (08 R211). -/
def Here.claimHop (h : Here) (d : Side) (n : Nat) (k : TState → Res) : Res :=
  if h.cue < h.st.hopBusy[sideNo d] then .trap cBOUNDS (claimInfo d)
  else k { h.st with hopBusy := h.st.hopBusy.set (sideNo d) (h.cue + n) }

/-- Beats of a word. -/
def beatsOf (vec : Bool) : Nat := if vec then 8 else 1

/-- HOP (08 R210): the value is read at issue. -/
def execHop (a : Sel) (side : Side) (w : Bool) (s : State) : Host.Outcome State Fault Refusal :=
  word (fun h => h.claimHop side (beatsOf w) fun st =>
    let v := if w then h.getV .f a else inLow (h.get64 .f a)
    .ok { st with wires := st.wires ++ (List.range (beatsOf w)).map fun b =>
      ⟨h.cue + b, side, w, b, .val (v.extractLsb' (256 * b) 256)⟩ }) s

/-- HOP pass (08 R211): each beat is what the buffer holds in the beat's cycle. -/
def execHopPass (side : Side) (w : Bool) (fr : Side) (s : State) : Host.Outcome State Fault Refusal :=
  word (fun h => h.claimHop side (beatsOf w) fun st =>
    .ok { st with wires := st.wires ++ (List.range (beatsOf w)).map fun b => ⟨h.cue + b, side, w, b, .pass fr⟩ }) s

/-- The beats a pass sends in cue c, read from the buffers as they stand (08 R211). -/
def TState.latchPasses (st : TState) (c : Nat) : TState :=
  { st with wires := st.wires.map fun b =>
      match b.src with
      | .pass f =>
        if b.sent = c then
          { b with src := .val (if b.vec then (st.bufV[sideNo f]).extractLsb' (256 * b.beat) 256 else (st.bufS[sideNo f]).setWidth 256) }
        else b
      | .val _ => b }

/-- A beat landed in the buffer of a side (08 R209, R210). -/
def TState.landBeat (st : TState) (d : Side) (b : HopBeat) : TState :=
  match b.src with
  | .pass _ => st
  | .val v =>
    if b.vec then
      let old := st.bufV[sideNo d]
      { st with bufV := st.bufV.set (sideNo d) (ofLanes fun i =>
          if i / 8 = b.beat then v.extractLsb' (32 * (i % 8)) 32 else lane old i) }
    else { st with bufS := st.bufS.set (sideNo d) (v.setWidth 64) }

/-- A word received: register and latch one cycle on (08 R213, R216). -/
def TState.receive (st : TState) (c : Nat) (r : Dst) (w : Bool) (v : Vec) : TState :=
  if w then st.resV .f c 1 r v allLanes else st.resF c 1 r (low64 v)

/-- RECV (08 R213). -/
def execRecv (r : Dst) (side : Side) (w : Bool) (s : State) : Host.Outcome State Fault Refusal :=
  word (fun h =>
    .ok (h.st.receive h.cue r w (if w then h.st.bufV[sideNo side] else inLow h.st.bufS[sideNo side]))) s

/-! ### Crossings (08 R214, 12 R309, R310, R319) -/

/-- An entry of the band table (12 R310): KIND, DEPTH, MIN, MAX. -/
structure Band where
  kind : Nat
  depth : Nat
  lo : Nat
  hi : Nat
  deriving DecidableEq, Repr

/-- The entry of an index of the band table (12 R310). -/
def bandEntry : Nat → Band
  | 0 | 1 | 2 | 3 => ⟨1, 16, 6, 9⟩
  | 8 => ⟨2, 16, 40, 52⟩
  | 9 => ⟨2, 16, 76, 92⟩
  | 10 => ⟨2, 16, 112, 132⟩
  | _ => ⟨0, 0, 0, 0⟩

/-- A band word with OFS (08 R217, 12 R310). -/
def Band.word (b : Band) (ofs : BitVec 8) : W64 :=
  BitVec.ofNat 64 (b.kind * 2 ^ 56 + b.depth * 2 ^ 48 + ofs.toNat * 2 ^ 40 + b.hi * 2 ^ 16 + b.lo)

/-- A crossing of a side: its band, the facing tile and side, whether its circuit stands, whether it was torn down in this very cycle (12 R310,
R319, R320). -/
structure Crossing where
  band : Band
  peer : TileKey
  peerSide : Side
  up : Bool
  torn : Bool
  deriving DecidableEq, Repr

/-- The band of a circuit by its link count (12 R310). -/
def circuitBand (n : Nat) : Band := bandEntry (7 + n)

/-- The facing tile and side across a stitch: the next tile of the gang, in another region (12 R309). -/
def stitchNext (g : Gang) (k : TileKey) (d : Side) : Option (TileKey × Side) :=
  ((gangNext g k d).filter fun n => g.regionOf n ≠ g.regionOf k).map fun n => (n, facing d)

/-- The crossing of a tile's side: a stitch to the next tile of the gang in another region, or the company's deck circuit (08 R214). -/
def State.crossing (s : State) (g : Gang) (k : TileKey) (d : Side) : Option Crossing :=
  if (gangNext g k d).isSome then
    ((stitchNext g k d).filter fun n => s.railLive g.site (g.regionOf k) && s.railLive g.site (g.regionOf n.1)).map fun n =>
      ⟨bandEntry 0, n.1, n.2, true, false⟩
  else
    (s.circuits.find? fun c => c.co == k.co && (c.a == (k, d) || c.b == (k, d))).map fun c =>
      let e := if c.a == (k, d) then c.b else c.a
      ⟨circuitBand c.route.length, e.1, e.2, c.up, c.tornAt == some s.cue⟩

/-- LOST of a side counts n more words (08 R217). -/
def Tile.addLost (t : Tile) (d : Side) (n : Nat) : Tile :=
  let x := t.status[sideNo d]
  { t with
    status := t.status.set (sideNo d) { x with lost := BitVec.ofNat 16 (min 0xffff (x.lost.toNat + n)) }
    pend := { t.pend with routeLost := true } }

/-- An underrun of a channel (08 R216). -/
def Tile.addUnder (t : Tile) (d : Side) (ch : Fin 8) : Tile :=
  let x := t.status[sideNo d]
  { t with
    status := t.status.set (sideNo d) { x with under := x.under ||| (1#8 <<< ch.val) }
    pend := { t.pend with routeLost := true } }

/-- An overrun of a channel (08 R215). -/
def Tile.addOver (t : Tile) (d : Side) (ch : Fin 8) : Tile :=
  let x := t.status[sideNo d]
  ({ t with status := t.status.set (sideNo d) { x with overrun := x.overrun ||| (1#8 <<< ch.val) } }).addLost d 1

/-- Words lost on a channel as a circuit is torn down (12 R319). -/
def Tile.addTorn (t : Tile) (d : Side) (ch : Fin 8) : Tile :=
  let x := t.status[sideNo d]
  ({ t with status := t.status.set (sideNo d) { x with torn := x.torn ||| (1#8 <<< ch.val) } }).addLost d 1

/-- XSEND (08 R215): the claim; a word without a usable crossing is discarded, counted in LOST only while its circuit is down, and in the cycle
of the tear-down lost and marked at both ends (12 R319, R320); else the arrival is drawn within the band, in send order (log 5). -/
def execXsend (a : Sel) (side : Side) (w : Bool) (ch : Fin 8) (s : State) : Host.Outcome State Fault Refusal :=
  word (fun h =>
    if h.cue < h.st.xBusy[sideNo side] then .trap cBOUNDS (claimInfo side)
    else
      let st := { h.st with xBusy := h.st.xBusy.set (sideNo side) (h.cue + beatsOf w) }
      match h.s.crossing h.gang h.t.key side with
      | none => .ok st
      | some x =>
        if !x.up then
          if x.torn then
            let s := h.s.setTile ({ h.t with st := st }.addTorn side ch)
            .all ((s.tileAt x.peer).elim s fun u => s.setTile (u.addTorn x.peerSide ch))
          else .tile ({ h.t with st := st }.addLost side 1) 0
        else
          let v := if w then h.getV .f a else inLow (h.get64 .f a)
          let lastBeat := h.cue + beatsOf w - 1
          let lo := max (lastBeat + x.band.lo) st.xLast[sideNo side]
          let arrive := lo + Config.freeNat h.s.free % (lastBeat + x.band.hi - lo + 1)
          .tile { h.t with st := { st with
            xLast := st.xLast.set (sideNo side) arrive
            xwords := st.xwords ++ [⟨side, ch, w, v, h.cue, arrive, lastBeat + x.band.lo⟩] } } 1) s

/-- The FIFO of a channel of a side. -/
def fifoIdx (d : Side) (ch : Fin 8) : Fin 32 := ⟨8 * (sideNo d).val + ch.val, by omega⟩

/-- XRECV (08 R216). -/
def execXrecv (r : Dst) (side : Side) (w : Bool) (ch : Fin 8) (s : State) : Host.Outcome State Fault Refusal :=
  word (fun h =>
    match h.st.fifo[fifoIdx side ch] with
    | [] => .tile ({ h.t with st := h.st.receive h.cue r w 0 }.addUnder side ch) 0
    | x :: rest => .ok ({ h.st with fifo := h.st.fifo.set (fifoIdx side ch) rest }.receive h.cue r w (if x.vec then x.v else inLow (low64 x.v)))) s

/-- A word enters its FIFO, or overruns it (08 R215). -/
def Tile.xEnter (t : Tile) (d : Side) (x : XWord) : Tile :=
  let i := fifoIdx d x.ch
  if 16 ≤ (t.st.fifo[i]).length then t.addOver d x.ch
  else { t with st := { t.st with fifo := t.st.fifo.set i (t.st.fifo[i] ++ [⟨x.vec, x.v⟩]) } }

/-! ### Words captured in the receivers' replay buffers (08 R209, R219) -/

/-- The words in crossings that stand, each with the tile and side that it goes to. -/
def State.wordsIn (s : State) (c : Company) (t : Tile) : List ((TileKey × Side) × XWord) :=
  t.st.xwords.filterMap fun x => ((c.gangAt t.key.gang).bind fun g => s.crossing g t.key x.side).bind fun y =>
    if y.up then some ((y.peer, y.peerSide), x) else none

/-- A tile as an image captures it: the words in the crossings that end at it stand in its replay buffer, and no longer in their crossings (08
R219). -/
def State.drained (s : State) (c : Company) (t : Tile) : TState :=
  let mine := ((s.tilesOf c.num).flatMap (s.wordsIn c)).filterMap fun w => if w.1.1 = t.key then some (w.1.2, w.2) else none
  { t.st with
    replay := t.st.replay ++ mine
    xwords := t.st.xwords.filter fun x => !((s.wordsIn c t).any fun w => decide (w.2 = x)) }

/-! ### BANDQ and CUETRIM (08 R217, R218) -/

/-- The band word of a side. -/
def Here.bandWord (h : Here) (d : Side) : W64 :=
  match h.s.crossing h.gang h.t.key d with
  | none => 0
  | some x =>
    if !x.up then 0
    else x.band.word h.t.ofs[sideNo d]

/-- The word BANDQ reads (08 R217). -/
def Here.bandq (h : Here) (i : Nat) : W64 :=
  match i with
  | 0 => h.bandWord .n
  | 1 => h.bandWord .e
  | 2 => h.bandWord .s
  | 3 => h.bandWord .w
  | 4 => (h.t.status[0]).image
  | 5 => (h.t.status[1]).image
  | 6 => (h.t.status[2]).image
  | 7 => (h.t.status[3]).image
  | 8 =>
    let r := (h.s.sites[h.t.site]).regions[h.t.region]
    BitVec.ofNat 64 (r.trimGen.toNat * 2 ^ 32 + r.lastCorr.toNat)
  | _ => 0

/-- BANDQ (08 R217). -/
def execBandq (r : Dst) (a : Sel) (s : State) : Host.Outcome State Fault Refusal :=
  word (fun h => .ok (h.st.resF h.cue 2 r (h.bandq ((h.get64 .f a).toNat % 256)))) s

/-- CUETRIM asks the region for one trim exchange, at its counter's next multiple of 4,096 (08 R218, 12 R315). -/
def execCuetrim (s : State) : Host.Outcome State Fault Refusal :=
  match s.here with
  | none => .fault .noTile
  | some h => .next (s.askTrim h.t.site h.t.region (s.nextMultiple h.t.site h.t.region 4096))

end Sys2Proof.Machine
end

