-- ==== Sys2Proof/Machine/Matrix.lean ====
section
/-! DEFINITION. The matrix words (06 R155 to R174), and their changes of the array state when they land. -/
namespace Sys2Proof.Machine

/-- A source of the m slot. -/
def Here.msrc (h : Here) (a : Sel) : Vec := h.getV .m a

/-- A change of the array that lands `lat` cycles on (06 R156). -/
def marray (lat : Nat) (f : Here → Eff) (s : State) : Host.Outcome State Fault Refusal :=
  word (fun h => .ok (h.st.fly1 h.cue lat (f h))) s

/-! ### The B plane (06 R159 to R163) -/

/-- MLOADB.W: BOUNDS, then WREFRESH, then the plane lands (06 R159); a weight store known bad ends the launch (11 R299). -/
def execMloadbW (a : Sel) (s : State) : Host.Outcome State Fault Refusal :=
  word (fun h =>
    let o := (lane (h.msrc a) 0).toNat
    let c := h.cue % Config.refreshPeriod
    if o % 4096 ≠ 0 ∨ 0x1f000 < o then .trap cBOUNDS (BitVec.ofNat 64 o)
    else if c % 512 < 64 then .trap cWREFRESH (BitVec.ofNat 64 (c / 512 * 2 ^ 16 + c))
    else if h.s.weightBad.contains (h.s.weightBase h.t) then .fatal cECC (BitVec.ofNat 64 o) 6
    else .ok (h.st.fly1 h.cue 6 (.plane o))) s

/-- MLOADB.S (06 R160). -/
def execMloadbS (row : Fin 32) (a : Sel) (s : State) : Host.Outcome State Fault Refusal := marray 6 (fun h => .planeRow row (h.msrc a)) s

/-- The plane width PW′ (06 R163). -/
def ArrayState.planeWidth (x : ArrayState) : Nat := if x.syn then (if x.pw = .w8 then 24 else 16) else widthBits x.pw

/-- Sub-blocks of the plane (06 R163). -/
def ArrayState.nsb (x : ArrayState) : Nat := 1024 / x.planeWidth

/-- The image of column `n` of the plane as a number of 32,768 bits: the last MLOADB.W's bytes, the rows MLOADB.S wrote over them (06
R159, R160, R173). `wbase` is where the tile's weight store begins. -/
def ArrayState.column (x : ArrayState) (weights : Memory) (wbase n : Nat) : Nat :=
  let base := match x.planeBase with
    | none => 0
    | some o => memSpan weights (wbase + n * 0x20000 + o) 4096
  let low := (List.finRange 32).foldr (fun r acc =>
    (match x.planeRows[r] with
      | some v => (v.extractLsb' (64 * n) 64).toNat
      | none => base / 2 ^ (64 * r.val) % 2 ^ 64) + 2 ^ 64 * acc) 0
  low + base / 2 ^ 2048 * 2 ^ 2048

/-- A signed field of a column image, its bit address taken in the ring of 32,768 bits (06 R161). -/
def columnElem (col bit w : Nat) : Int :=
  let b := bit % 32768
  sextNat w ((col / 2 ^ b) + (if b + w ≤ 32768 then 0 else col * 2 ^ (32768 - b)))

/-- MSHIFT (06 R161). -/
def execMshift (b : BitVec 6) (s : State) : Host.Outcome State Fault Refusal := marray 1 (fun _ => .mshift b.toNat) s

/-- MSCALE (06 R162). -/
def execMscale (a : Sel) (s : State) : Host.Outcome State Fault Refusal := marray 1 (fun h => .mscale (h.msrc a)) s

/-- MMODE (06 R163). -/
def execMmode (syn sp : Bool) (pw : Width) (s : State) : Host.Outcome State Fault Refusal := marray 1 (fun _ => .mmode syn sp pw) s

/-- MSPARSE (06 R164). -/
def execMsparse (a : Sel) (s : State) : Host.Outcome State Fault Refusal := marray 1 (fun h => .msparse (h.msrc a)) s

/-! ### MPUSH (06 R165 to R167) -/

/-- Products of a beat (06 R165). -/
def gangS : Width → Width → Nat
  | .w4, .w4 => 8
  | .w4, .w6 | .w6, .w4 => 5
  | .w4, .w8 | .w8, .w4 => 4
  | .w4, .w16 | .w16, .w4 => 2
  | .w6, .w6 => 3
  | .w6, .w8 | .w8, .w6 => 2
  | .w6, .w16 | .w16, .w6 => 1
  | .w8, .w8 => 2
  | .w8, .w16 | .w16, .w8 => 1
  | .w16, .w16 => 1

/-- elem(v, t, w) of R166. -/
def elemAt (v : Vec) (t w : Nat) : Int := sextNat w (v.toNat / 2 ^ (w * t))

/-- The metadata positions of a group (06 R164). -/
def metaPos (m : Vec) (g : Nat) : Nat × Nat := let x := m.toNat / 2 ^ (4 * g) % 16; (x % 4, x / 4)

/-- What a push reads of the array at issue, fixed for the word (06 R166). -/
structure PushView where
  arr : ArrayState
  cols : List Nat
  a : Vec
  ea : Nat
  eb : Nat
  step : Nat
  sparse : Bool

/-- The sub-block of place q of the window. -/
def PushView.g (v : PushView) (q : Nat) : Nat := (v.arr.cursor + q) % v.arr.nsb

/-- Its parity. -/
def PushView.par (v : PushView) (q : Nat) : Nat := v.g q / 8 % 2

/-- The A element of place (q, k). -/
def PushView.aElem (v : PushView) (q k : Nat) : Int :=
  let pos := 32 * q + k
  if !v.sparse then elemAt v.a pos v.ea
  else
    let m := metaPos v.arr.spMeta ((32 * v.g q + k) / 4 % 512)
    (if k % 4 = m.1 then elemAt v.a (2 * (pos / 4)) v.ea else 0) +
      (if k % 4 = m.2 then elemAt v.a (2 * (pos / 4) + 1) v.ea else 0)

/-- The A header of a parity, and the header of a column. -/
def PushView.ha (v : PushView) (par : Nat) : Nat := (lane v.a (63 - par)).toNat
def PushView.hb (v : PushView) (par cn : Nat) : Nat := (lane v.arr.hdr (32 * par + cn)).toNat

/-- The slices of a product (06 R167); the operands themselves for step 0. -/
def PushView.slices (v : PushView) (x y : Int) : Int × Int × Nat :=
  if v.step = 0 then (x, y, 0) else synSlices (v.arr.pw = .w8) v.step x y

/-- The sum a place q of the window adds to column cn. -/
def PushView.term (v : PushView) (q cn : Nat) : Int :=
  let j := v.g q % 8
  let par := v.par q
  let col := v.cols.getD cn 0
  let at0 := 32 * v.arr.planeWidth * v.g q
  (List.range 32).foldl (fun s k =>
    let p := v.slices (v.aElem q k) (columnElem col (at0 + v.eb * k) v.eb)
    s + p.1 * p.2.1) 0 * 2 ^ (6 - hdrShift (v.ha par) j - hdrShift (v.hb par cn) j)

/-- The change of one parity. -/
def PushView.delta (v : PushView) (n par : Nat) : PushDelta where
  par := ⟨par % 2, Nat.mod_lt _ (by decide)⟩
  dp := Vector.ofFn fun cn => (List.range n).foldl (fun s q => if v.par q = par then s + v.term q cn else s) 0
  ea := BitVec.ofNat 8 (v.ha par)
  eb := Vector.ofFn fun cn => BitVec.ofNat 8 (v.hb par cn)
  w := (v.slices 0 0).2.2

/-- MPUSH (06 R166): the parities touched, that of sub-block C first. -/
def execMpush (set : Fin 2) (row : Fin 32) (a : Sel) (wa wb : Width) (sp : Bool) (step : Fin 8) (s : State) :
    Host.Outcome State Fault Refusal :=
  marray 34 (fun h =>
    let x := h.st.arr
    let step := if x.syn then step.val else 0
    let sparse := sp && x.sparse
    let n := (if step ≠ 0 then 2 else gangS wa wb) * (if sparse then 2 else 1)
    let v : PushView := ⟨x, (List.range 32).map (x.column h.s.weights (h.s.weightBase h.t)), h.msrc a,
      if step = 0 then widthBits wa else x.planeWidth, if step = 0 then widthBits wb else x.planeWidth, step, sparse⟩
    .mpush set row ((((List.range n).map v.par).eraseDups).map (v.delta n))) s

/-- MACC folds the oldest open partial of its row (06 R168). -/
def execMacc (set : Fin 2) (row : Fin 32) (s : State) : Host.Outcome State Fault Refusal := marray 34 (fun _ => .macc set row true) s

/-- MACC.DROP clears the oldest open partial of its row (06 R168). -/
def execMaccDrop (set : Fin 2) (row : Fin 32) (s : State) : Host.Outcome State Fault Refusal := marray 34 (fun _ => .macc set row false) s

/-- MZERO (06 R169). -/
def execMzero (set : Fin 2) (s : State) : Host.Outcome State Fault Refusal := marray 1 (fun _ => .mzero set) s

/-! ### Reading results (06 R170, R171) -/

/-- Index of an accumulator row. -/
def rowIdx (set : Fin 2) (row : Fin 32) : Fin 64 := ⟨32 * set.val + row.val, by omega⟩

/-- The FP32 layout of a drain's format. -/
def drainFp : DrainFmt → FpFmt
  | .fp32 => fp32
  | .bf16 => bf16
  | .fp16 => fp16

/-- One column of a drain: its lane and whether it saturated (06 R170, 02 R67). -/
def drainLane (ftz nan : Bool) (f : DrainFmt) (c : Acc) : Nat × Bool :=
  let d := drain32 ftz nan c
  if f = .fp32 then d
  else if nan then ((drainFp f).nanEnc, d.2)
  else
    let t := fpEncode (drainFp f) .rne ftz 0 (fpRead fp32 ftz d.1)
    match fpDecode (drainFp f) t with
    | .inf neg => ((drainFp f).signBit neg + (drainFp f).maxEnc, true)
    | _ => (t, d.2)

/-- MDRAIN (06 R170). -/
def execMdrain (r : Dst) (set : Fin 2) (row : Fin 32) (f : DrainFmt) (s : State) : Host.Outcome State Fault Refusal :=
  word (fun h =>
    let i := rowIdx set row
    let nan := h.st.arr.nan.getLsbD i
    let ls := (h.st.arr.acc[i]).toList.map (drainLane h.ftz nan f)
    let sat := ls.any (·.2)
    let flags := nan.toNat * 2 + (h.st.arr.sat.getLsbD i || sat).toNat
    let v := ofLanes fun k => if k < 32 then BitVec.ofNat 32 ((ls.getD k (0, false)).1) else if k = 32 then BitVec.ofNat 32 flags else 0
    let st := h.st.resV .m h.cue 3 r v allLanes
    .ok (if sat then st.fly1 h.cue 3 (.satSet set row) else st)) s

/-- MFLAGS (06 R171). -/
def execMflags (r : Dst) (set : Fin 2) (s : State) : Host.Outcome State Fault Refusal :=
  word (fun h =>
    let w : W32 := ((h.st.arr.sat ||| h.st.arr.nan) >>> (32 * set.val)).setWidth 32
    .ok (h.st.resV .m h.cue 3 r (ofLanes fun k => if k = 0 then w else 0) allLanes)) s

/-! ### Changes as they land (06 R156, R166, R168, R169) -/

/-- Index of a partial. -/
def partIdx (set : Fin 2) (row : Fin 32) (par : Fin 2) : Fin 128 := ⟨2 * (32 * set.val + row.val) + par.val, by omega⟩

/-- An integer as 48-bit two's complement. -/
def wrap48 (x : Int) : Int := sextNat 48 (x % 2 ^ 48).toNat

/-- The change of one parity applied to its partial (06 R166). -/
def ArrayState.applyDelta (x : ArrayState) (set : Fin 2) (row : Fin 32) (d : PushDelta) : ArrayState :=
  let i := partIdx set row d.par
  let j := partIdx set row (if d.par = 0 then 1 else 0)
  let p := x.part[i]
  let other := x.part[j]
  let p' : Partial :=
    { p with
      p := p.p.zipWith (fun a b => wrap48 (a + b)) d.dp
      ea := d.ea
      eb := d.eb
      w := d.w
      pnan := p.pnan || d.ea == 0xff || d.eb.toList.any (· == 0xff)
      isOpen := true
      age := if p.isOpen then p.age else false }
  let ps := x.part.set i p'
  { x with part := if !p.isOpen && other.isOpen then ps.set j { other with age := true } else ps }

/-- The parity of the oldest open partial of a row (06 R168). -/
def ArrayState.oldest (x : ArrayState) (set : Fin 2) (row : Fin 32) : Option (Fin 2) :=
  let p := x.part[partIdx set row 0]
  let q := x.part[partIdx set row 1]
  if p.isOpen && q.isOpen then (if q.age then some 1 else some 0)
  else if p.isOpen then some 0
  else if q.isOpen then some 1
  else none

/-- MACC applied (06 R168). -/
def ArrayState.applyMacc (x : ArrayState) (set : Fin 2) (row : Fin 32) (fold : Bool) : ArrayState :=
  match x.oldest set row with
  | none => x
  | some par =>
    let i := partIdx set row par
    let p := x.part[i]
    let r := rowIdx set row
    let x' : ArrayState :=
      if !fold then x
      else if p.pnan then { x with nan := x.nan ||| (1#64 <<< r.val) }
      else { x with acc := x.acc.set r (Vector.ofFn fun cn =>
        foldAcc (x.acc[r])[cn] (p.p[cn], (p.ea.toNat : Int) + (p.eb[cn]).toNat - 260 + p.w)) }
    let ps := x'.part.set i { p with isOpen := false, pnan := false, p := Vector.replicate 32 0, age := false }
    let j := partIdx set row (if par = 0 then 1 else 0)
    { x' with part := ps.set j { x'.part[j] with age := false } }

/-- MZERO applied (06 R169). -/
def ArrayState.applyMzero (x : ArrayState) (set : Fin 2) : ArrayState :=
  let keep (i : Nat) : Bool := i / 32 != set.val
  let m : W64 := maskOf keep 64
  { x with
    acc := Vector.ofFn fun i : Fin 64 => if keep i then x.acc[i] else Vector.replicate 32 ⟨0, 0⟩
    sat := x.sat &&& m
    nan := x.nan &&& m
    part := Vector.ofFn fun i : Fin 128 => if keep (i.val / 2) then x.part[i] else Partial.launch }

end Sys2Proof.Machine
end

