-- ==== Sys2Proof/Machine/Landing.lean ====
section
/-! DEFINITION. What lands in a tile before its issue: results in flight (01 R13, R14), hop beats (08 R210, R212), crossing words (08
R215, 12 R311) and signals (04 R109). -/
namespace Sys2Proof.Machine

/-- A unit range given to an engine, POISON cleared (01 R31, 07 R180). -/
def TState.giveUnits (st : TState) (first n : Nat) (o : BitVec 4) : TState :=
  { st with own := (List.range n).foldl (fun w i => if h : first + i < 256 then w.set (first + i) (o.setWidth 8) else w) st.own }

/-- The array after MLOADB.W lands (06 R159). -/
def ArrayState.loadPlane (x : ArrayState) (off : Nat) : ArrayState :=
  { x with planeBase := some off, planeRows := Vector.replicate 32 none, cursor := 0 }

/-- One result landed (01 R13, R16, R18, R19; 05 R128; 06 R156; 08 R223). Writes of s0 and p0 are discarded. -/
def TState.landEff (st : TState) : Eff → TState
  | .sreg r v => if r = 0 then st else { st with s := st.s.set r v }
  | .pred p t => if p = 0 then st else { st with p := (st.p &&& ~~~(1#8 <<< p.val)) ||| (if t then 1#8 <<< p.val else 0) }
  | .vreg r v m => { st with v := st.v.set r (blend m st.v[r] v) }
  | .latS u b v => { st with latS := st.latS.set (latSIdx u b) v }
  | .latV u b v m => { st with latV := st.latV.set (latVIdx u b) (blend m st.latV[latVIdx u b] v) }
  | .push t => if st.mask.length < 8 then { st with mask := (st.active &&& t) :: st.mask } else st
  | .invm => match st.mask with
    | x :: y :: r => { st with mask := (y &&& ~~~x) :: y :: r }
    | _ => st
  | .popm => match st.mask with
    | _ :: y :: r => { st with mask := y :: r }
    | _ => st
  | .store cs => { st with spad := memPutAll st.spad cs }
  | .stage k v => { st with k := st.k.set k v }
  | .streamBase n v => { st with a := st.a.set n { st.a[n] with base := v } }
  | .streamDelta n j v => { st with a := st.a.set n { st.a[n] with d := (st.a[n]).d.set j v } }
  | .loopCount j v => { st with loops := st.loops.set j { st.loops[j] with count := v } }
  | .loopRange j a b => { st with loops := st.loops.set j { st.loops[j] with start := a, stop := b } }
  | .give first n o => st.giveUnits first n o
  | .flag j => st.arrives j
  | .plane off => { st with arr := st.arr.loadPlane off }
  | .planeRow row v => { st with arr := { st.arr with planeRows := st.arr.planeRows.set row (some v) } }
  | .mpush set row ds => { st with arr := ds.foldl (fun x d => x.applyDelta set row d) st.arr }
  | .mshift n => { st with arr := { st.arr with cursor := (st.arr.cursor + n) % st.arr.nsb } }
  | .macc set row fold => { st with arr := st.arr.applyMacc set row fold }
  | .mscale v => { st with arr := { st.arr with hdr := v } }
  | .mzero set => { st with arr := st.arr.applyMzero set }
  | .mmode syn sp pw => { st with arr := { st.arr with syn := syn, sparse := sp, pw := pw } }
  | .msparse v => { st with arr := { st.arr with spMeta := v } }
  | .satSet set row => { st with arr := { st.arr with sat := st.arr.sat ||| (1#64 <<< (rowIdx set row).val) } }
  | .castKey key seq pos kmax stream tbase =>
    { st with cast := { st.cast with key := key, seq := seq, pos := pos, kmax := kmax, stream := stream, tbase := tbase } }
  | .castTbase => { st with cast := { st.cast with tbase := st.cast.tbase + 64 } }
  | .castMerge cands => { st with cast := st.cast.merge cands }
  | .castTopp p kmin => { st with cast := st.cast.topp p kmin }
  | .castMass m => { st with cast := { st.cast with mass := m } }
  | .castLast v => { st with cast := { st.cast with last := v } }
  | .castClr => { st with cast := CastState.launch }

/-- Every result due by cue `c` landed, in issue order, then slot order (01 R14). -/
def TState.landDue (st : TState) (c : Nat) : TState :=
  (st.flight.filter fun f => decide (f.due ≤ c)).foldl (fun st f => st.landEff f.eff)
    { st with flight := st.flight.filter fun f => decide (c < f.due) }

/-- A step of one tile of a running company; anything else leaves the machine as it is (log 6). -/
def atTile (k : TileKey) (f : Here → State) (s : State) : Host.Outcome State Fault Refusal :=
  match s.hereAt k with
  | none => .next s
  | some h => .next (f h)

/-- RESULT_LANDING: the results of a tile due in this company cycle land (01 R13). -/
def execResultLanding (k : TileKey) (s : State) : Host.Outcome State Fault Refusal := atTile k (fun h => h.put (h.st.landDue h.cue)) s

/-- What a lost tile's region still carries on its always-on rail, as it stood in an image (12 R317; 08 R209, R219). -/
def TState.onRail (st img : TState) : TState :=
  { st with wires := img.wires, xwords := img.xwords, replay := img.replay, signals := img.signals, bufS := img.bufS, bufV := img.bufV, fifo := img.fifo }

/-- HOP_BEAT_LANDING: the beats a tile sent in the cycle before land in its neighbours (08 R210, R212). A hop off the gang's edge or
over a stitch lands nowhere. -/
def execHopBeatLanding (k : TileKey) (s : State) : Host.Outcome State Fault Refusal :=
  atTile k (fun h =>
    let s := h.put { h.st with wires := h.st.wires.filter fun b => decide (h.cue ≤ b.sent) }
    (h.st.wires.filter fun b => decide (b.sent < h.cue)).foldl (fun s b =>
      match (hopNext h.gang k b.side).bind s.tileAt with
      | some t => s.setTile { t with st := t.st.landBeat (facing b.side) b }
      | none => s) s) s

/-- CROSSING_BEAT_ARRIVAL: the words in a tile's replay buffer that arrive by this cue enter its own FIFOs (08 R219); with none, the words that it
sent and whose last beat arrives by this cue enter the FIFOs at the far side of their crossing, in send order (R215); words on a stitch whose rail has failed do not arrive, and count as lost at the far side (08 R217, 12 R318). -/
def execCrossingBeatArrival (k : TileKey) (s : State) : Host.Outcome State Fault Refusal :=
  atTile k (fun h =>
    let back := h.st.replay.filter fun x => decide (x.2.arrive ≤ h.cue)
    if !back.isEmpty then
      s.setTile (back.foldl (fun t x => t.xEnter x.1 x.2)
        { h.t with st := { h.st with replay := h.st.replay.filter fun x => decide (h.cue < x.2.arrive) } })
    else
    let s := h.put { h.st with xwords := h.st.xwords.filter fun x => decide (h.cue < x.arrive) }
    (h.st.xwords.filter fun x => decide (x.arrive ≤ h.cue)).foldl (fun s x =>
      match s.crossing h.gang k x.side, stitchNext h.gang k x.side with
      | some c, _ => (s.tileAt c.peer).elim s fun t => s.setTile (t.xEnter c.peerSide x)
      | none, some n => (s.tileAt n.1).elim s fun t => s.setTile (t.addLost n.2 1)
      | none, none => s) s) s

/-- CROSSING_WORD_LOST: the oldest word a tile sent on a channel does not arrive within its band; it is lost and counted at the
receiving side, over a stitch whose rail has failed too (08 R217, 12 R311). -/
def execCrossingWordLost (k : TileKey) (side : Side) (ch : Fin 8) (s : State) : Host.Outcome State Fault Refusal :=
  atTile k (fun h =>
    match h.st.xwords.find? fun x => x.side == side && x.ch == ch with
    | none => s
    | some x =>
      let s' := h.put { h.st with xwords := h.st.xwords.erase x }
      match ((s.crossing h.gang k side).map fun c => (c.peer, c.peerSide)).orElse fun _ => stitchNext h.gang k side with
      | none => s'
      | some e => (s'.tileAt e.1).elim s' fun t => s'.setTile (t.addLost e.2 1)) s

/-- SIGNAL_ARRIVAL: the flags a tile signalled 64 cycles before are set in every tile of its gang (04 R109). -/
def execSignalArrival (k : TileKey) (s : State) : Host.Outcome State Fault Refusal :=
  atTile k (fun h =>
    let s := h.put { h.st with signals := h.st.signals.filter fun x => decide (h.cue < x.1) }
    (h.st.signals.filter fun x => decide (x.1 ≤ h.cue)).foldl (fun s x =>
      { s with tiles := s.tiles.map fun t =>
          if t.key.co = k.co ∧ t.key.gang = k.gang then { t with st := t.st.arrives x.2 } else t }) s) s

end Sys2Proof.Machine
end

