-- ==== Sys2Proof/Machine/Chorus.lean ====
section
/-! DEFINITION. The Chorus engine (07 R198 to R205, 13 R331): descriptors, rounds, folds, completions, timeouts, COMBINE, the ring. -/
namespace Sys2Proof.Machine

/-! ### The ring (07 R198) -/

/-- Rank of a site along the compute ring C0, C1, C2, C3, C7, C6, C5, C4 (07 R198). -/
def ringRank (n : SiteId) : Nat := [0, 1, 2, 3, 7, 6, 5, 4].idxOf n.val

/-- A gang put at its place along the ring. -/
def Company.ringInsert (c : Company) (g : Nat) (ring : List Nat) : List Nat :=
  let rank (x : Nat) : Nat := (c.gangAt x).elim 0 fun y => ringRank y.site
  ring.takeWhile (fun x => decide (rank x < rank g)) ++ g :: ring.dropWhile (fun x => decide (rank x < rank g))

/-- Whether a gang is a member of the ring: one that a site loss has put out of it no longer is, though its place goes at the next boundary (07 R198,
13 R331, R335). -/
def Company.isMember (c : Company) (g : Nat) : Bool := c.ring.contains g && !c.leaves.contains g

/-- The gangs whose tiles at a place in the gang are the members of a bucket: those of the ring that have a tile there (07 R198; log 77). -/
def Company.bucketRing (c : Company) (row col : Nat) : List Nat :=
  c.ring.filter fun g => (c.gangAt g).any fun x => decide (row < x.bin.rows) && decide (col < x.bin.cols)

/-- The round of a bucket and a place in the gangs (07 R198). -/
def Company.roundOf (c : Company) (b : Fin 64) (row col : Nat) : Option Round :=
  c.rounds.find? fun r => r.bucket == b && r.row == row && r.col == col

/-- A round replaced. -/
def Company.setRound (c : Company) (r : Round) : Company :=
  { c with rounds := c.rounds.map fun q => if q.bucket = r.bucket ∧ q.row = r.row ∧ q.col = r.col then r else q }

/-- The scratchpad as an engine sees it: core stores issued and not yet landed included (10 R281). -/
def TState.engineSpad (st : TState) : Memory :=
  st.flight.foldl (fun m f => match f.eff with
    | .store cs => memPutAll m cs
    | _ => m) st.spad

/-- A tile's buffer handed over at a deck cue to the round its descriptor stands in (07 R200): its bytes as they stand, which
State.resend keeps up with what the engine writes to the buffer before they have gone out (log 71). A BAR hands over its arrival. -/
def Round.handOver (r : Round) (t : Tile) (d : CDesc) (deck : Nat) : Round :=
  if r.handed.any fun x => x.1 == t.key.gang then r
  else if d.kind = .bar then { r with handed := r.handed ++ [(t.key.gang, deck)] }
  else if d.ready then
    { r with
      contrib := r.contrib ++ [(t.key.gang, memBytes t.st.engineSpad d.buf (d.nel * opBytes d.op))]
      handed := r.handed ++ [(t.key.gang, deck)] }
  else r

/-- A descriptor joins the round of its bucket: the round in progress unless its gang has completed there or joined the ring since, else a
new one (07 R200). -/
def Company.postDesc (c : Company) (t : Tile) (d : CDesc) (deck : Nat) : Company :=
  match c.roundOf d.bucket t.key.row t.key.col with
  | none => { c with rounds := c.rounds ++ [(⟨d.bucket, t.key.row, t.key.col, c.bucketRing t.key.row t.key.col, [t.key.gang], [], [], []⟩ : Round).handOver t d deck] }
  | some r =>
    if r.done.contains t.key.gang || !r.members.contains t.key.gang then c
    else c.setRound ({ r with posted := t.key.gang :: r.posted }.handOver t d deck)

/-- Successive 64-byte blocks of a run of bytes. -/
def cut64 : Nat → List Byte → List (List Byte)
  | 0, _ => []
  | n + 1, bs => bs.take 64 :: cut64 n (bs.drop 64)

/-- A buffer handed over of which some blocks go out only now: each keeps the bytes it was captured with, or takes those that stand,
freely from draw `f` on (07 R200, log 5). -/
def resendBlocks (f : Nat) (old new : List Byte) : List Byte :=
  let n := (old.length + 63) / 64
  ((cut64 n old).zip (cut64 n new)).zipIdx.flatMap fun x => if Config.freeBool (f + x.2) then x.1.2 else x.1.1

/-- The Chorus engine has written in a tile's scratchpad: the blocks of its buffers handed over that have not gone out may take what it
wrote (07 R200; 18 R375). No block is still to go out once a member has completed. -/
def State.resend (s : State) (k : TileKey) : State :=
  match s.hereAt k with
  | none => s
  | some h =>
    h.co.rounds.foldl (fun s r =>
      match h.st.chorus.find? fun d => d.bucket == r.bucket && d.ready && !d.stale with
      | none => s
      | some d =>
        if r.row == k.row && r.col == k.col && r.done.isEmpty then
          match r.contrib.find? (fun x => x.1 == k.gang), s.coAt k.co with
          | some x, some c =>
            let now := memBytes h.st.engineSpad d.buf (d.nel * opBytes d.op)
            if now = x.2 then s
            else { s.setCo (c.setRound { r with contrib := r.contrib.map fun y =>
                if y.1 = k.gang then (y.1, resendBlocks s.free y.2 now) else y }) with free := s.free + (x.2.length + 63) / 64 }
          | _, _ => s
        else s) s

/-! ### Descriptors at issue (07 R199, R200) -/

/-- The BUCKET field of k+0 (07 R199). -/
def bucketOf (w0 : W64) : Fin 64 := ⟨bits w0 41 36 % 64, Nat.mod_lt _ (by decide)⟩

/-- The descriptor a collective's staging words give (07 R199). -/
def Here.chorusDesc (h : Here) (kg : Fin 8) (kind : CKind) (op : COp) (sc : Scope) : CDesc :=
  let w0 := h.stage kg 0
  let w1 := h.stage kg 1
  let w2 := h.stage kg 2
  let gen := w0.extractLsb' 48 16
  { bucket := bucketOf w0, kind := kind, op := op, scope := sc, gen := gen, rep := bit w0 27,
    rslot := bits w0 35 28, buf := bits w0 19 0, slots := bits w1 19 0, root := bits w1 22 20, nel := bits w2 20 0, tmo := bits w2 63 48,
    issued := h.cue, ready := false, stale := (gen != 0xffff && gen != h.co.gen) || !h.co.isMember h.t.key.gang }

/-- The checks of a descriptor (07 R178, R200), then it is posted. Of two fields of one staging word that fail for one reason TMO is named before NEL
(DESIGN CHOICE, log 29). -/
def Here.chorusPost (h : Here) (kg : Fin 8) (kind : CKind) (op : COp) (sc : Scope) : Res :=
  let d := h.chorusDesc kg kind op sc
  let n := d.nel * opBytes op
  let red := kind = .ar || kind = .rs
  let data := kind ≠ .bar
  let g := (h.co.bucketRing h.t.key.row h.t.key.col).length
  let unit := 32 * (if kind = .bc then 1 else g)
  bounds
    [(data && d.buf % 64 != 0, boundsInfo 5 0 d.buf), (red && d.slots % 64 != 0, boundsInfo 5 1 d.slots),
     (kind = .bc && decide (g ≤ d.root), boundsInfo 6 1 d.root), (d.tmo == 0, boundsInfo 6 2 d.tmo),
     (data && (d.nel == 0 || decide (0x100000 < d.nel) || d.nel % unit != 0), boundsInfo 6 2 d.nel),
     (data && decide (spadSize < d.buf + n), boundsInfo 4 0 d.buf), (red && decide (spadSize < d.slots + n), boundsInfo 4 1 d.slots),
     (h.st.chorus.any fun x => x.bucket == d.bucket, boundsInfo 10 0 (h.stage kg 0).toNat)] <|
    h.owned ownChorus (if red then [(d.slots, n)] else []) <|
      let t := { h.t with st := { h.st with chorus := h.st.chorus ++ [d] } }
      let s := h.s.setTile t
      .all (if d.stale then s else s.setCo (h.co.postDesc t d s.cue))

/-- CHORUS.AR (07 R200, R201). -/
def execChorusAr (g : Guard) (kg : Fin 8) (sc : Scope) (op : COp) (s : State) : Host.Outcome State Fault Refusal :=
  engine g (fun h => h.chorusPost kg .ar op sc) s

/-- CHORUS.AG (07 R200, R201). -/
def execChorusAg (g : Guard) (kg : Fin 8) (sc : Scope) (s : State) : Host.Outcome State Fault Refusal :=
  engine g (fun h => h.chorusPost kg .ag .i32 sc) s

/-- CHORUS.RS (07 R200, R201). -/
def execChorusRs (g : Guard) (kg : Fin 8) (sc : Scope) (op : COp) (s : State) : Host.Outcome State Fault Refusal :=
  engine g (fun h => h.chorusPost kg .rs op sc) s

/-- CHORUS.BC (07 R200, R201). -/
def execChorusBc (g : Guard) (kg : Fin 8) (sc : Scope) (s : State) : Host.Outcome State Fault Refusal :=
  engine g (fun h => h.chorusPost kg .bc .i32 sc) s

/-- CHORUS.BAR (07 R200, R202). -/
def execChorusBar (g : Guard) (kg : Fin 8) (sc : Scope) (s : State) : Host.Outcome State Fault Refusal :=
  engine g (fun h => h.chorusPost kg .bar .i32 sc) s

/-- CHORUS.READY hands the buffer over (07 R200). A stale descriptor that has not completed is none (log 56). -/
def execChorusReady (g : Guard) (kg : Fin 8) (_sc : Scope) (s : State) : Host.Outcome State Fault Refusal :=
  engine g (fun h =>
    let w0 := h.stage kg 0
    let b : Nat := bits w0 41 36
    match h.st.chorus.find? fun d => d.bucket.val == b && !d.stale && !d.ready && d.kind != .bar with
    | none => .trap cBOUNDS (boundsInfo 10 0 w0.toNat)
    | some d =>
      h.owned ownChorus [(d.buf, d.nel * opBytes d.op)] <|
        let d' := { d with ready := true }
        let t := { h.t with st := { h.st with chorus := h.st.chorus.map fun x => if x = d then d' else x } }
        let s := h.s.setTile t
        .all (match h.co.roundOf d.bucket t.key.row t.key.col with
          | some r => if r.posted.contains t.key.gang && !r.done.contains t.key.gang then s.setCo (h.co.setRound (r.handOver t d' s.cue)) else s
          | none => s)) s

/-- CHORUS.COMBINE (07 R203): checks, then the command waits for its completion. -/
def execChorusCombine (g : Guard) (kg : Fin 8) (sc : Scope) (op : COp) (s : State) : Host.Outcome State Fault Refusal :=
  engine g (fun h =>
    let w0 := h.stage kg 0
    let w2 := h.stage kg 2
    let c : CombineCmd := ⟨bucketOf w0, op, sc, bits w0 19 0, bits (h.stage kg 1) 19 0, bits w2 26 24, bits w2 20 0, bit w0 27, bits w0 35 28, h.cue⟩
    let n := c.nel * opBytes op
    bounds
      [(c.buf % 64 != 0, boundsInfo 5 0 c.buf), (c.slots % 64 != 0, boundsInfo 5 1 c.slots),
       (bits w2 63 48 != 0, boundsInfo 6 2 (bits w2 63 48)), (c.nel == 0 || decide (0x100000 < c.nel), boundsInfo 6 2 c.nel),
       (decide (spadSize < c.buf + n), boundsInfo 4 0 c.buf), (decide (spadSize < c.slots + (c.ns + 1) * n), boundsInfo 4 1 c.slots)] <|
      h.owned ownChorus c.spans <| .ok { h.st with combine := h.st.combine ++ [c] }) s

/-- A JOIN or LEAVE waits for the next ring boundary; one that changes nothing completes one cycle on (07 R205). -/
def Here.ringWord (h : Here) (kg : Fin 8) (join : Bool) : Res :=
  let w0 := h.stage kg 0
  .ok { h.st with ringReq := h.st.ringReq ++ [⟨bucketOf w0, join, bit w0 27, bits w0 35 28, h.cue, h.co.isMember h.t.key.gang == join⟩] }

/-- CHORUS.JOIN (07 R205). -/
def execChorusJoin (g : Guard) (kg : Fin 8) (_sc : Scope) (s : State) : Host.Outcome State Fault Refusal :=
  engine g (fun h => h.ringWord kg true) s

/-- CHORUS.LEAVE (07 R205). -/
def execChorusLeave (g : Guard) (kg : Fin 8) (_sc : Scope) (s : State) : Host.Outcome State Fault Refusal :=
  engine g (fun h => h.ringWord kg false) s

/-! ### Folds (07 R201) -/

/-- Two elements folded; bf16 elements stand widened. -/
def foldStep (ftz : Bool) (op : COp) (x y : W32) : W32 :=
  match op with
  | .i32 => x + y
  | .max => redMax ftz .fp32 x y
  | .fp32 | .bf16 => redAdd ftz .fp32 x y

/-- One element folded over the slots, slot 0 first; a single slot is unchanged (07 R201). -/
def foldElem (ftz : Bool) (op : COp) : List Nat → Nat
  | [] => 0
  | [x] => x
  | x :: y :: r =>
    if op = .bf16 then
      let w (v : Nat) : W32 := BitVec.ofNat 32 (v * 2 ^ 16)
      fpEncode bf16 .rne ftz 0 (fpRead fp32 ftz (((y :: r).map w).foldl (foldStep ftz op) (w x)).toNat)
    else (((y :: r).map (BitVec.ofNat 32)).foldl (foldStep ftz op) (BitVec.ofNat 32 x)).toNat

/-- Element i of an array of e-byte elements. -/
def elemOf (e i : Nat) (bs : List Byte) : Nat := leNat ((bs.drop (i * e)).take e)

/-- Arrays of n elements folded element by element. -/
def foldArrays (ftz : Bool) (op : COp) (n : Nat) (slots : List (List Byte)) : List Byte :=
  ((List.range n).map fun i => leBytes (opBytes op) (foldElem ftz op (slots.map (elemOf (opBytes op) i)))).flatten

/-- vctl.FTZ of the tile of a gang at a place (01 R30, 07 R201). -/
def State.ftzOf (s : State) (co g row col : Nat) : Bool :=
  match s.tileAt ⟨co, g, row, col⟩ with
  | some t => t.vctl.getLsbD 0
  | none => false

/-- What a member's scratchpad takes, from the contributions that stand: runs of bytes and their addresses (07 R201). -/
def State.chorusWrites (s : State) (co : Nat) (r : Round) (g : Nat) (d : CDesc) : List (Nat × List Byte) :=
  let n := d.nel * opBytes d.op
  let m := r.members.length
  let cs := n / m
  let from_ (x : Nat) : Option (List Byte) := (r.contrib.find? fun y => y.1 == x).map (·.2)
  let chunk (q : Nat) (bs : List Byte) : List Byte := (bs.drop (q * cs)).take cs
  let pos := r.members.idxOf g
  let all := r.members.all fun x => (from_ x).isSome
  let fold (q : Nat) : List Byte :=
    foldArrays (s.ftzOf co (r.members.getD q 0) r.row r.col) d.op (cs / opBytes d.op) (r.members.map fun x => chunk q ((from_ x).getD []))
  let slots := (r.members.zipIdx.filterMap fun x => (from_ x.1).map fun bs => (d.slots + x.2 * cs, chunk pos bs))
  match d.kind with
  | .ar => slots ++ if all then (List.range m).map fun q => (d.buf + q * cs, fold q) else []
  | .rs => slots ++ if all then [(d.buf + pos * cs, fold pos)] else []
  | .ag => r.members.zipIdx.filterMap fun x => (from_ x.1).map fun bs => (d.buf + x.2 * cs, chunk x.2 bs)
  | .bc => match from_ (r.members.getD d.root 0) with
    | some bs => [(d.buf, bs)]
    | none => []
  | .bar => []

/-- Runs as cells. -/
def runCells (ws : List (Nat × List Byte)) : List Host.Cell := (ws.map fun w => cellsAt w.1 w.2).flatten

/-! ### Completion (07 R200 to R204) -/

/-- Whether every member of a round has completed; a tile that is lost, or of a gang that a site loss has put out of the ring, counts as done (07
R200, 13 R331; log 33). -/
def State.roundOver (s : State) (c : Company) (r : Round) : Bool :=
  r.members.all fun g => r.done.contains g || c.leaves.contains g || (s.tileAt ⟨c.num, g, r.row, r.col⟩).all Tile.lost

/-- A round whose members have all completed is over; descriptors that wait begin the next one (07 R200). -/
def State.closeRound (s : State) (c : Company) (r : Round) : State :=
  if s.roundOver c r then
    let c := { c with rounds := c.rounds.filter fun q => !(q.bucket == r.bucket && q.row == r.row && q.col == r.col) }
    let waiting := s.tiles.filterMap fun t =>
      if t.key.co = c.num ∧ t.key.row = r.row ∧ t.key.col = r.col ∧ !t.lost then
        (t.st.chorus.find? fun d => d.bucket == r.bucket && !d.stale).map fun d => (t, d)
      else none
    s.setCo (waiting.foldl (fun c x => c.postDesc x.1 x.2 s.cue) c)
  else s.setCo (c.setRound r)

/-- A round without gangs that were lost: their descriptors are gone and they complete nothing (13 R331). -/
def Round.without (r : Round) (gone : List Nat) : Round := { r with posted := r.posted.filter fun g => !gone.contains g }

/-- The rounds of a company that are over closed, after a loss or a rollback (07 R200, 13 R331). -/
def State.closeRounds (s : State) (co : Nat) : State :=
  match s.coAt co with
  | none => s
  | some c => (c.rounds.filter fun r => s.roundOver c r).foldl (fun (s : State) r => match s.coAt co with
    | some c => s.closeRound c r
    | none => s) s

/-- A descriptor ended: out of its tile, units returned, flag set, report posted, its member counted in the round (07 R200, R204). Of one that
times out before every member has posted, nothing more is sent. -/
def Here.chorusEnd (h : Here) (d : CDesc) (cells : List Host.Cell) (poison : Bool) (flag code sub : Nat) : State :=
  let st := { h.st with chorus := h.st.chorus.erase d, spad := memPutAll h.st.spad cells }
  let st := (st.giveBackLate ownChorus (unitsOf d.spans) poison).arrives flag
  let s := ((h.put st).resend h.t.key).report h.co d.rep d.rslot (reportWord code sub h.co.gen.toNat h.t.key d.bucket.val)
  if d.stale then s
  else match s.coAt h.co.num with
    | none => s
    | some c => match c.roundOf d.bucket h.t.key.row h.t.key.col with
      | some r => if r.posted.contains h.t.key.gang && !r.done.contains h.t.key.gang then
          s.closeRound c { r with
            done := h.t.key.gang :: r.done
            contrib := if poison && !r.members.all r.posted.contains then r.contrib.filter fun x => x.1 != h.t.key.gang else r.contrib }
          else s
      | none => s

/-- Whether a tile's company runs: rounds pause with it (07 R206); a module past its loss cue completes nothing (13 R329). -/
def Here.moving (h : Here) : Bool := decide (h.co.mode = .running) && !h.t.lost && !h.s.pastLoss h.t.site

/-- The descriptor of a bucket that stands in a round whose members have all posted and none is out of the ring, with that round (07 R200, 13
R331). -/
def Here.chorusReady (h : Here) (b : Fin 64) : Option (CDesc × Round) :=
  (h.st.chorus.find? fun d => d.bucket == b && !d.stale).bind fun d =>
    (h.co.roundOf b h.t.key.row h.t.key.col).bind fun r =>
      if h.moving && r.posted.contains h.t.key.gang && !r.done.contains h.t.key.gang && (r.members.all fun x => r.posted.contains x && !h.co.leaves.contains x &&
          ((h.co.gangAt x).elim false fun g => !g.detached)) then some (d, r) else none

/-- Trips of a collective's data between members: to the folding member and back, or one (07 R201). -/
def CKind.trips : CKind → Nat
  | .ar => 2
  | _ => 1

/-- Whether what a result needs has reached a member, and did so before the loss cue of every member's module that is past its own: each trip from
another module takes a link's least band (13 R331, 12 R310, 18 R376; log 57). -/
def State.inTime (s : State) (c : Company) (g : Nat) (d : CDesc) (r : Round) : Bool :=
  let home (y : Nat) : Bool := y == g && (d.kind.trips == 1 || r.members.length == 1)
  let by_ (l : Nat) : Bool := r.handed.all fun y => home y.1 || decide (y.2 + 40 * d.kind.trips ≤ l)
  by_ s.cue && r.members.all fun m => (c.gangAt m).all fun x => (s.lossOf x.site).all fun l => decide (s.cue < l) || by_ l

/-- CHORUS_MEMBER_COMPLETION: a member whose round has what its result needs completes (07 R200, R201). -/
def execChorusMemberCompletion (k : TileKey) (b : Fin 64) (s : State) : Host.Outcome State Fault Refusal :=
  atTile k (fun h =>
    match h.chorusReady b with
    | none => s
    | some (d, r) =>
      let has (x : Nat) : Bool := r.contrib.any fun y => y.1 == x
      let enough := if d.kind = .bc then has (r.members.getD d.root 0) else r.members.all has
      if d.kind ≠ .bar && d.ready && enough && s.inTime h.co k.gang d r && !h.st.storesTo (unitsOf d.spans) then
        h.chorusEnd d (runCells (s.chorusWrites h.co.num r h.t.key.gang d)) false 5 0 0
      else s) s

/-- BAR_COMPLETION: every member's BAR stands (07 R202). -/
def execBarCompletion (k : TileKey) (b : Fin 64) (s : State) : Host.Outcome State Fault Refusal :=
  atTile k (fun h =>
    match h.chorusReady b with
    | some (d, r) => if d.kind = .bar && s.inTime h.co k.gang d r then h.chorusEnd d [] false 5 0 0 else s
    | none => s) s

/-- CHORUS_STALE_COMPLETION: stale descriptors complete one cycle after issue (07 R200). -/
def execChorusStaleCompletion (k : TileKey) (s : State) : Host.Outcome State Fault Refusal :=
  atTile k (fun h =>
    (h.st.chorus.filter fun d => d.stale && decide (d.issued < h.cue)).foldl
      (fun s d => (s.hereAt k).elim s fun h => h.chorusEnd d [] false 6 0x21 2) s) s

/-- Runs cut in 64-byte blocks. -/
def blocks64 (ws : List (Nat × List Byte)) : List (Nat × List Byte) :=
  (ws.map fun w => (List.range ((w.2.length + 63) / 64)).map fun i => (w.1 + 64 * i, (w.2.drop (64 * i)).take 64)).flatten

/-- CHORUS_TIMEOUT: a descriptor past its time ends with e6 and POISON; each block of its areas keeps its bytes or holds the
collective's, freely (07 R204, log 5). -/
def execChorusTimeout (k : TileKey) (b : Fin 64) (s : State) : Host.Outcome State Fault Refusal :=
  atTile k (fun h =>
    match h.st.chorus.find? fun d => d.bucket == b && !d.stale && decide (d.issued + 4096 * d.tmo ≤ h.cue) with
    | none => s
    | some d =>
      let ws := match h.co.roundOf b h.t.key.row h.t.key.col with
        | some r => if r.posted.contains h.t.key.gang && !r.done.contains h.t.key.gang then
            blocks64 (s.chorusWrites h.co.num r h.t.key.gang d) else []
        | none => []
      let kept := (ws.zipIdx.filter fun w => Config.freeBool (s.free + w.2)).map (·.1)
      ({ h with s := { s with free := s.free + ws.length } } : Here).chorusEnd d (runCells kept) true 6 0x21 1) s

/-- COMBINE_COMPLETION: the oldest COMBINE of a tile folds its slots and completes (07 R203). -/
def execCombineCompletion (k : TileKey) (s : State) : Host.Outcome State Fault Refusal :=
  atTile k (fun h =>
    match h.st.combine with
    | [] => s
    | c :: rest =>
      if !h.moving || h.st.storesTo (unitsOf c.spans) then s
      else
        let n := c.nel * opBytes c.op
        let slots := (List.range (c.ns + 1)).map fun i => memBytes h.st.spad (c.slots + i * n) n
        let st := { h.st with combine := rest, spad := memPutAll h.st.spad (cellsAt c.buf (foldArrays h.ftz c.op c.nel slots)) }
        let st := (st.giveBackLate ownChorus (unitsOf c.spans) false).arrives 5
        ((h.put st).resend k).report h.co c.rep c.rslot (reportWord 0 0 h.co.gen.toNat k c.bucket.val)) s

/-! ### Ring boundaries (07 R198, R205; 13 R331, R335) -/

/-- Whether a request takes effect now: at a boundary, or one cycle on when it changes nothing (07 R205). -/
def RingReq.dueAt (r : RingReq) (cue : Nat) (boundary : Bool) : Bool := decide (r.issued < cue) && (r.now || boundary)

/-- A tile's requests that take effect are answered with e5; one its boundary image still holds answers again after a rollback (07
R205, R206; log 16). -/
def Tile.ringAnswer (t : Tile) (cue : Nat) (boundary : Bool) : Tile :=
  let due := t.st.ringReq.filter fun r => r.dueAt cue boundary
  if due.isEmpty then t
  else
    let img := due.foldl (fun (i : TState) r =>
      if i.ringReq.contains r then { i with ringReq := i.ringReq.erase r, flight := i.flight ++ [⟨cue, .flag 5⟩] } else i) t.img
    { t with st := { t.st with ringReq := t.st.ringReq.filter fun r => !r.dueAt cue boundary }.arrives 5, img := img }

/-- RING_BOUNDARY: with no bucket outstanding, the members change, those that leave first, and the generation advances by one; requests are answered (07 R198,
R205; 13 R331). -/
def execRingBoundary (co : Nat) (s : State) : Host.Outcome State Fault Refusal :=
  let s := s.closeRounds co
  match s.coAt co with
  | none => .next s
  | some c =>
    let boundary := c.rounds.isEmpty
    let asks := ((s.tilesOf co).filter fun t => !t.lost).map fun t => (t.key, t.st.ringReq.filter fun r => r.dueAt c.cue boundary)
    let moves (join : Bool) : List Nat := (asks.filter fun a => a.2.any fun r => !r.now && r.join == join).map (·.1.gang)
    let change := boundary && (asks.any (fun a => a.2.any fun r => !r.now) || !c.leaves.isEmpty)
    let stay := c.ring.filter fun g => !(moves false).contains g && !c.leaves.contains g
    let ring := (moves true).foldl (fun r g => if r.contains g then r else c.ringInsert g r) stay
    let c' := if change then { c with ring := ring, gen := c.gen + 1, leaves := [] } else c
    let s := (s.setCo c').mapTiles co fun t => if t.lost then t else t.ringAnswer c.cue boundary
    .next (asks.foldl (fun s a => a.2.foldl (fun s r => s.report c' r.rep r.rslot (reportWord 0 0 c'.gen.toNat a.1 r.bucket.val)) s) s)

end Sys2Proof.Machine
end

