-- ==== Sys2Proof/Machine/Copy.lean ====
section
/-! DEFINITION. The tile copy unit (07 R192 to R194): XCOPY and XFILL, conversion of elements, the start and the completion of a
command. -/
namespace Sys2Proof.Machine

/-! ### Formats as XCOPY converts them (07 R193, 01 R29) -/

/-- The codes of R29. -/
def isFmtCode (c : Nat) : Bool := [0x00, 0x01, 0x02, 0x03, 0x04, 0x05, 0x06, 0x08, 0x09, 0x0a, 0x0b, 0x0c, 0x10, 0x11, 0x12, 0x13].contains c

/-- Bits and signedness of an integer code. -/
def codeInt : Nat → Option (Nat × Bool)
  | 0x01 => some (8, true)
  | 0x02 => some (8, false)
  | 0x03 => some (16, true)
  | 0x04 => some (16, false)
  | 0x05 => some (32, true)
  | 0x06 => some (32, false)
  | _ => none

/-- The layout of a floating-point code. -/
def codeFp : Nat → Option FpFmt
  | 0x08 => some fp32
  | 0x09 => some bf16
  | 0x0a => some fp16
  | 0x0b => some e4m3
  | 0x0c => some e5m2
  | _ => none

/-- The exact value of a source element (02 R53, R54). -/
def codeRead (ftz : Bool) (c x : Nat) : Val :=
  match codeInt c, codeFp c with
  | some (n, sg), _ => intVal (if sg then sextNat n x else (x % 2 ^ n : Nat))
  | none, some t => fpRead t ftz x
  | none, none => intVal (x : Int)

/-- convert(x, fd, mode) to an element (02 R50, R54). -/
def codeWrite (ftz : Bool) (c : Nat) (mode : Rnd) (rb : Nat) (v : Val) : Nat :=
  match codeInt c, codeFp c with
  | some (n, sg), _ =>
    let r := if sg then toInt mode rb (-2 ^ (n - 1)) (2 ^ (n - 1) - 1) v else toInt mode rb 0 (2 ^ n - 1) v
    (r % (2 ^ n : Nat)).toNat
  | none, some t => fpEncode t mode ftz rb v
  | none, none => 0

/-- Whether an address starts a block of the weight store (07 R193). -/
def weightBlockStart (w : Width) (a : Nat) : Bool :=
  a % blkBytes (widthBits w) == 0 && decide (a / blkBytes (widthBits w) < Config.weightBytes / blkBytes (widthBits w))

/-- Whether a side is RAW32. -/
def ElFmt.isRaw : ElFmt → Bool
  | .code c => c == 0
  | .mx _ => false

/-- Whether the elements of a side are 4 bytes. -/
def ElFmt.fourBytes (f : ElFmt) : Bool := f.block?.isNone && f.elemBits == 32

/-- Whether a side is an MX element array. -/
def ElFmt.isMx : ElFmt → Bool
  | .mx _ => true
  | .code _ => false

/-! ### Conversion (07 R193) -/

/-- The source as XCOPY reads it: a memory and where its byte 0 lies in it. -/
structure CopySrc where
  m : Memory
  base : Nat
  weights : Bool

/-- Address of block i of the source. -/
def CopySrc.blockAt (s : CopySrc) (w : Width) (a i : Nat) : Nat :=
  if s.weights then s.base + a + i * blkBytes (widthBits w) else spadBlock w a i

/-- Exact values of the source elements (07 R193; 02 R58, R59). -/
def CopySrc.vals (s : CopySrc) (f : ElFmt) (a scl nel : Nat) (ftz : Bool) : List Val :=
  match f with
  | .mx m =>
    let img := memNat s.m (s.base + a) (nel * mxBits m / 8)
    (List.range nel).map fun n => mxVal m (memGet s.m (s.base + scl + n / 32)).toNat (img / 2 ^ (mxBits m * n) % 2 ^ mxBits m)
  | .code c =>
    match f.block? with
    | some w => ((List.range (nel / 256)).map fun i =>
        let b := blkOf (widthBits w) (memNat s.m (s.blockAt w a i) (blkBytes (widthBits w)))
        (List.range 256).map b.val).flatten
    | none =>
      let e := f.elemBits / 8
      (List.range nel).map fun n => codeRead ftz c.toNat (memNat s.m (s.base + a + n * e) e)

/-- The source bytes as they stand, for a verbatim copy, in element order. -/
def CopySrc.raw (s : CopySrc) (f : ElFmt) (a nel : Nat) : List Byte :=
  match f.block? with
  | some w => ((List.range (nel / 256)).map fun i => memBytes s.m (s.blockAt w a i) (blkBytes (widthBits w))).flatten
  | none => memBytes s.m (s.base + a) (nel * f.elemBits / 8)

/-- Successive runs of n elements of a list, with their numbers. -/
def runs {α : Type} (n k : Nat) (xs : List α) : List (Nat × List α) := (List.range k).map fun i => (i, (xs.drop (n * i)).take n)

/-- The cells a converted or copied array takes at the destination (07 R193). -/
def xcopyCells (s : CopySrc) (fs fd : ElFmt) (src dst scl nel : Nat) (mode : Rnd) (ftz : Bool) (rb : Nat → Nat) : List Host.Cell :=
  if fs = fd || fs.isRaw || fd.isRaw then
    let bytes := s.raw fs src nel
    match fd.block? with
    | some w => ((runs (blkBytes (widthBits w)) (nel / 256) bytes).map fun p => cellsAt (spadBlock w dst p.1) p.2).flatten
    | none => cellsAt dst bytes
  else
    let xs := s.vals fs src scl nel ftz
    match fd with
    | .mx m =>
      let bs := (runs 32 (nel / 32) xs).map fun p => exportMx p.2 m mode fun n => rb (32 * p.1 + n)
      cellsAt dst (leBytes (nel * mxBits m / 8) (packNats (mxBits m) (bs.map (·.2)).flatten)) ++
        cellsAt scl (bs.map fun b => BitVec.ofNat 8 b.1)
    | .code c =>
      match fd.block? with
      | some w => ((runs 256 (nel / 256) xs).map fun p =>
          cellsAt (spadBlock w dst p.1) (leBytes (blkBytes (widthBits w))
            ((encodeBlock p.2 (widthBits w) mode fun n => rb (256 * p.1 + n)).image (widthBits w)))).flatten
      | none =>
        let e := fd.elemBits / 8
        (xs.zipIdx.map fun x => cellsAt (dst + x.2 * e) (leBytes e (codeWrite ftz c.toNat mode (rb x.2) x.1))).flatten

/-! ### XCOPY and XFILL at issue (07 R192 to R194) -/

/-- When the next command starts: one cycle on, or as the last one completes (07 R194). -/
def Here.copyStart (h : Here) : Nat := (h.st.copyQ.getLast?.map (·.finish)).getD 0 |> max (h.cue + 1)

/-- Eight commands are outstanding; one that completes in this cycle no longer counts (07 R177, R194). -/
def Here.copyFull (h : Here) : Bool := decide (8 ≤ (h.st.copyQ.filter fun c => decide (h.cue < c.finish)).length)

/-- A copy command joins the unit's queue. -/
def Here.copyEnter (h : Here) (k : CopyKind) (cost : Nat) : Res :=
  let b := h.copyStart
  .ok { h.st with copyQ := h.st.copyQ ++ [⟨k, b, b + 4 + cost, none⟩] }

/-- The second bank of some scratchpad ranges whose fmt word differs from the first bank's (07 R193, 05 R154). -/
def Here.otherBank (h : Here) (ps : List Span) : Option Nat :=
  match ps with
  | [] => none
  | p :: _ => ((ps.map fun q => (List.range ((q.1 + q.2 - 1) / 0x10000 + 1 - q.1 / 0x10000)).map (· + q.1 / 0x10000)).flatten).find? fun b =>
      h.t.fmt b != h.t.fmt (p.1 / 0x10000)

/-- The BANKFMT check of a side: an MX array is raw bytes (07 R193). -/
def Here.bankSame (h : Here) (f : ElFmt) (ps : List Span) (k : Res) : Res :=
  if f.isMx then k
  else match h.otherBank ps with
    | some b => .trap cBANKFMT (bankInfo 0 b 3)
    | none => k

/-- The first cycle, from b for `cost` cycles, in which a slice of [a, a + n) is in refresh (10 R266). -/
def refreshClash (b cost a n : Nat) : Option (Nat × Nat) :=
  ((List.range cost).find? fun i =>
    let c := (b + i) % Config.refreshPeriod
    decide (c % 512 < 64) && decide (a / 0x20000 ≤ c / 512) && decide (c / 512 ≤ (a + n - 1) / 0x20000)).map fun i =>
      ((b + i) % Config.refreshPeriod / 512, (b + i) % Config.refreshPeriod)

/-- Whether a side fails reason 5: a block side off a block's start, an MX side off 4 bytes (07 R193). -/
def ElFmt.misaligned (f : ElFmt) (weights : Bool) (a : Nat) : Bool :=
  match f.block? with
  | some w => if weights then !weightBlockStart w a else !blockStart w a
  | none => f.isMx && a % 4 != 0

/-- Whether a side's ranges pass the end of the scratchpad (07 R178 reason 4). -/
def pastEnd (ps : List Span) : Bool := ps.any fun p => decide (spadSize < p.1 + p.2)

/-- Bytes of a side in the weight store. -/
def ElFmt.bytes (f : ElFmt) (nel : Nat) : Nat :=
  match f.block? with
  | some w => nel / 256 * blkBytes (widthBits w)
  | none => nel * f.elemBits / 8

/-- Units of the key of R52 for the engine slots. -/
def copyUnit (u : Slot) : Nat := if u = .xa then 2 else 3

/-- XCOPY (07 R192 to R194): BOUNDS in R178's order, BANKFMT, OWNER, WREFRESH. Of the fields of one staging word that fail for one reason SMX is
named first, then WFMT, then SMXF (DESIGN CHOICE, log 29). -/
def execXcopy (g : Guard) (kg : Fin 8) (rm : Rnd) (s : State) : Host.Outcome State Fault Refusal :=
  engine g (fun h =>
    let w0 := h.stage kg 0
    let w1 := h.stage kg 1
    let w2 := h.stage kg 2
    let smx := bit w0 43
    let dmx := bit w1 43
    let sw := bit w0 22
    let src := if sw then bits w0 21 0 else bits w0 19 0
    let dst := bits w1 19 0
    let scl := bits w2 51 32
    let nel := bits w2 20 0
    let wf := bits w0 39 32
    let fs : ElFmt := if sw then .code (BitVec.ofNat 8 wf)
      else if smx then .mx ((mxFmtOf (bits w0 42 40)).getD .int8)
      else .code ((h.t.fmt (src / 0x10000)).setWidth 8)
    let fd : ElFmt := if dmx then .mx ((mxFmtOf (bits w1 42 40)).getD .int8) else .code ((h.t.fmt (dst / 0x10000)).setWidth 8)
    let block := fs.block?.isSome || fd.block?.isSome
    let ss := if sw then [] else fs.spans src nel scl
    let ds := fd.spans dst nel scl
    let sclPast := (fs.isMx || fd.isMx) && decide (spadSize < scl + nel / 32)
    bounds
      [(fs.misaligned sw src, boundsInfo 5 0 src), (fd.misaligned false dst, boundsInfo 5 1 dst),
       (smx && dmx || sw && smx, boundsInfo 6 0 1),
       (sw && !isFmtCode wf, boundsInfo 6 0 wf),
       (smx && (mxFmtOf (bits w0 42 40)).isNone, boundsInfo 6 0 (bits w0 42 40)),
       (dmx && (mxFmtOf (bits w1 42 40)).isNone, boundsInfo 6 1 (bits w1 42 40)),
       (nel == 0 || decide (0x100000 < nel) || block && nel % 256 != 0 || (smx || dmx) && nel % 32 != 0, boundsInfo 6 2 nel),
       (if sw then decide (Config.weightBytes < src + fs.bytes nel) else pastEnd (ss.take 1) || !fs.isMx && pastEnd ss, boundsInfo 4 0 src),
       (pastEnd (ds.take 1) || !fd.isMx && pastEnd ds, boundsInfo 4 1 dst),
       (sclPast, boundsInfo 4 2 scl),
       (h.copyFull, boundsInfo 8 0 w0.toNat)] <|
      (if sw then id else h.bankSame fs ss) <| h.bankSame fd ds <|
        if (fs.isRaw && !fd.fourBytes) || (fd.isRaw && !fs.fourBytes) then .trap cBANKFMT (bankInfo 0 (dst / 0x10000) 5)
        else h.owned ownCopy (ss ++ ds) <|
          let cost := (nel + 63) / 64
          match (if sw then refreshClash h.copyStart cost src (fs.bytes nel) else none) with
          | some c => .trap cWREFRESH (BitVec.ofNat 64 (c.1 * 2 ^ 16 + c.2))
          | none => h.copyEnter (.xcopy fs fd sw src dst scl nel rm (copyUnit h.s.slot) h.st.ordinal) cost) s

/-- XFILL (07 R192, R194). -/
def execXfill (g : Guard) (kg : Fin 8) (s : State) : Host.Outcome State Fault Refusal :=
  engine g (fun h =>
    let w0 := h.stage kg 0
    let n := bits w0 40 20
    let a := bits w0 19 0
    bounds
      [(a % 4 != 0, boundsInfo 5 0 a), (n % 4 != 0 || decide (n < 4) || decide (0x100000 < n), boundsInfo 6 0 n),
       (decide (spadSize < a + n), boundsInfo 4 0 a), (h.copyFull, boundsInfo 8 0 w0.toNat)] <|
      h.owned ownCopy [(a, n)] <| h.copyEnter (.xfill a n ((h.stage kg 1).setWidth 32)) ((n + 255) / 256)) s

/-! ### The command at its start and completion (07 R194) -/

/-- What a command writes, as its source stands (07 R193, R194). -/
def Here.copyCells (h : Here) : CopyKind → List Host.Cell
  | .xcopy fs fd sw src dst scl nel rm unit ordinal =>
    let from_ : CopySrc := if sw then ⟨h.s.weights, h.s.weightBase h.t, true⟩ else ⟨h.st.spad, 0, false⟩
    let key : SrKey := ⟨h.co.info.seed, tileIdOf h.t.key, ordinal, unit⟩
    xcopyCells from_ fs fd src dst scl nel rm h.ftz fun n => if rm = .sr then srRb key n else 0
  | .xfill a n pat => (List.range n).map fun i => (a + i, pat.extractLsb' (8 * (i % 4)) 8)

/-- Whether a command reads the weight store. -/
def CopyKind.readsWeights : CopyKind → Bool
  | .xcopy _ _ sw .. => sw
  | .xfill .. => false

/-- TILE_COPY_START: the source is read; a weight store known bad ends the launch (07 R194, 11 R299). -/
def execTileCopyStart (k : TileKey) (s : State) : Host.Outcome State Fault Refusal :=
  match s.hereAt k with
  | none => .next s
  | some h =>
    match h.st.copyQ with
    | c :: r =>
      if c.start ≤ h.cue ∧ c.out.isNone then
        if c.kind.readsWeights && s.weightBad.contains (s.weightBase h.t) then .next (s.endCause h.co.num cECC 0 0 6 (some k))
        else .next (h.put { h.st with copyQ := { c with out := some (h.copyCells c.kind) } :: r })
      else .next s
    | [] => .next s

/-- TILE_COPY_COMPLETION: the destination is written, units return after the cycle's issue, e2 arrives (07 R194, 01 R32). -/
def execTileCopyCompletion (k : TileKey) (s : State) : Host.Outcome State Fault Refusal :=
  match s.hereAt k with
  | none => .next s
  | some h =>
    match h.st.copyQ with
    | c :: r =>
      match c.out with
      | some cells =>
        if c.finish ≤ h.cue then
          let st := { h.st with copyQ := r, spad := memPutAll h.st.spad cells }
          .next (h.put ((st.giveBackLate ownCopy (unitsOf c.kind.spans) false).arrives 2))
        else .next s
      | none => .next s
    | [] => .next s

end Sys2Proof.Machine
end

