-- ==== Sys2Proof/Machine/Scalar.lean ====
section
/-! DEFINITION. The scalar words (04 R117 to R126): arithmetic, compares, bit fields, the staging, stream and loop registers, and the
read words. -/
namespace Sys2Proof.Machine

/-- A word that computes a result of latency `lat` (04 R118). -/
def scalar (lat : Nat) (r : Dst) (f : Here → W64) (s : State) : Host.Outcome State Fault Refusal :=
  word (fun h => .ok (h.st.resS h.cue lat r (f h))) s

/-- A result from two sources. -/
def alu2 (lat : Nat) (r : Dst) (a b : Sel) (f : W64 → W64 → W64) (s : State) : Host.Outcome State Fault Refusal :=
  scalar lat r (fun h => f (h.getS a) (h.getS b)) s

/-- A result from one source. -/
def alu1 (r : Dst) (a : Sel) (f : W64 → W64) (s : State) : Host.Outcome State Fault Refusal := scalar 1 r (fun h => f (h.getS a)) s

/-- A two-operand immediate form: s[D] is read at issue even when N = 1 (03 R73). -/
def aluI (r : Dst) (f : W64 → W64) (s : State) : Host.Outcome State Fault Refusal := scalar 1 r (fun h => f (h.st.sreg r.d)) s

/-- The shift amount b[5:0] (04 R119). -/
def amount (b : W64) : Nat := b.toNat % 64

/-- A truth value as a word. -/
def truth (t : Bool) : W64 := if t then 1 else 0

/-- Leading zero bits among the low `n` bits (04 R119). -/
def leadingZeros (a : W64) : Nat → Nat
  | 0 => 0
  | n + 1 => if a.getLsbD n then 0 else leadingZeros a n + 1

/-- One bits among the low `n` bits (04 R119). -/
def oneBits (a : W64) : Nat → Nat
  | 0 => 0
  | n + 1 => (a.getLsbD n).toNat + oneBits a n

/-- The quotient truncated toward zero; all ones when the divisor is zero (04 R120). -/
def quotS (a b : W64) : W64 := if b = 0 then BitVec.allOnes 64 else BitVec.ofInt 64 (Int.tdiv a.toInt b.toInt)

/-- The unsigned quotient; all ones when the divisor is zero (04 R120). -/
def quotU (a b : W64) : W64 := if b = 0 then BitVec.allOnes 64 else BitVec.ofNat 64 (a.toNat / b.toNat)

/-- The remainder of the sign of the dividend; the dividend when the divisor is zero (04 R120). -/
def remS (a b : W64) : W64 := if b = 0 then a else BitVec.ofInt 64 (Int.tmod a.toInt b.toInt)

/-- The unsigned remainder; the dividend when the divisor is zero (04 R120). -/
def remU (a b : W64) : W64 := if b = 0 then a else BitVec.ofNat 64 (a.toNat % b.toNat)

/-- A field of `len` bits at `pos` (04 R122). -/
def fieldPos (b : W64) : Nat := bits b 5 0
def fieldLen (b : W64) : Nat := bits b 13 8 + 1

/-- BFX's result (04 R122). -/
def bfxOf (a b : W64) : W64 := BitVec.ofNat 64 (a.toNat / 2 ^ fieldPos b % 2 ^ fieldLen b)

/-- BFI's result: field bits above bit 63 are dropped (04 R122). -/
def bfiOf (d a b : W64) : W64 :=
  let m : W64 := BitVec.ofNat 64 ((2 ^ fieldLen b - 1) * 2 ^ fieldPos b)
  (d &&& ~~~m) ||| BitVec.ofNat 64 (a.toNat % 2 ^ fieldLen b * 2 ^ fieldPos b)

/-- ADD (04 R119). -/
def execAdd (r : Dst) (a b : Sel) (s : State) : Host.Outcome State Fault Refusal := alu2 1 r a b (fun a b => a + b) s

/-- SUB (04 R119). -/
def execSub (r : Dst) (a b : Sel) (s : State) : Host.Outcome State Fault Refusal := alu2 1 r a b (fun a b => a - b) s

/-- AND (04 R119). -/
def execAnd (r : Dst) (a b : Sel) (s : State) : Host.Outcome State Fault Refusal := alu2 1 r a b (fun a b => a &&& b) s

/-- OR (04 R119). -/
def execOr (r : Dst) (a b : Sel) (s : State) : Host.Outcome State Fault Refusal := alu2 1 r a b (fun a b => a ||| b) s

/-- XOR (04 R119). -/
def execXor (r : Dst) (a b : Sel) (s : State) : Host.Outcome State Fault Refusal := alu2 1 r a b (fun a b => a ^^^ b) s

/-- SHL (04 R119). -/
def execShl (r : Dst) (a b : Sel) (s : State) : Host.Outcome State Fault Refusal := alu2 1 r a b (fun a b => a <<< amount b) s

/-- SHR (04 R119). -/
def execShr (r : Dst) (a b : Sel) (s : State) : Host.Outcome State Fault Refusal := alu2 1 r a b (fun a b => a >>> amount b) s

/-- SHA (04 R119). -/
def execSha (r : Dst) (a b : Sel) (s : State) : Host.Outcome State Fault Refusal := alu2 1 r a b (fun a b => a.sshiftRight (amount b)) s

/-- MIN (04 R119). -/
def execMin (r : Dst) (a b : Sel) (s : State) : Host.Outcome State Fault Refusal := alu2 1 r a b (fun a b => if ltS a b then a else b) s

/-- MAX (04 R119). -/
def execMax (r : Dst) (a b : Sel) (s : State) : Host.Outcome State Fault Refusal := alu2 1 r a b (fun a b => if ltS a b then b else a) s

/-- MINN (04 R119). -/
def execMinn (r : Dst) (a b : Sel) (s : State) : Host.Outcome State Fault Refusal := alu2 1 r a b (fun a b => if ltU a b then a else b) s

/-- MAXN (04 R119). -/
def execMaxn (r : Dst) (a b : Sel) (s : State) : Host.Outcome State Fault Refusal := alu2 1 r a b (fun a b => if ltU a b then b else a) s

/-- CLZ: 64 for zero (04 R119). -/
def execClz (r : Dst) (a : Sel) (s : State) : Host.Outcome State Fault Refusal := alu1 r a (fun a => BitVec.ofNat 64 (leadingZeros a 64)) s

/-- POPC (04 R119). -/
def execPopc (r : Dst) (a : Sel) (s : State) : Host.Outcome State Fault Refusal := alu1 r a (fun a => BitVec.ofNat 64 (oneBits a 64)) s

/-- MUL (04 R120). -/
def execMul (r : Dst) (a b : Sel) (s : State) : Host.Outcome State Fault Refusal := alu2 3 r a b (fun a b => a * b) s

/-- MULH (04 R120). -/
def execMulh (r : Dst) (a b : Sel) (s : State) : Host.Outcome State Fault Refusal := alu2 3 r a b (fun a b => BitVec.ofInt 64 (a.toInt * b.toInt / 2 ^ 64)) s

/-- MULHN (04 R120). -/
def execMulhn (r : Dst) (a b : Sel) (s : State) : Host.Outcome State Fault Refusal := alu2 3 r a b (fun a b => BitVec.ofNat 64 (a.toNat * b.toNat / 2 ^ 64)) s

/-- DIV (04 R120). -/
def execDiv (r : Dst) (a b : Sel) (s : State) : Host.Outcome State Fault Refusal := alu2 34 r a b (fun a b => quotS a b) s

/-- DIVN (04 R120). -/
def execDivn (r : Dst) (a b : Sel) (s : State) : Host.Outcome State Fault Refusal := alu2 34 r a b (fun a b => quotU a b) s

/-- REM (04 R120). -/
def execRem (r : Dst) (a b : Sel) (s : State) : Host.Outcome State Fault Refusal := alu2 34 r a b (fun a b => remS a b) s

/-- REMN (04 R120). -/
def execRemn (r : Dst) (a b : Sel) (s : State) : Host.Outcome State Fault Refusal := alu2 34 r a b (fun a b => remU a b) s

/-- A compare: its predicate unless N = 1, and the truth value in its latch (04 R121). -/
def compare (n : Bool) (l : Fin 4) (p : Fin 8) (a b : Sel) (f : W64 → W64 → Bool) (s : State) : Host.Outcome State Fault Refusal :=
  word (fun h =>
    let t := f (h.getS a) (h.getS b)
    let st := h.st.fly1 h.cue 1 (.latS .s l (truth t))
    .ok (if n then st else st.fly1 h.cue 1 (.pred p t))) s

/-- CMP.EQ (04 R121). -/
def execCmpEq (n : Bool) (l : Fin 4) (p : Fin 8) (a b : Sel) (s : State) : Host.Outcome State Fault Refusal := compare n l p a b (fun a b => a == b) s

/-- CMP.NE (04 R121). -/
def execCmpNe (n : Bool) (l : Fin 4) (p : Fin 8) (a b : Sel) (s : State) : Host.Outcome State Fault Refusal := compare n l p a b (fun a b => a != b) s

/-- CMP.LT (04 R121). -/
def execCmpLt (n : Bool) (l : Fin 4) (p : Fin 8) (a b : Sel) (s : State) : Host.Outcome State Fault Refusal := compare n l p a b (fun a b => ltS a b) s

/-- CMP.LTN (04 R121). -/
def execCmpLtn (n : Bool) (l : Fin 4) (p : Fin 8) (a b : Sel) (s : State) : Host.Outcome State Fault Refusal := compare n l p a b (fun a b => ltU a b) s

/-- CMP.GE (04 R121). -/
def execCmpGe (n : Bool) (l : Fin 4) (p : Fin 8) (a b : Sel) (s : State) : Host.Outcome State Fault Refusal := compare n l p a b (fun a b => !ltS a b) s

/-- CMP.GEN (04 R121). -/
def execCmpGen (n : Bool) (l : Fin 4) (p : Fin 8) (a b : Sel) (s : State) : Host.Outcome State Fault Refusal := compare n l p a b (fun a b => !ltU a b) s

/-- SEL (04 R121): the predicate is read at issue. -/
def execSel (r : Dst) (a b : Sel) (inv : Bool) (q : Fin 8) (s : State) : Host.Outcome State Fault Refusal :=
  scalar 1 r (fun h => if h.st.pred q != inv then h.getS a else h.getS b) s

/-- BFX (04 R122). -/
def execBfx (r : Dst) (a b : Sel) (s : State) : Host.Outcome State Fault Refusal := alu2 1 r a b bfxOf s

/-- BFI (04 R122): s[D] is read at issue even when N = 1. -/
def execBfi (r : Dst) (a b : Sel) (s : State) : Host.Outcome State Fault Refusal :=
  scalar 1 r (fun h => bfiOf (h.st.sreg r.d) (h.getS a) (h.getS b)) s

/-- ADDI (04 R119). -/
def execAddi (r : Dst) (i : BitVec 16) (s : State) : Host.Outcome State Fault Refusal := aluI r (fun d => d + i.signExtend 64) s

/-- ANDI (04 R119). -/
def execAndi (r : Dst) (i : BitVec 16) (s : State) : Host.Outcome State Fault Refusal := aluI r (fun d => d &&& i.setWidth 64) s

/-- ORI (04 R119). -/
def execOri (r : Dst) (i : BitVec 16) (s : State) : Host.Outcome State Fault Refusal := aluI r (fun d => d ||| i.setWidth 64) s

/-- XORI (04 R119). -/
def execXori (r : Dst) (i : BitVec 16) (s : State) : Host.Outcome State Fault Refusal := aluI r (fun d => d ^^^ i.setWidth 64) s

/-- LI (04 R119). -/
def execLi (r : Dst) (i : BitVec 16) (s : State) : Host.Outcome State Fault Refusal := aluI r (fun _ => i.signExtend 64) s

/-- LIH (04 R119). -/
def execLih (r : Dst) (i : BitVec 16) (s : State) : Host.Outcome State Fault Refusal := aluI r (fun d => d <<< 16 ||| i.setWidth 64) s

/-- SHLI (04 R119). -/
def execShli (r : Dst) (i : BitVec 6) (s : State) : Host.Outcome State Fault Refusal := aluI r (fun d => d <<< i.toNat) s

/-- SHRI (04 R119). -/
def execShri (r : Dst) (i : BitVec 6) (s : State) : Host.Outcome State Fault Refusal := aluI r (fun d => d >>> i.toNat) s

/-- SHAI (04 R119). -/
def execShai (r : Dst) (i : BitVec 6) (s : State) : Host.Outcome State Fault Refusal := aluI r (fun d => d.sshiftRight i.toNat) s

/-! ### Staging registers, streams and loop fields (04 R100, R125) -/

/-- SETK (04 R125). -/
def execSetk (k : Fin 32) (a : Sel) (s : State) : Host.Outcome State Fault Refusal :=
  word (fun h => .ok (h.st.fly1 h.cue 1 (.stage k (h.getS a)))) s

/-- SETA (04 R125): BASE is a[19:0]. -/
def execSeta (st : Fin 8) (a : Sel) (s : State) : Host.Outcome State Fault Refusal :=
  word (fun h => .ok (h.st.fly1 h.cue 1 (.streamBase st ((h.getS a).setWidth 20)))) s

/-- SETD (04 R125): the delta is a[31:0]. -/
def execSetd (st : Fin 8) (j : Fin 4) (a : Sel) (s : State) : Host.Outcome State Fault Refusal :=
  word (fun h => .ok (h.st.fly1 h.cue 1 (.streamDelta st j ((h.getS a).setWidth 32)))) s

/-- SETLC (04 R100): COUNT is a[31:0]; it lands after the END step of its own issue cycle. -/
def execSetlc (j : Fin 4) (a : Sel) (s : State) : Host.Outcome State Fault Refusal :=
  word (fun h => .ok (h.st.fly1 h.cue 1 (.loopCount j ((h.getS a).setWidth 32)))) s

/-- Whether the control word of the bundle in issue activates a level (04 R100). -/
def Xfer.activates : Xfer → Fin 4 → Bool
  | .loop lv .., j => lv == j
  | _, _ => false

/-- SETLB (04 R100): LOOPREG of kind 1 on an active level, or one that a loop word of the same bundle activates. -/
def execSetlb (j : Fin 4) (a b : Sel) (s : State) : Host.Outcome State Fault Refusal :=
  word (fun h =>
    if (h.st.loops[j]).active || h.st.xfer.activates j then .trap cLOOPREG (BitVec.ofNat 64 (4 + j.val))
    else .ok (h.st.fly1 h.cue 1 (.loopRange j ((h.getS a).setWidth 11) ((h.getS b).setWidth 11)))) s

/-! ### The read words (04 R126) -/

/-- A word of RDID (01 R40); none for an index not listed. -/
def Here.rdid (h : Here) (i : Nat) : Option W64 :=
  match i with
  | 0 => some (BitVec.ofNat 64 (tileIdOf h.t.key))
  | 1 => some (BitVec.ofNat 64 ((h.gang.bin.rows - 1) * 32 + (h.gang.bin.cols - 1)))
  | 2 => some (BitVec.ofNat 64 h.co.num)
  | 3 => some (BitVec.ofNat 64 h.t.site.val)
  | 4 => some (BitVec.ofNat 64 h.t.region.val)
  | 5 => some (BitVec.ofNat 64 (h.t.row.val * 16 + h.t.col.val))
  | 6 => some (BitVec.ofNat 64 h.t.grade)
  | _ => none

/-- A word of RDCFG (01 R41) as reads of the cycle see it; none for an index not listed. Of the event flags, what has arrived before the cycle's
issue is seen (01 R13, log 15). -/
def Here.rdcfg (h : Here) (i : Nat) : Option W64 :=
  let st := h.st
  if i ≤ 0x0f then some ((h.t.fmts.getD i 0).setWidth 64)
  else if i = 0x10 then some (h.t.vctl.setWidth 64)
  else if i = 0x11 then some st.ordinal
  else if i = 0x12 then some h.co.info.seed
  else if i = 0x13 then some (BitVec.ofNat 64 st.mask.length)
  else if i = 0x14 then some st.active
  else if i = 0x15 then some (BitVec.ofNat 64 st.rstack.length)
  else if i = 0x16 then some (BitVec.ofNat 64 h.gang.base)
  else if i < 0x18 then none
  else if i ≤ 0x1b then some (((st.loops.toList.map (·.count)).getD (i - 0x18) 0).setWidth 64)
  else if i ≤ 0x1f then
    some ((st.loops.toList.map fun l => BitVec.ofNat 64 (l.active.toNat * 2 ^ 63 + l.stop.toNat * 2 ^ 11 + l.start.toNat)).getD (i - 0x1c) 0)
  else if i ≤ 0x23 then some (((st.loops.toList.map (·.idx)).getD (i - 0x20) 0).setWidth 64)
  else if i = 0x24 then some (h.t.trap.cause.setWidth 64)
  else if i = 0x25 then some (h.t.trap.pc.setWidth 64)
  else if i = 0x26 then some h.t.trap.info
  else if i = 0x27 then none
  else if i ≤ 0x2b then some (h.t.trap.bundle.extractLsb' (64 * (i - 0x28)) 64)
  else if i < 0x30 then none
  else if i ≤ 0x37 then some (((st.a.toList.map (·.base)).getD (i - 0x30) 0).setWidth 64)
  else if i < 0x40 then none
  else if i ≤ 0x5f then some (((st.a.toList.map (·.d.toList)).flatten.getD (i - 0x40) 0).signExtend 64)
  else if i = 0x60 then some ((st.e ||| st.arrive).setWidth 64)
  else none

/-- A read word whose index is not listed is ILLEGAL in its slot (01 R40, R41). -/
def readIndex (r : Dst) (f : Here → Option W64) (s : State) : Host.Outcome State Fault Refusal :=
  word (fun h => match f h with
    | some v => .ok (h.st.resS h.cue 1 r v)
    | none => .trap cILLEGAL 2) s

/-- RDID (04 R126). -/
def execRdid (r : Dst) (i : BitVec 16) (s : State) : Host.Outcome State Fault Refusal := readIndex r (fun h => h.rdid i.toNat) s

/-- RDCFG (04 R126). -/
def execRdcfg (r : Dst) (i : BitVec 16) (s : State) : Host.Outcome State Fault Refusal := readIndex r (fun h => h.rdcfg i.toNat) s

/-- RDCUE: the company cue of the issuing bundle (01 R36). -/
def execRdcue (r : Dst) (s : State) : Host.Outcome State Fault Refusal := scalar 1 r (fun h => BitVec.ofNat 64 h.cue) s

/-- The deck cue of the tile's region counter (01 R36, 12 R312): the company's cycles stand on the regions' own counters (09 R235), so the
counter's offset when the company's cue started counts no more (log 73). -/
def Here.deckCue (h : Here) : Int := ((h.s.sites[h.t.site]).regions[h.t.region]).counterAt h.s.cue - h.t.skew

/-- RDDECK (01 R36). -/
def execRddeck (r : Dst) (s : State) : Host.Outcome State Fault Refusal := scalar 1 r (fun h => BitVec.ofInt 64 h.deckCue) s

end Sys2Proof.Machine
end

