-- ==== Sys2Proof/Machine/ScalarMem.lean ====
section
/-! DEFINITION. Scalar loads and stores (04 R123, R124). -/
namespace Sys2Proof.Machine

/-- A load of w bytes from an address: read in its issue cycle, landed 4 cycles on (04 R123). -/
def Here.loadScalar (h : Here) (w : Nat) (r : Dst) (a : Int) : Res :=
  h.scalarCheck a w fun n => .ok (h.st.resS h.cue 4 r (BitVec.ofNat 64 (memNat h.st.spad n w)))

/-- A store of the low w bytes of a value, seen by loads of the next cycle (04 R123). -/
def Here.storeScalar (h : Here) (w : Nat) (v : W64) (a : Int) : Res :=
  h.scalarCheck a w fun n => .ok (h.st.fly1 h.cue 1 (.store (cellsAt n (leBytes w v.toNat))))

/-- LD through a register and an offset (04 R123). -/
def loadReg (w : Nat) (r : Dst) (base : Fin 32) (off : BitVec 10) (s : State) : Host.Outcome State Fault Refusal :=
  word (fun h => h.loadScalar w r (h.st.baseAddr base off w)) s

/-- LD through an address stream (04 R123, 01 R25). -/
def loadStream (w : Nat) (r : Dst) (st : Fin 8) (s : State) : Host.Outcome State Fault Refusal :=
  word (fun h => h.loadScalar w r (h.st.streamAddr st)) s

/-- ST through a register and an offset (04 R123). -/
def storeReg (w : Nat) (d : Sel) (base : Fin 32) (off : BitVec 10) (s : State) : Host.Outcome State Fault Refusal :=
  word (fun h => h.storeScalar w (h.getS d) (h.st.baseAddr base off w)) s

/-- ST through an address stream (04 R123, 01 R25). -/
def storeStream (w : Nat) (d : Sel) (st : Fin 8) (s : State) : Host.Outcome State Fault Refusal :=
  word (fun h => h.storeScalar w (h.getS d) (h.st.streamAddr st)) s

/-- LD.8 (04 R123). -/
def execLd8 (r : Dst) (base : Fin 32) (off : BitVec 10) (s : State) : Host.Outcome State Fault Refusal := loadReg 1 r base off s

/-- LD.8 through a stream (04 R123). -/
def execLd8Stream (r : Dst) (st : Fin 8) (s : State) : Host.Outcome State Fault Refusal := loadStream 1 r st s

/-- ST.8 (04 R123). -/
def execSt8 (d : Sel) (base : Fin 32) (off : BitVec 10) (s : State) : Host.Outcome State Fault Refusal := storeReg 1 d base off s

/-- ST.8 through a stream (04 R123). -/
def execSt8Stream (d : Sel) (st : Fin 8) (s : State) : Host.Outcome State Fault Refusal := storeStream 1 d st s

/-- LD.16 (04 R123). -/
def execLd16 (r : Dst) (base : Fin 32) (off : BitVec 10) (s : State) : Host.Outcome State Fault Refusal := loadReg 2 r base off s

/-- LD.16 through a stream (04 R123). -/
def execLd16Stream (r : Dst) (st : Fin 8) (s : State) : Host.Outcome State Fault Refusal := loadStream 2 r st s

/-- ST.16 (04 R123). -/
def execSt16 (d : Sel) (base : Fin 32) (off : BitVec 10) (s : State) : Host.Outcome State Fault Refusal := storeReg 2 d base off s

/-- ST.16 through a stream (04 R123). -/
def execSt16Stream (d : Sel) (st : Fin 8) (s : State) : Host.Outcome State Fault Refusal := storeStream 2 d st s

/-- LD.32 (04 R123). -/
def execLd32 (r : Dst) (base : Fin 32) (off : BitVec 10) (s : State) : Host.Outcome State Fault Refusal := loadReg 4 r base off s

/-- LD.32 through a stream (04 R123). -/
def execLd32Stream (r : Dst) (st : Fin 8) (s : State) : Host.Outcome State Fault Refusal := loadStream 4 r st s

/-- ST.32 (04 R123). -/
def execSt32 (d : Sel) (base : Fin 32) (off : BitVec 10) (s : State) : Host.Outcome State Fault Refusal := storeReg 4 d base off s

/-- ST.32 through a stream (04 R123). -/
def execSt32Stream (d : Sel) (st : Fin 8) (s : State) : Host.Outcome State Fault Refusal := storeStream 4 d st s

/-- LD.64 (04 R123). -/
def execLd64 (r : Dst) (base : Fin 32) (off : BitVec 10) (s : State) : Host.Outcome State Fault Refusal := loadReg 8 r base off s

/-- LD.64 through a stream (04 R123). -/
def execLd64Stream (r : Dst) (st : Fin 8) (s : State) : Host.Outcome State Fault Refusal := loadStream 8 r st s

/-- ST.64 (04 R123). -/
def execSt64 (d : Sel) (base : Fin 32) (off : BitVec 10) (s : State) : Host.Outcome State Fault Refusal := storeReg 8 d base off s

/-- ST.64 through a stream (04 R123). -/
def execSt64Stream (d : Sel) (st : Fin 8) (s : State) : Host.Outcome State Fault Refusal := storeStream 8 d st s

end Sys2Proof.Machine
end

