-- ==== Sys2Proof/Machine/Words.lean ====
section
/-! DEFINITION. The meaning of each slot word, as the sequencer issues it (03 R71 to R87). Events are no words: they change nothing
here. -/
namespace Sys2Proof.Machine

/-- One slot word issued by the tile in focus. -/
def execWord (i : Instr) (s : State) : Host.Outcome State Fault Refusal :=
  match i with
  | .nop => execNop s
  | .halt => execHalt s
  | .trap imm => execTrap imm s
  | .br t => execBr t s
  | .brp g t => execBrp g t s
  | .brz nz k t => execBrz nz k t s
  | .call g t => execCall g t s
  | .ret g => execRet g s
  | .loop lv x t => execLoop lv x t s
  | .loops lv k t => execLoops lv k t s
  | .replay lv st k t => execReplay lv st k t s
  | .waitcue a => execWaitcue a s
  | .waitrel imm => execWaitrel imm s
  | .join a => execJoin a s
  | .waite j imm => execWaite j imm s
  | .clre imm => execClre imm s
  | .waitown u imm => execWaitown u imm s
  | .skipm n => execSkipm n s
  | .markRb => execMarkRb s
  | .markOv imm => execMarkOv imm s
  | .jumpOv t => execJumpOv t s
  | .signal j => execSignal j s
  | .add r a b => execAdd r a b s
  | .sub r a b => execSub r a b s
  | .and r a b => execAnd r a b s
  | .or r a b => execOr r a b s
  | .xor r a b => execXor r a b s
  | .shl r a b => execShl r a b s
  | .shr r a b => execShr r a b s
  | .sha r a b => execSha r a b s
  | .min r a b => execMin r a b s
  | .max r a b => execMax r a b s
  | .minn r a b => execMinn r a b s
  | .maxn r a b => execMaxn r a b s
  | .clz r a => execClz r a s
  | .popc r a => execPopc r a s
  | .mul r a b => execMul r a b s
  | .mulh r a b => execMulh r a b s
  | .mulhn r a b => execMulhn r a b s
  | .div r a b => execDiv r a b s
  | .divn r a b => execDivn r a b s
  | .rem r a b => execRem r a b s
  | .remn r a b => execRemn r a b s
  | .cmpEq n l p a b => execCmpEq n l p a b s
  | .cmpNe n l p a b => execCmpNe n l p a b s
  | .cmpLt n l p a b => execCmpLt n l p a b s
  | .cmpLtn n l p a b => execCmpLtn n l p a b s
  | .cmpGe n l p a b => execCmpGe n l p a b s
  | .cmpGen n l p a b => execCmpGen n l p a b s
  | .sel r a b inv q => execSel r a b inv q s
  | .bfx r a b => execBfx r a b s
  | .bfi r a b => execBfi r a b s
  | .addi r i => execAddi r i s
  | .andi r i => execAndi r i s
  | .ori r i => execOri r i s
  | .xori r i => execXori r i s
  | .shli r i => execShli r i s
  | .shri r i => execShri r i s
  | .shai r i => execShai r i s
  | .li r i => execLi r i s
  | .lih r i => execLih r i s
  | .ld8 r base off => execLd8 r base off s
  | .ld8Stream r st => execLd8Stream r st s
  | .ld16 r base off => execLd16 r base off s
  | .ld16Stream r st => execLd16Stream r st s
  | .ld32 r base off => execLd32 r base off s
  | .ld32Stream r st => execLd32Stream r st s
  | .ld64 r base off => execLd64 r base off s
  | .ld64Stream r st => execLd64Stream r st s
  | .st8 d base off => execSt8 d base off s
  | .st8Stream d st => execSt8Stream d st s
  | .st16 d base off => execSt16 d base off s
  | .st16Stream d st => execSt16Stream d st s
  | .st32 d base off => execSt32 d base off s
  | .st32Stream d st => execSt32Stream d st s
  | .st64 d base off => execSt64 d base off s
  | .st64Stream d st => execSt64Stream d st s
  | .setk k a => execSetk k a s
  | .seta st a => execSeta st a s
  | .setd st j a => execSetd st j a s
  | .setlc j a => execSetlc j a s
  | .setlb j a b => execSetlb j a b s
  | .rdid r i => execRdid r i s
  | .rdcfg r i => execRdcfg r i s
  | .rdcue r => execRdcue r s
  | .rddeck r => execRddeck r s
  | .vadd r a b => execVadd r a b s
  | .vsub r a b => execVsub r a b s
  | .vmul r a b => execVmul r a b s
  | .vmulh r a b => execVmulh r a b s
  | .vmin r a b => execVmin r a b s
  | .vmax r a b => execVmax r a b s
  | .vminn r a b => execVminn r a b s
  | .vmaxn r a b => execVmaxn r a b s
  | .vand r a b => execVand r a b s
  | .vor r a b => execVor r a b s
  | .vxor r a b => execVxor r a b s
  | .vshl r a b => execVshl r a b s
  | .vshr r a b => execVshr r a b s
  | .vsha r a b => execVsha r a b s
  | .vcmpEq a b => execVcmpEq a b s
  | .vcmpNe a b => execVcmpNe a b s
  | .vcmpLt a b => execVcmpLt a b s
  | .vcmpLtn a b => execVcmpLtn a b s
  | .vcmpGe a b => execVcmpGe a b s
  | .vcmpGen a b => execVcmpGen a b s
  | .vcmpFeq a b => execVcmpFeq a b s
  | .vcmpFne a b => execVcmpFne a b s
  | .vcmpFlt a b => execVcmpFlt a b s
  | .vcmpFge a b => execVcmpFge a b s
  | .vpushm a => execVpushm a s
  | .vinvm => execVinvm s
  | .vpopm => execVpopm s
  | .vsel r a b => execVsel r a b s
  | .vfadd r a b rm => execVfadd r a b rm s
  | .vfsub r a b rm => execVfsub r a b rm s
  | .vfmul r a b rm => execVfmul r a b rm s
  | .vfma r a b rm => execVfma r a b rm s
  | .vfmin r a b => execVfmin r a b s
  | .vfmax r a b => execVfmax r a b s
  | .vfabs r a => execVfabs r a s
  | .vfneg r a => execVfneg r a s
  | .vcvt r a fr tf rm => execVcvt r a fr tf rm s
  | .vqblk r a w rm => execVqblk r a w rm s
  | .vdqblk r a w rm => execVdqblk r a w rm s
  | .vmxq r a f rm => execVmxq r a f rm s
  | .vmxdq r a f rm => execVmxdq r a f rm s
  | .vexp2 r a => execVexp2 r a s
  | .vlog2 r a => execVlog2 r a s
  | .vrcp r a => execVrcp r a s
  | .vrsq r a => execVrsq r a s
  | .vtanh r a => execVtanh r a s
  | .vredadd r a ty => execVredadd r a ty s
  | .vredmax r a ty => execVredmax r a ty s
  | .vredmin r a ty => execVredmin r a ty s
  | .vscan r a ty => execVscan r a ty s
  | .vperm r a b => execVperm r a b s
  | .vshuf r a b => execVshuf r a b s
  | .vbcast r a b => execVbcast r a b s
  | .vins r a b => execVins r a b s
  | .vext r a b => execVext r a b s
  | .vlidx r a b => execVlidx r a b s
  | .vld r base off => execVld r base off s
  | .vldStream r st => execVldStream r st s
  | .vst d base off => execVst d base off s
  | .vstStream d st => execVstStream d st s
  | .vldx r a b => execVldx r a b s
  | .vstx d a b => execVstx d a b s
  | .mloadbW a => execMloadbW a s
  | .mloadbS row a => execMloadbS row a s
  | .mpush set row a wa wb sp step => execMpush set row a wa wb sp step s
  | .mshift b => execMshift b s
  | .macc set row => execMacc set row s
  | .maccDrop set row => execMaccDrop set row s
  | .mscale a => execMscale a s
  | .mzero set => execMzero set s
  | .mdrain r set row f => execMdrain r set row f s
  | .mmode syn sp pw => execMmode syn sp pw s
  | .msparse a => execMsparse a s
  | .mflags r set => execMflags r set s
  | .flyRd g kg => execFlyRd g kg s
  | .flyWr g kg => execFlyWr g kg s
  | .flyRd2 g kg => execFlyRd2 g kg s
  | .flyWr2 g kg => execFlyWr2 g kg s
  | .acopyRd g kg sc => execAcopyRd g kg sc s
  | .acopyWr g kg sc => execAcopyWr g kg sc s
  | .acopy2d g kg sc => execAcopy2d g kg sc s
  | .qmark g sc => execQmark g sc s
  | .xcopy g kg rm => execXcopy g kg rm s
  | .xfill g kg => execXfill g kg s
  | .give g kg o => execGive g kg o s
  | .ownq l g kg => execOwnq l g kg s
  | .wheelLd l g kg => execWheelLd l g kg s
  | .wheelSt g kg => execWheelSt g kg s
  | .wheelAdd l g kg => execWheelAdd l g kg s
  | .wheelXchg l g kg => execWheelXchg l g kg s
  | .wheelCas l g kg => execWheelCas l g kg s
  | .mbput g kg => execMbput g kg s
  | .mbget l g kg => execMbget l g kg s
  | .chorusAr g kg sc op => execChorusAr g kg sc op s
  | .chorusAg g kg sc => execChorusAg g kg sc s
  | .chorusRs g kg sc op => execChorusRs g kg sc op s
  | .chorusBc g kg sc => execChorusBc g kg sc s
  | .chorusBar g kg sc => execChorusBar g kg sc s
  | .chorusReady g kg sc => execChorusReady g kg sc s
  | .chorusCombine g kg sc op => execChorusCombine g kg sc op s
  | .chorusJoin g kg sc => execChorusJoin g kg sc s
  | .chorusLeave g kg sc => execChorusLeave g kg sc s
  | .siteq l g st => execSiteq l g st s
  | .hop a side w => execHop a side w s
  | .hopPass side w fr => execHopPass side w fr s
  | .recv r side w => execRecv r side w s
  | .xsend a side w ch => execXsend a side w ch s
  | .xrecv r side w ch => execXrecv r side w ch s
  | .bandq r a => execBandq r a s
  | .cuetrim => execCuetrim s
  | .castKey a b => execCastKey a b s
  | .castRand r a => execCastRand r a s
  | .castUnif r a => execCastUnif r a s
  | .castScore r a => execCastScore r a s
  | .castTopkK a b => execCastTopkK a b s
  | .castTopkP a b => execCastTopkP a b s
  | .castMass r => execCastMass r s
  | .castPick r a => execCastPick r a s
  | .castClr => execCastClr s
  | .sequencerIssue _ => .next s
  | .resultLanding _ => .next s
  | .waitcueTargetReached _ => .next s
  | .waitrelExpiry _ => .next s
  | .waiteWake _ => .next s
  | .waiteDeadline _ => .next s
  | .waitownWake _ => .next s
  | .waitownDeadline _ => .next s
  | .localLimitDeadline _ => .next s
  | .missingMarkRb _ => .next s
  | .signalArrival _ => .next s
  | .hopBeatLanding _ => .next s
  | .crossingBeatArrival _ => .next s
  | .crossingWordLost _ _ _ => .next s
  | .gatedWriteRelease _ => .next s
  | .flyMemoryPoint _ => .next s
  | .flyCompletion _ => .next s
  | .wheelMemoryPoint _ => .next s
  | .wheelResult _ => .next s
  | .acopyLoadCompletion _ => .next s
  | .acopyStoreCompletion _ => .next s
  | .acopyPageFault _ _ => .next s
  | .qmarkCompletion _ => .next s
  | .tileCopyStart _ => .next s
  | .tileCopyCompletion _ => .next s
  | .mailboxPutPerformed _ => .next s
  | .mailboxGetPerformed _ => .next s
  | .chorusMemberCompletion _ _ => .next s
  | .chorusStaleCompletion _ => .next s
  | .chorusTimeout _ _ => .next s
  | .barCompletion _ _ => .next s
  | .combineCompletion _ => .next s
  | .ringBoundary _ => .next s
  | .overlayFetchCompletion _ => .next s
  | .holdAnnouncement _ _ => .next s
  | .holdBegin _ => .next s
  | .holdEnd _ => .next s
  | .companyStart _ => .next s
  | .launchEnd _ => .next s
  | .launchFaultEnd _ => .next s
  | .uncorrectableError _ => .next s
  | .rollbackRestart _ => .next s
  | .correctedError _ => .next s
  | .scrub _ => .next s
  | .freezeAnnouncement _ _ => .next s
  | .freeze _ => .next s
  | .freezeSaveComplete _ => .next s
  | .instructionMemoryRewrite _ => .next s
  | .resume _ => .next s
  | .placementPass => .next s
  | .pfack _ => .next s
  | .pageFaultUnresolvable _ => .next s
  | .pageMigration _ _ _ _ => .next s
  | .hostCxlRead _ _ => .next s
  | .hostCxlWrite _ _ => .next s
  | .hdmDecoderCommit _ _ _ _ => .next s
  | .periodicTrim _ _ => .next s
  | .trimExchange _ _ _ _ _ => .next s
  | .ofsMeasurement _ _ _ _ _ => .next s
  | .circuitTeardown _ => .next s
  | .circuitSetup _ _ => .next s
  | .linkCrcFailure _ _ => .next s
  | .islandRegulatorFailure _ _ _ => .next s
  | .regionRailFailure _ _ => .next s
  | .busLow => .next s
  | .busCollapse => .next s
  | .powerStageTrip _ => .next s
  | .presenceClampClosed _ => .next s
  | .presenceOpen _ => .next s
  | .clampOpen _ => .next s
  | .powerGood _ => .next s
  | .phaseTimeLimit _ => .next s
  | .selfTest _ _ => .next s
  | .admission _ _ => .next s
  | .siteTransitionEffect => .next s
  | .keepAliveSend _ => .next s
  | .keepAliveSilence _ => .next s
  | .cmdPower _ => .next s
  | .cmdDrain _ => .next s
  | .cmdUndrain _ => .next s
  | .cmdReset _ => .next s
  | .siteRequestButton _ => .next s
  | .freshrdClear _ => .next s
  | .rejoinGangStart _ _ => .next s
  | .doorbell _ _ => .next s
  | .qcmdResume _ => .next s
  | .qcmdSkip _ => .next s
  | .qcmdReset _ => .next s
  | .queueVisit => .next s
  | .packetUnblock _ => .next s
  | .packetNop _ => .next s
  | .launch _ => .next s
  | .copy _ => .next s
  | .copyCompletion _ => .next s
  | .weightload _ => .next s
  | .weightloadApply _ => .next s
  | .putmb _ => .next s
  | .waitmb _ => .next s
  | .unloadCode _ => .next s
  | .unloadData _ => .next s
  | .unloadLaunch _ => .next s
  | .unloadCompletion _ => .next s
  | .indirect _ => .next s
  | .fence _ => .next s
  | .rejoin _ => .next s
  | .rejoinWithdraw _ => .next s
  | .mailboxFullClear _ _ => .next s
  | .logdropClear _ => .next s
  | .deckColdStart _ => .next s
  | .recoveryImageWrite _ => .next s
  | .firmwareUpdate _ => .next s
  | .firmwareRestart => .next s
  | .ownerKeyEnrolment _ => .next s
  | .attestationReport _ => .next s
  | .commandLinkMessage _ _ => .next s
  | .commandLinkPermitTimeout _ _ => .next s
  | .networkWriteReceived _ _ _ _ => .next s
  | .congestionNotification _ => .next s
  | .retransmissionLimit _ => .next s
  | .sensorRead _ _ _ _ => .next s
  | .reefTargetRaise _ => .next s
  | .reefTargetLower _ => .next s
  | .thermalTrip _ => .next s
  | .reefLevelChange _ => .next s
  | .reefminWrite _ _ => .next s
  | .islandWake _ _ _ => .next s
  | .registerWrite _ _ _ => .next s
  | .fatalModuleError _ => .next s
  | .presenceOpenFor222Cycles _ => .next s
  | .overlayFetchTranslationFault _ => .next s
  | .linkReturnToService _ => .next s

end Sys2Proof.Machine
end

