-- ==== Sys2Proof/Machine/Sequencer.lean ====
section
/-! DEFINITION. The sequencer: issue of a bundle (04 R96, 03 R80, 11 R291), waits and their deadlines (04 R103 to R107), the local limit
(09 R241), replay boundaries (09 R247 to R249). -/
namespace Sys2Proof.Machine

/-! ### Company cycles (15 R362) -/

/-- Deck cycles in 16 that carry a company cycle (15 R362). -/
def reefT (l : Fin 4) : Nat := 16 - 2 * l.val

/-- Whether a company runs and this deck cycle carries a cycle of it (15 R362). -/
def Company.carries (c : Company) (deck : Nat) : Bool :=
  decide (c.mode = .running) && decide (c.d0 ≤ deck) && decide ((deck - c.d0) * reefT c.level % 16 < reefT c.level)

/-- The deck cue from which a region no longer issues for a company whose launch ends: within 256 cycles of the cause, free (11 R298,
log 5). -/
def FatalCause.stopCue (f : FatalCause) (site : SiteId) (q : Fin 4) : Nat :=
  f.since + Config.freeNat (f.draw + 4 * site.val + q.val) % 257

/-- Whether a region of a site still issues for a company. -/
def Company.regionRuns (c : Company) (deck : Nat) (site : SiteId) (q : Fin 4) : Bool :=
  match c.fatal with
  | none => true
  | some f => decide (deck < f.stopCue site q)

/-- Whether a tile's sequencer works in this cycle: its company runs and carries a cycle, it is neither halted nor lost, its gang has
started (13 R334). A tile in its handler when a cause ends the launch issues nothing more: it does not reach its JOIN (11 R304; log 62). -/
def Here.alive (h : Here) : Bool :=
  h.co.carries h.s.cue && h.co.regionRuns h.s.cue h.t.site h.t.region && !(h.st.handler && h.co.fatal.isSome) && !h.st.halted && !h.t.lost && !h.s.pastLoss h.t.site &&
    decide (h.gang.base ≤ h.cue)

/-- Whether a tile issues a bundle now. -/
def Here.issues (h : Here) : Bool := h.alive && decide (h.st.wait = .none)

/-! ### Issue (04 R96, 03 R80) -/

/-- The slots, in order (03 R70). -/
def slots : List Slot := [.c, .s, .va, .vb, .m, .xa, .xb, .f]

/-- A slot's number (03 R70). -/
def slotNo : Slot → Nat
  | .c => 0
  | .s => 1
  | .va => 2
  | .vb => 3
  | .m => 4
  | .xa => 5
  | .xb => 6
  | .f => 7

/-- The words of a bundle issued in slot order; those that raise a cause leave nothing but the cause (03 R80). -/
def issueSlots (b : Bundle) : List Slot → State → List Raise → State × List Raise
  | [], s, rs => (s, rs)
  | u :: r, s, rs =>
    match decode u (slotWord b u) with
    | none => issueSlots b r s (rs ++ [⟨cILLEGAL, BitVec.ofNat 64 (2 ^ slotNo u), u⟩])
    | some i =>
      match execWord i { s with slot := u, raised := none } with
      | .next t => match t.raised with
        | some x => issueSlots b r s (rs ++ [x])
        | none => issueSlots b r t rs
      | _ => issueSlots b r s rs

/-- The cause taken of those a bundle raises: the highest priority, the lowest slot; ILLEGAL names every slot (11 R291, 03 R78). -/
def takenCause : List Raise → Option (BitVec 8 × W64)
  | [] => none
  | x :: r =>
    let all := x :: r
    if all.any fun y => y.code == cILLEGAL then
      some (cILLEGAL, (all.filter fun y => y.code == cILLEGAL).foldl (fun i y => i ||| y.info) 0)
    else
      let best := r.foldl (fun (a : Raise) y => if priority y.code < priority a.code then y else a) x
      some (best.code, best.info)

/-- The bundle just issued becomes the one a trap after issue names; the ordinal counts it (01 R38, 11 R293). -/
def TState.issued (st : TState) (b : Bundle) : TState :=
  { st with
    lastAddr := st.pc
    lastSeg := st.segs[st.half]
    lastBundle := b
    ordinal := st.ordinal + 1
    lastGroup := some st.groupOf }

/-- The state in which a bundle's words read: a group switch has cleared the latches where one falls (01 R22). -/
def TState.beforeBundle (st : TState) : TState := if st.lastGroup = some st.groupOf then st else st.groupSwitch

/-- A bundle whose words raise nothing: its effects, then the next address (04 R96). -/
def State.finishBundle (s : State) (k : TileKey) (b : Bundle) : State :=
  match s.hereAt k with
  | none => s
  | some h =>
    let st := h.st.issued b
    h.put (st.leaveBundle h.cue st.xfer)

/-- A tile about to issue: an address that a RET popped is absolute and is not checked against the segment, so in an overlaid binary it
chooses the half (03 R79, 04 R102). -/
def Here.enterPopped (h : Here) : Here :=
  if h.st.popped then
    { h with t := { h.t with st := { h.st with
        popped := false
        half := if h.overlaid then ⟨h.st.pc / 1024 % 2, Nat.mod_lt _ (by decide)⟩ else h.st.half } } }
  else h

/-- Whether a tile made no boundary in the company cycle before, which was one (09 R247). -/
def Here.missedMark (h : Here) : Bool :=
  let b := h.cue - 1
  decide (0 < h.cue) && boundaryAt h.co b && decide (h.gang.base ≤ b) && decide (h.st.marked ≠ some b)

/-- The entry of a tile into local state, where the local limit is past (09 R241). -/
def Here.pastLimit (h : Here) : Option Nat := h.st.localSince.filter fun c => decide (c + h.gang.bin.localLimit < h.cue)

/-- Whether a tile has entered its handler in this cycle: nothing has issued there yet. -/
def TState.trapped (st : TState) : Bool := st.handler && st.lastGroup.isNone

/-- The DEADLINE of kind 7 or 5 that a tile raises in this cycle; of both, kind 7 (DESIGN CHOICE, log 94). -/
def Here.finalDeadline (h : Here) : Option W64 :=
  if h.missedMark then some (deadlineInfo 7 0 (h.cue - 1)) else h.pastLimit.map fun c => deadlineInfo 5 0 (h.cue - c)

/-- A cause raised at issue taken; a DEADLINE that ends the launch in the same cycle goes before causes of a lower priority (11 R289), and before the
kinds that a bundle raises (DESIGN CHOICE, log 94). -/
def Here.takeIssueCause (h : Here) (code : BitVec 8) (info : W64) : State :=
  match (if priority code < priority cDEADLINE then none else h.finalDeadline) with
  | some d => h.takeTrap false cDEADLINE d
  | none => h.takeTrap true code info

/-- The bundle at the tile's address issued (04 R96, R110; 03 R79, R80). Where no bundle stands, whether issue ran on or a transfer came there,
the flow rule's ILLEGAL is raised (log 55). -/
def Here.issueBundle (h₀ : Here) : State :=
  let h := h₀.enterPopped
  match h.t.bundleAt h.st.pc with
  | none => h.takeTrap true cILLEGAL 0x100
  | some b =>
    let st := h.st.beforeBundle
    if 0 < st.skip then h.put { (st.issued b).stepOn with skip := st.skip - 1 }
    else
      let s0 := { h.put st with focus := h.t.key, raised := none }
      let r := issueSlots b slots s0 []
      match takenCause r.2 with
      | some c => match s0.hereAt h.t.key with
        | some h0 => h0.takeIssueCause c.1 c.2
        | none => s0
      | none => { r.1.finishBundle h.t.key b with raised := none }

/-- SEQUENCER_ISSUE: a tile that may issue issues one bundle (04 R96). -/
def execSequencerIssue (k : TileKey) (s : State) : Host.Outcome State Fault Refusal :=
  atTile k (fun h => if h.issues then h.issueBundle else s) s

/-! ### Waits (04 R103 to R107) -/

/-- WAITCUE_TARGET_REACHED: the wait of a WAITCUE or JOIN ends in the cycle of its target (04 R103). -/
def execWaitcueTargetReached (k : TileKey) (s : State) : Host.Outcome State Fault Refusal :=
  atTile k (fun h => match h.st.wait with
    | .until t false => if h.alive && decide (t ≤ h.cue) then h.put { h.st with wait := .none } else s
    | _ => s) s

/-- WAITREL_EXPIRY: the wait of a WAITREL ends (04 R104). -/
def execWaitrelExpiry (k : TileKey) (s : State) : Host.Outcome State Fault Refusal :=
  atTile k (fun h => match h.st.wait with
    | .until t true => if h.alive && decide (t ≤ h.cue) then h.put { h.st with wait := .none } else s
    | _ => s) s

/-- WAITE_WAKE: a sample within the budget finds the flag set (04 R106). -/
def execWaiteWake (k : TileKey) (s : State) : Host.Outcome State Fault Refusal :=
  atTile k (fun h => match h.st.wait with
    | .event j last _ => if h.alive && decide (h.cue ≤ last) && h.st.flag j then h.put { h.st with wait := .none } else s
    | _ => s) s

/-- WAITE_DEADLINE: no sample found the flag; DEADLINE one cycle past the last (04 R106). -/
def execWaiteDeadline (k : TileKey) (s : State) : Host.Outcome State Fault Refusal :=
  atTile k (fun h => match h.st.wait with
    | .event j last budget => if h.alive && decide (last < h.cue) then h.takeTrap false cDEADLINE (deadlineInfo 3 j.val budget) else s
    | _ => s) s

/-- WAITOWN_WAKE: a sample within the budget finds the unit's owner CORE (04 R107). -/
def execWaitownWake (k : TileKey) (s : State) : Host.Outcome State Fault Refusal :=
  atTile k (fun h => match h.st.wait with
    | .owner u last _ => if h.alive && decide (h.cue ≤ last) && h.st.owner u.val == ownCore then h.put { h.st with wait := .none } else s
    | _ => s) s

/-- WAITOWN_DEADLINE: no sample found CORE (04 R107). -/
def execWaitownDeadline (k : TileKey) (s : State) : Host.Outcome State Fault Refusal :=
  atTile k (fun h => match h.st.wait with
    | .owner u last budget => if h.alive && decide (last < h.cue) then h.takeTrap false cDEADLINE (deadlineInfo 4 u.val budget) else s
    | _ => s) s

/-- LOCAL_LIMIT_DEADLINE: the first cycle past the local limit; the launch ends. Where a bundle has raised USER in the cycle, that goes before, and the
limit ends the launch a cycle on (09 R241, 11 R289; log 94). -/
def execLocalLimitDeadline (k : TileKey) (s : State) : Host.Outcome State Fault Refusal :=
  atTile k (fun h => match h.pastLimit with
    | some c => if h.alive && !h.st.trapped then h.takeTrap false cDEADLINE (deadlineInfo 5 0 (h.cue - c)) else s
    | none => s) s

/-! ### Replay boundaries (09 R247 to R249) -/

/-- MISSING_MARK_RB: a tile that made no boundary in its cue ends the launch one cycle on (09 R247); USER raised in that cycle goes before (11 R289). One that
has halted by then, be it in the bundle of that cue or of the next, counts as having made it (DESIGN CHOICE, log 95). -/
def execMissingMarkRb (k : TileKey) (s : State) : Host.Outcome State Fault Refusal :=
  atTile k (fun h =>
    if h.alive && !h.st.trapped && h.missedMark then h.takeTrap false cDEADLINE (deadlineInfo 7 0 (h.cue - 1)) else s) s

/-- The boundary image of a tile: latches clear, no latch write in flight (01 R42, 04 R111). -/
def TState.image (st : TState) : TState := { st.groupSwitch with skip := 0 }

/-- Whether some boundary cause is pending. -/
def Pending.any (p : Pending) : Bool := p.siteLost || p.regionLost || p.islandLost || p.routeLost || p.hole

/-- The set PEND (11 R296). -/
def Pending.bits (p : Pending) : Nat := flagsNat [p.siteLost, p.regionLost, p.islandLost, p.routeLost, p.hole]

/-- The sides whose status words hold losses, and the OR of their fields (11 R296). -/
def Tile.routeInfo (t : Tile) : Nat :=
  let ws := t.status.toList
  let lossy (x : SideStatus) : Bool := x.lost != 0 || x.torn != 0 || x.overrun != 0 || x.under != 0
  let or8 (f : SideStatus → BitVec 8) : Nat := (ws.foldl (fun a x => a ||| f x) 0).toNat
  flagsNat (ws.map lossy) * 2 ^ 24 + or8 (·.torn) * 2 ^ 16 + or8 (·.overrun) * 2 ^ 8 + or8 (·.under)

/-- The boundary cause of the highest priority and its tinfo (11 R289, R296). -/
def Tile.boundaryCause (t : Tile) : BitVec 8 × W64 :=
  let p := t.pend
  let w (x : Nat) : W64 := BitVec.ofNat 64 (p.bits * 2 ^ 56 + x)
  if p.siteLost then (cSITE, w p.sites.toNat)
  else if p.regionLost then (cREGION, w p.region.toNat)
  else if p.islandLost then (cISLAND, w p.island.toNat)
  else if p.routeLost then (cROUTE, w t.routeInfo)
  else (cHOLE, w (match p.holeAddr with
    | some a => 2 ^ 48 + a.toNat
    | none => 0))

/-- The cause pending at a boundary delivered: trap state recorded beside the image, a record posted, status words cleared by ROUTE_LOST
(09 R249, 11 R296, R301). -/
def State.deliver (s : State) (k : TileKey) : State :=
  match s.hereAt k with
  | none => s
  | some h =>
    if h.t.pend.any then
      let c := h.t.boundaryCause
      let r0 := faultRec 2 c.1 h.co.num (s.placeOf h.t) 0 c.2 (tpcOf h.st.lastSeg h.st.lastAddr) s.cue
      let rec_ := if c.1 = cROUTE then { r0 with st := h.t.status.map SideStatus.image } else r0
      let s := h.takeTrap false c.1 c.2
      let s := match s.tileAt k with
        | some t => s.setTile { t with
            imgTrap := some t.trap
            pend := Pending.launch
            status := if c.1 = cROUTE then Vector.replicate 4 SideStatus.launch else t.status }
        | none => s
      s.postRec h.t.site rec_
    else s

/-- The open interval of a company sealed (09 R248). Writes that a module past its loss cue held were lost in the open interval, and stay there until
they are counted (13 R330). -/
def State.seal (s : State) (c : Company) : Company :=
  let ws := c.gateOpen.filter fun w => !s.pastLoss w.site
  { c with
    gateSealed := if ws.isEmpty then c.gateSealed else c.gateSealed ++ [⟨c.cue, false, ws⟩]
    gateOpen := c.gateOpen.filter fun w => s.pastLoss w.site }

/-- The boundary of a company at the end of its cycle: images of every tile, words in crossings in their receivers' (08 R219), the open interval sealed, pending causes delivered to the
tiles that marked (04 R111; 09 R247 to R249). -/
def State.closeBoundary (s : State) (co : Nat) : State :=
  match s.coAt co with
  | none => s
  | some c =>
    let marked := ((s.tilesOf co).filter fun t => decide (t.st.marked = some c.cue) && !t.lost).map (·.key)
    let s := s.mapTiles co fun t =>
      if t.lost then { t with img := t.img.onRail (s.drained c t) }
      else { t with img := (s.drained c t).image, imgTrap := none, imgBad := false }
    let s := s.setCo { s.seal c with lastB := c.cue, sameB := 0, imgRounds := c.rounds }
    marked.foldl State.deliver s

end Sys2Proof.Machine
end

