-- ==== Sys2Proof/Machine/Recovery.lean ====
section
/-! DEFINITION. Rollback to the last boundary (09 R250, 07 R206) and what brings it about. -/
namespace Sys2Proof.Machine

/-- A copy entry outstanding at the boundary issued again (07 R206). -/
def AcEntry.again (x : AcEntry) : AcEntry := { x with stage := .waiting, pos := 0, got := [] }

/-- A tile as it restarts from its boundary image; a cause delivered at the boundary is delivered again (09 R250, 11 R296). -/
def Tile.restored (t : Tile) (c : Company) : Tile :=
  if t.lost then { t with st := t.st.onRail t.img }
  else
    let img := { t.img with
      marked := some c.lastB
      loadQ := t.img.loadQ.map AcEntry.again
      storeQ := t.img.storeQ.map AcEntry.again
      ovl := t.img.ovl.map fun o => { o with fault := false } }
    match t.imgTrap, c.info.handler with
    | some tr, some h => { t with trap := tr, st := img.enterHandler c.lastB h.toNat }
    | _, _ => { t with st := img }

/-- The site whose leaf controller posts a record: the site it names. -/
def recSite (p : RecPlace) : SiteId := ⟨p.site % 17, Nat.mod_lt _ (by decide)⟩

/-- A boundary cause delivered again at a rollback is recorded again (11 R301); ROUTE_LOST clears the status words (R296). -/
def State.redeliver (s : State) (c : Company) (k : TileKey) : State :=
  match s.tileAt k with
  | none => s
  | some t =>
    match t.imgTrap with
    | some tr =>
      if t.lost || c.info.handler.isNone then s
      else
        let route := tr.cause == cROUTE
        let r := faultRec 2 tr.cause c.num (s.placeOf t) 0 tr.info tr.pc s.cue
        (s.setTile { t with status := if route then Vector.replicate 4 SideStatus.launch else t.status }).postRec t.site
          (if route then { r with st := t.status.map SideStatus.image } else r)
    | none => s

/-- Deck cycles a company has spent in holds, with the one it stands in (09 R243, R261). -/
def Company.holdTotal (c : Company) (deck : Nat) : Nat :=
  c.holdCyc + match c.mode with
    | .held since => deck - since
    | _ => 0

/-- ROLLBACK (09 R250): the open interval is discarded, the images stand, company cue returns to the boundary; the restart is announced once
instruction memory is written again (R255). INFO of its record is the poisoned address, or zero (DESIGN CHOICE, log 19). A third in a row to one
boundary counts too and ends the launch, and so does a bad image that it needs. -/
def State.rollback (s : State) (co unit : Nat) (info : W64) (p : RecPlace) : State :=
  match s.coAt co with
  | none => s
  | some c =>
    if c.fatal.isSome then s
    else
      let s := s.postRec (recSite p) (faultRec 3 cECC co p unit info 0 s.cue)
      if 2 ≤ c.sameB || (s.tilesOf co).any fun t => t.imgBad && !t.lost then (s.setCo { c with rollbacks := c.rollbacks + 1 }).endCause co cECC info 0 unit none
      else
        let c' := { c with
          rollbacks := c.rollbacks + 1
          sameB := c.sameB + 1
          gateOpen := c.gateOpen.filter fun w => s.pastLoss w.site
          cue := c.lastB + 1
          holdCyc := c.holdTotal s.cue
          rounds := c.imgRounds
          mode := match c.mode with
            | .frozen .. | .resuming .. | .loading _ => c.mode
            | _ => .rolling none }
        let t := (((s.setCo c').closeReqs co).mapTiles co fun t => t.restored c).closeRounds co
        (t.tilesOf co).foldl (fun t u => t.redeliver c u.key) t

/-- A company's read of [a, a + n) of deck memory for a tile at a place: rolled back when a block is poisoned (11 R300), else what it marks as read
fresh (13 R332). The record of the rollback names the reader (11 R301; log 74). The Bool says whether the read stands. -/
def State.companyRead (s : State) (c : Company) (p : RecPlace) (a n : Nat) : State × Bool :=
  if s.poisoned a n then (s.rollback c.num 9 (BitVec.ofNat 64 a) p, false)
  else (s.freshRead (some c) (BitVec.ofNat 16 c.num) a n, true)

/-- Table entries a walker read: fresh blocks are marked for a walker, a poisoned one rolls the company back (10 R274, 11 R300). -/
def State.walkerRead (s : State) (c : Company) (p : RecPlace) : List Nat → State × Bool
  | [] => (s, true)
  | a :: r =>
    if s.poisoned a 8 then (s.rollback c.num 9 (BitVec.ofNat 64 a) p, false)
    else (s.freshRead none 0xffff a 8).walkerRead c p r

/-- What a fetch read: its table entries and bundles, poisoned ones rolling the company back (11 R300); the buffer gains its
translations. -/
def State.readFetch (s : State) (c : Company) (p : RecPlace) (f : SegFetch) : State × Bool :=
  f.frames.foldl (fun x a => if x.2 then x.1.companyRead c p a 32 else x) ((s.fill f.fills).walkerRead c p f.walks.eraseDups)

/-- The instruction memory of some tiles of a company written again (09 R250, R255); not where a read meets poison, or a translation fails,
which is reported. The Bool says whether it is. -/
def State.rewriteAll (s : State) (c : Company) (ts : List Tile) : State × Bool :=
  let ts := ts.filter fun t => !t.lost
  let fs := if c.info.overlaid then ts.flatMap fun t => t.rewriteSegs.map fun n => (t, n, s.fetch c t.site t.region n) else []
  let w := fs.foldl (fun x f => if x.2 then x.1.readFetch c (s.placeOf f.1) f.2.2 else x) (s, true)
  if !w.2 then w
  else match fs.findSome? fun f => f.2.2.bad.map fun b => (f.1.key, f.2.1, b) with
    | some (k, n, b) => (w.1.rewriteFault c k n b, false)
    | none => (ts.foldl (fun s' t => match c.gangAt t.key.gang with
        | some g => s'.setTile (s.rewritten c g t)
        | none => s') w.1, true)

/-- ROLLBACK_RESTART: instruction memory is rewritten, which a translation fault may delay; then the restart is announced for a cue at least 256
deck cycles ahead, freely (log 5); at that cue every tile goes on from the boundary (09 R250, R255). -/
def execRollbackRestart (co : Nat) (s : State) : Host.Outcome State Fault Refusal :=
  match s.coAt co with
  | none => .next s
  | some c =>
    match c.mode with
    | .rolling none =>
      if c.fatal.isNone then
        let w := s.rewriteAll c (s.tilesOf co)
        .next (if w.2 then { w.1.setCo { c with mode := .rolling (some (s.cue + 256 + Config.freeNat s.free)) } with free := s.free + 1 } else w.1)
      else .next s
    | .rolling (some at_) =>
      .next (if at_ ≤ s.cue ∧ c.fatal.isNone then (s.setCo { c with mode := .running, d0 := s.cue }).startCounters co else s)
    | _ => .next s

end Sys2Proof.Machine
end

