-- ==== Sys2Proof/Machine/EngineEvents.lean ====
section
/-! DEFINITION. The engines' own steps: fly and wheel memory points and completions (07 R185, R186, R196), copy entries and marks (07 R188
to R191), mailbox commands (07 R197), the release of gated writes (09 R248). -/
namespace Sys2Proof.Machine

/-- A tile whose engines work: its launch is not ending, its tile is not lost, its module not past its loss cue, its company is past its start and not rolling back. -/
def Here.works (h : Here) : Bool :=
  h.co.fatal.isNone && !h.t.lost && !h.s.pastLoss h.t.site && match h.co.mode with
    | .loading _ | .rolling _ => false
    | _ => true

/-- A step of an engine of a tile; nothing where the engine does not work (log 6). -/
def atEngine (k : TileKey) (f : Here → State) (s : State) : Host.Outcome State Fault Refusal :=
  atTile k (fun h => if h.works then f h else s) s

/-! ### Fly (07 R185, R186) -/

/-- Bytes of a fly command. -/
def FlyCmd.total (c : FlyCmd) : Nat := (c.rows.map (·.len)).foldl (· + ·) 0

/-- The cue a fly command completes (07 R185). -/
def FlyCmd.finish (c : FlyCmd) : Nat := if c.wr then c.issued + (c.total + 255) / 256 else c.issued + c.w

/-- The cells of bytes [lo, hi) of a fly write's rows, at their memory addresses. -/
def flyCells (m : Memory) : List XRow → Nat → Nat → List Host.Cell
  | [], _, _ => []
  | r :: rest, lo, hi =>
    (moveCells m (r.spad + lo) (r.mem + lo) (min r.len hi - lo)) ++ flyCells m rest (lo - r.len) (hi - r.len)

/-- A fly write reads bytes up to the cycle's share, 256 a cycle (07 R185). -/
def FlyCmd.readTo (c : FlyCmd) (m : Memory) (upto : Nat) : FlyCmd :=
  if c.wr && !c.landed && decide (c.data.length < min upto c.total) then
    { c with data := c.data ++ flyCells m c.rows c.data.length (min upto c.total) }
  else c

/-- The share of the cycle read by every fly write of a tile (07 R185). -/
def TState.flyReads (st : TState) (cue : Nat) : TState :=
  { st with fly := st.fly.map fun c => c.readTo st.spad (256 * (cue - c.issued)) }

/-- HOLE becomes pending in every tile of a company; the tile that made the access keeps its first address (07 R186, 11 R296). -/
def State.noteHole (s : State) (co : Nat) (k : TileKey) (a : Nat) : State :=
  s.mapTiles co fun t =>
    { t with pend := { t.pend with
        hole := true
        holeAddr := if t.key = k then some (t.pend.holeAddr.getD (BitVec.ofNat 48 a)) else t.pend.holeAddr } }

/-- The memory address of row 0 of a fly command. -/
def FlyCmd.addr (c : FlyCmd) : Nat := (c.rows.head?.map (·.mem)).getD 0

/-- A fly write past its memory point: gone when its rows have been read, else kept until they are (07 R185; 09 R252). -/
def FlyCmd.afterPoint (c : FlyCmd) : Option FlyCmd := if c.landed then none else some { c with point := true }

/-- The memory side of one fly command of a tile: a read takes memory as the company sees it, a write joins the open gate interval (07
R185, R186; 09 R248). A write sees the core stores issued before, those in flight among them (10 R281). -/
def State.flyPoint (s : State) (k : TileKey) (c : FlyCmd) : State :=
  match s.hereAt k with
  | none => s
  | some h =>
    let put (s : State) (h : Here) (c' : Option FlyCmd) : State :=
      s.setTile { h.t with st := { h.st with fly := match c' with
        | some x => h.st.fly.map fun y => if y = c then x else y
        | none => h.st.fly.erase c } }
    if s.siteHole c.site then
      let zero := (c.rows.map fun r => cellsAt r.spad (List.replicate r.len 0)).flatten
      (put s h (if c.wr then c.afterPoint else some { c with point := true, data := zero })).noteHole h.co.num k c.addr
    else if c.wr then
      let c1 := c.readTo h.st.engineSpad c.total
      let w : GWrite := ⟨s.place0 (.company h.co.num) 0, h.t.site, h.t.region, none, c1.data, k, none⟩
      put ({ s with nextOrd := s.nextOrd + 1 }.setCo { h.co with gateOpen := h.co.gateOpen ++ [w] }) h c.afterPoint
    else
      let cells := (c.rows.map fun r => cellsAt r.spad (s.companyBytes h.co r.mem r.len)).flatten
      let s := put s h (some { c with point := true, data := cells })
      (c.rows.foldl (fun (x : State × Bool) r => if x.2 then x.1.companyRead h.co (h.s.placeOf h.t) r.mem r.len else x) (s, true)).1

/-- The place of a command among those performed in one cycle: issue cue, tile id, slot (07 R196, 10 R284, 03 R76; log 46). -/
abbrev PointKey := Nat × Nat × Nat

/-- Whether one place lies before another. -/
def pointBefore (a b : PointKey) : Bool :=
  decide (a.1 < b.1) || a.1 == b.1 && (decide (a.2.1 < b.2.1) || a.2.1 == b.2.1 && decide (a.2.2 < b.2.2))

/-- Places of a tile's commands. -/
def FlyCmd.key (c : FlyCmd) (k : TileKey) : PointKey := (c.issued, tileIdOf k, slotNo c.slot)
def WheelCmd.key (c : WheelCmd) (k : TileKey) : PointKey := (c.issued, tileIdOf k, slotNo c.slot)

/-- Whether the memory point of a fly command has come and is not done. -/
def FlyCmd.due (c : FlyCmd) (cue : Nat) : Bool := !c.point && decide (c.issued + c.w / 2 ≤ cue)

/-- FLY_MEMORY_POINT: the memory side of the first fly command of a tile that is due (07 R185, 10 R284). -/
def execFlyMemoryPoint (k : TileKey) (s : State) : Host.Outcome State Fault Refusal :=
  atEngine k (fun h =>
    match h.st.fly.find? fun c => c.due h.cue with
    | some c => s.flyPoint k c
    | none => s) s

/-- One fly command completed: a read's bytes land, zeros if its data was lost on the way (13 R329); its units return (07 R185, R177). -/
def State.flyFinish (s : State) (k : TileKey) (c : FlyCmd) : State :=
  match s.hereAt k with
  | none => s
  | some h =>
    if c.wr then
      let c' := { c.readTo h.st.spad c.total with landed := true }
      let st := { h.st with fly := if c.point then h.st.fly.erase c else h.st.fly.map fun y => if y = c then c' else y }
      h.put (st.giveBack ownFly (unitsOf (rowSpans c.rows)) false)
    else
      let lost := s.siteHole c.site
      let cells := if lost then c.data.map fun x => (x.1, 0) else c.data
      let st := { h.st with fly := h.st.fly.erase c, spad := memPutAll h.st.spad cells }
      let s := h.put (st.giveBack ownFly (unitsOf (rowSpans c.rows)) false)
      if lost then s.noteHole h.co.num k c.addr else s

/-- FLY_COMPLETION: the fly commands of a tile that complete in this cycle (07 R185). -/
def execFlyCompletion (k : TileKey) (s : State) : Host.Outcome State Fault Refusal :=
  atEngine k (fun h =>
    (h.st.fly.filter fun c => !c.landed && (c.wr || c.point) && decide (c.finish ≤ h.cue)).foldl (fun s c => s.flyFinish k c) s) s

/-! ### The wheel (07 R196, R206) -/

/-- The word a wheel operation leaves, none when it writes nothing (07 R196). -/
def WheelCmd.newWord (c : WheelCmd) (x : W32) : Option W32 :=
  match c.op with
  | .ld => none
  | .st | .xchg => some c.val
  | .add => some (x + c.val)
  | .cas => if x = c.val then some c.new else none

/-- The NACK of an operation on a hole (07 R196). -/
def wheelNack : W64 := 0x100000000

/-- A wheel command performed, in the tile and in its boundary image, so that a rollback performs nothing twice (07 R206). -/
def Tile.wheelDone (t : Tile) (c : WheelCmd) (r : W64) : Tile :=
  let f (l : List WheelCmd) : List WheelCmd := l.map fun y => if y.issued = c.issued ∧ y.slot = c.slot then { y with res := some r } else y
  { t with st := { t.st with wheel := f t.st.wheel }, img := { t.img with wheel := f t.img.wheel } }

/-- The memory side of one wheel command: atomic, not gated (07 R196, 10 R269, R285). WHEEL.ST reads nothing. -/
def State.wheelPoint (s : State) (k : TileKey) (c : WheelCmd) : State :=
  match s.hereAt k with
  | none => s
  | some h =>
    if s.siteHole c.site then s.setTile (h.t.wheelDone c wheelNack)
    else
      let x : W32 := BitVec.ofNat 32 (leNat (s.companyBytes h.co c.addr 4))
      let r := if c.op = .st then (s, true) else s.companyRead h.co (s.placeOf h.t) c.addr 4
      if r.2 then
        let s := r.1.setTile (h.t.wheelDone c (x.setWidth 64))
        match c.newWord x with
        | some y => s.placeWrite (.company h.co.num) (cellsAt c.addr (leBytes 4 y.toNat))
        | none => s
      else r.1

/-- Whether the memory point of a wheel command has come and is not done. -/
def WheelCmd.due (c : WheelCmd) (cue : Nat) : Bool := c.res.isNone && decide (c.issued + c.w / 2 ≤ cue)

/-- Whether a wheel command of a tile is performed now: its memory point has come, or that of a command behind it in the wheel's order on
the same word has (07 R196, 10 R285; log 46). -/
def State.wheelNow (s : State) (co : Company) (k : TileKey) (c : WheelCmd) : Bool :=
  c.res.isNone && (c.due co.cue || (s.tilesOf co.num).any fun t => !t.lost && t.st.wheel.any fun d =>
    d.due co.cue && d.addr == c.addr && pointBefore (c.key k) (d.key t.key))

/-- WHEEL_MEMORY_POINT: the first wheel command of a tile that is performed now (07 R196). -/
def execWheelMemoryPoint (k : TileKey) (s : State) : Host.Outcome State Fault Refusal :=
  atEngine k (fun h =>
    match h.st.wheel.find? fun c => s.wheelNow h.co k c with
    | some c => s.wheelPoint k c
    | none => s) s

/-- WHEEL_RESULT: the results of a tile due in this cycle land with e3; one in transit from a lost site is a NACK (07 R196, 13 R329). -/
def execWheelResult (k : TileKey) (s : State) : Host.Outcome State Fault Refusal :=
  atEngine k (fun h =>
    let due (c : WheelCmd) : Bool := c.res.isSome && decide (c.issued + c.w ≤ h.cue)
    let st := (h.st.wheel.filter due).foldl (fun (st : TState) c =>
      let r := if s.siteHole c.site then wheelNack else c.res.getD 0
      let st := match c.lat with
        | some l => { st with latS := st.latS.set (latSIdx l.1 l.2) r }
        | none => st
      st.arrives 3) { h.st with wheel := h.st.wheel.filter fun c => !due c }
    h.put st) s

/-! ### The drain of a freeze (07 R206, 09 R252) -/

/-- A memory side still to be performed: its memory point and place, its tile, the command. -/
structure Drain where
  at_ : Nat
  key : PointKey
  tile : TileKey
  cmd : FlyCmd ⊕ WheelCmd

/-- The order of memory points, then of issue (10 R284). -/
def Drain.before (a b : Drain) : Bool := decide (a.at_ < b.at_) || a.at_ == b.at_ && pointBefore a.key b.key

/-- The memory sides a tile has still to perform. -/
def Tile.drains (t : Tile) : List Drain :=
  if t.lost then []
  else ((t.st.fly.filter fun c => !c.point).map fun c => ⟨c.issued + c.w / 2, c.key t.key, t.key, .inl c⟩) ++
    ((t.st.wheel.filter fun c => c.res.isNone).map fun c => ⟨c.issued + c.w / 2, c.key t.key, t.key, .inr c⟩)

/-- Whether a memory side is a fly command's. -/
def Drain.isFly (d : Drain) : Bool := match d.cmd with
  | .inl _ => true
  | .inr _ => false

/-- The rollbacks of a company, by which a fold of reads sees that one met poison (11 R300). -/
def State.rollbacksOf (s : State) (co : Nat) : Nat := (s.coAt co).elim 0 (·.rollbacks)

/-- A wheel command performed, behind those of its company that stand before it on the same word and are not done (10 R285). A rollback on the
way ends it (11 R300). -/
def State.wheelThrough (s : State) (k : TileKey) (c : WheelCmd) : State :=
  let ds := (s.tilesOf k.co).flatMap fun t => if t.lost then [] else
    (t.st.wheel.filter fun d => d.res.isNone && d.addr == c.addr && !pointBefore (c.key k) (d.key t.key)).map fun d => (t.key, d)
  (sortBy (fun a b => pointBefore (a.2.key a.1) (b.2.key b.1)) ds).foldl
    (fun t x => if t.rollbacksOf k.co = s.rollbacksOf k.co then t.wheelPoint x.1 x.2 else t) s

/-- The memory sides that a freeze completes: every fly command's, and each wheel command's that stands before one of them, so that they take
effect in order of memory point, wheel commands on one word in their order (07 R206; 10 R284, R285; log 58). A rollback on the way ends it (11 R300). -/
def State.drainPoints (s : State) (co : Nat) : State :=
  let all := sortBy Drain.before ((s.tilesOf co).flatMap Tile.drains)
  let now := (all.reverse.dropWhile fun d => !d.isFly).reverse
  now.foldl (fun t d => if t.rollbacksOf co = s.rollbacksOf co then match d.cmd with
      | .inl c => t.flyPoint d.tile c
      | .inr c => t.wheelThrough d.tile c
    else t) s

/-! ### Copy entries (07 R188 to R191) -/

/-- A piece of a transfer within one aligned block of memory, a page of 4 KiB unless said: its place in the copy's byte stream, memory address, scratchpad address,
bytes. -/
structure Piece where
  pos : Nat
  mem : Nat
  spad : Nat
  len : Nat

/-- The pieces of a row from place `pos` of the stream, in blocks of n bytes. -/
def XRow.pieces (n : Nat) (r : XRow) (pos : Nat) : List Piece :=
  if r.len = 0 then []
  else (List.range ((r.mem + r.len - 1) / n + 1 - r.mem / n)).map fun i =>
    let lo := max r.mem ((r.mem / n + i) * n)
    let hi := min (r.mem + r.len) ((r.mem / n + i + 1) * n)
    ⟨pos + (lo - r.mem), lo, r.spad + (lo - r.mem), hi - lo⟩

/-- The pieces of rows in blocks of n bytes. -/
def cutRows (n : Nat) : List XRow → Nat → List Piece
  | [], _ => []
  | r :: rest, pos => r.pieces n pos ++ cutRows n rest (pos + r.len)

/-- The pieces of rows, one to a page. -/
def piecesOf (rows : List XRow) (pos : Nat) : List Piece := cutRows 4096 rows pos

/-- The accesses of an entry, each atomic (10 R268): one to a block of 64 bytes. -/
def AcEntry.accesses (x : AcEntry) : List Piece := cutRows 64 x.rows 0

/-- The virtual address of the page a piece lies in (10 R275). -/
def Piece.page (p : Piece) : Nat := p.mem / 4096 * 4096

/-- Whether an access of an entry is made: written in the gate, or read. -/
def AcEntry.made (x : AcEntry) (store : Bool) (p : Piece) : Bool :=
  if store then decide (p.pos + p.len ≤ x.pos) else x.got.any fun g => g.1 == p.pos

/-- Whether an entry references the page of n bytes at an address: it has made some access to it, and not all (10 R276). -/
def AcEntry.refers (x : AcEntry) (store : Bool) (page n : Nat) : Bool :=
  let on := x.accesses.filter fun p => decide (page ≤ p.mem) && decide (p.mem < page + n)
  on.any (x.made store) && on.any fun p => !x.made store p

/-- The accesses of a load entry still to be made. -/
def AcEntry.toRead (x : AcEntry) : List Piece := x.accesses.filter fun p => !x.made false p

/-- Bytes of an entry. -/
def AcEntry.total (x : AcEntry) : Nat := (x.rows.map (·.len)).foldl (· + ·) 0

/-- An entry as it reaches memory now: pieces with their places up to the first that has none, the entries of tables read, and what the
first bad piece meets. -/
structure Reach where
  good : List (Piece × Place)
  walks : List Nat
  fills : List XlateEntry
  bad : Option (Piece × Place)

/-- The reach of pieces; `held` tells the pages that the entry references already. -/
def State.reach (s : State) (k : XlateKey) (e : SegEntry) (wr : Bool) (held : Nat → Nat → Bool) : List Piece → Reach
  | [] => ⟨[], [], [], none⟩
  | p :: r =>
    let x := s.place k e wr held p.mem
    match x.1 with
    | .deck _ | .host .. =>
      let y := s.reach k e wr held r
      ⟨(p, x.1) :: y.good, x.2.reads ++ y.walks, x.2.fills ++ y.fills, y.bad⟩
    | b => ⟨[], x.2.reads, x.2.fills, some (p, b)⟩

/-- The reach of pieces of an entry, through the buffer of the tile's region (10 R274). -/
def Here.reachOf (h : Here) (e : SegEntry) (store : Bool) (x : AcEntry) (ps : List Piece) : Reach :=
  h.s.reach ⟨h.t.site, h.t.region, h.co.num, some x.seg⟩ e store (x.refers store) ps

/-- The table entries that a reach read, poisoned ones rolling the company back (11 R300); the buffer gains its translations. -/
def Here.readTables (h : Here) (r : Reach) : State × Bool := (h.s.fill r.fills).walkerRead h.co (h.s.placeOf h.t) r.walks

/-- The first byte of the stream not transferred when the piece at `pos` fails: its 4 KiB page of the stream (07 R189, R191). -/
def pageStart (pos : Nat) : Nat := pos / 4096 * 4096

/-- Pieces cut to the stream range [lo, hi). -/
def cutPieces (lo hi : Nat) (ps : List (Piece × Place)) : List (Piece × Place) :=
  ps.filterMap fun x =>
    let a := max lo x.1.pos
    let b := min hi (x.1.pos + x.1.len)
    if a < b then
      let d := a - x.1.pos
      some (⟨a, x.1.mem + d, x.1.spad + d, b - a⟩, match x.2 with
        | .deck pa => .deck (pa + d)
        | .host p u => .host p (u + d)
        | y => y)
    else none

/-- Whether some piece goes to host memory: then the host answers, with an error freely (10 R275, log 5). -/
def usesHost (ps : List (Piece × Place)) : Bool := ps.any fun x => match x.2 with
  | .host .. => true
  | _ => false

/-- The 4 KiB page of the stream at which a host access of some pieces ends with an error, freely which, or none (10 R275; 07 R189; log 5). -/
def hostError (ps : List (Piece × Place)) (f : Nat) : Option Nat :=
  let hs := ps.filter fun x => usesHost [x]
  if Config.freeBool f then (hs[Config.freeNat (f + 1) % hs.length]?).map fun x => pageStart x.1.pos else none

/-- The tile with the draws of a host error made, where host memory is reached. -/
def Here.hostDrawn (h : Here) (ps : List (Piece × Place)) : Here := if usesHost ps then { h with s := { h.s with free := h.s.free + 2 } } else h

/-- The flag and report of an entry completed, its units returned (07 R188, R189, R191). The entry is out of its queue. -/
def Here.acopyEnd (h : Here) (st : TState) (x : AcEntry) (store : Bool) (fault : Option (Nat × Nat)) : State :=
  let st := (st.giveBackLate ownAcopy (unitsOf (rowSpans x.rows)) fault.isSome).arrives (if fault.isSome then 9 else if store then 1 else 0)
  let w := match fault with
    | some f => reportWord 0x20 f.1 0 h.t.key f.2
    | none => reportWord 0 0 0 h.t.key 0
  (h.put st).report h.co x.rep x.rslot w

/-- The bytes a piece reads as the company sees memory (10 R279, R280). -/
def Here.pieceBytes (h : Here) (p : Piece × Place) : List Byte :=
  match p.2 with
  | .deck pa => h.s.companyBytes h.co pa p.1.len
  | .host port bus => h.s.companyHost h.co port bus p.1.len
  | _ => []

/-- Pieces read: a poisoned block rolls the company back (11 R300), fresh ones are marked (13 R332). -/
def State.readPieces (s : State) (h : Here) (ps : List (Piece × Place)) : State × Bool :=
  ps.foldl (fun (a : State × Bool) p => match p.2 with
    | .deck pa => if a.2 then a.1.companyRead h.co (h.s.placeOf h.t) pa p.1.len else a
    | _ => a) (s, true)

/-- The accesses of a load entry still to be made, within pieces that have their places. -/
def AcEntry.unread (x : AcEntry) (r : Reach) (upto : Nat) : List (Piece × Place) :=
  x.toRead.flatMap fun p => cutPieces p.pos (min upto (p.pos + p.len)) r.good

/-- The scratchpad cells of a load entry up to a place of its stream, from all it has read (07 R188). -/
def AcEntry.landing (x : AcEntry) (got : List (Nat × List Byte)) (upto : Nat) : List Host.Cell :=
  x.accesses.flatMap fun p => cellsAt p.spad ((((got.find? fun g => g.1 == p.pos).map (·.2)).getD []).take (upto - p.pos))

/-- The oldest load entry does the reads it has not done yet and completes: the good pieces up to the place where it stops (07 R188,
R191). -/
def Here.loadDo (h : Here) (x : AcEntry) (rest : List AcEntry) (r : Reach) (stop : Option (Nat × Nat)) : State :=
  let upto := (stop.map (·.2)).getD x.total
  let ps := x.unread r upto
  let w := h.readTables r
  if !w.2 then w.1
  else
    let rd := w.1.readPieces h ps
    if !rd.2 then rd.1
    else
      let got := x.got ++ ps.map fun p => (p.1.pos, h.pieceBytes p)
      let st := { h.st with loadQ := rest, spad := memPutAll h.st.spad (x.landing got upto) }
      ({ h with s := rd.1 } : Here).acopyEnd st x false (stop.map fun (f : Nat × Nat) => (f.1, f.2 / 4096))

/-- Whether two accesses touch one byte of memory. -/
def Place.meets (a : Place) (n : Nat) (b : Place) (m : Nat) : Bool :=
  match a, b with
  | .deck x, .deck y => decide (x < y + m) && decide (y < x + n)
  | .host p x, .host q y => p == q && decide (x < y + m) && decide (y < x + n)
  | _, _ => false

/-- Whether a load entry older than an access leaves it free to be made: each access the older entry has still to make has its place, up to
where it stops for good, and touches no byte of this one (10 R282). -/
def Here.passedBy (h : Here) (p : Piece × Place) (y : AcEntry) : Bool :=
  match h.segOf y.seg with
  | none => true
  | some e =>
    let r := h.reachOf e false y y.toRead
    (match r.bad with
      | some (_, .fault _) => false
      | _ => true) && r.good.all fun q => !p.2.meets p.1.len q.2 q.1.len

/-- The accesses of a load entry at some places of its stream, made ahead of its completion: no mark stands before the entry, no page without a
mapping is reached, and no older load has still to read the bytes (10 R280, R282; 07 R190; log 17). -/
def Here.acopyReads (h : Here) (id : Nat) (places : List Nat) : State :=
  let older := h.st.loadQ.takeWhile fun y => y.id != id || y.mark
  match h.st.loadQ.find? fun y => y.id == id && !y.mark with
  | none => h.s
  | some x =>
    if x.stage != .waiting || older.any (·.mark) then h.s
    else match h.segOf x.seg with
      | none => h.s
      | some e =>
        let want := x.toRead.filter fun p => places.contains p.pos
        let r := h.reachOf e false x want
        let ps := r.good.filter fun p => older.all (h.passedBy p) && match p.2 with
          | .host .. => h.s.serviceUp
          | _ => true
        let w := h.readTables r
        if !w.2 then w.1
        else
          let rd := w.1.readPieces h ps
          if !rd.2 then rd.1
          else
            let x' := { x with got := x.got ++ ps.map fun p => (p.1.pos, h.pieceBytes p) }
            rd.1.setTile { h.t with st := { h.st with loadQ := h.st.loadQ.map fun y => if y = x then x' else y } }

/-- What an async-copy engine reads ahead of an entry's completion (10 R280). -/
def State.acopyRead (s : State) (k : TileKey) (id : Nat) (places : List Nat) : State :=
  match s.hereAt k with
  | some h => if h.works then h.acopyReads id places else s
  | none => s

/-- ACOPY_LOAD_COMPLETION: the oldest load entry of a tile, no mark before it, reads its bytes and completes; a hole, or a host error before it,
completes it with COPY_FAULT (07 R188, R191; 10 R275, R280; log 17). -/
def execAcopyLoadCompletion (k : TileKey) (s : State) : Host.Outcome State Fault Refusal :=
  atEngine k (fun h =>
    match h.st.loadQ with
    | [] => s
    | x :: rest =>
      match h.segOf x.seg with
      | none => s
      | some e =>
        if x.mark || x.stage != .waiting || h.st.storesTo (unitsOf (rowSpans x.rows)) then s
        else
          let r := h.reachOf e false x x.toRead
          if usesHost r.good && !s.serviceUp then s
          else
            let h := h.hostDrawn r.good
            match hostError r.good s.free with
            | some p => h.loadDo x rest r (some (3, p))
            | none => match r.bad with
              | some (p, .hole) => h.loadDo x rest r (some (2, pageStart p.pos))
              | some (_, .fault _) => h.s
              | _ => h.loadDo x rest r none) s

/-- Whether the writes of a store entry, or of entries older than an id, are all out of the gate. -/
def Company.released (c : Company) (k : TileKey) (p : Nat → Bool) : Bool :=
  !c.gated.any fun w => decide (w.tile = k) && w.entry.any p

/-- Whether a scope reaches past the company (10 R278). -/
def wide : Scope → Bool
  | .deck | .system => true
  | _ => false

/-- Whether the oldest store entry of a tile may complete now: all it wrote, be it up to a fault, is visible at its scope (07 R188; 10 R279,
R286). -/
def AcEntry.storeDone (x : AcEntry) (c : Company) (k : TileKey) : Bool :=
  match x.stage with
  | .gated | .failed .. => !wide x.scope || c.released k (· == x.id)
  | _ => false

/-- The store entries of a tile that can complete do, in queue order; the fuel is the queue's depth (07 R188). -/
def drainStores (k : TileKey) : Nat → State → State
  | 0, s => s
  | n + 1, s =>
    match s.hereAt k with
    | none => s
    | some h =>
      match h.st.storeQ with
      | [] => s
      | x :: rest =>
        if !x.mark && x.storeDone h.co k then
          drainStores k n (h.acopyEnd { h.st with storeQ := rest } x true (match x.stage with
            | .failed a b => some (a, b)
            | _ => none))
        else s

/-- Bytes of gate buffer a region holds for a company. -/
def Company.gateBytes (c : Company) (site : SiteId) (q : Fin 4) : Nat :=
  ((c.gated.filter fun w => decide (w.site = site) && decide (w.region = q)).map fun w => w.bytes.length).foldl (· + ·) 0

/-- Bytes of a fly write record's occurrences at offsets from lo to hi − 1. -/
def BookRec.bytesIn (r : BookRec) (lo hi : Nat) : Nat :=
  let before (x : Nat) : Nat := if x ≤ r.off then 0 else if r.every = 0 then 1 else min (r.times + 1) ((x - 1 - r.off) / r.every + 1)
  (before hi - before lo) * (r.len + 1) * 64

/-- Offsets of the replay boundaries of a book, in order (09 R237). -/
def GangBin.boundaries (b : GangBin) : List Nat :=
  ((b.book.filter fun r => r.kind == .rb).map fun r => (List.range (if r.every = 0 then 1 else r.times + 1)).map fun i => r.off + i * r.every).flatten

/-- The gate quota of a company in each region of a site that its gang touches (09 R239): its book's largest total of fly writes between
consecutive boundaries, rounded up to 64 KiB, and 256 KiB. A write at a boundary's own cue counts to the interval before it. -/
def Company.quota (c : Company) (site : SiteId) : Nat :=
  let most := ((c.gangs.filter fun g => decide (g.site = site)).map fun g =>
    let bs := g.bin.boundaries.map (· + 1)
    let recs := g.bin.book.filter fun r => r.kind == .flyWr
    (((0 :: bs).zip (bs ++ [2 ^ 63])).map fun p => (recs.map fun r => r.bytesIn p.1 p.2).foldl (· + ·) 0).foldl max 0).foldl (· + ·) 0
  (most + 0xffff) / 0x10000 * 0x10000 + 0x40000

/-- The oldest store entry not wholly in the gate, unless a mark stands before it. -/
def TState.storeNow (st : TState) : Option AcEntry :=
  (st.storeQ.find? fun x => x.mark || !(match x.stage with
    | .gated | .failed .. => true
    | _ => false)).bind fun x => if x.mark then none else some x

/-- The pieces of a store entry still to be written. -/
def AcEntry.toWrite (x : AcEntry) : List Piece := (piecesOf x.rows 0).filter fun p => decide (x.pos < p.pos + p.len)

/-- A store entry writes in the gate up to `stop`, or to its end, as far as the quota has room (09 R248); its stage once it is there. -/
def Here.storeDo (h : Here) (x : AcEntry) (r : Reach) (stop : Option Nat) (done : AcStage) : State :=
  let end_ := max x.pos (stop.getD x.total)
  let room := h.co.quota h.t.site - h.co.gateBytes h.t.site h.t.region
  let to_ := if end_ ≤ x.pos + room then end_ else max x.pos (pageStart (x.pos + room))
  let w := h.readTables r
  if !w.2 then w.1
  else
    let s := w.1
    let ws := (cutPieces x.pos to_ r.good).zipIdx.map fun p => ({
      ord := s.place0 (.company h.co.num) p.2, site := h.t.site, region := h.t.region
      host := match p.1.2 with
        | .host port _ => some port
        | _ => none
      bytes := moveCells h.st.spad p.1.1.spad (match p.1.2 with
        | .deck pa => pa
        | .host _ bus => bus
        | _ => 0) p.1.1.len
      tile := h.t.key, entry := some x.id } : GWrite)
    let x' := { x with pos := to_, stage := if to_ = end_ then done else .waiting }
    let s := { s with nextOrd := s.nextOrd + ws.length }.setCo { h.co with gateOpen := h.co.gateOpen ++ ws }
    drainStores h.t.key 32
      (s.setTile { h.t with st := { h.st with storeQ := h.st.storeQ.map fun y => if y.id = x.id then x' else y } })

/-- ACOPY_STORE_COMPLETION: the oldest store entry not wholly in the gate, no mark before it, writes what the quota has room for, up to
a page without a mapping; then the entries at the head that can complete do (07 R188, R190, R191; 09 R248; log 17). -/
def execAcopyStoreCompletion (k : TileKey) (s : State) : Host.Outcome State Fault Refusal :=
  atEngine k (fun h =>
    match h.st.storeNow with
    | none => drainStores k 32 s
    | some x =>
      match h.segOf x.seg with
      | none => s
      | some e =>
        if x.stage != .waiting || h.st.storesTo (unitsOf (rowSpans x.rows)) then drainStores k 32 s
        else
          let r := h.reachOf e true x x.toWrite
          if usesHost r.good && !s.serviceUp then s
          else
            let h := h.hostDrawn r.good
            match hostError r.good s.free with
            | some p => h.storeDo x r (some (max x.pos p)) (.failed 3 (max x.pos p / 4096))
            | none => match r.bad with
              | some (p, .hole) => h.storeDo x r (some (pageStart p.pos)) (.failed 2 (max x.pos (pageStart p.pos) / 4096))
              | some (p, _) => h.storeDo x r (some (pageStart p.pos)) .waiting
              | none => h.storeDo x r none .gated) s

/-- QMARK_COMPLETION: the mark at the head of the load queue completes once every older store is visible at its scope (07 R190). -/
def execQmarkCompletion (k : TileKey) (s : State) : Host.Outcome State Fault Refusal :=
  atEngine k (fun h =>
    match h.st.loadQ with
    | m :: rest =>
      let older := h.st.storeQ.filter fun x => decide (x.id < m.id)
      let placed := older.all fun x => !x.mark && (match x.stage with
        | .gated | .failed .. => true
        | _ => false)
      if m.mark && placed && (!wide m.scope || h.co.released k fun i => decide (i < m.id)) then
        drainStores k 32 (h.put { h.st with loadQ := rest, storeQ := h.st.storeQ.filter fun x => x.id != m.id })
      else s
    | [] => s) s

/-! ### Mailbox commands (07 R197, R206) -/

/-- The first mailbox command of a tile done: also out of its boundary image, where a get's landing is kept to come again (07 R206, log
16). -/
def Tile.mbDone (t : Tile) (c : MbCmd) (cue : Nat) (v : Option W64) : Tile :=
  let img := if t.img.mbQ.contains c then
      { t.img with mbQ := t.img.mbQ.erase c, flight := t.img.flight ++ (if v.isSome then [⟨cue, .flag 4⟩] else []) }
    else t.img
  { t with img := img, st := { t.st with mbQ := t.st.mbQ.erase c } }

/-- MAILBOX_PUT_PERFORMED: the command at the head puts its value into an empty word (07 R197, 14 R339). -/
def execMailboxPutPerformed (k : TileKey) (s : State) : Host.Outcome State Fault Refusal :=
  atEngine k (fun h =>
    match h.st.mbQ with
    | c :: _ =>
      if c.put && s.serviceUp && !(s.mb c.word).full then (s.setTile (h.t.mbDone c h.cue none)).mbSet c.word ⟨c.val, true⟩ else s
    | [] => s) s

/-- Wheel results that land in this cycle in the latch of a command issued later lose it: the later write stands (01 R14). -/
def TState.yieldLatch (st : TState) (cue : Nat) (c : MbCmd) : TState :=
  { st with wheel := st.wheel.map fun w =>
      if w.lat = c.lat && decide (w.issued + w.w ≤ cue) && decide (w.issued < c.issued) then { w with lat := none } else w }

/-- MAILBOX_GET_PERFORMED: the command at the head takes the value of a full word; it lands with e4, at least 512 cycles after issue, before
the wheel's results of the cycle (07 R197, 01 R14). -/
def execMailboxGetPerformed (k : TileKey) (s : State) : Host.Outcome State Fault Refusal :=
  atEngine k (fun h =>
    match h.st.mbQ with
    | c :: _ =>
      let w := s.mb c.word
      if !c.put && s.serviceUp && w.full && decide (c.issued + 512 ≤ h.cue) then
        let t := h.t.mbDone c h.cue (some w.v)
        let st := match c.lat with
          | some l => { t.st with latS := t.st.latS.set (latSIdx l.1 l.2) w.v }
          | none => t.st
        (s.setTile { t with st := (st.yieldLatch h.cue c).arrives 4 }).mbSet c.word ⟨w.v, false⟩
      else s
    | [] => s) s

/-! ### Release of gated writes (09 R248) -/

/-- A gated write performed on memory; one whose target is a hole leaves nothing (09 R248, 10 R267, R269). -/
def State.performGated (s : State) (w : GWrite) : State :=
  match w.host with
  | none => s.perform w.ord w.bytes
  | some port => s.hostPut port w.bytes

/-- Sealed intervals without the first occurrence of a write; an interval with nothing left goes. -/
def takeWrite (w : GWrite) : List GInterval → List GInterval
  | [] => []
  | i :: rest =>
    if i.writes.contains w then
      let ws := i.writes.erase w
      if ws.isEmpty then rest else { i with begun := true, writes := ws } :: rest
    else if i.writes.isEmpty then takeWrite w rest else i :: takeWrite w rest

/-- GATED_WRITE_RELEASE: the oldest write of a company's oldest sealed interval is released (09 R248); those of a module that is silent or past its
loss cue are not, and hold back no other module's (13 R330, R338). A write to the host waits for PCIe (13 R336). The store it belongs to may complete with it (07 R188). -/
def execGatedWriteRelease (co : Nat) (s : State) : Host.Outcome State Fault Refusal :=
  match s.coAt co with
  | none => .next s
  | some c =>
    let stuck (w : GWrite) : Bool := (s.sites[w.site]).mute || s.pastLoss w.site
    match (c.gateSealed.flatMap (·.writes)).find? fun w => !stuck w with
    | none => .next (s.setCo { c with gateSealed := c.gateSealed.filter fun i => !i.writes.isEmpty })
    | some w =>
      if w.host.isSome && !s.serviceUp then .next s
      else
        let s := (s.performGated w).setCo { c with gateSealed := takeWrite w c.gateSealed }
        .next (if w.entry.isSome then drainStores w.tile 32 s else s)

end Sys2Proof.Machine
end

