-- ==== Sys2Proof/Machine/PageFaults.lean ====
section
/-! DEFINITION. Page faults and their service (07 R191; 10 R275, R276; 11 R303; 14 R340), and overlay fetches (09 R245, R246). -/
namespace Sys2Proof.Machine

/-! ### Faults of copy entries (07 R191, 10 R275) -/

/-- A tile's queue entries with those of an id restaged. -/
def TState.restage (st : TState) (store : Bool) (id : Nat) (g : AcStage) : TState :=
  let f (l : List AcEntry) : List AcEntry := l.map fun y => if y.id = id && !y.mark then { y with stage := g } else y
  if store then { st with storeQ := f st.storeQ } else { st with loadQ := f st.loadQ }

/-- The entry of a queue that reaches memory now. -/
def TState.entryNow (st : TState) (store : Bool) : Option AcEntry :=
  if store then st.storeNow else match st.loadQ with
    | x :: _ => if x.mark then none else some x
    | [] => none

/-- The pieces an entry has still to move. -/
def AcEntry.left (x : AcEntry) (store : Bool) : List Piece := if store then x.toWrite else x.toRead

/-- What an entry has still to reach. -/
def Here.reachLeft (h : Here) (store : Bool) (x : AcEntry) : Reach :=
  ((h.segOf x.seg).map fun e => h.reachOf e store x (x.left store)).getD ⟨[], [], [], none⟩

/-- The first piece whose page has no mapping, with the cause of R273. -/
def Reach.fault (r : Reach) : Option (Piece × Nat) :=
  match r.bad with
  | some (p, .fault c) => some (p, c)
  | _ => none

/-- ACOPY_PAGE_FAULT: an entry that has moved all before a page without a mapping is suspended there, and the fault reported (07 R191,
10 R275, 11 R303). -/
def execAcopyPageFault (k : TileKey) (store : Bool) (s : State) : Host.Outcome State Fault Refusal :=
  atEngine k (fun h =>
    match h.st.entryNow store with
    | none => s
    | some x =>
      if x.stage != .waiting || h.st.storesTo (unitsOf (rowSpans x.rows)) then s
      else
        let r := h.reachLeft store x
        match r.fault with
        | none => s
        | some (p, c) =>
          if store && decide (x.pos < pageStart p.pos) then s
          else
            let w := h.readTables r
            if !w.2 then w.1
            else (({ h with s := w.1 } : Here).put (h.st.restage store x.id (.suspended c (p.pos / 4096) s.pfNext))).reportFault
              ⟨0, h.co.num, x.seg, c, p.page, 0, s.cue, k, if store then .store else .load, true⟩) s

/-! ### Service (11 R303) -/

/-- The entry that a request suspends, with its tile. -/
def State.suspendedBy (s : State) (r : PfReq) : Option (Here × AcEntry) :=
  (s.hereAt r.tile).bind fun h =>
    ((if r.kind = .store then h.st.storeQ else h.st.loadQ).find? fun x => match x.stage with
      | .suspended _ _ i => i == r.idx && !x.mark
      | _ => false).map fun x => (h, x)

/-- A request closed and, the walk failing again, reported once more; the limit counts from the first report (11 R303). -/
def State.reportAgain (s : State) (r : PfReq) (cause va : Nat) : State :=
  (s.closeReq r.idx).reportFault { r with cause := cause, va := va }

/-- Tiles that share an overlay fetch: of one company and region, with the same segment and entry cue (09 R245). -/
def State.sharers (s : State) (k : TileKey) : List Tile :=
  match s.tileAt k with
  | none => []
  | some t => s.tiles.filter fun u => u.key.co == k.co && u.site == t.site && u.region == t.region &&
      (match t.st.ovl, u.st.ovl with
        | some a, some b => a.seg == b.seg && a.entry == b.entry
        | _, _ => false)

/-- Every sharer of a tile's overlay fetch changed. -/
def State.mapSharers (s : State) (k : TileKey) (f : Tile → Tile) : State := (s.sharers k).foldl (fun s t => s.setTile (f t)) s

/-- An overlay fetch that waits for a translation, or no longer does. -/
def Tile.ovlFault (b : Bool) (t : Tile) : Tile := { t with st := { t.st with ovl := t.st.ovl.map fun o => { o with fault := b } } }

/-- Whether an address lies in the page that a request is for. -/
def PfReq.samePage (r : PfReq) (va : Nat) : Bool := va / 4096 == r.va / 4096

/-- The walk of a request done again: what waits goes on where it succeeds, and is reported once more where it fails; a fault that lies on a later page
is another one, which what goes on reports when it comes to it (11 R303). -/
def State.retryReq (s : State) (r : PfReq) : State :=
  match r.kind with
  | .load | .store =>
    match s.suspendedBy r with
    | none => s.closeReq r.idx
    | some (h, x) =>
      let store := decide (r.kind = .store)
      let reach := h.reachLeft store x
      let w := h.readTables reach
      let h' : Here := { h with s := w.1 }
      if !w.2 then w.1
      else match reach.fault with
      | some (p, c) =>
        if r.samePage p.page then (h'.put (h.st.restage store x.id (.suspended c (p.pos / 4096) s.pfNext))).reportAgain r c p.page
        else (h'.put (h.st.restage store x.id .waiting)).closeReq r.idx
      | none => (h'.put (h.st.restage store x.id .waiting)).closeReq r.idx
  | .overlay =>
    match s.hereAt r.tile with
    | none => s.closeReq r.idx
    | some h => match h.st.ovl with
      | none => s.closeReq r.idx
      | some o =>
        let f := s.fetch h.co h.t.site h.t.region o.seg.toNat
        let w := s.readFetch h.co (s.placeOf h.t) f
        if !w.2 then w.1
        else match f.bad with
        | some (c, va) =>
          if r.samePage va then w.1.reportAgain r c va else (w.1.mapSharers r.tile (Tile.ovlFault false)).closeReq r.idx
        | none => (w.1.mapSharers r.tile (Tile.ovlFault false)).closeReq r.idx
  | .rewrite =>
    match s.coAt r.co with
    | none => s.closeReq r.idx
    | some c => match s.tileAt r.tile with
      | none => s.closeReq r.idx
      | some t =>
        let f := s.fetch c t.site t.region r.seg
        let w := s.readFetch c (s.placeOf t) f
        if !w.2 then w.1
        else match f.bad with
        | some (k, va) => if r.samePage va then w.1.reportAgain r k va else w.1.closeReq r.idx
        | none => w.1.closeReq r.idx

/-- PFACK: the host acknowledges a request it has seen (14 R340); the leaf controller walks again (11 R303). -/
def execPfack (i : BitVec 32) (s : State) : Host.Outcome State Fault Refusal :=
  match s.pfReqs.find? fun r => r.idx == i && r.live with
  | some r => .next (if s.serviceUp && decide ((s.pfHead - i - 1).toNat < 2 ^ 31) then s.retryReq r else s)
  | none => .next s

/-- The limit of R303. -/
def faultLimit : Nat := 2 ^ 26

/-- PAGE_FAULT_UNRESOLVABLE: a fault not resolved 2^26 deck cycles after its first report; the copy completes with COPY_FAULT
sub-code 1, or the launch ends with OVERLAY (11 R303); with sub-code 3 where a host access before the page ends with an error (10 R275). A fetch that a
second MARK.OV has abandoned (04 R112) does so too (DESIGN CHOICE, log 93). -/
def execPageFaultUnresolvable (i : BitVec 32) (s : State) : Host.Outcome State Fault Refusal :=
  match s.pfReqs.find? fun r => r.idx == i && r.live with
  | none => .next s
  | some r =>
    if r.cause = 3 ∨ s.cue < r.first + faultLimit then .next s
    else
      let s0 := s.closeReq i
      let rec_ (s : State) (code : BitVec 8) : State := match s.tileAt r.tile with
        | some t => s.postRec t.site (faultRec 6 code r.co (s.placeOf t) 0 (BitVec.ofNat 64 r.va) 0 s.cue)
        | none => s
      match r.kind with
      | .load | .store =>
        match s0.suspendedBy r with
        | none => .next s0
        | some (h, x) =>
          let page : Nat := match x.stage with
            | .suspended _ p _ => p
            | _ => 0
          let s1 := rec_ s0 0x20
          .next (if r.kind = .store then
              drainStores r.tile 32 (s1.setTile { h.t with st := h.st.restage true x.id (.failed 1 page) })
            else match h.segOf x.seg with
              | none => s1
              | some e =>
                let r := h.reachOf e false x x.toRead
                let ps := x.unread r (4096 * page)
                if usesHost ps && !s.serviceUp then s
                else ((({ h with s := s1 } : Here).hostDrawn ps).loadDo x h.st.loadQ.tail r
                  (some (((hostError ps s1.free).map fun p => (3, p)).getD (1, 4096 * page)))))
      | .overlay | .rewrite => .next ((rec_ s0 0x3a).endCause r.co 0x3a (BitVec.ofNat 64 r.va) 0 0 none)

/-! ### Migration (10 R276) -/

/-- Address, entry and page size (as a power of two) of the leaf that maps a virtual address, if it is valid and well formed. -/
def State.leafOf (s : State) (va : Nat) : List (Nat × Nat) → Nat → Option (Nat × Pte × Nat)
  | [], _ => none
  | (l, b) :: r, table =>
    let a := table + 8 * (va / 2 ^ b % 512)
    let e := pteOf (s.deckWord a)
    if s.hole a || !e.v || e.malformed false l b then none
    else if e.leaf then some (a, e, b)
    else s.leafOf va r e.pa

/-- Whether a gated write touches [a, a + n) of deck memory. -/
def GWrite.touches (w : GWrite) (a n : Nat) : Bool := w.host.isNone && w.bytes.any fun c => decide (a ≤ c.1) && decide (c.1 < a + n)

/-- Whether some entry of a launch references the page of n bytes at `va` of a segment (10 R276). -/
def State.referenced (s : State) (co seg va n : Nat) : Bool :=
  let on (store : Bool) (x : AcEntry) : Bool := !x.mark && x.seg == seg &&
    x.refers store va n
  (s.tilesOf co).any fun t => !t.lost && (t.st.loadQ.any (on false) || t.st.storeQ.any (on true))

/-- A table entry written by a leaf controller (10 R276). -/
def State.writeEntry (s : State) (a word : Nat) : State := s.placeWrite .leaf (cellsAt a (leBytes 8 word))

/-- PAGE_MIGRATION, in two steps of the leaf controller (10 R276): the leaf is marked as migrating, which invalidates its translations
(R274); once no entry references the page and every gated write to it is released, the page is copied, the leaf gets its new frame, and the
entries suspended as migrating go on. -/
def execPageMigration (co : Nat) (seg : Fin 64) (va frame : BitVec 48) (s : State) : Host.Outcome State Fault Refusal :=
  match s.coAt co with
  | none => .next s
  | some c => match c.info.segtab[seg.val]? with
    | none => .next s
    | some e => match s.leafOf va.toNat walkLevels e.root with
      | none => .next s
      | some (a, p, b) =>
        let n := 2 ^ b
        let word := s.deckWord a
        let page := va.toNat / n * n
        if !e.paged || p.aper != 0 || frame.toNat % n != 0 || !populatedRange frame.toNat n || s.hole frame.toNat || s.hole p.pa then .next s
        else if !p.mig then .next (s.writeEntry a (word + 8))
        else if s.referenced co seg.val page n || (s.companies.any fun d => d.gated.any fun w => w.touches p.pa n) then .next s
        else
          let s1 := (s.freshRead none 0xffff p.pa n).placeWrite .leaf (cellsAt frame.toNat (memBytes s.mem p.pa n))
          let s2 := s1.writeEntry a (2 ^ 48 * (word / 2 ^ 48) + frame.toNat + word % 8)
          .next ((s2.pfReqs.filter fun r => r.live && r.co == co && r.cause == 3).foldl (fun s r => s.retryReq r) s2)

/-! ### Overlay fetches (09 R245, R246, R255) -/

/-- Whether a tile's overlay engine works on its request: the company is not ending, frozen or rolling back (09 R255). -/
def Here.fetches (h : Here) : Bool := h.works && match h.co.mode with
  | .running | .held _ => true
  | _ => false

/-- OVERLAY_FETCH_COMPLETION: a fetch is done for every tile that shares it (09 R245). -/
def execOverlayFetchCompletion (k : TileKey) (s : State) : Host.Outcome State Fault Refusal :=
  atTile k (fun h =>
    match h.st.ovl with
    | some o =>
      let f := s.fetch h.co h.t.site h.t.region o.seg.toNat
      if o.done || o.fault || f.bad.isSome || !h.fetches then s
      else
        let w := s.readFetch h.co (s.placeOf h.t) f
        if w.2 then w.1.mapSharers k fun t => t.fetched o.seg f.bundles else w.1
    | none => s) s

/-- OVERLAY_FETCH_TRANSLATION_FAULT: a fetch that meets an invalid translation waits, and the fault is reported (09 R246, 11 R303). -/
def execOverlayFetchTranslationFault (k : TileKey) (s : State) : Host.Outcome State Fault Refusal :=
  atTile k (fun h =>
    match h.st.ovl with
    | some o =>
      if o.done || o.fault || !h.fetches then s
      else
        let f := s.fetch h.co h.t.site h.t.region o.seg.toNat
        let w := s.readFetch h.co (s.placeOf h.t) f
        match f.bad with
        | none => s
        | some (c, va) => if !w.2 then w.1 else (w.1.mapSharers k (Tile.ovlFault true)).reportFault ⟨0, h.co.num, o.seg.toNat, c, va, 0, s.cue, k, .overlay, true⟩
    | none => s) s

end Sys2Proof.Machine
end

