-- ==== Sys2Proof/Machine/Links.lean ====
section
/-! DEFINITION. Decisions of the keeper (13 R327), trim exchanges (12 R312, R314 to R316), deck circuits and their route
changes (12 R319, R320), failing links (11 R299). -/
namespace Sys2Proof.Machine

/-! ### Decisions of the keeper (13 R327) -/

/-- Whether a decision is one of a loss. -/
def Decision.isLoss (d : Decision) : Bool := d.to_ == .lost || d.to_ == .faulted

/-- A decision put in order of effect; of the same site and cue one gives way to it, and any to a loss (13 R338). -/
def addDecision (d : Decision) (l : List Decision) : List Decision :=
  let same (x : Decision) : Bool := x.site == d.site && x.effect == d.effect
  if !d.isLoss && l.any fun x => same x && x.isLoss then l
  else
    let l := l.filter fun x => !same x
    l.filter (fun x => decide (x.effect ≤ d.effect)) ++ d :: l.filter fun x => decide (d.effect < x.effect)

/-- Whether there is a keeper: the stage manager, or the leaf controller of the trim root's module (13 R327). The recovery image decides nothing and
powers no site (14 R354). -/
def State.kept (s : State) : Bool :=
  s.rootSite.isSome || match s.fw.mode with
    | .running | .restarting _ => true
    | _ => false

/-- A decision put on record. -/
def State.decide_ (s : State) (d : Decision) : State := if s.kept then { s with decisions := addDecision d s.decisions } else s

/-- A decision made now; the effect comes 4,096 cycles on (13 R327). -/
def State.judge (s : State) (n : SiteId) (to_ : SiteState) (cause : BitVec 8) : State :=
  s.decide_ ⟨s.cue + Config.transitionLead, n, to_, cause, false⟩

/-- A decision as its effect finds the site: an opening makes a SEATED site EMPTY, and a RELEASED one whose presence contacts opened; one sensed while
the site was RELEASED, LOST or FAULTED loses a module powered since only where the contacts stand open still, and changes nothing else (13 R326). -/
def Decision.resolve (d : Decision) (x : Site) : Decision :=
  if !d.opening then d
  else if x.state == .seated || (x.state == .released && d.cause == 1) then { d with to_ := .empty, cause := 0 }
  else if d.to_ == .empty then { d with to_ := if (x.present && x.clamp) || !x.state.powered then x.state else .lost } else d

/-- The state of a site as decided by now. -/
def State.decided (s : State) (n : SiteId) : SiteState :=
  ((s.decisions.filter fun d => d.site == n && decide (d.effect ≤ s.cue + Config.transitionLead)).getLast?.map
    fun d => (d.resolve s.sites[n]).to_).getD (s.sites[n]).state

/-- Whether a loss of a site with this LASTCAUSE is already on its way. -/
def State.losing (s : State) (n : SiteId) (cause : BitVec 8) : Bool :=
  s.decisions.any fun d => d.site == n && d.isLoss && d.cause == cause

/-- Something of a loss sensed at a site: its loss cue stands from `l` at the latest (13 R329), its decision is made at `at_` (13 R326). A DRAINING
site that was about to be RELEASED no longer is (13 R338). -/
def State.loseBy (s : State) (n : SiteId) (to_ : SiteState) (cause : BitVec 8) (l at_ : Nat) (opening : Bool) : State :=
  let s := s.setSite n fun x => { x with lossCue := some ((x.lossCue.map (min l)).getD l) }
  let kept := s.decisions.filter fun d => !(d.site == n && d.to_ == SiteState.released)
  { s with decisions := kept }.decide_ ⟨at_ + Config.transitionLead, n, to_, cause, opening⟩

/-- A site is lost or faulted. -/
def State.lose (s : State) (n : SiteId) (to_ : SiteState) (cause : BitVec 8) (l at_ : Nat) : State := s.loseBy n to_ cause l at_ false

/-- A module without a trim path to the root goes to FAULTED with LASTCAUSE 11, site S too when its command link is out (12 R316, 13 R326). -/
def State.faultPathless (s : State) : State :=
  match s.rootSite with
  | none => s
  | some r => (List.finRange 17).foldl (fun s n =>
      if n ≠ r ∧ (s.sites[n]).state.up ∧ !s.losing n 11 ∧ (s.parentOf n (s.anchor n)).isNone then s.lose n .faulted 11 s.cue s.cue else s) s

/-- In a deck without a root, the counters of a site that nothing has loaded yet and that have no trim parent take the count of the first counter that
is up, else of the deck reference (12 R312, log 65). -/
def State.rootless (s : State) (n : SiteId) : State :=
  if s.rootSite.isSome then s
  else
    let x : Int := ((s.countersUp.head?).map fun c => s.counter c.1 c.2).getD s.cue
    (countersOf n).foldl (fun t c => if (s.parentOf c.1 c.2).isNone && ((s.sites[c.1]).regions[c.2]).loads == 0 then
      t.setRegion c.1 c.2 fun r => { r with offset := x - s.cue, heldTo := 0 } else t) s

/-- The tree after a change: a follower whose parent changed has one exchange with the new one, at its counter's next multiple of 4,096, and none with
the old (12 R313, R315). Where the root is gone, a module in TRAINING has none to be loaded from (log 65). -/
def State.retree (s t : State) : State :=
  let t := (t.counters.foldl (fun t c =>
    if s.parentOf c.1 c.2 = t.parentOf c.1 c.2 then t
    else (t.setRegion c.1 c.2 fun r => { r with trimFrom := none }).askTrim c.1 c.2 (t.nextMultiple c.1 c.2 4096)) t).faultPathless
  (List.finRange 17).foldl (fun t n => if (t.sites[n]).state == .training && (t.sites[n]).trained then t.rootless n else t) t

/-! ### Circuits (12 R319) -/

/-- The last link of a route as its far end sees it. -/
def routeEnd (route : List DeckLink) : Option DeckLink := route.getLast?.bind linkPeer

/-- Whether the links of a route join one behind the other. -/
def chained : List DeckLink → Bool
  | a :: b :: r => (linkPeer a).any (fun y => y.site == b.site) && chained (b :: r)
  | _ => true

/-- The link of a circuit's end (12 R309). -/
def Tile.endLink (t : Tile) (d : Side) : Option DeckLink := (sideLink t.region d).map fun p => ⟨t.site, p⟩

/-- Whether a route serves: 1 to 3 compute links, all in service, from the link of the one end to the link of the other (12 R319). -/
def State.routeFits (s : State) (a b : Tile × Side) (route : List DeckLink) : Bool :=
  decide (1 ≤ route.length) && decide (route.length ≤ 3) && chained route && route.all s.linkUp &&
    (route.all fun l => isCompute l.site && (linkPeer l).any fun y => isCompute y.site) &&
    decide (route.head? = a.1.endLink a.2) && decide (routeEnd route = b.1.endLink b.2) && route.all fun l => (s.sites[l.site]).state.up

/-- Whether every link of a route has room for one more circuit in each direction, two at most; circuits that are down stay reserved (12 R319);
circuit `i` aside. -/
def State.routeRoom (s : State) (i : Nat) (route : List DeckLink) : Bool :=
  let held := (s.circuits.zipIdx.filter fun c => c.2 != i).map (·.1.route)
  route.all fun l => decide ((held.filter fun r => r.contains l || r.any fun x => linkPeer x == some l).length < 2)

/-- The ends of a circuit. -/
def State.circuitEnds (s : State) (c : Circuit) : Option ((Tile × Side) × (Tile × Side)) :=
  (s.tileAt c.a.1).bind fun a => (s.tileAt c.b.1).map fun b => ((a, c.a.2), (b, c.b.2))

/-- Whether a circuit's route still stands; it does when its end tiles are lost with their islands (12 R317). -/
def State.circuitStands (s : State) (c : Circuit) : Bool := (s.circuitEnds c).any fun e => s.routeFits e.1 e.2 c.route

/-- The links between the two sites that a link joins, in the order of R313. -/
def alike (l : DeckLink) : List DeckLink :=
  ((List.finRange 8).map fun p => (⟨l.site, p⟩ : DeckLink)).filter fun x => decide ((linkPeer x).map (·.site) = (linkPeer l).map (·.site))

/-- The routes a circuit may take, in order: its own, then for a middle link the parallel ones between the same sites; end links never change (12
R319). -/
def otherRoutes (route : List DeckLink) : List (List DeckLink) :=
  match route with
  | [a, b, c] => (b :: (alike b).filter (· != b)).map fun x => [a, x, c]
  | r => [r]

/-- The route the leaf controllers choose for a circuit that is down (12 R319). -/
def State.chosenRoute (s : State) (i : Nat) (c : Circuit) : Option (List DeckLink) :=
  (s.circuitEnds c).bind fun e => (otherRoutes c.route).find? fun r => s.routeFits e.1 e.2 r && s.routeRoom i r

/-- A tile changed by its key. -/
def State.onTile (s : State) (k : TileKey) (f : Tile → Tile) : State :=
  match s.tileAt k with
  | some t => s.setTile (f t)
  | none => s

/-- Whether a company has not started yet: no tile of it runs (09 R235, 13 R327). -/
def State.notStarted (s : State) (co : Nat) : Bool := (s.coAt co).any fun c => match c.mode with
  | .loading _ => true
  | _ => false

/-- An event flag set in a tile from outside once its launch has started; frozen tiles record it in their image (04 R105; 13 R327). -/
def State.flagged (s : State) (j : Nat) (t : Tile) : Tile := if t.lost || s.notStarted t.key.co then t else { t with st := t.st.arrives j }

/-- Whether a company stands frozen. -/
def Company.frozen (c : Company) : Bool := match c.mode with
  | .frozen .. | .resuming .. => true
  | _ => false

/-- The words one end has on a circuit, lost and marked at both ends (08 R217, 12 R319). -/
def State.tearWords (s : State) (a b : TileKey × Side) : State :=
  match s.tileAt a.1 with
  | none => s
  | some t =>
    let ws := t.st.xwords.filter fun x => x.side == a.2
    let s := s.setTile { t with st := { t.st with xwords := t.st.xwords.filter fun x => x.side != a.2 } }
    ws.foldl (fun s x => (s.onTile a.1 fun t => t.addTorn a.2 x.ch).onTile b.1 fun t => t.addTorn b.2 x.ch) s

/-- A circuit torn down: its words lost, but for those that a freeze has captured in replay buffers; e7 at both ends (12 R319, R320). -/
def State.tearDown (s : State) (i : Nat) : State :=
  match s.circuits[i]? with
  | none => s
  | some c =>
    if !c.up then s
    else
      let s := { s with circuits := s.circuits.set i { c with up := false, tornAt := some s.cue } }
      let s := (s.tearWords c.a c.b).tearWords c.b c.a
      (s.onTile c.a.1 (s.flagged 7)).onTile c.b.1 (s.flagged 7)

/-- The sides of a tile that meet a stitch of its gang: their OFS is measured when they are placed (12 R311). -/
def stitchSides (g : Gang) (k : TileKey) : Vector Bool 4 :=
  #v[(stitchNext g k .n).isSome, (stitchNext g k .e).isSome, (stitchNext g k .s).isSome, (stitchNext g k .w).isSome]

/-- The OFS of a side is still to be measured (12 R311). -/
def Tile.askOfs (t : Tile) (d : Side) : Tile := { t with ofsDue := t.ofsDue.set (sideNo d) true }

/-- CIRCUIT_TEARDOWN: a circuit whose route no longer stands (12 R319). -/
def execCircuitTeardown (i : Nat) (s : State) : Host.Outcome State Fault Refusal :=
  .next (match s.circuits[i]? with
    | some c => if s.circuitStands c then s else s.tearDown i
    | none => s)

/-- CIRCUIT_SETUP: a circuit that is down comes up on the route chosen for it, both end tiles there; its sides' OFS is measured, e7 set at both
ends (12 R311, R319). -/
def execCircuitSetup (i : Nat) (route : List DeckLink) (s : State) : Host.Outcome State Fault Refusal :=
  .next (match s.circuits[i]? with
    | none => s
    | some c => match s.circuitEnds c with
      | none => s
      | some e =>
        if !c.up && !e.1.1.lost && !e.2.1.lost && decide (s.chosenRoute i c = some route) then
          let s := { s with circuits := s.circuits.set i { c with up := true, route := route } }
          let end_ (x : TileKey × Side) (t : Tile) : Tile := (s.flagged 7 t).askOfs x.2
          (s.onTile c.a.1 (end_ c.a)).onTile c.b.1 (end_ c.b)
        else s)

/-- Every circuit whose route no longer stands torn down, in order. -/
def State.tearFallen (s : State) : State :=
  (List.range s.circuits.length).foldl (fun s i => match s.circuits[i]? with
    | some c => if s.circuitStands c then s else s.tearDown i
    | none => s) s

/-! ### Links that fail and return (11 R299, 12 R316, R319) -/

/-- A count one higher, saturating; whether it passes a multiple of 4,096 (11 R302). -/
def countUp (x : BitVec 16) : BitVec 16 × Bool :=
  if x = 0xffff then (x, false) else (x + 1, (x + 1).toNat % 4096 == 0)

/-- A record of KIND 4 where a count crosses (11 R302); CODE and INFO are zero (log 19). -/
def State.crossing4 (s : State) (crossed : Bool) (site : SiteId) (q : Fin 4) (unit : Nat) : State :=
  if crossed then s.postRec site (faultRec 4 0 0 ⟨site, q, 0, 0, 0⟩ unit 0 0 s.cue) else s

/-- A module count one higher: HBM 3, GATE 2, LINK 1, XLATE 0 (11 R302). -/
def State.modCount (s : State) (site : SiteId) (j : Fin 4) (unit : Nat) : State :=
  let c := countUp (s.sites[site]).modCounts[j]
  (s.setSite site fun x => { x with modCounts := x.modCounts.set j c.1 }).crossing4 c.2 site 0 unit

/-- A region count one higher: SPAD 3, IMEM 2, WSTORE 1, SHADOW 0 (11 R302). -/
def State.regCount (s : State) (site : SiteId) (q : Fin 4) (j : Fin 4) (unit : Nat) : State :=
  let c := countUp ((s.sites[site]).regions[q]).counts[j]
  (s.setRegion site q fun r => { r with counts := r.counts.set j c.1 }).crossing4 c.2 site q unit

/-- A link out of service: a record of KIND 5, circuits torn down, the tree recomputed (11 R299, 12 R316). -/
def State.linkOut (s : State) (l : DeckLink) : State :=
  if s.linksOut.contains l then s
  else
    let t := { s with linksOut := s.linksOut ++ [l] }
    let t := t.postRec l.site (faultRec 5 cECC 0 ⟨l.site, 0, 0, 0, 0⟩ 0x0b 0 0 s.cue)
    s.retree t.tearFallen

/-- LINK_CRC_FAILURE: a first failure is retried and counted; a second loses the words and takes the link out of service (11 R299, 12
R319). -/
def execLinkCrcFailure (link : DeckLink) (second : Bool) (s : State) : Host.Outcome State Fault Refusal :=
  .next (if !s.linkUp link then s else if second then s.linkOut link else s.modCount link.site 1 0x0b)

/-- LINK_RETURN_TO_SERVICE: the link serves again, the tree is recomputed, circuits that are down may be set up (12 R319). -/
def execLinkReturnToService (link : DeckLink) (s : State) : Host.Outcome State Fault Refusal :=
  .next (s.retree { s with linksOut := s.linksOut.filter fun l => l != link && linkPeer link != some l })

/-! ### Trim (12 R312, R314 to R316) -/

/-- Half of a difference, rounded toward zero (12 R314). -/
def halfToZero (x : Int) : Int := Int.tdiv x 2

/-- What an exchange finds, Y minus X (12 R314): the parent replies 16 cycles after the arrival. -/
def trimD (t1 t2 t4 : W64) : Int := halfToZero ((t2.toInt - t1.toInt) - (t4.toInt - (t2.toInt + 16)))

/-- PERIODIC_TRIM: an exchange becomes pending at a multiple of 2^22 of the follower's counter (12 R315). -/
def execPeriodicTrim (site : SiteId) (q : Fin 4) (s : State) : Host.Outcome State Fault Refusal := .next (s.askTrim site q s.cue)

/-- A follower's counter moved: forward at once, backward by holding it that much longer (12 R312, R314). -/
def Region.corrected (r : Region) (k : Int) (cue : Nat) : Region :=
  { r with
    offset := r.offset + k
    heldTo := if k < 0 then max (cue - 1) r.heldTo + k.natAbs else r.heldTo
    trimGen := r.trimGen + 1
    lastCorr := BitVec.ofInt 8 k
    trimFrom := none }

/-- An exchange counted in TRAINING (12 R315). -/
def Region.counted (r : Region) (d : Int) : Region := { r with loads := r.loads + 1, zeros := if d = 0 then r.zeros + 1 else 0 }

/-- The counter at the other end of a trim path. -/
def State.parentAt (s : State) (n : SiteId) (p : Parent) : Option (SiteId × Fin 4) :=
  match p with
  | .link l => (linkPeer l).map fun y => (y.site, if isCompute y.site then linkRegion y.port else 0)
  | .stitch o => some (n, o)
  | .command => s.rootSite.map fun r => (r, s.anchor r)

/-- Whether stamps are those of an exchange whose outcome falls now, between counters at x and y: it began at most 512 cycles ago and the reply came
since; the parent's stamp lies between, its reply 16 cycles after it (12 R314, R316, log 20). -/
def stampsFit (x y : Int) (t1 t2 t4 : W64) : Bool :=
  let run := (BitVec.ofInt 64 x - t1).toNat
  let back := (BitVec.ofInt 64 x - t4).toNat
  let since := (BitVec.ofInt 64 y - t2).toNat
  decide (run ≤ 512) && decide (since ≤ run) && decide (back + 16 ≤ since)

/-- The deck cue at which an exchange asked for begins: not in a hold of the counter (12 R312, R315). -/
def Region.trimStart (r : Region) : Option Nat := r.trimFrom.map (max r.heldTo)

/-- Whether a counter moved by k stays within 2 of every counter in trim, those of modules in TRAINING once they are loaded (12 R312). -/
def State.nearAll (s : State) (n : SiteId) (q : Fin 4) (k : Int) : Bool :=
  s.counters.all fun c => decide (c = (n, q)) || !(s.sites[c.1]).state.up && ((s.sites[c.1]).regions[c.2]).loads == 0 ||
    decide ((s.counter n q + k - s.counter c.1 c.2).natAbs ≤ 2)

/-- Whether a region of a module in TRAINING may run an exchange: eight at most, until two in a row find zero; across a stitch only with a parent that
has come to an end itself, or has none to trim from in a deck without a root (12 R315, log 65). -/
def State.trains (s : State) (n : SiteId) (q : Fin 4) (p : Parent) : Bool :=
  let r := (s.sites[n]).regions[q]
  decide (r.loads < 8) && decide (r.zeros < 2) && match p with
    | .stitch o => decide (2 ≤ ((s.sites[n]).regions[o]).zeros) || s.rootSite.isNone && (s.parentOf n o).isNone
    | _ => true

/-- The other regions of a module whose anchor is loaded anew begin their training again (12 R315, log 65). -/
def State.retrain (s : State) (n : SiteId) (q : Fin 4) : State :=
  s.setSite n fun x => { x with regions := x.regions.mapFinIdx fun i r _ => if i = q.val then r else { r with loads := 0, zeros := 0 } }

/-- Whether an exchange in service that began at its cue may end now: it sent its flit then (12 R314, R315). -/
def State.serviceEnds (s : State) (n : SiteId) (q : Fin 4) (t1 : W64) : Bool :=
  (((s.sites[n]).regions[q]).trimStart).any fun c => decide (c ≤ s.cue) && decide (t1 = BitVec.ofInt 64 (s.counter n q - ((s.cue - c : Nat) : Int)))

/-- The OFS of the sides of a region's tiles, and of those that face them, is measured again (12 R311). -/
def State.askOfs (s : State) (n : SiteId) (q : Fin 4) : State :=
  { s with tiles := s.tiles.map fun t =>
      match (s.coAt t.key.co).bind fun c => c.gangAt t.key.gang with
      | none => t
      | some g => allSides.foldl (fun t d => match s.crossing g t.key d with
          | none => t
          | some x =>
            let here (u : Tile) : Bool := u.site == n && u.region == q
            if here t || (s.tileAt x.peer).any here then t.askOfs d else t) t }

/-- A trim path out of trim and circuit service: the link, the stitch, the command link of site S; a record of KIND 5 with unit code 0x0b, the
tree recomputed (12 R316). -/
def State.pathOut (s : State) (n : SiteId) (q : Fin 4) (p : Parent) : State :=
  let out (x : Fin 4) : State :=
    s.retree ({ s with stitchesOut := s.stitchesOut ++ [(n, x)] }.postRec n (faultRec 5 cECC 0 ⟨n, q, 0, 0, 0⟩ 0x0b 0 0 s.cue))
  match p with
  | .link l => s.linkOut l
  | .stitch o => out (if o = q + 1 then q else o)
  | .command => out 0

/-- TRIM_EXCHANGE: a pending exchange corrects the follower; one in service that finds more than 2 takes the path out of service. A module in
TRAINING is loaded by its counter's first exchange, and served by the later ones, until two in a row find zero, 8 at most (12 R314 to R316). No
correction takes a counter further than 2 from another (R312). An exchange that cannot run 512 cycles on, a module being lost, begins again. -/
def execTrimExchange (site : SiteId) (q : Fin 4) (t1 t2 t4 : BitVec 64) (s : State) : Host.Outcome State Fault Refusal :=
  .next (
    let r := (s.sites[site]).regions[q]
    let training := decide ((s.sites[site]).state = .training)
    match (s.parentOf site q).bind fun p => (s.parentAt site p).map fun y => (p, y) with
    | none => s
    | some (p, y) =>
      let may := if training then s.trains site q p else s.serviceEnds site q t1
      let late := !training && r.trimStart.any fun c => decide (c + 512 < s.cue)
      if s.pastLoss site || s.pastLoss y.1 || late then
        s.setRegion site q fun r => { r with trimFrom := r.trimFrom.map fun c => if c + 512 ≤ s.cue then s.cue else c }
      else if !may || s.cue < r.heldTo || !stampsFit (s.counter site q) (s.counter y.1 y.2) t1 t2 t4 then s
      else
        let d := trimD t1 t2 t4
        let move (k : Int) : State :=
          let s := if training && r.loads == 0 && isCompute site && q == s.anchor site && k ≠ 0 then s.retrain site q else s
          if k ≠ 0 && !s.nearAll site q k then s
          else (s.setRegion site q fun r => if training then (r.corrected k s.cue).counted d else r.corrected k s.cue).askOfs site q
        if training && r.loads == 0 then move d
        else if d.natAbs ≤ 2 then move d.sign
        else (move 0).pathOut site q p)

/-- The exchange that a pending request comes to when nothing brought one within 512 cycles of its beginning: flits that took as long there as
back (12 R314; log 20). -/
def State.dueExchange (s : State) (n : SiteId) (q : Fin 4) : Option Event :=
  if (s.sites[n]).state = .training then none
  else
    let x := s.counter n q
    match ((s.parentOf n q).bind (s.parentAt n)), (((s.sites[n]).regions[q]).trimStart) with
    | some y, some c =>
      if c + 512 ≤ s.cue then
        let run : Int := ((s.cue - c : Nat) : Int)
        some (.trimExchange n q (BitVec.ofInt 64 (x - run)) (BitVec.ofInt 64 (s.counter y.1 y.2 - (run + 16) / 2)) (BitVec.ofInt 64 x))
      else none
    | _, _ => none

/-- Whether an exchange that only measures finds a difference that counters in trim can have (08 R217, 12 R312). -/
def ofsFits (x y : Int) (t1 t2 t4 : W64) : Bool := stampsFit x y t1 t2 t4 && decide ((trimD t1 t2 t4).natAbs ≤ 2)

/-- OFS_MEASUREMENT: a measurement over a crossing of a tile sets the side's OFS and corrects nothing (12 R311). -/
def execOfsMeasurement (k : TileKey) (side : Side) (t1 t2 t4 : BitVec 64) (s : State) : Host.Outcome State Fault Refusal :=
  atTile k (fun h =>
    match s.crossing h.gang k side with
    | some x =>
      match s.tileAt x.peer with
      | some u =>
        if x.up && h.t.ofsDue[sideNo side] &&
            ofsFits (s.counter h.t.site h.t.region) (s.counter u.site u.region) t1 t2 t4 then
          s.setTile { h.t with
            ofs := h.t.ofs.set (sideNo side) (BitVec.ofInt 8 (trimD t1 t2 t4))
            ofsDue := h.t.ofsDue.set (sideNo side) false }
        else s
      | none => s
    | none => s) s

end Sys2Proof.Machine
end

