-- ==== Sys2Proof/Machine/Company.lean ====
section
/-! DEFINITION. Companies as a whole: holds (09 R242 to R244), freeze and resume (09 R251 to R255), start and end of a launch (09 R235,
R260, R261; 11 R298), storage errors (11 R299, R300). -/
namespace Sys2Proof.Machine

/-! ### Use of sites (13 R324) -/

/-- Whether a company uses a site: a gang on a compute site; a pinned deck segment in, or a fly record for, a memory site (13 R324). -/
def Company.uses (c : Company) (n : SiteId) : Bool :=
  if isCompute n then c.gangs.any fun g => g.site == n && !g.detached
  else (c.info.segtab.any fun e => e.pinnedDeck && winSite e.base == some n) ||
    c.gangs.any fun g => g.bin.book.any fun r => (r.kind == .flyRd || r.kind == .flyWr) && r.site == n.val

/-- Whether a gang placed again on a site waits for its first bundle (13 R334). -/
def State.rejoining (s : State) (n : SiteId) : Bool :=
  s.ops.any fun o => match o.kind with
    | .rejoin w g x => x != .waiting && s.companies.any fun c => c.info.queue == o.queue && c.info.cmb == w && c.gangs.any fun x => x.idx == g && x.site == n
    | _ => false

/-- Whether a site is in use (13 R324). -/
def State.inUse (s : State) (n : SiteId) : Bool :=
  if n = siteS then (s.sites[n]).state.serving else (s.companies.any fun c => c.uses n) || s.rejoining n

/-- First and last uses: ADMITTED and ACTIVE follow the use of a site, DRAINING ends with it (13 R326, R333). -/
def State.reuse (s : State) : State :=
  (List.finRange 17).foldl (fun s n =>
    if s.decisions.any fun d => d.site == n then s
    else match (s.sites[n]).state, s.inUse n with
      | .admitted, true => s.judge n .active 0
      | .active, false => s.judge n .admitted 0
      | .draining, false => s.judge n .released 0
      | _, _ => s) s

/-- Working physical rows of a region whose rail is live (12 R306, R318). -/
def Region.gradeOf (r : Region) : Nat := if r.rail then (workingRows r.defects).length else 0

/-- The island of a tile (12 R317). -/
def State.islandOf (s : State) (t : Tile) : Fin 32 :=
  let d := ((s.sites[t.site]).regions[t.region]).mapped
  let p := physRow d t.row
  ⟨(2 * p + (if physCol d p t.col < 8 then 0 else 1)) % 32, Nat.mod_lt _ (by decide)⟩

/-- Whether the power switch of a physical tile is closed: the tile holds a logical position (12 R306, 15 R365). -/
def Region.switchedOn (r : Region) (p : Fin 16) (col : Fin 17) : Bool :=
  let b := r.mapped[p].toNat
  decide (b < 128) && decide (b % 32 ≠ col.val) && !(decide (col.val = 16) && decide (b % 32 = 0x1f))

/-- Whether a company's islands are not at rest: they are while it stands frozen, its contexts saved, until it is chosen for resumption (15 R365). -/
def Company.onTiles (c : Company) : Bool := match c.mode with
  | .frozen true _ => false
  | _ => true

/-- An island off: its regulator has failed, or its region's rail is dead (12 R317, R318; 15 R370). -/
def Island.off (x : Island) : Island := { x with mode := 0, vset := 0, vmeas := 0, woken := none }

/-- An island at a voltage; its measured voltage follows. -/
def Island.setTo (x : Island) (mode : BitVec 2) (v : BitVec 12) : Island := { x with mode := mode, vset := v, vmeas := v }

/-- An island of a module as its regulator serves it (15 R365): off where it has failed; awake, at the voltage of the highest clock of the companies in it;
else at retention voltage. -/
def Island.served (x : Island) (rail : Bool) (chip q i : Nat) (level : Option (Fin 4)) : Island :=
  if x.failed || !rail then x.off
  else match level with
    | some l => if x.woken.isSome then x.setTo 2 (Config.islandVolts chip q i l.val) else x.setTo 1 (Config.retentionVolts chip q i)
    | none => { x.setTo 1 (Config.retentionVolts chip q i) with woken := none }

/-- The level a company's islands are set for: in a hold for a reef level the one it brings, since the regulators settle in it (15 R364). -/
def Company.islandLevel (c : Company) : Fin 4 := match c.mode with
  | .held _ => (c.holds.findSome? fun x => match x.cause with
    | .reef l => if x.at_ ≤ c.cue then some l else none
    | .overlay => none).getD c.level
  | _ => c.level

/-- Whether a gang of a company waits for its first bundle on tiles that have been given to it (13 R334). -/
def State.returning (s : State) (c : Company) (g : Nat) : Bool :=
  s.ops.any fun o => match o.kind with
    | .rejoin w x y => y != .waiting && c.info.queue == o.queue && c.info.cmb == w && x == g
    | _ => false

/-- The islands in use, each with the level of a company with a tile in it; the tiles of a gang placed again among them (13 R334, 15 R365). -/
def State.islandsUsed (s : State) : List ((SiteId × Fin 4 × Fin 32) × Fin 4) :=
  s.companies.flatMap fun c => if c.onTiles then
    (((s.tilesOf c.num).filter fun t => !t.lost || s.returning c t.key.gang).map fun t =>
      ((t.site, t.region, s.islandOf t), c.islandLevel)).eraseDups else []

/-- The highest clock of the companies with a tile in an island: the lowest of their levels (15 R365). -/
def lowestLevel (used : List ((SiteId × Fin 4 × Fin 32) × Fin 4)) (n : SiteId) (q : Fin 4) (i : Nat) : Option (Fin 4) :=
  (used.filter fun u => u.1.1 == n && u.1.2.1 == q && u.1.2.2.val == i).foldl
    (fun (m : Option (Fin 4)) u => some (m.elim u.2 fun x => if x ≤ u.2 then x else u.2)) none

/-- Whether an island of a site is served for companies, its power stage closed: the module has passed its self-test, or is past one that it did not
pass and has the island in voltage (15 R365). -/
def SiteState.serves (x : SiteState) (y : Island) : Bool := x.up || x == .training || (x == .lost || x == .faulted) && y.mode != 0

/-- The islands of every module set again: as companies come, go, change their level, or stand frozen (15 R365). -/
def State.restIslands (s : State) : State :=
  let used := s.islandsUsed
  let rest (s : State) (n : SiteId) (q : Fin 4) (rail : Bool) (i : Nat) (x : Island) : Island :=
    if (s.sites[n]).state.serves x then x.served rail (s.sites[n]).chip q.val i (lowestLevel used n q i) else x
  computeSites.foldl (fun s n => if !(s.sites[n]).stage then s else (List.finRange 4).foldl (fun s q =>
    s.setRegion n q fun r => { r with islands := r.islands.mapIdx (rest s n q r.rail) }) s) s

/-- The islands of a module at their configured voltages for its self-test (15 R367). -/
def Site.testIslands (x : Site) : Site :=
  let on (q i : Nat) (y : Island) : Island := y.setTo 2 (Config.islandVolts x.chip q i 0)
  { x with regions := x.regions.mapIdx fun q r => { r with islands := if r.rail then r.islands.mapIdx (on q) else r.islands } }

/-- The rails of a module discharged, its power stage open (13 R323, R333). -/
def Site.dark (x : Site) : Site :=
  { x with
    stage := false
    openAt := none
    regions := x.regions.map fun r => { r with islands := r.islands.map Island.off } }

/-- Regions without a company, frozen ones included, take their new map and grade (12 R317). -/
def State.remap (s : State) : State :=
  computeSites.foldl (fun s n => (List.finRange 4).foldl (fun s q =>
    if s.tiles.any fun t => t.site == n && t.region == q then s
    else s.setRegion n q fun r => { r with mapped := r.defects, grade := r.gradeOf }) s) s

/-! ### Completions (14 R343, R344; 09 R261) -/

/-- The completion word of a packet: its status (14 R343). -/
def statusWord (code : BitVec 8) : W64 := BitVec.ofNat 64 (code.toNat * 2 ^ 56)

/-- A packet completes: its word is posted when it asked for one (14 R343). -/
def State.opDone (s : State) (id : Nat) (w : W64) : State :=
  match s.ops.find? fun o => o.id == id with
  | none => s
  | some o =>
    let s := { s with ops := s.ops.filter fun x => x.id != id }
    match o.done with
    | some m => s.mbPost m w
    | none => s

/-- The completion word of a launch (09 R261). -/
def completionWord (code : BitVec 8) (rollbacks holdCyc : Nat) : W64 :=
  BitVec.ofNat 64 (code.toNat * 2 ^ 56 + min 255 rollbacks * 2 ^ 48 + min (2 ^ 48 - 1) holdCyc)

/-- The pending rejoin requests of a launch, or of one gang of it. -/
def State.rejoinsOf (s : State) (i : LaunchInfo) (g : Option Nat) : List PendOp :=
  s.ops.filter fun o => match o.kind with
    | .rejoin w x _ => o.queue == i.queue && w == i.cmb && g.all (· == x)
    | _ => false

/-- UNLOADED, a code of R290. -/
def cUNLOADED : BitVec 8 := 0x3b

/-- A launch leaves: its loads not applied end with its code, its rejoin requests with UNLOADED (14 R348, R351), its completion word is
posted, its tiles, circuits and reservations are freed (09 R260, R261). -/
def State.freeCompany (s : State) (c : Company) (code : BitVec 8) : State :=
  let s := c.info.loads.foldl (fun s l => s.opDone l.op (statusWord (if code = 0 then 0 else code))) s
  let s := (s.rejoinsOf c.info none).foldl (fun s o => s.opDone o.id (statusWord cUNLOADED)) s
  let s := (s.closeReqs c.num).opDone c.info.op (completionWord code c.rollbacks (c.holdTotal s.cue))
  { s with
    tiles := s.tiles.filter fun t => t.key.co != c.num
    companies := s.companies.filter fun d => d.num != c.num
    circuits := s.circuits.filter fun x => x.co != c.num
    xlate := s.xlate.filter fun x => x.key.co != c.num }.remap.restIslands.reuse

/-! ### Holds (09 R242 to R244) -/

/-- Whether a tile that asked for it, halted since or not, still lacks the segment whose entry cue is `h`, from company cue `h` − 256 on (09
R245). -/
def Tile.lateAt (t : Tile) (h : Nat) : Bool := !t.lost && t.st.ovl.any fun o => o.entry == h && !o.done

/-- The first replay boundary of a company at or after a cue (09 R247). -/
def Company.boundaryFrom (c : Company) (cue : Nat) : Option Nat :=
  ((c.gangs.head?.map fun g => g.bin.boundaries).getD []).foldl (fun (b : Option Nat) o =>
    let x := c.base + o
    if cue ≤ x ∧ b.all (fun y => decide (x < y)) then some x else b) none

/-- The cue at which a company takes a changed wanted level: one past its first boundary 256 cycles after the change (15 R364). -/
def Company.reefCue (c : Company) : Option Nat := if c.wanted = c.level then none else (c.boundaryFrom (c.wantedCue + 256)).map (· + 1)

/-- HOLD_ANNOUNCEMENT: 256 cycles ahead, a hold at company cue `h` for an overlay fetch still incomplete (09 R242, R245) or for a new
reef level (15 R364). -/
def execHoldAnnouncement (co : Nat) (h : Nat) (s : State) : Host.Outcome State Fault Refusal :=
  .next (match s.coAt co with
    | none => s
    | some c =>
      if c.mode ≠ .running ∨ c.fatal.isSome ∨ c.cue + Config.holdLead ≠ h then s
      else
        let add (c : Company) (x : HoldCause) : Company :=
          if c.holds.any fun y => y.at_ == h && decide (y.cause = x) then c else { c with holds := c.holds ++ [⟨h, x⟩] }
        let c := if (s.tilesOf co).any fun t => t.lateAt h then add c .overlay else c
        let c := if c.reefCue = some h then add c (.reef c.wanted) else c
        s.setCo c)

/-- Whether a hold is one for a reef level. -/
def Hold.isReef (x : Hold) : Bool := match x.cause with
  | .reef _ => true
  | .overlay => false

/-- The wanted level of a company: the highest target over its sites. Changes before the boundary of the first of them merge into the last, and a
hold announced for it brings that level (15 R363, R364). -/
def Company.rewanted (c : Company) (w : Fin 4) : Company :=
  let ahead (x : Hold) : Bool := x.isReef && decide (c.cue + 1 < x.at_)
  let merges := c.holds.any ahead ||
    decide (c.wanted ≠ c.level) && (c.boundaryFrom (c.wantedCue + 256)).all fun b => decide (c.cue < b)
  if w = c.wanted then c
  else { c with
    wanted := w
    wantedCue := if merges then c.wantedCue else c.cue
    holds := c.holds.map fun x => if ahead x then { x with cause := .reef w } else x }

/-- Wanted levels judged again: a target changed, a gang was detached or came back (15 R363). -/
def State.rewant (s : State) : State :=
  { s with companies := s.companies.map fun c =>
      let top := c.gangs.foldl (fun (m : Nat) g => if g.detached then m else max m (s.sites[g.site]).target.toNat) 0
      c.rewanted ⟨top % 4, Nat.mod_lt _ (by decide)⟩ }

/-- Whether a hold's cause stands; one for a reef level does until the level is taken (15 R364). -/
def State.holdStands (s : State) (c : Company) (x : Hold) : Bool :=
  match x.cause with
  | .overlay => (s.tilesOf c.num).any fun t => t.lateAt x.at_
  | .reef _ => true

/-- The holds of a company as it comes to one: a reef hold whose level has become the company's own falls away (15 R364). -/
def Company.holdsNow (c : Company) : List Hold :=
  c.holds.filter fun x => !(decide (x.at_ ≤ c.cue) && decide (x.cause = .reef c.level))

/-- HOLD_BEGIN: at company cue H the company stops, if the cause is still there (09 R243, R244); the regulators settle at a new level's voltages in the
hold (15 R364). -/
def execHoldBegin (co : Nat) (s : State) : Host.Outcome State Fault Refusal :=
  .next (match s.coAt co with
    | none => s
    | some c =>
      let c := { c with holds := c.holdsNow }
      let now := c.holds.filter fun x => decide (x.at_ ≤ c.cue)
      if !c.carries s.cue then s
      else if now.any fun x => s.holdStands c x then (s.setCo { c with mode := .held s.cue }).restIslands
      else s.setCo { c with holds := c.holds.filter fun x => decide (c.cue < x.at_) })

/-- A crossing word after a hold of d deck cycles at cue h: one that arrives in it enters at h, none before its band allows (09 R243). -/
def XWord.held (x : XWord) (h d : Nat) : XWord := { x with arrive := max (max h (x.arrive - d)) x.least }

/-- The words in crossings of a company's tiles after a hold. -/
def State.heldWords (s : State) (co h d : Nat) : State :=
  s.mapTiles co fun t => { t with st := { t.st with xwords := t.st.xwords.map fun x => x.held h d } }

/-- HOLD_END: the last cause is gone; the hold's deck cycles are counted (09 R243, R261). A level taken in the hold has its D0 here (15
R364). -/
def execHoldEnd (co : Nat) (s : State) : Host.Outcome State Fault Refusal :=
  .next (match s.coAt co with
    | none => s
    | some c => match c.mode with
      | .held since =>
        if (c.holds.filter fun x => decide (x.at_ ≤ c.cue)).any fun x => s.holdStands c x then s
        else (s.setCo { c with
          mode := .running
          holds := c.holds.filter fun x => decide (c.cue < x.at_)
          holdCyc := c.holdTotal s.cue
          d0 := if since < c.d0 then s.cue else c.d0 }).heldWords co c.cue (s.cue - since)
      | _ => s)

/-- REEF_LEVEL_CHANGE: 4,096 deck cycles into its hold the company takes the level; where no boundary falls within 2^22 cycles of the
change, a freeze is announced instead (15 R364, 09 R251). -/
def execReefLevelChange (co : Nat) (s : State) : Host.Outcome State Fault Refusal :=
  .next (match s.coAt co with
    | none => s
    | some c =>
      match c.mode with
      | .held since =>
        let now := c.holds.filter fun x => decide (x.at_ ≤ c.cue)
        if s.cue < since + 4096 then s
        else
          (s.setCo { (now.foldl (fun (c : Company) x => match x.cause with
            | .reef l => { c with level := l, d0 := s.cue }
            | .overlay => c) c) with holds := c.holds.filter fun x => !(x.isReef && decide (x.at_ ≤ c.cue)) }).restIslands
      | _ =>
      let late := (c.boundaryFrom (c.wantedCue + 256)).all fun b => decide (c.wantedCue + 2 ^ 22 < b)
      if c.mode = .running ∧ c.fatal.isNone ∧ c.wanted ≠ c.level ∧ late ∧ c.freezeAt.isNone ∧ s.serviceUp ∧ !c.covering then
        s.setCo { c with freezeAt := some (c.cue + Config.freezeLead) }
      else s)

/-! ### Freeze (09 R251, R252, R254) -/

/-- FREEZE_ANNOUNCEMENT at a company cue at least 2,048 ahead; one behind a pending freeze is put off until resume (09 R251). A company
over a frozen context is never frozen (R254); nothing is announced without site S (13 R336). Of several put off the latest stands (DESIGN CHOICE,
log 84). -/
def execFreezeAnnouncement (co : Nat) (cue : Nat) (s : State) : Host.Outcome State Fault Refusal :=
  .next (match s.coAt co with
    | none => s
    | some c =>
      if c.fatal.isSome || c.covering || !s.serviceUp || decide (cue < c.cue + Config.freezeLead) then s
      else match c.mode with
        | .loading _ => s
        | .frozen .. | .resuming .. => s.setCo { c with freezeNext := some cue }
        | _ => s.setCo (if c.freezeAt.isSome then { c with freezeNext := some cue } else { c with freezeAt := some cue }))

/-- The data a tile's engines hold is captured: a later loss of its source no longer reaches it (09 R252). -/
def TState.captured (st : TState) (own : SiteId) : TState :=
  { st with
    fly := st.fly.map fun c => { c with site := own }
    wheel := st.wheel.map fun c => if c.res.isSome then { c with site := own } else c }

/-- FREEZE, in two parts of one deck cycle (log 3): at T the company issues nothing more, and the words in its crossings stand in the receivers'
replay buffers (09 R252, 08 R219); at its place among the companies of the cycle its fly memory sides complete (07 R206, 10 R269). Everything in flight
keeps its relative cue. -/
def execFreeze (co : Nat) (s : State) : Host.Outcome State Fault Refusal :=
  .next (match s.coAt co with
    | none => s
    | some c =>
      let still := match c.mode with
        | .running | .held _ => true
        | _ => false
      if c.fatal.isSome then s
      else if c.mode = .frozen false s.cue then (s.drainPoints co).mapTiles co fun t => { t with st := t.st.captured t.site }
      else if !still || !(c.freezeAt.any fun t => decide (t ≤ c.cue)) then s
      else
        let total := c.holdTotal s.cue
        let s := s.heldWords co c.cue (total - c.holdCyc)
        (s.mapTiles co fun t => { t with st := s.drained c t }).setCo
          { c with mode := .frozen false s.cue, freezeAt := none, holdCyc := total })

/-- Deck cycles within which a freeze's image is saved (09 R252). -/
def freezeBound : Nat := 8000

/-- FREEZE_SAVE_COMPLETE: every tile's context stands in its shadow store (09 R252); a lost gang's is not saved (13 R338). The islands go to
retention voltage (15 R365); whether the resumption waits 65,536 cycles for them is free (log 63). -/
def execFreezeSaveComplete (co : Nat) (s : State) : Host.Outcome State Fault Refusal :=
  .next (match s.coAt co with
    | none => s
    | some c => match c.mode with
      | .frozen false since =>
        if s.cue = since then s else
        ({ s with free := s.free + 1 }.setCo { c with mode := .frozen true since, rested := Config.freeBool s.free }).mapTiles co (fun t =>
          if t.lost then t else { t with frz := some t.st }) |>.restIslands
      | _ => s)

/-! ### Resume (09 R253, R255) -/

/-- Whether the islands of a company's tiles were woken `n` cycles ago (15 R365). -/
def State.wokenFor (s : State) (co n : Nat) : Bool :=
  (s.tilesOf co).all fun t => t.lost ||
    ((((s.sites[t.site]).regions[t.region]).islands[s.islandOf t]).woken).any fun w => decide (w + n ≤ s.cue)

/-- Whether the islands of a company's tiles were woken 65,536 cycles and `more` ago (15 R365, 09 R235). -/
def State.awake (s : State) (co more : Nat) : Bool := s.wokenFor co (65536 + more)

/-- Whether the islands of a company to be resumed have been woken: 65,536 cycles ago, or not so long, freely (15 R365, 17 R374; log 63). -/
def State.resumable (s : State) (c : Company) : Bool := s.wokenFor c.num (if c.rested then 65536 else 0)

/-- Whether two tiles stand at one place. -/
def Tile.samePlace (t u : Tile) : Bool := t.site == u.site && t.region == u.region && t.row == u.row && t.col == u.col

/-- Whether the tiles of a company are free of other companies that run; those of a lost gang count once they have been given to it again (13
R334). -/
def State.uncovered (s : State) (co : Nat) : Bool :=
  (s.tilesOf co).all fun t => (t.lost && !(s.coAt co).any fun c => s.returning c t.key.gang) ||
    !(s.tiles.any fun u => u.key.co != co && u.samePlace t)

/-- INSTRUCTION_MEMORY_REWRITE: both halves of every tile are written again, an outstanding fetch with them; then the regions are
trimmed (09 R253, R255; 12 R315). Without site S the company stays frozen (13 R336). -/
def execInstructionMemoryRewrite (co : Nat) (s : State) : Host.Outcome State Fault Refusal :=
  .next (match s.coAt co with
    | none => s
    | some c => match c.mode with
      | .resuming false _ =>
        if !s.serviceUp then s else
        let w := s.rewriteAll c (s.tilesOf co)
        if !w.2 then w.1
        else
          let s := w.1.setCo { c with mode := .resuming true (s.cue + 1) }
          (s.tilesOf co).foldl (fun s t => if t.lost then s else s.askTrim t.site t.region s.cue) s
      | _ => s)

/-- RESUME: the regions trimmed, the resume cue is announced, 256 cycles ahead; there the company goes on at company cue T, at the wanted level
(09 R253, 12 R315, 15 R364), where the rule asks for 256 or more (DESIGN CHOICE, log 83). Without site S none is announced (13 R336). A bad freeze image
ends the launch (11 R299). -/
def execResume (co : Nat) (s : State) : Host.Outcome State Fault Refusal :=
  .next (match s.coAt co with
    | none => s
    | some c => match c.mode with
      | .resuming true since =>
        let ts := (s.tilesOf co).filter fun t => !t.lost
        let trimmed := ts.all fun t => (((s.sites[t.site]).regions[t.region]).trimFrom).isNone
        if c.fatal.isSome then s
        else if !trimmed || !s.resumable c || (decide (s.cue = since) && !s.serviceUp) then s.setCo { c with mode := .resuming true (s.cue + 1) }
        else if s.cue < since + 256 then s
        else
          let bad := ts.any fun t => t.frz.isNone
          let next := c.freezeNext.map fun t => max t (c.cue + Config.freezeLead)
          let c := { c with
            mode := .running
            d0 := s.cue
            level := c.wanted
            since := c.cue
            freezeAt := next
            freezeNext := none
            rested := false
            holds := c.holds.filter fun x => decide (x.cause = .overlay) }
          let s := (((s.setCo c).mapTiles co fun t => { t with frz := none }).startCounters co).restIslands
          if bad then s.endCause co cECC 0 0 7 none else s
      | _ => s)

/-! ### Start (09 R235) -/

/-- COMPANY_START: at S every tile is about to issue address 0 of segment 0; company cue is deck cue (09 R235, 01 R37). Its loads are in
(14 R348). A launch starts at the highest target of its sites (15 R362). -/
def execCompanyStart (co : Nat) (s : State) : Host.Outcome State Fault Refusal :=
  .next (match s.coAt co with
    | none => s
    | some c => match c.mode with
      | .loading start =>
        if s.cue < start ∨ !c.info.loads.isEmpty ∨ c.fatal.isSome ∨ !s.awake co 4096 then s
        else
          let top := c.gangs.foldl (fun (m : Nat) g => max m (s.sites[g.site]).target.toNat) 0
          let lv : Fin 4 := ⟨top % 4, Nat.mod_lt _ (by decide)⟩
          ((s.setCo { c with
            mode := .running
            base := s.cue
            cue := s.cue
            since := s.cue
            lastB := s.cue - 1
            d0 := s.cue
            level := lv
            wanted := lv
            wantedCue := s.cue
            gangs := c.gangs.map fun g => { g with base := s.cue } }).startCounters co).restIslands
      | _ => s)

/-! ### The end of a launch (09 R260, R261; 11 R298) -/

/-- Whether the entries of a queue left are those that can complete only after a release (09 R260). -/
def releaseOnly : List AcEntry → Bool
  | [] => true
  | x :: r =>
    if x.mark then wide x.scope
    else (match x.stage with
      | .gated | .failed .. => true
      | _ => false) && releaseOnly r

/-- Whether a tile's work for its launch is done, but for entries that wait for a release (09 R260). -/
def Tile.finished (t : Tile) : Bool :=
  let x := t.st
  t.lost || (x.halted && x.flight.isEmpty && x.fly.isEmpty && x.wheel.isEmpty && x.copyQ.isEmpty && x.mbQ.isEmpty &&
    x.chorus.isEmpty && x.combine.isEmpty && x.ringReq.isEmpty && releaseOnly x.loadQ && releaseOnly x.storeQ)

/-- LAUNCH_END: every tile halted and its work done, the open interval is sealed; with that released and no entry left, the launch ends
(09 R260, R261); one whose company is held or frozen ends once it runs again (DESIGN CHOICE, log 99). -/
def execLaunchEnd (co : Nat) (s : State) : Host.Outcome State Fault Refusal :=
  .next (match s.coAt co with
    | none => s
    | some c =>
      if c.mode ≠ .running ∨ c.fatal.isSome ∨ !((s.tilesOf co).all Tile.finished) then s
      else if !c.gateOpen.isEmpty then s.setCo (s.seal c)
      else if !c.gateSealed.isEmpty || ((s.tilesOf co).any fun t => !t.lost && !(t.st.loadQ.isEmpty && t.st.storeQ.isEmpty)) then s
      else s.freeCompany c 0)

/-- A tile that never issues again: nothing of its engines is left (11 R297). -/
def TState.abandoned (st : TState) : TState :=
  { st with fly := [], wheel := [], loadQ := [], storeQ := [], copyQ := [], mbQ := [], chorus := [], combine := [], ringReq := [], ovl := none }

/-- A tile of a launch that ends: nothing of its engines is left, every unit is CORE's again (11 R298). -/
def TState.ended (st : TState) : TState := { st.abandoned with halted := true, own := st.own.map fun b => b &&& 0x10 }

/-- The sealed writes of a company released at its end; those to the host wait for PCIe, and those past a loss cue are lost (11 R298; 13 R330, R336). -/
def State.releaseSealed (s : State) (c : Company) : State :=
  let ws := ((c.gateSealed.map (·.writes)).flatten).filter fun w => !s.pastLoss w.site
  let waits (w : GWrite) : Bool := w.host.isSome && !s.serviceUp
  let later := ws.filter waits
  ((ws.filter fun w => !waits w).foldl State.performGated s).setCo
    { c with gateSealed := if later.isEmpty then [] else [⟨0, true, later⟩] }

/-- LAUNCH_FAULT_END: every region has stopped; sealed intervals are released, the open one is discarded, the engines' work is abandoned, units
return and a record is posted; once the last release is done, in a later cycle, the completion word is posted with the first cause (11 R298, R301). It is
done 257 cycles after the cause, the first by which every region has stopped (DESIGN CHOICE, log 101). -/
def execLaunchFaultEnd (co : Nat) (s : State) : Host.Outcome State Fault Refusal :=
  .next (match s.coAt co with
    | none => s
    | some c => match c.fatal with
      | none => s
      | some f =>
        if s.cue < f.since + 257 then s
        else if f.stopped && c.gateSealed.isEmpty then s.freeCompany c f.code
        else if f.stopped then s.releaseSealed c
        else
          let s := s.releaseSealed c
          let later := ((s.coAt co).map (·.gateSealed)).getD []
          let p : RecPlace := match f.tile.bind s.tileAt with
            | some t => s.placeOf t
            | none => ⟨(c.gangs.head?.map (·.site.val)).getD 16, 0, 0, 0, 0⟩
          ((s.setCo { c with gateSealed := later, gateOpen := [], fatal := some { f with stopped := true } }).mapTiles co fun t =>
            if t.lost then t else { t with st := t.st.ended }).postRec (recSite p) { faultRec 1 f.code co p f.unit f.info f.pc f.since with st := f.words })

/-! ### Storage errors (11 R299, R300) -/

/-- A record of KIND 5; the failing address is free where the event does not carry it (11 R301, log 5); COMPANY is zero where it concerns none (DESIGN
CHOICE, log 19). -/
def State.uncorrected (s : State) (co unit : Nat) (p : RecPlace) (addr : Option Nat) : State :=
  { s.postRec (recSite p) (faultRec 5 cECC co p unit (BitVec.ofNat 64 (addr.getD (Config.freeNat s.free))) 0 s.cue) with
    free := s.free + 1 }

/-- Where a weight store of a logical position begins (10 R265). -/
def State.weightBaseAt (s : State) (site : SiteId) (q : Fin 4) (row col : Fin 16) : Nat :=
  let d := ((s.sites[site]).regions[q]).mapped
  let p := physRow d row
  (((site.val * 4 + q.val) * 16 + p) * 17 + physCol d p col) * Config.weightBytes

/-- A translation of a region's buffers that met an error, freely which, is dropped, and walked again when it is next wanted (11 R299, log
5). -/
def State.dropXlate (s : State) (site : SiteId) (q : Fin 4) : State :=
  let mine := s.xlate.filter fun x => x.key.site == site && x.key.region == q
  match mine[Config.freeNat s.free % max 1 mine.length]? with
  | some x => { s with xlate := s.xlate.erase x, free := s.free + 1 }
  | none => s

/-- UNCORRECTABLE_ERROR: what each structure brings (11 R299, R300). -/
def execUncorrectableError (w : ErrPlace) (s : State) : Host.Outcome State Fault Refusal :=
  .next (match w with
    | .tile k u => match s.tileAt k with
      | none => s
      | some t => (s.uncorrected k.co u (s.placeOf t) none).rollback k.co u 0 (s.placeOf t)
    | .weights site q row col =>
      let here := s.tiles.filter fun t => t.site == site && t.region == q && t.row == row && t.col == col && !t.lost
      let d := ((s.sites[site]).regions[q]).mapped
      let s := s.uncorrected ((here.head?.map (·.key.co)).getD 0) 6 ⟨site, q, row, col, physCol d (physRow d row) col⟩ none
      let s := { s with weightBad := (s.weightBaseAt site q row col :: s.weightBad).eraseDups }
      here.foldl (fun s t => s.endCause t.key.co cECC 0 0 6 (some t.key)) s
    | .shadow k boundary => match s.tileAt k with
      | none => s
      | some t =>
        let s := s.uncorrected k.co 7 (s.placeOf t) none
        if boundary then s.setTile { t with imgBad := true } else s.setTile { t with frz := none }
    | .gate co site q sealed => match s.coAt co with
      | none => s
      | some c =>
        let s := s.uncorrected co 8 ⟨site, q, 0, 0, 0⟩ none
        if !sealed then s.rollback co 8 0 ⟨site, q, 0, 0, 0⟩
        else
          let ws := ((c.gateSealed.map (·.writes)).flatten).filter fun x => x.site == site && x.region == q
          match ws[Config.freeNat s.free % max 1 ws.length]? with
          | none => { s with free := s.free + 1 }.endCause co cECC 0 0 8 none
          | some x =>
            let s := { s with
              free := s.free + 1
              poison := if x.host.isNone then (blocksOf (x.bytes.filter fun c => !s.hole c.1) ++ s.poison).eraseDups else s.poison }
            (s.setCo { c with gateSealed := c.gateSealed.map fun i => { i with writes := i.writes.filter fun y => y != x } }).endCause
              co cECC 0 0 8 none
    | .hbm addr =>
      match winSite addr.toNat with
      | some n => if s.hole addr.toNat then s else
          { s.uncorrected 0 9 ⟨n, 0, 0, 0, 0⟩ (some addr.toNat) with poison := (blockOf addr.toNat :: s.poison).eraseDups }
      | none => s
    | .mailbox m => if (s.sites[siteS]).state.powered && !s.pastLoss siteS then (s.uncorrected 0 0x0a ⟨16, 0, 0, 0, 0⟩ (some m.val)).mbSet m ⟨BitVec.allOnes 64, true⟩ else s
    | .link l => if s.linkUp l then s.linkOut l else s
    | .xlate site q => (s.dropXlate site q).modCount site 0 0x0c)

/-- CORRECTED_ERROR: counted; no value and no cycle changes (11 R299, R302). Structures with parity alone correct nothing. -/
def execCorrectedError (w : ErrPlace) (s : State) : Host.Outcome State Fault Refusal :=
  .next (match w with
    | .tile k u => match s.tileAt k with
      | some t => if u = 1 then s.regCount t.site t.region 3 1 else if u = 2 then s.regCount t.site t.region 2 2 else s
      | none => s
    | .weights site q _ _ => s.regCount site q 1 6
    | .shadow k _ => match s.tileAt k with
      | some t => s.regCount t.site t.region 0 7
      | none => s
    | .gate _ site _ _ => s.modCount site 2 8
    | .hbm addr => match winSite addr.toNat with
      | some n => s.modCount n 3 9
      | none => s
    | .mailbox _ => s
    | .link l => s.modCount l.site 1 0x0b
    | .xlate site q => (s.dropXlate site q).modCount site 0 0x0c)

/-- SCRUB: a populated range read through; an error it corrects, freely, is counted and written back (11 R300, log 5). -/
def execScrub (site : SiteId) (s : State) : Host.Outcome State Fault Refusal :=
  .next (if (s.sites[site]).state.up && decide (site ≠ siteS) then
      let t := { s with free := s.free + 1 }
      if Config.freeBool s.free then t.modCount site 3 9 else t
    else s)

end Sys2Proof.Machine
end

