-- ==== Sys2Proof/Machine/Records.lean ====
section
/-! DEFINITION. Configuration records in flash: what is signed, by whom, which record rules (14 R353, R356);
which image verifies, the service module's start (14 R354). -/
namespace Sys2Proof.Machine

/-- Header and payload of a record as it is signed (14 R353). -/
def signedPart (r : FlashRecord) : List Byte :=
  leBytes 4 0x6472636f ++ leBytes 4 r.typ ++ leBytes 4 r.payload.length ++ leBytes 4 r.seq ++ r.payload

/-- The latest of records. -/
def latest (rs : List FlashRecord) : Option FlashRecord :=
  rs.foldl (fun (b : Option FlashRecord) r => if b.any fun x => decide (r.seq ≤ x.seq) then b else some r) none

/-- The owner record that stands: the latest, unless it removes the key (14 R353, R356; its layout: log 9). -/
def Firmware.owner (f : Firmware) : Option FlashRecord :=
  (latest (f.records.filter fun r => r.typ == 2)).filter fun r => decide (2592 ≤ r.payload.length)

/-- The public key of an owner record (14 R353; log 9). -/
def ownerKey (r : FlashRecord) : List Byte := r.payload.take 2592

/-- Whether a signature over a digest is of a key accepted for records and images (14 R353, R354). -/
def Firmware.signedBy (f : Firmware) (digest : BitVec 512) (sig : List Byte) : Bool :=
  match f.owner with
  | some o => Config.verifies (ownerKey o) digest sig || ((o.payload.getD 2592 0).toNat % 2 == 1 && Config.verifies Config.vendorKey digest sig)
  | none => Config.verifies Config.vendorKey digest sig

/-- Whether a record of type 1, 3 or 4 is accepted (14 R353). -/
def Firmware.accepts (f : Firmware) (r : FlashRecord) : Bool := f.signedBy (Config.sha3 (signedPart r)) r.sig

/-- The record of a type that rules: the latest that is accepted (14 R353). -/
def Firmware.record (f : Firmware) (typ : Nat) : Option FlashRecord := latest (f.records.filter fun r => r.typ == typ && f.accepts r)

/-! ### Firmware images (14 R353, R354) -/

/-- The least security version of the Deck record (14 R353; its layout: log 9). -/
def Firmware.minVersion (f : Firmware) : Nat := ((f.record 1).map fun r => leNat ((r.payload.drop 1).take 4)).getD 0

/-- Whether an image verifies: its signature over its digest, its security version (14 R354). -/
def Firmware.imageGood (f : Firmware) (img : List Byte) : Bool :=
  f.signedBy (Config.sha3 img) (Config.imageSignature img) && decide (f.minVersion ≤ (Config.imageVersion img).toNat)

/-- The service module after reset: the flash image where it verifies and the strap is clear, else recovery (14 R354). A new nonce is
drawn (R356, log 5). -/
def Firmware.boot (f : Firmware) (draw : Nat) : Firmware :=
  let good := !f.strap && !f.torn && f.imageGood f.flash
  { f with
    mode := if good then .running else .recovery
    secVersion := if good then Config.imageVersion f.flash else 0
    nonce := BitVec.ofNat 512 (Config.freeNat draw)
    updStat := 0
    update := []
    window := []
    report := [] }

/-- The peers of the Peers record that rules (14 R361; its layout: log 9). -/
def Firmware.peers (f : Firmware) : Vector Peer 16 :=
  Vector.ofFn fun i => match f.record 3 with
    | some r =>
      let p := r.payload
      ⟨Config.peerAddress p i.val, Config.peerPair p i.val, Config.peerPort p i.val, Config.peerBase p i.val, Config.peerLength p i.val,
        decide (0 < Config.peerLength p i.val), 0⟩
    | none => Peer.none

/-- Whether the stage manager is in its restart (14 R358). -/
def FwMode.restarts : FwMode → Bool
  | .restarting _ => true
  | _ => false

/-- The service module reset (14 R354). -/
def State.bootService (s : State) : State :=
  let f := s.fw.boot s.free
  { s with free := s.free + 1, fw := f, peers := if f.mode = .running then f.peers else Vector.replicate 16 Peer.none }

/-- The service module without power: nothing runs, what is not in flash is gone (14 R354). -/
def Firmware.unpowered (f : Firmware) : Firmware :=
  { f with mode := .off, secVersion := 0, updStat := 0, update := [], window := [], report := [] }

/-- The service module loses power; its connections are gone with it (14 R354). -/
def State.serviceOff (s : State) : State := { s with fw := s.fw.unpowered, peers := Vector.replicate 16 Peer.none }

/-- Whether the module of site S is there in its contacts. -/
def State.serviceSeated (s : State) : Bool := (s.sites[siteS]).present && (s.sites[siteS]).clamp && (s.sites[siteS]).lossCue.isNone

/-- Whether the recovery image answers the host on port 0: it runs on a service module that is there (14 R354). -/
def State.recovers (s : State) : Bool := decide (s.fw.mode = .recovery) && s.serviceSeated && !s.stopped

/-- The firmware with other records: where another Peers record rules now, the connections are set up anew (14 R353, R361). -/
def State.withRecords (s : State) (f : Firmware) : State :=
  { s with fw := f, peers := if f.record 3 = s.fw.record 3 then s.peers else f.peers }

end Sys2Proof.Machine
end

