-- ==== Sys2Proof/Machine/Keeper.lean ====
section
/-! DEFINITION. The sites: contacts, power-up, self-test, admission, commands (13 R322 to R328, 15 R367, R368), keep-alive (13 R327), the
effects of a transition and of a loss (13 R327, R329 to R331, R336, R337), rejoin of a gang (13 R334). -/
namespace Sys2Proof.Machine

/-! ### Contacts (13 R326, R327, R329) -/

/-- The defect maps in the configuration record that a module carries: as its last self-test wrote them, else as it brings them along (12 R305; log
76). -/
def State.cardOf (s : State) (chip : Nat) : Vector (Vector Byte 16) 4 :=
  ((s.cards.find? fun c => c.1 == chip).map (·.2)).getD
    (Vector.ofFn fun q => Vector.ofFn fun p => Config.cardByte chip q.val p.val)

/-- The maps a self-test wrote stay with the module (12 R305). -/
def State.keepCard (s : State) (n : SiteId) : State :=
  let x := s.sites[n]
  { s with cards := (x.chip, x.regions.map (·.record)) :: s.cards.filter fun c => c.1 != x.chip }

/-- Contacts of a site close around a module of a type (13 R326); `chip` says which piece of hardware it is, `card` what its record holds (12
R305). -/
def Site.closeContacts (x : Site) (present clamp : Bool) (typ : BitVec 4) (chip : Nat) (card : Vector (Vector Byte 16) 4) (cue : Nat) : Site :=
  let p := x.present || present
  let c := x.clamp || clamp
  { x with
    present := p
    clamp := c
    module := if present then typ else x.module
    chip := if present && !x.present then chip else x.chip
    regions := if present && !x.present then x.regions.mapFinIdx fun i r h => { r with record := card[i] } else x.regions
    openSince := if p then none else x.openSince
    closedSince := if p && c then x.closedSince.orElse fun _ => some cue else none }

/-- Whether what happens to a site is judged by its contacts when the decision takes effect: it is RELEASED, LOST or FAULTED (13 R326). -/
def SiteState.unplugged (x : SiteState) : Bool := x == .released || x == .lost || x == .faulted

/-- An opening: the keeper learns of it within 4,096 cycles and decides within 8,192 (13 R327), freely (log 5). Where the decision leads, the
state of the site says then (13 R326). A service module that is not in power yet is gone with what ran on it (14 R354). -/
def State.opened (s : State) (n : SiteId) (cause : BitVec 8) : State :=
  let at_ := s.cue + Config.freeNat s.free % 12289
  let t := { s with free := s.free + 1 }
  if (s.sites[n]).state.powered then t.loseBy n .lost cause s.cue at_ true
  else
    let t := t.decide_ ⟨at_ + Config.transitionLead, n, if (s.sites[n]).state.unplugged then .empty else .lost, cause, true⟩
    if n = siteS then t.serviceOff else t

/-- Whether a decision about a site that leads to a state is on its way; one on an opening leads where the contacts then say. -/
def State.awaits (s : State) (n : SiteId) (to_ : SiteState) : Bool := s.decisions.any fun d => d.site == n && d.to_ == to_ && !d.opening

/-- PRESENCE_OPEN (13 R326). -/
def execPresenceOpen (site : SiteId) (s : State) : Host.Outcome State Fault Refusal :=
  .next (if !(s.sites[site]).present then s
    else (s.setSite site fun x => { x with present := false, module := 0, closedSince := none, openSince := some s.cue }).opened site 1)

/-- CLAMP_OPEN (13 R326): a RELEASED site stays as it is. -/
def execClampOpen (site : SiteId) (s : State) : Host.Outcome State Fault Refusal :=
  .next (if !(s.sites[site]).clamp then s
    else (s.setSite site fun x => { x with clamp := false, closedSince := none }).opened site 2)

/-- PRESENCE_CLAMP_CLOSED: EMPTY to SEATED after 2^22 cycles (13 R326). -/
def execPresenceClampClosed (site : SiteId) (s : State) : Host.Outcome State Fault Refusal :=
  .next (if (s.sites[site]).state = .empty ∧ !s.awaits site .seated ∧ (s.sites[site]).closedSince.any fun c => decide (c + 2 ^ 22 ≤ s.cue) then
      s.judge site .seated 0
    else s)

/-- PRESENCE_OPEN_FOR_2_22_CYCLES: LOST or FAULTED to EMPTY (13 R326). -/
def execPresenceOpenFor222Cycles (site : SiteId) (s : State) : Host.Outcome State Fault Refusal :=
  .next (if ((s.sites[site]).state = .lost ∨ (s.sites[site]).state = .faulted) ∧ !s.awaits site .empty ∧
        (s.sites[site]).openSince.any fun c => decide (c + 2 ^ 22 ≤ s.cue) then
      s.judge site .empty 0
    else s)

/-! ### Power-up, self-test (13 R326, 15 R367, R368) -/

/-- Whether a site stands in a phase, no decision about it pending. -/
def State.inPhase (s : State) (n : SiteId) (x : SiteState) : Bool := (s.sites[n]).state == x && s.decided n == x

/-- The time limit of a phase, and the LASTCAUSE past it (13 R326). -/
def phaseLimit : SiteState → Option (Nat × BitVec 8)
  | .powering => some (2 ^ 26, 5)
  | .testing => some (2 ^ 34, 13)
  | .training => some (2 ^ 30, 13)
  | _ => none

/-- POWER_GOOD: POWERING to TESTING within the limit, the power stage closed (13 R322, R326). -/
def execPowerGood (site : SiteId) (s : State) : Host.Outcome State Fault Refusal :=
  .next (if s.inPhase site .powering && (s.sites[site]).stage && decide (s.cue < (s.sites[site]).phaseSince + 2 ^ 26) then s.judge site .testing 0 else s)

/-- PHASE_TIME_LIMIT: a phase past its limit (13 R326). -/
def execPhaseTimeLimit (site : SiteId) (s : State) : Host.Outcome State Fault Refusal :=
  .next (match phaseLimit (s.sites[site]).state with
    | some p => if s.inPhase site (s.sites[site]).state && decide ((s.sites[site]).phaseSince + p.1 ≤ s.cue) then
        s.judge site .faulted p.2 else s
    | none => s)

/-- The input current above which a stage trips, in tenths of an ampere (13 R322). -/
def tripLevel (n : SiteId) : Nat := if n.val < 8 then 750 else if n.val < 16 then 90 else 100

/-- The regions of a module whose power stage is open: no rail is live (13 R323). -/
def Site.railsOff (x : Site) : Site :=
  if x.stage then x else { x with regions := x.regions.map fun r => { r with rail := false, islands := r.islands.map Island.off } }

/-- A stage that has tripped: its output is isolated until CMD RESET; its disconnect opens at a deck cue at the latest (13 R322). -/
def Site.trip (x : Site) (at_ : Nat) : Site := { x with tripped := true, openAt := some ((x.openAt.map (min at_)).getD at_), overSince := none }

/-- POWER_STAGE_TRIP: the stage trips, or its converter reports an output fault: the site goes to FAULTED with LASTCAUSE 6, the input disconnect opens
within 40,000 cycles, freely (log 5), and the rails are discharged (13 R322, R323, R326). -/
def execPowerStageTrip (site : SiteId) (s : State) : Host.Outcome State Fault Refusal :=
  .next (
    let x := s.sites[site]
    if !x.stage then s
    else if x.openAt.any fun c => decide (c ≤ s.cue) then s.setSite site fun x => x.dark.railsOff
    else if x.tripped then s
    else
      let t := { s with free := s.free + 1 }.setSite site fun x => x.trip (s.cue + Config.freeNat s.free % 40001)
      if x.state.powered then t.lose site .faulted 6 s.cue s.cue else t)

/-- FATAL_MODULE_ERROR: from ADMITTED, ACTIVE or DRAINING to FAULTED with LASTCAUSE 12 (13 R326). -/
def execFatalModuleError (site : SiteId) (s : State) : Host.Outcome State Fault Refusal :=
  .next (if (s.sites[site]).state.up then s.lose site .faulted 12 s.cue s.cue else s)

/-- Whether a unit code retires a tile, or makes the module fail (15 R367). -/
def tileUnit (u : BitVec 8) : Bool := (decide (1 ≤ u.toNat) && decide (u.toNat ≤ 7)) || (decide (0x10 ≤ u.toNat) && decide (u.toNat ≤ 0x12))
def moduleUnit (u : BitVec 8) : Bool := [8, 9, 0x0a, 0x0b, 0x0c, 0x13, 0x16, 0x17, 0x18].contains u.toNat

/-- The byte of a row with one more tile retired (12 R305, 15 R367). -/
def retireTile (b : Byte) (pcol : Nat) : Byte :=
  if b.toNat % 32 = 0x1f then BitVec.ofNat 8 (b.toNat / 32 * 32 + pcol) else if b.toNat % 32 = pcol then b else b ||| 0x80

/-- The defect map that a run of self-test writes for a region (15 R367). -/
def mapOf (es : List TestEntry) (q : Fin 4) : Vector Byte 16 :=
  es.foldl (fun m e =>
    if e.q ≠ q then m
    else if tileUnit e.unit then m.set e.prow (retireTile m[e.prow] e.pcol)
    else if e.unit.toNat = 0x14 then m.set e.prow (m[e.prow] ||| 0x80)
    else m) (Vector.replicate 16 0x1f)

/-- Units that belong to no tile and to no row of tiles: gate buffer, HBM, mailbox SRAM, link, translation, HBM stack, leaf controller (11 R299, 15
R367). -/
def placeless (u : BitVec 8) : Bool := [8, 9, 0x0a, 0x0b, 0x0c, 0x16, 0x17].contains u.toNat

/-- The entry of a failing unit in the report (15 R368). A region whose rail failed has no logical rows (12 R306), a module without tiles has none,
nor has a unit that belongs to no tile (log 66). -/
def entryWords (site : SiteId) (es : List TestEntry) (e : TestEntry) : List W64 :=
  let m := mapOf es e.q
  let b := m[e.prow].toNat
  let dead := !isCompute site || placeless e.unit || es.any fun x => x.q == e.q && x.unit.toNat == 0x15
  let out := dead || decide (128 ≤ b) || b % 32 == e.pcol.val || e.pcol.val == 16 && b % 32 == 0x1f
  let lrow := if out then 0x1f else (workingRows m).idxOf e.prow.val
  let lcol := if out then 0x1f else if e.pcol.val < b % 32 then e.pcol.val else e.pcol.val - 1
  [BitVec.ofNat 64 (site.val * 2 ^ 59 + e.q.val * 2 ^ 57 + e.prow.val * 2 ^ 53 + lrow * 2 ^ 48 + lcol * 2 ^ 43 + e.pcol.val * 2 ^ 38 +
    e.unit.toNat * 2 ^ 24 + e.error.toNat * 2 ^ 16 + e.detail.toNat), e.addr]

/-- Whether a run fails the module: a unit that does, or more than 255 failures (15 R367, R368). -/
def testFails (o : TestOutcome) : Bool := (o.entries.any fun e => moduleUnit e.unit) || decide (255 < o.entries.length)

/-- Whether an entry is of the regulator of an island of a region: 2p the west half of physical row p, 2p + 1 the east half (12 R317, 15 R367). -/
def ofIsland (e : TestEntry) (q : Fin 4) (i : Nat) : Bool :=
  e.q == q && e.unit.toNat == 0x14 && i == 2 * e.prow.val + if e.pcol.val < 8 then 0 else 1

/-- A region after self-test: the map in its record, its rail, its regulators; where the module passes, the live copy of the map and its grade (12
R305, R306; 15 R367). -/
def Region.tested (r : Region) (es : List TestEntry) (q : Fin 4) (pass : Bool) : Region :=
  let r := { r with
    record := mapOf es q
    rail := !(es.any fun e => e.q == q && e.unit.toNat == 0x15)
    islands := r.islands.mapIdx fun i (x : Island) => if es.any fun e => ofIsland e q i then { x.off with failed := true } else x }
  if !pass then { r with islands := if r.rail then r.islands else r.islands.map Island.off }
  else { r with
    defects := r.record
    mapped := r.record
    grade := { r with defects := r.record }.gradeOf
    islands := if r.rail then r.islands else r.islands.map Island.off }

/-- Entries of the weight stores of a module: where they begin and how far they reach. -/
def weightSpan (n : SiteId) : Nat × Nat := (n.val * 4 * 16 * 17 * Config.weightBytes, 4 * 16 * 17 * Config.weightBytes)

/-- The weight stores of a module read zero again (10 R265). -/
def State.clearWeights (s : State) (n : SiteId) : State :=
  let w := weightSpan n
  { s with
    weights := memClear s.weights w.1 w.2
    weightBad := s.weightBad.filter fun a => decide (a < w.1) || decide (w.1 + w.2 ≤ a) }

/-- SELF_TEST: the report and the record's defect maps are written; the leaf controller reads the map when the module passes (12 R305); TRAINING, or FAULTED with LASTCAUSE 7, 8 or 14 (13 R326; 15 R367, R368). -/
def execSelfTest (site : SiteId) (o : TestOutcome) (s : State) : Host.Outcome State Fault Refusal :=
  .next (if !s.inPhase site .testing then s
    else
      let es := if isCompute site then o.entries else o.entries.filter fun e => moduleUnit e.unit
      let pass := !testFails o && o.recordOk && o.firmwareOk
      let result : Nat := if testFails o then 2 else if es.isEmpty then 0 else 1
      let s := (s.setSite site fun x => { x with
        regions := if isCompute site then x.regions.mapFinIdx fun i r h => r.tested es ⟨i, h⟩ pass else x.regions
        leaf := if o.firmwareOk then Config.leafDigest s.fw.flash else x.leaf }).clearWeights site
      let s := if isCompute site then s.keepCard site else s
      let grade (q : Fin 4) : Nat := let r := (s.sites[site]).regions[q]; { r with defects := r.record }.gradeOf
      let gr := if isCompute site then (List.finRange 4).foldl (fun a q => a + grade q * 2 ^ (20 + 5 * q.val)) 0 else 0
      let kept := es.take 255
      let words := [BitVec.ofNat 64 (result * 2 ^ 56 + kept.length * 2 ^ 48 + gr), BitVec.ofNat 64 s.cue] ++
        (kept.map (entryWords site es)).flatten
      let s := s.setSite site fun x => { x with report := words }
      if testFails o then s.judge site .faulted 7
      else if !o.recordOk then s.judge site .faulted 8
      else if !o.firmwareOk then s.judge site .faulted 14
      else s.judge site .training 0)

/-! ### Admission (13 R328, R337; 14 R359) -/

/-- Ports of a site that can train: toward a module that is up or training (13 R328). -/
def State.trainable (s : State) (n : SiteId) (p : Fin 8) : Bool :=
  (linkPeer ⟨n, p⟩).any fun y => (s.sites[y.site]).state.up || decide ((s.sites[y.site]).state = .training)

/-- Links trained: both ends serve (13 R328). -/
def State.trainLinks (s : State) (n : SiteId) (ps : List (Fin 8)) : State :=
  ps.foldl (fun s p => match linkPeer ⟨n, p⟩ with
    | some y =>
      let s := s.setSite n fun x => { x with links := (x.links ++ [p]).eraseDups }
      let s := s.setSite y.site fun x => { x with links := (x.links ++ [y.port]).eraseDups }
      { s with linksOut := s.linksOut.filter fun l => l != ⟨n, p⟩ && l != y }
    | none => s) s

/-- The window of a site cleared: zero, fresh, not poisoned (10 R267, 13 R328, R332). -/
def State.clearWindow (s : State) (n : SiteId) : State :=
  let a := n.val * Config.siteWindow
  let inWin (x : Nat) : Bool := decide (a ≤ x) && decide (x < a + Config.siteWindow)
  { s with
    mem := memClear s.mem a Config.siteWindow
    memOrd := s.memOrd.filter fun p => !inWin p.1
    written := s.written.filter fun b => !inWin (64 * b)
    poison := s.poison.filter fun b => !inWin (64 * b) }

/-- The memory sites that hold the state area (14 R353, R359): two bytes of the Deck record's payload (log 9). -/
def Firmware.areaSites (f : Firmware) : List SiteId :=
  ((f.record 1).elim [] fun r => (r.payload.drop 5).take 2).filterMap fun b => memorySites.find? fun m => m.val == b.toNat

/-- The copies of the state area: written with every change while the service module is there, and in full when a site of the area comes back; a copy goes
with its site's memory (14 R359; log 53). -/
def State.keepArea (s : State) : State :=
  { s with area := if s.serviceUp then s.fw.areaSites.filter fun n => (s.sites[n]).state.up else s.area.filter fun n => (s.sites[n]).state.up }

/-- A service module in TRAINING loads the mailbox words from the mirror, and queue state from a copy of the state area on a site that serves; without
one every queue starts disabled (13 R337, 14 R359). -/
def State.loadService (s : State) : State :=
  let area := s.area.any fun n => (s.sites[n]).state.serving
  let s := { s with mbox := if s.mirrorHolder.isSome then s.mirror else [], hdm := [] }
  if area then s
  else { s with queues := Vector.replicate 64 Queue.reset, launches := [], ops := s.ops.filter fun o => decide (o.kind = .launch) &&
    s.companies.any fun c => c.info.op == o.id }

/-- The permits of a site's command link restored, as at each link training (14 R355). -/
def Site.repermit (x : Site) : Site :=
  { x with permits := Vector.replicate 2 16, permitSince := Vector.replicate 2 none, waitingMsgs := Vector.replicate 2 0 }

/-- The service module, back on its command links, acts on every message that waited for it and returns the permits (14 R355, log 26). -/
def State.takeWaiting (s : State) : State :=
  { s with sites := s.sites.map fun x => { x with
    permits := x.permits.set 1 16
    permitSince := x.permitSince.set 1 none
    waitingMsgs := x.waitingMsgs.set 1 0 } }

/-- Step 1 of admission: the links train, the command link with them, all of them when it is the service module's (13 R328, 14 R355). -/
def State.linkTraining (s : State) (n : SiteId) (ps : List (Fin 8)) : State :=
  let s := (s.trainLinks n ps).setSite n fun x => { x.repermit with trained := true }
  (if n = siteS then { s with sites := s.sites.map Site.repermit } else s).rootless n

/-- Counters of a module that take part in trim: those of regions with a live rail (12 R313). -/
def State.trimmed (s : State) (n : SiteId) : List (SiteId × Fin 4) := (countersOf n).filter fun c => !isCompute n || s.railLive n c.2

/-- Whether step 2 of admission is done: two exchanges in a row found zero in every counter, or the deck has no root (12 R315, 13 R328). -/
def State.trimDone (s : State) (n : SiteId) : Bool :=
  (s.trimmed n).all fun c => match s.parentOf c.1 c.2 with
    | some _ => decide (2 ≤ ((s.sites[n]).regions[c.2]).zeros)
    | none => s.rootSite.isNone

/-- Whether step 2 has failed: eight exchanges without two zeros in a row, or no path to the root (12 R315, R316). -/
def State.trimFailed (s : State) (n : SiteId) : Bool :=
  (s.trimmed n).any fun c => match s.parentOf c.1 c.2 with
    | some _ => let r := (s.sites[n]).regions[c.2]; decide (8 ≤ r.loads) && decide (r.zeros < 2)
    | none => s.rootSite.isSome && !(s.linksOf n).any fun l => (linkPeer l).any fun y => decide ((s.sites[y.site]).state = .training)

/-- Step 5 of admission on one link: the exchange that measures its OFS, once the counters are trimmed (13 R328, 12 R311). -/
def State.measureLink (s : State) (n : SiteId) (p : Fin 8) (t1 t2 t4 : W64) : State :=
  match s.parentAt n (.link ⟨n, p⟩) with
  | none => s
  | some y =>
    if s.inPhase n .training && (s.sites[n]).trained && s.trimDone n && s.linkUp ⟨n, p⟩ &&
        ofsFits (s.counter n (if isCompute n then linkRegion p else 0)) (s.counter y.1 y.2) t1 t2 t4 then
      s.setSite n fun x => { x with linkOfs := x.linkOfs.set p (some (BitVec.ofInt 8 (trimD t1 t2 t4))) }
    else s

/-- Whether step 5 is done: the OFS of every trained link is measured (13 R328). -/
def State.linksMeasured (s : State) (n : SiteId) : Bool := (s.linksOf n).all fun l => ((s.sites[n]).linkOfs[l.port]).isSome

/-- ADMISSION, done once as the links have trained and again as the trim and the measurements have come to an end: links train, counters are loaded
and trimmed by exchanges; then the map is read, the window cleared, the OFS of every trained link measured, and the keeper decides ADMITTED; or FAULTED
with LASTCAUSE 9 or 10 (13 R326, R328). -/
def execAdmission (site : SiteId) (o : TrainOutcome) (s : State) : Host.Outcome State Fault Refusal :=
  .next (if !s.inPhase site .training then s
    else if (s.sites[site]).trained then
      if s.trimFailed site then s.judge site .faulted 10
      else if !(s.trimDone site && s.linksMeasured site) then s
      else
        let s := (s.clearWindow site).clearWeights site
        let s := s.setSite site fun x => { x with regions := x.regions.map fun r => { r with mapped := r.defects, grade := r.gradeOf } }
        (if site = siteS then s.loadService else s).judge site .admitted 0
    else match o with
      | .noLink => s.judge site .faulted 9
      | .noTrim => s
      | .trained ps =>
        let ps := ps.filter (s.trainable site)
        if ps.isEmpty && site ≠ siteS && (List.finRange 8).any (s.trainable site) then s.judge site .faulted 9
        else s.linkTraining site ps)

/-! ### Keep-alive (13 R327) -/

/-- KEEP_ALIVE_SEND: at each multiple of 4,096 of its counter a module sends; it is received in the same cycle (log 21). -/
def execKeepAliveSend (site : SiteId) (s : State) : Host.Outcome State Fault Refusal :=
  .next (if (s.sites[site]).state.powered && !(s.sites[site]).mute then s.setSite site fun x => { x with keepAlive := s.cue } else s)

/-- A module found silent now: LOST with LASTCAUSE 3, the loss cue 4,096 after its last keep-alive; the keeper decides within 8,192 cycles,
freely (13 R327, R329; log 5). -/
def State.silent (s : State) (n : SiteId) : State :=
  { s with free := s.free + 1 }.lose n .lost 3 ((s.sites[n]).keepAlive + 4096) (s.cue + Config.freeNat s.free % 8193)

/-- KEEP_ALIVE_SILENCE: 256,000 cycles without one (13 R327). -/
def execKeepAliveSilence (site : SiteId) (s : State) : Host.Outcome State Fault Refusal :=
  .next (if (s.sites[site]).state.powered && !s.losing site 3 && decide ((s.sites[site]).keepAlive + 256000 ≤ s.cue) then s.silent site
    else s)

/-! ### Commands (13 R325, R326) -/

/-- A command refused in the site's state (13 R325). -/
def State.cmdRefused (s : State) (n : SiteId) : State := s.setSite n fun x => { x with cmdErr := true }

/-- Whether the loss of a site is decided in this very cycle, on an opening of its presence contacts. -/
def State.openedNow (s : State) (n : SiteId) : Bool :=
  s.decisions.any fun d => d.site == n && d.effect == s.cue + Config.transitionLead && d.opening && d.cause == 1

/-- DRAIN, by command or by button (13 R325, R326). For site S, only with every other site RELEASED or a compute site serving. With a
presence opening decided in the same cycle it is void (13, the cases of its end). -/
def State.drain (s : State) (n : SiteId) : State :=
  let may := n ≠ siteS || ((List.finRange 17).all fun m => m == siteS || decide ((s.sites[m]).state = .released)) ||
    computeSites.any fun m => (s.sites[m]).state.serving
  if s.openedNow n then s
  else if (s.sites[n]).state.serving && may then s.judge n .draining 0 else s.cmdRefused n

/-- CMD_POWER, judged by the site's state, as every command (13 R325, R326). On a module whose type does not match it is void: the site is FAULTED
before, and leaves that state by RESET alone (log 89). -/
def execCmdPower (site : SiteId) (s : State) : Host.Outcome State Fault Refusal :=
  .next (if !s.serviceUp then s
    else if (s.sites[site]).state = .seated then (if s.awaits site .faulted then s else s.judge site .powering 0)
    else s.cmdRefused site)

/-- CMD_DRAIN (13 R326). -/
def execCmdDrain (site : SiteId) (s : State) : Host.Outcome State Fault Refusal := .next (if s.serviceUp then s.drain site else s)

/-- CMD_UNDRAIN: ACTIVE if in use, else ADMITTED (13 R326). -/
def execCmdUndrain (site : SiteId) (s : State) : Host.Outcome State Fault Refusal :=
  .next (if !s.serviceUp then s
    else if (s.sites[site]).state = .draining then s.judge site (if s.inUse site then .active else .admitted) 0
    else s.cmdRefused site)

/-- CMD_RESET: with presence and clamp closed (13 R326); the output of a stage that tripped is isolated no more (R322). -/
def execCmdReset (site : SiteId) (s : State) : Host.Outcome State Fault Refusal :=
  .next (if !s.serviceUp then s
    else if (s.sites[site]).state.unplugged ∧ (s.sites[site]).present ∧ (s.sites[site]).clamp then
      (s.setSite site fun x => { x with tripped := false }).judge site .powering 0
    else s.cmdRefused site)

/-- SITE_REQUEST_BUTTON acts exactly as CMD DRAIN (13 R325). -/
def execSiteRequestButton (site : SiteId) (s : State) : Host.Outcome State Fault Refusal := .next (s.drain site)

/-- FRESHRD_CLEAR (13 R332). -/
def execFreshrdClear (site : SiteId) (s : State) : Host.Outcome State Fault Refusal :=
  .next (if s.serviceUp then s.setSite site fun x => { x with freshRd := false } else s)

/-! ### Loss effects (13 R330, 11 R297) -/

/-- A tile lost (11 R297). -/
def Tile.lose (t : Tile) : Tile := { t with lost := true, st := t.st.abandoned, img := t.img.abandoned }

/-- The writes of a company that a lost module held: how many sealed, how many open; and the company without them (13 R330). -/
def Company.dropGate (c : Company) (n : SiteId) : (Nat × Nat) × Company :=
  let mine (w : GWrite) : Bool := w.site == n
  ((((c.gateSealed.map (·.writes)).flatten.filter mine).length, (c.gateOpen.filter mine).length),
    { c with
      gateOpen := c.gateOpen.filter fun w => !mine w
      gateSealed := c.gateSealed.map fun i => { i with writes := i.writes.filter fun w => !mine w } })

/-- The record of writes lost with a module (11 R301): KIND 7, CODE SITE_LOST (log 19). -/
def lostWrites (co : Nat) (n : SiteId) (k : Nat × Nat) (l : Nat) : FaultRec :=
  faultRec 7 cSITE co ⟨n, 0, 0, 0, 0⟩ 0 (BitVec.ofNat 64 (min (2 ^ 32 - 1) k.1 * 2 ^ 32 + min (2 ^ 32 - 1) k.2)) 0 l

/-- The rejoin requests for gangs of a company on a lost site end with SITE_LOST (13 R334, 14 R351). -/
def State.cancelRejoins (s : State) (n : SiteId) (c : Company) : State :=
  (c.gangs.filter fun g => g.site == n).foldl (fun (s : State) g =>
    (s.rejoinsOf c.info (some g.idx)).foldl (fun (s : State) o => s.opDone o.id (statusWord cSITE)) s) s

/-- Whether a gang of a company placed again on a site waits for its first bundle: the gang is on the site (13 R330, R334). -/
def State.replacedOn (s : State) (n : SiteId) (c : Company) : Bool :=
  s.ops.any fun o => match o.kind with
    | .rejoin w g x => x != .waiting && c.info.queue == o.queue && c.info.cmb == w && c.gangs.any fun x => x.idx == g && x.site == n
    | _ => false

/-- Whether a company loses a site: it uses it, or a gang placed again there waits (13 R330). -/
def State.losesSite (s : State) (n : SiteId) (c : Company) : Bool := c.uses n || s.replacedOn n c

/-- The effects on one company (13 R330, R331): its gangs on the site detached, their writes lost; a company without a gang left ends. SITE_LOST becomes
pending with e8 (State.tell). -/
def State.siteLostFor (s : State) (n : SiteId) (c0 : Company) : State :=
  let loses := s.losesSite n c0
  let s := s.cancelRejoins n c0
  if !loses then s
  else
    let (k, c) := c0.dropGate n
    let gone := (c.gangs.filter fun g => g.site == n).map (·.idx)
    let c := { c with
      gangs := c.gangs.map fun g => if g.site = n then { g with detached := true } else g
      leaves := (c.leaves ++ gone.filter fun g => c.ring.contains g).eraseDups
      rounds := c.rounds.map fun r => r.without gone
      imgRounds := c.imgRounds.map fun r => r.without gone }
    let s := ((s.setCo c).rewant.mapTiles c.num fun t => if t.site = n then t.lose else t).closeRounds c.num
    if c.gangs.all Gang.detached then s.endCause c.num cSITE 0 0 0 none
    else if k = (0, 0) then s
    else
      let at_ := ((c.gangs.find? fun g => !g.detached).map (·.site)).getD siteS
      s.postRec at_ (lostWrites c.num n k (((s.sites[n]).lossCue).getD s.cue))

/-- The links of a site leave service (13 R330, R333). -/
def State.untrain (s : State) (n : SiteId) : State :=
  (s.sites[n]).links.foldl (fun s p => match linkPeer ⟨n, p⟩ with
    | some y => s.setSite y.site fun x => { x with links := x.links.filter fun z => z != y.port }
    | none => s) (s.setSite n fun x => { x with links := [] })

/-! ### Transitions take effect (13 R326, R327) -/

/-- Whether the table of R326 has a transition. -/
def transits (a b : SiteState) : Bool :=
  match a, b with
  | .empty, .seated | .seated, .faulted | .seated, .empty | .seated, .powering | .powering, .testing | .powering, .faulted
  | .testing, .training | .testing, .faulted | .training, .admitted | .training, .faulted | .admitted, .active | .active, .admitted
  | .admitted, .draining | .active, .draining | .draining, .active | .draining, .admitted | .draining, .released
  | .admitted, .faulted | .active, .faulted | .draining, .faulted
  | .released, .empty | .released, .powering | .lost, .powering | .faulted, .powering | .lost, .empty | .faulted, .empty => true
  | x, .lost => x.powered
  | _, _ => false

/-- A region of a module that is powered: rail live, islands off, counters of errors zero, its cue counter at zero until it is loaded (12 R312,
log 65). -/
def Region.powered (r : Region) (cue : Nat) : Region :=
  { r with
    offset := -(cue : Int)
    heldTo := 0
    trimFrom := none
    loads := 0
    zeros := 0
    rail := true
    counts := Vector.replicate 4 0
    islands := Vector.replicate 32 Island.reset }

/-- A site enters a state (13 R326, R328, R333; 11 R302; 15 R363). An opening sensed before power keeps its loss cue. An output that a trip isolates
stays open; a disconnect that an earlier trip opens has opened by then (R322; log 92). -/
def Site.enter (x : Site) (to_ : SiteState) (cause : BitVec 8) (cue : Nat) : Site :=
  let y := { x with state := to_, phaseSince := cue }
  match to_ with
  | .empty => { y.dark with typ := 0, lossCue := none }
  | .seated => { y with typ := x.module }
  | .powering => { y with
      typ := x.module
      stage := !x.tripped
      openAt := none
      overSince := none
      trained := false
      linkOfs := Vector.replicate 8 none
      lossCue := if x.present && x.clamp then none else some cue
      keepAlive := cue
      mute := false
      permits := Vector.replicate 2 16
      permitSince := Vector.replicate 2 none
      waitingMsgs := Vector.replicate 2 0
      modCounts := Vector.replicate 4 0
      regions := x.regions.map fun r => r.powered cue
      pwr := 0
      tmax := 0
      hotNext := none
      warmNext := none
      coolSince := none
      tripSince := none }
  | .admitted =>
    if x.state = .training then { y with
      epoch := x.epoch + 1
      regions := x.regions.map fun r => { r with trimGen := 0 } }
    else y
  | .released => y.dark.railsOff
  | .lost => { y.railsOff with lastCause := cause }
  | .faulted => { y.railsOff with lastCause := cause }
  | _ => y

/-- The boundary of a rejoin is chosen again once site S is back (13 R338); its gang keeps its tiles. -/
def PendOp.rechosen (o : PendOp) : PendOp := match o.kind with
  | .rejoin w g (.starts _) => { o with kind := .rejoin w g .placed }
  | _ => o

/-- What was decided of a site before it was RELEASED, LOST or FAULTED is judged anew as it is powered again: a loss is past, an opening loses it where
its contacts still stand open (13 R326). -/
def State.renewed (s : State) (n : SiteId) (old : SiteState) : State :=
  if !old.unplugged then s
  else { s with decisions := (s.decisions.filter fun d => !(d.site == n && d.isLoss && !d.opening)).map fun d =>
    if d.site == n && d.isLoss then { d with to_ := .empty } else d }

/-- A decision takes effect; one the state no longer admits is void (13 R326, R327, R338). A service module that loses its power starts from its
mask ROM when it has it again: an update that was being written leads to recovery (14 R354, R358). -/
def State.transit (s : State) (d0 : Decision) : State :=
  let old := (s.sites[d0.site]).state
  let d := d0.resolve s.sites[d0.site]
  if !transits old d.to_ then s
  else
    let t := s.setSite d.site fun x => x.enter d.to_ d.cause s.cue
    match d.to_ with
    | .lost | .faulted =>
      let t := if d.site = siteS && (old.up || d.to_ == .lost || !(t.sites[siteS]).stage) then t.serviceOff else t
      if old.up then
        let t := (t.companies.foldl (fun t c => t.siteLostFor d.site c) t).untrain d.site
        if d.site = siteS then { t with mbox := [], ops := t.ops.map PendOp.rechosen } else t
      else t.untrain d.site
    | .released => (if d.site = siteS then t.serviceOff else t).untrain d.site
    | .powering =>
      let t := { t with stitchesOut := t.stitchesOut.filter fun x => x.1 != d.site }.renewed d.site old
      if d.site = siteS ∧ t.fw.mode = .off then t.bootService else t
    | .testing => t.setSite d.site Site.testIslands
    | _ => t

/-- A module of the right kind for its site (13 R325, R326). -/
def typeFits (n : SiteId) (t : BitVec 4) : Bool := t.toNat == (if n.val < 8 then 1 else if n.val < 16 then 2 else 3)

/-- What the keeper decides at once about a site that has come to SEATED: a module of the wrong type, or power with AUTO (13 R326). -/
def State.afterSeated (s : State) (n : SiteId) : State :=
  let x := s.sites[n]
  if x.state = .seated ∧ !s.awaits n .faulted ∧ !s.awaits n .powering then
    if !typeFits n x.typ then s.judge n .faulted 4 else if x.auto then s.judge n .powering 0 else s
  else s

/-- The mirror of the mailbox words moves to the lowest compute site that serves (13 R337). -/
def State.holdMirror (s : State) : State :=
  let h := computeSites.find? fun n => (s.sites[n]).state.serving
  if h = s.mirrorHolder then s
  else { s with mirrorHolder := h, mirror := match h with
    | none => []
    | some _ => if s.serviceUp then s.mbox else s.mirror }

/-! ### Rejoin (13 R334) -/

/-- Whether the regions that a gang's rectangle touches still meet its grade (12 R308). -/
def State.gradesMeet (s : State) (g : Gang) : Bool :=
  (List.finRange 4).all fun q =>
    !((List.range g.bin.rows).any fun r => (List.range g.bin.cols).any fun c => gridRegion (g.row0 + r) (g.col0 + c) == q) ||
      decide (g.bin.grade ≤ ((s.sites[g.site]).regions[q]).grade)

/-- The instruction memory of a detached gang's tiles is loaded (13 R334, 09 R255). The Bool says whether it could be. -/
def State.loadGang (s : State) (c : Company) (g : Nat) : State × Bool :=
  let ts := (s.tilesOf c.num).filter fun t => decide (t.key.gang = g)
  let w := s.rewriteAll c (ts.map fun t => { t with lost := false, st := TState.launch [] })
  if w.2 then (w.1.mapTiles c.num fun t => if t.key.gang = g then { t with lost := true } else t, true) else w

/-- Whether the places of a gang's tiles are free of every other company: no tile stands there but lost ones that have not been given to their gang
again (13 R334, 09 R254). -/
def State.seatsFree (s : State) (co g : Nat) : Bool :=
  ((s.tilesOf co).filter fun t => decide (t.key.gang = g)).all fun t => s.tiles.all fun u =>
    decide (u.key.co = co) || !u.samePlace t || (u.lost && !(s.coAt u.key.co).any fun c => s.returning c u.key.gang)

/-- Whether the islands of a gang's tiles were woken 65,536 cycles ago (15 R365). -/
def State.gangAwake (s : State) (co g : Nat) : Bool :=
  ((s.tilesOf co).filter fun t => decide (t.key.gang = g)).all fun t =>
    ((((s.sites[t.site]).regions[t.region]).islands[s.islandOf t]).woken).any fun w => decide (w + 65536 ≤ s.cue)

/-- The stage of a rejoin request set. -/
def State.setRejoin (s : State) (id w g : Nat) (x : RejoinStage) : State :=
  { s with ops := s.ops.map fun y => if y.id = id then { y with kind := .rejoin w g x } else y }

/-- A rejoin request looked at (13 R334): a gang whose site serves and whose places are free is given them, and their islands wake; 65,536 cycles on
(15 R365) its images are loaded and it gets its boundary, the first at least 4,096 cycles after that, which takes a free time (log 5). -/
def State.placeRejoin (s : State) (o : PendOp) : State :=
  match o.kind with
  | .rejoin w g stage =>
    match s.companies.find? fun c => c.info.queue == o.queue && c.info.cmb == w && c.fatal.isNone with
    | none => s
    | some c => match c.gangAt g with
      | none => s
      | some x =>
        let st := s.sites[x.site]
        let runs := match c.mode with
          | .running | .held _ => true
          | _ => false
        if !x.detached || !s.serviceUp || !st.state.serving || s.pastLoss x.site || !runs || !s.gradesMeet x then s
        else match stage with
          | .waiting => if s.seatsFree c.num g then (s.setRejoin o.id w g .placed).restIslands else s
          | .starts _ => s
          | .placed =>
            if !s.gangAwake c.num g then s
            else match c.boundaryFrom (c.cue + 4096 + Config.freeNat s.free) with
              | none => s
              | some b =>
                let l := s.loadGang c g
                if !l.2 then l.1 else { l.1.setRejoin o.id w g (.starts b) with free := s.free + 1 }
  | _ => s

/-- Every waiting request looked at; a site with a gang placed is in use (13 R324, R326). -/
def State.placeRejoins (s : State) : State := (s.ops.foldl State.placeRejoin s).reuse

/-- A tile of a rejoined gang at its start (13 R334): the launch-start state with e8 set, boundary B counted as made. -/
def Tile.fresh (t : Tile) (g : Gang) (b : Nat) : Tile :=
  let st := { TState.launch g.bin.data with e := 0x100, marked := some b }
  { t with
    lost := false
    st := st
    img := st.image
    imgTrap := none
    frz := none
    trap := TrapState.launch
    pend := Pending.launch
    status := Vector.replicate 4 SideStatus.launch
    ofs := Vector.replicate 4 0
    ofsDue := stitchSides g t.key
    imgBad := false }

/-- REJOIN_GANG_START: at company cue B + 1 the gang's tiles issue address 0 of segment 0; every request for it completes (13 R334, 14 R351). Past the
loss cue of its site the gang does not start: the request ends with the site's loss. Without site S it waits for another boundary (R338). -/
def execRejoinGangStart (co : Nat) (g : Fin 8) (s : State) : Host.Outcome State Fault Refusal :=
  .next (match s.coAt co with
    | none => s
    | some c => match c.gangAt g with
      | none => s
      | some x =>
        match (s.rejoinsOf c.info (some x.idx)).findSome? fun o => match o.kind with
          | .rejoin _ _ (.starts b) => if c.cue = b + 1 ∧ c.carries s.cue ∧ !s.pastLoss x.site ∧ !s.pastLoss siteS then some b else none
          | _ => none with
        | none => s
        | some b =>
            let asked := s.rejoinsOf c.info (some x.idx)
            let s := s.setCo { c with
              gangs := c.gangs.map fun y => if y.idx = x.idx then { y with detached := false, base := b + 1 } else y }
            let s := s.mapTiles co fun t => if t.key.gang = x.idx then t.fresh x b else t
            let s := (List.range s.circuits.length).foldl (fun s i => match s.circuits[i]? with
              | some k => if k.co = co ∧ (k.a.1.gang = x.idx ∨ k.b.1.gang = x.idx) then
                  (match execCircuitSetup i ((s.chosenRoute i k).getD k.route) s with
                    | .next t => t
                    | _ => s) else s
              | none => s) s
            ((asked.foldl (fun (s : State) o => s.opDone o.id (statusWord 0)) s).startGang co x.idx).rewant.restIslands.reuse)

/-! ### The step of the deck (13 R327) -/

/-- Whether a counter has reached an effect, or belongs to a module that is no longer up. -/
def State.reached (s : State) (e : Nat) (x : SiteId × Fin 4) : Bool := !(s.sites[x.1]).state.up || decide ((e : Int) ≤ s.counter x.1 x.2)

/-- SITE_LOST pending in a tile for a site (11 R296). -/
def Tile.siteLost (t : Tile) (n : SiteId) : Tile :=
  { t with pend := { t.pend with siteLost := true, sites := t.pend.sites ||| (1#16 <<< n.val) } }

/-- The transitions reach the counters that have come to their effect: the copy of the site table there changes, and e8 is set once in every tile
of the region (13 R327); SITE_LOST becomes pending there in the same cycle in the companies that lose the site (R330). -/
def State.tell (s : State) : State :=
  let told := s.changes.flatMap fun c => c.ahead.filter (s.reached c.effect)
  let losing (t : Tile) : List SiteId :=
    if t.lost then [] else
      (s.changes.filter fun c => c.loses.contains t.key.co && c.ahead.contains (t.site, t.region) && s.reached c.effect (t.site, t.region)).map (·.site)
  { s with
    changes := (s.changes.map fun c => { c with ahead := c.ahead.filter fun x => !s.reached c.effect x }).filter fun c => !c.ahead.isEmpty
    tiles := s.tiles.map fun t =>
      let u := (losing t).foldl Tile.siteLost t
      if told.contains (t.site, t.region) then s.flagged 8 u else u }

/-- A decision takes effect; where it changes the site, every counter has still to see it. -/
def State.change (s : State) (d : Decision) : State :=
  let x := s.sites[d.site]
  let t := s.transit d
  let y := (t.sites[d.site]).state
  if y = x.state then t
  else
    let lost := x.state.up && (y == .lost || y == .faulted)
    let loses := if lost then (s.companies.filter (s.losesSite d.site)).map (·.num) else []
    { t with changes := t.changes ++ [⟨d.effect, d.site, x.state, x.epoch, x.typ, x.lastCause, t.countersUp, loses⟩] }

/-- What waited for the stage manager is done as it comes back: posts, messages, fault records, page-fault requests (13 R336; 14 R355, R358). -/
def State.serviceBack (s : State) (was : Bool) : State :=
  if !was && s.serviceUp then (List.finRange 17).foldl State.flushRecs { s.flushPosts.takeWaiting with pfHead := s.pfNext } else s

/-- SITE_TRANSITION_EFFECT: the decisions whose cue has come at the first counter of the deck take effect together: each region sees them, and has its
e8, as its own counter comes to the cue (R327); what the deck does of them as a whole (loss effects, the trim tree, the mirror, what waited for site S, what
follows for the sites: 13 R324, R328 to R337) falls with the first (log 61). -/
def execSiteTransitionEffect (s : State) : Host.Outcome State Fault Refusal :=
  let now := s.decisions.filter fun d => decide (d.effect ≤ s.firstCue)
  if now.isEmpty then .next s.tell
  else
    let t := (now.foldl State.change { s with decisions := s.decisions.filter fun d => decide (s.firstCue < d.effect) }).tell
    let t := (s.retree t.tearFallen).holdMirror.serviceBack s.serviceUp
    let t := (now.map (·.site)).eraseDups.foldl State.afterSeated t
    .next t.keepArea.remap.restIslands.reuse.placeRejoins

end Sys2Proof.Machine
end

