-- ==== Sys2Proof/Machine/Power.lean ====
section
/-! DEFINITION. Islands and rails that fail (12 R317, R318), the bus (13 R321), reef targets and levels, sensors, island voltages (15 R362 to
R366, R370). -/
namespace Sys2Proof.Machine

/-! ### Islands and rails (12 R317, R318) -/

/-- ISLAND_REGULATOR_FAILURE: the island's tiles stop, ISLAND_LOST becomes pending in their gangs, the row is retired in the live map
(12 R317; 11 R296, R297). -/
def execIslandRegulatorFailure (site : SiteId) (q : Fin 4) (i : Fin 32) (s : State) : Host.Outcome State Fault Refusal :=
  .next (if !isCompute site || (((s.sites[site]).regions[q]).islands[i]).failed then s
    else
      let hit (t : Tile) : Bool := t.site == site && t.region == q && s.islandOf t == i
      let gangs := ((s.tiles.filter hit).map fun t => (t.key.co, t.key.gang)).eraseDups
      let tiles := s.tiles.map fun t =>
        if hit t then t.lose
        else if !t.lost && gangs.contains (t.key.co, t.key.gang) then
          { t with pend := { t.pend with
              islandLost := true
              island := if t.pend.islandLost then t.pend.island else BitVec.ofNat 10 (site.val * 128 + q.val * 32 + i.val) } }
        else t
      let p : Fin 16 := ⟨i.val / 2, by omega⟩
      ({ s with tiles := tiles }.setRegion site q fun r => { r with
        defects := r.defects.set p (r.defects[p] ||| 0x80)
        islands := r.islands.set i { r.islands[i].off with failed := true } }).remap)

/-- REGION_RAIL_FAILURE: the region is lost (12 R318; 11 R296, R297). -/
def execRegionRailFailure (site : SiteId) (q : Fin 4) (s : State) : Host.Outcome State Fault Refusal :=
  .next (if !isCompute site || !s.railLive site q then s
    else
      let hit (t : Tile) : Bool := t.site == site && t.region == q
      let gangs := ((s.tiles.filter hit).map fun t => (t.key.co, t.key.gang)).eraseDups
      let tiles := s.tiles.map fun t =>
        if hit t then t.lose
        else if !t.lost && gangs.contains (t.key.co, t.key.gang) then
          { t with pend := { t.pend with
              regionLost := true
              region := if t.pend.regionLost then t.pend.region else BitVec.ofNat 10 (site.val * 128 + q.val * 32) } }
        else t
      let t := ({ s with tiles := tiles }.setRegion site q fun r => { r with
        rail := false
        grade := 0
        islands := r.islands.map Island.off })
      s.retree t.tearFallen)

/-! ### Targets and wanted levels (15 R363, R364) -/

/-- A bound that holds on, by its first cue. -/
def holdSince (b : Bool) (old : Option Nat) (first : Nat) : Option Nat := if b then some (old.getD first) else none

/-- Conditions of R363 of a compute site measured again. -/
def Site.sensed (x : Site) (busOk : Bool) (cue : Nat) : Site :=
  let temps := (x.regions.toList.map fun r => r.islands.toList.map (·.temp.toNat)).flatten
  let hot := decide (3300 < x.pwr.toNat)
  { x with
    tmax := BitVec.ofNat 8 (temps.foldl max 0)
    hotNext := holdSince hot x.hotNext (cue + 2 ^ 16)
    warmNext := holdSince (temps.any fun t => decide (95 ≤ t)) x.warmNext cue
    coolSince := holdSince (decide (x.pwr.toNat < 2800) && (temps.all fun t => decide (t < 85)) && busOk) x.coolSince cue
    tripSince := holdSince (hot && x.target == 3) x.tripSince cue }

/-- Whether the bus is in its range (13 R321). -/
def State.busOk (s : State) : Bool := decide (5000 ≤ s.busCv.toNat) && decide (s.busCv.toNat ≤ 5800)

/-- A compute site measured again. -/
def State.sense (s : State) (n : SiteId) : State := if isCompute n then s.setSite n fun x => x.sensed s.busOk s.cue else s

/-- A target set, REEFMIN at least (15 R363). -/
def State.setTarget (s : State) (n : SiteId) (v : Nat) : State :=
  ((s.setSite n fun x => { x with target := BitVec.ofNat 2 (max x.reefMin.toNat (min 3 v)) }).sense n).rewant

/-- A target one higher. -/
def State.raise (s : State) (n : SiteId) : State := s.setTarget n ((s.sites[n]).target.toNat + 1)

/-- Every compute site's target one higher. -/
def State.raiseAll (s : State) : State := computeSites.foldl State.raise s

/-- REEF_TARGET_RAISE: power above 3.3 kW for 2^16 cycles, or a sensor at 95 °C, and again after each further 2^16; deck power above 32 kW
for 2^16 cycles raises every compute site (15 R363). Both rows of a site raise where both are due. -/
def execReefTargetRaise (site : SiteId) (s : State) : Host.Outcome State Fault Refusal :=
  .next (if !s.serviceUp || !isCompute site then s
    else
      let due (x : Option Nat) : Bool := x.any fun c => decide (c ≤ s.cue)
      let later (x : Option Nat) : Option Nat := if due x then x.map (· + 2 ^ 16) else x
      if s.deckHotSince.any fun c => decide (c + 2 ^ 16 ≤ s.cue) then { s with deckHotSince := none }.raiseAll
      else
        let x := s.sites[site]
        let n := (due x.hotNext).toNat + (due x.warmNext).toNat
        if n = 0 then s
        else (s.setSite site fun x => { x with hotNext := later x.hotNext, warmNext := later x.warmNext }).setTarget site (x.target.toNat + n))

/-- REEF_TARGET_LOWER: quiet for 2^26 cycles (15 R363). -/
def execReefTargetLower (site : SiteId) (s : State) : Host.Outcome State Fault Refusal :=
  .next (if s.serviceUp && isCompute site && (s.sites[site]).coolSince.any fun c => decide (c + 2 ^ 26 ≤ s.cue) then
      (s.setSite site fun x => { x with coolSince := some s.cue }).setTarget site ((s.sites[site]).target.toNat - 1)
    else s)

/-- THERMAL_TRIP: a sensor at 110 °C, or level 3 with power above 3.3 kW for 2^24 cycles: the stage opens, FAULTED with LASTCAUSE 12 (15
R363). -/
def execThermalTrip (site : SiteId) (s : State) : Host.Outcome State Fault Refusal :=
  .next (
    let x := s.sites[site]
    let hot := isCompute site && decide (110 ≤ x.tmax.toNat)
    if x.stage && x.state.powered && (hot || x.tripSince.any fun c => decide (c + 2 ^ 24 ≤ s.cue)) then
      (s.setSite site fun x => x.dark.railsOff).lose site .faulted 12 s.cue s.cue
    else s)

/-- REEFMIN_WRITE: a new lowest target, taken as a target change; memory sites and S hold none (15 R370). -/
def execReefminWrite (site : SiteId) (v : BitVec 2) (s : State) : Host.Outcome State Fault Refusal :=
  .next (if s.serviceUp && isCompute site then
      (s.setSite site fun x => { x with reefMin := v }).setTarget site (s.sites[site]).target.toNat
    else s)

/-! ### The bus (13 R321) -/

/-- BUS_LOW: below 48 V for 4,096 cycles every compute site's target rises (13 R321, 15 R363). -/
def execBusLow (s : State) : Host.Outcome State Fault Refusal :=
  .next (if s.busLowSince.any fun c => decide (c + 4096 ≤ s.cue) then
      (if s.serviceUp then { s with busLowSince := none }.raiseAll else s)
    else s)

/-- BUS_COLLAPSE: below 45 V every power stage opens and the deck stops until a cold start (13 R321). -/
def execBusCollapse (s : State) : Host.Outcome State Fault Refusal :=
  .next (if s.busCv.toNat < 4500 then
      { s with sites := s.sites.map fun x => x.dark.railsOff, stopped := true, agenda := [] }
    else s)

/-! ### Sensors and islands (15 R365, R366) -/

/-- SENSOR_READ: an island's sensor at a multiple of 4,096 deck cycles; of a module without islands the hottest sensor it reports (15 R366). -/
def execSensorRead (site : SiteId) (q : Fin 4) (i : Fin 32) (temp : BitVec 8) (s : State) : Host.Outcome State Fault Refusal :=
  .next (if !(s.cue % 4096 == 0 && (s.sites[site]).state.powered) then s
    else if isCompute site then
      (s.setRegion site q fun r => { r with islands := r.islands.set i { r.islands[i] with temp := temp } }).sense site
    else s.setSite site fun x => { x with tmax := temp })

/-- The level an island is served for (15 R365). -/
def State.islandLevel (s : State) (site : SiteId) (q : Fin 4) (i : Fin 32) : Option (Fin 4) := lowestLevel s.islandsUsed site q i.val

/-- ISLAND_WAKE: an island with a company's tile on it is set to its voltage, 65,536 cycles before images are loaded (15 R365). -/
def execIslandWake (site : SiteId) (q : Fin 4) (i : Fin 32) (s : State) : Host.Outcome State Fault Refusal :=
  .next (
    let x := ((s.sites[site]).regions[q]).islands[i]
    match s.islandLevel site q i with
    | some l => if x.failed || x.woken.isSome || !s.railLive site q then s
      else
        let y := { x with woken := some s.cue }.served true (s.sites[site]).chip q.val i.val (some l)
        s.setRegion site q fun r => { r with islands := r.islands.set i y }
    | none => s)

end Sys2Proof.Machine
end

