-- ==== Sys2Proof/Machine/Queues.lean ====
section
/-! DEFINITION. Queues and packets (14 R341 to R344, R347 to R352): doorbells, commands, the packets but LAUNCH, their completions. -/
namespace Sys2Proof.Machine

/-! ### Address words (14 R343) -/

/-- Fields of an address word. -/
def aperOf (w : W64) : Nat := bits w 63 62
def portOf (w : W64) : Nat := bits w 61 60
def peerOf (w : W64) : Nat := bits w 59 56
def addrOf (w : W64) : Nat := bits w 55 0

/-- Whether an address word that names n bytes is well formed (14 R343). -/
def adrWordOk (w : W64) (n : Nat) : Bool :=
  match aperOf w with
  | 0 => portOf w == 0 && peerOf w == 0 && decide (addrOf w < 2 ^ 48) && populatedRange (addrOf w) n
  | 1 => peerOf w == 0
  | 2 => portOf w == 0 && decide (addrOf w < 2 ^ 48)
  | _ => false

/-- An address word of deck or host memory, aligned (14 R343). -/
def memAddrOk (w : W64) (n align : Nat) : Bool := adrWordOk w n && aperOf w != 2 && addrOf w % align == 0

/-- What a party outside every company reads at an address word; a hole reads zero. An APER that is neither deck nor host, in a QBASE, is read as deck
(DESIGN CHOICE, log 87). -/
def State.wordBytes (s : State) (w : W64) (off n : Nat) : List Byte :=
  if aperOf w = 1 then s.hostBytes (portOf w) (addrOf w + off) n
  else (List.range n).map fun i => let a := addrOf w + off + i; if s.hole a then 0 else memGet s.mem a

/-- A little-endian number of n bytes at an offset from an address word. -/
def State.wordNat (s : State) (w : W64) (off n : Nat) : Nat := leNat (s.wordBytes w off n)

/-- What a read by the service module marks: fresh blocks, as for a walker (13 R332, log 22). -/
def State.wordReadAt (s : State) (w : W64) (off n : Nat) : State := if aperOf w = 0 then s.freshRead none 0xffff (addrOf w + off) n else s

/-- A read from an address word on. -/
def State.wordRead (s : State) (w : W64) (n : Nat) : State := s.wordReadAt w 0 n

/-! ### Packets (14 R343, R344) -/

/-- A packet: eight words. -/
abbrev Packet := Vector W64 8

def pkType (p : Packet) : Nat := bits p[0] 63 56
def pkPri (p : Packet) : Nat := bits p[0] 55 53
def pkDone (p : Packet) : Bool := bit p[0] 52
def pkCmb (p : Packet) : Nat := bits p[0] 43 32
def pkArg (p : Packet) : Nat := bits p[0] 31 0
def pkWord (p : Packet) : Nat := bits p[0] 11 0

/-- The completion word a packet asks for. -/
def pkPost (p : Packet) : Option Nat := if pkDone p then some (pkCmb p) else none

/-- Whether the words of a packet from the k-th on are zero. -/
def zeroFrom (p : Packet) (k : Nat) : Bool := (p.toList.drop k).all (· == 0)

/-- The layout of each type (14 R344, R345, R347 to R351). -/
def bodyOk (p : Packet) : Bool :=
  let a := pkArg p
  match pkType p with
  | 0x00 | 0x08 => a == 0 && zeroFrom p 1
  | 0x01 =>
    pkDone p && bits p[0] 30 27 == 0 && (bit p[0] 31 || bits p[0] 26 16 == 0) && bits p[2] 25 0 == 0 && memAddrOk p[1] (bits p[2] 63 32) 64 &&
      memAddrOk p[3] 32 1 && memAddrOk p[4] 512 1 && (p[6] == 0 || memAddrOk p[6] 16 1) && (p[7] == 0 || memAddrOk p[7] 64 1)
  | 0x02 =>
    let n := bits p[3] 47 0
    a == 0 && bits p[3] 63 48 == 0 && n != 0 && n % 64 == 0 && adrWordOk p[1] n && aperOf p[1] != 2 && adrWordOk p[2] n && zeroFrom p 5 &&
      (if aperOf p[2] = 2 then bits p[4] 62 32 == 0 && (bit p[4] 63 || p[4] == 0) else p[4] == 0) &&
      !(aperOf p[1] == aperOf p[2] && portOf p[1] == portOf p[2] && decide (addrOf p[1] < addrOf p[2] + n) && decide (addrOf p[2] < addrOf p[1] + n))
  | 0x03 =>
    let n := bits p[4] 22 0
    bits p[0] 28 0 == 0 && memAddrOk p[1] 64 64 && bits p[2] 63 20 == 0 && bits p[3] 63 32 % 64 == 0 && bits p[3] 31 22 == 0 &&
      bits p[3] 21 0 % 64 == 0 && bits p[4] 63 23 == 0 && n != 0 && n % 64 == 0 && decide (bits p[3] 21 0 + n ≤ 0x400000) && zeroFrom p 5
  | 0x04 => decide (a < 0x1000) && zeroFrom p 2
  | 0x05 => decide (a < 0x2000) && zeroFrom p 1
  | 0x06 =>
    match bits p[0] 31 30 with
    | 0 => bits p[0] 29 16 == 0 && zeroFrom p 1
    | 1 => bits p[0] 29 0 == 0 && adrWordOk p[1] (bits p[2] 47 0) && bits p[2] 63 48 == 0 && zeroFrom p 3
    | 2 => bits p[0] 29 12 == 0 && zeroFrom p 1
    | _ => false
  | 0x07 => a == 0 && memAddrOk p[1] (64 * (bits p[2] 15 0 + 1)) 64 && bits p[2] 63 16 == 0 && zeroFrom p 3
  | 0x09 => decide (a < 0x10000) && zeroFrom p 1
  | _ => false

/-- Whether a packet is well formed (14 R343). -/
def packetOk (p : Packet) : Bool :=
  bits p[0] 51 44 == 0 && (pkType p == 1 || pkPri p == 0) && (pkDone p || pkCmb p == 0) && bodyOk p

/-! ### Queues (14 R341, R342) -/

/-- PACKET_FORMAT and INDIRECT_DEPTH, codes of R290. -/
def cFORMAT : BitVec 8 := 0x31
def cDEPTH : BitVec 8 := 0x30

/-- A queue changed. -/
def State.onQueue (s : State) (q : Fin 64) (f : Queue → Queue) : State := { s with queues := s.queues.set q (f s.queues[q]) }

/-- A queue stopped with a code (14 R341). -/
def Queue.stop (x : Queue) (code : BitVec 8) : Queue := { x with stopped := true, code := code, packet := none, blocked := none, freed := none }

/-- The open buffers of a queue that still hold packets, and those around them (14 R349). -/
def Queue.live (x : Queue) : List IFrame := x.chain.dropWhile fun f => decide (f.count ≤ f.pos)

/-- The packet in hand issued or dropped: HEAD or the buffer's place goes on (14 R341, R342). -/
def Queue.issued (x : Queue) : Queue :=
  let x := { x with packet := none, blocked := none, freed := none }
  match x.live with
  | [] => { x with head := x.head + 1, chain := [] }
  | f :: r => { x with chain := ({ f with pos := f.pos + 1 } :: r).dropWhile fun f => decide (f.count ≤ f.pos) }

/-- Where the next packet of a queue lies (14 R342, R349). -/
def Queue.next (x : Queue) : W64 × Nat :=
  match x.live with
  | [] => (x.qbase, 64 * (x.head.toNat % 2 ^ x.log2n))
  | f :: _ => (f.addr, 64 * f.pos)

/-- Whether a queue has a packet to read (14 R342). -/
def Queue.ready (x : Queue) : Bool :=
  x.enable && !x.stopped && x.packet.isNone && (x.head != x.tail || !x.live.isEmpty)

/-- Whether the stage manager reads packets and serves the host window, BAR2 and CXL.mem (13 R324, R336; 14 R354, R358). -/
def State.accepts (s : State) : Bool := s.serviceUp && !s.stopped

/-- Whether a doorbell is reached: site S is up, its firmware runs or restarts (13 R324, R336; 14 R358). -/
def State.hostReaches (s : State) : Bool :=
  (s.sites[siteS]).state.up && (s.sites[siteS]).lossCue.isNone && !s.stopped && match s.fw.mode with
    | .running | .restarting _ => true
    | _ => false

/-- DOORBELL: TAIL recorded; a queue overfilled stops with PACKET_FORMAT (14 R341). -/
def execDoorbell (q : Fin 64) (v : BitVec 32) (s : State) : Host.Outcome State Fault Refusal :=
  .next (if !s.hostReaches then s
    else s.onQueue q fun x =>
      let x := { x with tail := v }
      if !x.stopped && decide (2 ^ x.log2n < (v - x.head).toNat) then x.stop cFORMAT else x)

/-- QCMD_RESUME (14 R341). -/
def execQcmdResume (q : Fin 64) (s : State) : Host.Outcome State Fault Refusal :=
  .next (if s.accepts && (s.queues[q]).stopped then s.onQueue q fun x => { x with stopped := false, code := 0 } else s)

/-- QCMD_SKIP (14 R341). -/
def execQcmdSkip (q : Fin 64) (s : State) : Host.Outcome State Fault Refusal :=
  .next (if s.accepts && (s.queues[q]).stopped then s.onQueue q fun x => { x.issued with stopped := false, code := 0 } else s)

/-- QCMD_RESET (14 R341, R352). -/
def execQcmdReset (q : Fin 64) (s : State) : Host.Outcome State Fault Refusal :=
  .next (if !s.accepts then s
    else s.onQueue q fun x =>
      { x with head := x.tail, chain := [], code := 0, stopped := false, packet := none, blocked := none, freed := none })

/-- The packet in hand of a queue, of a type. -/
def State.packetOf (s : State) (q : Fin 64) (t : Nat) : Option Packet :=
  if s.accepts then (s.queues[q]).packet.filter fun p => pkType p == t else none

/-- A packet that completes at issue: issued, its completion word posted (14 R343, R344). -/
def State.complete (s : State) (q : Fin 64) (p : Packet) (code : BitVec 8) : State :=
  let s := s.onQueue q Queue.issued
  match pkPost p with
  | some m => s.mbPost m (statusWord code)
  | none => s

/-- A packet that completes later: issued, its number taken (14 R344). -/
def State.later (s : State) (q : Fin 64) (p : Packet) (k : OpKind) : State :=
  { s.onQueue q Queue.issued with ops := s.ops ++ [⟨s.nextOp, q, k, pkPost p⟩], nextOp := s.nextOp + 1 }

/-- A packet that waits blocks its queue (14 R342). -/
def State.block (s : State) (q : Fin 64) : State :=
  if (s.queues[q]).blocked.isSome then s
  else { s.onQueue q fun x => { x with blocked := some s.nextBlock } with nextBlock := s.nextBlock + 1 }

/-- The step of a packet in hand of a type; nothing without one (log 6). -/
def packet (t : Nat) (q : Fin 64) (f : Packet → State) (s : State) : Host.Outcome State Fault Refusal :=
  .next (match s.packetOf q t with
    | some p => f p
    | none => s)

/-- PACKET_NOP (14 R344). -/
def execPacketNop (q : Fin 64) (s : State) : Host.Outcome State Fault Refusal := packet 0x00 q (fun p => s.complete q p 0) s

/-! ### Packets that wait (14 R342, R344) -/

/-- Whether another queue blocked earlier on the same word with the same type of packet (14 R342). -/
def State.behind (s : State) (q : Fin 64) (p : Packet) : Bool :=
  s.queues.toList.zipIdx.any fun y => y.2 != q.val && match y.1.packet, y.1.blocked with
    | some r, some b => pkType r == pkType p && pkWord r == pkWord p && ((s.queues[q]).blocked.all fun mine => decide (b < mine))
    | _, _ => false

/-- Whether the condition a packet waits for holds (14 R344). -/
def State.free? (s : State) (q : Fin 64) (p : Packet) : Bool :=
  match pkType p with
  | 0x04 => !(s.mb (pkWord p)).full && !s.behind q p
  | 0x05 => (s.mb (pkWord p)).full && !s.behind q p
  | 0x08 => !(s.ops.any fun o => o.queue == q.val)
  | _ => true

/-- A packet whose condition holds issues (14 R344, R339). -/
def State.waitDone (s : State) (q : Fin 64) (p : Packet) : State :=
  let w := pkWord p
  let s := match pkType p with
    | 0x04 => s.mbSet w ⟨p[1], true⟩
    | 0x05 => if bit p[0] 12 then s else s.mbSet w ⟨(s.mb w).v, false⟩
    | _ => s
  s.complete q p 0

/-- A packet issues, or blocks its queue. -/
def State.waits (s : State) (q : Fin 64) (p : Packet) : State := if s.free? q p then s.waitDone q p else s.block q

/-- PUTMB (14 R344). -/
def execPutmb (q : Fin 64) (s : State) : Host.Outcome State Fault Refusal := packet 0x04 q (fun p => s.waits q p) s

/-- WAITMB (14 R344). -/
def execWaitmb (q : Fin 64) (s : State) : Host.Outcome State Fault Refusal := packet 0x05 q (fun p => s.waits q p) s

/-- FENCE (14 R344). -/
def execFence (q : Fin 64) (s : State) : Host.Outcome State Fault Refusal := packet 0x08 q (fun p => s.waits q p) s

/-- PACKET_UNBLOCK: a blocked packet whose condition holds issues (14 R342). -/
def execPacketUnblock (q : Fin 64) (s : State) : Host.Outcome State Fault Refusal :=
  .next (match (s.queues[q]).packet with
    | some p => if s.accepts && (s.queues[q]).blocked.isSome && s.free? q p then s.waitDone q p else s
    | none => s)

/-- The cue from which a blocked packet's condition holds, kept for the bound of R342; noted as the next cycle begins. For the second of two PEEKs that
wait for one word the time runs from when the first has issued (DESIGN CHOICE, log 88). -/
def State.noteFreed (s : State) : State :=
  (List.finRange 64).foldl (fun s q => match (s.queues[q]).packet, (s.queues[q]).blocked with
    | some p, some _ =>
      if s.free? q p then s.onQueue q fun x => { x with freed := x.freed.orElse fun _ => some (s.cue - 1) }
      else if (s.queues[q]).freed.isSome then s.onQueue q fun x => { x with freed := none } else s
    | _, _ => s) s

/-- INDIRECT: its buffer is read in its place (14 R349). -/
def execIndirect (q : Fin 64) (s : State) : Host.Outcome State Fault Refusal :=
  packet 0x07 q (fun p =>
    let x := s.queues[q]
    let n := bits p[2] 15 0 + 1
    let f : IFrame := ⟨p[1], n, 0⟩
    let clash (a b : W64) (m k : Nat) : Bool :=
      aperOf a == aperOf b && portOf a == portOf b && decide (addrOf a < addrOf b + 64 * k) && decide (addrOf b < addrOf a + 64 * m)
    if 4 ≤ x.live.length ∨ clash f.addr x.qbase n (2 ^ x.log2n) ∨ x.live.any fun y => clash f.addr y.addr n y.count then
      s.onQueue q fun x => x.stop cDEPTH
    else
      let around := match x.live with
        | [] => []
        | y :: r => { y with pos := y.pos + 1 } :: r
      (s.complete q p 0).onQueue q fun z => { z with chain := f :: around }) s

/-! ### Copies (14 R347) -/

/-- COPY (14 R347). -/
def execCopy (q : Fin 64) (s : State) : Host.Outcome State Fault Refusal :=
  packet 0x02 q (fun p => s.later q p (.copy p[1] p[2] (bits p[3] 47 0) (if bit p[4] 63 then some (p[4].setWidth 32) else none) [])) s

/-- How many bytes of a copy go through before a hole of its source or destination; the blocks moved before are through. -/
def State.copyGood (s : State) (src dst : W64) (len : Nat) (moved : List Nat) : Nat :=
  let bad (w : W64) (i : Nat) : Bool := aperOf w == 0 && s.hole (addrOf w + i)
  ((List.range len).find? fun i => !moved.contains (i / 64) && (bad src i || bad dst i)).getD len

/-- The blocks of a copy still to be moved. -/
def blocksLeft (len : Nat) (moved : List Nat) : List Nat := (List.range (len / 64)).filter fun b => !moved.contains b

/-- The byte at which a host error ends a copy: of a block still to be moved, freely (14 R347; log 5). -/
def hostErrorAt (left : List Nat) (f : Nat) : Nat := 64 * left.getD (f % left.length) 0 + f / left.length % 64

/-- At most 64 bytes of a copy moved, from `off` on: read now, placed and visible now (14 R347, 10 R269, R279). -/
def State.copyPart (s : State) (src dst : W64) (off n : Nat) : State :=
  let bs := s.wordBytes src off n
  let s := s.wordReadAt src off n
  match aperOf dst with
  | 0 => s.placeWrite .host (cellsAt (addrOf dst + off) bs)
  | 1 => s.hostPut (portOf dst) (cellsAt (addrOf dst + off) bs)
  | _ => s

/-- A block of a copy that its engine moves before the copy's completion; none through a hole. With the last one the copy completes, but for a network
destination, whose peer has to acknowledge it (14 R347, R361). -/
def State.copyBlock (s : State) (id b : Nat) : State :=
  match s.ops.find? fun o => o.id == id with
  | none => s
  | some o => match o.kind with
    | .copy src dst len imm moved =>
      if !s.accepts || decide (len ≤ 64 * b) || moved.contains b || (List.range 64).any fun i =>
          (aperOf src == 0 && s.hole (addrOf src + 64 * b + i)) || (aperOf dst == 0 && s.hole (addrOf dst + 64 * b + i)) then s
      else
        let s := s.copyPart src dst (64 * b) 64
        let s := { s with ops := s.ops.map fun x => if x.id = id then { x with kind := .copy src dst len imm (b :: moved) } else x }
        if aperOf dst ≠ 2 ∧ blocksLeft len (b :: moved) = [] then s.opDone id (statusWord 0) else s
    | _ => s

/-- COPY_COMPLETION: the bytes not moved yet are written and visible; a hole, a host error (freely, log 5) or a network failure gives STATUS 0x20,
the bytes before it stand (14 R347, R361). -/
def execCopyCompletion (id : Nat) (s : State) : Host.Outcome State Fault Refusal :=
  .next (match s.ops.find? fun o => o.id == id with
    | none => s
    | some o => match o.kind with
      | .copy src dst len _ moved =>
        if !s.accepts then s
        else
          let host := aperOf src == 1 || aperOf dst == 1
          let good := s.copyGood src dst len moved
          let left := blocksLeft len moved
          let cut := if host && left != [] && Config.freeBool s.free then min good (hostErrorAt left (Config.freeNat (s.free + 1))) else good
          let s := if host then { s with free := s.free + 2 } else s
          let peer := s.peers[(⟨peerOf dst % 16, Nat.mod_lt _ (by decide)⟩ : Fin 16)]
          let s := ((List.range ((cut + 63) / 64)).filter fun b => !moved.contains b).foldl
            (fun (s : State) b => s.copyPart src dst (64 * b) (min 64 (cut - 64 * b))) s
          s.opDone id (statusWord (if cut < len || (aperOf dst == 2 && !peer.up) then 0x20 else 0))
      | _ => s)

/-- RETRANSMISSION_LIMIT: a network copy unacknowledged after seven retransmissions ends with STATUS 0x20 (14 R361). -/
def execRetransmissionLimit (id : Nat) (s : State) : Host.Outcome State Fault Refusal :=
  .next (match s.ops.find? fun o => o.id == id with
    | some o => match o.kind with
      | .copy _ dst _ _ _ => if aperOf dst = 2 then s.opDone id (statusWord 0x20) else s
      | _ => s
    | none => s)

/-! ### Weight loads (14 R348) -/

/-- WEIGHTLOAD: bound to the next LAUNCH of its queue (14 R348). -/
def execWeightload (q : Fin 64) (s : State) : Host.Outcome State Fault Refusal :=
  packet 0x03 q (fun p =>
    let l : WLoad := ⟨s.nextOp, bits p[0] 31 29, p[1], bits p[2] 19 15, bits p[2] 14 10, bits p[2] 9 5 + 1, bits p[2] 4 0 + 1,
      bits p[3] 63 32, bits p[3] 21 0, bits p[4] 22 0⟩
    (s.later q p .weightload).onQueue q fun x => { x with bound := x.bound ++ [l] }) s

/-- The tile of a load's place (14 R348). -/
def WLoad.tile (l : WLoad) (co i j : Nat) : TileKey := ⟨co, l.gang, l.trow + i, l.tcol + j⟩

/-- One load applied: its bytes in the weight stores, or none when a source byte lies in a hole or the host read fails, freely (14 R348,
log 5). -/
def State.applyLoad (s : State) (co : Nat) (l : WLoad) : State × Bool :=
  let spots := (List.range l.nr).flatMap fun i => (List.range l.nc).map fun j => (i, j)
  let off (x : Nat × Nat) : Nat := (x.1 * l.nc + x.2) * l.stride
  let hole := aperOf l.src == 0 && spots.any fun x => (List.range (l.len / 64)).any fun b => s.hole (addrOf l.src + off x + 64 * b)
  let hostBad := aperOf l.src == 1 && Config.freeBool s.free
  let s := if aperOf l.src = 1 then { s with free := s.free + 1 } else s
  if hole || hostBad then (s, false)
  else (spots.foldl (fun s x => match s.tileAt (l.tile co x.1 x.2) with
    | none => s
    | some t =>
      let base := s.weightBase t
      let s := if aperOf l.src = 0 then s.freshRead none 0xffff (addrOf l.src + off x) l.len else s
      { s with
        weights := memPutAll s.weights (cellsAt (base + l.waddr) (s.wordBytes l.src (off x) l.len))
        weightBad := s.weightBad.filter fun a => a != base }) s, true)

/-- WEIGHTLOAD_APPLY: the next bound load of a placed launch, before its cue base; one that fails ends the launch, never started, with
STATUS 0x20 (14 R348, 10 R265). Host memory is out of reach without site S (13 R336). -/
def execWeightloadApply (co : Nat) (s : State) : Host.Outcome State Fault Refusal :=
  .next (match s.coAt co with
    | none => s
    | some c => match c.mode, c.info.loads with
      | .loading _, l :: rest =>
        if c.fatal.isSome || (aperOf l.src == 1 && !s.serviceUp) then s
        else
          let r := s.applyLoad co l
          let c' := { c with info := { c.info with loads := rest } }
          if r.2 then (r.1.setCo c').opDone l.op (statusWord 0)
          else ((r.1.setCo c').opDone l.op (statusWord 0x20)).freeCompany c' 0x20
      | _, _ => s)

/-! ### Unloading (14 R350) -/

/-- UNLOAD of code (14 R350). -/
def execUnloadCode (q : Fin 64) (s : State) : Host.Outcome State Fault Refusal :=
  packet 0x06 q (fun p => if bits p[0] 31 30 = 0 then s.later q p (.unloadCode (bits p[0] 15 0)) else s) s

/-- UNLOAD of data (14 R350). -/
def execUnloadData (q : Fin 64) (s : State) : Host.Outcome State Fault Refusal :=
  packet 0x06 q (fun p => if bits p[0] 31 30 = 1 then s.later q p .unloadData else s) s

/-- A launch that waits for placement leaves with a code (14 R346, R348, R350). -/
def State.dropLaunch (s : State) (i : LaunchInfo) (code : BitVec 8) : State :=
  let s := { s with launches := s.launches.filter fun x => x.op != i.op }
  (i.loads.foldl (fun s l => s.opDone l.op (statusWord code)) s).opDone i.op (completionWord code 0 0)

/-- UNLOAD of launches: every launch of the queue with that completion word ends with UNLOADED (14 R350, 11 R298). -/
def execUnloadLaunch (q : Fin 64) (s : State) : Host.Outcome State Fault Refusal :=
  packet 0x06 q (fun p =>
    if bits p[0] 31 30 ≠ 2 then s
    else
      let mine (i : LaunchInfo) : Bool := i.queue == q.val && i.cmb == pkWord p
      let s := s.later q p (.unloadLaunch (pkWord p))
      let s := (s.launches.filter mine).foldl (fun s i => s.dropLaunch i cUNLOADED) s
      (s.companies.filter fun c => mine c.info).foldl (fun s c => s.endCause c.num cUNLOADED 0 0 0 none) s) s

/-- Whether what an UNLOAD waits for has come (14 R350). -/
def State.unloaded (s : State) (o : PendOp) : Bool :=
  let infos := (s.launches ++ s.companies.map (·.info)).filter fun i => i.queue == o.queue && decide (i.op < o.id)
  match o.kind with
  | .unloadCode g => !(infos.any fun i => decide (i.gen ≤ g))
  | .unloadData => !(s.ops.any fun x => x.queue == o.queue && decide (x.id < o.id) && match x.kind with
      | .launch | .copy .. => true
      | _ => false)
  | .unloadLaunch w => !(infos.any fun i => i.cmb == w)
  | _ => false

/-- UNLOAD_COMPLETION (14 R350). -/
def execUnloadCompletion (id : Nat) (s : State) : Host.Outcome State Fault Refusal :=
  .next (match s.ops.find? fun o => o.id == id with
    | some o => if s.accepts && s.unloaded o then s.opDone id (statusWord 0) else s
    | none => s)

/-! ### Rejoin requests (14 R351) -/

/-- REJOIN: the request stands until the gang starts; it ends at issue with PACKET_FORMAT when it names no detached gang of a launch of
the queue (14 R351, 13 R334). -/
def execRejoin (q : Fin 64) (s : State) : Host.Outcome State Fault Refusal :=
  packet 0x09 q (fun p =>
    let g := bits p[0] 14 12
    match s.companies.find? fun c => c.info.queue == q.val && c.info.cmb == pkWord p with
    | some c => match c.gangAt g with
      | some x =>
        if bit p[0] 15 || !x.detached then s.complete q p cFORMAT
        else
          let o : PendOp := ⟨s.nextOp, q, .rejoin (pkWord p) g .waiting, pkPost p⟩
          ((s.later q p o.kind).placeRejoin o).reuse
      | none => s.complete q p cFORMAT
    | none => s.complete q p cFORMAT) s

/-- REJOIN_WITHDRAW: a pending request ends with UNLOADED, and with it the use of its site; without one, PACKET_FORMAT (14 R351; 13 R324, R333). -/
def execRejoinWithdraw (q : Fin 64) (s : State) : Host.Outcome State Fault Refusal :=
  packet 0x09 q (fun p =>
    if !bit p[0] 15 then s
    else match s.ops.find? fun o => o.queue == q.val && match o.kind with
        | .rejoin w g _ => w == pkWord p && g == bits p[0] 14 12
        | _ => false with
      | some o => ((s.opDone o.id (statusWord cUNLOADED)).complete q p 0).restIslands.reuse
      | none => s.complete q p cFORMAT) s

end Sys2Proof.Machine
end

