-- ==== Sys2Proof/Machine/Launch.lean ====
section
/-! DEFINITION. LAUNCH (14 R345, R346): the binary image (03 R93, R94), its checks, the tables of a launch; the visit of a queue (14 R342). -/
namespace Sys2Proof.Machine

/-! ### The binary image (03 R93) -/

/-- A little-endian field of n bytes at an offset of a string of bytes. -/
def leAt (b : List Byte) (off n : Nat) : Nat := leNat ((b.drop off).take n)

/-- An entry of a binary's directory (03 R93). `zero` is its bytes 3, 6 and 7. -/
structure DirEntry where
  kind : Nat
  gang : Nat
  zero : Nat
  seg : Nat
  off : Nat
  len : Nat

/-- Gangs, sections and flags of the header (03 R93). -/
def imgGangs (b : List Byte) : Nat := leAt b 0x08 2
def imgSections (b : List Byte) : Nat := leAt b 0x0a 2
def imgOverlaid (b : List Byte) : Bool := leAt b 0x07 1 % 2 == 1

/-- The directory (03 R93). -/
def directory (b : List Byte) : List DirEntry :=
  (List.range (imgSections b)).map fun i =>
    let o := 0x10 + 16 * i
    ⟨leAt b o 2, leAt b (o + 2) 1, leAt b (o + 3) 1 + leAt b (o + 6) 2, leAt b (o + 4) 2, leAt b (o + 8) 4, leAt b (o + 12) 4⟩

/-- The entries of a kind that belong to a gang. -/
def sectionsOf (b : List Byte) (kind gang : Nat) : List DirEntry :=
  (directory b).filter fun d => d.kind == kind && d.gang == gang

/-- A budgets section in order: one record of 8 bytes, 1 to 65,535 (03 R93). -/
def budgetOk (b : List Byte) (d : DirEntry) : Bool :=
  let v := leAt b d.off 8
  d.len == 8 && decide (1 ≤ v) && decide (v < 0x10000)

/-- Header and directory in order, the gang of every entry one that the binary has (log 69), ILEN over every entry (03 R93, 14 R346). -/
def imageOk (b : List Byte) (ilen : Nat) : Bool :=
  decide (0x10 + 16 * imgSections b ≤ ilen) && leAt b 0 4 == 0x6c756866 && decide (1 ≤ leAt b 0x06 1) && decide (leAt b 0x06 1 ≤ 16) &&
    decide (leAt b 0x07 1 < 2) && decide (1 ≤ imgGangs b) && decide (imgGangs b ≤ 8) && leAt b 0x0c 4 == 0 &&
    ((directory b).all fun d => decide (1 ≤ d.kind) && decide (d.kind ≤ 6) && decide (d.gang < imgGangs b) && d.zero == 0 &&
      decide (d.off + d.len ≤ ilen) && (d.kind != 6 || budgetOk b d)) &&
    (List.range (imgGangs b)).all fun g => decide ((sectionsOf b 6 g).length ≤ 1)

/-- MAJOR 1, MINOR at most 0 (03 R94). -/
def versionOk (b : List Byte) : Bool := leAt b 0x05 1 == 1 && leAt b 0x04 1 == 0

/-- The bundles of a code section (03 R70, R93). -/
def bundlesOf (b : List Byte) (d : DirEntry) : List Bundle :=
  (List.range (d.len / 32)).map fun i => BitVec.ofNat 256 (leAt b (d.off + 32 * i) 32)

/-- Whether a word that decodes is legal where it stands: its target obeys R79, in a segment of `len` bundles at its bundle `a`; MARK.OV and
JUMP.OV only in an overlaid binary, MARK.OV of a segment the binary has (04 R95). -/
def targetOk (overlaid : Bool) (segs : List Nat) (len a : Nat) : Instr → Bool
  | .br t | .brp _ t | .brz _ _ t | .call _ t => decide (t.toNat < if overlaid then 1024 else len)
  | .jumpOv t => overlaid && decide (t.toNat < 1024)
  | .markOv n => overlaid && segs.contains n.toNat
  | .loop _ _ t | .loops _ _ t | .replay _ _ _ t => decide (a < t.toNat) && decide (t.toNat < if overlaid then min len 1024 else len)
  | _ => true

/-- The segments of a binary (03 R93). -/
def segmentsOf (b : List Byte) : List Nat := ((directory b).filter fun d => d.kind == 1).map (·.seg)

/-- The first illegal word of a segment (03 R77 to R79); a segment longer than instruction memory has one past its end (log 24). -/
def badWordIn (overlaid : Bool) (segs : List Nat) (seg : Nat) (bs : List Bundle) : Option BadWord :=
  let room := if overlaid then 1024 else 2048
  (bs.zipIdx.findSome? fun x =>
    (slots.find? fun u => !(decode u (slotWord x.1 u)).any (targetOk overlaid segs bs.length x.2)).map fun u => ⟨seg, x.2, u⟩).orElse fun _ =>
      if room < bs.length then some ⟨seg, room, .c⟩ else none

/-- The first illegal word of a binary's code sections; none where all are legal (03 R78). -/
def badWordOf (b : List Byte) : Option BadWord :=
  ((directory b).filter fun d => d.kind == 1).findSome? fun d => badWordIn (imgOverlaid b) (segmentsOf b) d.seg (bundlesOf b d)

/-- Every code section legal (03 R78). -/
def encodingOk (b : List Byte) : Bool := (badWordOf b).isNone

/-- The format codes of R29. -/
def fmtCodes : List Nat := [0x00, 0x01, 0x02, 0x03, 0x04, 0x05, 0x06, 0x08, 0x09, 0x0a, 0x0b, 0x0c, 0x10, 0x11, 0x12, 0x13]

/-- A bank format register as R28 and R29 admit it. -/
def fmtOk (w : Nat) : Bool := fmtCodes.contains (w % 256) && w / 256 % 2 == 0 && decide (w / 512 ≤ 4)

/-- A section of bank formats and vctl: sixteen words of fmt, then vctl (01 R28 to R30; its layout: log 23). -/
def formatOk (b : List Byte) (d : DirEntry) : Bool :=
  d.len == 68 && ((List.range 16).all fun i => fmtOk (leAt b (d.off + 4 * i) 4)) && decide (leAt b (d.off + 64) 4 < 2)

/-- A word of a gang's section of bank formats and vctl; RAW32 with RNE, and 0 for vctl, without one; the first counts (03 R92, log 69). -/
def fmtWord (b : List Byte) (g i : Nat) : W32 :=
  match sectionsOf b 3 g with
  | d :: _ => BitVec.ofNat 32 (leAt b (d.off + 4 * i) 4)
  | [] => 0

/-- The records of a gang's prompt book, as pairs of words (09 R237). -/
def bookWords (b : List Byte) (g : Nat) : List (W64 × W64) :=
  (sectionsOf b 4 g).flatMap fun d => (List.range (d.len / 16)).map fun i =>
    (BitVec.ofNat 64 (leAt b (d.off + 16 * i) 8), BitVec.ofNat 64 (leAt b (d.off + 16 * i + 8) 8))

/-- The kind of a record (09 R237). -/
def kindOf (n : Nat) : Option BookKind :=
  match n with
  | 1 => some .flyRd
  | 2 => some .flyWr
  | 3 => some .rb
  | 4 => some .share
  | _ => none

/-- A record of the prompt book (09 R237). -/
def bookRec (x : W64 × W64) : Option BookRec :=
  (kindOf (bits x.1 63 60)).map fun k =>
    ⟨k, bits x.1 59 55, bits x.1 54 50, bits x.1 49 45, bits x.1 41 0, bits x.2 63 44, bits x.2 43 14, bits x.2 9 0⟩

/-- Whether a record keeps its layout (09 R237). A fly record for site 16 to 31, or for a row or column that the gang lacks, is taken, and no word ever
matches it (DESIGN CHOICE, log 100). -/
def bookRecOk (x : W64 × W64) : Bool :=
  match bookRec x with
  | none => false
  | some r =>
    bits x.1 44 42 == 0 && bits x.2 13 10 == 0 && ((r.every == 0) == (r.times == 0)) && match r.kind with
      | .flyRd | .flyWr => true
      | .rb => r.row == 0 && r.col == 0 && r.site == 0 && r.len == 0
      | .share => r.row == 0 && r.col == 0 && r.site == 0 && r.off == 0 && r.times == 0 && decide (r.len ≤ 64)

/-- Strictly rising numbers. -/
def rising : List Nat → Bool
  | [] => true
  | [_] => true
  | a :: b :: r => decide (a < b) && rising (b :: r)

/-- The local limit of a gang in cycles (09 R241, 03 R93). -/
def localLimitOf (b : List Byte) (g : Nat) : Nat :=
  match sectionsOf b 6 g with
  | d :: _ => 16 * leAt b d.off 8
  | [] => 1048560

/-- Data sections laid in the scratchpad (03 R92, R93; their addresses: log 23). Bytes that run past its end are dropped (DESIGN CHOICE, log 24). -/
def dataOf (b : List Byte) (g : Nat) : Memory :=
  ((directory b).zipIdx.filter fun x => x.1.kind == 2 && x.1.gang == g).foldl (fun m x =>
    memPutAll m ((cellsAt (Config.dataAddress b x.2 % 0x100000) ((b.drop x.1.off).take x.1.len)).filter fun c => decide (c.1 < 0x100000))) []

/-- The gang that declares the highest grade, which the header holds; which one it is has no place in the image (03 R93; log 23). -/
def topGang (b : List Byte) : Nat := if imgGangs b ≤ 1 then 0 else Config.gangGrade b (imgGangs b) % imgGangs b

/-- The grade a gang declares: the header's for one gang, at most that for the others (03 R93; log 23). -/
def gradeOf (b : List Byte) (g : Nat) : Nat :=
  let top := leAt b 0x06 1
  if g = topGang b then top else Config.gangGrade b g % max 1 top + 1

/-- A gang of a binary (03 R92, R93). The last byte of a section of wheel positions of odd length is ignored (DESIGN CHOICE, log 24). -/
def gangBinOf (b : List Byte) (g : Nat) : GangBin where
  rows := Config.gangRows b g % 32 + 1
  cols := Config.gangCols b g % 32 + 1
  grade := gradeOf b g
  fmts := Vector.ofFn fun i => fmtWord b g i.val
  vctl := fmtWord b g 16
  data := dataOf b g
  segs := (sectionsOf b 1 g).map fun d => (BitVec.ofNat 16 d.seg, bundlesOf b d)
  book := (bookWords b g).filterMap bookRec
  wheel := (sectionsOf b 5 g).flatMap fun d => (List.range (d.len / 2)).map fun i => leAt b (d.off + 2 * i) 2
  localLimit := localLimitOf b g

/-- The gangs of a binary. -/
def gangBins (b : List Byte) : List GangBin := (List.range (imgGangs b)).map (gangBinOf b)

/-- The prompt books in order, but for room in an empty deck (09 R237). -/
def promptOk (b : List Byte) : Bool :=
  let gs := gangBins b
  ((List.range (imgGangs b)).all fun g => (bookWords b g).all bookRecOk) &&
    gs.all fun x => rising x.boundaries && decide ((x.book.filter fun r => r.kind == .share).length ≤ 1) &&
      x.boundaries == ((gs.head?.map (·.boundaries)).getD [])

/-- Whether some book holds a fly record, for which an empty deck must have room. -/
def usesFly (b : List Byte) : Bool := (gangBins b).any fun x => x.book.any fun r => r.kind == .flyRd || r.kind == .flyWr

/-- Wheel positions within 0 to 8,191, none twice in the company (11 R290, 0x3c). -/
def wheelOk (b : List Byte) : Bool :=
  let ps := (gangBins b).flatMap (·.wheel)
  (ps.all fun p => decide (p < Config.wheelPositions)) && decide (ps.eraseDups.length = ps.length)

/-! ### The tables of a launch (10 R270, R271; 14 R345) -/

/-- An entry of the segment table in order (10 R270, R271). -/
def segEntryOk (w0 w1 w2 w3 : W64) : Bool :=
  let aper := bits w0 63 62
  let paged := bit w0 61
  let limit := bits w2 47 0
  decide (aper ≤ 1) && bits w0 56 0 == 0 && (bit w0 60 || bit w0 59) && bits w2 63 48 == 0 && limit != 0 && limit % 64 == 0 &&
    bits w3 63 48 == 0 && bits w3 11 0 == 0 &&
    (if paged then
      aper == 0 && bits w1 63 48 == 0 && decide (w1.toNat + limit ≤ 2 ^ 48) && populated (bits w3 47 12 * 4096)
    else w3 == 0 && (aper == 1 || (bits w0 58 57 == 0 && bits w1 63 48 == 0 && populatedRange w1.toNat limit)))

/-- An entry of the segment table (10 R270). -/
def segEntry (w0 w1 w2 w3 : W64) : SegEntry :=
  ⟨bits w0 63 62, bit w0 61, bit w0 60, bit w0 59, bits w0 58 57, w1.toNat, bits w2 47 0, bits w3 47 12 * 4096⟩

/-- Word k of a table of 64-bit words at an address word. -/
def State.tableWord (s : State) (w : W64) (k : Nat) : W64 := BitVec.ofNat 64 (s.wordNat w (8 * k) 8)

/-- The header of the overlay table: the level-4 root, the number of segments (14 R345). -/
def State.ovHead (s : State) (w : W64) : Nat × Nat := (bits (s.tableWord w 0) 47 12 * 4096, bits (s.tableWord w 1) 15 0)

/-- The entries of the overlay table: address, length in bundles (14 R345). -/
def State.ovEntries (s : State) (w : W64) : List (W64 × Nat) :=
  (List.range (s.ovHead w).2).map fun n => (s.tableWord w (2 + 2 * n), bits (s.tableWord w (3 + 2 * n)) 10 0)

/-- The overlay table in order: root populated, an entry for each segment, addresses and lengths in range (14 R345, R346). -/
def State.overlayOk (s : State) (b : List Byte) (w : W64) : Bool :=
  if !imgOverlaid b then w == 0
  else w != 0 && populated (s.ovHead w).1 &&
    (((directory b).filter fun d => d.kind == 1).all fun d => decide (d.seg < (s.ovHead w).2)) &&
    (s.ovEntries w).all fun e => decide (e.1.toNat < 2 ^ 48) && e.1.toNat % 32 == 0 && decide (1 ≤ e.2) && decide (e.2 ≤ 1024)

/-- The pin table: eight entries, or none for free placement (14 R345). -/
def State.pinsAt (s : State) (w : W64) : List W64 := if w = 0 then [] else (List.range 8).map (s.tableWord w)

/-- Reserved bits of the pin table, and each pinned rectangle on the module grid (14 R346, 09 R234). -/
def pinsOk (b : List Byte) (pins : List W64) : Bool :=
  pins.zipIdx.all fun x => bits x.1 62 13 == 0 && (!bit x.1 63 || decide (imgGangs b ≤ x.2) ||
    (let g := gangBinOf b x.2
    decide (bits x.1 9 5 + g.rows ≤ 32) && decide (bits x.1 4 0 + g.cols ≤ 32)))

/-- The binding table (14 R345). -/
def State.bindsAt (s : State) (w : W64) : List (BitVec 16) :=
  (List.range 256).map fun i => BitVec.ofNat 16 (s.wordNat w (2 * i) 2)

/-- The handler entry in every segment it is used in (11 R292). -/
def handlerOk (b : List Byte) (ov : List (W64 × Nat)) (h : Nat) : Bool :=
  if imgOverlaid b then
    decide (h < 1024) && (ov.all fun e => decide (h < e.2)) &&
      ((directory b).filter fun d => d.kind == 1).all fun d => decide (h < d.len / 32)
  else (gangBins b).all fun g => decide (h < (g.segment 0).length)

/-- Whether some region of some serving compute site has each gang's grade (11 R290). -/
def State.gradeThere (s : State) (b : List Byte) : Bool :=
  (gangBins b).all fun g => computeSites.any fun n => (s.sites[n]).state.serving &&
    (List.finRange 4).any fun q => decide (g.grade ≤ ((s.sites[n]).regions[q]).grade)

/-! ### Signatures (14 R353) -/

/-- Whether the deck record asks for signed binaries (14 R353; log 9). -/
def Firmware.wantsSigned (f : Firmware) : Bool := (f.record 1).any fun r => (r.payload.getD 0 0).toNat % 2 == 1

/-! ### LAUNCH (14 R345, R346) -/

/-- The image a LAUNCH names. -/
def State.imageOf (s : State) (p : Packet) : List Byte := s.wordBytes p[1] 0 (bits p[2] 63 32)

/-- The segment table words of a LAUNCH. -/
def State.segWords (s : State) (p : Packet) : List (W64 × W64 × W64 × W64) :=
  (List.range (bits p[2] 31 26 + 1)).map fun i =>
    (s.tableWord p[3] (4 * i), s.tableWord p[3] (4 * i + 1), s.tableWord p[3] (4 * i + 2), s.tableWord p[3] (4 * i + 3))

/-- Whether a bound load keeps within its gang's shape (14 R348). -/
def loadFits (b : List Byte) (l : WLoad) : Bool :=
  decide (l.gang < imgGangs b) &&
    (let g := gangBinOf b l.gang
    decide (l.trow + l.nr ≤ g.rows) && decide (l.tcol + l.nc ≤ g.cols))

/-- The first check of a LAUNCH that fails, by its code (14 R346, R348). Room for a book in an empty deck is free (log 5). -/
def State.launchRefusal (s : State) (p : Packet) (b : List Byte) (loads : List WLoad) : Option (BitVec 8) :=
  let ov := if imgOverlaid b then s.ovEntries p[6] else []
  [(s.fw.wantsSigned && !s.fw.signedBy (Config.sha3 b) (Config.imageSignature b), (0x34 : BitVec 8)),
   (!imageOk b (bits p[2] 63 32), 0x35),
   (!versionOk b, 0x32),
   (!encodingOk b, 0x36),
   (!(((directory b).filter fun d => d.kind == 3).all (formatOk b)), 0x37),
   (!promptOk b || (usesFly b && Config.freeBool s.free), 0x38),
   (!wheelOk b, 0x3c),
   (!((s.segWords p).all fun w => segEntryOk w.1 w.2.1 w.2.2.1 w.2.2.2) || !s.overlayOk b p[6], 0x39),
   (((s.bindsAt p[4]).any fun x => x.toNat / 4096 % 8 != 0) || !pinsOk b (s.pinsAt p[7]), 0x3d),
   (bit p[0] 31 && !handlerOk b ov (bits p[0] 26 16), 0x3e),
   (!s.gradeThere b, 0x33),
   (!(loads.all (loadFits b)), cFORMAT)].findSome? fun x => if x.1 then some x.2 else none

/-- What a launch brings (14 R345). -/
def State.launchInfo (s : State) (q : Fin 64) (p : Packet) (b : List Byte) (loads : List WLoad) : LaunchInfo where
  op := s.nextOp
  queue := q.val
  cmb := pkCmb p
  gen := bits p[0] 15 0
  pri := pkPri p
  readCue := s.cue
  overlaid := imgOverlaid b
  handler := if bit p[0] 31 then some (BitVec.ofNat 11 (bits p[0] 26 16)) else none
  seed := p[5]
  segtab := (s.segWords p).map fun w => segEntry w.1 w.2.1 w.2.2.1 w.2.2.2
  binds := s.bindsAt p[4]
  ovRoot := if imgOverlaid b then (s.ovHead p[6]).1 else 0
  ovTab := if imgOverlaid b then (s.ovEntries p[6]).map fun e => (e.1.toNat, e.2) else []
  pins := s.pinsAt p[7]
  gangs := gangBins b
  loads := loads

/-- What the fetch of image and tables marks in fresh memory (13 R332, log 22). -/
def State.launchReads (s : State) (p : Packet) : State :=
  let s := ((s.wordRead p[1] (bits p[2] 63 32)).wordRead p[3] (32 * (bits p[2] 31 26 + 1))).wordRead p[4] 512
  let s := if p[6] = 0 then s else s.wordRead p[6] (16 + 16 * (s.ovHead p[6]).2)
  if p[7] = 0 then s else s.wordRead p[7] 64

/-- LAUNCH: fetched and checked; queued for placement with the loads bound to it, or refused with the first failure's code (14 R346,
R348); a refusal with ENCODING reports the word (03 R78). -/
def execLaunch (q : Fin 64) (s : State) : Host.Outcome State Fault Refusal :=
  packet 0x01 q (fun p =>
    let b := s.imageOf p
    let loads := (s.queues[q]).bound
    let info := s.launchInfo q p b loads
    let refused := s.launchRefusal p b loads
    let s := ({ s with free := s.free + 1 }.launchReads p).later q p .launch
    let s := s.onQueue q fun x => { x with bound := [] }
    match refused with
    | some c => { s with badWord := if c = 0x36 then badWordOf b else s.badWord }.dropLaunch info c
    | none => { s with launches := s.launches ++ [info] }) s

/-! ### The visit (14 R342, R343) -/

/-- The step of a packet by its type (14 R344). -/
def packetStep (q : Fin 64) (p : Packet) (s : State) : Host.Outcome State Fault Refusal :=
  match pkType p with
  | 0x00 => execPacketNop q s
  | 0x01 => execLaunch q s
  | 0x02 => execCopy q s
  | 0x03 => execWeightload q s
  | 0x04 => execPutmb q s
  | 0x05 => execWaitmb q s
  | 0x06 => match bits p[0] 31 30 with
    | 0 => execUnloadCode q s
    | 1 => execUnloadData q s
    | _ => execUnloadLaunch q s
  | 0x07 => execIndirect q s
  | 0x08 => execFence q s
  | _ => if bit p[0] 15 then execRejoinWithdraw q s else execRejoin q s

/-- QUEUE_VISIT: the next queue is visited; the packet it has is read and, well formed, done; an ill-formed one stops it (14 R342,
R343). -/
def execQueueVisit (s : State) : Host.Outcome State Fault Refusal :=
  if !s.accepts then .next s
  else
    let q := s.nextQueue
    let x := s.queues[q]
    let s := { s with nextQueue := q + 1 }
    if !x.ready then .next s
    else
      let at_ := x.next
      let p : Packet := Vector.ofFn fun i => BitVec.ofNat 64 (s.wordNat at_.1 (at_.2 + 8 * i.val) 8)
      let s := if aperOf at_.1 = 0 then s.freshRead none 0xffff (addrOf at_.1 + at_.2) 64 else s
      if packetOk p then packetStep q p (s.onQueue q fun x => { x with packet := some p })
      else .next (s.onQueue q fun x => x.stop cFORMAT)

end Sys2Proof.Machine
end

