-- ==== Sys2Proof/Machine/Placement.lean ====
section
/-! DEFINITION. Placement of launches, resumption, pre-emption (09 R234, R235, R239, R254, R256 to R259; 12 R308, R319). -/
namespace Sys2Proof.Machine

/-! ### Where a gang may stand (09 R234, R239, R256; 12 R306, R308) -/

/-- A place for a gang: site and grid origin (09 R234). -/
structure Spot where
  site : SiteId
  row0 : Nat
  col0 : Nat
  deriving DecidableEq

/-- A tile's place in its region (09 R234). -/
structure Seat where
  region : Fin 4
  row : Fin 16
  col : Fin 16

/-- The seat of a grid position. -/
def seatOf (r c : Nat) : Seat := ⟨gridRegion r c, ⟨r % 16, Nat.mod_lt _ (by decide)⟩, ⟨c % 16, Nat.mod_lt _ (by decide)⟩⟩

/-- Places in a gang's rectangle. -/
def cellsIn (rows cols : Nat) : List (Nat × Nat) := (List.range rows).flatMap fun r => (List.range cols).map fun c => (r, c)

/-- The seats of a gang at a place, by row and column in the gang. -/
def seatsOf (g : GangBin) (p : Spot) : List ((Nat × Nat) × Seat) :=
  (cellsIn g.rows g.cols).map fun x => (x, seatOf (p.row0 + x.1) (p.col0 + x.2))

/-- Whether a company stands frozen with its images saved (09 R252). -/
def Company.saved (c : Company) : Bool := match c.mode with
  | .frozen true _ => true
  | _ => false

/-- Companies whose tiles a launch may cover: saved ones, unless it brings bound loads (09 R254, 14 R346). -/
def State.coverable (s : State) (bound : Bool) (leaving : List Nat) (co : Nat) : Bool :=
  !bound && (leaving.contains co || (s.coAt co).any Company.saved)

/-- Whether a leaf controller offers a place to a gang (09 R256; 12 R308, R317): the site serves, the grade of each region touched is
enough, the rectangle keeps to its rows, no tile stands there but in a context that may be covered. -/
def State.offers (s : State) (bound : Bool) (leaving : List Nat) (g : GangBin) (p : Spot) : Bool :=
  let x := s.sites[p.site]
  isCompute p.site && x.state.serving && x.lossCue.isNone && decide (p.row0 + g.rows ≤ 32) && decide (p.col0 + g.cols ≤ 32) &&
    (seatsOf g p).all fun y =>
      let r := x.regions[y.2.region]
      r.rail && decide (r.defects = r.mapped) && decide (g.grade ≤ r.grade) && decide (y.2.row.val < g.grade) &&
        s.tiles.all fun t => !(t.site == p.site && t.region == y.2.region && t.row == y.2.row && t.col == y.2.col) ||
          s.coverable bound leaving t.key.co

/-- A list turned by n. -/
def turned {α : Type} (n : Nat) (l : List α) : List α := l.drop (n % max 1 l.length) ++ l.take (n % max 1 l.length)

/-- The places that may be tried for gang i: its pin's alone, or all, in an order left free (09 R256, 14 R345, log 5). -/
def LaunchInfo.spots (i : LaunchInfo) (k : Nat) (g : GangBin) (draw : Nat) : List Spot :=
  let pin := i.pins.getD k 0
  if bit pin 63 then
    if h : bits pin 12 10 < 17 then [⟨⟨bits pin 12 10, h⟩, bits pin 9 5, bits pin 4 0⟩] else []
  else
    turned draw (computeSites.flatMap fun n => (cellsIn (33 - g.rows) (33 - g.cols)).map fun x => ⟨n, x.1, x.2⟩)

/-- The company a launch would become with its gangs at places (09 R235, R239). -/
def mkCompany (num : Nat) (i : LaunchInfo) (ps : List Spot) (cue start : Nat) (covering : Bool) : Company :=
  let gangs := (i.gangs.zip ps).zipIdx.map fun x => (⟨x.2, x.1.1, x.1.2.site, x.1.2.row0, x.1.2.col0, false, 0⟩ : Gang)
  let c : Company := {
    num := num, info := i, gangs := gangs, cue := 0, base := 0, mode := .loading start, placedAt := cue, since := 0
    freezeAt := none, freezeNext := none, holds := [], holdCyc := 0, rollbacks := 0, lastB := 0, sameB := 0
    gateOpen := [], gateSealed := [], ring := [], gen := 0, leaves := [], rounds := [], imgRounds := []
    level := 0, d0 := 0, wanted := 0, wantedCue := 0, covering := covering, rested := false, fatal := none }
  { c with ring := gangs.foldl (fun r g => c.ringInsert g.idx r) [] }

/-- Bytes of a region's gate buffer (09 R239). -/
def gateBuffer : Nat := 0x400000

/-- Whether a gang of a company has tiles in a region. -/
def Company.touches (c : Company) (n : SiteId) (q : Fin 4) : Bool :=
  c.gangs.any fun g => g.site == n && (cellsIn g.bin.rows g.bin.cols).any fun x => decide (g.regionOf ⟨0, 0, x.1, x.2⟩ = q)

/-- Whether the gate quotas of the resident companies and one more fit in every region it touches (09 R239). -/
def State.quotasFit (s : State) (c : Company) : Bool :=
  c.gangs.all fun g => (List.finRange 4).all fun q => !c.touches g.site q ||
      decide (((c :: s.companies.filter fun d => d.touches g.site q).map fun d => d.quota g.site).foldl (· + ·) 0 ≤ gateBuffer)

/-- Link slots of every 64 that a company's book asks for its Chorus traffic (09 R237); of gangs that ask for different shares, the largest (DESIGN
CHOICE, log 78). -/
def Company.share (c : Company) : Nat :=
  (c.gangs.flatMap fun g => (g.bin.book.filter fun r => r.kind == .share).map (·.len)).foldl max 0

/-- The compute ring (07 R198). -/
def computeRing : List Nat := [0, 1, 2, 3, 7, 6, 5, 4]

/-- The ranks along the compute ring, from one to another, of the shorter way round; forward where both are as long. -/
def ringArc (p q : Nat) : List Nat :=
  let n := (q + 8 - p) % 8
  if n ≤ 4 then (List.range (n + 1)).map fun i => (p + i) % 8 else (List.range (8 - n + 1)).map fun i => (p + 8 - i) % 8

/-- Whether a company's Chorus traffic runs between two neighbouring sites: along the compute ring, from each gang of the launch to the next in ring
order and from the last to the first, detached ones among them (07 R198; 09 R239; 13 R330; log 78). -/
def Company.ringsOver (c : Company) (a b : SiteId) : Bool :=
  let ranks := sortBy (fun x y => decide (x < y)) (c.gangs.map fun g => ringRank g.site)
  (ranks.zip (ranks.drop 1 ++ ranks.take 1)).any fun x =>
    let way := ringArc x.1 x.2
    (way.zip (way.drop 1)).any fun e =>
      let p := (computeRing.getD e.1 0, computeRing.getD e.2 0)
      p == (a.val, b.val) || p == (b.val, a.val)

/-- Whether the link shares of the resident companies and one more fit on the links of its ring: never above 64 of 64 (09 R239). -/
def State.sharesFit (s : State) (c : Company) : Bool :=
  computeSites.all fun a => (List.range 4).all fun d => (neighbour a d).all fun b =>
    !c.ringsOver a b || decide (((c :: s.companies.filter fun x => x.ringsOver a b).map Company.share).foldl (· + ·) 0 ≤ 64)

/-- Places for gangs on distinct sites that fit together (09 R256); `ps` are the places of the gangs before. -/
def State.seekSpots (s : State) (i : LaunchInfo) (leaving : List Nat) : List (GangBin × Nat) → List Spot → Option (List Spot)
  | [], ps =>
    let c := mkCompany 0 i ps 0 0 false
    if s.quotasFit c && s.sharesFit c then some ps else none
  | g :: r, ps =>
    (i.spots g.2 g.1 (Config.freeNat (s.free + 2 + g.2))).findSome? fun p =>
      if (ps.any fun x => x.site == p.site) || !s.offers (!i.loads.isEmpty) leaving g.1 p then none
      else s.seekSpots i leaving r (ps ++ [p])

/-- Places for a launch, when the slots its fly windows need are there: freely, beside other companies (09 R237, R239; log 5). An empty deck has room for
a company's own fly windows beside its own link share (DESIGN CHOICE, log 97). -/
def State.seek (s : State) (i : LaunchInfo) (leaving : List Nat) : Option (List Spot) :=
  if !s.companies.isEmpty && Config.freeBool s.free then none else s.seekSpots i leaving i.gangs.zipIdx []

/-! ### Circuits of a company (12 R309, R319) -/

/-- The side a link leaves by. -/
def linkSide (p : Fin 8) : Side :=
  match p.val / 2 with
  | 0 => .n
  | 1 => .e
  | 2 => .s
  | _ => .w

/-- Whether the code of a gang sends or receives on a side. -/
def GangBin.crosses (b : GangBin) (d : Side) : Bool :=
  b.segs.any fun x => x.2.any fun w => match decode .f (slotWord w .f) with
    | some (.xsend _ x _ _) | some (.xrecv _ x _ _) => x == d
    | _ => false

/-- Whether a tile stands at the edge of its region on a side. -/
def Tile.atEdge (t : Tile) (d : Side) : Bool :=
  match d with
  | .n => t.row.val == 0
  | .s => t.row.val + 1 == t.grade
  | .w => t.col.val == 0
  | .e => t.col.val == 15

/-- The route straight on from a link to the first site with a gang of the company, three links at most (12 R319). -/
def Company.straight (c : Company) : Nat → DeckLink → List DeckLink
  | 0, _ => []
  | n + 1, l => match linkPeer l with
    | none => []
    | some y => if c.gangs.any fun g => g.site == y.site then [l] else
      match c.straight n ⟨y.site, l.port⟩ with
      | [] => []
      | r => l :: r

/-- Whether a tile can end a circuit on a side: it stands at that edge and its gang's code crosses there (12 R309, R319). -/
def Company.ends (c : Company) (t : Tile) (d : Side) : Bool :=
  t.atEdge d && (c.gangAt t.key.gang).any fun g => g.bin.crosses d

/-- The place of a tile along an edge. -/
def alongEdge (d : Side) (t : Tile) : Nat := match d with
  | .n | .s => t.col
  | .e | .w => t.row

/-- The tile at the far end of a route that ends a circuit there, at the same place along its edge (12 R319; log 25). -/
def State.farEnd (s : State) (c : Company) (t : Tile) (d : Side) (route : List DeckLink) : Option (Tile × Side) :=
  (routeEnd route).bind fun y =>
    let far := linkSide y.port
    ((s.tilesOf c.num).find? fun u => u.site == y.site && u.region == linkRegion y.port && c.ends u far &&
      alongEdge d t == alongEdge far u).map fun u => (u, far)

/-- Routes of links of compute sites from a link on, n more at most, each ending at the first site with a gang of the company; shorter first, then by
the sites and links of R313. -/
def Company.routesFrom (c : Company) : Nat → DeckLink → List (List DeckLink)
  | 0, l => match linkPeer l with
    | some y => if c.gangs.any fun g => g.site == y.site then [[l]] else []
    | none => []
  | n + 1, l => match linkPeer l with
    | none => []
    | some y => if c.gangs.any fun g => g.site == y.site then [[l]] else
      ((List.finRange 8).filter fun p => p != y.port && isCompute y.site).flatMap fun p =>
        (c.routesFrom n ⟨y.site, p⟩).map (l :: ·)

/-- The routes a circuit from an edge tile may be laid out on: straight on; or, where no end lies straight on, round a turn (12 R319; log 25). -/
def State.layouts (s : State) (c : Company) (t : Tile) (d : Side) : List (List DeckLink) :=
  match t.endLink d with
  | none => []
  | some l =>
    if !c.ends t d then []
    else
      let on := c.straight 3 l
      if (s.farEnd c t d on).isSome then [on]
      else
        let ways := (c.routesFrom 2 l).filter fun r => (s.farEnd c t d r).any fun u => u.1.site != t.site
        (ways.filter fun r => r.length == 2) ++ ways.filter fun r => r.length == 3

/-- The circuit from an edge tile on the first route that serves and has room, a parallel middle link among them (12 R319). -/
def State.circuitFrom (s : State) (c : Company) (t : Tile) (d : Side) : Option Circuit :=
  (s.layouts c t d).findSome? fun route => (s.farEnd c t d route).bind fun u =>
    ((otherRoutes route).find? fun r => s.routeFits (t, d) u r && s.routeRoom s.circuits.length r).map fun r =>
      ⟨c.num, (t.key, d), (u.1.key, u.2), r, true, none⟩

/-- Whether a tile's side ends a circuit already. -/
def State.ended (s : State) (e : TileKey × Side) : Bool := s.circuits.any fun y => decide (y.a = e) || decide (y.b = e)

/-- A circuit added where both its ends are new (12 R319). -/
def State.addCircuit (s : State) (x : Circuit) : State :=
  if s.ended x.a || s.ended x.b then s
  else ({ s with circuits := s.circuits ++ [x] }.onTile x.a.1 fun t => t.askOfs x.a.2).onTile x.b.1 fun t => t.askOfs x.b.2

/-- The circuits of a company set up at its placement, those straight on first (12 R319). -/
def State.addCircuits (s : State) (c : Company) : State :=
  [true, false].foldl (fun s on => (s.tilesOf c.num).foldl (fun s t => allSides.foldl (fun s d =>
    if ((t.endLink d).any fun l => (s.farEnd c t d (c.straight 3 l)).isSome) == on then (s.circuitFrom c t d).elim s s.addCircuit else s) s) s) s

/-- Whether every circuit that a company's ends call for stands (12 R319, 09 R256). -/
def State.circuitsFit (s : State) (c : Company) : Bool :=
  (s.tilesOf c.num).all fun t => allSides.all fun d => (s.layouts c t d).isEmpty || s.ended (t.key, d) ||
    !((s.layouts c t d).any fun r => (s.farEnd c t d r).any fun u => !s.ended (u.1.key, u.2))

/-! ### Placing a launch -/

/-- A tile of a company at its seat, in the launch-start state (01 R42, 09 R245). -/
def State.mkTile (s : State) (co : Nat) (g : Gang) (x : (Nat × Nat) × Seat) : Tile :=
  let st := TState.launch g.bin.data
  { key := ⟨co, g.idx, x.1.1, x.1.2⟩, site := g.site, region := x.2.region, row := x.2.row, col := x.2.col
    grade := ((s.sites[g.site]).regions[x.2.region]).grade, fmts := g.bin.fmts, vctl := g.bin.vctl
    imem := #v[g.bin.segment 0, []], st := st, img := st, imgTrap := none, frz := none, trap := TrapState.launch
    pend := Pending.launch, status := Vector.replicate 4 SideStatus.launch, ofs := Vector.replicate 4 0
    ofsDue := stitchSides g ⟨co, g.idx, x.1.1, x.1.2⟩, lost := false, imgBad := false, skew := 0 }

/-- The loader writes the segments of an overlaid binary into the launch's instruction space, where it is mapped (10 R263, 09 R245). -/
def State.loadSegments (s : State) (i : LaunchInfo) : State :=
  if !i.overlaid then s
  else (i.gangs.flatMap (·.segs)).foldl (fun s g => match i.ovTab[g.1.toNat]? with
    | none => s
    | some e => (g.2.take e.2).zipIdx.foldl (fun s b => match (s.walk i.ovRoot true false (e.1 + 32 * b.2)).1 with
      | .ok _ pa => if s.hole pa then s else s.placeWrite .host (cellsAt pa (leBytes 32 b.1.toNat))
      | _ => s) s) s

/-- A company number that no company holds, below 0xffff; which one is free (01 R40, log 5). -/
def State.freshNum (s : State) (draw : Nat) : Nat :=
  ((List.range (s.companies.length + 1)).map fun i => (draw + i) % 0xffff).find? (fun n => (s.coAt n).isNone) |>.getD 0

/-- A launch placed: its company, its tiles, its circuits; it starts at least 4,096 cycles after its images are loaded, freely later (09
R235; log 5). -/
def State.placeAt (s : State) (i : LaunchInfo) (ps : List Spot) : State :=
  let s := { s with free := s.free + 2 + i.gangs.length }
  let num := s.freshNum (Config.freeNat s.free)
  let seats := (i.gangs.zip ps).flatMap fun x => (seatsOf x.1 x.2).map fun y => (x.2.site, y.2)
  let covering := s.tiles.any fun t => seats.any fun y => t.site == y.1 && t.region == y.2.region && t.row == y.2.row && t.col == y.2.col
  let c := mkCompany num i ps s.cue (s.cue + 4096 + Config.freeNat (s.free + 1)) covering
  let ts := (c.gangs.zip ps).flatMap fun x => (seatsOf x.1.bin x.2).map (s.mkTile num x.1)
  let s := { s with
    free := s.free + 2
    launches := s.launches.filter fun x => x.op != i.op
    companies := s.companies ++ [c]
    tiles := s.tiles ++ ts }
  ((s.loadSegments i).addCircuits c)

/-! ### Effective priority, pre-emption (09 R257, R258) -/

/-- What competes for placement: a launch that waits, or a saved company (09 R257, R258). -/
inductive Waiter where
  | launch (i : LaunchInfo)
  | frozen (c : Company)

/-- The effective priority after w cycles (09 R257). -/
def effective (pri w : Nat) : Nat := min 7 (pri + w / 2 ^ 24)

/-- Effective priority, and the number of its packet. -/
def Waiter.rank (w : Waiter) (cue : Nat) : Nat × Nat :=
  match w with
  | .launch i => (effective i.pri (cue - i.readCue), i.op)
  | .frozen c => (effective c.info.pri (cue - (match c.mode with
      | .frozen _ since => since
      | _ => cue)), c.info.op)

/-- Whether one waiter is considered before another: higher effective priority, then read first (09 R257). -/
def Waiter.before (cue : Nat) (a b : Waiter) : Bool :=
  let x := a.rank cue
  let y := b.rank cue
  decide (y.1 < x.1) || (x.1 == y.1 && decide (x.2 < y.2))

/-- What waits, in the order it is considered. -/
def State.waiters (s : State) : List Waiter :=
  sortBy (Waiter.before s.cue) (s.launches.map .launch ++ (s.companies.filter Company.saved).map .frozen)

/-- Companies on their way to a save: a freeze announced, or its save not complete. -/
def State.leaving (s : State) : List Nat :=
  (s.companies.filter fun c => c.freezeAt.isSome || match c.mode with
    | .frozen false _ => true
    | _ => false).map (·.num)

/-- Whether a company may be pre-empted at an effective priority (09 R258). -/
def Company.victim (c : Company) (e : Nat) : Bool :=
  decide (c.info.pri < e) && decide (c.since + 2 ^ 22 ≤ c.cue) && !c.covering && c.freezeAt.isNone && c.fatal.isNone && match c.mode with
    | .running | .held _ => true
    | _ => false

/-- The order in which victims are chosen: lowest base priority, most recently placed, lowest number (09 R258). -/
def victimBefore (a b : Company) : Bool :=
  decide (a.info.pri < b.info.pri) || (a.info.pri == b.info.pri &&
    (decide (b.placedAt < a.placedAt) || (a.placedAt == b.placedAt && decide (a.num < b.num))))

/-- Victims without those the launch does not need, first chosen kept first: a candidate that stands early in the order is no victim where the launch has
room without it (09 R258; DESIGN CHOICE, log 98). -/
def State.needed (s : State) (i : LaunchInfo) (base : List Nat) : List Nat → List Nat → List Nat
  | _, [] => []
  | kept, n :: r =>
    if (s.seek i (base ++ kept ++ r)).isSome then s.needed i base kept r
    else n :: s.needed i base (kept ++ [n]) r

/-- The victims of a launch: the shortest run of candidates that makes room, without those not needed; none when nothing does (09 R258). -/
def State.victims (s : State) (i : LaunchInfo) (e : Nat) : List Nat :=
  let base := s.leaving
  if (s.seek i base).isSome then []
  else
    let cands := (sortBy victimBefore (s.companies.filter fun c => c.victim e)).map (·.num)
    match (List.range cands.length).find? fun k => (s.seek i (base ++ cands.take (k + 1))).isSome with
    | some k => s.needed i base [] (cands.take (k + 1))
    | none => []

/-- A freeze announced for a victim, at least 2,048 cycles ahead, freely further (09 R251, log 5). -/
def State.preempt (s : State) (n : Nat) : State :=
  match s.coAt n with
  | some c => { s with free := s.free + 1 }.setCo { c with freezeAt := some (c.cue + Config.freezeLead + Config.freeNat s.free) }
  | none => s

/-- One waiter considered: placed or chosen for resumption where it fits; else companies are frozen for a launch that may pre-empt them
(09 R256 to R258, R254). -/
def State.consider (s : State) (w : Waiter) : State :=
  match w with
  | .launch i =>
    let placed := (s.seek i []).bind fun ps =>
      let t := s.placeAt i ps
      if (t.companies.getLast?).all t.circuitsFit then some t else none
    match placed with
    | some t => t
    | none =>
      let s := { s with free := s.free + 1 }
      if i.loads.isEmpty then (s.victims i (effective i.pri (s.cue - i.readCue))).foldl State.preempt s else s
  | .frozen c => if c.fatal.isNone && s.uncovered c.num then s.setCo { c with mode := .resuming false s.cue } else s

/-- PLACEMENT_PASS: what waits is considered in order of effective priority (09 R256, R257); requests for rejoin are looked at, first uses
judged (13 R324, R334). -/
def execPlacementPass (s : State) : Host.Outcome State Fault Refusal :=
  .next (if s.accepts then (s.waiters.foldl State.consider s).reuse.placeRejoins else s)

end Sys2Proof.Machine
end

