-- ==== Sys2Proof/Machine/Firmware.lean ====
section
/-! DEFINITION. Inside the service module: cold start and recovery, update and restart, owner keys, attestation, command links (14 R353 to
R358). -/
namespace Sys2Proof.Machine

/-! ### Cold start and recovery (14 R354) -/

/-- A site at a cold start: its module and its contacts as they stand (13 R326). -/
def Site.cold (x : Site) : Site :=
  { Site.reset with
    present := x.present
    clamp := x.clamp
    module := x.module
    chip := x.chip
    mute := x.mute
    closedSince := if x.present && x.clamp then some 0 else none
    openSince := if x.present then none else some 0 }

/-- DECK_COLD_START: the machine as after reset, but for what is not in it or not volatile (host memory, flash, records, jumper, contacts,
measurements of the bus); the mask ROM of a service module that is there starts the flash image or the recovery image (14 R354, 00 R11). -/
def execDeckColdStart (strap : Bool) (s : State) : Host.Outcome State Fault Refusal :=
  let t : State := { State.reset with
    inputs := s.inputs
    free := s.free
    sites := s.sites.map Site.cold
    hostMem := s.hostMem
    busCv := s.busCv
    deckWatts := s.deckWatts
    outlet := s.outlet
    inlet := s.inlet
    fw := { s.fw with strap := strap } }
  .next (if t.serviceSeated then t.bootService else t.serviceOff)

/-- The service module reset where it stands: what was in it is loaded again where its site is up, as at an admission, and what waited for the stage
manager is done (14 R354, R359; 13 R336, R337). -/
def State.resetService (s : State) : State :=
  let t := s.bootService
  let t := if (t.sites[siteS]).state.up then t.loadService.takeWaiting else t
  (t.serviceBack s.serviceUp).keepArea

/-- RECOVERY_IMAGE_WRITE: the recovery image verifies what the host wrote, writes it to flash and resets the service module (14 R354). -/
def execRecoveryImageWrite (len : BitVec 64) (s : State) : Host.Outcome State Fault Refusal :=
  .next (if !s.recovers then s
    else
      let img := memBytes s.fw.window 0 len.toNat
      if s.fw.imageGood img then { s with fw := { s.fw with flash := img, torn := false } }.resetService else s)

/-- An update begins, unless one is under way: the image in the update window is verified (14 R358, 15 R369). -/
def State.startUpdate (s : State) (len : BitVec 64) : State :=
  if !s.accepts || s.fw.updStat == 1 || s.fw.updStat == 2 then s
  else { s with fw := { s.fw with updStat := 1, update := memBytes s.fw.window 0 len.toNat } }

/-- FIRMWARE_UPDATE: the length is written and the image of the update window is being verified; then, refused, or being written over the flash image,
of which no second copy exists; then written, and the stage manager restarts (14 R358, 15 R369). Each step comes as the event does (log 5). -/
def execFirmwareUpdate (len : BitVec 64) (s : State) : Host.Outcome State Fault Refusal :=
  .next (if !s.accepts then s
    else if s.fw.updStat = 1 then
      if s.fw.imageGood s.fw.update then { s with fw := { s.fw with updStat := 2, torn := true } }
      else { s with fw := { s.fw with updStat := 3 } }
    else if s.fw.updStat = 2 then
      { s with fw := { s.fw with flash := s.fw.update, torn := false, updStat := 4, mode := .restarting s.cue } }
    else s.startUpdate len)

/-- FIRMWARE_RESTART: the new code runs; what waited for the stage manager is done, the copies of the state area are written (14 R358, R359; 13
R336). -/
def execFirmwareRestart (s : State) : Host.Outcome State Fault Refusal :=
  .next (match s.fw.mode with
    | .restarting _ => ({ s with fw := { s.fw with mode := .running, secVersion := Config.imageVersion s.fw.flash } }.serviceBack false).keepArea
    | _ => s)

/-! ### Owner keys (14 R356) -/

/-- Whether an Owner record may be accepted: signed by the key it contains, or, without one, by the key that stands; over the nonce (14
R356). -/
def Firmware.ownerOk (f : Firmware) (r : FlashRecord) : Bool :=
  r.typ == 2 && decide (r.payload.drop (r.payload.length - 64) = leBytes 64 f.nonce.toNat) &&
    if 2592 ≤ r.payload.length then Config.verifies (ownerKey r) (Config.sha3 (signedPart r)) r.sig
    else f.owner.any fun o => Config.verifies (ownerKey o) (Config.sha3 (signedPart r)) r.sig

/-- OWNER_KEY_ENROLMENT: with the jumper closed a good Owner record is accepted and a new nonce drawn; any other is refused (14 R356). Which Peers
and Deck records rule may change with it (R353). -/
def execOwnerKeyEnrolment (rec : FlashRecord) (s : State) : Host.Outcome State Fault Refusal :=
  .next (if s.accepts && s.fw.jumper && s.fw.ownerOk rec then
      ({ s with free := s.free + 1 }.withRecords
        { s.fw with records := s.fw.records ++ [rec], nonce := BitVec.ofNat 512 (Config.freeNat s.free) }).keepArea
    else s)

/-- A record of type 1, 3 or 4 that the host brings: accepted where it is signed as R353 asks, else refused; owner records go the way of R356. A Peers
record that comes to rule sets up the connections anew, a Deck record the copies of the state area (R359, R361). -/
def State.bringRecord (s : State) (r : FlashRecord) : State :=
  if s.accepts && r.typ != 2 && s.fw.accepts r then
    (s.withRecords { s.fw with records := s.fw.records ++ [r] }).keepArea
  else s

/-! ### Attestation (14 R357) -/

/-- The helper data of the Identity record (14 R353, R357). -/
def Firmware.helper (f : Firmware) : List Byte := ((f.record 4).map (·.payload)).getD []

/-- A digest as bytes. -/
def digestBytes (d : BitVec 512) : List Byte := leBytes 64 d.toNat

/-- The records in use: of each type, the one that rules (14 R353). -/
def Firmware.inUse (f : Firmware) : List FlashRecord := [f.record 1, f.owner, f.record 3, f.record 4].filterMap id

/-- The parts of an attestation report before its signature (14 R357). -/
def State.attested (s : State) (nonce : BitVec 512) : List Byte :=
  digestBytes nonce ++ digestBytes (Config.identityDigest (s.sites[siteS]).chip s.fw.helper) ++ digestBytes Config.romDigest ++ digestBytes (Config.sha3 s.fw.flash) ++
    (s.fw.inUse.flatMap fun r => digestBytes (Config.sha3 (signedPart r))) ++
    s.sites.toList.flatMap fun x => leBytes 1 x.typ.toNat ++ leBytes 2 x.epoch.toNat ++ digestBytes x.leaf

/-- ATTESTATION_REPORT: the report that answers a nonce, signed by the identity key (14 R357). -/
def execAttestationReport (nonce : BitVec 512) (s : State) : Host.Outcome State Fault Refusal :=
  .next (if s.accepts then
      let b := s.attested nonce
      { s with fw := { s.fw with report := b ++ Config.identitySign (s.sites[siteS]).chip s.fw.helper (Config.sha3 b) } }
    else s)

/-! ### Command links (14 R355) -/

/-- A direction of a command link: 0 toward the module, 1 toward the stage manager. -/
def dirOf (up : Bool) : Fin 2 := if up then 1 else 0

/-- Whether the service module is there on its command links: up, its firmware running. -/
def State.serviceThere (s : State) : Bool := (s.sites[siteS]).state.up && !s.pastLoss siteS && decide (s.fw.mode = .running)

/-- COMMAND_LINK_MESSAGE: a message takes a permit, or waits for one; a receiver that is there acts on every message and returns its
permit (14 R355, log 26). -/
def execCommandLinkMessage (site : SiteId) (up : Bool) (s : State) : Host.Outcome State Fault Refusal :=
  .next (
    let d := dirOf up
    let x := s.sites[site]
    let module_ := x.state.powered && !x.mute
    if !(if up then module_ else s.serviceThere) then s
    else if if up then s.serviceThere else module_ then
      s.setSite site fun x => { x with permits := x.permits.set d 16, permitSince := x.permitSince.set d none, waitingMsgs := x.waitingMsgs.set d 0 }
    else if 0 < x.permits[d] then s.setSite site fun x => { x with permits := x.permits.set d (x.permits[d] - 1) }
    else s.setSite site fun x => { x with
      waitingMsgs := x.waitingMsgs.set d (x.waitingMsgs[d] + 1)
      permitSince := x.permitSince.set d ((x.permitSince[d]).orElse fun _ => some s.cue) })

/-- COMMAND_LINK_PERMIT_TIMEOUT: no permit returned for 2^20 cycles while messages wait: keep-alive silence of the module that should return them, the
service module's on the way up, which must be up and no longer in its restart; the restart changes no site state (14 R355, R358; 13 R327). -/
def execCommandLinkPermitTimeout (site : SiteId) (up : Bool) (s : State) : Host.Outcome State Fault Refusal :=
  .next (
    let x := s.sites[site]
    let n := if up then siteS else site
    let there := if up then (s.sites[n]).state.up && !s.fw.mode.restarts else (s.sites[n]).state.powered
    if there && !s.losing n 3 && decide (0 < x.waitingMsgs[dirOf up]) &&
        (x.permitSince[dirOf up]).any (fun c => decide (c + 2 ^ 20 ≤ s.cue)) then
      s.silent n
    else s)

end Sys2Proof.Machine
end

