-- ==== Sys2Proof/Machine/HostPort.lean ====
section
/-! DEFINITION. The host and the network: CXL.mem (10 R267, R269, R277; 14 R360), writes of the host window and of BAR2 (14 R340, R341; 15
R369, R370), RDMA writes (14 R361). -/
namespace Sys2Proof.Machine

/-! ### CXL.mem (10 R267, R269, R280; 11 R300; 13 R332) -/

/-- Whether an access on a port lies in the window of one of its committed decoders; the device claims no other (14 R360, log 45). -/
def State.decoded (s : State) (port : Fin 4) (a n : Nat) : Bool :=
  s.hdm.any fun h => h.port == port && decide (h.base ≤ a) && decide (a + n ≤ h.base + h.size)

/-- HOST_CXL_READ: memory at acceptance; zero with the poison indication from a hole; poisoned blocks give the indication; fresh blocks
are marked for the host. -/
def execHostCxlRead (at_ : PortAddr) (n : Nat) (s : State) : Host.Outcome State Fault Refusal :=
  .next (if !s.accepts || !s.decoded at_.port at_.addr.toNat n then s
    else
      let a := at_.addr.toNat
      let bs := (List.range n).map fun i => if s.hole (a + i) then 0 else memGet s.mem (a + i)
      let bad := s.poisoned a n || (List.range n).any fun i => s.hole (a + i)
      { s.freshRead none 0xffff a n with hostRead := some ⟨bs, bad⟩ })

/-- HOST_CXL_WRITE: placed and visible at acceptance; the bytes for a hole are discarded. -/
def execHostCxlWrite (at_ : PortAddr) (bytes : List (BitVec 8)) (s : State) : Host.Outcome State Fault Refusal :=
  .next (if s.accepts && s.decoded at_.port at_.addr.toNat bytes.length then s.placeWrite .host (cellsAt at_.addr.toNat bytes) else s)

/-- The granule of an HDM decoder (14 R360). -/
def hdmGranule : Nat := 0x10000000

/-- HDM_DECODER_COMMIT: a window of whole granules within one site's populated range; another fails and changes nothing (14 R360). -/
def execHdmDecoderCommit (port : Fin 4) (dec : Fin 4) (base : BitVec 48) (size : BitVec 48) (s : State) : Host.Outcome State Fault Refusal :=
  .next (if s.accepts && size.toNat != 0 && base.toNat % hdmGranule == 0 && size.toNat % hdmGranule == 0 && populatedRange base.toNat size.toNat then
      { s with hdm := (s.hdm.filter fun h => !(h.port == port && h.dec == dec)) ++ [⟨port, dec, base.toNat, size.toNat⟩] }
    else s)

/-! ### The host window (14 R340) -/

/-- MAILBOX_FULL_CLEAR: each bit written 1 empties its word, a take without a result (14 R339, R340). -/
def execMailboxFullClear (i : Fin 64) (mask : BitVec 64) (s : State) : Host.Outcome State Fault Refusal :=
  .next (if s.accepts then
      (List.range 64).foldl (fun s b =>
        let w := 64 * i.val + b
        if mask.getLsbD b && (s.mb w).full then s.mbSet w ⟨(s.mb w).v, false⟩ else s) s
    else s)

/-- LOGDROP_CLEAR: bits written 1 are cleared (14 R340). -/
def execLogdropClear (v : BitVec 64) (s : State) : Host.Outcome State Fault Refusal :=
  .next (if s.accepts then { s with logDrop := s.logDrop &&& ~~~v } else s)

/-- A write of a word of a queue's register block that has no event of its own (14 R341). -/
def Queue.write (x : Queue) (k : Nat) (v : W64) : Queue :=
  match k with
  | 0 => if x.enable then x else { x with qbase := v &&& ~~~0x3f }
  | 1 =>
    let n := bits v 4 0
    { x with
      log2n := if x.enable then x.log2n else if 4 ≤ n ∧ n ≤ 16 then n else 4
      enable := bit v 7 }
  | _ => x

/-- Commands of a queue (14 R341). -/
def qcmd (q : Fin 64) (n : Nat) (s : State) : Host.Outcome State Fault Refusal :=
  match n with
  | 1 => execQcmdResume q s
  | 2 => execQcmdSkip q s
  | 3 => execQcmdReset q s
  | _ => .next s

/-- The index of a field of n values. -/
def fin64 (n : Nat) : Fin 64 := ⟨n % 64, Nat.mod_lt _ (by decide)⟩

/-- A write of the host window; an offset not listed is ignored (14 R340). -/
def writeBar0 (off : Nat) (v : W64) (s : State) : Host.Outcome State Fault Refusal :=
  if off < 0x200 then execDoorbell (fin64 (off / 8)) (v.setWidth 32) s
  else if 0x1000 ≤ off ∧ off < 0x2000 then
    let q := fin64 ((off - 0x1000) / 64)
    let k := off % 64 / 8
    if k = 5 then qcmd q (bits v 3 0) s
    else .next (if s.accepts then s.onQueue q fun x => x.write k v else s)
  else if off = 0x2008 then .next (if s.accepts then { s with logTail := v } else s)
  else if off = 0x2010 then execLogdropClear v s
  else if off = 0x2028 then execPfack (v.setWidth 32) s
  else if 0x28000 ≤ off ∧ off < 0x28200 then execMailboxFullClear (fin64 ((off - 0x28000) / 8)) v s
  else .next s

/-! ### BAR2 (15 R369, R370; 13 R325) -/

/-- A command written in a site's status word (13 R325). -/
def siteCmd (n : SiteId) (c : Nat) (s : State) : Host.Outcome State Fault Refusal :=
  match c with
  | 0 => .next s
  | 1 => execCmdPower n s
  | 2 => execCmdDrain n s
  | 3 => execCmdUndrain n s
  | 4 => execCmdReset n s
  | _ => .next (s.cmdRefused n)

/-- A write of a site's status word: FRESHRD and CMDERR cleared, AUTO set, then the command (13 R325). -/
def writeSite (n : SiteId) (v : W64) (s : State) : Host.Outcome State Fault Refusal :=
  if !s.accepts then .next s
  else
    let s := s.setSite n fun x => { x with
      freshRd := x.freshRd && !bit v 17
      cmdErr := x.cmdErr && !bit v 15
      auto := bit v 16 }
    siteCmd n (bits v 11 8) (s.afterSeated n)

/-- A count replaced by a write; a record where it passes a multiple of 4,096 (11 R302). -/
def passes (old new : BitVec 16) : Bool := decide (old.toNat / 4096 < new.toNat / 4096)

/-- Unit codes of the fields of a module's counter word, XLATE first, and of a region's, SHADOW first (11 R299, R302). -/
def modUnits : Vector Nat 4 := #v[0x0c, 0x0b, 0x08, 0x09]
def regUnits : Vector Nat 4 := #v[0x07, 0x06, 0x02, 0x01]

/-- Field j of a counter word. -/
def countField (v : W64) (j : Fin 4) : BitVec 16 := v.extractLsb' (16 * j.val) 16

/-- A module's counter word written (11 R302). -/
def State.writeModCounts (s : State) (n : SiteId) (v : W64) : State :=
  (List.finRange 4).foldl (fun (s : State) (j : Fin 4) =>
    let old := (s.sites[n]).modCounts[j]
    (s.setSite n fun x => { x with modCounts := x.modCounts.set j (countField v j) }).crossing4 (passes old (countField v j)) n 0 modUnits[j]) s

/-- A region's counter word written (11 R302). -/
def State.writeRegCounts (s : State) (n : SiteId) (q : Fin 4) (v : W64) : State :=
  (List.finRange 4).foldl (fun (s : State) (j : Fin 4) =>
    let old := ((s.sites[n]).regions[q]).counts[j]
    (s.setRegion n q fun r => { r with counts := r.counts.set j (countField v j) }).crossing4 (passes old (countField v j)) n q regUnits[j]) s

/-- A site by number, the last for any past it. -/
def siteNo (n : Nat) : SiteId := ⟨min n 16, by omega⟩

/-- A write of a compute module's block or a memory module's words (15 R369, R370). -/
def writeBlock (n : SiteId) (off : Nat) (v : W64) (s : State) : Host.Outcome State Fault Refusal :=
  if off = 0 then execReefminWrite n (v.extractLsb' 32 2) s
  else if off = 8 then .next (if s.accepts then s.writeModCounts n v else s)
  else if 0x10 ≤ off ∧ off < 0x30 ∧ isCompute n then
    .next (if s.accepts then s.writeRegCounts n ⟨(off - 0x10) / 8 % 4, Nat.mod_lt _ (by decide)⟩ v else s)
  else .next s

/-- A write of BAR2; an offset not listed is ignored (15 R369). -/
def writeBar2 (off : Nat) (v : W64) (s : State) : Host.Outcome State Fault Refusal :=
  if 0x100 ≤ off ∧ off < 0x188 then writeSite (siteNo ((off - 0x100) / 8)) v s
  else if off = 0x348 then .next (s.startUpdate v)
  else if 0x10000 ≤ off ∧ off < 0x90000 then writeBlock (siteNo ((off - 0x10000) / 0x10000)) (off % 0x10000) v s
  else if 0x90000 ≤ off ∧ off < 0x98000 then writeBlock (siteNo (8 + (off - 0x90000) / 0x1000)) (off % 0x1000) v s
  else if 0x1000000 ≤ off then
    .next (if s.accepts then { s with fw := { s.fw with window := memPutAll s.fw.window (cellsAt (off - 0x1000000) (leBytes 8 v.toNat)) } } else s)
  else .next s

/-- REGISTER_WRITE: eight bytes at an aligned offset of the host window or of BAR2. The recovery image serves a window of its own on
port 0 alone: the length at 0x8, the image from 0x10 on (14 R340, R341, R354; 15 R369, R370; log 27). -/
def execRegisterWrite (bar : PortBar) (off : BitVec 25) (v : BitVec 64) (s : State) : Host.Outcome State Fault Refusal :=
  let o := off.toNat
  if o % 8 ≠ 0 then .next s
  else if s.fw.mode = .recovery then
    if !s.recovers ∨ bar.port ≠ 0 ∨ bar.bar2 ∨ 0x100000 ≤ o then .next s
    else if o = 8 then execRecoveryImageWrite v s
    else if o < 0x10 then .next s
    else .next { s with fw := { s.fw with window := memPutAll s.fw.window (cellsAt (o - 0x10) (leBytes 8 v.toNat)) } }
  else if bar.bar2 then writeBar2 o v s
  else if o < 0x100000 then writeBar0 o v s
  else .next s

/-! ### The network (14 R361) -/

/-- The puts that immediates bring and whose words are empty, in order of arrival (14 R339, R347; log 67). -/
def State.landPuts (s : State) : State :=
  if !s.serviceUp then s
  else s.netPuts.foldl (fun (s : State) p =>
    if (s.mb p.1).full then { s with netPuts := s.netPuts ++ [p] } else s.mbSet p.1 ⟨p.2, true⟩) { s with netPuts := [] }

/-- A connection ends: the copies that use it complete with STATUS 0x20 (14 R361). -/
def State.dropPeer (s : State) (p : Fin 16) : State :=
  let mine := s.ops.filter fun o => match o.kind with
    | .copy _ dst _ _ _ => aperOf dst == 2 && peerOf dst == p.val
    | _ => false
  mine.foldl (fun s o => s.opDone o.id (statusWord 0x20)) { s with peers := s.peers.set p { s.peers[p] with up := false } }

/-- NETWORK_WRITE_RECEIVED: a write within the peer's range is placed; its immediate puts a value in a mailbox word, as soon as that is empty (14
R339, log 67). A write outside it is not placed and ends the connection (14 R347, R361). -/
def execNetworkWriteReceived (peer : Fin 16) (addr : BitVec 48) (bytes : List (BitVec 8)) (imm : Option (BitVec 32)) (s : State) :
    Host.Outcome State Fault Refusal :=
  .next (
    let p := s.peers[peer]
    if !s.accepts || !p.up then s
    else if addr.toNat < p.base || p.base + p.len < addr.toNat + bytes.length then s.dropPeer peer
    else
      let s := s.placeWrite .host (cellsAt addr.toNat bytes)
      match imm with
      | some x => { s with netPuts := s.netPuts ++ [(x.toNat / 2 ^ 20, (x.extractLsb' 0 20).setWidth 64)] }.landPuts
      | none => s)

/-- CONGESTION_NOTIFICATION: the sender halves its rate (14 R361). -/
def execCongestionNotification (peer : Fin 16) (s : State) : Host.Outcome State Fault Refusal :=
  .next (if s.accepts && (s.peers[peer]).up then
      { s with peers := s.peers.set peer { s.peers[peer] with halvings := (s.peers[peer]).halvings + 1 } }
    else s)

end Sys2Proof.Machine
end

