-- ==== Sys2Proof/Machine/Events.lean ====
section
/-! DEFINITION. The event at the head of the agenda done: one arm per event, each one call of that step's meaning. Sys2Proof.Laws.Events
shows each equal to exec of the event. -/
namespace Sys2Proof.Machine

/-- An event done (95). -/
def Event.run (e : Event) (s : State) : Host.Outcome State Fault Refusal :=
  match e with
  | .sequencerIssue k => execSequencerIssue k s
  | .resultLanding k => execResultLanding k s
  | .waitcueTargetReached k => execWaitcueTargetReached k s
  | .waitrelExpiry k => execWaitrelExpiry k s
  | .waiteWake k => execWaiteWake k s
  | .waiteDeadline k => execWaiteDeadline k s
  | .waitownWake k => execWaitownWake k s
  | .waitownDeadline k => execWaitownDeadline k s
  | .localLimitDeadline k => execLocalLimitDeadline k s
  | .missingMarkRb k => execMissingMarkRb k s
  | .signalArrival k => execSignalArrival k s
  | .hopBeatLanding k => execHopBeatLanding k s
  | .crossingBeatArrival k => execCrossingBeatArrival k s
  | .crossingWordLost k side ch => execCrossingWordLost k side ch s
  | .gatedWriteRelease co => execGatedWriteRelease co s
  | .flyMemoryPoint k => execFlyMemoryPoint k s
  | .flyCompletion k => execFlyCompletion k s
  | .wheelMemoryPoint k => execWheelMemoryPoint k s
  | .wheelResult k => execWheelResult k s
  | .acopyLoadCompletion k => execAcopyLoadCompletion k s
  | .acopyStoreCompletion k => execAcopyStoreCompletion k s
  | .acopyPageFault k store => execAcopyPageFault k store s
  | .qmarkCompletion k => execQmarkCompletion k s
  | .tileCopyStart k => execTileCopyStart k s
  | .tileCopyCompletion k => execTileCopyCompletion k s
  | .mailboxPutPerformed k => execMailboxPutPerformed k s
  | .mailboxGetPerformed k => execMailboxGetPerformed k s
  | .chorusMemberCompletion k b => execChorusMemberCompletion k b s
  | .chorusStaleCompletion k => execChorusStaleCompletion k s
  | .chorusTimeout k b => execChorusTimeout k b s
  | .barCompletion k b => execBarCompletion k b s
  | .combineCompletion k => execCombineCompletion k s
  | .ringBoundary co => execRingBoundary co s
  | .overlayFetchCompletion k => execOverlayFetchCompletion k s
  | .holdAnnouncement co h => execHoldAnnouncement co h s
  | .holdBegin co => execHoldBegin co s
  | .holdEnd co => execHoldEnd co s
  | .companyStart co => execCompanyStart co s
  | .launchEnd co => execLaunchEnd co s
  | .launchFaultEnd co => execLaunchFaultEnd co s
  | .uncorrectableError w => execUncorrectableError w s
  | .rollbackRestart co => execRollbackRestart co s
  | .correctedError w => execCorrectedError w s
  | .scrub site => execScrub site s
  | .freezeAnnouncement co cue => execFreezeAnnouncement co cue s
  | .freeze co => execFreeze co s
  | .freezeSaveComplete co => execFreezeSaveComplete co s
  | .instructionMemoryRewrite co => execInstructionMemoryRewrite co s
  | .resume co => execResume co s
  | .placementPass => execPlacementPass s
  | .pfack i => execPfack i s
  | .pageFaultUnresolvable i => execPageFaultUnresolvable i s
  | .pageMigration co seg va frame => execPageMigration co seg va frame s
  | .hostCxlRead at_ n => execHostCxlRead at_ n s
  | .hostCxlWrite at_ bytes => execHostCxlWrite at_ bytes s
  | .hdmDecoderCommit port dec base size => execHdmDecoderCommit port dec base size s
  | .periodicTrim site q => execPeriodicTrim site q s
  | .trimExchange site q t1 t2 t4 => execTrimExchange site q t1 t2 t4 s
  | .ofsMeasurement k side t1 t2 t4 => execOfsMeasurement k side t1 t2 t4 s
  | .circuitTeardown i => execCircuitTeardown i s
  | .circuitSetup i route => execCircuitSetup i route s
  | .linkCrcFailure link second => execLinkCrcFailure link second s
  | .islandRegulatorFailure site q i => execIslandRegulatorFailure site q i s
  | .regionRailFailure site q => execRegionRailFailure site q s
  | .busLow => execBusLow s
  | .busCollapse => execBusCollapse s
  | .powerStageTrip site => execPowerStageTrip site s
  | .presenceClampClosed site => execPresenceClampClosed site s
  | .presenceOpen site => execPresenceOpen site s
  | .clampOpen site => execClampOpen site s
  | .powerGood site => execPowerGood site s
  | .phaseTimeLimit site => execPhaseTimeLimit site s
  | .selfTest site o => execSelfTest site o s
  | .admission site o => execAdmission site o s
  | .siteTransitionEffect => execSiteTransitionEffect s
  | .keepAliveSend site => execKeepAliveSend site s
  | .keepAliveSilence site => execKeepAliveSilence site s
  | .cmdPower site => execCmdPower site s
  | .cmdDrain site => execCmdDrain site s
  | .cmdUndrain site => execCmdUndrain site s
  | .cmdReset site => execCmdReset site s
  | .siteRequestButton site => execSiteRequestButton site s
  | .freshrdClear site => execFreshrdClear site s
  | .rejoinGangStart co g => execRejoinGangStart co g s
  | .doorbell q v => execDoorbell q v s
  | .qcmdResume q => execQcmdResume q s
  | .qcmdSkip q => execQcmdSkip q s
  | .qcmdReset q => execQcmdReset q s
  | .queueVisit => execQueueVisit s
  | .packetUnblock q => execPacketUnblock q s
  | .packetNop q => execPacketNop q s
  | .launch q => execLaunch q s
  | .copy q => execCopy q s
  | .copyCompletion id => execCopyCompletion id s
  | .weightload q => execWeightload q s
  | .weightloadApply co => execWeightloadApply co s
  | .putmb q => execPutmb q s
  | .waitmb q => execWaitmb q s
  | .unloadCode q => execUnloadCode q s
  | .unloadData q => execUnloadData q s
  | .unloadLaunch q => execUnloadLaunch q s
  | .unloadCompletion id => execUnloadCompletion id s
  | .indirect q => execIndirect q s
  | .fence q => execFence q s
  | .rejoin q => execRejoin q s
  | .rejoinWithdraw q => execRejoinWithdraw q s
  | .mailboxFullClear i mask => execMailboxFullClear i mask s
  | .logdropClear v => execLogdropClear v s
  | .deckColdStart strap => execDeckColdStart strap s
  | .recoveryImageWrite len => execRecoveryImageWrite len s
  | .firmwareUpdate len => execFirmwareUpdate len s
  | .firmwareRestart => execFirmwareRestart s
  | .ownerKeyEnrolment rec => execOwnerKeyEnrolment rec s
  | .attestationReport nonce => execAttestationReport nonce s
  | .commandLinkMessage site up => execCommandLinkMessage site up s
  | .commandLinkPermitTimeout site up => execCommandLinkPermitTimeout site up s
  | .networkWriteReceived peer addr bytes imm => execNetworkWriteReceived peer addr bytes imm s
  | .congestionNotification peer => execCongestionNotification peer s
  | .retransmissionLimit id => execRetransmissionLimit id s
  | .sensorRead site q i temp => execSensorRead site q i temp s
  | .reefTargetRaise site => execReefTargetRaise site s
  | .reefTargetLower site => execReefTargetLower site s
  | .thermalTrip site => execThermalTrip site s
  | .reefLevelChange co => execReefLevelChange co s
  | .reefminWrite site v => execReefminWrite site v s
  | .islandWake site q i => execIslandWake site q i s
  | .registerWrite bar off v => execRegisterWrite bar off v s
  | .fatalModuleError site => execFatalModuleError site s
  | .presenceOpenFor222Cycles site => execPresenceOpenFor222Cycles site s
  | .overlayFetchTranslationFault k => execOverlayFetchTranslationFault k s
  | .linkReturnToService link => execLinkReturnToService link s

end Sys2Proof.Machine
end

