-- ==== Sys2Proof/Machine/Sched.lean ====
section
/-! DEFINITION. When each event is done (log 3): the parts of a deck cycle in order, the events each part files, what comes from outside
(log 4), the passage of the cues (00 R11, 01 R36, 15 R362). -/
namespace Sys2Proof.Machine

/-! ### What comes from outside (log 4) -/

/-- The part of a cycle in which an event from outside, or one whose time is open, is done; none for one that only the schedule
raises. What engines complete comes before the cycle's issue, which sees the flags it sets (01 R13), and a mailbox get before the wheel's
results (01 R14); what the host and the network place comes last (10 R269). -/
def Event.part : Event → Option Phase
  | .sequencerIssue _ | .resultLanding _ | .waitcueTargetReached _ | .waitrelExpiry _ | .waiteWake _ | .waiteDeadline _ | .waitownWake _
  | .waitownDeadline _ | .localLimitDeadline _ | .missingMarkRb _ | .signalArrival _ | .hopBeatLanding _ | .crossingBeatArrival _
  | .flyMemoryPoint _ | .flyCompletion _ | .wheelMemoryPoint _ | .wheelResult _ | .tileCopyStart _ | .tileCopyCompletion _
  | .chorusStaleCompletion _ | .chorusTimeout .. | .ringBoundary _ | .holdAnnouncement .. | .holdBegin _ | .holdEnd _ | .companyStart _
  | .launchEnd _ | .launchFaultEnd _ | .rollbackRestart _ | .freeze _ | .pageFaultUnresolvable _ | .periodicTrim .. | .circuitTeardown _
  | .phaseTimeLimit _ | .siteTransitionEffect | .keepAliveSend _ | .keepAliveSilence _ | .rejoinGangStart .. | .packetNop _ | .launch _
  | .copy _ | .weightload _ | .putmb _ | .waitmb _ | .unloadCode _ | .unloadData _ | .unloadLaunch _ | .indirect _ | .fence _ | .rejoin _
  | .rejoinWithdraw _ | .commandLinkPermitTimeout .. | .reefTargetRaise _ | .reefTargetLower _ | .reefLevelChange _ => none
  | .crossingWordLost .. | .gatedWriteRelease _ | .acopyLoadCompletion _ | .acopyStoreCompletion _ | .acopyPageFault .. | .qmarkCompletion _
  | .mailboxPutPerformed _ | .chorusMemberCompletion .. | .barCompletion .. | .combineCompletion _
  | .overlayFetchCompletion _ | .overlayFetchTranslationFault _ => some .land
  | .hostCxlRead .. | .hostCxlWrite .. | .copyCompletion _ | .networkWriteReceived .. => some .sample
  | _ => some .deck

/-- The part of a cycle in which a happening takes place; what the copy engine writes comes with the host's writes (14 R347, 10 R269). -/
def Stim.part : Stim → Option Phase
  | .event e => e.part
  | .copyBlock .. => some .sample
  | _ => some .deck

/-- What happens to a deck that stands still: its bus, its contacts, its host and its coolant go on (13 R321). -/
def Stim.whileStopped : Stim → Bool
  | .contacts .. | .bus .. | .jumper _ | .hostBytes .. | .outlet _ | .inlet _ => true
  | _ => false

/-- The company of the tile or company an event names. -/
def Event.company : Event → Option Nat
  | .crossingWordLost k .. | .acopyLoadCompletion k | .acopyStoreCompletion k | .acopyPageFault k _ | .qmarkCompletion k
  | .mailboxPutPerformed k | .mailboxGetPerformed k | .chorusMemberCompletion k _ | .barCompletion k _ | .combineCompletion k
  | .overlayFetchCompletion k | .overlayFetchTranslationFault k => some k.co
  | .gatedWriteRelease co => some co
  | _ => none

/-- The bus measured (13 R321, 15 R363). -/
def State.measureBus (s : State) (watts cv : BitVec 16) : State :=
  computeSites.foldl State.sense { s with
    busCv := cv
    deckWatts := watts
    busLowSince := holdSince (decide (cv.toNat < 4800)) s.busLowSince s.cue
    deckHotSince := holdSince (decide (32000 < watts.toNat)) s.deckHotSince s.cue }

/-- The coolant outlet measured: above 60 °C every target rises (15 R366). -/
def State.measureOutlet (s : State) (t : BitVec 8) : State :=
  let was := s.outlet
  let s := { s with outlet := t }
  if s.serviceUp && decide (60 < t.toNat) && decide (was.toNat ≤ 60) then s.raiseAll else s

/-- A happening that is no event of 95 (log 4). -/
def State.happen (s : State) : Stim → State
  | .event _ => s
  | .acopyRead k id places => s.acopyRead k id places
  | .linkOfs n p t1 t2 t4 => s.measureLink n p t1 t2 t4
  | .contacts n present clamp typ =>
    let chip := Config.freeNat s.free
    { s with free := s.free + 1 }.setSite n fun x => x.closeContacts present clamp typ chip (s.cardOf chip) s.cue
  | .copyBlock id b => s.copyBlock id b
  | .record r => s.bringRecord r
  | .inlet t => { s with inlet := t }
  | .mute n m => s.setSite n fun x => { x with mute := m || (x.mute && x.state.powered) }
  | .hostBytes port bytes => s.hostPut port bytes
  | .power n watts => (s.setSite n fun x => { x with pwr := watts }).sense n
  | .current n a => s.setSite n fun x => { x with amps := a, overSince := holdSince (x.stage && decide (tripLevel n < a.toNat)) x.overSince s.cue }
  | .bus watts cv => s.measureBus watts cv
  | .outlet t => s.measureOutlet t
  | .jumper b => { s with fw := { s.fw with jumper := b } }

/-- The events among happenings. -/
def eventsOf (l : List (Nat × Stim)) : List Event :=
  l.filterMap fun x => match x.2 with
    | .event e => some e
    | _ => none

/-- Whether an input is taken now, in a part of the cycle; one that only the schedule raises is taken, and dropped, in the deck's part. A
stopped deck takes a cold start alone (13 R321). -/
def State.takes (s : State) (p : Phase) (x : Nat × Stim) : Bool :=
  decide (x.1 ≤ s.cue) && decide (x.2.part.getD .deck = p)

/-- The events an input brings in a part. -/
def State.broughtIn (s : State) (p : Phase) : List Event := eventsOf (s.inputs.filter fun x => s.takes p x && x.2.part.isSome)

/-- The inputs left. -/
def State.spent (s : State) (p : Phase) : State := { s with inputs := s.inputs.filter fun x => !s.takes p x }

/-! ### Before the tiles: the deck, the sites, the companies -/

/-- Whether a cue recorded has come. -/
def came (c : Option Nat) (more cue : Nat) : Bool := c.any fun x => decide (x + more ≤ cue)

/-- An event where a condition holds. -/
def when (b : Bool) (e : Event) : List Event := if b then [e] else []

/-- Events of a site (13 R322, R326, R327; 14 R355; 15 R363). -/
def State.siteEvents (s : State) (n : SiteId) : List Event :=
  let x := s.sites[n]
  when (x.state.powered && s.counter n 0 % 4096 == 0) (.keepAliveSend n) ++
  when (x.state.powered && decide (x.keepAlive + 256000 ≤ s.cue)) (.keepAliveSilence n) ++
  when ((phaseLimit x.state).any fun p => decide (x.phaseSince + p.1 ≤ s.cue)) (.phaseTimeLimit n) ++
  when (x.stage && (came x.overSince 8000 s.cue || came x.openAt 0 s.cue)) (.powerStageTrip n) ++
  when (x.state == .empty && came x.closedSince (2 ^ 22) s.cue) (.presenceClampClosed n) ++
  when ((x.state == .lost || x.state == .faulted) && came x.openSince (2 ^ 22) s.cue) (.presenceOpenFor222Cycles n) ++
  when (came (x.permitSince[(0 : Fin 2)]) (2 ^ 20) s.cue) (.commandLinkPermitTimeout n false) ++
  when (came (x.permitSince[(1 : Fin 2)]) (2 ^ 20) s.cue) (.commandLinkPermitTimeout n true) ++
  when (x.stage && x.state.powered && (isCompute n && decide (110 ≤ x.tmax.toNat) || came x.tripSince (2 ^ 24) s.cue)) (.thermalTrip n) ++
  when (came x.hotNext 0 s.cue || came x.warmNext 0 s.cue) (.reefTargetRaise n) ++
  when (came x.coolSince (2 ^ 26) s.cue) (.reefTargetLower n) ++
  when (x.state.up && decide (n ≠ siteS) && decide (0 < s.cue) && s.cue % 2 ^ 36 == 0) (.scrub n)

/-- The islands of a company's tiles still to be woken, of all or of the gangs that come back (15 R365, 13 R334). -/
def State.sleepers (s : State) (c : Company) (all : Bool) : List Event :=
  ((s.tilesOf c.num).filter fun t => (if t.lost then s.returning c t.key.gang else all) && (((s.sites[t.site]).regions[t.region]).islands[s.islandOf t]).woken.isNone).map
    (fun t => (.islandWake t.site t.region (s.islandOf t) : Event)) |>.eraseDups

/-- Events of a company before its tiles (09 R235, R242 to R246, R250 to R255; 11 R298; 13 R334; 14 R348; 15 R364). -/
def State.companyEvents (s : State) (c : Company) : List Event :=
  let co := c.num
  when (c.fatal.any fun f => decide (f.since + 257 ≤ s.cue)) (.launchFaultEnd co) ++
  (match c.mode with
  | .loading _ => s.sleepers c true ++ when (!c.info.loads.isEmpty && s.awake co 0) (.weightloadApply co) ++ [.companyStart co]
  | .rolling at_ => when (at_.all fun x => decide (x ≤ s.cue)) (.rollbackRestart co)
  | .resuming false _ => s.sleepers c true ++ when (s.resumable c) (.instructionMemoryRewrite co)
  | .resuming true _ => [.resume co]
  | .frozen false since => when (decide (since + freezeBound ≤ s.cue)) (.freezeSaveComplete co)
  | .frozen true _ => []
  | .held _ => s.sleepers c false ++ when (came c.freezeAt 0 c.cue) (.freeze co) ++ [.reefLevelChange co, .holdEnd co]
  | .running =>
    s.sleepers c false ++
    when (came c.freezeAt 0 c.cue) (.freeze co) ++
    when (decide (c.wanted ≠ c.level)) (.reefLevelChange co) ++
    when (decide (c.wanted ≠ c.level) || (s.tilesOf co).any fun t => t.st.ovl.isSome) (.holdAnnouncement co (c.cue + Config.holdLead)) ++
    when (c.holds.any fun x => decide (x.at_ ≤ c.cue)) (.holdBegin co)) ++
  (c.gangs.filter Gang.detached).map fun g => .rejoinGangStart co (Fin.ofNat 8 g.idx)

/-- A list of companies by number (10 R269). -/
def byNumber (l : List Company) : List Company := sortBy (fun a b => decide (a.num < b.num)) l

/-- What the deck's part files. -/
def State.deckEvents (s : State) : List Event :=
  when (!s.changes.isEmpty || s.decisions.any fun d => decide (d.effect ≤ s.firstCue)) .siteTransitionEffect ++
  when (decide (s.busCv.toNat < 4500)) .busCollapse ++
  when (came s.busLowSince 4096 s.cue) .busLow ++
  when (came s.deckHotSince (2 ^ 16) s.cue) (.reefTargetRaise 0) ++
  (List.finRange 17).flatMap s.siteEvents ++
  ((s.counters.filter fun x => s.counter x.1 x.2 % 2 ^ 22 == 0).map fun x => .periodicTrim x.1 x.2) ++
  (s.counters.filterMap fun x => s.dueExchange x.1 x.2) ++
  ((List.range s.circuits.length).filter fun i => s.circuits[i]?.any fun c => c.up && !s.circuitStands c).map (.circuitTeardown ·) ++
  ((List.finRange 64).filter fun q => came (s.queues[q]).freed 2048 s.cue).map (.packetUnblock ·) ++
  ((s.pfReqs.filter fun r => r.live && decide (r.first + 2 ^ 26 ≤ s.cue)).map fun r => .pageFaultUnresolvable r.idx) ++
  when (match s.fw.mode with
    | .restarting since => decide (since + 2 ^ 28 ≤ s.cue)
    | _ => false) .firmwareRestart ++
  (byNumber s.companies).flatMap s.companyEvents

/-! ### The tiles -/

/-- Companies that carry a cycle now, by number. -/
def State.carrying (s : State) : List Company := byNumber (s.companies.filter fun c => c.carries s.cue)

/-- The tiles of the companies that carry a cycle now, the lost ones with them. -/
def State.carried (s : State) : List Tile := s.carrying.flatMap fun c => s.tilesOf c.num

/-- The tiles of the companies that carry a cycle now. -/
def State.moving (s : State) : List Tile := s.carried.filter fun t => !t.lost

/-- What lands in a tile before the cycle's issue, and the waits that end (01 R13; 04 R103, R104, R109; 07 R196; 08 R210, R215).
A wheel result comes first: whatever lands with it in one latch was issued later (01 R14). Of a lost tile what its region's always-on rail
carries still lands (12 R317). -/
def Tile.landEvents (t : Tile) (cue : Nat) : List Event :=
  let k := t.key
  when (!t.lost && t.st.wheel.any fun c => decide (c.issued + c.w ≤ cue)) (.wheelResult k) ++
  when (!t.lost && t.st.flight.any fun f => decide (f.due ≤ cue)) (.resultLanding k) ++
  when (t.st.wires.any fun b => decide (b.sent < cue)) (.hopBeatLanding k) ++
  when (t.st.xwords.any fun x => decide (x.arrive ≤ cue)) (.crossingBeatArrival k) ++
  when (t.st.signals.any fun x => decide (x.1 ≤ cue)) (.signalArrival k) ++
  match t.st.wait with
  | .until c rel => when (!t.lost && decide (c ≤ cue)) (if rel then .waitrelExpiry k else .waitcueTargetReached k)
  | _ => []

/-- The current company cue of a tile. -/
def State.cueOf (s : State) (t : Tile) : Nat := ((s.coAt t.key.co).map (·.cue)).getD 0

/-- The engine work of a tile that completes before the cycle's issue (07 R194, R200, R204). -/
def Tile.engineEvents (t : Tile) (cue : Nat) : List Event :=
  let k := t.key
  when (!t.st.copyQ.isEmpty) (.tileCopyCompletion k) ++
  when (!t.st.copyQ.isEmpty) (.tileCopyStart k) ++
  when (t.st.chorus.any fun d => d.stale && decide (d.issued < cue)) (.chorusStaleCompletion k) ++
  ((t.st.chorus.filter fun d => !d.stale && decide (d.issued + 4096 * d.tmo ≤ cue)).map fun d => .chorusTimeout k d.bucket)

/-- Whether a release of a company's sealed writes must begin (09 R248), or an interval holds nothing more. -/
def Company.mustRelease (c : Company) : Bool :=
  match c.gateSealed with
  | i :: _ => i.writes.isEmpty || (!i.begun && decide (i.start + 512 ≤ c.cue))
  | [] => false

/-- What a company's engines do before the cycle's issue: completions, what was open and comes now, releases, the ring boundary (07 R198,
R200; 09 R248). -/
def State.engineEvents (s : State) (c : Company) : List Event :=
  let ts := if c.carries s.cue then (s.tilesOf c.num).filter fun t => !t.lost else []
  (ts.flatMap fun t => t.engineEvents c.cue) ++
  ((s.broughtIn .land).filter fun e => decide (e.company = some c.num)) ++
  when c.mustRelease (.gatedWriteRelease c.num) ++
  when (c.carries s.cue && (!c.leaves.isEmpty || !c.rounds.isEmpty || ts.any fun t => !t.st.ringReq.isEmpty)) (.ringBoundary c.num)

/-- What lands, words out of replay buffers first since they were sent first (08 R215, R219), then what the engines complete, by company number. -/
def State.landEvents (s : State) : List Event :=
  ((s.carried.filter fun t => t.st.replay.any fun x => decide (x.2.arrive ≤ s.cueOf t)).map fun t => .crossingBeatArrival t.key) ++
  (s.carried.flatMap fun t => t.landEvents (s.cueOf t)) ++ (byNumber s.companies).flatMap s.engineEvents

/-- The bundles that issue (04 R96). -/
def State.issueEvents (s : State) : List Event :=
  (s.moving.filter fun t => decide (t.st.wait = .none) && !t.st.halted).map fun t => .sequencerIssue t.key

/-- The memory sides that a tile's commands perform in this cycle, with their places (07 R185, R196). -/
def State.points (s : State) (c : Company) (t : Tile) : List (PointKey × Event) :=
  ((t.st.fly.filter fun x => x.due c.cue).map fun x => (x.key t.key, Event.flyMemoryPoint t.key)) ++
  ((t.st.wheel.filter fun x => s.wheelNow c t.key x).map fun x => (x.key t.key, Event.wheelMemoryPoint t.key))

/-- The work of a company's cycle after its issue: the memory sides of fly and wheel commands, one event for each, in their order (10 R284,
R285), the memory sides of a company that freezes in this cycle (07 R206), fly completions, missing boundaries. -/
def State.companyWork (s : State) (c : Company) : List Event :=
  let ts := if c.carries s.cue then (s.tilesOf c.num).filter fun t => !t.lost else []
  when (decide (c.mode = .frozen false s.cue)) (.freeze c.num) ++
  ((sortBy (fun a b => pointBefore a.1 b.1) (ts.flatMap fun t => s.points c t)).map (·.2)) ++
  (ts.flatMap fun t => when (!t.st.fly.isEmpty) (.flyCompletion t.key)) ++
  (if 0 < c.cue && boundaryAt c (c.cue - 1) then (ts.filter fun t => decide (t.st.marked ≠ some (c.cue - 1))).map fun t => .missingMarkRb t.key else [])

/-- The work after issue, by company number. -/
def State.workEvents (s : State) : List Event := (byNumber s.companies).flatMap s.companyWork

/-- The samples of a tile (04 R106, R107; 09 R241); the local limit goes before a budget (DESIGN CHOICE, log 94). -/
def Tile.sampleEvents (t : Tile) : List Event :=
  let k := t.key
  when t.st.localSince.isSome (.localLimitDeadline k) ++ match t.st.wait with
  | .event .. => [.waiteWake k, .waiteDeadline k]
  | .owner .. => [.waitownWake k, .waitownDeadline k]
  | _ => []

/-- Samples, then what the host and the network place (10 R269). -/
def State.sampleEvents (s : State) : List Event := s.moving.flatMap Tile.sampleEvents ++ s.broughtIn .sample

/-- Launches that may end (09 R260). -/
def State.closeEvents (s : State) : List Event :=
  ((byNumber s.companies).filter fun c => decide (c.mode = .running) && c.fatal.isNone && (s.tilesOf c.num).all Tile.finished).map
    fun c => .launchEnd c.num

/-! ### The parts of a cycle -/

/-- The flags of every tile after the cycle's arrivals (04 R106); a frozen or held tile records them (R105). -/
def State.settle (s : State) : State := { s with tiles := s.tiles.map fun t => { t with st := t.st.settleFlags } }

/-- The units of the commands that completed before the cycle's issue go back (01 R32, 07 R177). -/
def State.settleUnits (s : State) : State := { s with tiles := s.tiles.map fun t => { t with st := t.st.settleBack } }

/-- What the end of a cycle does in the tiles that move: fly writes read, passes send (07 R185, 08 R211). The beats of a tile whose island has failed
that are not sent yet go out all the same (DESIGN CHOICE, log 82). -/
def State.endCycle (s : State) : State :=
  s.carrying.foldl (fun s c => s.mapTiles c.num fun t =>
    { t with st := (if t.lost then t.st else t.st.flyReads c.cue).latchPasses c.cue }) s

/-- Replay boundaries made in this cycle (09 R247). -/
def State.endBoundaries (s : State) : State :=
  (s.carrying.filter fun c => c.fatal.isNone && boundaryAt c c.cue).foldl (fun s c => s.closeBoundary c.num) s

/-- The cues after a cycle: the deck's, and those of the companies it carried (00 R11, 01 R36, 15 R362). -/
def State.tick (s : State) : State :=
  { s with
    cue := s.cue + 1
    companies := s.companies.map fun c => if c.carries s.cue then { c with cue := c.cue + 1 } else c }

/-- The happenings of a part of the cycle. -/
def State.happenings (s : State) (p : Phase) : List Stim := (s.inputs.filter fun x => s.takes p x).map (·.2)

/-- Whether an event is a cold start. -/
def Event.coldStarts : Event → Bool
  | .deckColdStart _ => true
  | _ => false

/-- The deck's part of a new cycle begins: what happens outside, then the events due and brought. A deck that has stopped takes a cold start alone, and
what else is brought to it is lost (13 R321). -/
def State.openCycle (s : State) : State :=
  if s.stopped then
    let t := ((s.happenings .deck).filter Stim.whileStopped).foldl State.happen s
    { t with
      phase := .deck
      agenda := (s.broughtIn .deck).filter Event.coldStarts
      inputs := s.inputs.filter fun x => decide (s.cue < x.1) }
  else
    let t := (s.happenings .deck).foldl State.happen s.noteFreed.landPuts
    { t with phase := .deck, agenda := t.deckEvents ++ s.broughtIn .deck }.spent .deck

/-- The next part of the cycle begins (log 3). A deck that has stopped goes from cycle to cycle until a cold start (13 R321). -/
def State.advance (s : State) : State :=
  if s.stopped then { s with cue := s.cue + 1 }.openCycle
  else match s.phase with
  | .deck => { s with phase := .land, agenda := s.landEvents }.spent .land
  | .land => { s with phase := .issue, agenda := s.issueEvents }
  | .issue =>
    let t := s.settleUnits
    { t with phase := .work, agenda := t.workEvents }
  | .work =>
    let t := (s.happenings .sample).foldl State.happen s.settle
    { t with phase := .sample, agenda := t.sampleEvents }.spent .sample
  | .sample => { s with phase := .close, agenda := s.closeEvents }
  | .close => s.endCycle.endBoundaries.tick.openCycle

end Sys2Proof.Machine
end

