-- ==== Sys2Proof/Machine/Dispatch.lean ====
section
/-! DEFINITION. The dispatch: one arm per constructor of Instr, each one direct call of that step's meaning. -/
namespace Sys2Proof.Machine

/-- The meaning of every step of the part (spec 03 R70 to R87 and the chapters it names; 95 for the events). -/
def exec (i : Instr) (s : State) : Host.Outcome State Fault Refusal :=
  match i with
  | .nop => Sys2Proof.Machine.execNop s
  | .halt => Sys2Proof.Machine.execHalt s
  | .trap imm => Sys2Proof.Machine.execTrap imm s
  | .br t => Sys2Proof.Machine.execBr t s
  | .brp g t => Sys2Proof.Machine.execBrp g t s
  | .brz nz k t => Sys2Proof.Machine.execBrz nz k t s
  | .call g t => Sys2Proof.Machine.execCall g t s
  | .ret g => Sys2Proof.Machine.execRet g s
  | .loop lv x t => Sys2Proof.Machine.execLoop lv x t s
  | .loops lv k t => Sys2Proof.Machine.execLoops lv k t s
  | .replay lv st k t => Sys2Proof.Machine.execReplay lv st k t s
  | .waitcue a => Sys2Proof.Machine.execWaitcue a s
  | .waitrel imm => Sys2Proof.Machine.execWaitrel imm s
  | .join a => Sys2Proof.Machine.execJoin a s
  | .waite j imm => Sys2Proof.Machine.execWaite j imm s
  | .clre imm => Sys2Proof.Machine.execClre imm s
  | .waitown u imm => Sys2Proof.Machine.execWaitown u imm s
  | .skipm n => Sys2Proof.Machine.execSkipm n s
  | .markRb => Sys2Proof.Machine.execMarkRb s
  | .markOv imm => Sys2Proof.Machine.execMarkOv imm s
  | .jumpOv t => Sys2Proof.Machine.execJumpOv t s
  | .signal j => Sys2Proof.Machine.execSignal j s
  | .add r a b => Sys2Proof.Machine.execAdd r a b s
  | .sub r a b => Sys2Proof.Machine.execSub r a b s
  | .and r a b => Sys2Proof.Machine.execAnd r a b s
  | .or r a b => Sys2Proof.Machine.execOr r a b s
  | .xor r a b => Sys2Proof.Machine.execXor r a b s
  | .shl r a b => Sys2Proof.Machine.execShl r a b s
  | .shr r a b => Sys2Proof.Machine.execShr r a b s
  | .sha r a b => Sys2Proof.Machine.execSha r a b s
  | .min r a b => Sys2Proof.Machine.execMin r a b s
  | .max r a b => Sys2Proof.Machine.execMax r a b s
  | .minn r a b => Sys2Proof.Machine.execMinn r a b s
  | .maxn r a b => Sys2Proof.Machine.execMaxn r a b s
  | .clz r a => Sys2Proof.Machine.execClz r a s
  | .popc r a => Sys2Proof.Machine.execPopc r a s
  | .mul r a b => Sys2Proof.Machine.execMul r a b s
  | .mulh r a b => Sys2Proof.Machine.execMulh r a b s
  | .mulhn r a b => Sys2Proof.Machine.execMulhn r a b s
  | .div r a b => Sys2Proof.Machine.execDiv r a b s
  | .divn r a b => Sys2Proof.Machine.execDivn r a b s
  | .rem r a b => Sys2Proof.Machine.execRem r a b s
  | .remn r a b => Sys2Proof.Machine.execRemn r a b s
  | .cmpEq n l p a b => Sys2Proof.Machine.execCmpEq n l p a b s
  | .cmpNe n l p a b => Sys2Proof.Machine.execCmpNe n l p a b s
  | .cmpLt n l p a b => Sys2Proof.Machine.execCmpLt n l p a b s
  | .cmpLtn n l p a b => Sys2Proof.Machine.execCmpLtn n l p a b s
  | .cmpGe n l p a b => Sys2Proof.Machine.execCmpGe n l p a b s
  | .cmpGen n l p a b => Sys2Proof.Machine.execCmpGen n l p a b s
  | .sel r a b inv q => Sys2Proof.Machine.execSel r a b inv q s
  | .bfx r a b => Sys2Proof.Machine.execBfx r a b s
  | .bfi r a b => Sys2Proof.Machine.execBfi r a b s
  | .addi r i1 => Sys2Proof.Machine.execAddi r i1 s
  | .andi r i1 => Sys2Proof.Machine.execAndi r i1 s
  | .ori r i1 => Sys2Proof.Machine.execOri r i1 s
  | .xori r i1 => Sys2Proof.Machine.execXori r i1 s
  | .shli r i1 => Sys2Proof.Machine.execShli r i1 s
  | .shri r i1 => Sys2Proof.Machine.execShri r i1 s
  | .shai r i1 => Sys2Proof.Machine.execShai r i1 s
  | .li r i1 => Sys2Proof.Machine.execLi r i1 s
  | .lih r i1 => Sys2Proof.Machine.execLih r i1 s
  | .ld8 r base off => Sys2Proof.Machine.execLd8 r base off s
  | .ld8Stream r st => Sys2Proof.Machine.execLd8Stream r st s
  | .ld16 r base off => Sys2Proof.Machine.execLd16 r base off s
  | .ld16Stream r st => Sys2Proof.Machine.execLd16Stream r st s
  | .ld32 r base off => Sys2Proof.Machine.execLd32 r base off s
  | .ld32Stream r st => Sys2Proof.Machine.execLd32Stream r st s
  | .ld64 r base off => Sys2Proof.Machine.execLd64 r base off s
  | .ld64Stream r st => Sys2Proof.Machine.execLd64Stream r st s
  | .st8 d base off => Sys2Proof.Machine.execSt8 d base off s
  | .st8Stream d st => Sys2Proof.Machine.execSt8Stream d st s
  | .st16 d base off => Sys2Proof.Machine.execSt16 d base off s
  | .st16Stream d st => Sys2Proof.Machine.execSt16Stream d st s
  | .st32 d base off => Sys2Proof.Machine.execSt32 d base off s
  | .st32Stream d st => Sys2Proof.Machine.execSt32Stream d st s
  | .st64 d base off => Sys2Proof.Machine.execSt64 d base off s
  | .st64Stream d st => Sys2Proof.Machine.execSt64Stream d st s
  | .setk k a => Sys2Proof.Machine.execSetk k a s
  | .seta st a => Sys2Proof.Machine.execSeta st a s
  | .setd st j a => Sys2Proof.Machine.execSetd st j a s
  | .setlc j a => Sys2Proof.Machine.execSetlc j a s
  | .setlb j a b => Sys2Proof.Machine.execSetlb j a b s
  | .rdid r i1 => Sys2Proof.Machine.execRdid r i1 s
  | .rdcfg r i1 => Sys2Proof.Machine.execRdcfg r i1 s
  | .rdcue r => Sys2Proof.Machine.execRdcue r s
  | .rddeck r => Sys2Proof.Machine.execRddeck r s
  | .vadd r a b => Sys2Proof.Machine.execVadd r a b s
  | .vsub r a b => Sys2Proof.Machine.execVsub r a b s
  | .vmul r a b => Sys2Proof.Machine.execVmul r a b s
  | .vmulh r a b => Sys2Proof.Machine.execVmulh r a b s
  | .vmin r a b => Sys2Proof.Machine.execVmin r a b s
  | .vmax r a b => Sys2Proof.Machine.execVmax r a b s
  | .vminn r a b => Sys2Proof.Machine.execVminn r a b s
  | .vmaxn r a b => Sys2Proof.Machine.execVmaxn r a b s
  | .vand r a b => Sys2Proof.Machine.execVand r a b s
  | .vor r a b => Sys2Proof.Machine.execVor r a b s
  | .vxor r a b => Sys2Proof.Machine.execVxor r a b s
  | .vshl r a b => Sys2Proof.Machine.execVshl r a b s
  | .vshr r a b => Sys2Proof.Machine.execVshr r a b s
  | .vsha r a b => Sys2Proof.Machine.execVsha r a b s
  | .vcmpEq a b => Sys2Proof.Machine.execVcmpEq a b s
  | .vcmpNe a b => Sys2Proof.Machine.execVcmpNe a b s
  | .vcmpLt a b => Sys2Proof.Machine.execVcmpLt a b s
  | .vcmpLtn a b => Sys2Proof.Machine.execVcmpLtn a b s
  | .vcmpGe a b => Sys2Proof.Machine.execVcmpGe a b s
  | .vcmpGen a b => Sys2Proof.Machine.execVcmpGen a b s
  | .vcmpFeq a b => Sys2Proof.Machine.execVcmpFeq a b s
  | .vcmpFne a b => Sys2Proof.Machine.execVcmpFne a b s
  | .vcmpFlt a b => Sys2Proof.Machine.execVcmpFlt a b s
  | .vcmpFge a b => Sys2Proof.Machine.execVcmpFge a b s
  | .vpushm a => Sys2Proof.Machine.execVpushm a s
  | .vinvm => Sys2Proof.Machine.execVinvm s
  | .vpopm => Sys2Proof.Machine.execVpopm s
  | .vsel r a b => Sys2Proof.Machine.execVsel r a b s
  | .vfadd r a b rm => Sys2Proof.Machine.execVfadd r a b rm s
  | .vfsub r a b rm => Sys2Proof.Machine.execVfsub r a b rm s
  | .vfmul r a b rm => Sys2Proof.Machine.execVfmul r a b rm s
  | .vfma r a b rm => Sys2Proof.Machine.execVfma r a b rm s
  | .vfmin r a b => Sys2Proof.Machine.execVfmin r a b s
  | .vfmax r a b => Sys2Proof.Machine.execVfmax r a b s
  | .vfabs r a => Sys2Proof.Machine.execVfabs r a s
  | .vfneg r a => Sys2Proof.Machine.execVfneg r a s
  | .vcvt r a fr tf rm => Sys2Proof.Machine.execVcvt r a fr tf rm s
  | .vqblk r a w rm => Sys2Proof.Machine.execVqblk r a w rm s
  | .vdqblk r a w rm => Sys2Proof.Machine.execVdqblk r a w rm s
  | .vmxq r a f rm => Sys2Proof.Machine.execVmxq r a f rm s
  | .vmxdq r a f rm => Sys2Proof.Machine.execVmxdq r a f rm s
  | .vexp2 r a => Sys2Proof.Machine.execVexp2 r a s
  | .vlog2 r a => Sys2Proof.Machine.execVlog2 r a s
  | .vrcp r a => Sys2Proof.Machine.execVrcp r a s
  | .vrsq r a => Sys2Proof.Machine.execVrsq r a s
  | .vtanh r a => Sys2Proof.Machine.execVtanh r a s
  | .vredadd r a ty => Sys2Proof.Machine.execVredadd r a ty s
  | .vredmax r a ty => Sys2Proof.Machine.execVredmax r a ty s
  | .vredmin r a ty => Sys2Proof.Machine.execVredmin r a ty s
  | .vscan r a ty => Sys2Proof.Machine.execVscan r a ty s
  | .vperm r a b => Sys2Proof.Machine.execVperm r a b s
  | .vshuf r a b => Sys2Proof.Machine.execVshuf r a b s
  | .vbcast r a b => Sys2Proof.Machine.execVbcast r a b s
  | .vins r a b => Sys2Proof.Machine.execVins r a b s
  | .vext r a b => Sys2Proof.Machine.execVext r a b s
  | .vlidx r a b => Sys2Proof.Machine.execVlidx r a b s
  | .vld r base off => Sys2Proof.Machine.execVld r base off s
  | .vldStream r st => Sys2Proof.Machine.execVldStream r st s
  | .vst d base off => Sys2Proof.Machine.execVst d base off s
  | .vstStream d st => Sys2Proof.Machine.execVstStream d st s
  | .vldx r a b => Sys2Proof.Machine.execVldx r a b s
  | .vstx d a b => Sys2Proof.Machine.execVstx d a b s
  | .mloadbW a => Sys2Proof.Machine.execMloadbW a s
  | .mloadbS row a => Sys2Proof.Machine.execMloadbS row a s
  | .mpush set row a wa wb sp step => Sys2Proof.Machine.execMpush set row a wa wb sp step s
  | .mshift b => Sys2Proof.Machine.execMshift b s
  | .macc set row => Sys2Proof.Machine.execMacc set row s
  | .maccDrop set row => Sys2Proof.Machine.execMaccDrop set row s
  | .mscale a => Sys2Proof.Machine.execMscale a s
  | .mzero set => Sys2Proof.Machine.execMzero set s
  | .mdrain r set row f => Sys2Proof.Machine.execMdrain r set row f s
  | .mmode syn sp pw => Sys2Proof.Machine.execMmode syn sp pw s
  | .msparse a => Sys2Proof.Machine.execMsparse a s
  | .mflags r set => Sys2Proof.Machine.execMflags r set s
  | .flyRd g kg => Sys2Proof.Machine.execFlyRd g kg s
  | .flyWr g kg => Sys2Proof.Machine.execFlyWr g kg s
  | .flyRd2 g kg => Sys2Proof.Machine.execFlyRd2 g kg s
  | .flyWr2 g kg => Sys2Proof.Machine.execFlyWr2 g kg s
  | .acopyRd g kg sc => Sys2Proof.Machine.execAcopyRd g kg sc s
  | .acopyWr g kg sc => Sys2Proof.Machine.execAcopyWr g kg sc s
  | .acopy2d g kg sc => Sys2Proof.Machine.execAcopy2d g kg sc s
  | .qmark g sc => Sys2Proof.Machine.execQmark g sc s
  | .xcopy g kg rm => Sys2Proof.Machine.execXcopy g kg rm s
  | .xfill g kg => Sys2Proof.Machine.execXfill g kg s
  | .give g kg o => Sys2Proof.Machine.execGive g kg o s
  | .ownq l g kg => Sys2Proof.Machine.execOwnq l g kg s
  | .wheelLd l g kg => Sys2Proof.Machine.execWheelLd l g kg s
  | .wheelSt g kg => Sys2Proof.Machine.execWheelSt g kg s
  | .wheelAdd l g kg => Sys2Proof.Machine.execWheelAdd l g kg s
  | .wheelXchg l g kg => Sys2Proof.Machine.execWheelXchg l g kg s
  | .wheelCas l g kg => Sys2Proof.Machine.execWheelCas l g kg s
  | .mbput g kg => Sys2Proof.Machine.execMbput g kg s
  | .mbget l g kg => Sys2Proof.Machine.execMbget l g kg s
  | .chorusAr g kg sc op => Sys2Proof.Machine.execChorusAr g kg sc op s
  | .chorusAg g kg sc => Sys2Proof.Machine.execChorusAg g kg sc s
  | .chorusRs g kg sc op => Sys2Proof.Machine.execChorusRs g kg sc op s
  | .chorusBc g kg sc => Sys2Proof.Machine.execChorusBc g kg sc s
  | .chorusBar g kg sc => Sys2Proof.Machine.execChorusBar g kg sc s
  | .chorusReady g kg sc => Sys2Proof.Machine.execChorusReady g kg sc s
  | .chorusCombine g kg sc op => Sys2Proof.Machine.execChorusCombine g kg sc op s
  | .chorusJoin g kg sc => Sys2Proof.Machine.execChorusJoin g kg sc s
  | .chorusLeave g kg sc => Sys2Proof.Machine.execChorusLeave g kg sc s
  | .siteq l g st => Sys2Proof.Machine.execSiteq l g st s
  | .hop a side w => Sys2Proof.Machine.execHop a side w s
  | .hopPass side w fr => Sys2Proof.Machine.execHopPass side w fr s
  | .recv r side w => Sys2Proof.Machine.execRecv r side w s
  | .xsend a side w ch => Sys2Proof.Machine.execXsend a side w ch s
  | .xrecv r side w ch => Sys2Proof.Machine.execXrecv r side w ch s
  | .bandq r a => Sys2Proof.Machine.execBandq r a s
  | .cuetrim => Sys2Proof.Machine.execCuetrim s
  | .castKey a b => Sys2Proof.Machine.execCastKey a b s
  | .castRand r a => Sys2Proof.Machine.execCastRand r a s
  | .castUnif r a => Sys2Proof.Machine.execCastUnif r a s
  | .castScore r a => Sys2Proof.Machine.execCastScore r a s
  | .castTopkK a b => Sys2Proof.Machine.execCastTopkK a b s
  | .castTopkP a b => Sys2Proof.Machine.execCastTopkP a b s
  | .castMass r => Sys2Proof.Machine.execCastMass r s
  | .castPick r a => Sys2Proof.Machine.execCastPick r a s
  | .castClr => Sys2Proof.Machine.execCastClr s
  | .sequencerIssue k => Sys2Proof.Machine.execSequencerIssue k s
  | .resultLanding k => Sys2Proof.Machine.execResultLanding k s
  | .waitcueTargetReached k => Sys2Proof.Machine.execWaitcueTargetReached k s
  | .waitrelExpiry k => Sys2Proof.Machine.execWaitrelExpiry k s
  | .waiteWake k => Sys2Proof.Machine.execWaiteWake k s
  | .waiteDeadline k => Sys2Proof.Machine.execWaiteDeadline k s
  | .waitownWake k => Sys2Proof.Machine.execWaitownWake k s
  | .waitownDeadline k => Sys2Proof.Machine.execWaitownDeadline k s
  | .localLimitDeadline k => Sys2Proof.Machine.execLocalLimitDeadline k s
  | .missingMarkRb k => Sys2Proof.Machine.execMissingMarkRb k s
  | .signalArrival k => Sys2Proof.Machine.execSignalArrival k s
  | .hopBeatLanding k => Sys2Proof.Machine.execHopBeatLanding k s
  | .crossingBeatArrival k => Sys2Proof.Machine.execCrossingBeatArrival k s
  | .crossingWordLost k side ch => Sys2Proof.Machine.execCrossingWordLost k side ch s
  | .gatedWriteRelease co => Sys2Proof.Machine.execGatedWriteRelease co s
  | .flyMemoryPoint k => Sys2Proof.Machine.execFlyMemoryPoint k s
  | .flyCompletion k => Sys2Proof.Machine.execFlyCompletion k s
  | .wheelMemoryPoint k => Sys2Proof.Machine.execWheelMemoryPoint k s
  | .wheelResult k => Sys2Proof.Machine.execWheelResult k s
  | .acopyLoadCompletion k => Sys2Proof.Machine.execAcopyLoadCompletion k s
  | .acopyStoreCompletion k => Sys2Proof.Machine.execAcopyStoreCompletion k s
  | .acopyPageFault k store => Sys2Proof.Machine.execAcopyPageFault k store s
  | .qmarkCompletion k => Sys2Proof.Machine.execQmarkCompletion k s
  | .tileCopyStart k => Sys2Proof.Machine.execTileCopyStart k s
  | .tileCopyCompletion k => Sys2Proof.Machine.execTileCopyCompletion k s
  | .mailboxPutPerformed k => Sys2Proof.Machine.execMailboxPutPerformed k s
  | .mailboxGetPerformed k => Sys2Proof.Machine.execMailboxGetPerformed k s
  | .chorusMemberCompletion k b => Sys2Proof.Machine.execChorusMemberCompletion k b s
  | .chorusStaleCompletion k => Sys2Proof.Machine.execChorusStaleCompletion k s
  | .chorusTimeout k b => Sys2Proof.Machine.execChorusTimeout k b s
  | .barCompletion k b => Sys2Proof.Machine.execBarCompletion k b s
  | .combineCompletion k => Sys2Proof.Machine.execCombineCompletion k s
  | .ringBoundary co => Sys2Proof.Machine.execRingBoundary co s
  | .overlayFetchCompletion k => Sys2Proof.Machine.execOverlayFetchCompletion k s
  | .holdAnnouncement co h => Sys2Proof.Machine.execHoldAnnouncement co h s
  | .holdBegin co => Sys2Proof.Machine.execHoldBegin co s
  | .holdEnd co => Sys2Proof.Machine.execHoldEnd co s
  | .companyStart co => Sys2Proof.Machine.execCompanyStart co s
  | .launchEnd co => Sys2Proof.Machine.execLaunchEnd co s
  | .launchFaultEnd co => Sys2Proof.Machine.execLaunchFaultEnd co s
  | .uncorrectableError w => Sys2Proof.Machine.execUncorrectableError w s
  | .rollbackRestart co => Sys2Proof.Machine.execRollbackRestart co s
  | .correctedError w => Sys2Proof.Machine.execCorrectedError w s
  | .scrub site => Sys2Proof.Machine.execScrub site s
  | .freezeAnnouncement co cue => Sys2Proof.Machine.execFreezeAnnouncement co cue s
  | .freeze co => Sys2Proof.Machine.execFreeze co s
  | .freezeSaveComplete co => Sys2Proof.Machine.execFreezeSaveComplete co s
  | .instructionMemoryRewrite co => Sys2Proof.Machine.execInstructionMemoryRewrite co s
  | .resume co => Sys2Proof.Machine.execResume co s
  | .placementPass => Sys2Proof.Machine.execPlacementPass s
  | .pfack i1 => Sys2Proof.Machine.execPfack i1 s
  | .pageFaultUnresolvable i1 => Sys2Proof.Machine.execPageFaultUnresolvable i1 s
  | .pageMigration co seg va frame => Sys2Proof.Machine.execPageMigration co seg va frame s
  | .hostCxlRead at_ n => Sys2Proof.Machine.execHostCxlRead at_ n s
  | .hostCxlWrite at_ bytes => Sys2Proof.Machine.execHostCxlWrite at_ bytes s
  | .hdmDecoderCommit port dec base size => Sys2Proof.Machine.execHdmDecoderCommit port dec base size s
  | .periodicTrim site q => Sys2Proof.Machine.execPeriodicTrim site q s
  | .trimExchange site q t1 t2 t4 => Sys2Proof.Machine.execTrimExchange site q t1 t2 t4 s
  | .ofsMeasurement k side t1 t2 t4 => Sys2Proof.Machine.execOfsMeasurement k side t1 t2 t4 s
  | .circuitTeardown i1 => Sys2Proof.Machine.execCircuitTeardown i1 s
  | .circuitSetup i1 route => Sys2Proof.Machine.execCircuitSetup i1 route s
  | .linkCrcFailure link second => Sys2Proof.Machine.execLinkCrcFailure link second s
  | .islandRegulatorFailure site q i1 => Sys2Proof.Machine.execIslandRegulatorFailure site q i1 s
  | .regionRailFailure site q => Sys2Proof.Machine.execRegionRailFailure site q s
  | .busLow => Sys2Proof.Machine.execBusLow s
  | .busCollapse => Sys2Proof.Machine.execBusCollapse s
  | .powerStageTrip site => Sys2Proof.Machine.execPowerStageTrip site s
  | .presenceClampClosed site => Sys2Proof.Machine.execPresenceClampClosed site s
  | .presenceOpen site => Sys2Proof.Machine.execPresenceOpen site s
  | .clampOpen site => Sys2Proof.Machine.execClampOpen site s
  | .powerGood site => Sys2Proof.Machine.execPowerGood site s
  | .phaseTimeLimit site => Sys2Proof.Machine.execPhaseTimeLimit site s
  | .selfTest site o => Sys2Proof.Machine.execSelfTest site o s
  | .admission site o => Sys2Proof.Machine.execAdmission site o s
  | .siteTransitionEffect => Sys2Proof.Machine.execSiteTransitionEffect s
  | .keepAliveSend site => Sys2Proof.Machine.execKeepAliveSend site s
  | .keepAliveSilence site => Sys2Proof.Machine.execKeepAliveSilence site s
  | .cmdPower site => Sys2Proof.Machine.execCmdPower site s
  | .cmdDrain site => Sys2Proof.Machine.execCmdDrain site s
  | .cmdUndrain site => Sys2Proof.Machine.execCmdUndrain site s
  | .cmdReset site => Sys2Proof.Machine.execCmdReset site s
  | .siteRequestButton site => Sys2Proof.Machine.execSiteRequestButton site s
  | .freshrdClear site => Sys2Proof.Machine.execFreshrdClear site s
  | .rejoinGangStart co g => Sys2Proof.Machine.execRejoinGangStart co g s
  | .doorbell q v => Sys2Proof.Machine.execDoorbell q v s
  | .qcmdResume q => Sys2Proof.Machine.execQcmdResume q s
  | .qcmdSkip q => Sys2Proof.Machine.execQcmdSkip q s
  | .qcmdReset q => Sys2Proof.Machine.execQcmdReset q s
  | .queueVisit => Sys2Proof.Machine.execQueueVisit s
  | .packetUnblock q => Sys2Proof.Machine.execPacketUnblock q s
  | .packetNop q => Sys2Proof.Machine.execPacketNop q s
  | .launch q => Sys2Proof.Machine.execLaunch q s
  | .copy q => Sys2Proof.Machine.execCopy q s
  | .copyCompletion id => Sys2Proof.Machine.execCopyCompletion id s
  | .weightload q => Sys2Proof.Machine.execWeightload q s
  | .weightloadApply co => Sys2Proof.Machine.execWeightloadApply co s
  | .putmb q => Sys2Proof.Machine.execPutmb q s
  | .waitmb q => Sys2Proof.Machine.execWaitmb q s
  | .unloadCode q => Sys2Proof.Machine.execUnloadCode q s
  | .unloadData q => Sys2Proof.Machine.execUnloadData q s
  | .unloadLaunch q => Sys2Proof.Machine.execUnloadLaunch q s
  | .unloadCompletion id => Sys2Proof.Machine.execUnloadCompletion id s
  | .indirect q => Sys2Proof.Machine.execIndirect q s
  | .fence q => Sys2Proof.Machine.execFence q s
  | .rejoin q => Sys2Proof.Machine.execRejoin q s
  | .rejoinWithdraw q => Sys2Proof.Machine.execRejoinWithdraw q s
  | .mailboxFullClear i1 mask => Sys2Proof.Machine.execMailboxFullClear i1 mask s
  | .logdropClear v => Sys2Proof.Machine.execLogdropClear v s
  | .deckColdStart strap => Sys2Proof.Machine.execDeckColdStart strap s
  | .recoveryImageWrite len => Sys2Proof.Machine.execRecoveryImageWrite len s
  | .firmwareUpdate len => Sys2Proof.Machine.execFirmwareUpdate len s
  | .firmwareRestart => Sys2Proof.Machine.execFirmwareRestart s
  | .ownerKeyEnrolment rec => Sys2Proof.Machine.execOwnerKeyEnrolment rec s
  | .attestationReport nonce => Sys2Proof.Machine.execAttestationReport nonce s
  | .commandLinkMessage site up => Sys2Proof.Machine.execCommandLinkMessage site up s
  | .commandLinkPermitTimeout site up => Sys2Proof.Machine.execCommandLinkPermitTimeout site up s
  | .networkWriteReceived peer addr bytes imm => Sys2Proof.Machine.execNetworkWriteReceived peer addr bytes imm s
  | .congestionNotification peer => Sys2Proof.Machine.execCongestionNotification peer s
  | .retransmissionLimit id => Sys2Proof.Machine.execRetransmissionLimit id s
  | .sensorRead site q i1 temp => Sys2Proof.Machine.execSensorRead site q i1 temp s
  | .reefTargetRaise site => Sys2Proof.Machine.execReefTargetRaise site s
  | .reefTargetLower site => Sys2Proof.Machine.execReefTargetLower site s
  | .thermalTrip site => Sys2Proof.Machine.execThermalTrip site s
  | .reefLevelChange co => Sys2Proof.Machine.execReefLevelChange co s
  | .reefminWrite site v => Sys2Proof.Machine.execReefminWrite site v s
  | .islandWake site q i1 => Sys2Proof.Machine.execIslandWake site q i1 s
  | .registerWrite bar off v => Sys2Proof.Machine.execRegisterWrite bar off v s
  | .fatalModuleError site => Sys2Proof.Machine.execFatalModuleError site s
  | .presenceOpenFor222Cycles site => Sys2Proof.Machine.execPresenceOpenFor222Cycles site s
  | .overlayFetchTranslationFault k => Sys2Proof.Machine.execOverlayFetchTranslationFault k s
  | .linkReturnToService link => Sys2Proof.Machine.execLinkReturnToService link s

end Sys2Proof.Machine
end

