-- ==== Sys2Proof/Machine/Step.lean ====
section
/-! DEFINITION. One step of the part: the event at the head of the agenda, or the next part of the cycle (log 3); and a state whose next step
issues a given word (log 1). -/
namespace Sys2Proof.Machine

/-- One step: the next event of the cycle's part is done; with none left, the next part begins (log 3). -/
def step (s : State) : Host.Outcome State Fault Refusal :=
  match s.agenda with
  | [] => .next s.advance
  | e :: r => e.run { s with agenda := r }

/-- The launch, the gang and the binary of a single tile that holds one segment (log 1). -/
def probeLaunch (op : Nat) (g : GangBin) : LaunchInfo where
  op := op
  queue := 0
  cmb := 0
  gen := 0
  pri := 0
  readCue := 0
  overlaid := false
  handler := none
  seed := 0
  segtab := []
  binds := []
  ovRoot := 0
  ovTab := []
  pins := []
  gangs := [g]
  loads := []

/-- A gang of one tile with one segment. -/
def probeGang (bs : List Bundle) : GangBin := ⟨1, 1, 1, Vector.replicate 16 0, 0, [], [(0, bs)], [], [], 1048560⟩

/-- The key of the probe's tile. -/
def State.probeKey (s : State) : TileKey := ⟨s.freshNum 0, 0, 0, 0⟩

/-- A machine in which one tile more, the only one of its company, at logical position (0, 0) of C0.Q0, is about to issue a bundle at
address 0 (log 1). -/
def State.withBundle (s : State) (b : Bundle) : State :=
  let g := probeGang [b]
  let k := s.probeKey
  let i := probeLaunch s.nextOp g
  let c := mkCompany k.co i [⟨0, 0, 0⟩] s.cue s.cue false
  let c := { c with
    cue := s.cue, base := s.cue, mode := .running, since := s.cue, lastB := s.cue - 1, d0 := s.cue, wantedCue := s.cue
    gangs := c.gangs.map fun g => { g with base := s.cue } }
  { s with
    companies := c :: s.companies
    tiles := s.mkTile k.co ⟨0, g, 0, 0, 0, false, s.cue⟩ ((0, 0), ⟨0, 0, 0⟩) :: s.tiles
    nextOp := s.nextOp + 1
    phase := .issue
    agenda := [.sequencerIssue k] }

/-- The number of a slot's place in the bundle. -/
def slotShift (u : Slot) : Nat := 32 * slotNo u

/-- The machine about to fetch and issue a word of the opcode table, in the slot its decoding chooses, NOP in the others (log 1, log 7). -/
def State.withFetchWord (s : State) (nbits w : Nat) : State :=
  s.withBundle (BitVec.ofNat 256 (if nbits ≤ 32 then w % 2 ^ 32 * 2 ^ slotShift ((tableSlot w).getD .c) else 0))

end Sys2Proof.Machine
end

