-- ==== Sys2Proof/Laws/Fields.lean ====
section
/-! SUPPORT. Fields of the words that the encoder writes, shape by shape (03 R72), and codes of operand kinds read back (03 R74, R84 to
R87). -/
set_option Elab.async false
set_option linter.unusedVariables false
namespace Sys2Proof

theorem fld_mid {w hi lo : Nat} (H F L : Nat) (e : w = H * 2 ^ (hi + 1) + F * 2 ^ lo + L) (hF : F < 2 ^ (hi + 1 - lo)) (hL : L < 2 ^ lo)
    (hh : lo ≤ hi := by decide) : fld w hi lo = F := by
  have p : 2 ^ (hi + 1) = 2 ^ (hi + 1 - lo) * 2 ^ lo := by rw [← Nat.pow_add]; congr 1; omega
  have q : w = (H * 2 ^ (hi + 1 - lo) + F) * 2 ^ lo + L := by rw [e, p, Nat.add_mul, Nat.mul_assoc]
  rw [fld, q, Nat.mul_comm, Nat.mul_add_div (Nat.two_pow_pos lo), Nat.div_eq_of_lt hL, Nat.add_zero, Nat.mul_comm H, Nat.mul_add_mod,
    Nat.mod_eq_of_lt hF]

theorem bool_lt (b : Bool) : b.toNat < 2 := by cases b <;> decide
theorem selCode_lt64 (a : Sel) : selCode a < 64 := by cases a <;> simp only [selCode] <;> omega
theorem widthCode_lt (x : Width) : widthCode x < 4 := by cases x <;> decide
theorem widthOf_widthCode (x : Width) : widthOf (widthCode x) = some x := by cases x <;> rfl
theorem drainFmtCode_lt (x : DrainFmt) : drainFmtCode x < 4 := by cases x <;> decide
theorem drainFmtOf_drainFmtCode (x : DrainFmt) : drainFmtOf (drainFmtCode x) = some x := by cases x <;> rfl
theorem scopeCode_lt (x : Scope) : scopeCode x < 8 := by cases x <;> decide
theorem scopeOf_scopeCode (x : Scope) : scopeOf (scopeCode x) = some x := by cases x <;> rfl
theorem cOpCode_lt (x : COp) : cOpCode x < 4 := by cases x <;> decide
theorem cOpOf_cOpCode (x : COp) : cOpOf (cOpCode x) = some x := by cases x <;> rfl
theorem sideCode_lt (x : Side) : sideCode x < 4 := by cases x <;> decide
theorem sideOf_sideCode (x : Side) : sideOf (sideCode x) = some x := by cases x <;> rfl
theorem rndCode_lt (x : Rnd) : rndCode x < 8 := by cases x <;> decide
theorem rndOf_rndCode (x : Rnd) : rndOf (rndCode x) = some x := by cases x <;> rfl
theorem cvtFmtCode_lt (x : CvtFmt) : cvtFmtCode x < 8 := by cases x <;> decide
theorem cvtFmtOf_cvtFmtCode (x : CvtFmt) : cvtFmtOf (cvtFmtCode x) = some x := by cases x <;> rfl
theorem mxFmtCode_lt (x : MxFmt) : mxFmtCode x < 8 := by cases x <;> decide
theorem mxFmtOf_mxFmtCode (x : MxFmt) : mxFmtOf (mxFmtCode x) = some x := by cases x <;> rfl
theorem redTyCode_lt (x : RedTy) : redTyCode x < 4 := by cases x <;> decide
theorem redTyOf_redTyCode (x : RedTy) : redTyOf (redTyCode x) = some x := by cases x <;> rfl

theorem selOf_selCode (a : Sel) : selOf (selCode a) = some a := by
  cases a with
  | reg r => revert r; decide
  | own r => revert r; decide
  | partner r => revert r; decide
  | cross r => revert r; decide
  | _ => rfl

theorem finOf_val {n : Nat} [NeZero n] (x : Fin n) : Fin.ofNat n x.val = x := Fin.ext (Nat.mod_eq_of_lt x.isLt)
theorem bitOf_toNat {n : Nat} (x : BitVec n) : BitVec.ofNat n x.toNat = x := by simp
theorem boolOf_toNat (b : Bool) : (b.toNat == 1) = b := by cases b <;> rfl

/-- A destination read back (03 R73). -/
theorem dstOf_fields {w : Nat} {r : Dst} (n : fld w 24 24 = r.n.toNat) (l : fld w 23 22 = r.l.val) (d : fld w 21 16 = r.d.val) :
    dstOf w = some r := by
  simp only [dstOf, n, l, d, r.d.isLt, if_true, boolOf_toNat, finOf_val]

theorem shape0 {op s  w : Nat} (ho : 0 < op) (hp : op < 128) (hs : s < 16)  (h : op * 2 ^ 25 + s = w) :
    w ≠ 0 ∧ fld w 31 25 = op ∧ fld w 24 16 = 0 ∧ fld w 24 0 = s ∧ fld w 15 10 = 0 ∧ fld w 9 0 = s := by
  refine ⟨by omega, ?_, ?_, ?_, ?_, ?_⟩
  · apply fld_mid (0) (op) (s) <;> omega
  · apply fld_mid (op) (0) (s) <;> omega
  · apply fld_mid (op) (s) (0) <;> omega
  · apply fld_mid (op * 2 ^ 9) (0) (s) <;> omega
  · apply fld_mid (op * 2 ^ 15) (s) (0) <;> omega

theorem shape1 {op x0 w : Nat} (ho : 0 < op) (hp : op < 128) (h0 : x0 < 65536) (h : op * 2 ^ 25 + x0 = w) :
    w ≠ 0 ∧ fld w 31 25 = op ∧ fld w 24 16 = 0 ∧ fld w 15 0 = x0 := by
  refine ⟨by omega, ?_, ?_, ?_⟩
  · apply fld_mid (0) (op) (x0) <;> omega
  · apply fld_mid (op) (0) (x0) <;> omega
  · apply fld_mid (op * 2 ^ 9) (x0) (0) <;> omega

theorem shape2 {op x0 w : Nat} (ho : 0 < op) (hp : op < 128) (h0 : x0 < 2048) (h : op * 2 ^ 25 + x0 = w) :
    w ≠ 0 ∧ fld w 31 25 = op ∧ fld w 24 11 = 0 ∧ fld w 10 0 = x0 := by
  refine ⟨by omega, ?_, ?_, ?_⟩
  · apply fld_mid (0) (op) (x0) <;> omega
  · apply fld_mid (op) (0) (x0) <;> omega
  · apply fld_mid (op * 2 ^ 14) (x0) (0) <;> omega

theorem shape3 {op x0 x1 x2 w : Nat} (ho : 0 < op) (hp : op < 128) (h0 : x0 < 8) (h1 : x1 < 2) (h2 : x2 < 2048) (h : op * 2 ^ 25 + x0 * 2 ^ 22 + x1 * 2 ^ 21 + x2 = w) :
    w ≠ 0 ∧ fld w 31 25 = op ∧ fld w 24 22 = x0 ∧ fld w 21 21 = x1 ∧ fld w 20 11 = 0 ∧ fld w 10 0 = x2 := by
  refine ⟨by omega, ?_, ?_, ?_, ?_, ?_⟩
  · apply fld_mid (0) (op) (x0 * 2 ^ 22 + x1 * 2 ^ 21 + x2) <;> omega
  · apply fld_mid (op) (x0) (x1 * 2 ^ 21 + x2) <;> omega
  · apply fld_mid (op * 2 ^ 3 + x0) (x1) (x2) <;> omega
  · apply fld_mid (op * 2 ^ 4 + x0 * 2 ^ 1 + x1) (0) (x2) <;> omega
  · apply fld_mid (op * 2 ^ 14 + x0 * 2 ^ 11 + x1 * 2 ^ 10) (x2) (0) <;> omega

theorem shape4 {op x0 x1 x2 w : Nat} (ho : 0 < op) (hp : op < 128) (h0 : x0 < 2) (h1 : x1 < 32) (h2 : x2 < 2048) (h : op * 2 ^ 25 + x0 * 2 ^ 21 + x1 * 2 ^ 16 + x2 = w) :
    w ≠ 0 ∧ fld w 31 25 = op ∧ fld w 24 22 = 0 ∧ fld w 21 21 = x0 ∧ fld w 20 16 = x1 ∧ fld w 15 11 = 0 ∧ fld w 10 0 = x2 := by
  refine ⟨by omega, ?_, ?_, ?_, ?_, ?_, ?_⟩
  · apply fld_mid (0) (op) (x0 * 2 ^ 21 + x1 * 2 ^ 16 + x2) <;> omega
  · apply fld_mid (op) (0) (x0 * 2 ^ 21 + x1 * 2 ^ 16 + x2) <;> omega
  · apply fld_mid (op * 2 ^ 3) (x0) (x1 * 2 ^ 16 + x2) <;> omega
  · apply fld_mid (op * 2 ^ 4 + x0) (x1) (x2) <;> omega
  · apply fld_mid (op * 2 ^ 9 + x0 * 2 ^ 5 + x1) (0) (x2) <;> omega
  · apply fld_mid (op * 2 ^ 14 + x0 * 2 ^ 10 + x1 * 2 ^ 5) (x2) (0) <;> omega

theorem shape5 {op s x0 x1 w : Nat} (ho : 0 < op) (hp : op < 128) (hs : s < 16) (h0 : x0 < 8) (h1 : x1 < 2) (h : op * 2 ^ 25 + s + x0 * 2 ^ 22 + x1 * 2 ^ 21 = w) :
    w ≠ 0 ∧ fld w 31 25 = op ∧ fld w 24 22 = x0 ∧ fld w 21 21 = x1 ∧ fld w 20 0 = s := by
  refine ⟨by omega, ?_, ?_, ?_, ?_⟩
  · apply fld_mid (0) (op) (s + x0 * 2 ^ 22 + x1 * 2 ^ 21) <;> omega
  · apply fld_mid (op) (x0) (s + x1 * 2 ^ 21) <;> omega
  · apply fld_mid (op * 2 ^ 3 + x0) (x1) (s) <;> omega
  · apply fld_mid (op * 2 ^ 4 + x0 * 2 ^ 1 + x1) (s) (0) <;> omega

theorem shape6 {op x0 x1 x2 w : Nat} (ho : 0 < op) (hp : op < 128) (h0 : x0 < 4) (h1 : x1 < 4096) (h2 : x2 < 2048) (h : op * 2 ^ 25 + x0 * 2 ^ 23 + x1 * 2 ^ 11 + x2 = w) :
    w ≠ 0 ∧ fld w 31 25 = op ∧ fld w 24 23 = x0 ∧ fld w 22 11 = x1 ∧ fld w 10 0 = x2 := by
  refine ⟨by omega, ?_, ?_, ?_, ?_⟩
  · apply fld_mid (0) (op) (x0 * 2 ^ 23 + x1 * 2 ^ 11 + x2) <;> omega
  · apply fld_mid (op) (x0) (x1 * 2 ^ 11 + x2) <;> omega
  · apply fld_mid (op * 2 ^ 2 + x0) (x1) (x2) <;> omega
  · apply fld_mid (op * 2 ^ 14 + x0 * 2 ^ 12 + x1) (x2) (0) <;> omega

theorem shape7 {op x0 x1 x2 w : Nat} (ho : 0 < op) (hp : op < 128) (h0 : x0 < 4) (h1 : x1 < 32) (h2 : x2 < 2048) (h : op * 2 ^ 25 + x0 * 2 ^ 23 + x1 * 2 ^ 11 + x2 = w) :
    w ≠ 0 ∧ fld w 31 25 = op ∧ fld w 24 23 = x0 ∧ fld w 22 16 = 0 ∧ fld w 15 11 = x1 ∧ fld w 10 0 = x2 := by
  refine ⟨by omega, ?_, ?_, ?_, ?_, ?_⟩
  · apply fld_mid (0) (op) (x0 * 2 ^ 23 + x1 * 2 ^ 11 + x2) <;> omega
  · apply fld_mid (op) (x0) (x1 * 2 ^ 11 + x2) <;> omega
  · apply fld_mid (op * 2 ^ 2 + x0) (0) (x1 * 2 ^ 11 + x2) <;> omega
  · apply fld_mid (op * 2 ^ 9 + x0 * 2 ^ 7) (x1) (x2) <;> omega
  · apply fld_mid (op * 2 ^ 14 + x0 * 2 ^ 12 + x1) (x2) (0) <;> omega

theorem shape8 {op x0 x1 x2 x3 w : Nat} (ho : 0 < op) (hp : op < 128) (h0 : x0 < 4) (h1 : x1 < 8) (h2 : x2 < 32) (h3 : x3 < 2048) (h : op * 2 ^ 25 + x0 * 2 ^ 23 + x1 * 2 ^ 20 + x2 * 2 ^ 11 + x3 = w) :
    w ≠ 0 ∧ fld w 31 25 = op ∧ fld w 24 23 = x0 ∧ fld w 22 20 = x1 ∧ fld w 19 16 = 0 ∧ fld w 15 11 = x2 ∧ fld w 10 0 = x3 := by
  refine ⟨by omega, ?_, ?_, ?_, ?_, ?_, ?_⟩
  · apply fld_mid (0) (op) (x0 * 2 ^ 23 + x1 * 2 ^ 20 + x2 * 2 ^ 11 + x3) <;> omega
  · apply fld_mid (op) (x0) (x1 * 2 ^ 20 + x2 * 2 ^ 11 + x3) <;> omega
  · apply fld_mid (op * 2 ^ 2 + x0) (x1) (x2 * 2 ^ 11 + x3) <;> omega
  · apply fld_mid (op * 2 ^ 5 + x0 * 2 ^ 3 + x1) (0) (x2 * 2 ^ 11 + x3) <;> omega
  · apply fld_mid (op * 2 ^ 9 + x0 * 2 ^ 7 + x1 * 2 ^ 4) (x2) (x3) <;> omega
  · apply fld_mid (op * 2 ^ 14 + x0 * 2 ^ 12 + x1 * 2 ^ 9 + x2) (x3) (0) <;> omega

theorem shape9 {op s x0 w : Nat} (ho : 0 < op) (hp : op < 128) (hs : s < 16) (h0 : x0 < 64) (h : op * 2 ^ 25 + s + x0 * 2 ^ 16 = w) :
    w ≠ 0 ∧ fld w 31 25 = op ∧ fld w 24 22 = 0 ∧ fld w 21 16 = x0 ∧ fld w 15 0 = s := by
  refine ⟨by omega, ?_, ?_, ?_, ?_⟩
  · apply fld_mid (0) (op) (s + x0 * 2 ^ 16) <;> omega
  · apply fld_mid (op) (0) (s + x0 * 2 ^ 16) <;> omega
  · apply fld_mid (op * 2 ^ 3) (x0) (s) <;> omega
  · apply fld_mid (op * 2 ^ 9 + x0) (s) (0) <;> omega

theorem shape10 {op x0 x1 w : Nat} (ho : 0 < op) (hp : op < 128) (h0 : x0 < 16) (h1 : x1 < 65536) (h : op * 2 ^ 25 + x0 * 2 ^ 21 + x1 = w) :
    w ≠ 0 ∧ fld w 31 25 = op ∧ fld w 24 21 = x0 ∧ fld w 20 16 = 0 ∧ fld w 15 0 = x1 := by
  refine ⟨by omega, ?_, ?_, ?_, ?_⟩
  · apply fld_mid (0) (op) (x0 * 2 ^ 21 + x1) <;> omega
  · apply fld_mid (op) (x0) (x1) <;> omega
  · apply fld_mid (op * 2 ^ 4 + x0) (0) (x1) <;> omega
  · apply fld_mid (op * 2 ^ 9 + x0 * 2 ^ 5) (x1) (0) <;> omega

theorem shape11 {op x0 x1 w : Nat} (ho : 0 < op) (hp : op < 128) (h0 : x0 < 256) (h1 : x1 < 65536) (h : op * 2 ^ 25 + x0 * 2 ^ 17 + x1 = w) :
    w ≠ 0 ∧ fld w 31 25 = op ∧ fld w 24 17 = x0 ∧ fld w 16 16 = 0 ∧ fld w 15 0 = x1 := by
  refine ⟨by omega, ?_, ?_, ?_, ?_⟩
  · apply fld_mid (0) (op) (x0 * 2 ^ 17 + x1) <;> omega
  · apply fld_mid (op) (x0) (x1) <;> omega
  · apply fld_mid (op * 2 ^ 8 + x0) (0) (x1) <;> omega
  · apply fld_mid (op * 2 ^ 9 + x0 * 2 ^ 1) (x1) (0) <;> omega

theorem shape12 {op s x0 w : Nat} (ho : 0 < op) (hp : op < 128) (hs : s < 16) (h0 : x0 < 16) (h : op * 2 ^ 25 + s + x0 * 2 ^ 21 = w) :
    w ≠ 0 ∧ fld w 31 25 = op ∧ fld w 24 21 = x0 ∧ fld w 20 0 = s := by
  refine ⟨by omega, ?_, ?_, ?_⟩
  · apply fld_mid (0) (op) (s + x0 * 2 ^ 21) <;> omega
  · apply fld_mid (op) (x0) (s) <;> omega
  · apply fld_mid (op * 2 ^ 4 + x0) (s) (0) <;> omega

theorem shape13 {op s x0 x1 x2 x3 x4 w : Nat} (ho : 0 < op) (hp : op < 128) (hs : s < 16) (h0 : x0 < 2) (h1 : x1 < 4) (h2 : x2 < 32) (h3 : x3 < 64) (h4 : x4 < 64) (h : op * 2 ^ 25 + s + x0 * 2 ^ 24 + x1 * 2 ^ 22 + x2 * 2 ^ 16 + x3 * 2 ^ 10 + x4 * 2 ^ 4 = w) :
    w ≠ 0 ∧ fld w 31 25 = op ∧ fld w 24 24 = x0 ∧ fld w 23 22 = x1 ∧ fld w 21 16 = x2 ∧ fld w 15 10 = x3 ∧ fld w 9 4 = x4 ∧ fld w 9 0 = s + x4 * 2 ^ 4 ∧ fld w 3 0 = s := by
  refine ⟨by omega, ?_, ?_, ?_, ?_, ?_, ?_, ?_, ?_⟩
  · apply fld_mid (0) (op) (s + x0 * 2 ^ 24 + x1 * 2 ^ 22 + x2 * 2 ^ 16 + x3 * 2 ^ 10 + x4 * 2 ^ 4) <;> omega
  · apply fld_mid (op) (x0) (s + x1 * 2 ^ 22 + x2 * 2 ^ 16 + x3 * 2 ^ 10 + x4 * 2 ^ 4) <;> omega
  · apply fld_mid (op * 2 ^ 1 + x0) (x1) (s + x2 * 2 ^ 16 + x3 * 2 ^ 10 + x4 * 2 ^ 4) <;> omega
  · apply fld_mid (op * 2 ^ 3 + x0 * 2 ^ 2 + x1) (x2) (s + x3 * 2 ^ 10 + x4 * 2 ^ 4) <;> omega
  · apply fld_mid (op * 2 ^ 9 + x0 * 2 ^ 8 + x1 * 2 ^ 6 + x2) (x3) (s + x4 * 2 ^ 4) <;> omega
  · apply fld_mid (op * 2 ^ 15 + x0 * 2 ^ 14 + x1 * 2 ^ 12 + x2 * 2 ^ 6 + x3) (x4) (s) <;> omega
  · apply fld_mid (op * 2 ^ 15 + x0 * 2 ^ 14 + x1 * 2 ^ 12 + x2 * 2 ^ 6 + x3) (s + x4 * 2 ^ 4) (0) <;> omega
  · apply fld_mid (op * 2 ^ 21 + x0 * 2 ^ 20 + x1 * 2 ^ 18 + x2 * 2 ^ 12 + x3 * 2 ^ 6 + x4) (s) (0) <;> omega

theorem shape14 {op s x0 x1 x2 x3 w : Nat} (ho : 0 < op) (hp : op < 128) (hs : s < 16) (h0 : x0 < 2) (h1 : x1 < 4) (h2 : x2 < 32) (h3 : x3 < 64) (h : op * 2 ^ 25 + s + x0 * 2 ^ 24 + x1 * 2 ^ 22 + x2 * 2 ^ 16 + x3 * 2 ^ 10 = w) :
    w ≠ 0 ∧ fld w 31 25 = op ∧ fld w 24 24 = x0 ∧ fld w 23 22 = x1 ∧ fld w 21 16 = x2 ∧ fld w 15 10 = x3 ∧ fld w 9 4 = 0 ∧ fld w 9 0 = s ∧ fld w 3 0 = s := by
  refine ⟨by omega, ?_, ?_, ?_, ?_, ?_, ?_, ?_, ?_⟩
  · apply fld_mid (0) (op) (s + x0 * 2 ^ 24 + x1 * 2 ^ 22 + x2 * 2 ^ 16 + x3 * 2 ^ 10) <;> omega
  · apply fld_mid (op) (x0) (s + x1 * 2 ^ 22 + x2 * 2 ^ 16 + x3 * 2 ^ 10) <;> omega
  · apply fld_mid (op * 2 ^ 1 + x0) (x1) (s + x2 * 2 ^ 16 + x3 * 2 ^ 10) <;> omega
  · apply fld_mid (op * 2 ^ 3 + x0 * 2 ^ 2 + x1) (x2) (s + x3 * 2 ^ 10) <;> omega
  · apply fld_mid (op * 2 ^ 9 + x0 * 2 ^ 8 + x1 * 2 ^ 6 + x2) (x3) (s) <;> omega
  · apply fld_mid (op * 2 ^ 15 + x0 * 2 ^ 14 + x1 * 2 ^ 12 + x2 * 2 ^ 6 + x3) (0) (s) <;> omega
  · apply fld_mid (op * 2 ^ 15 + x0 * 2 ^ 14 + x1 * 2 ^ 12 + x2 * 2 ^ 6 + x3) (s) (0) <;> omega
  · apply fld_mid (op * 2 ^ 21 + x0 * 2 ^ 20 + x1 * 2 ^ 18 + x2 * 2 ^ 12 + x3 * 2 ^ 6) (s) (0) <;> omega

theorem shape15 {op s x0 x1 x2 x3 x4 w : Nat} (ho : 0 < op) (hp : op < 128) (hs : s < 16) (h0 : x0 < 2) (h1 : x1 < 4) (h2 : x2 < 8) (h3 : x3 < 64) (h4 : x4 < 64) (h : op * 2 ^ 25 + s + x0 * 2 ^ 24 + x1 * 2 ^ 22 + x2 * 2 ^ 16 + x3 * 2 ^ 10 + x4 * 2 ^ 4 = w) :
    w ≠ 0 ∧ fld w 31 25 = op ∧ fld w 24 24 = x0 ∧ fld w 23 22 = x1 ∧ fld w 21 19 = 0 ∧ fld w 18 16 = x2 ∧ fld w 15 10 = x3 ∧ fld w 9 4 = x4 ∧ fld w 3 0 = s := by
  refine ⟨by omega, ?_, ?_, ?_, ?_, ?_, ?_, ?_, ?_⟩
  · apply fld_mid (0) (op) (s + x0 * 2 ^ 24 + x1 * 2 ^ 22 + x2 * 2 ^ 16 + x3 * 2 ^ 10 + x4 * 2 ^ 4) <;> omega
  · apply fld_mid (op) (x0) (s + x1 * 2 ^ 22 + x2 * 2 ^ 16 + x3 * 2 ^ 10 + x4 * 2 ^ 4) <;> omega
  · apply fld_mid (op * 2 ^ 1 + x0) (x1) (s + x2 * 2 ^ 16 + x3 * 2 ^ 10 + x4 * 2 ^ 4) <;> omega
  · apply fld_mid (op * 2 ^ 3 + x0 * 2 ^ 2 + x1) (0) (s + x2 * 2 ^ 16 + x3 * 2 ^ 10 + x4 * 2 ^ 4) <;> omega
  · apply fld_mid (op * 2 ^ 6 + x0 * 2 ^ 5 + x1 * 2 ^ 3) (x2) (s + x3 * 2 ^ 10 + x4 * 2 ^ 4) <;> omega
  · apply fld_mid (op * 2 ^ 9 + x0 * 2 ^ 8 + x1 * 2 ^ 6 + x2) (x3) (s + x4 * 2 ^ 4) <;> omega
  · apply fld_mid (op * 2 ^ 15 + x0 * 2 ^ 14 + x1 * 2 ^ 12 + x2 * 2 ^ 6 + x3) (x4) (s) <;> omega
  · apply fld_mid (op * 2 ^ 21 + x0 * 2 ^ 20 + x1 * 2 ^ 18 + x2 * 2 ^ 12 + x3 * 2 ^ 6 + x4) (s) (0) <;> omega

theorem shape16 {op x0 x1 x2 x3 x4 x5 x6 w : Nat} (ho : 0 < op) (hp : op < 128) (h0 : x0 < 2) (h1 : x1 < 4) (h2 : x2 < 32) (h3 : x3 < 64) (h4 : x4 < 64) (h5 : x5 < 2) (h6 : x6 < 8) (h : op * 2 ^ 25 + x0 * 2 ^ 24 + x1 * 2 ^ 22 + x2 * 2 ^ 16 + x3 * 2 ^ 10 + x4 * 2 ^ 4 + x5 * 2 ^ 3 + x6 = w) :
    w ≠ 0 ∧ fld w 31 25 = op ∧ fld w 24 24 = x0 ∧ fld w 23 22 = x1 ∧ fld w 21 16 = x2 ∧ fld w 15 10 = x3 ∧ fld w 9 4 = x4 ∧ fld w 3 3 = x5 ∧ fld w 2 0 = x6 := by
  refine ⟨by omega, ?_, ?_, ?_, ?_, ?_, ?_, ?_, ?_⟩
  · apply fld_mid (0) (op) (x0 * 2 ^ 24 + x1 * 2 ^ 22 + x2 * 2 ^ 16 + x3 * 2 ^ 10 + x4 * 2 ^ 4 + x5 * 2 ^ 3 + x6) <;> omega
  · apply fld_mid (op) (x0) (x1 * 2 ^ 22 + x2 * 2 ^ 16 + x3 * 2 ^ 10 + x4 * 2 ^ 4 + x5 * 2 ^ 3 + x6) <;> omega
  · apply fld_mid (op * 2 ^ 1 + x0) (x1) (x2 * 2 ^ 16 + x3 * 2 ^ 10 + x4 * 2 ^ 4 + x5 * 2 ^ 3 + x6) <;> omega
  · apply fld_mid (op * 2 ^ 3 + x0 * 2 ^ 2 + x1) (x2) (x3 * 2 ^ 10 + x4 * 2 ^ 4 + x5 * 2 ^ 3 + x6) <;> omega
  · apply fld_mid (op * 2 ^ 9 + x0 * 2 ^ 8 + x1 * 2 ^ 6 + x2) (x3) (x4 * 2 ^ 4 + x5 * 2 ^ 3 + x6) <;> omega
  · apply fld_mid (op * 2 ^ 15 + x0 * 2 ^ 14 + x1 * 2 ^ 12 + x2 * 2 ^ 6 + x3) (x4) (x5 * 2 ^ 3 + x6) <;> omega
  · apply fld_mid (op * 2 ^ 21 + x0 * 2 ^ 20 + x1 * 2 ^ 18 + x2 * 2 ^ 12 + x3 * 2 ^ 6 + x4) (x5) (x6) <;> omega
  · apply fld_mid (op * 2 ^ 22 + x0 * 2 ^ 21 + x1 * 2 ^ 19 + x2 * 2 ^ 13 + x3 * 2 ^ 7 + x4 * 2 ^ 1 + x5) (x6) (0) <;> omega

theorem shape17 {op x0 x1 x2 x3 w : Nat} (ho : 0 < op) (hp : op < 128) (h0 : x0 < 2) (h1 : x1 < 4) (h2 : x2 < 32) (h3 : x3 < 65536) (h : op * 2 ^ 25 + x0 * 2 ^ 24 + x1 * 2 ^ 22 + x2 * 2 ^ 16 + x3 = w) :
    w ≠ 0 ∧ fld w 31 25 = op ∧ fld w 24 24 = x0 ∧ fld w 23 22 = x1 ∧ fld w 21 16 = x2 ∧ fld w 15 0 = x3 := by
  refine ⟨by omega, ?_, ?_, ?_, ?_, ?_⟩
  · apply fld_mid (0) (op) (x0 * 2 ^ 24 + x1 * 2 ^ 22 + x2 * 2 ^ 16 + x3) <;> omega
  · apply fld_mid (op) (x0) (x1 * 2 ^ 22 + x2 * 2 ^ 16 + x3) <;> omega
  · apply fld_mid (op * 2 ^ 1 + x0) (x1) (x2 * 2 ^ 16 + x3) <;> omega
  · apply fld_mid (op * 2 ^ 3 + x0 * 2 ^ 2 + x1) (x2) (x3) <;> omega
  · apply fld_mid (op * 2 ^ 9 + x0 * 2 ^ 8 + x1 * 2 ^ 6 + x2) (x3) (0) <;> omega

theorem shape18 {op x0 x1 x2 x3 w : Nat} (ho : 0 < op) (hp : op < 128) (h0 : x0 < 2) (h1 : x1 < 4) (h2 : x2 < 32) (h3 : x3 < 64) (h : op * 2 ^ 25 + x0 * 2 ^ 24 + x1 * 2 ^ 22 + x2 * 2 ^ 16 + x3 = w) :
    w ≠ 0 ∧ fld w 31 25 = op ∧ fld w 24 24 = x0 ∧ fld w 23 22 = x1 ∧ fld w 21 16 = x2 ∧ fld w 15 6 = 0 ∧ fld w 5 0 = x3 := by
  refine ⟨by omega, ?_, ?_, ?_, ?_, ?_, ?_⟩
  · apply fld_mid (0) (op) (x0 * 2 ^ 24 + x1 * 2 ^ 22 + x2 * 2 ^ 16 + x3) <;> omega
  · apply fld_mid (op) (x0) (x1 * 2 ^ 22 + x2 * 2 ^ 16 + x3) <;> omega
  · apply fld_mid (op * 2 ^ 1 + x0) (x1) (x2 * 2 ^ 16 + x3) <;> omega
  · apply fld_mid (op * 2 ^ 3 + x0 * 2 ^ 2 + x1) (x2) (x3) <;> omega
  · apply fld_mid (op * 2 ^ 9 + x0 * 2 ^ 8 + x1 * 2 ^ 6 + x2) (0) (x3) <;> omega
  · apply fld_mid (op * 2 ^ 19 + x0 * 2 ^ 18 + x1 * 2 ^ 16 + x2 * 2 ^ 10) (x3) (0) <;> omega

theorem shape19 {op x0 x1 x2 x3 x4 w : Nat} (ho : 0 < op) (hp : op < 128) (h0 : x0 < 2) (h1 : x1 < 4) (h2 : x2 < 32) (h3 : x3 < 32) (h4 : x4 < 1024) (h : op * 2 ^ 25 + x0 * 2 ^ 24 + x1 * 2 ^ 22 + x2 * 2 ^ 16 + x3 * 2 ^ 10 + x4 = w) :
    w ≠ 0 ∧ fld w 31 25 = op ∧ fld w 24 24 = x0 ∧ fld w 23 22 = x1 ∧ fld w 21 16 = x2 ∧ fld w 15 15 = 0 ∧ fld w 14 10 = x3 ∧ fld w 9 0 = x4 := by
  refine ⟨by omega, ?_, ?_, ?_, ?_, ?_, ?_, ?_⟩
  · apply fld_mid (0) (op) (x0 * 2 ^ 24 + x1 * 2 ^ 22 + x2 * 2 ^ 16 + x3 * 2 ^ 10 + x4) <;> omega
  · apply fld_mid (op) (x0) (x1 * 2 ^ 22 + x2 * 2 ^ 16 + x3 * 2 ^ 10 + x4) <;> omega
  · apply fld_mid (op * 2 ^ 1 + x0) (x1) (x2 * 2 ^ 16 + x3 * 2 ^ 10 + x4) <;> omega
  · apply fld_mid (op * 2 ^ 3 + x0 * 2 ^ 2 + x1) (x2) (x3 * 2 ^ 10 + x4) <;> omega
  · apply fld_mid (op * 2 ^ 9 + x0 * 2 ^ 8 + x1 * 2 ^ 6 + x2) (0) (x3 * 2 ^ 10 + x4) <;> omega
  · apply fld_mid (op * 2 ^ 10 + x0 * 2 ^ 9 + x1 * 2 ^ 7 + x2 * 2 ^ 1) (x3) (x4) <;> omega
  · apply fld_mid (op * 2 ^ 15 + x0 * 2 ^ 14 + x1 * 2 ^ 12 + x2 * 2 ^ 6 + x3) (x4) (0) <;> omega

theorem shape20 {op x0 x1 x2 x3 w : Nat} (ho : 0 < op) (hp : op < 128) (h0 : x0 < 2) (h1 : x1 < 4) (h2 : x2 < 32) (h3 : x3 < 8) (h : op * 2 ^ 25 + 32768 + x0 * 2 ^ 24 + x1 * 2 ^ 22 + x2 * 2 ^ 16 + x3 * 2 ^ 12 = w) :
    w ≠ 0 ∧ fld w 31 25 = op ∧ fld w 24 24 = x0 ∧ fld w 23 22 = x1 ∧ fld w 21 16 = x2 ∧ fld w 15 15 = 1 ∧ fld w 14 12 = x3 ∧ fld w 14 10 = x3 * 2 ^ 2 ∧ fld w 11 0 = 0 ∧ fld w 9 0 = 0 := by
  refine ⟨by omega, ?_, ?_, ?_, ?_, ?_, ?_, ?_, ?_, ?_⟩
  · apply fld_mid (0) (op) (x0 * 2 ^ 24 + x1 * 2 ^ 22 + x2 * 2 ^ 16 + x3 * 2 ^ 12 + 32768) <;> omega
  · apply fld_mid (op) (x0) (x1 * 2 ^ 22 + x2 * 2 ^ 16 + x3 * 2 ^ 12 + 32768) <;> omega
  · apply fld_mid (op * 2 ^ 1 + x0) (x1) (x2 * 2 ^ 16 + x3 * 2 ^ 12 + 32768) <;> omega
  · apply fld_mid (op * 2 ^ 3 + x0 * 2 ^ 2 + x1) (x2) (x3 * 2 ^ 12 + 32768) <;> omega
  · apply fld_mid (op * 2 ^ 9 + x0 * 2 ^ 8 + x1 * 2 ^ 6 + x2) (1) (x3 * 2 ^ 12) <;> omega
  · apply fld_mid (op * 2 ^ 10 + x0 * 2 ^ 9 + x1 * 2 ^ 7 + x2 * 2 ^ 1 + 1) (x3) (0) <;> omega
  · apply fld_mid (op * 2 ^ 10 + x0 * 2 ^ 9 + x1 * 2 ^ 7 + x2 * 2 ^ 1 + 1) (x3 * 2 ^ 2) (0) <;> omega
  · apply fld_mid (op * 2 ^ 13 + x0 * 2 ^ 12 + x1 * 2 ^ 10 + x2 * 2 ^ 4 + x3 + 8) (0) (0) <;> omega
  · apply fld_mid (op * 2 ^ 15 + x0 * 2 ^ 14 + x1 * 2 ^ 12 + x2 * 2 ^ 6 + x3 * 2 ^ 2 + 32) (0) (0) <;> omega

theorem shape21 {op x0 x1 x2 w : Nat} (ho : 0 < op) (hp : op < 128) (h0 : x0 < 64) (h1 : x1 < 32) (h2 : x2 < 1024) (h : op * 2 ^ 25 + x0 * 2 ^ 16 + x1 * 2 ^ 10 + x2 = w) :
    w ≠ 0 ∧ fld w 31 25 = op ∧ fld w 24 22 = 0 ∧ fld w 21 16 = x0 ∧ fld w 15 15 = 0 ∧ fld w 14 10 = x1 ∧ fld w 9 0 = x2 := by
  refine ⟨by omega, ?_, ?_, ?_, ?_, ?_, ?_⟩
  · apply fld_mid (0) (op) (x0 * 2 ^ 16 + x1 * 2 ^ 10 + x2) <;> omega
  · apply fld_mid (op) (0) (x0 * 2 ^ 16 + x1 * 2 ^ 10 + x2) <;> omega
  · apply fld_mid (op * 2 ^ 3) (x0) (x1 * 2 ^ 10 + x2) <;> omega
  · apply fld_mid (op * 2 ^ 9 + x0) (0) (x1 * 2 ^ 10 + x2) <;> omega
  · apply fld_mid (op * 2 ^ 10 + x0 * 2 ^ 1) (x1) (x2) <;> omega
  · apply fld_mid (op * 2 ^ 15 + x0 * 2 ^ 6 + x1) (x2) (0) <;> omega

theorem shape22 {op x0 x1 w : Nat} (ho : 0 < op) (hp : op < 128) (h0 : x0 < 64) (h1 : x1 < 8) (h : op * 2 ^ 25 + 32768 + x0 * 2 ^ 16 + x1 * 2 ^ 12 = w) :
    w ≠ 0 ∧ fld w 31 25 = op ∧ fld w 24 22 = 0 ∧ fld w 21 16 = x0 ∧ fld w 15 15 = 1 ∧ fld w 14 12 = x1 ∧ fld w 14 10 = x1 * 2 ^ 2 ∧ fld w 11 0 = 0 ∧ fld w 9 0 = 0 := by
  refine ⟨by omega, ?_, ?_, ?_, ?_, ?_, ?_, ?_, ?_⟩
  · apply fld_mid (0) (op) (x0 * 2 ^ 16 + x1 * 2 ^ 12 + 32768) <;> omega
  · apply fld_mid (op) (0) (x0 * 2 ^ 16 + x1 * 2 ^ 12 + 32768) <;> omega
  · apply fld_mid (op * 2 ^ 3) (x0) (x1 * 2 ^ 12 + 32768) <;> omega
  · apply fld_mid (op * 2 ^ 9 + x0) (1) (x1 * 2 ^ 12) <;> omega
  · apply fld_mid (op * 2 ^ 10 + x0 * 2 ^ 1 + 1) (x1) (0) <;> omega
  · apply fld_mid (op * 2 ^ 10 + x0 * 2 ^ 1 + 1) (x1 * 2 ^ 2) (0) <;> omega
  · apply fld_mid (op * 2 ^ 13 + x0 * 2 ^ 4 + x1 + 8) (0) (0) <;> omega
  · apply fld_mid (op * 2 ^ 15 + x0 * 2 ^ 6 + x1 * 2 ^ 2 + 32) (0) (0) <;> omega

theorem shape23 {op s x0 x1 w : Nat} (ho : 0 < op) (hp : op < 128) (hs : s < 16) (h0 : x0 < 32) (h1 : x1 < 64) (h : op * 2 ^ 25 + s + x0 * 2 ^ 16 + x1 * 2 ^ 10 = w) :
    w ≠ 0 ∧ fld w 31 25 = op ∧ fld w 24 22 = 0 ∧ fld w 24 21 = 0 ∧ fld w 21 16 = x0 ∧ fld w 20 16 = x0 ∧ fld w 15 10 = x1 ∧ fld w 9 0 = s := by
  refine ⟨by omega, ?_, ?_, ?_, ?_, ?_, ?_, ?_⟩
  · apply fld_mid (0) (op) (s + x0 * 2 ^ 16 + x1 * 2 ^ 10) <;> omega
  · apply fld_mid (op) (0) (s + x0 * 2 ^ 16 + x1 * 2 ^ 10) <;> omega
  · apply fld_mid (op) (0) (s + x0 * 2 ^ 16 + x1 * 2 ^ 10) <;> omega
  · apply fld_mid (op * 2 ^ 3) (x0) (s + x1 * 2 ^ 10) <;> omega
  · apply fld_mid (op * 2 ^ 4) (x0) (s + x1 * 2 ^ 10) <;> omega
  · apply fld_mid (op * 2 ^ 9 + x0) (x1) (s) <;> omega
  · apply fld_mid (op * 2 ^ 15 + x0 * 2 ^ 6 + x1) (s) (0) <;> omega

theorem shape24 {op s x0 x1 w : Nat} (ho : 0 < op) (hp : op < 128) (hs : s < 16) (h0 : x0 < 8) (h1 : x1 < 64) (h : op * 2 ^ 25 + s + x0 * 2 ^ 16 + x1 * 2 ^ 10 = w) :
    w ≠ 0 ∧ fld w 31 25 = op ∧ fld w 24 19 = 0 ∧ fld w 18 16 = x0 ∧ fld w 15 10 = x1 ∧ fld w 9 0 = s := by
  refine ⟨by omega, ?_, ?_, ?_, ?_, ?_⟩
  · apply fld_mid (0) (op) (s + x0 * 2 ^ 16 + x1 * 2 ^ 10) <;> omega
  · apply fld_mid (op) (0) (s + x0 * 2 ^ 16 + x1 * 2 ^ 10) <;> omega
  · apply fld_mid (op * 2 ^ 6) (x0) (s + x1 * 2 ^ 10) <;> omega
  · apply fld_mid (op * 2 ^ 9 + x0) (x1) (s) <;> omega
  · apply fld_mid (op * 2 ^ 15 + x0 * 2 ^ 6 + x1) (s) (0) <;> omega

theorem shape25 {op s x0 x1 x2 w : Nat} (ho : 0 < op) (hp : op < 128) (hs : s < 16) (h0 : x0 < 8) (h1 : x1 < 4) (h2 : x2 < 64) (h : op * 2 ^ 25 + s + x0 * 2 ^ 18 + x1 * 2 ^ 16 + x2 * 2 ^ 10 = w) :
    w ≠ 0 ∧ fld w 31 25 = op ∧ fld w 24 21 = 0 ∧ fld w 20 18 = x0 ∧ fld w 17 16 = x1 ∧ fld w 15 10 = x2 ∧ fld w 9 0 = s := by
  refine ⟨by omega, ?_, ?_, ?_, ?_, ?_, ?_⟩
  · apply fld_mid (0) (op) (s + x0 * 2 ^ 18 + x1 * 2 ^ 16 + x2 * 2 ^ 10) <;> omega
  · apply fld_mid (op) (0) (s + x0 * 2 ^ 18 + x1 * 2 ^ 16 + x2 * 2 ^ 10) <;> omega
  · apply fld_mid (op * 2 ^ 4) (x0) (s + x1 * 2 ^ 16 + x2 * 2 ^ 10) <;> omega
  · apply fld_mid (op * 2 ^ 7 + x0) (x1) (s + x2 * 2 ^ 10) <;> omega
  · apply fld_mid (op * 2 ^ 9 + x0 * 2 ^ 2 + x1) (x2) (s) <;> omega
  · apply fld_mid (op * 2 ^ 15 + x0 * 2 ^ 8 + x1 * 2 ^ 6 + x2) (s) (0) <;> omega

theorem shape26 {op s x0 x1 w : Nat} (ho : 0 < op) (hp : op < 128) (hs : s < 16) (h0 : x0 < 4) (h1 : x1 < 64) (h : op * 2 ^ 25 + s + x0 * 2 ^ 16 + x1 * 2 ^ 10 = w) :
    w ≠ 0 ∧ fld w 31 25 = op ∧ fld w 24 18 = 0 ∧ fld w 17 16 = x0 ∧ fld w 15 10 = x1 ∧ fld w 9 0 = s := by
  refine ⟨by omega, ?_, ?_, ?_, ?_, ?_⟩
  · apply fld_mid (0) (op) (s + x0 * 2 ^ 16 + x1 * 2 ^ 10) <;> omega
  · apply fld_mid (op) (0) (s + x0 * 2 ^ 16 + x1 * 2 ^ 10) <;> omega
  · apply fld_mid (op * 2 ^ 7) (x0) (s + x1 * 2 ^ 10) <;> omega
  · apply fld_mid (op * 2 ^ 9 + x0) (x1) (s) <;> omega
  · apply fld_mid (op * 2 ^ 15 + x0 * 2 ^ 6 + x1) (s) (0) <;> omega

theorem shape27 {op s x0 x1 x2 w : Nat} (ho : 0 < op) (hp : op < 128) (hs : s < 16) (h0 : x0 < 4) (h1 : x1 < 64) (h2 : x2 < 64) (h : op * 2 ^ 25 + s + x0 * 2 ^ 16 + x1 * 2 ^ 10 + x2 * 2 ^ 4 = w) :
    w ≠ 0 ∧ fld w 31 25 = op ∧ fld w 24 18 = 0 ∧ fld w 17 16 = x0 ∧ fld w 15 10 = x1 ∧ fld w 9 4 = x2 ∧ fld w 3 0 = s := by
  refine ⟨by omega, ?_, ?_, ?_, ?_, ?_, ?_⟩
  · apply fld_mid (0) (op) (s + x0 * 2 ^ 16 + x1 * 2 ^ 10 + x2 * 2 ^ 4) <;> omega
  · apply fld_mid (op) (0) (s + x0 * 2 ^ 16 + x1 * 2 ^ 10 + x2 * 2 ^ 4) <;> omega
  · apply fld_mid (op * 2 ^ 7) (x0) (s + x1 * 2 ^ 10 + x2 * 2 ^ 4) <;> omega
  · apply fld_mid (op * 2 ^ 9 + x0) (x1) (s + x2 * 2 ^ 4) <;> omega
  · apply fld_mid (op * 2 ^ 15 + x0 * 2 ^ 6 + x1) (x2) (s) <;> omega
  · apply fld_mid (op * 2 ^ 21 + x0 * 2 ^ 12 + x1 * 2 ^ 6 + x2) (s) (0) <;> omega

theorem shape28 {op s x0 x1 x2 w : Nat} (ho : 0 < op) (hp : op < 128) (hs : s < 16) (h0 : x0 < 2) (h1 : x1 < 4) (h2 : x2 < 32) (h : op * 2 ^ 25 + s + x0 * 2 ^ 24 + x1 * 2 ^ 22 + x2 * 2 ^ 16 = w) :
    w ≠ 0 ∧ fld w 31 25 = op ∧ fld w 24 24 = x0 ∧ fld w 23 22 = x1 ∧ fld w 21 16 = x2 ∧ fld w 15 0 = s := by
  refine ⟨by omega, ?_, ?_, ?_, ?_, ?_⟩
  · apply fld_mid (0) (op) (s + x0 * 2 ^ 24 + x1 * 2 ^ 22 + x2 * 2 ^ 16) <;> omega
  · apply fld_mid (op) (x0) (s + x1 * 2 ^ 22 + x2 * 2 ^ 16) <;> omega
  · apply fld_mid (op * 2 ^ 1 + x0) (x1) (s + x2 * 2 ^ 16) <;> omega
  · apply fld_mid (op * 2 ^ 3 + x0 * 2 ^ 2 + x1) (x2) (s) <;> omega
  · apply fld_mid (op * 2 ^ 9 + x0 * 2 ^ 8 + x1 * 2 ^ 6 + x2) (s) (0) <;> omega

theorem shape29 {op s x0 x1 w : Nat} (ho : 0 < op) (hp : op < 128) (hs : s < 16) (h0 : x0 < 64) (h1 : x1 < 64) (h : op * 2 ^ 25 + s + x0 * 2 ^ 10 + x1 * 2 ^ 4 = w) :
    w ≠ 0 ∧ fld w 31 25 = op ∧ fld w 24 16 = 0 ∧ fld w 15 10 = x0 ∧ fld w 9 4 = x1 ∧ fld w 3 0 = s := by
  refine ⟨by omega, ?_, ?_, ?_, ?_, ?_⟩
  · apply fld_mid (0) (op) (s + x0 * 2 ^ 10 + x1 * 2 ^ 4) <;> omega
  · apply fld_mid (op) (0) (s + x0 * 2 ^ 10 + x1 * 2 ^ 4) <;> omega
  · apply fld_mid (op * 2 ^ 9) (x0) (s + x1 * 2 ^ 4) <;> omega
  · apply fld_mid (op * 2 ^ 15 + x0) (x1) (s) <;> omega
  · apply fld_mid (op * 2 ^ 21 + x0 * 2 ^ 6 + x1) (s) (0) <;> omega

theorem shape30 {op s x0 w : Nat} (ho : 0 < op) (hp : op < 128) (hs : s < 16) (h0 : x0 < 64) (h : op * 2 ^ 25 + s + x0 * 2 ^ 10 = w) :
    w ≠ 0 ∧ fld w 31 25 = op ∧ fld w 24 16 = 0 ∧ fld w 24 0 = s + x0 * 2 ^ 10 ∧ fld w 15 10 = x0 ∧ fld w 9 0 = s := by
  refine ⟨by omega, ?_, ?_, ?_, ?_, ?_⟩
  · apply fld_mid (0) (op) (s + x0 * 2 ^ 10) <;> omega
  · apply fld_mid (op) (0) (s + x0 * 2 ^ 10) <;> omega
  · apply fld_mid (op) (s + x0 * 2 ^ 10) (0) <;> omega
  · apply fld_mid (op * 2 ^ 9) (x0) (s) <;> omega
  · apply fld_mid (op * 2 ^ 15 + x0) (s) (0) <;> omega

theorem shape31 {op x0 x1 x2 x3 x4 x5 w : Nat} (ho : 0 < op) (hp : op < 128) (h0 : x0 < 2) (h1 : x1 < 4) (h2 : x2 < 32) (h3 : x3 < 64) (h4 : x4 < 64) (h5 : x5 < 8) (h : op * 2 ^ 25 + x0 * 2 ^ 24 + x1 * 2 ^ 22 + x2 * 2 ^ 16 + x3 * 2 ^ 10 + x4 * 2 ^ 4 + x5 = w) :
    w ≠ 0 ∧ fld w 31 25 = op ∧ fld w 24 24 = x0 ∧ fld w 23 22 = x1 ∧ fld w 21 16 = x2 ∧ fld w 15 10 = x3 ∧ fld w 9 4 = x4 ∧ fld w 3 3 = 0 ∧ fld w 2 0 = x5 := by
  refine ⟨by omega, ?_, ?_, ?_, ?_, ?_, ?_, ?_, ?_⟩
  · apply fld_mid (0) (op) (x0 * 2 ^ 24 + x1 * 2 ^ 22 + x2 * 2 ^ 16 + x3 * 2 ^ 10 + x4 * 2 ^ 4 + x5) <;> omega
  · apply fld_mid (op) (x0) (x1 * 2 ^ 22 + x2 * 2 ^ 16 + x3 * 2 ^ 10 + x4 * 2 ^ 4 + x5) <;> omega
  · apply fld_mid (op * 2 ^ 1 + x0) (x1) (x2 * 2 ^ 16 + x3 * 2 ^ 10 + x4 * 2 ^ 4 + x5) <;> omega
  · apply fld_mid (op * 2 ^ 3 + x0 * 2 ^ 2 + x1) (x2) (x3 * 2 ^ 10 + x4 * 2 ^ 4 + x5) <;> omega
  · apply fld_mid (op * 2 ^ 9 + x0 * 2 ^ 8 + x1 * 2 ^ 6 + x2) (x3) (x4 * 2 ^ 4 + x5) <;> omega
  · apply fld_mid (op * 2 ^ 15 + x0 * 2 ^ 14 + x1 * 2 ^ 12 + x2 * 2 ^ 6 + x3) (x4) (x5) <;> omega
  · apply fld_mid (op * 2 ^ 21 + x0 * 2 ^ 20 + x1 * 2 ^ 18 + x2 * 2 ^ 12 + x3 * 2 ^ 6 + x4) (0) (x5) <;> omega
  · apply fld_mid (op * 2 ^ 22 + x0 * 2 ^ 21 + x1 * 2 ^ 19 + x2 * 2 ^ 13 + x3 * 2 ^ 7 + x4 * 2 ^ 1) (x5) (0) <;> omega

theorem shape32 {op x0 x1 x2 x3 x4 x5 x6 w : Nat} (ho : 0 < op) (hp : op < 128) (h0 : x0 < 2) (h1 : x1 < 4) (h2 : x2 < 32) (h3 : x3 < 64) (h4 : x4 < 8) (h5 : x5 < 8) (h6 : x6 < 8) (h : op * 2 ^ 25 + x0 * 2 ^ 24 + x1 * 2 ^ 22 + x2 * 2 ^ 16 + x3 * 2 ^ 10 + x4 * 2 ^ 7 + x5 * 2 ^ 4 + x6 = w) :
    w ≠ 0 ∧ fld w 31 25 = op ∧ fld w 24 24 = x0 ∧ fld w 23 22 = x1 ∧ fld w 21 16 = x2 ∧ fld w 15 10 = x3 ∧ fld w 9 7 = x4 ∧ fld w 6 4 = x5 ∧ fld w 3 3 = 0 ∧ fld w 2 0 = x6 := by
  refine ⟨by omega, ?_, ?_, ?_, ?_, ?_, ?_, ?_, ?_, ?_⟩
  · apply fld_mid (0) (op) (x0 * 2 ^ 24 + x1 * 2 ^ 22 + x2 * 2 ^ 16 + x3 * 2 ^ 10 + x4 * 2 ^ 7 + x5 * 2 ^ 4 + x6) <;> omega
  · apply fld_mid (op) (x0) (x1 * 2 ^ 22 + x2 * 2 ^ 16 + x3 * 2 ^ 10 + x4 * 2 ^ 7 + x5 * 2 ^ 4 + x6) <;> omega
  · apply fld_mid (op * 2 ^ 1 + x0) (x1) (x2 * 2 ^ 16 + x3 * 2 ^ 10 + x4 * 2 ^ 7 + x5 * 2 ^ 4 + x6) <;> omega
  · apply fld_mid (op * 2 ^ 3 + x0 * 2 ^ 2 + x1) (x2) (x3 * 2 ^ 10 + x4 * 2 ^ 7 + x5 * 2 ^ 4 + x6) <;> omega
  · apply fld_mid (op * 2 ^ 9 + x0 * 2 ^ 8 + x1 * 2 ^ 6 + x2) (x3) (x4 * 2 ^ 7 + x5 * 2 ^ 4 + x6) <;> omega
  · apply fld_mid (op * 2 ^ 15 + x0 * 2 ^ 14 + x1 * 2 ^ 12 + x2 * 2 ^ 6 + x3) (x4) (x5 * 2 ^ 4 + x6) <;> omega
  · apply fld_mid (op * 2 ^ 18 + x0 * 2 ^ 17 + x1 * 2 ^ 15 + x2 * 2 ^ 9 + x3 * 2 ^ 3 + x4) (x5) (x6) <;> omega
  · apply fld_mid (op * 2 ^ 21 + x0 * 2 ^ 20 + x1 * 2 ^ 18 + x2 * 2 ^ 12 + x3 * 2 ^ 6 + x4 * 2 ^ 3 + x5) (0) (x6) <;> omega
  · apply fld_mid (op * 2 ^ 22 + x0 * 2 ^ 21 + x1 * 2 ^ 19 + x2 * 2 ^ 13 + x3 * 2 ^ 7 + x4 * 2 ^ 4 + x5 * 2 ^ 1) (x6) (0) <;> omega

theorem shape33 {op x0 x1 x2 x3 x4 x5 w : Nat} (ho : 0 < op) (hp : op < 128) (h0 : x0 < 2) (h1 : x1 < 4) (h2 : x2 < 32) (h3 : x3 < 64) (h4 : x4 < 4) (h5 : x5 < 8) (h : op * 2 ^ 25 + x0 * 2 ^ 24 + x1 * 2 ^ 22 + x2 * 2 ^ 16 + x3 * 2 ^ 10 + x4 * 2 ^ 8 + x5 = w) :
    w ≠ 0 ∧ fld w 31 25 = op ∧ fld w 24 24 = x0 ∧ fld w 23 22 = x1 ∧ fld w 21 16 = x2 ∧ fld w 15 10 = x3 ∧ fld w 9 8 = x4 ∧ fld w 7 3 = 0 ∧ fld w 2 0 = x5 := by
  refine ⟨by omega, ?_, ?_, ?_, ?_, ?_, ?_, ?_, ?_⟩
  · apply fld_mid (0) (op) (x0 * 2 ^ 24 + x1 * 2 ^ 22 + x2 * 2 ^ 16 + x3 * 2 ^ 10 + x4 * 2 ^ 8 + x5) <;> omega
  · apply fld_mid (op) (x0) (x1 * 2 ^ 22 + x2 * 2 ^ 16 + x3 * 2 ^ 10 + x4 * 2 ^ 8 + x5) <;> omega
  · apply fld_mid (op * 2 ^ 1 + x0) (x1) (x2 * 2 ^ 16 + x3 * 2 ^ 10 + x4 * 2 ^ 8 + x5) <;> omega
  · apply fld_mid (op * 2 ^ 3 + x0 * 2 ^ 2 + x1) (x2) (x3 * 2 ^ 10 + x4 * 2 ^ 8 + x5) <;> omega
  · apply fld_mid (op * 2 ^ 9 + x0 * 2 ^ 8 + x1 * 2 ^ 6 + x2) (x3) (x4 * 2 ^ 8 + x5) <;> omega
  · apply fld_mid (op * 2 ^ 15 + x0 * 2 ^ 14 + x1 * 2 ^ 12 + x2 * 2 ^ 6 + x3) (x4) (x5) <;> omega
  · apply fld_mid (op * 2 ^ 17 + x0 * 2 ^ 16 + x1 * 2 ^ 14 + x2 * 2 ^ 8 + x3 * 2 ^ 2 + x4) (0) (x5) <;> omega
  · apply fld_mid (op * 2 ^ 22 + x0 * 2 ^ 21 + x1 * 2 ^ 19 + x2 * 2 ^ 13 + x3 * 2 ^ 7 + x4 * 2 ^ 5) (x5) (0) <;> omega

theorem shape34 {op x0 x1 x2 x3 x4 x5 w : Nat} (ho : 0 < op) (hp : op < 128) (h0 : x0 < 2) (h1 : x1 < 4) (h2 : x2 < 32) (h3 : x3 < 64) (h4 : x4 < 8) (h5 : x5 < 8) (h : op * 2 ^ 25 + x0 * 2 ^ 24 + x1 * 2 ^ 22 + x2 * 2 ^ 16 + x3 * 2 ^ 10 + x4 * 2 ^ 7 + x5 = w) :
    w ≠ 0 ∧ fld w 31 25 = op ∧ fld w 24 24 = x0 ∧ fld w 23 22 = x1 ∧ fld w 21 16 = x2 ∧ fld w 15 10 = x3 ∧ fld w 9 7 = x4 ∧ fld w 6 3 = 0 ∧ fld w 2 0 = x5 := by
  refine ⟨by omega, ?_, ?_, ?_, ?_, ?_, ?_, ?_, ?_⟩
  · apply fld_mid (0) (op) (x0 * 2 ^ 24 + x1 * 2 ^ 22 + x2 * 2 ^ 16 + x3 * 2 ^ 10 + x4 * 2 ^ 7 + x5) <;> omega
  · apply fld_mid (op) (x0) (x1 * 2 ^ 22 + x2 * 2 ^ 16 + x3 * 2 ^ 10 + x4 * 2 ^ 7 + x5) <;> omega
  · apply fld_mid (op * 2 ^ 1 + x0) (x1) (x2 * 2 ^ 16 + x3 * 2 ^ 10 + x4 * 2 ^ 7 + x5) <;> omega
  · apply fld_mid (op * 2 ^ 3 + x0 * 2 ^ 2 + x1) (x2) (x3 * 2 ^ 10 + x4 * 2 ^ 7 + x5) <;> omega
  · apply fld_mid (op * 2 ^ 9 + x0 * 2 ^ 8 + x1 * 2 ^ 6 + x2) (x3) (x4 * 2 ^ 7 + x5) <;> omega
  · apply fld_mid (op * 2 ^ 15 + x0 * 2 ^ 14 + x1 * 2 ^ 12 + x2 * 2 ^ 6 + x3) (x4) (x5) <;> omega
  · apply fld_mid (op * 2 ^ 18 + x0 * 2 ^ 17 + x1 * 2 ^ 15 + x2 * 2 ^ 9 + x3 * 2 ^ 3 + x4) (0) (x5) <;> omega
  · apply fld_mid (op * 2 ^ 22 + x0 * 2 ^ 21 + x1 * 2 ^ 19 + x2 * 2 ^ 13 + x3 * 2 ^ 7 + x4 * 2 ^ 4) (x5) (0) <;> omega

theorem shape35 {op x0 x1 x2 x3 x4 w : Nat} (ho : 0 < op) (hp : op < 128) (h0 : x0 < 2) (h1 : x1 < 4) (h2 : x2 < 32) (h3 : x3 < 64) (h4 : x4 < 4) (h : op * 2 ^ 25 + x0 * 2 ^ 24 + x1 * 2 ^ 22 + x2 * 2 ^ 16 + x3 * 2 ^ 10 + x4 * 2 ^ 2 = w) :
    w ≠ 0 ∧ fld w 31 25 = op ∧ fld w 24 24 = x0 ∧ fld w 23 22 = x1 ∧ fld w 21 16 = x2 ∧ fld w 15 10 = x3 ∧ fld w 9 4 = 0 ∧ fld w 3 2 = x4 ∧ fld w 1 0 = 0 := by
  refine ⟨by omega, ?_, ?_, ?_, ?_, ?_, ?_, ?_, ?_⟩
  · apply fld_mid (0) (op) (x0 * 2 ^ 24 + x1 * 2 ^ 22 + x2 * 2 ^ 16 + x3 * 2 ^ 10 + x4 * 2 ^ 2) <;> omega
  · apply fld_mid (op) (x0) (x1 * 2 ^ 22 + x2 * 2 ^ 16 + x3 * 2 ^ 10 + x4 * 2 ^ 2) <;> omega
  · apply fld_mid (op * 2 ^ 1 + x0) (x1) (x2 * 2 ^ 16 + x3 * 2 ^ 10 + x4 * 2 ^ 2) <;> omega
  · apply fld_mid (op * 2 ^ 3 + x0 * 2 ^ 2 + x1) (x2) (x3 * 2 ^ 10 + x4 * 2 ^ 2) <;> omega
  · apply fld_mid (op * 2 ^ 9 + x0 * 2 ^ 8 + x1 * 2 ^ 6 + x2) (x3) (x4 * 2 ^ 2) <;> omega
  · apply fld_mid (op * 2 ^ 15 + x0 * 2 ^ 14 + x1 * 2 ^ 12 + x2 * 2 ^ 6 + x3) (0) (x4 * 2 ^ 2) <;> omega
  · apply fld_mid (op * 2 ^ 21 + x0 * 2 ^ 20 + x1 * 2 ^ 18 + x2 * 2 ^ 12 + x3 * 2 ^ 6) (x4) (0) <;> omega
  · apply fld_mid (op * 2 ^ 23 + x0 * 2 ^ 22 + x1 * 2 ^ 20 + x2 * 2 ^ 14 + x3 * 2 ^ 8 + x4) (0) (0) <;> omega

theorem shape36 {op x0 x1 x2 x3 x4 w : Nat} (ho : 0 < op) (hp : op < 128) (h0 : x0 < 2) (h1 : x1 < 4) (h2 : x2 < 32) (h3 : x3 < 64) (h4 : x4 < 4) (h : op * 2 ^ 25 + 1 + x0 * 2 ^ 24 + x1 * 2 ^ 22 + x2 * 2 ^ 16 + x3 * 2 ^ 10 + x4 * 2 ^ 2 = w) :
    w ≠ 0 ∧ fld w 31 25 = op ∧ fld w 24 24 = x0 ∧ fld w 23 22 = x1 ∧ fld w 21 16 = x2 ∧ fld w 15 10 = x3 ∧ fld w 9 4 = 0 ∧ fld w 3 2 = x4 ∧ fld w 1 0 = 1 := by
  refine ⟨by omega, ?_, ?_, ?_, ?_, ?_, ?_, ?_, ?_⟩
  · apply fld_mid (0) (op) (x0 * 2 ^ 24 + x1 * 2 ^ 22 + x2 * 2 ^ 16 + x3 * 2 ^ 10 + x4 * 2 ^ 2 + 1) <;> omega
  · apply fld_mid (op) (x0) (x1 * 2 ^ 22 + x2 * 2 ^ 16 + x3 * 2 ^ 10 + x4 * 2 ^ 2 + 1) <;> omega
  · apply fld_mid (op * 2 ^ 1 + x0) (x1) (x2 * 2 ^ 16 + x3 * 2 ^ 10 + x4 * 2 ^ 2 + 1) <;> omega
  · apply fld_mid (op * 2 ^ 3 + x0 * 2 ^ 2 + x1) (x2) (x3 * 2 ^ 10 + x4 * 2 ^ 2 + 1) <;> omega
  · apply fld_mid (op * 2 ^ 9 + x0 * 2 ^ 8 + x1 * 2 ^ 6 + x2) (x3) (x4 * 2 ^ 2 + 1) <;> omega
  · apply fld_mid (op * 2 ^ 15 + x0 * 2 ^ 14 + x1 * 2 ^ 12 + x2 * 2 ^ 6 + x3) (0) (x4 * 2 ^ 2 + 1) <;> omega
  · apply fld_mid (op * 2 ^ 21 + x0 * 2 ^ 20 + x1 * 2 ^ 18 + x2 * 2 ^ 12 + x3 * 2 ^ 6) (x4) (1) <;> omega
  · apply fld_mid (op * 2 ^ 23 + x0 * 2 ^ 22 + x1 * 2 ^ 20 + x2 * 2 ^ 14 + x3 * 2 ^ 8 + x4) (1) (0) <;> omega

theorem shape37 {op x0 x1 x2 x3 x4 w : Nat} (ho : 0 < op) (hp : op < 128) (h0 : x0 < 2) (h1 : x1 < 4) (h2 : x2 < 32) (h3 : x3 < 64) (h4 : x4 < 4) (h : op * 2 ^ 25 + 2 + x0 * 2 ^ 24 + x1 * 2 ^ 22 + x2 * 2 ^ 16 + x3 * 2 ^ 10 + x4 * 2 ^ 2 = w) :
    w ≠ 0 ∧ fld w 31 25 = op ∧ fld w 24 24 = x0 ∧ fld w 23 22 = x1 ∧ fld w 21 16 = x2 ∧ fld w 15 10 = x3 ∧ fld w 9 4 = 0 ∧ fld w 3 2 = x4 ∧ fld w 1 0 = 2 := by
  refine ⟨by omega, ?_, ?_, ?_, ?_, ?_, ?_, ?_, ?_⟩
  · apply fld_mid (0) (op) (x0 * 2 ^ 24 + x1 * 2 ^ 22 + x2 * 2 ^ 16 + x3 * 2 ^ 10 + x4 * 2 ^ 2 + 2) <;> omega
  · apply fld_mid (op) (x0) (x1 * 2 ^ 22 + x2 * 2 ^ 16 + x3 * 2 ^ 10 + x4 * 2 ^ 2 + 2) <;> omega
  · apply fld_mid (op * 2 ^ 1 + x0) (x1) (x2 * 2 ^ 16 + x3 * 2 ^ 10 + x4 * 2 ^ 2 + 2) <;> omega
  · apply fld_mid (op * 2 ^ 3 + x0 * 2 ^ 2 + x1) (x2) (x3 * 2 ^ 10 + x4 * 2 ^ 2 + 2) <;> omega
  · apply fld_mid (op * 2 ^ 9 + x0 * 2 ^ 8 + x1 * 2 ^ 6 + x2) (x3) (x4 * 2 ^ 2 + 2) <;> omega
  · apply fld_mid (op * 2 ^ 15 + x0 * 2 ^ 14 + x1 * 2 ^ 12 + x2 * 2 ^ 6 + x3) (0) (x4 * 2 ^ 2 + 2) <;> omega
  · apply fld_mid (op * 2 ^ 21 + x0 * 2 ^ 20 + x1 * 2 ^ 18 + x2 * 2 ^ 12 + x3 * 2 ^ 6) (x4) (2) <;> omega
  · apply fld_mid (op * 2 ^ 23 + x0 * 2 ^ 22 + x1 * 2 ^ 20 + x2 * 2 ^ 14 + x3 * 2 ^ 8 + x4) (2) (0) <;> omega

theorem shape38 {op x0 x1 x2 x3 x4 w : Nat} (ho : 0 < op) (hp : op < 128) (h0 : x0 < 2) (h1 : x1 < 4) (h2 : x2 < 32) (h3 : x3 < 64) (h4 : x4 < 4) (h : op * 2 ^ 25 + 3 + x0 * 2 ^ 24 + x1 * 2 ^ 22 + x2 * 2 ^ 16 + x3 * 2 ^ 10 + x4 * 2 ^ 2 = w) :
    w ≠ 0 ∧ fld w 31 25 = op ∧ fld w 24 24 = x0 ∧ fld w 23 22 = x1 ∧ fld w 21 16 = x2 ∧ fld w 15 10 = x3 ∧ fld w 9 4 = 0 ∧ fld w 3 2 = x4 ∧ fld w 1 0 = 3 := by
  refine ⟨by omega, ?_, ?_, ?_, ?_, ?_, ?_, ?_, ?_⟩
  · apply fld_mid (0) (op) (x0 * 2 ^ 24 + x1 * 2 ^ 22 + x2 * 2 ^ 16 + x3 * 2 ^ 10 + x4 * 2 ^ 2 + 3) <;> omega
  · apply fld_mid (op) (x0) (x1 * 2 ^ 22 + x2 * 2 ^ 16 + x3 * 2 ^ 10 + x4 * 2 ^ 2 + 3) <;> omega
  · apply fld_mid (op * 2 ^ 1 + x0) (x1) (x2 * 2 ^ 16 + x3 * 2 ^ 10 + x4 * 2 ^ 2 + 3) <;> omega
  · apply fld_mid (op * 2 ^ 3 + x0 * 2 ^ 2 + x1) (x2) (x3 * 2 ^ 10 + x4 * 2 ^ 2 + 3) <;> omega
  · apply fld_mid (op * 2 ^ 9 + x0 * 2 ^ 8 + x1 * 2 ^ 6 + x2) (x3) (x4 * 2 ^ 2 + 3) <;> omega
  · apply fld_mid (op * 2 ^ 15 + x0 * 2 ^ 14 + x1 * 2 ^ 12 + x2 * 2 ^ 6 + x3) (0) (x4 * 2 ^ 2 + 3) <;> omega
  · apply fld_mid (op * 2 ^ 21 + x0 * 2 ^ 20 + x1 * 2 ^ 18 + x2 * 2 ^ 12 + x3 * 2 ^ 6) (x4) (3) <;> omega
  · apply fld_mid (op * 2 ^ 23 + x0 * 2 ^ 22 + x1 * 2 ^ 20 + x2 * 2 ^ 14 + x3 * 2 ^ 8 + x4) (3) (0) <;> omega

theorem shape39 {op s x0 x1 x2 w : Nat} (ho : 0 < op) (hp : op < 128) (hs : s < 16) (h0 : x0 < 64) (h1 : x1 < 64) (h2 : x2 < 64) (h : op * 2 ^ 25 + s + x0 * 2 ^ 16 + x1 * 2 ^ 10 + x2 * 2 ^ 4 = w) :
    w ≠ 0 ∧ fld w 31 25 = op ∧ fld w 24 22 = 0 ∧ fld w 21 16 = x0 ∧ fld w 15 10 = x1 ∧ fld w 9 4 = x2 ∧ fld w 3 0 = s := by
  refine ⟨by omega, ?_, ?_, ?_, ?_, ?_, ?_⟩
  · apply fld_mid (0) (op) (s + x0 * 2 ^ 16 + x1 * 2 ^ 10 + x2 * 2 ^ 4) <;> omega
  · apply fld_mid (op) (0) (s + x0 * 2 ^ 16 + x1 * 2 ^ 10 + x2 * 2 ^ 4) <;> omega
  · apply fld_mid (op * 2 ^ 3) (x0) (s + x1 * 2 ^ 10 + x2 * 2 ^ 4) <;> omega
  · apply fld_mid (op * 2 ^ 9 + x0) (x1) (s + x2 * 2 ^ 4) <;> omega
  · apply fld_mid (op * 2 ^ 15 + x0 * 2 ^ 6 + x1) (x2) (s) <;> omega
  · apply fld_mid (op * 2 ^ 21 + x0 * 2 ^ 12 + x1 * 2 ^ 6 + x2) (s) (0) <;> omega

theorem shape40 {op x0 x1 x2 x3 x4 x5 x6 w : Nat} (ho : 0 < op) (hp : op < 128) (h0 : x0 < 2) (h1 : x1 < 32) (h2 : x2 < 64) (h3 : x3 < 4) (h4 : x4 < 4) (h5 : x5 < 2) (h6 : x6 < 8) (h : op * 2 ^ 25 + x0 * 2 ^ 21 + x1 * 2 ^ 16 + x2 * 2 ^ 10 + x3 * 2 ^ 8 + x4 * 2 ^ 6 + x5 * 2 ^ 3 + x6 = w) :
    w ≠ 0 ∧ fld w 31 25 = op ∧ fld w 24 22 = 0 ∧ fld w 21 21 = x0 ∧ fld w 20 16 = x1 ∧ fld w 15 10 = x2 ∧ fld w 9 8 = x3 ∧ fld w 7 6 = x4 ∧ fld w 5 4 = 0 ∧ fld w 3 3 = x5 ∧ fld w 2 0 = x6 := by
  refine ⟨by omega, ?_, ?_, ?_, ?_, ?_, ?_, ?_, ?_, ?_, ?_⟩
  · apply fld_mid (0) (op) (x0 * 2 ^ 21 + x1 * 2 ^ 16 + x2 * 2 ^ 10 + x3 * 2 ^ 8 + x4 * 2 ^ 6 + x5 * 2 ^ 3 + x6) <;> omega
  · apply fld_mid (op) (0) (x0 * 2 ^ 21 + x1 * 2 ^ 16 + x2 * 2 ^ 10 + x3 * 2 ^ 8 + x4 * 2 ^ 6 + x5 * 2 ^ 3 + x6) <;> omega
  · apply fld_mid (op * 2 ^ 3) (x0) (x1 * 2 ^ 16 + x2 * 2 ^ 10 + x3 * 2 ^ 8 + x4 * 2 ^ 6 + x5 * 2 ^ 3 + x6) <;> omega
  · apply fld_mid (op * 2 ^ 4 + x0) (x1) (x2 * 2 ^ 10 + x3 * 2 ^ 8 + x4 * 2 ^ 6 + x5 * 2 ^ 3 + x6) <;> omega
  · apply fld_mid (op * 2 ^ 9 + x0 * 2 ^ 5 + x1) (x2) (x3 * 2 ^ 8 + x4 * 2 ^ 6 + x5 * 2 ^ 3 + x6) <;> omega
  · apply fld_mid (op * 2 ^ 15 + x0 * 2 ^ 11 + x1 * 2 ^ 6 + x2) (x3) (x4 * 2 ^ 6 + x5 * 2 ^ 3 + x6) <;> omega
  · apply fld_mid (op * 2 ^ 17 + x0 * 2 ^ 13 + x1 * 2 ^ 8 + x2 * 2 ^ 2 + x3) (x4) (x5 * 2 ^ 3 + x6) <;> omega
  · apply fld_mid (op * 2 ^ 19 + x0 * 2 ^ 15 + x1 * 2 ^ 10 + x2 * 2 ^ 4 + x3 * 2 ^ 2 + x4) (0) (x5 * 2 ^ 3 + x6) <;> omega
  · apply fld_mid (op * 2 ^ 21 + x0 * 2 ^ 17 + x1 * 2 ^ 12 + x2 * 2 ^ 6 + x3 * 2 ^ 4 + x4 * 2 ^ 2) (x5) (x6) <;> omega
  · apply fld_mid (op * 2 ^ 22 + x0 * 2 ^ 18 + x1 * 2 ^ 13 + x2 * 2 ^ 7 + x3 * 2 ^ 5 + x4 * 2 ^ 3 + x5) (x6) (0) <;> omega

theorem shape41 {op s x0 w : Nat} (ho : 0 < op) (hp : op < 128) (hs : s < 16) (h0 : x0 < 64) (h : op * 2 ^ 25 + s + x0 * 2 ^ 4 = w) :
    w ≠ 0 ∧ fld w 31 25 = op ∧ fld w 24 10 = 0 ∧ fld w 9 4 = x0 ∧ fld w 3 0 = s := by
  refine ⟨by omega, ?_, ?_, ?_, ?_⟩
  · apply fld_mid (0) (op) (s + x0 * 2 ^ 4) <;> omega
  · apply fld_mid (op) (0) (s + x0 * 2 ^ 4) <;> omega
  · apply fld_mid (op * 2 ^ 15) (x0) (s) <;> omega
  · apply fld_mid (op * 2 ^ 21 + x0) (s) (0) <;> omega

theorem shape42 {op s x0 x1 w : Nat} (ho : 0 < op) (hp : op < 128) (hs : s < 16) (h0 : x0 < 2) (h1 : x1 < 32) (h : op * 2 ^ 25 + s + x0 * 2 ^ 21 + x1 * 2 ^ 16 = w) :
    w ≠ 0 ∧ fld w 31 25 = op ∧ fld w 24 22 = 0 ∧ fld w 21 21 = x0 ∧ fld w 20 16 = x1 ∧ fld w 15 0 = s := by
  refine ⟨by omega, ?_, ?_, ?_, ?_, ?_⟩
  · apply fld_mid (0) (op) (s + x0 * 2 ^ 21 + x1 * 2 ^ 16) <;> omega
  · apply fld_mid (op) (0) (s + x0 * 2 ^ 21 + x1 * 2 ^ 16) <;> omega
  · apply fld_mid (op * 2 ^ 3) (x0) (s + x1 * 2 ^ 16) <;> omega
  · apply fld_mid (op * 2 ^ 4 + x0) (x1) (s) <;> omega
  · apply fld_mid (op * 2 ^ 9 + x0 * 2 ^ 5 + x1) (s) (0) <;> omega

theorem shape43 {op s x0 w : Nat} (ho : 0 < op) (hp : op < 128) (hs : s < 16) (h0 : x0 < 2) (h : op * 2 ^ 25 + s + x0 * 2 ^ 21 = w) :
    w ≠ 0 ∧ fld w 31 25 = op ∧ fld w 24 22 = 0 ∧ fld w 21 21 = x0 ∧ fld w 20 0 = s := by
  refine ⟨by omega, ?_, ?_, ?_, ?_⟩
  · apply fld_mid (0) (op) (s + x0 * 2 ^ 21) <;> omega
  · apply fld_mid (op) (0) (s + x0 * 2 ^ 21) <;> omega
  · apply fld_mid (op * 2 ^ 3) (x0) (s) <;> omega
  · apply fld_mid (op * 2 ^ 4 + x0) (s) (0) <;> omega

theorem shape44 {op x0 x1 x2 x3 x4 x5 w : Nat} (ho : 0 < op) (hp : op < 128) (h0 : x0 < 2) (h1 : x1 < 4) (h2 : x2 < 32) (h3 : x3 < 2) (h4 : x4 < 32) (h5 : x5 < 4) (h : op * 2 ^ 25 + x0 * 2 ^ 24 + x1 * 2 ^ 22 + x2 * 2 ^ 16 + x3 * 2 ^ 15 + x4 * 2 ^ 10 + x5 = w) :
    w ≠ 0 ∧ fld w 31 25 = op ∧ fld w 24 24 = x0 ∧ fld w 23 22 = x1 ∧ fld w 21 16 = x2 ∧ fld w 15 15 = x3 ∧ fld w 14 10 = x4 ∧ fld w 9 2 = 0 ∧ fld w 1 0 = x5 := by
  refine ⟨by omega, ?_, ?_, ?_, ?_, ?_, ?_, ?_, ?_⟩
  · apply fld_mid (0) (op) (x0 * 2 ^ 24 + x1 * 2 ^ 22 + x2 * 2 ^ 16 + x3 * 2 ^ 15 + x4 * 2 ^ 10 + x5) <;> omega
  · apply fld_mid (op) (x0) (x1 * 2 ^ 22 + x2 * 2 ^ 16 + x3 * 2 ^ 15 + x4 * 2 ^ 10 + x5) <;> omega
  · apply fld_mid (op * 2 ^ 1 + x0) (x1) (x2 * 2 ^ 16 + x3 * 2 ^ 15 + x4 * 2 ^ 10 + x5) <;> omega
  · apply fld_mid (op * 2 ^ 3 + x0 * 2 ^ 2 + x1) (x2) (x3 * 2 ^ 15 + x4 * 2 ^ 10 + x5) <;> omega
  · apply fld_mid (op * 2 ^ 9 + x0 * 2 ^ 8 + x1 * 2 ^ 6 + x2) (x3) (x4 * 2 ^ 10 + x5) <;> omega
  · apply fld_mid (op * 2 ^ 10 + x0 * 2 ^ 9 + x1 * 2 ^ 7 + x2 * 2 ^ 1 + x3) (x4) (x5) <;> omega
  · apply fld_mid (op * 2 ^ 15 + x0 * 2 ^ 14 + x1 * 2 ^ 12 + x2 * 2 ^ 6 + x3 * 2 ^ 5 + x4) (0) (x5) <;> omega
  · apply fld_mid (op * 2 ^ 23 + x0 * 2 ^ 22 + x1 * 2 ^ 20 + x2 * 2 ^ 14 + x3 * 2 ^ 13 + x4 * 2 ^ 8) (x5) (0) <;> omega

theorem shape45 {op x0 x1 x2 w : Nat} (ho : 0 < op) (hp : op < 128) (h0 : x0 < 2) (h1 : x1 < 2) (h2 : x2 < 4) (h : op * 2 ^ 25 + x0 * 2 ^ 3 + x1 * 2 ^ 2 + x2 = w) :
    w ≠ 0 ∧ fld w 31 25 = op ∧ fld w 24 4 = 0 ∧ fld w 3 3 = x0 ∧ fld w 2 2 = x1 ∧ fld w 1 0 = x2 := by
  refine ⟨by omega, ?_, ?_, ?_, ?_, ?_⟩
  · apply fld_mid (0) (op) (x0 * 2 ^ 3 + x1 * 2 ^ 2 + x2) <;> omega
  · apply fld_mid (op) (0) (x0 * 2 ^ 3 + x1 * 2 ^ 2 + x2) <;> omega
  · apply fld_mid (op * 2 ^ 21) (x0) (x1 * 2 ^ 2 + x2) <;> omega
  · apply fld_mid (op * 2 ^ 22 + x0) (x1) (x2) <;> omega
  · apply fld_mid (op * 2 ^ 23 + x0 * 2 ^ 1 + x1) (x2) (0) <;> omega

theorem shape46 {op s x0 x1 x2 x3 w : Nat} (ho : 0 < op) (hp : op < 128) (hs : s < 16) (h0 : x0 < 2) (h1 : x1 < 4) (h2 : x2 < 32) (h3 : x3 < 2) (h : op * 2 ^ 25 + s + x0 * 2 ^ 24 + x1 * 2 ^ 22 + x2 * 2 ^ 16 + x3 * 2 ^ 15 = w) :
    w ≠ 0 ∧ fld w 31 25 = op ∧ fld w 24 24 = x0 ∧ fld w 23 22 = x1 ∧ fld w 21 16 = x2 ∧ fld w 15 15 = x3 ∧ fld w 14 0 = s := by
  refine ⟨by omega, ?_, ?_, ?_, ?_, ?_, ?_⟩
  · apply fld_mid (0) (op) (s + x0 * 2 ^ 24 + x1 * 2 ^ 22 + x2 * 2 ^ 16 + x3 * 2 ^ 15) <;> omega
  · apply fld_mid (op) (x0) (s + x1 * 2 ^ 22 + x2 * 2 ^ 16 + x3 * 2 ^ 15) <;> omega
  · apply fld_mid (op * 2 ^ 1 + x0) (x1) (s + x2 * 2 ^ 16 + x3 * 2 ^ 15) <;> omega
  · apply fld_mid (op * 2 ^ 3 + x0 * 2 ^ 2 + x1) (x2) (s + x3 * 2 ^ 15) <;> omega
  · apply fld_mid (op * 2 ^ 9 + x0 * 2 ^ 8 + x1 * 2 ^ 6 + x2) (x3) (s) <;> omega
  · apply fld_mid (op * 2 ^ 10 + x0 * 2 ^ 9 + x1 * 2 ^ 7 + x2 * 2 ^ 1 + x3) (s) (0) <;> omega

theorem shape47 {op s x0 x1 x2 w : Nat} (ho : 0 < op) (hp : op < 128) (hs : s < 16) (h0 : x0 < 8) (h1 : x1 < 2) (h2 : x2 < 8) (h : op * 2 ^ 25 + s + x0 * 2 ^ 19 + x1 * 2 ^ 18 + x2 * 2 ^ 15 = w) :
    w ≠ 0 ∧ fld w 31 25 = op ∧ fld w 24 22 = 0 ∧ fld w 21 19 = x0 ∧ fld w 18 18 = x1 ∧ fld w 17 15 = x2 ∧ fld w 14 0 = s := by
  refine ⟨by omega, ?_, ?_, ?_, ?_, ?_, ?_⟩
  · apply fld_mid (0) (op) (s + x0 * 2 ^ 19 + x1 * 2 ^ 18 + x2 * 2 ^ 15) <;> omega
  · apply fld_mid (op) (0) (s + x0 * 2 ^ 19 + x1 * 2 ^ 18 + x2 * 2 ^ 15) <;> omega
  · apply fld_mid (op * 2 ^ 3) (x0) (s + x1 * 2 ^ 18 + x2 * 2 ^ 15) <;> omega
  · apply fld_mid (op * 2 ^ 6 + x0) (x1) (s + x2 * 2 ^ 15) <;> omega
  · apply fld_mid (op * 2 ^ 7 + x0 * 2 ^ 1 + x1) (x2) (s) <;> omega
  · apply fld_mid (op * 2 ^ 10 + x0 * 2 ^ 4 + x1 * 2 ^ 3 + x2) (s) (0) <;> omega

theorem shape48 {op s x0 x1 x2 x3 w : Nat} (ho : 0 < op) (hp : op < 128) (hs : s < 16) (h0 : x0 < 8) (h1 : x1 < 2) (h2 : x2 < 8) (h3 : x3 < 8) (h : op * 2 ^ 25 + s + x0 * 2 ^ 19 + x1 * 2 ^ 18 + x2 * 2 ^ 15 + x3 * 2 ^ 12 = w) :
    w ≠ 0 ∧ fld w 31 25 = op ∧ fld w 24 22 = 0 ∧ fld w 21 19 = x0 ∧ fld w 18 18 = x1 ∧ fld w 17 15 = x2 ∧ fld w 14 12 = x3 ∧ fld w 11 0 = s := by
  refine ⟨by omega, ?_, ?_, ?_, ?_, ?_, ?_, ?_⟩
  · apply fld_mid (0) (op) (s + x0 * 2 ^ 19 + x1 * 2 ^ 18 + x2 * 2 ^ 15 + x3 * 2 ^ 12) <;> omega
  · apply fld_mid (op) (0) (s + x0 * 2 ^ 19 + x1 * 2 ^ 18 + x2 * 2 ^ 15 + x3 * 2 ^ 12) <;> omega
  · apply fld_mid (op * 2 ^ 3) (x0) (s + x1 * 2 ^ 18 + x2 * 2 ^ 15 + x3 * 2 ^ 12) <;> omega
  · apply fld_mid (op * 2 ^ 6 + x0) (x1) (s + x2 * 2 ^ 15 + x3 * 2 ^ 12) <;> omega
  · apply fld_mid (op * 2 ^ 7 + x0 * 2 ^ 1 + x1) (x2) (s + x3 * 2 ^ 12) <;> omega
  · apply fld_mid (op * 2 ^ 10 + x0 * 2 ^ 4 + x1 * 2 ^ 3 + x2) (x3) (s) <;> omega
  · apply fld_mid (op * 2 ^ 13 + x0 * 2 ^ 7 + x1 * 2 ^ 6 + x2 * 2 ^ 3 + x3) (s) (0) <;> omega

theorem shape49 {op s x0 x1 x2 w : Nat} (ho : 0 < op) (hp : op < 128) (hs : s < 16) (h0 : x0 < 8) (h1 : x1 < 2) (h2 : x2 < 8) (h : op * 2 ^ 25 + s + x0 * 2 ^ 19 + x1 * 2 ^ 18 + x2 * 2 ^ 12 = w) :
    w ≠ 0 ∧ fld w 31 25 = op ∧ fld w 24 22 = 0 ∧ fld w 21 19 = x0 ∧ fld w 18 18 = x1 ∧ fld w 17 15 = 0 ∧ fld w 14 12 = x2 ∧ fld w 11 0 = s := by
  refine ⟨by omega, ?_, ?_, ?_, ?_, ?_, ?_, ?_⟩
  · apply fld_mid (0) (op) (s + x0 * 2 ^ 19 + x1 * 2 ^ 18 + x2 * 2 ^ 12) <;> omega
  · apply fld_mid (op) (0) (s + x0 * 2 ^ 19 + x1 * 2 ^ 18 + x2 * 2 ^ 12) <;> omega
  · apply fld_mid (op * 2 ^ 3) (x0) (s + x1 * 2 ^ 18 + x2 * 2 ^ 12) <;> omega
  · apply fld_mid (op * 2 ^ 6 + x0) (x1) (s + x2 * 2 ^ 12) <;> omega
  · apply fld_mid (op * 2 ^ 7 + x0 * 2 ^ 1 + x1) (0) (s + x2 * 2 ^ 12) <;> omega
  · apply fld_mid (op * 2 ^ 10 + x0 * 2 ^ 4 + x1 * 2 ^ 3) (x2) (s) <;> omega
  · apply fld_mid (op * 2 ^ 13 + x0 * 2 ^ 7 + x1 * 2 ^ 6 + x2) (s) (0) <;> omega

theorem shape50 {op x0 x1 x2 x3 w : Nat} (ho : 0 < op) (hp : op < 128) (h0 : x0 < 8) (h1 : x1 < 2) (h2 : x2 < 8) (h3 : x3 < 8) (h : op * 2 ^ 25 + x0 * 2 ^ 19 + x1 * 2 ^ 18 + x2 * 2 ^ 15 + x3 = w) :
    w ≠ 0 ∧ fld w 31 25 = op ∧ fld w 24 22 = 0 ∧ fld w 21 19 = x0 ∧ fld w 18 18 = x1 ∧ fld w 17 15 = x2 ∧ fld w 14 3 = 0 ∧ fld w 2 0 = x3 := by
  refine ⟨by omega, ?_, ?_, ?_, ?_, ?_, ?_, ?_⟩
  · apply fld_mid (0) (op) (x0 * 2 ^ 19 + x1 * 2 ^ 18 + x2 * 2 ^ 15 + x3) <;> omega
  · apply fld_mid (op) (0) (x0 * 2 ^ 19 + x1 * 2 ^ 18 + x2 * 2 ^ 15 + x3) <;> omega
  · apply fld_mid (op * 2 ^ 3) (x0) (x1 * 2 ^ 18 + x2 * 2 ^ 15 + x3) <;> omega
  · apply fld_mid (op * 2 ^ 6 + x0) (x1) (x2 * 2 ^ 15 + x3) <;> omega
  · apply fld_mid (op * 2 ^ 7 + x0 * 2 ^ 1 + x1) (x2) (x3) <;> omega
  · apply fld_mid (op * 2 ^ 10 + x0 * 2 ^ 4 + x1 * 2 ^ 3 + x2) (0) (x3) <;> omega
  · apply fld_mid (op * 2 ^ 22 + x0 * 2 ^ 16 + x1 * 2 ^ 15 + x2 * 2 ^ 12) (x3) (0) <;> omega

theorem shape51 {op s x0 x1 x2 x3 w : Nat} (ho : 0 < op) (hp : op < 128) (hs : s < 16) (h0 : x0 < 8) (h1 : x1 < 2) (h2 : x2 < 8) (h3 : x3 < 16) (h : op * 2 ^ 25 + s + x0 * 2 ^ 19 + x1 * 2 ^ 18 + x2 * 2 ^ 15 + x3 * 2 ^ 4 = w) :
    w ≠ 0 ∧ fld w 31 25 = op ∧ fld w 24 22 = 0 ∧ fld w 21 19 = x0 ∧ fld w 18 18 = x1 ∧ fld w 17 15 = x2 ∧ fld w 14 8 = 0 ∧ fld w 7 4 = x3 ∧ fld w 3 0 = s := by
  refine ⟨by omega, ?_, ?_, ?_, ?_, ?_, ?_, ?_, ?_⟩
  · apply fld_mid (0) (op) (s + x0 * 2 ^ 19 + x1 * 2 ^ 18 + x2 * 2 ^ 15 + x3 * 2 ^ 4) <;> omega
  · apply fld_mid (op) (0) (s + x0 * 2 ^ 19 + x1 * 2 ^ 18 + x2 * 2 ^ 15 + x3 * 2 ^ 4) <;> omega
  · apply fld_mid (op * 2 ^ 3) (x0) (s + x1 * 2 ^ 18 + x2 * 2 ^ 15 + x3 * 2 ^ 4) <;> omega
  · apply fld_mid (op * 2 ^ 6 + x0) (x1) (s + x2 * 2 ^ 15 + x3 * 2 ^ 4) <;> omega
  · apply fld_mid (op * 2 ^ 7 + x0 * 2 ^ 1 + x1) (x2) (s + x3 * 2 ^ 4) <;> omega
  · apply fld_mid (op * 2 ^ 10 + x0 * 2 ^ 4 + x1 * 2 ^ 3 + x2) (0) (s + x3 * 2 ^ 4) <;> omega
  · apply fld_mid (op * 2 ^ 17 + x0 * 2 ^ 11 + x1 * 2 ^ 10 + x2 * 2 ^ 7) (x3) (s) <;> omega
  · apply fld_mid (op * 2 ^ 21 + x0 * 2 ^ 15 + x1 * 2 ^ 14 + x2 * 2 ^ 11 + x3) (s) (0) <;> omega

theorem shape52 {op s x0 x1 x2 x3 w : Nat} (ho : 0 < op) (hp : op < 128) (hs : s < 16) (h0 : x0 < 4) (h1 : x1 < 8) (h2 : x2 < 2) (h3 : x3 < 8) (h : op * 2 ^ 25 + s + x0 * 2 ^ 22 + x1 * 2 ^ 19 + x2 * 2 ^ 18 + x3 * 2 ^ 15 = w) :
    w ≠ 0 ∧ fld w 31 25 = op ∧ fld w 24 24 = 0 ∧ fld w 23 22 = x0 ∧ fld w 21 19 = x1 ∧ fld w 18 18 = x2 ∧ fld w 17 15 = x3 ∧ fld w 14 0 = s := by
  refine ⟨by omega, ?_, ?_, ?_, ?_, ?_, ?_, ?_⟩
  · apply fld_mid (0) (op) (s + x0 * 2 ^ 22 + x1 * 2 ^ 19 + x2 * 2 ^ 18 + x3 * 2 ^ 15) <;> omega
  · apply fld_mid (op) (0) (s + x0 * 2 ^ 22 + x1 * 2 ^ 19 + x2 * 2 ^ 18 + x3 * 2 ^ 15) <;> omega
  · apply fld_mid (op * 2 ^ 1) (x0) (s + x1 * 2 ^ 19 + x2 * 2 ^ 18 + x3 * 2 ^ 15) <;> omega
  · apply fld_mid (op * 2 ^ 3 + x0) (x1) (s + x2 * 2 ^ 18 + x3 * 2 ^ 15) <;> omega
  · apply fld_mid (op * 2 ^ 6 + x0 * 2 ^ 3 + x1) (x2) (s + x3 * 2 ^ 15) <;> omega
  · apply fld_mid (op * 2 ^ 7 + x0 * 2 ^ 4 + x1 * 2 ^ 1 + x2) (x3) (s) <;> omega
  · apply fld_mid (op * 2 ^ 10 + x0 * 2 ^ 7 + x1 * 2 ^ 4 + x2 * 2 ^ 3 + x3) (s) (0) <;> omega

theorem shape53 {op x0 x1 x2 x3 x4 w : Nat} (ho : 0 < op) (hp : op < 128) (h0 : x0 < 8) (h1 : x1 < 2) (h2 : x2 < 8) (h3 : x3 < 8) (h4 : x4 < 4) (h : op * 2 ^ 25 + x0 * 2 ^ 19 + x1 * 2 ^ 18 + x2 * 2 ^ 15 + x3 * 2 ^ 12 + x4 = w) :
    w ≠ 0 ∧ fld w 31 25 = op ∧ fld w 24 22 = 0 ∧ fld w 21 19 = x0 ∧ fld w 18 18 = x1 ∧ fld w 17 15 = x2 ∧ fld w 14 12 = x3 ∧ fld w 11 2 = 0 ∧ fld w 1 0 = x4 := by
  refine ⟨by omega, ?_, ?_, ?_, ?_, ?_, ?_, ?_, ?_⟩
  · apply fld_mid (0) (op) (x0 * 2 ^ 19 + x1 * 2 ^ 18 + x2 * 2 ^ 15 + x3 * 2 ^ 12 + x4) <;> omega
  · apply fld_mid (op) (0) (x0 * 2 ^ 19 + x1 * 2 ^ 18 + x2 * 2 ^ 15 + x3 * 2 ^ 12 + x4) <;> omega
  · apply fld_mid (op * 2 ^ 3) (x0) (x1 * 2 ^ 18 + x2 * 2 ^ 15 + x3 * 2 ^ 12 + x4) <;> omega
  · apply fld_mid (op * 2 ^ 6 + x0) (x1) (x2 * 2 ^ 15 + x3 * 2 ^ 12 + x4) <;> omega
  · apply fld_mid (op * 2 ^ 7 + x0 * 2 ^ 1 + x1) (x2) (x3 * 2 ^ 12 + x4) <;> omega
  · apply fld_mid (op * 2 ^ 10 + x0 * 2 ^ 4 + x1 * 2 ^ 3 + x2) (x3) (x4) <;> omega
  · apply fld_mid (op * 2 ^ 13 + x0 * 2 ^ 7 + x1 * 2 ^ 6 + x2 * 2 ^ 3 + x3) (0) (x4) <;> omega
  · apply fld_mid (op * 2 ^ 23 + x0 * 2 ^ 17 + x1 * 2 ^ 16 + x2 * 2 ^ 13 + x3 * 2 ^ 10) (x4) (0) <;> omega

theorem shape54 {op s x0 x1 x2 x3 w : Nat} (ho : 0 < op) (hp : op < 128) (hs : s < 16) (h0 : x0 < 4) (h1 : x1 < 8) (h2 : x2 < 2) (h3 : x3 < 32) (h : op * 2 ^ 25 + s + x0 * 2 ^ 22 + x1 * 2 ^ 19 + x2 * 2 ^ 18 + x3 * 2 ^ 4 = w) :
    w ≠ 0 ∧ fld w 31 25 = op ∧ fld w 24 24 = 0 ∧ fld w 23 22 = x0 ∧ fld w 21 19 = x1 ∧ fld w 18 18 = x2 ∧ fld w 17 9 = 0 ∧ fld w 8 4 = x3 ∧ fld w 3 0 = s := by
  refine ⟨by omega, ?_, ?_, ?_, ?_, ?_, ?_, ?_, ?_⟩
  · apply fld_mid (0) (op) (s + x0 * 2 ^ 22 + x1 * 2 ^ 19 + x2 * 2 ^ 18 + x3 * 2 ^ 4) <;> omega
  · apply fld_mid (op) (0) (s + x0 * 2 ^ 22 + x1 * 2 ^ 19 + x2 * 2 ^ 18 + x3 * 2 ^ 4) <;> omega
  · apply fld_mid (op * 2 ^ 1) (x0) (s + x1 * 2 ^ 19 + x2 * 2 ^ 18 + x3 * 2 ^ 4) <;> omega
  · apply fld_mid (op * 2 ^ 3 + x0) (x1) (s + x2 * 2 ^ 18 + x3 * 2 ^ 4) <;> omega
  · apply fld_mid (op * 2 ^ 6 + x0 * 2 ^ 3 + x1) (x2) (s + x3 * 2 ^ 4) <;> omega
  · apply fld_mid (op * 2 ^ 7 + x0 * 2 ^ 4 + x1 * 2 ^ 1 + x2) (0) (s + x3 * 2 ^ 4) <;> omega
  · apply fld_mid (op * 2 ^ 16 + x0 * 2 ^ 13 + x1 * 2 ^ 10 + x2 * 2 ^ 9) (x3) (s) <;> omega
  · apply fld_mid (op * 2 ^ 21 + x0 * 2 ^ 18 + x1 * 2 ^ 15 + x2 * 2 ^ 14 + x3) (s) (0) <;> omega

theorem shape55 {op s x0 x1 x2 w : Nat} (ho : 0 < op) (hp : op < 128) (hs : s < 16) (h0 : x0 < 64) (h1 : x1 < 4) (h2 : x2 < 2) (h : op * 2 ^ 25 + s + x0 * 2 ^ 10 + x1 * 2 ^ 7 + x2 * 2 ^ 6 = w) :
    w ≠ 0 ∧ fld w 31 25 = op ∧ fld w 24 16 = 0 ∧ fld w 24 10 = x0 ∧ fld w 15 10 = x0 ∧ fld w 9 7 = x1 ∧ fld w 6 6 = x2 ∧ fld w 5 0 = s := by
  refine ⟨by omega, ?_, ?_, ?_, ?_, ?_, ?_, ?_⟩
  · apply fld_mid (0) (op) (s + x0 * 2 ^ 10 + x1 * 2 ^ 7 + x2 * 2 ^ 6) <;> omega
  · apply fld_mid (op) (0) (s + x0 * 2 ^ 10 + x1 * 2 ^ 7 + x2 * 2 ^ 6) <;> omega
  · apply fld_mid (op) (x0) (s + x1 * 2 ^ 7 + x2 * 2 ^ 6) <;> omega
  · apply fld_mid (op * 2 ^ 9) (x0) (s + x1 * 2 ^ 7 + x2 * 2 ^ 6) <;> omega
  · apply fld_mid (op * 2 ^ 15 + x0) (x1) (s + x2 * 2 ^ 6) <;> omega
  · apply fld_mid (op * 2 ^ 18 + x0 * 2 ^ 3 + x1) (x2) (s) <;> omega
  · apply fld_mid (op * 2 ^ 19 + x0 * 2 ^ 4 + x1 * 2 ^ 1 + x2) (s) (0) <;> omega

theorem shape56 {op x0 x1 x2 w : Nat} (ho : 0 < op) (hp : op < 128) (h0 : x0 < 4) (h1 : x1 < 2) (h2 : x2 < 4) (h : op * 2 ^ 25 + 8 + x0 * 2 ^ 7 + x1 * 2 ^ 6 + x2 = w) :
    w ≠ 0 ∧ fld w 31 25 = op ∧ fld w 24 16 = 0 ∧ fld w 24 10 = 0 ∧ fld w 15 10 = 0 ∧ fld w 9 7 = x0 ∧ fld w 6 6 = x1 ∧ fld w 5 2 = 2 ∧ fld w 5 0 = 8 + x2 ∧ fld w 1 0 = x2 := by
  refine ⟨by omega, ?_, ?_, ?_, ?_, ?_, ?_, ?_, ?_, ?_⟩
  · apply fld_mid (0) (op) (x0 * 2 ^ 7 + x1 * 2 ^ 6 + x2 + 8) <;> omega
  · apply fld_mid (op) (0) (x0 * 2 ^ 7 + x1 * 2 ^ 6 + x2 + 8) <;> omega
  · apply fld_mid (op) (0) (x0 * 2 ^ 7 + x1 * 2 ^ 6 + x2 + 8) <;> omega
  · apply fld_mid (op * 2 ^ 9) (0) (x0 * 2 ^ 7 + x1 * 2 ^ 6 + x2 + 8) <;> omega
  · apply fld_mid (op * 2 ^ 15) (x0) (x1 * 2 ^ 6 + x2 + 8) <;> omega
  · apply fld_mid (op * 2 ^ 18 + x0) (x1) (x2 + 8) <;> omega
  · apply fld_mid (op * 2 ^ 19 + x0 * 2 ^ 1 + x1) (2) (x2) <;> omega
  · apply fld_mid (op * 2 ^ 19 + x0 * 2 ^ 1 + x1) (8 + x2) (0) <;> omega
  · apply fld_mid (op * 2 ^ 23 + x0 * 2 ^ 5 + x1 * 2 ^ 4 + 2) (x2) (0) <;> omega

theorem shape57 {op s x0 x1 x2 x3 x4 w : Nat} (ho : 0 < op) (hp : op < 128) (hs : s < 16) (h0 : x0 < 2) (h1 : x1 < 4) (h2 : x2 < 32) (h3 : x3 < 4) (h4 : x4 < 2) (h : op * 2 ^ 25 + s + x0 * 2 ^ 24 + x1 * 2 ^ 22 + x2 * 2 ^ 16 + x3 * 2 ^ 7 + x4 * 2 ^ 6 = w) :
    w ≠ 0 ∧ fld w 31 25 = op ∧ fld w 24 24 = x0 ∧ fld w 23 22 = x1 ∧ fld w 21 16 = x2 ∧ fld w 15 10 = 0 ∧ fld w 9 7 = x3 ∧ fld w 6 6 = x4 ∧ fld w 5 0 = s := by
  refine ⟨by omega, ?_, ?_, ?_, ?_, ?_, ?_, ?_, ?_⟩
  · apply fld_mid (0) (op) (s + x0 * 2 ^ 24 + x1 * 2 ^ 22 + x2 * 2 ^ 16 + x3 * 2 ^ 7 + x4 * 2 ^ 6) <;> omega
  · apply fld_mid (op) (x0) (s + x1 * 2 ^ 22 + x2 * 2 ^ 16 + x3 * 2 ^ 7 + x4 * 2 ^ 6) <;> omega
  · apply fld_mid (op * 2 ^ 1 + x0) (x1) (s + x2 * 2 ^ 16 + x3 * 2 ^ 7 + x4 * 2 ^ 6) <;> omega
  · apply fld_mid (op * 2 ^ 3 + x0 * 2 ^ 2 + x1) (x2) (s + x3 * 2 ^ 7 + x4 * 2 ^ 6) <;> omega
  · apply fld_mid (op * 2 ^ 9 + x0 * 2 ^ 8 + x1 * 2 ^ 6 + x2) (0) (s + x3 * 2 ^ 7 + x4 * 2 ^ 6) <;> omega
  · apply fld_mid (op * 2 ^ 15 + x0 * 2 ^ 14 + x1 * 2 ^ 12 + x2 * 2 ^ 6) (x3) (s + x4 * 2 ^ 6) <;> omega
  · apply fld_mid (op * 2 ^ 18 + x0 * 2 ^ 17 + x1 * 2 ^ 15 + x2 * 2 ^ 9 + x3) (x4) (s) <;> omega
  · apply fld_mid (op * 2 ^ 19 + x0 * 2 ^ 18 + x1 * 2 ^ 16 + x2 * 2 ^ 10 + x3 * 2 ^ 1 + x4) (s) (0) <;> omega

theorem shape58 {op x0 x1 x2 x3 w : Nat} (ho : 0 < op) (hp : op < 128) (h0 : x0 < 64) (h1 : x1 < 4) (h2 : x2 < 2) (h3 : x3 < 8) (h : op * 2 ^ 25 + x0 * 2 ^ 10 + x1 * 2 ^ 7 + x2 * 2 ^ 6 + x3 = w) :
    w ≠ 0 ∧ fld w 31 25 = op ∧ fld w 24 16 = 0 ∧ fld w 15 10 = x0 ∧ fld w 9 7 = x1 ∧ fld w 6 6 = x2 ∧ fld w 5 3 = 0 ∧ fld w 2 0 = x3 := by
  refine ⟨by omega, ?_, ?_, ?_, ?_, ?_, ?_, ?_⟩
  · apply fld_mid (0) (op) (x0 * 2 ^ 10 + x1 * 2 ^ 7 + x2 * 2 ^ 6 + x3) <;> omega
  · apply fld_mid (op) (0) (x0 * 2 ^ 10 + x1 * 2 ^ 7 + x2 * 2 ^ 6 + x3) <;> omega
  · apply fld_mid (op * 2 ^ 9) (x0) (x1 * 2 ^ 7 + x2 * 2 ^ 6 + x3) <;> omega
  · apply fld_mid (op * 2 ^ 15 + x0) (x1) (x2 * 2 ^ 6 + x3) <;> omega
  · apply fld_mid (op * 2 ^ 18 + x0 * 2 ^ 3 + x1) (x2) (x3) <;> omega
  · apply fld_mid (op * 2 ^ 19 + x0 * 2 ^ 4 + x1 * 2 ^ 1 + x2) (0) (x3) <;> omega
  · apply fld_mid (op * 2 ^ 22 + x0 * 2 ^ 7 + x1 * 2 ^ 4 + x2 * 2 ^ 3) (x3) (0) <;> omega

theorem shape59 {op x0 x1 x2 x3 x4 x5 w : Nat} (ho : 0 < op) (hp : op < 128) (h0 : x0 < 2) (h1 : x1 < 4) (h2 : x2 < 32) (h3 : x3 < 4) (h4 : x4 < 2) (h5 : x5 < 8) (h : op * 2 ^ 25 + x0 * 2 ^ 24 + x1 * 2 ^ 22 + x2 * 2 ^ 16 + x3 * 2 ^ 7 + x4 * 2 ^ 6 + x5 = w) :
    w ≠ 0 ∧ fld w 31 25 = op ∧ fld w 24 24 = x0 ∧ fld w 23 22 = x1 ∧ fld w 21 16 = x2 ∧ fld w 15 10 = 0 ∧ fld w 9 7 = x3 ∧ fld w 6 6 = x4 ∧ fld w 5 3 = 0 ∧ fld w 2 0 = x5 := by
  refine ⟨by omega, ?_, ?_, ?_, ?_, ?_, ?_, ?_, ?_, ?_⟩
  · apply fld_mid (0) (op) (x0 * 2 ^ 24 + x1 * 2 ^ 22 + x2 * 2 ^ 16 + x3 * 2 ^ 7 + x4 * 2 ^ 6 + x5) <;> omega
  · apply fld_mid (op) (x0) (x1 * 2 ^ 22 + x2 * 2 ^ 16 + x3 * 2 ^ 7 + x4 * 2 ^ 6 + x5) <;> omega
  · apply fld_mid (op * 2 ^ 1 + x0) (x1) (x2 * 2 ^ 16 + x3 * 2 ^ 7 + x4 * 2 ^ 6 + x5) <;> omega
  · apply fld_mid (op * 2 ^ 3 + x0 * 2 ^ 2 + x1) (x2) (x3 * 2 ^ 7 + x4 * 2 ^ 6 + x5) <;> omega
  · apply fld_mid (op * 2 ^ 9 + x0 * 2 ^ 8 + x1 * 2 ^ 6 + x2) (0) (x3 * 2 ^ 7 + x4 * 2 ^ 6 + x5) <;> omega
  · apply fld_mid (op * 2 ^ 15 + x0 * 2 ^ 14 + x1 * 2 ^ 12 + x2 * 2 ^ 6) (x3) (x4 * 2 ^ 6 + x5) <;> omega
  · apply fld_mid (op * 2 ^ 18 + x0 * 2 ^ 17 + x1 * 2 ^ 15 + x2 * 2 ^ 9 + x3) (x4) (x5) <;> omega
  · apply fld_mid (op * 2 ^ 19 + x0 * 2 ^ 18 + x1 * 2 ^ 16 + x2 * 2 ^ 10 + x3 * 2 ^ 1 + x4) (0) (x5) <;> omega
  · apply fld_mid (op * 2 ^ 22 + x0 * 2 ^ 21 + x1 * 2 ^ 19 + x2 * 2 ^ 13 + x3 * 2 ^ 4 + x4 * 2 ^ 3) (x5) (0) <;> omega

end Sys2Proof
end

