-- ==== Sys2Proof/Laws/PerInstr.lean ====
section
/-! SUPPORT. Of every instruction: a word the encoder writes for it is read back as it by the decoder of its slots (03 R70 to R87). An
event has no word. -/
set_option Elab.async false
set_option linter.unusedSimpArgs false
set_option linter.unusedVariables false
namespace Sys2Proof.Laws.Roundtrip

/-- A word written for a well-formed instruction decodes to it, in every slot that has its map. -/
def Statement (i : Instr) : Prop :=
  i.wf = true → ∀ w,
    (encodeC i = some w → decode .c w = some i) ∧ (encodeS i = some w → decode .s w = some i) ∧
    (encodeV i = some w → decode .va w = some i ∧ decode .vb w = some i) ∧ (encodeM i = some w → decode .m w = some i) ∧
    (encodeX i = some w → decode .xa w = some i ∧ decode .xb w = some i) ∧ (encodeF i = some w → decode .f w = some i)

theorem ofC {i : Instr} (s : encodeS i = none) (v : encodeV i = none) (m : encodeM i = none) (x : encodeX i = none) (f : encodeF i = none)
    (h : i.wf = true → ∀ w, encodeC i = some w → w ≠ 0 ∧ decodeC w = some i) : Statement i := by
  intro wf w; refine ⟨fun e => ?_, by simp [s], by simp [v], by simp [m], by simp [x], by simp [f]⟩
  have := h wf w e; simp only [decode, this.1, if_false, this.2, Option.bind_some, wf, if_true]

theorem ofS {i : Instr} (c : encodeC i = none) (v : encodeV i = none) (m : encodeM i = none) (x : encodeX i = none) (f : encodeF i = none)
    (h : i.wf = true → ∀ w, encodeS i = some w → w ≠ 0 ∧ decodeS w = some i) : Statement i := by
  intro wf w; refine ⟨by simp [c], fun e => ?_, by simp [v], by simp [m], by simp [x], by simp [f]⟩
  have := h wf w e; simp only [decode, this.1, if_false, this.2, Option.bind_some, wf, if_true]

theorem ofV {i : Instr} (c : encodeC i = none) (s : encodeS i = none) (m : encodeM i = none) (x : encodeX i = none) (f : encodeF i = none)
    (h : i.wf = true → ∀ w, encodeV i = some w → w ≠ 0 ∧ decodeV w = some i) : Statement i := by
  intro wf w; refine ⟨by simp [c], by simp [s], fun e => ?_, by simp [m], by simp [x], by simp [f]⟩
  have := h wf w e; constructor <;> simp only [decode, this.1, if_false, this.2, Option.bind_some, wf, if_true]

theorem ofM {i : Instr} (c : encodeC i = none) (s : encodeS i = none) (v : encodeV i = none) (x : encodeX i = none) (f : encodeF i = none)
    (h : i.wf = true → ∀ w, encodeM i = some w → w ≠ 0 ∧ decodeM w = some i) : Statement i := by
  intro wf w; refine ⟨by simp [c], by simp [s], by simp [v], fun e => ?_, by simp [x], by simp [f]⟩
  have := h wf w e; simp only [decode, this.1, if_false, this.2, Option.bind_some, wf, if_true]

theorem ofX {i : Instr} (c : encodeC i = none) (s : encodeS i = none) (v : encodeV i = none) (m : encodeM i = none) (f : encodeF i = none)
    (h : i.wf = true → ∀ w, encodeX i = some w → w ≠ 0 ∧ decodeX w = some i) : Statement i := by
  intro wf w; refine ⟨by simp [c], by simp [s], by simp [v], by simp [m], fun e => ?_, by simp [f]⟩
  have := h wf w e; constructor <;> simp only [decode, this.1, if_false, this.2, Option.bind_some, wf, if_true]

theorem ofF {i : Instr} (c : encodeC i = none) (s : encodeS i = none) (v : encodeV i = none) (m : encodeM i = none) (x : encodeX i = none)
    (h : i.wf = true → ∀ w, encodeF i = some w → w ≠ 0 ∧ decodeF w = some i) : Statement i := by
  intro wf w; refine ⟨by simp [c], by simp [s], by simp [v], by simp [m], by simp [x], fun e => ?_⟩
  have := h wf w e; simp only [decode, this.1, if_false, this.2, Option.bind_some, wf, if_true]

theorem ofEvent {i : Instr} (c : encodeC i = none) (s : encodeS i = none) (v : encodeV i = none) (m : encodeM i = none)
    (x : encodeX i = none) (f : encodeF i = none) : Statement i := by
  intro _ w; simp [c, s, v, m, x, f]

theorem nop : Statement .nop := ofEvent rfl rfl rfl rfl rfl rfl
theorem halt : Statement .halt := ofC rfl rfl rfl rfl rfl fun wf wd e => by
  have e : 0x02000000 = wd := Option.some.inj e
  obtain ⟨z, f0, f1, f2, f3, f4⟩ := shape0 (op := 1) (s := 0) (w := wd) (by decide) (by decide) (by decide)  (by omega)
  refine ⟨z, ?_⟩; simp [decodeC, f0, f1, f2, f3, f4, finOf_val, bitOf_toNat, boolOf_toNat, Option.bind_some, reduceIte, and_self]
theorem trap (imm : BitVec 16) : Statement (.trap imm) := ofC rfl rfl rfl rfl rfl fun wf wd e => by
  have e : 0x04000000 + imm.toNat = wd := Option.some.inj e
  obtain ⟨z, f0, f1, f2⟩ := shape1 (op := 2) (w := wd) (by decide) (by decide) (imm.isLt) (by omega)
  refine ⟨z, ?_⟩; simp [decodeC, f0, f1, f2, finOf_val, bitOf_toNat, boolOf_toNat, Option.bind_some, reduceIte, and_self]
theorem br (t : BitVec 11) : Statement (.br t) := ofC rfl rfl rfl rfl rfl fun wf wd e => by
  have e : 0x08000000 + t.toNat = wd := Option.some.inj e
  obtain ⟨z, f0, f1, f2⟩ := shape2 (op := 4) (w := wd) (by decide) (by decide) (t.isLt) (by omega)
  refine ⟨z, ?_⟩; simp [decodeC, f0, f1, f2, finOf_val, bitOf_toNat, boolOf_toNat, Option.bind_some, reduceIte, and_self]
theorem brp (g : Guard) (t : BitVec 11) : Statement (.brp g t) := ofC rfl rfl rfl rfl rfl fun wf wd e => by
  have e : 0x0a000000 + g.p.val * 2 ^ 22 + g.inv.toNat * 2 ^ 21 + t.toNat = wd := Option.some.inj e
  obtain ⟨z, f0, f1, f2, f3, f4⟩ := shape3 (op := 5) (w := wd) (by decide) (by decide) (g.p.isLt) (bool_lt g.inv) (t.isLt) (by omega)
  refine ⟨z, ?_⟩; simp [decodeC, f0, f1, f2, f3, f4, finOf_val, bitOf_toNat, boolOf_toNat, Option.bind_some, reduceIte, and_self]
theorem brz (nz : Bool) (k : Fin 32) (t : BitVec 11) : Statement (.brz nz k t) := ofC rfl rfl rfl rfl rfl fun wf wd e => by
  have e : 0x0c000000 + nz.toNat * 2 ^ 21 + k.val * 2 ^ 16 + t.toNat = wd := Option.some.inj e
  obtain ⟨z, f0, f1, f2, f3, f4, f5⟩ := shape4 (op := 6) (w := wd) (by decide) (by decide) (bool_lt nz) (k.isLt) (t.isLt) (by omega)
  refine ⟨z, ?_⟩; simp [decodeC, f0, f1, f2, f3, f4, f5, finOf_val, bitOf_toNat, boolOf_toNat, Option.bind_some, reduceIte, and_self]
theorem call (g : Guard) (t : BitVec 11) : Statement (.call g t) := ofC rfl rfl rfl rfl rfl fun wf wd e => by
  have e : 0x0e000000 + g.p.val * 2 ^ 22 + g.inv.toNat * 2 ^ 21 + t.toNat = wd := Option.some.inj e
  obtain ⟨z, f0, f1, f2, f3, f4⟩ := shape3 (op := 7) (w := wd) (by decide) (by decide) (g.p.isLt) (bool_lt g.inv) (t.isLt) (by omega)
  refine ⟨z, ?_⟩; simp [decodeC, f0, f1, f2, f3, f4, finOf_val, bitOf_toNat, boolOf_toNat, Option.bind_some, reduceIte, and_self]
theorem ret (g : Guard) : Statement (.ret g) := ofC rfl rfl rfl rfl rfl fun wf wd e => by
  have e : 0x10000000 + g.p.val * 2 ^ 22 + g.inv.toNat * 2 ^ 21 = wd := Option.some.inj e
  obtain ⟨z, f0, f1, f2, f3⟩ := shape5 (op := 8) (s := 0) (w := wd) (by decide) (by decide) (by decide) (g.p.isLt) (bool_lt g.inv) (by omega)
  refine ⟨z, ?_⟩; simp [decodeC, f0, f1, f2, f3, finOf_val, bitOf_toNat, boolOf_toNat, Option.bind_some, reduceIte, and_self]
theorem loop (lv : Fin 4) (x : BitVec 12) (t : BitVec 11) : Statement (.loop lv x t) := ofC rfl rfl rfl rfl rfl fun wf wd e => by
  have e : 0x18000000 + lv.val * 2 ^ 23 + x.toNat * 2 ^ 11 + t.toNat = wd := Option.some.inj e
  obtain ⟨z, f0, f1, f2, f3⟩ := shape6 (op := 12) (w := wd) (by decide) (by decide) (lv.isLt) (x.isLt) (t.isLt) (by omega)
  refine ⟨z, ?_⟩; simp [decodeC, f0, f1, f2, f3, finOf_val, bitOf_toNat, boolOf_toNat, Option.bind_some, reduceIte, and_self]
theorem loops (lv : Fin 4) (k : Fin 32) (t : BitVec 11) : Statement (.loops lv k t) := ofC rfl rfl rfl rfl rfl fun wf wd e => by
  have e : 0x1a000000 + lv.val * 2 ^ 23 + k.val * 2 ^ 11 + t.toNat = wd := Option.some.inj e
  obtain ⟨z, f0, f1, f2, f3, f4⟩ := shape7 (op := 13) (w := wd) (by decide) (by decide) (lv.isLt) (k.isLt) (t.isLt) (by omega)
  refine ⟨z, ?_⟩; simp [decodeC, f0, f1, f2, f3, f4, finOf_val, bitOf_toNat, boolOf_toNat, Option.bind_some, reduceIte, and_self]
theorem replay (lv : Fin 4) (st : Fin 8) (k : Fin 32) (t : BitVec 11) : Statement (.replay lv st k t) := ofC rfl rfl rfl rfl rfl fun wf wd e => by
  have e : 0x1c000000 + lv.val * 2 ^ 23 + st.val * 2 ^ 20 + k.val * 2 ^ 11 + t.toNat = wd := Option.some.inj e
  obtain ⟨z, f0, f1, f2, f3, f4, f5⟩ := shape8 (op := 14) (w := wd) (by decide) (by decide) (lv.isLt) (st.isLt) (k.isLt) (t.isLt) (by omega)
  refine ⟨z, ?_⟩; simp [decodeC, f0, f1, f2, f3, f4, f5, finOf_val, bitOf_toNat, boolOf_toNat, Option.bind_some, reduceIte, and_self]
theorem waitcue (a : Sel) : Statement (.waitcue a) := ofC rfl rfl rfl rfl rfl fun wf wd e => by
  have e : 0x20000000 + selCode a * 2 ^ 16 = wd := Option.some.inj e
  obtain ⟨z, f0, f1, f2, f3⟩ := shape9 (op := 16) (s := 0) (w := wd) (by decide) (by decide) (by decide) (selCode_lt64 a) (by omega)
  refine ⟨z, ?_⟩; simp [decodeC, f0, f1, f2, f3, selOf_selCode, finOf_val, bitOf_toNat, boolOf_toNat, Option.bind_some, reduceIte, and_self]
theorem waitrel (imm : BitVec 16) : Statement (.waitrel imm) := ofC rfl rfl rfl rfl rfl fun wf wd e => by
  have e : 0x22000000 + imm.toNat = wd := Option.some.inj e
  obtain ⟨z, f0, f1, f2⟩ := shape1 (op := 17) (w := wd) (by decide) (by decide) (imm.isLt) (by omega)
  refine ⟨z, ?_⟩; simp [decodeC, f0, f1, f2, finOf_val, bitOf_toNat, boolOf_toNat, Option.bind_some, reduceIte, and_self]
theorem join (a : Sel) : Statement (.join a) := ofC rfl rfl rfl rfl rfl fun wf wd e => by
  have e : 0x24000000 + selCode a * 2 ^ 16 = wd := Option.some.inj e
  obtain ⟨z, f0, f1, f2, f3⟩ := shape9 (op := 18) (s := 0) (w := wd) (by decide) (by decide) (by decide) (selCode_lt64 a) (by omega)
  refine ⟨z, ?_⟩; simp [decodeC, f0, f1, f2, f3, selOf_selCode, finOf_val, bitOf_toNat, boolOf_toNat, Option.bind_some, reduceIte, and_self]
theorem waite (j : Fin 16) (imm : BitVec 16) : Statement (.waite j imm) := ofC rfl rfl rfl rfl rfl fun wf wd e => by
  have e : 0x28000000 + j.val * 2 ^ 21 + imm.toNat = wd := Option.some.inj e
  obtain ⟨z, f0, f1, f2, f3⟩ := shape10 (op := 20) (w := wd) (by decide) (by decide) (j.isLt) (imm.isLt) (by omega)
  refine ⟨z, ?_⟩; simp [decodeC, f0, f1, f2, f3, finOf_val, bitOf_toNat, boolOf_toNat, Option.bind_some, reduceIte, and_self]
theorem clre (imm : BitVec 16) : Statement (.clre imm) := ofC rfl rfl rfl rfl rfl fun wf wd e => by
  have e : 0x2a000000 + imm.toNat = wd := Option.some.inj e
  obtain ⟨z, f0, f1, f2⟩ := shape1 (op := 21) (w := wd) (by decide) (by decide) (imm.isLt) (by omega)
  refine ⟨z, ?_⟩; simp [decodeC, f0, f1, f2, finOf_val, bitOf_toNat, boolOf_toNat, Option.bind_some, reduceIte, and_self]
theorem waitown (u : Fin 256) (imm : BitVec 16) : Statement (.waitown u imm) := ofC rfl rfl rfl rfl rfl fun wf wd e => by
  have e : 0x2c000000 + u.val * 2 ^ 17 + imm.toNat = wd := Option.some.inj e
  obtain ⟨z, f0, f1, f2, f3⟩ := shape11 (op := 22) (w := wd) (by decide) (by decide) (u.isLt) (imm.isLt) (by omega)
  refine ⟨z, ?_⟩; simp [decodeC, f0, f1, f2, f3, finOf_val, bitOf_toNat, boolOf_toNat, Option.bind_some, reduceIte, and_self]
theorem skipm (n : BitVec 11) : Statement (.skipm n) := ofC rfl rfl rfl rfl rfl fun wf wd e => by
  have e : 0x30000000 + n.toNat = wd := Option.some.inj e
  obtain ⟨z, f0, f1, f2⟩ := shape2 (op := 24) (w := wd) (by decide) (by decide) (n.isLt) (by omega)
  refine ⟨z, ?_⟩; simp [decodeC, f0, f1, f2, finOf_val, bitOf_toNat, boolOf_toNat, Option.bind_some, reduceIte, and_self]
theorem markRb : Statement .markRb := ofC rfl rfl rfl rfl rfl fun wf wd e => by
  have e : 0x34000000 = wd := Option.some.inj e
  obtain ⟨z, f0, f1, f2, f3, f4⟩ := shape0 (op := 26) (s := 0) (w := wd) (by decide) (by decide) (by decide)  (by omega)
  refine ⟨z, ?_⟩; simp [decodeC, f0, f1, f2, f3, f4, finOf_val, bitOf_toNat, boolOf_toNat, Option.bind_some, reduceIte, and_self]
theorem markOv (imm : BitVec 16) : Statement (.markOv imm) := ofC rfl rfl rfl rfl rfl fun wf wd e => by
  have e : 0x36000000 + imm.toNat = wd := Option.some.inj e
  obtain ⟨z, f0, f1, f2⟩ := shape1 (op := 27) (w := wd) (by decide) (by decide) (imm.isLt) (by omega)
  refine ⟨z, ?_⟩; simp [decodeC, f0, f1, f2, finOf_val, bitOf_toNat, boolOf_toNat, Option.bind_some, reduceIte, and_self]
theorem jumpOv (t : BitVec 11) : Statement (.jumpOv t) := ofC rfl rfl rfl rfl rfl fun wf wd e => by
  have e : 0x38000000 + t.toNat = wd := Option.some.inj e
  obtain ⟨z, f0, f1, f2⟩ := shape2 (op := 28) (w := wd) (by decide) (by decide) (t.isLt) (by omega)
  refine ⟨z, ?_⟩; simp [decodeC, f0, f1, f2, finOf_val, bitOf_toNat, boolOf_toNat, Option.bind_some, reduceIte, and_self]
theorem signal (j : Fin 16) : Statement (.signal j) := ofC rfl rfl rfl rfl rfl fun wf wd e => by
  have e : 0x3c000000 + j.val * 2 ^ 21 = wd := Option.some.inj e
  obtain ⟨z, f0, f1, f2⟩ := shape12 (op := 30) (s := 0) (w := wd) (by decide) (by decide) (by decide) (j.isLt) (by omega)
  refine ⟨z, ?_⟩; simp [decodeC, f0, f1, f2, finOf_val, bitOf_toNat, boolOf_toNat, Option.bind_some, reduceIte, and_self]
theorem add (r : Dst) (a : Sel) (b : Sel) : Statement (.add r a b) := ofS rfl rfl rfl rfl rfl fun wf wd e => by
  have e : 0x02000000 + dstCode r + selCode a * 2 ^ 10 + selCode b * 2 ^ 4 = wd := Option.some.inj e
  unfold dstCode at e
  obtain ⟨z, f0, f1, f2, f3, f4, f5, f6, f7⟩ := shape13 (op := 1) (s := 0) (w := wd) (by decide) (by decide) (by decide) (bool_lt r.n) (r.l.isLt) (r.d.isLt) (selCode_lt64 a) (selCode_lt64 b) (by omega)
  have d : dstOf wd = some r := dstOf_fields f1 f2 f3
  refine ⟨z, ?_⟩; simp [decodeS, f0, f1, f2, f3, f4, f5, f6, f7, d, selOf_selCode, finOf_val, bitOf_toNat, boolOf_toNat, Option.bind_some, reduceIte, and_self]
theorem sub (r : Dst) (a : Sel) (b : Sel) : Statement (.sub r a b) := ofS rfl rfl rfl rfl rfl fun wf wd e => by
  have e : 0x02000001 + dstCode r + selCode a * 2 ^ 10 + selCode b * 2 ^ 4 = wd := Option.some.inj e
  unfold dstCode at e
  obtain ⟨z, f0, f1, f2, f3, f4, f5, f6, f7⟩ := shape13 (op := 1) (s := 1) (w := wd) (by decide) (by decide) (by decide) (bool_lt r.n) (r.l.isLt) (r.d.isLt) (selCode_lt64 a) (selCode_lt64 b) (by omega)
  have d : dstOf wd = some r := dstOf_fields f1 f2 f3
  refine ⟨z, ?_⟩; simp [decodeS, f0, f1, f2, f3, f4, f5, f6, f7, d, selOf_selCode, finOf_val, bitOf_toNat, boolOf_toNat, Option.bind_some, reduceIte, and_self]
theorem and (r : Dst) (a : Sel) (b : Sel) : Statement (.and r a b) := ofS rfl rfl rfl rfl rfl fun wf wd e => by
  have e : 0x02000002 + dstCode r + selCode a * 2 ^ 10 + selCode b * 2 ^ 4 = wd := Option.some.inj e
  unfold dstCode at e
  obtain ⟨z, f0, f1, f2, f3, f4, f5, f6, f7⟩ := shape13 (op := 1) (s := 2) (w := wd) (by decide) (by decide) (by decide) (bool_lt r.n) (r.l.isLt) (r.d.isLt) (selCode_lt64 a) (selCode_lt64 b) (by omega)
  have d : dstOf wd = some r := dstOf_fields f1 f2 f3
  refine ⟨z, ?_⟩; simp [decodeS, f0, f1, f2, f3, f4, f5, f6, f7, d, selOf_selCode, finOf_val, bitOf_toNat, boolOf_toNat, Option.bind_some, reduceIte, and_self]
theorem or (r : Dst) (a : Sel) (b : Sel) : Statement (.or r a b) := ofS rfl rfl rfl rfl rfl fun wf wd e => by
  have e : 0x02000003 + dstCode r + selCode a * 2 ^ 10 + selCode b * 2 ^ 4 = wd := Option.some.inj e
  unfold dstCode at e
  obtain ⟨z, f0, f1, f2, f3, f4, f5, f6, f7⟩ := shape13 (op := 1) (s := 3) (w := wd) (by decide) (by decide) (by decide) (bool_lt r.n) (r.l.isLt) (r.d.isLt) (selCode_lt64 a) (selCode_lt64 b) (by omega)
  have d : dstOf wd = some r := dstOf_fields f1 f2 f3
  refine ⟨z, ?_⟩; simp [decodeS, f0, f1, f2, f3, f4, f5, f6, f7, d, selOf_selCode, finOf_val, bitOf_toNat, boolOf_toNat, Option.bind_some, reduceIte, and_self]
theorem xor (r : Dst) (a : Sel) (b : Sel) : Statement (.xor r a b) := ofS rfl rfl rfl rfl rfl fun wf wd e => by
  have e : 0x02000004 + dstCode r + selCode a * 2 ^ 10 + selCode b * 2 ^ 4 = wd := Option.some.inj e
  unfold dstCode at e
  obtain ⟨z, f0, f1, f2, f3, f4, f5, f6, f7⟩ := shape13 (op := 1) (s := 4) (w := wd) (by decide) (by decide) (by decide) (bool_lt r.n) (r.l.isLt) (r.d.isLt) (selCode_lt64 a) (selCode_lt64 b) (by omega)
  have d : dstOf wd = some r := dstOf_fields f1 f2 f3
  refine ⟨z, ?_⟩; simp [decodeS, f0, f1, f2, f3, f4, f5, f6, f7, d, selOf_selCode, finOf_val, bitOf_toNat, boolOf_toNat, Option.bind_some, reduceIte, and_self]
theorem shl (r : Dst) (a : Sel) (b : Sel) : Statement (.shl r a b) := ofS rfl rfl rfl rfl rfl fun wf wd e => by
  have e : 0x02000005 + dstCode r + selCode a * 2 ^ 10 + selCode b * 2 ^ 4 = wd := Option.some.inj e
  unfold dstCode at e
  obtain ⟨z, f0, f1, f2, f3, f4, f5, f6, f7⟩ := shape13 (op := 1) (s := 5) (w := wd) (by decide) (by decide) (by decide) (bool_lt r.n) (r.l.isLt) (r.d.isLt) (selCode_lt64 a) (selCode_lt64 b) (by omega)
  have d : dstOf wd = some r := dstOf_fields f1 f2 f3
  refine ⟨z, ?_⟩; simp [decodeS, f0, f1, f2, f3, f4, f5, f6, f7, d, selOf_selCode, finOf_val, bitOf_toNat, boolOf_toNat, Option.bind_some, reduceIte, and_self]
theorem shr (r : Dst) (a : Sel) (b : Sel) : Statement (.shr r a b) := ofS rfl rfl rfl rfl rfl fun wf wd e => by
  have e : 0x02000006 + dstCode r + selCode a * 2 ^ 10 + selCode b * 2 ^ 4 = wd := Option.some.inj e
  unfold dstCode at e
  obtain ⟨z, f0, f1, f2, f3, f4, f5, f6, f7⟩ := shape13 (op := 1) (s := 6) (w := wd) (by decide) (by decide) (by decide) (bool_lt r.n) (r.l.isLt) (r.d.isLt) (selCode_lt64 a) (selCode_lt64 b) (by omega)
  have d : dstOf wd = some r := dstOf_fields f1 f2 f3
  refine ⟨z, ?_⟩; simp [decodeS, f0, f1, f2, f3, f4, f5, f6, f7, d, selOf_selCode, finOf_val, bitOf_toNat, boolOf_toNat, Option.bind_some, reduceIte, and_self]
theorem sha (r : Dst) (a : Sel) (b : Sel) : Statement (.sha r a b) := ofS rfl rfl rfl rfl rfl fun wf wd e => by
  have e : 0x02000007 + dstCode r + selCode a * 2 ^ 10 + selCode b * 2 ^ 4 = wd := Option.some.inj e
  unfold dstCode at e
  obtain ⟨z, f0, f1, f2, f3, f4, f5, f6, f7⟩ := shape13 (op := 1) (s := 7) (w := wd) (by decide) (by decide) (by decide) (bool_lt r.n) (r.l.isLt) (r.d.isLt) (selCode_lt64 a) (selCode_lt64 b) (by omega)
  have d : dstOf wd = some r := dstOf_fields f1 f2 f3
  refine ⟨z, ?_⟩; simp [decodeS, f0, f1, f2, f3, f4, f5, f6, f7, d, selOf_selCode, finOf_val, bitOf_toNat, boolOf_toNat, Option.bind_some, reduceIte, and_self]
theorem min (r : Dst) (a : Sel) (b : Sel) : Statement (.min r a b) := ofS rfl rfl rfl rfl rfl fun wf wd e => by
  have e : 0x02000008 + dstCode r + selCode a * 2 ^ 10 + selCode b * 2 ^ 4 = wd := Option.some.inj e
  unfold dstCode at e
  obtain ⟨z, f0, f1, f2, f3, f4, f5, f6, f7⟩ := shape13 (op := 1) (s := 8) (w := wd) (by decide) (by decide) (by decide) (bool_lt r.n) (r.l.isLt) (r.d.isLt) (selCode_lt64 a) (selCode_lt64 b) (by omega)
  have d : dstOf wd = some r := dstOf_fields f1 f2 f3
  refine ⟨z, ?_⟩; simp [decodeS, f0, f1, f2, f3, f4, f5, f6, f7, d, selOf_selCode, finOf_val, bitOf_toNat, boolOf_toNat, Option.bind_some, reduceIte, and_self]
theorem max (r : Dst) (a : Sel) (b : Sel) : Statement (.max r a b) := ofS rfl rfl rfl rfl rfl fun wf wd e => by
  have e : 0x02000009 + dstCode r + selCode a * 2 ^ 10 + selCode b * 2 ^ 4 = wd := Option.some.inj e
  unfold dstCode at e
  obtain ⟨z, f0, f1, f2, f3, f4, f5, f6, f7⟩ := shape13 (op := 1) (s := 9) (w := wd) (by decide) (by decide) (by decide) (bool_lt r.n) (r.l.isLt) (r.d.isLt) (selCode_lt64 a) (selCode_lt64 b) (by omega)
  have d : dstOf wd = some r := dstOf_fields f1 f2 f3
  refine ⟨z, ?_⟩; simp [decodeS, f0, f1, f2, f3, f4, f5, f6, f7, d, selOf_selCode, finOf_val, bitOf_toNat, boolOf_toNat, Option.bind_some, reduceIte, and_self]
theorem minn (r : Dst) (a : Sel) (b : Sel) : Statement (.minn r a b) := ofS rfl rfl rfl rfl rfl fun wf wd e => by
  have e : 0x0200000a + dstCode r + selCode a * 2 ^ 10 + selCode b * 2 ^ 4 = wd := Option.some.inj e
  unfold dstCode at e
  obtain ⟨z, f0, f1, f2, f3, f4, f5, f6, f7⟩ := shape13 (op := 1) (s := 10) (w := wd) (by decide) (by decide) (by decide) (bool_lt r.n) (r.l.isLt) (r.d.isLt) (selCode_lt64 a) (selCode_lt64 b) (by omega)
  have d : dstOf wd = some r := dstOf_fields f1 f2 f3
  refine ⟨z, ?_⟩; simp [decodeS, f0, f1, f2, f3, f4, f5, f6, f7, d, selOf_selCode, finOf_val, bitOf_toNat, boolOf_toNat, Option.bind_some, reduceIte, and_self]
theorem maxn (r : Dst) (a : Sel) (b : Sel) : Statement (.maxn r a b) := ofS rfl rfl rfl rfl rfl fun wf wd e => by
  have e : 0x0200000b + dstCode r + selCode a * 2 ^ 10 + selCode b * 2 ^ 4 = wd := Option.some.inj e
  unfold dstCode at e
  obtain ⟨z, f0, f1, f2, f3, f4, f5, f6, f7⟩ := shape13 (op := 1) (s := 11) (w := wd) (by decide) (by decide) (by decide) (bool_lt r.n) (r.l.isLt) (r.d.isLt) (selCode_lt64 a) (selCode_lt64 b) (by omega)
  have d : dstOf wd = some r := dstOf_fields f1 f2 f3
  refine ⟨z, ?_⟩; simp [decodeS, f0, f1, f2, f3, f4, f5, f6, f7, d, selOf_selCode, finOf_val, bitOf_toNat, boolOf_toNat, Option.bind_some, reduceIte, and_self]
theorem clz (r : Dst) (a : Sel) : Statement (.clz r a) := ofS rfl rfl rfl rfl rfl fun wf wd e => by
  have e : 0x0200000c + dstCode r + selCode a * 2 ^ 10 = wd := Option.some.inj e
  unfold dstCode at e
  obtain ⟨z, f0, f1, f2, f3, f4, f5, f6, f7⟩ := shape14 (op := 1) (s := 12) (w := wd) (by decide) (by decide) (by decide) (bool_lt r.n) (r.l.isLt) (r.d.isLt) (selCode_lt64 a) (by omega)
  have d : dstOf wd = some r := dstOf_fields f1 f2 f3
  refine ⟨z, ?_⟩; simp [decodeS, f0, f1, f2, f3, f4, f5, f6, f7, d, selOf_selCode, finOf_val, bitOf_toNat, boolOf_toNat, Option.bind_some, reduceIte, and_self]
theorem popc (r : Dst) (a : Sel) : Statement (.popc r a) := ofS rfl rfl rfl rfl rfl fun wf wd e => by
  have e : 0x0200000d + dstCode r + selCode a * 2 ^ 10 = wd := Option.some.inj e
  unfold dstCode at e
  obtain ⟨z, f0, f1, f2, f3, f4, f5, f6, f7⟩ := shape14 (op := 1) (s := 13) (w := wd) (by decide) (by decide) (by decide) (bool_lt r.n) (r.l.isLt) (r.d.isLt) (selCode_lt64 a) (by omega)
  have d : dstOf wd = some r := dstOf_fields f1 f2 f3
  refine ⟨z, ?_⟩; simp [decodeS, f0, f1, f2, f3, f4, f5, f6, f7, d, selOf_selCode, finOf_val, bitOf_toNat, boolOf_toNat, Option.bind_some, reduceIte, and_self]
theorem mul (r : Dst) (a : Sel) (b : Sel) : Statement (.mul r a b) := ofS rfl rfl rfl rfl rfl fun wf wd e => by
  have e : 0x04000000 + dstCode r + selCode a * 2 ^ 10 + selCode b * 2 ^ 4 = wd := Option.some.inj e
  unfold dstCode at e
  obtain ⟨z, f0, f1, f2, f3, f4, f5, f6, f7⟩ := shape13 (op := 2) (s := 0) (w := wd) (by decide) (by decide) (by decide) (bool_lt r.n) (r.l.isLt) (r.d.isLt) (selCode_lt64 a) (selCode_lt64 b) (by omega)
  have d : dstOf wd = some r := dstOf_fields f1 f2 f3
  refine ⟨z, ?_⟩; simp [decodeS, f0, f1, f2, f3, f4, f5, f6, f7, d, selOf_selCode, finOf_val, bitOf_toNat, boolOf_toNat, Option.bind_some, reduceIte, and_self]
theorem mulh (r : Dst) (a : Sel) (b : Sel) : Statement (.mulh r a b) := ofS rfl rfl rfl rfl rfl fun wf wd e => by
  have e : 0x04000001 + dstCode r + selCode a * 2 ^ 10 + selCode b * 2 ^ 4 = wd := Option.some.inj e
  unfold dstCode at e
  obtain ⟨z, f0, f1, f2, f3, f4, f5, f6, f7⟩ := shape13 (op := 2) (s := 1) (w := wd) (by decide) (by decide) (by decide) (bool_lt r.n) (r.l.isLt) (r.d.isLt) (selCode_lt64 a) (selCode_lt64 b) (by omega)
  have d : dstOf wd = some r := dstOf_fields f1 f2 f3
  refine ⟨z, ?_⟩; simp [decodeS, f0, f1, f2, f3, f4, f5, f6, f7, d, selOf_selCode, finOf_val, bitOf_toNat, boolOf_toNat, Option.bind_some, reduceIte, and_self]
theorem mulhn (r : Dst) (a : Sel) (b : Sel) : Statement (.mulhn r a b) := ofS rfl rfl rfl rfl rfl fun wf wd e => by
  have e : 0x04000002 + dstCode r + selCode a * 2 ^ 10 + selCode b * 2 ^ 4 = wd := Option.some.inj e
  unfold dstCode at e
  obtain ⟨z, f0, f1, f2, f3, f4, f5, f6, f7⟩ := shape13 (op := 2) (s := 2) (w := wd) (by decide) (by decide) (by decide) (bool_lt r.n) (r.l.isLt) (r.d.isLt) (selCode_lt64 a) (selCode_lt64 b) (by omega)
  have d : dstOf wd = some r := dstOf_fields f1 f2 f3
  refine ⟨z, ?_⟩; simp [decodeS, f0, f1, f2, f3, f4, f5, f6, f7, d, selOf_selCode, finOf_val, bitOf_toNat, boolOf_toNat, Option.bind_some, reduceIte, and_self]
theorem div (r : Dst) (a : Sel) (b : Sel) : Statement (.div r a b) := ofS rfl rfl rfl rfl rfl fun wf wd e => by
  have e : 0x04000003 + dstCode r + selCode a * 2 ^ 10 + selCode b * 2 ^ 4 = wd := Option.some.inj e
  unfold dstCode at e
  obtain ⟨z, f0, f1, f2, f3, f4, f5, f6, f7⟩ := shape13 (op := 2) (s := 3) (w := wd) (by decide) (by decide) (by decide) (bool_lt r.n) (r.l.isLt) (r.d.isLt) (selCode_lt64 a) (selCode_lt64 b) (by omega)
  have d : dstOf wd = some r := dstOf_fields f1 f2 f3
  refine ⟨z, ?_⟩; simp [decodeS, f0, f1, f2, f3, f4, f5, f6, f7, d, selOf_selCode, finOf_val, bitOf_toNat, boolOf_toNat, Option.bind_some, reduceIte, and_self]
theorem divn (r : Dst) (a : Sel) (b : Sel) : Statement (.divn r a b) := ofS rfl rfl rfl rfl rfl fun wf wd e => by
  have e : 0x04000004 + dstCode r + selCode a * 2 ^ 10 + selCode b * 2 ^ 4 = wd := Option.some.inj e
  unfold dstCode at e
  obtain ⟨z, f0, f1, f2, f3, f4, f5, f6, f7⟩ := shape13 (op := 2) (s := 4) (w := wd) (by decide) (by decide) (by decide) (bool_lt r.n) (r.l.isLt) (r.d.isLt) (selCode_lt64 a) (selCode_lt64 b) (by omega)
  have d : dstOf wd = some r := dstOf_fields f1 f2 f3
  refine ⟨z, ?_⟩; simp [decodeS, f0, f1, f2, f3, f4, f5, f6, f7, d, selOf_selCode, finOf_val, bitOf_toNat, boolOf_toNat, Option.bind_some, reduceIte, and_self]
theorem rem (r : Dst) (a : Sel) (b : Sel) : Statement (.rem r a b) := ofS rfl rfl rfl rfl rfl fun wf wd e => by
  have e : 0x04000005 + dstCode r + selCode a * 2 ^ 10 + selCode b * 2 ^ 4 = wd := Option.some.inj e
  unfold dstCode at e
  obtain ⟨z, f0, f1, f2, f3, f4, f5, f6, f7⟩ := shape13 (op := 2) (s := 5) (w := wd) (by decide) (by decide) (by decide) (bool_lt r.n) (r.l.isLt) (r.d.isLt) (selCode_lt64 a) (selCode_lt64 b) (by omega)
  have d : dstOf wd = some r := dstOf_fields f1 f2 f3
  refine ⟨z, ?_⟩; simp [decodeS, f0, f1, f2, f3, f4, f5, f6, f7, d, selOf_selCode, finOf_val, bitOf_toNat, boolOf_toNat, Option.bind_some, reduceIte, and_self]
theorem remn (r : Dst) (a : Sel) (b : Sel) : Statement (.remn r a b) := ofS rfl rfl rfl rfl rfl fun wf wd e => by
  have e : 0x04000006 + dstCode r + selCode a * 2 ^ 10 + selCode b * 2 ^ 4 = wd := Option.some.inj e
  unfold dstCode at e
  obtain ⟨z, f0, f1, f2, f3, f4, f5, f6, f7⟩ := shape13 (op := 2) (s := 6) (w := wd) (by decide) (by decide) (by decide) (bool_lt r.n) (r.l.isLt) (r.d.isLt) (selCode_lt64 a) (selCode_lt64 b) (by omega)
  have d : dstOf wd = some r := dstOf_fields f1 f2 f3
  refine ⟨z, ?_⟩; simp [decodeS, f0, f1, f2, f3, f4, f5, f6, f7, d, selOf_selCode, finOf_val, bitOf_toNat, boolOf_toNat, Option.bind_some, reduceIte, and_self]
theorem cmpEq (n : Bool) (l : Fin 4) (p : Fin 8) (a : Sel) (b : Sel) : Statement (.cmpEq n l p a b) := ofS rfl rfl rfl rfl rfl fun wf wd e => by
  have e : 0x06000000 + n.toNat * 2 ^ 24 + l.val * 2 ^ 22 + p.val * 2 ^ 16 + selCode a * 2 ^ 10 + selCode b * 2 ^ 4 = wd := Option.some.inj e
  obtain ⟨z, f0, f1, f2, f3, f4, f5, f6, f7⟩ := shape15 (op := 3) (s := 0) (w := wd) (by decide) (by decide) (by decide) (bool_lt n) (l.isLt) (p.isLt) (selCode_lt64 a) (selCode_lt64 b) (by omega)
  refine ⟨z, ?_⟩; simp [decodeS, f0, f1, f2, f3, f4, f5, f6, f7, selOf_selCode, finOf_val, bitOf_toNat, boolOf_toNat, Option.bind_some, reduceIte, and_self]
theorem cmpNe (n : Bool) (l : Fin 4) (p : Fin 8) (a : Sel) (b : Sel) : Statement (.cmpNe n l p a b) := ofS rfl rfl rfl rfl rfl fun wf wd e => by
  have e : 0x06000001 + n.toNat * 2 ^ 24 + l.val * 2 ^ 22 + p.val * 2 ^ 16 + selCode a * 2 ^ 10 + selCode b * 2 ^ 4 = wd := Option.some.inj e
  obtain ⟨z, f0, f1, f2, f3, f4, f5, f6, f7⟩ := shape15 (op := 3) (s := 1) (w := wd) (by decide) (by decide) (by decide) (bool_lt n) (l.isLt) (p.isLt) (selCode_lt64 a) (selCode_lt64 b) (by omega)
  refine ⟨z, ?_⟩; simp [decodeS, f0, f1, f2, f3, f4, f5, f6, f7, selOf_selCode, finOf_val, bitOf_toNat, boolOf_toNat, Option.bind_some, reduceIte, and_self]
theorem cmpLt (n : Bool) (l : Fin 4) (p : Fin 8) (a : Sel) (b : Sel) : Statement (.cmpLt n l p a b) := ofS rfl rfl rfl rfl rfl fun wf wd e => by
  have e : 0x06000002 + n.toNat * 2 ^ 24 + l.val * 2 ^ 22 + p.val * 2 ^ 16 + selCode a * 2 ^ 10 + selCode b * 2 ^ 4 = wd := Option.some.inj e
  obtain ⟨z, f0, f1, f2, f3, f4, f5, f6, f7⟩ := shape15 (op := 3) (s := 2) (w := wd) (by decide) (by decide) (by decide) (bool_lt n) (l.isLt) (p.isLt) (selCode_lt64 a) (selCode_lt64 b) (by omega)
  refine ⟨z, ?_⟩; simp [decodeS, f0, f1, f2, f3, f4, f5, f6, f7, selOf_selCode, finOf_val, bitOf_toNat, boolOf_toNat, Option.bind_some, reduceIte, and_self]
theorem cmpLtn (n : Bool) (l : Fin 4) (p : Fin 8) (a : Sel) (b : Sel) : Statement (.cmpLtn n l p a b) := ofS rfl rfl rfl rfl rfl fun wf wd e => by
  have e : 0x06000003 + n.toNat * 2 ^ 24 + l.val * 2 ^ 22 + p.val * 2 ^ 16 + selCode a * 2 ^ 10 + selCode b * 2 ^ 4 = wd := Option.some.inj e
  obtain ⟨z, f0, f1, f2, f3, f4, f5, f6, f7⟩ := shape15 (op := 3) (s := 3) (w := wd) (by decide) (by decide) (by decide) (bool_lt n) (l.isLt) (p.isLt) (selCode_lt64 a) (selCode_lt64 b) (by omega)
  refine ⟨z, ?_⟩; simp [decodeS, f0, f1, f2, f3, f4, f5, f6, f7, selOf_selCode, finOf_val, bitOf_toNat, boolOf_toNat, Option.bind_some, reduceIte, and_self]
theorem cmpGe (n : Bool) (l : Fin 4) (p : Fin 8) (a : Sel) (b : Sel) : Statement (.cmpGe n l p a b) := ofS rfl rfl rfl rfl rfl fun wf wd e => by
  have e : 0x06000004 + n.toNat * 2 ^ 24 + l.val * 2 ^ 22 + p.val * 2 ^ 16 + selCode a * 2 ^ 10 + selCode b * 2 ^ 4 = wd := Option.some.inj e
  obtain ⟨z, f0, f1, f2, f3, f4, f5, f6, f7⟩ := shape15 (op := 3) (s := 4) (w := wd) (by decide) (by decide) (by decide) (bool_lt n) (l.isLt) (p.isLt) (selCode_lt64 a) (selCode_lt64 b) (by omega)
  refine ⟨z, ?_⟩; simp [decodeS, f0, f1, f2, f3, f4, f5, f6, f7, selOf_selCode, finOf_val, bitOf_toNat, boolOf_toNat, Option.bind_some, reduceIte, and_self]
theorem cmpGen (n : Bool) (l : Fin 4) (p : Fin 8) (a : Sel) (b : Sel) : Statement (.cmpGen n l p a b) := ofS rfl rfl rfl rfl rfl fun wf wd e => by
  have e : 0x06000005 + n.toNat * 2 ^ 24 + l.val * 2 ^ 22 + p.val * 2 ^ 16 + selCode a * 2 ^ 10 + selCode b * 2 ^ 4 = wd := Option.some.inj e
  obtain ⟨z, f0, f1, f2, f3, f4, f5, f6, f7⟩ := shape15 (op := 3) (s := 5) (w := wd) (by decide) (by decide) (by decide) (bool_lt n) (l.isLt) (p.isLt) (selCode_lt64 a) (selCode_lt64 b) (by omega)
  refine ⟨z, ?_⟩; simp [decodeS, f0, f1, f2, f3, f4, f5, f6, f7, selOf_selCode, finOf_val, bitOf_toNat, boolOf_toNat, Option.bind_some, reduceIte, and_self]
theorem sel (r : Dst) (a : Sel) (b : Sel) (inv : Bool) (q : Fin 8) : Statement (.sel r a b inv q) := ofS rfl rfl rfl rfl rfl fun wf wd e => by
  have e : 0x08000000 + dstCode r + selCode a * 2 ^ 10 + selCode b * 2 ^ 4 + inv.toNat * 2 ^ 3 + q.val = wd := Option.some.inj e
  unfold dstCode at e
  obtain ⟨z, f0, f1, f2, f3, f4, f5, f6, f7⟩ := shape16 (op := 4) (w := wd) (by decide) (by decide) (bool_lt r.n) (r.l.isLt) (r.d.isLt) (selCode_lt64 a) (selCode_lt64 b) (bool_lt inv) (q.isLt) (by omega)
  have d : dstOf wd = some r := dstOf_fields f1 f2 f3
  refine ⟨z, ?_⟩; simp [decodeS, f0, f1, f2, f3, f4, f5, f6, f7, d, selOf_selCode, finOf_val, bitOf_toNat, boolOf_toNat, Option.bind_some, reduceIte, and_self]
theorem bfx (r : Dst) (a : Sel) (b : Sel) : Statement (.bfx r a b) := ofS rfl rfl rfl rfl rfl fun wf wd e => by
  have e : 0x0a000000 + dstCode r + selCode a * 2 ^ 10 + selCode b * 2 ^ 4 = wd := Option.some.inj e
  unfold dstCode at e
  obtain ⟨z, f0, f1, f2, f3, f4, f5, f6, f7⟩ := shape13 (op := 5) (s := 0) (w := wd) (by decide) (by decide) (by decide) (bool_lt r.n) (r.l.isLt) (r.d.isLt) (selCode_lt64 a) (selCode_lt64 b) (by omega)
  have d : dstOf wd = some r := dstOf_fields f1 f2 f3
  refine ⟨z, ?_⟩; simp [decodeS, f0, f1, f2, f3, f4, f5, f6, f7, d, selOf_selCode, finOf_val, bitOf_toNat, boolOf_toNat, Option.bind_some, reduceIte, and_self]
theorem bfi (r : Dst) (a : Sel) (b : Sel) : Statement (.bfi r a b) := ofS rfl rfl rfl rfl rfl fun wf wd e => by
  have e : 0x0a000001 + dstCode r + selCode a * 2 ^ 10 + selCode b * 2 ^ 4 = wd := Option.some.inj e
  unfold dstCode at e
  obtain ⟨z, f0, f1, f2, f3, f4, f5, f6, f7⟩ := shape13 (op := 5) (s := 1) (w := wd) (by decide) (by decide) (by decide) (bool_lt r.n) (r.l.isLt) (r.d.isLt) (selCode_lt64 a) (selCode_lt64 b) (by omega)
  have d : dstOf wd = some r := dstOf_fields f1 f2 f3
  refine ⟨z, ?_⟩; simp [decodeS, f0, f1, f2, f3, f4, f5, f6, f7, d, selOf_selCode, finOf_val, bitOf_toNat, boolOf_toNat, Option.bind_some, reduceIte, and_self]
theorem addi (r : Dst) (i : BitVec 16) : Statement (.addi r i) := ofS rfl rfl rfl rfl rfl fun wf wd e => by
  have e : 0x10000000 + dstCode r + i.toNat = wd := Option.some.inj e
  unfold dstCode at e
  obtain ⟨z, f0, f1, f2, f3, f4⟩ := shape17 (op := 8) (w := wd) (by decide) (by decide) (bool_lt r.n) (r.l.isLt) (r.d.isLt) (i.isLt) (by omega)
  have d : dstOf wd = some r := dstOf_fields f1 f2 f3
  refine ⟨z, ?_⟩; simp [decodeS, f0, f1, f2, f3, f4, d, finOf_val, bitOf_toNat, boolOf_toNat, Option.bind_some, reduceIte, and_self]
theorem andi (r : Dst) (i : BitVec 16) : Statement (.andi r i) := ofS rfl rfl rfl rfl rfl fun wf wd e => by
  have e : 0x12000000 + dstCode r + i.toNat = wd := Option.some.inj e
  unfold dstCode at e
  obtain ⟨z, f0, f1, f2, f3, f4⟩ := shape17 (op := 9) (w := wd) (by decide) (by decide) (bool_lt r.n) (r.l.isLt) (r.d.isLt) (i.isLt) (by omega)
  have d : dstOf wd = some r := dstOf_fields f1 f2 f3
  refine ⟨z, ?_⟩; simp [decodeS, f0, f1, f2, f3, f4, d, finOf_val, bitOf_toNat, boolOf_toNat, Option.bind_some, reduceIte, and_self]
theorem ori (r : Dst) (i : BitVec 16) : Statement (.ori r i) := ofS rfl rfl rfl rfl rfl fun wf wd e => by
  have e : 0x14000000 + dstCode r + i.toNat = wd := Option.some.inj e
  unfold dstCode at e
  obtain ⟨z, f0, f1, f2, f3, f4⟩ := shape17 (op := 10) (w := wd) (by decide) (by decide) (bool_lt r.n) (r.l.isLt) (r.d.isLt) (i.isLt) (by omega)
  have d : dstOf wd = some r := dstOf_fields f1 f2 f3
  refine ⟨z, ?_⟩; simp [decodeS, f0, f1, f2, f3, f4, d, finOf_val, bitOf_toNat, boolOf_toNat, Option.bind_some, reduceIte, and_self]
theorem xori (r : Dst) (i : BitVec 16) : Statement (.xori r i) := ofS rfl rfl rfl rfl rfl fun wf wd e => by
  have e : 0x16000000 + dstCode r + i.toNat = wd := Option.some.inj e
  unfold dstCode at e
  obtain ⟨z, f0, f1, f2, f3, f4⟩ := shape17 (op := 11) (w := wd) (by decide) (by decide) (bool_lt r.n) (r.l.isLt) (r.d.isLt) (i.isLt) (by omega)
  have d : dstOf wd = some r := dstOf_fields f1 f2 f3
  refine ⟨z, ?_⟩; simp [decodeS, f0, f1, f2, f3, f4, d, finOf_val, bitOf_toNat, boolOf_toNat, Option.bind_some, reduceIte, and_self]
theorem shli (r : Dst) (i : BitVec 6) : Statement (.shli r i) := ofS rfl rfl rfl rfl rfl fun wf wd e => by
  have e : 0x18000000 + dstCode r + i.toNat = wd := Option.some.inj e
  unfold dstCode at e
  obtain ⟨z, f0, f1, f2, f3, f4, f5⟩ := shape18 (op := 12) (w := wd) (by decide) (by decide) (bool_lt r.n) (r.l.isLt) (r.d.isLt) (i.isLt) (by omega)
  have d : dstOf wd = some r := dstOf_fields f1 f2 f3
  refine ⟨z, ?_⟩; simp [decodeS, f0, f1, f2, f3, f4, f5, d, finOf_val, bitOf_toNat, boolOf_toNat, Option.bind_some, reduceIte, and_self]
theorem shri (r : Dst) (i : BitVec 6) : Statement (.shri r i) := ofS rfl rfl rfl rfl rfl fun wf wd e => by
  have e : 0x1a000000 + dstCode r + i.toNat = wd := Option.some.inj e
  unfold dstCode at e
  obtain ⟨z, f0, f1, f2, f3, f4, f5⟩ := shape18 (op := 13) (w := wd) (by decide) (by decide) (bool_lt r.n) (r.l.isLt) (r.d.isLt) (i.isLt) (by omega)
  have d : dstOf wd = some r := dstOf_fields f1 f2 f3
  refine ⟨z, ?_⟩; simp [decodeS, f0, f1, f2, f3, f4, f5, d, finOf_val, bitOf_toNat, boolOf_toNat, Option.bind_some, reduceIte, and_self]
theorem shai (r : Dst) (i : BitVec 6) : Statement (.shai r i) := ofS rfl rfl rfl rfl rfl fun wf wd e => by
  have e : 0x1c000000 + dstCode r + i.toNat = wd := Option.some.inj e
  unfold dstCode at e
  obtain ⟨z, f0, f1, f2, f3, f4, f5⟩ := shape18 (op := 14) (w := wd) (by decide) (by decide) (bool_lt r.n) (r.l.isLt) (r.d.isLt) (i.isLt) (by omega)
  have d : dstOf wd = some r := dstOf_fields f1 f2 f3
  refine ⟨z, ?_⟩; simp [decodeS, f0, f1, f2, f3, f4, f5, d, finOf_val, bitOf_toNat, boolOf_toNat, Option.bind_some, reduceIte, and_self]
theorem li (r : Dst) (i : BitVec 16) : Statement (.li r i) := ofS rfl rfl rfl rfl rfl fun wf wd e => by
  have e : 0x1e000000 + dstCode r + i.toNat = wd := Option.some.inj e
  unfold dstCode at e
  obtain ⟨z, f0, f1, f2, f3, f4⟩ := shape17 (op := 15) (w := wd) (by decide) (by decide) (bool_lt r.n) (r.l.isLt) (r.d.isLt) (i.isLt) (by omega)
  have d : dstOf wd = some r := dstOf_fields f1 f2 f3
  refine ⟨z, ?_⟩; simp [decodeS, f0, f1, f2, f3, f4, d, finOf_val, bitOf_toNat, boolOf_toNat, Option.bind_some, reduceIte, and_self]
theorem lih (r : Dst) (i : BitVec 16) : Statement (.lih r i) := ofS rfl rfl rfl rfl rfl fun wf wd e => by
  have e : 0x20000000 + dstCode r + i.toNat = wd := Option.some.inj e
  unfold dstCode at e
  obtain ⟨z, f0, f1, f2, f3, f4⟩ := shape17 (op := 16) (w := wd) (by decide) (by decide) (bool_lt r.n) (r.l.isLt) (r.d.isLt) (i.isLt) (by omega)
  have d : dstOf wd = some r := dstOf_fields f1 f2 f3
  refine ⟨z, ?_⟩; simp [decodeS, f0, f1, f2, f3, f4, d, finOf_val, bitOf_toNat, boolOf_toNat, Option.bind_some, reduceIte, and_self]
theorem ld8 (r : Dst) (base : Fin 32) (off : BitVec 10) : Statement (.ld8 r base off) := ofS rfl rfl rfl rfl rfl fun wf wd e => by
  have e : 0x30000000 + dstCode r + base.val * 2 ^ 10 + off.toNat = wd := Option.some.inj e
  unfold dstCode at e
  obtain ⟨z, f0, f1, f2, f3, f4, f5, f6⟩ := shape19 (op := 24) (w := wd) (by decide) (by decide) (bool_lt r.n) (r.l.isLt) (r.d.isLt) (base.isLt) (off.isLt) (by omega)
  have d : dstOf wd = some r := dstOf_fields f1 f2 f3
  refine ⟨z, ?_⟩; simp [decodeS, f0, f1, f2, f3, f4, f5, f6, d, finOf_val, bitOf_toNat, boolOf_toNat, Option.bind_some, reduceIte, and_self]
theorem ld8Stream (r : Dst) (st : Fin 8) : Statement (.ld8Stream r st) := ofS rfl rfl rfl rfl rfl fun wf wd e => by
  have e : 0x30008000 + dstCode r + st.val * 2 ^ 12 = wd := Option.some.inj e
  unfold dstCode at e
  obtain ⟨z, f0, f1, f2, f3, f4, f5, f6, f7, f8⟩ := shape20 (op := 24) (w := wd) (by decide) (by decide) (bool_lt r.n) (r.l.isLt) (r.d.isLt) (st.isLt) (by omega)
  have d : dstOf wd = some r := dstOf_fields f1 f2 f3
  refine ⟨z, ?_⟩; simp [decodeS, f0, f1, f2, f3, f4, f5, f6, f7, f8, d, finOf_val, bitOf_toNat, boolOf_toNat, Option.bind_some, reduceIte, and_self]
theorem ld16 (r : Dst) (base : Fin 32) (off : BitVec 10) : Statement (.ld16 r base off) := ofS rfl rfl rfl rfl rfl fun wf wd e => by
  have e : 0x32000000 + dstCode r + base.val * 2 ^ 10 + off.toNat = wd := Option.some.inj e
  unfold dstCode at e
  obtain ⟨z, f0, f1, f2, f3, f4, f5, f6⟩ := shape19 (op := 25) (w := wd) (by decide) (by decide) (bool_lt r.n) (r.l.isLt) (r.d.isLt) (base.isLt) (off.isLt) (by omega)
  have d : dstOf wd = some r := dstOf_fields f1 f2 f3
  refine ⟨z, ?_⟩; simp [decodeS, f0, f1, f2, f3, f4, f5, f6, d, finOf_val, bitOf_toNat, boolOf_toNat, Option.bind_some, reduceIte, and_self]
theorem ld16Stream (r : Dst) (st : Fin 8) : Statement (.ld16Stream r st) := ofS rfl rfl rfl rfl rfl fun wf wd e => by
  have e : 0x32008000 + dstCode r + st.val * 2 ^ 12 = wd := Option.some.inj e
  unfold dstCode at e
  obtain ⟨z, f0, f1, f2, f3, f4, f5, f6, f7, f8⟩ := shape20 (op := 25) (w := wd) (by decide) (by decide) (bool_lt r.n) (r.l.isLt) (r.d.isLt) (st.isLt) (by omega)
  have d : dstOf wd = some r := dstOf_fields f1 f2 f3
  refine ⟨z, ?_⟩; simp [decodeS, f0, f1, f2, f3, f4, f5, f6, f7, f8, d, finOf_val, bitOf_toNat, boolOf_toNat, Option.bind_some, reduceIte, and_self]
theorem ld32 (r : Dst) (base : Fin 32) (off : BitVec 10) : Statement (.ld32 r base off) := ofS rfl rfl rfl rfl rfl fun wf wd e => by
  have e : 0x34000000 + dstCode r + base.val * 2 ^ 10 + off.toNat = wd := Option.some.inj e
  unfold dstCode at e
  obtain ⟨z, f0, f1, f2, f3, f4, f5, f6⟩ := shape19 (op := 26) (w := wd) (by decide) (by decide) (bool_lt r.n) (r.l.isLt) (r.d.isLt) (base.isLt) (off.isLt) (by omega)
  have d : dstOf wd = some r := dstOf_fields f1 f2 f3
  refine ⟨z, ?_⟩; simp [decodeS, f0, f1, f2, f3, f4, f5, f6, d, finOf_val, bitOf_toNat, boolOf_toNat, Option.bind_some, reduceIte, and_self]
theorem ld32Stream (r : Dst) (st : Fin 8) : Statement (.ld32Stream r st) := ofS rfl rfl rfl rfl rfl fun wf wd e => by
  have e : 0x34008000 + dstCode r + st.val * 2 ^ 12 = wd := Option.some.inj e
  unfold dstCode at e
  obtain ⟨z, f0, f1, f2, f3, f4, f5, f6, f7, f8⟩ := shape20 (op := 26) (w := wd) (by decide) (by decide) (bool_lt r.n) (r.l.isLt) (r.d.isLt) (st.isLt) (by omega)
  have d : dstOf wd = some r := dstOf_fields f1 f2 f3
  refine ⟨z, ?_⟩; simp [decodeS, f0, f1, f2, f3, f4, f5, f6, f7, f8, d, finOf_val, bitOf_toNat, boolOf_toNat, Option.bind_some, reduceIte, and_self]
theorem ld64 (r : Dst) (base : Fin 32) (off : BitVec 10) : Statement (.ld64 r base off) := ofS rfl rfl rfl rfl rfl fun wf wd e => by
  have e : 0x36000000 + dstCode r + base.val * 2 ^ 10 + off.toNat = wd := Option.some.inj e
  unfold dstCode at e
  obtain ⟨z, f0, f1, f2, f3, f4, f5, f6⟩ := shape19 (op := 27) (w := wd) (by decide) (by decide) (bool_lt r.n) (r.l.isLt) (r.d.isLt) (base.isLt) (off.isLt) (by omega)
  have d : dstOf wd = some r := dstOf_fields f1 f2 f3
  refine ⟨z, ?_⟩; simp [decodeS, f0, f1, f2, f3, f4, f5, f6, d, finOf_val, bitOf_toNat, boolOf_toNat, Option.bind_some, reduceIte, and_self]
theorem ld64Stream (r : Dst) (st : Fin 8) : Statement (.ld64Stream r st) := ofS rfl rfl rfl rfl rfl fun wf wd e => by
  have e : 0x36008000 + dstCode r + st.val * 2 ^ 12 = wd := Option.some.inj e
  unfold dstCode at e
  obtain ⟨z, f0, f1, f2, f3, f4, f5, f6, f7, f8⟩ := shape20 (op := 27) (w := wd) (by decide) (by decide) (bool_lt r.n) (r.l.isLt) (r.d.isLt) (st.isLt) (by omega)
  have d : dstOf wd = some r := dstOf_fields f1 f2 f3
  refine ⟨z, ?_⟩; simp [decodeS, f0, f1, f2, f3, f4, f5, f6, f7, f8, d, finOf_val, bitOf_toNat, boolOf_toNat, Option.bind_some, reduceIte, and_self]
theorem st8 (d : Sel) (base : Fin 32) (off : BitVec 10) : Statement (.st8 d base off) := ofS rfl rfl rfl rfl rfl fun wf wd e => by
  have e : 0x38000000 + selCode d * 2 ^ 16 + base.val * 2 ^ 10 + off.toNat = wd := Option.some.inj e
  obtain ⟨z, f0, f1, f2, f3, f4, f5⟩ := shape21 (op := 28) (w := wd) (by decide) (by decide) (selCode_lt64 d) (base.isLt) (off.isLt) (by omega)
  refine ⟨z, ?_⟩; simp [decodeS, f0, f1, f2, f3, f4, f5, selOf_selCode, finOf_val, bitOf_toNat, boolOf_toNat, Option.bind_some, reduceIte, and_self]
theorem st8Stream (d : Sel) (st : Fin 8) : Statement (.st8Stream d st) := ofS rfl rfl rfl rfl rfl fun wf wd e => by
  have e : 0x38008000 + selCode d * 2 ^ 16 + st.val * 2 ^ 12 = wd := Option.some.inj e
  obtain ⟨z, f0, f1, f2, f3, f4, f5, f6, f7⟩ := shape22 (op := 28) (w := wd) (by decide) (by decide) (selCode_lt64 d) (st.isLt) (by omega)
  refine ⟨z, ?_⟩; simp [decodeS, f0, f1, f2, f3, f4, f5, f6, f7, selOf_selCode, finOf_val, bitOf_toNat, boolOf_toNat, Option.bind_some, reduceIte, and_self]
theorem st16 (d : Sel) (base : Fin 32) (off : BitVec 10) : Statement (.st16 d base off) := ofS rfl rfl rfl rfl rfl fun wf wd e => by
  have e : 0x3a000000 + selCode d * 2 ^ 16 + base.val * 2 ^ 10 + off.toNat = wd := Option.some.inj e
  obtain ⟨z, f0, f1, f2, f3, f4, f5⟩ := shape21 (op := 29) (w := wd) (by decide) (by decide) (selCode_lt64 d) (base.isLt) (off.isLt) (by omega)
  refine ⟨z, ?_⟩; simp [decodeS, f0, f1, f2, f3, f4, f5, selOf_selCode, finOf_val, bitOf_toNat, boolOf_toNat, Option.bind_some, reduceIte, and_self]
theorem st16Stream (d : Sel) (st : Fin 8) : Statement (.st16Stream d st) := ofS rfl rfl rfl rfl rfl fun wf wd e => by
  have e : 0x3a008000 + selCode d * 2 ^ 16 + st.val * 2 ^ 12 = wd := Option.some.inj e
  obtain ⟨z, f0, f1, f2, f3, f4, f5, f6, f7⟩ := shape22 (op := 29) (w := wd) (by decide) (by decide) (selCode_lt64 d) (st.isLt) (by omega)
  refine ⟨z, ?_⟩; simp [decodeS, f0, f1, f2, f3, f4, f5, f6, f7, selOf_selCode, finOf_val, bitOf_toNat, boolOf_toNat, Option.bind_some, reduceIte, and_self]
theorem st32 (d : Sel) (base : Fin 32) (off : BitVec 10) : Statement (.st32 d base off) := ofS rfl rfl rfl rfl rfl fun wf wd e => by
  have e : 0x3c000000 + selCode d * 2 ^ 16 + base.val * 2 ^ 10 + off.toNat = wd := Option.some.inj e
  obtain ⟨z, f0, f1, f2, f3, f4, f5⟩ := shape21 (op := 30) (w := wd) (by decide) (by decide) (selCode_lt64 d) (base.isLt) (off.isLt) (by omega)
  refine ⟨z, ?_⟩; simp [decodeS, f0, f1, f2, f3, f4, f5, selOf_selCode, finOf_val, bitOf_toNat, boolOf_toNat, Option.bind_some, reduceIte, and_self]
theorem st32Stream (d : Sel) (st : Fin 8) : Statement (.st32Stream d st) := ofS rfl rfl rfl rfl rfl fun wf wd e => by
  have e : 0x3c008000 + selCode d * 2 ^ 16 + st.val * 2 ^ 12 = wd := Option.some.inj e
  obtain ⟨z, f0, f1, f2, f3, f4, f5, f6, f7⟩ := shape22 (op := 30) (w := wd) (by decide) (by decide) (selCode_lt64 d) (st.isLt) (by omega)
  refine ⟨z, ?_⟩; simp [decodeS, f0, f1, f2, f3, f4, f5, f6, f7, selOf_selCode, finOf_val, bitOf_toNat, boolOf_toNat, Option.bind_some, reduceIte, and_self]
theorem st64 (d : Sel) (base : Fin 32) (off : BitVec 10) : Statement (.st64 d base off) := ofS rfl rfl rfl rfl rfl fun wf wd e => by
  have e : 0x3e000000 + selCode d * 2 ^ 16 + base.val * 2 ^ 10 + off.toNat = wd := Option.some.inj e
  obtain ⟨z, f0, f1, f2, f3, f4, f5⟩ := shape21 (op := 31) (w := wd) (by decide) (by decide) (selCode_lt64 d) (base.isLt) (off.isLt) (by omega)
  refine ⟨z, ?_⟩; simp [decodeS, f0, f1, f2, f3, f4, f5, selOf_selCode, finOf_val, bitOf_toNat, boolOf_toNat, Option.bind_some, reduceIte, and_self]
theorem st64Stream (d : Sel) (st : Fin 8) : Statement (.st64Stream d st) := ofS rfl rfl rfl rfl rfl fun wf wd e => by
  have e : 0x3e008000 + selCode d * 2 ^ 16 + st.val * 2 ^ 12 = wd := Option.some.inj e
  obtain ⟨z, f0, f1, f2, f3, f4, f5, f6, f7⟩ := shape22 (op := 31) (w := wd) (by decide) (by decide) (selCode_lt64 d) (st.isLt) (by omega)
  refine ⟨z, ?_⟩; simp [decodeS, f0, f1, f2, f3, f4, f5, f6, f7, selOf_selCode, finOf_val, bitOf_toNat, boolOf_toNat, Option.bind_some, reduceIte, and_self]
theorem setk (k : Fin 32) (a : Sel) : Statement (.setk k a) := ofS rfl rfl rfl rfl rfl fun wf wd e => by
  have e : 0x40000000 + k.val * 2 ^ 16 + selCode a * 2 ^ 10 = wd := Option.some.inj e
  obtain ⟨z, f0, f1, f2, f3, f4, f5, f6⟩ := shape23 (op := 32) (s := 0) (w := wd) (by decide) (by decide) (by decide) (k.isLt) (selCode_lt64 a) (by omega)
  refine ⟨z, ?_⟩; simp [decodeS, f0, f1, f2, f3, f4, f5, f6, selOf_selCode, finOf_val, bitOf_toNat, boolOf_toNat, Option.bind_some, reduceIte, and_self]
theorem seta (st : Fin 8) (a : Sel) : Statement (.seta st a) := ofS rfl rfl rfl rfl rfl fun wf wd e => by
  have e : 0x42000000 + st.val * 2 ^ 16 + selCode a * 2 ^ 10 = wd := Option.some.inj e
  obtain ⟨z, f0, f1, f2, f3, f4⟩ := shape24 (op := 33) (s := 0) (w := wd) (by decide) (by decide) (by decide) (st.isLt) (selCode_lt64 a) (by omega)
  refine ⟨z, ?_⟩; simp [decodeS, f0, f1, f2, f3, f4, selOf_selCode, finOf_val, bitOf_toNat, boolOf_toNat, Option.bind_some, reduceIte, and_self]
theorem setd (st : Fin 8) (j : Fin 4) (a : Sel) : Statement (.setd st j a) := ofS rfl rfl rfl rfl rfl fun wf wd e => by
  have e : 0x44000000 + st.val * 2 ^ 18 + j.val * 2 ^ 16 + selCode a * 2 ^ 10 = wd := Option.some.inj e
  obtain ⟨z, f0, f1, f2, f3, f4, f5⟩ := shape25 (op := 34) (s := 0) (w := wd) (by decide) (by decide) (by decide) (st.isLt) (j.isLt) (selCode_lt64 a) (by omega)
  refine ⟨z, ?_⟩; simp [decodeS, f0, f1, f2, f3, f4, f5, selOf_selCode, finOf_val, bitOf_toNat, boolOf_toNat, Option.bind_some, reduceIte, and_self]
theorem setlc (j : Fin 4) (a : Sel) : Statement (.setlc j a) := ofS rfl rfl rfl rfl rfl fun wf wd e => by
  have e : 0x46000000 + j.val * 2 ^ 16 + selCode a * 2 ^ 10 = wd := Option.some.inj e
  obtain ⟨z, f0, f1, f2, f3, f4⟩ := shape26 (op := 35) (s := 0) (w := wd) (by decide) (by decide) (by decide) (j.isLt) (selCode_lt64 a) (by omega)
  refine ⟨z, ?_⟩; simp [decodeS, f0, f1, f2, f3, f4, selOf_selCode, finOf_val, bitOf_toNat, boolOf_toNat, Option.bind_some, reduceIte, and_self]
theorem setlb (j : Fin 4) (a : Sel) (b : Sel) : Statement (.setlb j a b) := ofS rfl rfl rfl rfl rfl fun wf wd e => by
  have e : 0x48000000 + j.val * 2 ^ 16 + selCode a * 2 ^ 10 + selCode b * 2 ^ 4 = wd := Option.some.inj e
  obtain ⟨z, f0, f1, f2, f3, f4, f5⟩ := shape27 (op := 36) (s := 0) (w := wd) (by decide) (by decide) (by decide) (j.isLt) (selCode_lt64 a) (selCode_lt64 b) (by omega)
  refine ⟨z, ?_⟩; simp [decodeS, f0, f1, f2, f3, f4, f5, selOf_selCode, finOf_val, bitOf_toNat, boolOf_toNat, Option.bind_some, reduceIte, and_self]
theorem rdid (r : Dst) (i : BitVec 16) : Statement (.rdid r i) := ofS rfl rfl rfl rfl rfl fun wf wd e => by
  have e : 0x50000000 + dstCode r + i.toNat = wd := Option.some.inj e
  unfold dstCode at e
  obtain ⟨z, f0, f1, f2, f3, f4⟩ := shape17 (op := 40) (w := wd) (by decide) (by decide) (bool_lt r.n) (r.l.isLt) (r.d.isLt) (i.isLt) (by omega)
  have d : dstOf wd = some r := dstOf_fields f1 f2 f3
  refine ⟨z, ?_⟩; simp [decodeS, f0, f1, f2, f3, f4, d, finOf_val, bitOf_toNat, boolOf_toNat, Option.bind_some, reduceIte, and_self]
theorem rdcfg (r : Dst) (i : BitVec 16) : Statement (.rdcfg r i) := ofS rfl rfl rfl rfl rfl fun wf wd e => by
  have e : 0x52000000 + dstCode r + i.toNat = wd := Option.some.inj e
  unfold dstCode at e
  obtain ⟨z, f0, f1, f2, f3, f4⟩ := shape17 (op := 41) (w := wd) (by decide) (by decide) (bool_lt r.n) (r.l.isLt) (r.d.isLt) (i.isLt) (by omega)
  have d : dstOf wd = some r := dstOf_fields f1 f2 f3
  refine ⟨z, ?_⟩; simp [decodeS, f0, f1, f2, f3, f4, d, finOf_val, bitOf_toNat, boolOf_toNat, Option.bind_some, reduceIte, and_self]
theorem rdcue (r : Dst) : Statement (.rdcue r) := ofS rfl rfl rfl rfl rfl fun wf wd e => by
  have e : 0x54000000 + dstCode r = wd := Option.some.inj e
  unfold dstCode at e
  obtain ⟨z, f0, f1, f2, f3, f4⟩ := shape28 (op := 42) (s := 0) (w := wd) (by decide) (by decide) (by decide) (bool_lt r.n) (r.l.isLt) (r.d.isLt) (by omega)
  have d : dstOf wd = some r := dstOf_fields f1 f2 f3
  refine ⟨z, ?_⟩; simp [decodeS, f0, f1, f2, f3, f4, d, finOf_val, bitOf_toNat, boolOf_toNat, Option.bind_some, reduceIte, and_self]
theorem rddeck (r : Dst) : Statement (.rddeck r) := ofS rfl rfl rfl rfl rfl fun wf wd e => by
  have e : 0x56000000 + dstCode r = wd := Option.some.inj e
  unfold dstCode at e
  obtain ⟨z, f0, f1, f2, f3, f4⟩ := shape28 (op := 43) (s := 0) (w := wd) (by decide) (by decide) (by decide) (bool_lt r.n) (r.l.isLt) (r.d.isLt) (by omega)
  have d : dstOf wd = some r := dstOf_fields f1 f2 f3
  refine ⟨z, ?_⟩; simp [decodeS, f0, f1, f2, f3, f4, d, finOf_val, bitOf_toNat, boolOf_toNat, Option.bind_some, reduceIte, and_self]
theorem vadd (r : Dst) (a : Sel) (b : Sel) : Statement (.vadd r a b) := ofV rfl rfl rfl rfl rfl fun wf wd e => by
  have e : 0x02000000 + dstCode r + selCode a * 2 ^ 10 + selCode b * 2 ^ 4 = wd := Option.some.inj e
  unfold dstCode at e
  obtain ⟨z, f0, f1, f2, f3, f4, f5, f6, f7⟩ := shape13 (op := 1) (s := 0) (w := wd) (by decide) (by decide) (by decide) (bool_lt r.n) (r.l.isLt) (r.d.isLt) (selCode_lt64 a) (selCode_lt64 b) (by omega)
  have d : dstOf wd = some r := dstOf_fields f1 f2 f3
  refine ⟨z, ?_⟩; simp [decodeV, f0, f1, f2, f3, f4, f5, f6, f7, d, selOf_selCode, finOf_val, bitOf_toNat, boolOf_toNat, Option.bind_some, reduceIte, and_self]
theorem vsub (r : Dst) (a : Sel) (b : Sel) : Statement (.vsub r a b) := ofV rfl rfl rfl rfl rfl fun wf wd e => by
  have e : 0x02000001 + dstCode r + selCode a * 2 ^ 10 + selCode b * 2 ^ 4 = wd := Option.some.inj e
  unfold dstCode at e
  obtain ⟨z, f0, f1, f2, f3, f4, f5, f6, f7⟩ := shape13 (op := 1) (s := 1) (w := wd) (by decide) (by decide) (by decide) (bool_lt r.n) (r.l.isLt) (r.d.isLt) (selCode_lt64 a) (selCode_lt64 b) (by omega)
  have d : dstOf wd = some r := dstOf_fields f1 f2 f3
  refine ⟨z, ?_⟩; simp [decodeV, f0, f1, f2, f3, f4, f5, f6, f7, d, selOf_selCode, finOf_val, bitOf_toNat, boolOf_toNat, Option.bind_some, reduceIte, and_self]
theorem vmul (r : Dst) (a : Sel) (b : Sel) : Statement (.vmul r a b) := ofV rfl rfl rfl rfl rfl fun wf wd e => by
  have e : 0x02000002 + dstCode r + selCode a * 2 ^ 10 + selCode b * 2 ^ 4 = wd := Option.some.inj e
  unfold dstCode at e
  obtain ⟨z, f0, f1, f2, f3, f4, f5, f6, f7⟩ := shape13 (op := 1) (s := 2) (w := wd) (by decide) (by decide) (by decide) (bool_lt r.n) (r.l.isLt) (r.d.isLt) (selCode_lt64 a) (selCode_lt64 b) (by omega)
  have d : dstOf wd = some r := dstOf_fields f1 f2 f3
  refine ⟨z, ?_⟩; simp [decodeV, f0, f1, f2, f3, f4, f5, f6, f7, d, selOf_selCode, finOf_val, bitOf_toNat, boolOf_toNat, Option.bind_some, reduceIte, and_self]
theorem vmulh (r : Dst) (a : Sel) (b : Sel) : Statement (.vmulh r a b) := ofV rfl rfl rfl rfl rfl fun wf wd e => by
  have e : 0x02000003 + dstCode r + selCode a * 2 ^ 10 + selCode b * 2 ^ 4 = wd := Option.some.inj e
  unfold dstCode at e
  obtain ⟨z, f0, f1, f2, f3, f4, f5, f6, f7⟩ := shape13 (op := 1) (s := 3) (w := wd) (by decide) (by decide) (by decide) (bool_lt r.n) (r.l.isLt) (r.d.isLt) (selCode_lt64 a) (selCode_lt64 b) (by omega)
  have d : dstOf wd = some r := dstOf_fields f1 f2 f3
  refine ⟨z, ?_⟩; simp [decodeV, f0, f1, f2, f3, f4, f5, f6, f7, d, selOf_selCode, finOf_val, bitOf_toNat, boolOf_toNat, Option.bind_some, reduceIte, and_self]
theorem vmin (r : Dst) (a : Sel) (b : Sel) : Statement (.vmin r a b) := ofV rfl rfl rfl rfl rfl fun wf wd e => by
  have e : 0x02000004 + dstCode r + selCode a * 2 ^ 10 + selCode b * 2 ^ 4 = wd := Option.some.inj e
  unfold dstCode at e
  obtain ⟨z, f0, f1, f2, f3, f4, f5, f6, f7⟩ := shape13 (op := 1) (s := 4) (w := wd) (by decide) (by decide) (by decide) (bool_lt r.n) (r.l.isLt) (r.d.isLt) (selCode_lt64 a) (selCode_lt64 b) (by omega)
  have d : dstOf wd = some r := dstOf_fields f1 f2 f3
  refine ⟨z, ?_⟩; simp [decodeV, f0, f1, f2, f3, f4, f5, f6, f7, d, selOf_selCode, finOf_val, bitOf_toNat, boolOf_toNat, Option.bind_some, reduceIte, and_self]
theorem vmax (r : Dst) (a : Sel) (b : Sel) : Statement (.vmax r a b) := ofV rfl rfl rfl rfl rfl fun wf wd e => by
  have e : 0x02000005 + dstCode r + selCode a * 2 ^ 10 + selCode b * 2 ^ 4 = wd := Option.some.inj e
  unfold dstCode at e
  obtain ⟨z, f0, f1, f2, f3, f4, f5, f6, f7⟩ := shape13 (op := 1) (s := 5) (w := wd) (by decide) (by decide) (by decide) (bool_lt r.n) (r.l.isLt) (r.d.isLt) (selCode_lt64 a) (selCode_lt64 b) (by omega)
  have d : dstOf wd = some r := dstOf_fields f1 f2 f3
  refine ⟨z, ?_⟩; simp [decodeV, f0, f1, f2, f3, f4, f5, f6, f7, d, selOf_selCode, finOf_val, bitOf_toNat, boolOf_toNat, Option.bind_some, reduceIte, and_self]
theorem vminn (r : Dst) (a : Sel) (b : Sel) : Statement (.vminn r a b) := ofV rfl rfl rfl rfl rfl fun wf wd e => by
  have e : 0x02000006 + dstCode r + selCode a * 2 ^ 10 + selCode b * 2 ^ 4 = wd := Option.some.inj e
  unfold dstCode at e
  obtain ⟨z, f0, f1, f2, f3, f4, f5, f6, f7⟩ := shape13 (op := 1) (s := 6) (w := wd) (by decide) (by decide) (by decide) (bool_lt r.n) (r.l.isLt) (r.d.isLt) (selCode_lt64 a) (selCode_lt64 b) (by omega)
  have d : dstOf wd = some r := dstOf_fields f1 f2 f3
  refine ⟨z, ?_⟩; simp [decodeV, f0, f1, f2, f3, f4, f5, f6, f7, d, selOf_selCode, finOf_val, bitOf_toNat, boolOf_toNat, Option.bind_some, reduceIte, and_self]
theorem vmaxn (r : Dst) (a : Sel) (b : Sel) : Statement (.vmaxn r a b) := ofV rfl rfl rfl rfl rfl fun wf wd e => by
  have e : 0x02000007 + dstCode r + selCode a * 2 ^ 10 + selCode b * 2 ^ 4 = wd := Option.some.inj e
  unfold dstCode at e
  obtain ⟨z, f0, f1, f2, f3, f4, f5, f6, f7⟩ := shape13 (op := 1) (s := 7) (w := wd) (by decide) (by decide) (by decide) (bool_lt r.n) (r.l.isLt) (r.d.isLt) (selCode_lt64 a) (selCode_lt64 b) (by omega)
  have d : dstOf wd = some r := dstOf_fields f1 f2 f3
  refine ⟨z, ?_⟩; simp [decodeV, f0, f1, f2, f3, f4, f5, f6, f7, d, selOf_selCode, finOf_val, bitOf_toNat, boolOf_toNat, Option.bind_some, reduceIte, and_self]
theorem vand (r : Dst) (a : Sel) (b : Sel) : Statement (.vand r a b) := ofV rfl rfl rfl rfl rfl fun wf wd e => by
  have e : 0x02000008 + dstCode r + selCode a * 2 ^ 10 + selCode b * 2 ^ 4 = wd := Option.some.inj e
  unfold dstCode at e
  obtain ⟨z, f0, f1, f2, f3, f4, f5, f6, f7⟩ := shape13 (op := 1) (s := 8) (w := wd) (by decide) (by decide) (by decide) (bool_lt r.n) (r.l.isLt) (r.d.isLt) (selCode_lt64 a) (selCode_lt64 b) (by omega)
  have d : dstOf wd = some r := dstOf_fields f1 f2 f3
  refine ⟨z, ?_⟩; simp [decodeV, f0, f1, f2, f3, f4, f5, f6, f7, d, selOf_selCode, finOf_val, bitOf_toNat, boolOf_toNat, Option.bind_some, reduceIte, and_self]
theorem vor (r : Dst) (a : Sel) (b : Sel) : Statement (.vor r a b) := ofV rfl rfl rfl rfl rfl fun wf wd e => by
  have e : 0x02000009 + dstCode r + selCode a * 2 ^ 10 + selCode b * 2 ^ 4 = wd := Option.some.inj e
  unfold dstCode at e
  obtain ⟨z, f0, f1, f2, f3, f4, f5, f6, f7⟩ := shape13 (op := 1) (s := 9) (w := wd) (by decide) (by decide) (by decide) (bool_lt r.n) (r.l.isLt) (r.d.isLt) (selCode_lt64 a) (selCode_lt64 b) (by omega)
  have d : dstOf wd = some r := dstOf_fields f1 f2 f3
  refine ⟨z, ?_⟩; simp [decodeV, f0, f1, f2, f3, f4, f5, f6, f7, d, selOf_selCode, finOf_val, bitOf_toNat, boolOf_toNat, Option.bind_some, reduceIte, and_self]
theorem vxor (r : Dst) (a : Sel) (b : Sel) : Statement (.vxor r a b) := ofV rfl rfl rfl rfl rfl fun wf wd e => by
  have e : 0x0200000a + dstCode r + selCode a * 2 ^ 10 + selCode b * 2 ^ 4 = wd := Option.some.inj e
  unfold dstCode at e
  obtain ⟨z, f0, f1, f2, f3, f4, f5, f6, f7⟩ := shape13 (op := 1) (s := 10) (w := wd) (by decide) (by decide) (by decide) (bool_lt r.n) (r.l.isLt) (r.d.isLt) (selCode_lt64 a) (selCode_lt64 b) (by omega)
  have d : dstOf wd = some r := dstOf_fields f1 f2 f3
  refine ⟨z, ?_⟩; simp [decodeV, f0, f1, f2, f3, f4, f5, f6, f7, d, selOf_selCode, finOf_val, bitOf_toNat, boolOf_toNat, Option.bind_some, reduceIte, and_self]
theorem vshl (r : Dst) (a : Sel) (b : Sel) : Statement (.vshl r a b) := ofV rfl rfl rfl rfl rfl fun wf wd e => by
  have e : 0x0200000b + dstCode r + selCode a * 2 ^ 10 + selCode b * 2 ^ 4 = wd := Option.some.inj e
  unfold dstCode at e
  obtain ⟨z, f0, f1, f2, f3, f4, f5, f6, f7⟩ := shape13 (op := 1) (s := 11) (w := wd) (by decide) (by decide) (by decide) (bool_lt r.n) (r.l.isLt) (r.d.isLt) (selCode_lt64 a) (selCode_lt64 b) (by omega)
  have d : dstOf wd = some r := dstOf_fields f1 f2 f3
  refine ⟨z, ?_⟩; simp [decodeV, f0, f1, f2, f3, f4, f5, f6, f7, d, selOf_selCode, finOf_val, bitOf_toNat, boolOf_toNat, Option.bind_some, reduceIte, and_self]
theorem vshr (r : Dst) (a : Sel) (b : Sel) : Statement (.vshr r a b) := ofV rfl rfl rfl rfl rfl fun wf wd e => by
  have e : 0x0200000c + dstCode r + selCode a * 2 ^ 10 + selCode b * 2 ^ 4 = wd := Option.some.inj e
  unfold dstCode at e
  obtain ⟨z, f0, f1, f2, f3, f4, f5, f6, f7⟩ := shape13 (op := 1) (s := 12) (w := wd) (by decide) (by decide) (by decide) (bool_lt r.n) (r.l.isLt) (r.d.isLt) (selCode_lt64 a) (selCode_lt64 b) (by omega)
  have d : dstOf wd = some r := dstOf_fields f1 f2 f3
  refine ⟨z, ?_⟩; simp [decodeV, f0, f1, f2, f3, f4, f5, f6, f7, d, selOf_selCode, finOf_val, bitOf_toNat, boolOf_toNat, Option.bind_some, reduceIte, and_self]
theorem vsha (r : Dst) (a : Sel) (b : Sel) : Statement (.vsha r a b) := ofV rfl rfl rfl rfl rfl fun wf wd e => by
  have e : 0x0200000d + dstCode r + selCode a * 2 ^ 10 + selCode b * 2 ^ 4 = wd := Option.some.inj e
  unfold dstCode at e
  obtain ⟨z, f0, f1, f2, f3, f4, f5, f6, f7⟩ := shape13 (op := 1) (s := 13) (w := wd) (by decide) (by decide) (by decide) (bool_lt r.n) (r.l.isLt) (r.d.isLt) (selCode_lt64 a) (selCode_lt64 b) (by omega)
  have d : dstOf wd = some r := dstOf_fields f1 f2 f3
  refine ⟨z, ?_⟩; simp [decodeV, f0, f1, f2, f3, f4, f5, f6, f7, d, selOf_selCode, finOf_val, bitOf_toNat, boolOf_toNat, Option.bind_some, reduceIte, and_self]
theorem vcmpEq (a : Sel) (b : Sel) : Statement (.vcmpEq a b) := ofV rfl rfl rfl rfl rfl fun wf wd e => by
  have e : 0x04000000 + selCode a * 2 ^ 10 + selCode b * 2 ^ 4 = wd := Option.some.inj e
  obtain ⟨z, f0, f1, f2, f3, f4⟩ := shape29 (op := 2) (s := 0) (w := wd) (by decide) (by decide) (by decide) (selCode_lt64 a) (selCode_lt64 b) (by omega)
  refine ⟨z, ?_⟩; simp [decodeV, f0, f1, f2, f3, f4, selOf_selCode, finOf_val, bitOf_toNat, boolOf_toNat, Option.bind_some, reduceIte, and_self]
theorem vcmpNe (a : Sel) (b : Sel) : Statement (.vcmpNe a b) := ofV rfl rfl rfl rfl rfl fun wf wd e => by
  have e : 0x04000001 + selCode a * 2 ^ 10 + selCode b * 2 ^ 4 = wd := Option.some.inj e
  obtain ⟨z, f0, f1, f2, f3, f4⟩ := shape29 (op := 2) (s := 1) (w := wd) (by decide) (by decide) (by decide) (selCode_lt64 a) (selCode_lt64 b) (by omega)
  refine ⟨z, ?_⟩; simp [decodeV, f0, f1, f2, f3, f4, selOf_selCode, finOf_val, bitOf_toNat, boolOf_toNat, Option.bind_some, reduceIte, and_self]
theorem vcmpLt (a : Sel) (b : Sel) : Statement (.vcmpLt a b) := ofV rfl rfl rfl rfl rfl fun wf wd e => by
  have e : 0x04000002 + selCode a * 2 ^ 10 + selCode b * 2 ^ 4 = wd := Option.some.inj e
  obtain ⟨z, f0, f1, f2, f3, f4⟩ := shape29 (op := 2) (s := 2) (w := wd) (by decide) (by decide) (by decide) (selCode_lt64 a) (selCode_lt64 b) (by omega)
  refine ⟨z, ?_⟩; simp [decodeV, f0, f1, f2, f3, f4, selOf_selCode, finOf_val, bitOf_toNat, boolOf_toNat, Option.bind_some, reduceIte, and_self]
theorem vcmpLtn (a : Sel) (b : Sel) : Statement (.vcmpLtn a b) := ofV rfl rfl rfl rfl rfl fun wf wd e => by
  have e : 0x04000003 + selCode a * 2 ^ 10 + selCode b * 2 ^ 4 = wd := Option.some.inj e
  obtain ⟨z, f0, f1, f2, f3, f4⟩ := shape29 (op := 2) (s := 3) (w := wd) (by decide) (by decide) (by decide) (selCode_lt64 a) (selCode_lt64 b) (by omega)
  refine ⟨z, ?_⟩; simp [decodeV, f0, f1, f2, f3, f4, selOf_selCode, finOf_val, bitOf_toNat, boolOf_toNat, Option.bind_some, reduceIte, and_self]
theorem vcmpGe (a : Sel) (b : Sel) : Statement (.vcmpGe a b) := ofV rfl rfl rfl rfl rfl fun wf wd e => by
  have e : 0x04000004 + selCode a * 2 ^ 10 + selCode b * 2 ^ 4 = wd := Option.some.inj e
  obtain ⟨z, f0, f1, f2, f3, f4⟩ := shape29 (op := 2) (s := 4) (w := wd) (by decide) (by decide) (by decide) (selCode_lt64 a) (selCode_lt64 b) (by omega)
  refine ⟨z, ?_⟩; simp [decodeV, f0, f1, f2, f3, f4, selOf_selCode, finOf_val, bitOf_toNat, boolOf_toNat, Option.bind_some, reduceIte, and_self]
theorem vcmpGen (a : Sel) (b : Sel) : Statement (.vcmpGen a b) := ofV rfl rfl rfl rfl rfl fun wf wd e => by
  have e : 0x04000005 + selCode a * 2 ^ 10 + selCode b * 2 ^ 4 = wd := Option.some.inj e
  obtain ⟨z, f0, f1, f2, f3, f4⟩ := shape29 (op := 2) (s := 5) (w := wd) (by decide) (by decide) (by decide) (selCode_lt64 a) (selCode_lt64 b) (by omega)
  refine ⟨z, ?_⟩; simp [decodeV, f0, f1, f2, f3, f4, selOf_selCode, finOf_val, bitOf_toNat, boolOf_toNat, Option.bind_some, reduceIte, and_self]
theorem vcmpFeq (a : Sel) (b : Sel) : Statement (.vcmpFeq a b) := ofV rfl rfl rfl rfl rfl fun wf wd e => by
  have e : 0x04000008 + selCode a * 2 ^ 10 + selCode b * 2 ^ 4 = wd := Option.some.inj e
  obtain ⟨z, f0, f1, f2, f3, f4⟩ := shape29 (op := 2) (s := 8) (w := wd) (by decide) (by decide) (by decide) (selCode_lt64 a) (selCode_lt64 b) (by omega)
  refine ⟨z, ?_⟩; simp [decodeV, f0, f1, f2, f3, f4, selOf_selCode, finOf_val, bitOf_toNat, boolOf_toNat, Option.bind_some, reduceIte, and_self]
theorem vcmpFne (a : Sel) (b : Sel) : Statement (.vcmpFne a b) := ofV rfl rfl rfl rfl rfl fun wf wd e => by
  have e : 0x04000009 + selCode a * 2 ^ 10 + selCode b * 2 ^ 4 = wd := Option.some.inj e
  obtain ⟨z, f0, f1, f2, f3, f4⟩ := shape29 (op := 2) (s := 9) (w := wd) (by decide) (by decide) (by decide) (selCode_lt64 a) (selCode_lt64 b) (by omega)
  refine ⟨z, ?_⟩; simp [decodeV, f0, f1, f2, f3, f4, selOf_selCode, finOf_val, bitOf_toNat, boolOf_toNat, Option.bind_some, reduceIte, and_self]
theorem vcmpFlt (a : Sel) (b : Sel) : Statement (.vcmpFlt a b) := ofV rfl rfl rfl rfl rfl fun wf wd e => by
  have e : 0x0400000a + selCode a * 2 ^ 10 + selCode b * 2 ^ 4 = wd := Option.some.inj e
  obtain ⟨z, f0, f1, f2, f3, f4⟩ := shape29 (op := 2) (s := 10) (w := wd) (by decide) (by decide) (by decide) (selCode_lt64 a) (selCode_lt64 b) (by omega)
  refine ⟨z, ?_⟩; simp [decodeV, f0, f1, f2, f3, f4, selOf_selCode, finOf_val, bitOf_toNat, boolOf_toNat, Option.bind_some, reduceIte, and_self]
theorem vcmpFge (a : Sel) (b : Sel) : Statement (.vcmpFge a b) := ofV rfl rfl rfl rfl rfl fun wf wd e => by
  have e : 0x0400000b + selCode a * 2 ^ 10 + selCode b * 2 ^ 4 = wd := Option.some.inj e
  obtain ⟨z, f0, f1, f2, f3, f4⟩ := shape29 (op := 2) (s := 11) (w := wd) (by decide) (by decide) (by decide) (selCode_lt64 a) (selCode_lt64 b) (by omega)
  refine ⟨z, ?_⟩; simp [decodeV, f0, f1, f2, f3, f4, selOf_selCode, finOf_val, bitOf_toNat, boolOf_toNat, Option.bind_some, reduceIte, and_self]
theorem vpushm (a : Sel) : Statement (.vpushm a) := ofV rfl rfl rfl rfl rfl fun wf wd e => by
  have e : 0x06000000 + selCode a * 2 ^ 10 = wd := Option.some.inj e
  obtain ⟨z, f0, f1, f2, f3, f4⟩ := shape30 (op := 3) (s := 0) (w := wd) (by decide) (by decide) (by decide) (selCode_lt64 a) (by omega)
  refine ⟨z, ?_⟩; simp [decodeV, f0, f1, f2, f3, f4, selOf_selCode, finOf_val, bitOf_toNat, boolOf_toNat, Option.bind_some, reduceIte, and_self]
theorem vinvm : Statement .vinvm := ofV rfl rfl rfl rfl rfl fun wf wd e => by
  have e : 0x06000001 = wd := Option.some.inj e
  obtain ⟨z, f0, f1, f2, f3, f4⟩ := shape0 (op := 3) (s := 1) (w := wd) (by decide) (by decide) (by decide)  (by omega)
  refine ⟨z, ?_⟩; simp [decodeV, f0, f1, f2, f3, f4, finOf_val, bitOf_toNat, boolOf_toNat, Option.bind_some, reduceIte, and_self]
theorem vpopm : Statement .vpopm := ofV rfl rfl rfl rfl rfl fun wf wd e => by
  have e : 0x06000002 = wd := Option.some.inj e
  obtain ⟨z, f0, f1, f2, f3, f4⟩ := shape0 (op := 3) (s := 2) (w := wd) (by decide) (by decide) (by decide)  (by omega)
  refine ⟨z, ?_⟩; simp [decodeV, f0, f1, f2, f3, f4, finOf_val, bitOf_toNat, boolOf_toNat, Option.bind_some, reduceIte, and_self]
theorem vsel (r : Dst) (a : Sel) (b : Sel) : Statement (.vsel r a b) := ofV rfl rfl rfl rfl rfl fun wf wd e => by
  have e : 0x08000000 + dstCode r + selCode a * 2 ^ 10 + selCode b * 2 ^ 4 = wd := Option.some.inj e
  unfold dstCode at e
  obtain ⟨z, f0, f1, f2, f3, f4, f5, f6, f7⟩ := shape13 (op := 4) (s := 0) (w := wd) (by decide) (by decide) (by decide) (bool_lt r.n) (r.l.isLt) (r.d.isLt) (selCode_lt64 a) (selCode_lt64 b) (by omega)
  have d : dstOf wd = some r := dstOf_fields f1 f2 f3
  refine ⟨z, ?_⟩; simp [decodeV, f0, f1, f2, f3, f4, f5, f6, f7, d, selOf_selCode, finOf_val, bitOf_toNat, boolOf_toNat, Option.bind_some, reduceIte, and_self]
theorem vfadd (r : Dst) (a : Sel) (b : Sel) (rm : Rnd) : Statement (.vfadd r a b rm) := ofV rfl rfl rfl rfl rfl fun wf wd e => by
  have e : 0x0a000000 + dstCode r + selCode a * 2 ^ 10 + selCode b * 2 ^ 4 + rndCode rm = wd := Option.some.inj e
  unfold dstCode at e
  obtain ⟨z, f0, f1, f2, f3, f4, f5, f6, f7⟩ := shape31 (op := 5) (w := wd) (by decide) (by decide) (bool_lt r.n) (r.l.isLt) (r.d.isLt) (selCode_lt64 a) (selCode_lt64 b) (rndCode_lt rm) (by omega)
  have d : dstOf wd = some r := dstOf_fields f1 f2 f3
  refine ⟨z, ?_⟩; simp [decodeV, f0, f1, f2, f3, f4, f5, f6, f7, d, selOf_selCode, rndOf_rndCode, finOf_val, bitOf_toNat, boolOf_toNat, Option.bind_some, reduceIte, and_self]
theorem vfsub (r : Dst) (a : Sel) (b : Sel) (rm : Rnd) : Statement (.vfsub r a b rm) := ofV rfl rfl rfl rfl rfl fun wf wd e => by
  have e : 0x0c000000 + dstCode r + selCode a * 2 ^ 10 + selCode b * 2 ^ 4 + rndCode rm = wd := Option.some.inj e
  unfold dstCode at e
  obtain ⟨z, f0, f1, f2, f3, f4, f5, f6, f7⟩ := shape31 (op := 6) (w := wd) (by decide) (by decide) (bool_lt r.n) (r.l.isLt) (r.d.isLt) (selCode_lt64 a) (selCode_lt64 b) (rndCode_lt rm) (by omega)
  have d : dstOf wd = some r := dstOf_fields f1 f2 f3
  refine ⟨z, ?_⟩; simp [decodeV, f0, f1, f2, f3, f4, f5, f6, f7, d, selOf_selCode, rndOf_rndCode, finOf_val, bitOf_toNat, boolOf_toNat, Option.bind_some, reduceIte, and_self]
theorem vfmul (r : Dst) (a : Sel) (b : Sel) (rm : Rnd) : Statement (.vfmul r a b rm) := ofV rfl rfl rfl rfl rfl fun wf wd e => by
  have e : 0x0e000000 + dstCode r + selCode a * 2 ^ 10 + selCode b * 2 ^ 4 + rndCode rm = wd := Option.some.inj e
  unfold dstCode at e
  obtain ⟨z, f0, f1, f2, f3, f4, f5, f6, f7⟩ := shape31 (op := 7) (w := wd) (by decide) (by decide) (bool_lt r.n) (r.l.isLt) (r.d.isLt) (selCode_lt64 a) (selCode_lt64 b) (rndCode_lt rm) (by omega)
  have d : dstOf wd = some r := dstOf_fields f1 f2 f3
  refine ⟨z, ?_⟩; simp [decodeV, f0, f1, f2, f3, f4, f5, f6, f7, d, selOf_selCode, rndOf_rndCode, finOf_val, bitOf_toNat, boolOf_toNat, Option.bind_some, reduceIte, and_self]
theorem vfma (r : Dst) (a : Sel) (b : Sel) (rm : Rnd) : Statement (.vfma r a b rm) := ofV rfl rfl rfl rfl rfl fun wf wd e => by
  have e : 0x10000000 + dstCode r + selCode a * 2 ^ 10 + selCode b * 2 ^ 4 + rndCode rm = wd := Option.some.inj e
  unfold dstCode at e
  obtain ⟨z, f0, f1, f2, f3, f4, f5, f6, f7⟩ := shape31 (op := 8) (w := wd) (by decide) (by decide) (bool_lt r.n) (r.l.isLt) (r.d.isLt) (selCode_lt64 a) (selCode_lt64 b) (rndCode_lt rm) (by omega)
  have d : dstOf wd = some r := dstOf_fields f1 f2 f3
  refine ⟨z, ?_⟩; simp [decodeV, f0, f1, f2, f3, f4, f5, f6, f7, d, selOf_selCode, rndOf_rndCode, finOf_val, bitOf_toNat, boolOf_toNat, Option.bind_some, reduceIte, and_self]
theorem vfmin (r : Dst) (a : Sel) (b : Sel) : Statement (.vfmin r a b) := ofV rfl rfl rfl rfl rfl fun wf wd e => by
  have e : 0x12000000 + dstCode r + selCode a * 2 ^ 10 + selCode b * 2 ^ 4 = wd := Option.some.inj e
  unfold dstCode at e
  obtain ⟨z, f0, f1, f2, f3, f4, f5, f6, f7⟩ := shape13 (op := 9) (s := 0) (w := wd) (by decide) (by decide) (by decide) (bool_lt r.n) (r.l.isLt) (r.d.isLt) (selCode_lt64 a) (selCode_lt64 b) (by omega)
  have d : dstOf wd = some r := dstOf_fields f1 f2 f3
  refine ⟨z, ?_⟩; simp [decodeV, f0, f1, f2, f3, f4, f5, f6, f7, d, selOf_selCode, finOf_val, bitOf_toNat, boolOf_toNat, Option.bind_some, reduceIte, and_self]
theorem vfmax (r : Dst) (a : Sel) (b : Sel) : Statement (.vfmax r a b) := ofV rfl rfl rfl rfl rfl fun wf wd e => by
  have e : 0x12000001 + dstCode r + selCode a * 2 ^ 10 + selCode b * 2 ^ 4 = wd := Option.some.inj e
  unfold dstCode at e
  obtain ⟨z, f0, f1, f2, f3, f4, f5, f6, f7⟩ := shape13 (op := 9) (s := 1) (w := wd) (by decide) (by decide) (by decide) (bool_lt r.n) (r.l.isLt) (r.d.isLt) (selCode_lt64 a) (selCode_lt64 b) (by omega)
  have d : dstOf wd = some r := dstOf_fields f1 f2 f3
  refine ⟨z, ?_⟩; simp [decodeV, f0, f1, f2, f3, f4, f5, f6, f7, d, selOf_selCode, finOf_val, bitOf_toNat, boolOf_toNat, Option.bind_some, reduceIte, and_self]
theorem vfabs (r : Dst) (a : Sel) : Statement (.vfabs r a) := ofV rfl rfl rfl rfl rfl fun wf wd e => by
  have e : 0x12000002 + dstCode r + selCode a * 2 ^ 10 = wd := Option.some.inj e
  unfold dstCode at e
  obtain ⟨z, f0, f1, f2, f3, f4, f5, f6, f7⟩ := shape14 (op := 9) (s := 2) (w := wd) (by decide) (by decide) (by decide) (bool_lt r.n) (r.l.isLt) (r.d.isLt) (selCode_lt64 a) (by omega)
  have d : dstOf wd = some r := dstOf_fields f1 f2 f3
  refine ⟨z, ?_⟩; simp [decodeV, f0, f1, f2, f3, f4, f5, f6, f7, d, selOf_selCode, finOf_val, bitOf_toNat, boolOf_toNat, Option.bind_some, reduceIte, and_self]
theorem vfneg (r : Dst) (a : Sel) : Statement (.vfneg r a) := ofV rfl rfl rfl rfl rfl fun wf wd e => by
  have e : 0x12000003 + dstCode r + selCode a * 2 ^ 10 = wd := Option.some.inj e
  unfold dstCode at e
  obtain ⟨z, f0, f1, f2, f3, f4, f5, f6, f7⟩ := shape14 (op := 9) (s := 3) (w := wd) (by decide) (by decide) (by decide) (bool_lt r.n) (r.l.isLt) (r.d.isLt) (selCode_lt64 a) (by omega)
  have d : dstOf wd = some r := dstOf_fields f1 f2 f3
  refine ⟨z, ?_⟩; simp [decodeV, f0, f1, f2, f3, f4, f5, f6, f7, d, selOf_selCode, finOf_val, bitOf_toNat, boolOf_toNat, Option.bind_some, reduceIte, and_self]
theorem vcvt (r : Dst) (a : Sel) (fr : CvtFmt) (tf : CvtFmt) (rm : Rnd) : Statement (.vcvt r a fr tf rm) := ofV rfl rfl rfl rfl rfl fun wf wd e => by
  have e : 0x14000000 + dstCode r + selCode a * 2 ^ 10 + cvtFmtCode fr * 2 ^ 7 + cvtFmtCode tf * 2 ^ 4 + rndCode rm = wd := Option.some.inj e
  unfold dstCode at e
  obtain ⟨z, f0, f1, f2, f3, f4, f5, f6, f7, f8⟩ := shape32 (op := 10) (w := wd) (by decide) (by decide) (bool_lt r.n) (r.l.isLt) (r.d.isLt) (selCode_lt64 a) (cvtFmtCode_lt fr) (cvtFmtCode_lt tf) (rndCode_lt rm) (by omega)
  have d : dstOf wd = some r := dstOf_fields f1 f2 f3
  refine ⟨z, ?_⟩; simp [decodeV, f0, f1, f2, f3, f4, f5, f6, f7, f8, d, selOf_selCode, cvtFmtOf_cvtFmtCode, rndOf_rndCode, finOf_val, bitOf_toNat, boolOf_toNat, Option.bind_some, reduceIte, and_self]
theorem vqblk (r : Dst) (a : Sel) (w : Width) (rm : Rnd) : Statement (.vqblk r a w rm) := ofV rfl rfl rfl rfl rfl fun wf wd e => by
  have e : 0x16000000 + dstCode r + selCode a * 2 ^ 10 + widthCode w * 2 ^ 8 + rndCode rm = wd := Option.some.inj e
  unfold dstCode at e
  obtain ⟨z, f0, f1, f2, f3, f4, f5, f6, f7⟩ := shape33 (op := 11) (w := wd) (by decide) (by decide) (bool_lt r.n) (r.l.isLt) (r.d.isLt) (selCode_lt64 a) (widthCode_lt w) (rndCode_lt rm) (by omega)
  have d : dstOf wd = some r := dstOf_fields f1 f2 f3
  refine ⟨z, ?_⟩; simp [decodeV, f0, f1, f2, f3, f4, f5, f6, f7, d, selOf_selCode, widthOf_widthCode, rndOf_rndCode, finOf_val, bitOf_toNat, boolOf_toNat, Option.bind_some, reduceIte, and_self]
theorem vdqblk (r : Dst) (a : Sel) (w : Width) (rm : Rnd) : Statement (.vdqblk r a w rm) := ofV rfl rfl rfl rfl rfl fun wf wd e => by
  have e : 0x18000000 + dstCode r + selCode a * 2 ^ 10 + widthCode w * 2 ^ 8 + rndCode rm = wd := Option.some.inj e
  unfold dstCode at e
  obtain ⟨z, f0, f1, f2, f3, f4, f5, f6, f7⟩ := shape33 (op := 12) (w := wd) (by decide) (by decide) (bool_lt r.n) (r.l.isLt) (r.d.isLt) (selCode_lt64 a) (widthCode_lt w) (rndCode_lt rm) (by omega)
  have d : dstOf wd = some r := dstOf_fields f1 f2 f3
  refine ⟨z, ?_⟩; simp [decodeV, f0, f1, f2, f3, f4, f5, f6, f7, d, selOf_selCode, widthOf_widthCode, rndOf_rndCode, finOf_val, bitOf_toNat, boolOf_toNat, Option.bind_some, reduceIte, and_self]
theorem vmxq (r : Dst) (a : Sel) (f : MxFmt) (rm : Rnd) : Statement (.vmxq r a f rm) := ofV rfl rfl rfl rfl rfl fun wf wd e => by
  have e : 0x1a000000 + dstCode r + selCode a * 2 ^ 10 + mxFmtCode f * 2 ^ 7 + rndCode rm = wd := Option.some.inj e
  unfold dstCode at e
  obtain ⟨z, f0, f1, f2, f3, f4, f5, f6, f7⟩ := shape34 (op := 13) (w := wd) (by decide) (by decide) (bool_lt r.n) (r.l.isLt) (r.d.isLt) (selCode_lt64 a) (mxFmtCode_lt f) (rndCode_lt rm) (by omega)
  have d : dstOf wd = some r := dstOf_fields f1 f2 f3
  refine ⟨z, ?_⟩; simp [decodeV, f0, f1, f2, f3, f4, f5, f6, f7, d, selOf_selCode, mxFmtOf_mxFmtCode, rndOf_rndCode, finOf_val, bitOf_toNat, boolOf_toNat, Option.bind_some, reduceIte, and_self]
theorem vmxdq (r : Dst) (a : Sel) (f : MxFmt) (rm : Rnd) : Statement (.vmxdq r a f rm) := ofV rfl rfl rfl rfl rfl fun wf wd e => by
  have e : 0x1c000000 + dstCode r + selCode a * 2 ^ 10 + mxFmtCode f * 2 ^ 7 + rndCode rm = wd := Option.some.inj e
  unfold dstCode at e
  obtain ⟨z, f0, f1, f2, f3, f4, f5, f6, f7⟩ := shape34 (op := 14) (w := wd) (by decide) (by decide) (bool_lt r.n) (r.l.isLt) (r.d.isLt) (selCode_lt64 a) (mxFmtCode_lt f) (rndCode_lt rm) (by omega)
  have d : dstOf wd = some r := dstOf_fields f1 f2 f3
  refine ⟨z, ?_⟩; simp [decodeV, f0, f1, f2, f3, f4, f5, f6, f7, d, selOf_selCode, mxFmtOf_mxFmtCode, rndOf_rndCode, finOf_val, bitOf_toNat, boolOf_toNat, Option.bind_some, reduceIte, and_self]
theorem vexp2 (r : Dst) (a : Sel) : Statement (.vexp2 r a) := ofV rfl rfl rfl rfl rfl fun wf wd e => by
  have e : 0x20000000 + dstCode r + selCode a * 2 ^ 10 = wd := Option.some.inj e
  unfold dstCode at e
  obtain ⟨z, f0, f1, f2, f3, f4, f5, f6, f7⟩ := shape14 (op := 16) (s := 0) (w := wd) (by decide) (by decide) (by decide) (bool_lt r.n) (r.l.isLt) (r.d.isLt) (selCode_lt64 a) (by omega)
  have d : dstOf wd = some r := dstOf_fields f1 f2 f3
  refine ⟨z, ?_⟩; simp [decodeV, f0, f1, f2, f3, f4, f5, f6, f7, d, selOf_selCode, finOf_val, bitOf_toNat, boolOf_toNat, Option.bind_some, reduceIte, and_self]
theorem vlog2 (r : Dst) (a : Sel) : Statement (.vlog2 r a) := ofV rfl rfl rfl rfl rfl fun wf wd e => by
  have e : 0x20000001 + dstCode r + selCode a * 2 ^ 10 = wd := Option.some.inj e
  unfold dstCode at e
  obtain ⟨z, f0, f1, f2, f3, f4, f5, f6, f7⟩ := shape14 (op := 16) (s := 1) (w := wd) (by decide) (by decide) (by decide) (bool_lt r.n) (r.l.isLt) (r.d.isLt) (selCode_lt64 a) (by omega)
  have d : dstOf wd = some r := dstOf_fields f1 f2 f3
  refine ⟨z, ?_⟩; simp [decodeV, f0, f1, f2, f3, f4, f5, f6, f7, d, selOf_selCode, finOf_val, bitOf_toNat, boolOf_toNat, Option.bind_some, reduceIte, and_self]
theorem vrcp (r : Dst) (a : Sel) : Statement (.vrcp r a) := ofV rfl rfl rfl rfl rfl fun wf wd e => by
  have e : 0x20000002 + dstCode r + selCode a * 2 ^ 10 = wd := Option.some.inj e
  unfold dstCode at e
  obtain ⟨z, f0, f1, f2, f3, f4, f5, f6, f7⟩ := shape14 (op := 16) (s := 2) (w := wd) (by decide) (by decide) (by decide) (bool_lt r.n) (r.l.isLt) (r.d.isLt) (selCode_lt64 a) (by omega)
  have d : dstOf wd = some r := dstOf_fields f1 f2 f3
  refine ⟨z, ?_⟩; simp [decodeV, f0, f1, f2, f3, f4, f5, f6, f7, d, selOf_selCode, finOf_val, bitOf_toNat, boolOf_toNat, Option.bind_some, reduceIte, and_self]
theorem vrsq (r : Dst) (a : Sel) : Statement (.vrsq r a) := ofV rfl rfl rfl rfl rfl fun wf wd e => by
  have e : 0x20000003 + dstCode r + selCode a * 2 ^ 10 = wd := Option.some.inj e
  unfold dstCode at e
  obtain ⟨z, f0, f1, f2, f3, f4, f5, f6, f7⟩ := shape14 (op := 16) (s := 3) (w := wd) (by decide) (by decide) (by decide) (bool_lt r.n) (r.l.isLt) (r.d.isLt) (selCode_lt64 a) (by omega)
  have d : dstOf wd = some r := dstOf_fields f1 f2 f3
  refine ⟨z, ?_⟩; simp [decodeV, f0, f1, f2, f3, f4, f5, f6, f7, d, selOf_selCode, finOf_val, bitOf_toNat, boolOf_toNat, Option.bind_some, reduceIte, and_self]
theorem vtanh (r : Dst) (a : Sel) : Statement (.vtanh r a) := ofV rfl rfl rfl rfl rfl fun wf wd e => by
  have e : 0x20000004 + dstCode r + selCode a * 2 ^ 10 = wd := Option.some.inj e
  unfold dstCode at e
  obtain ⟨z, f0, f1, f2, f3, f4, f5, f6, f7⟩ := shape14 (op := 16) (s := 4) (w := wd) (by decide) (by decide) (by decide) (bool_lt r.n) (r.l.isLt) (r.d.isLt) (selCode_lt64 a) (by omega)
  have d : dstOf wd = some r := dstOf_fields f1 f2 f3
  refine ⟨z, ?_⟩; simp [decodeV, f0, f1, f2, f3, f4, f5, f6, f7, d, selOf_selCode, finOf_val, bitOf_toNat, boolOf_toNat, Option.bind_some, reduceIte, and_self]
theorem vredadd (r : Dst) (a : Sel) (ty : RedTy) : Statement (.vredadd r a ty) := ofV rfl rfl rfl rfl rfl fun wf wd e => by
  have e : 0x22000000 + dstCode r + selCode a * 2 ^ 10 + redTyCode ty * 2 ^ 2 = wd := Option.some.inj e
  unfold dstCode at e
  obtain ⟨z, f0, f1, f2, f3, f4, f5, f6, f7⟩ := shape35 (op := 17) (w := wd) (by decide) (by decide) (bool_lt r.n) (r.l.isLt) (r.d.isLt) (selCode_lt64 a) (redTyCode_lt ty) (by omega)
  have d : dstOf wd = some r := dstOf_fields f1 f2 f3
  refine ⟨z, ?_⟩; simp [decodeV, f0, f1, f2, f3, f4, f5, f6, f7, d, selOf_selCode, redTyOf_redTyCode, finOf_val, bitOf_toNat, boolOf_toNat, Option.bind_some, reduceIte, and_self]
theorem vredmax (r : Dst) (a : Sel) (ty : RedTy) : Statement (.vredmax r a ty) := ofV rfl rfl rfl rfl rfl fun wf wd e => by
  have e : 0x22000001 + dstCode r + selCode a * 2 ^ 10 + redTyCode ty * 2 ^ 2 = wd := Option.some.inj e
  unfold dstCode at e
  obtain ⟨z, f0, f1, f2, f3, f4, f5, f6, f7⟩ := shape36 (op := 17) (w := wd) (by decide) (by decide) (bool_lt r.n) (r.l.isLt) (r.d.isLt) (selCode_lt64 a) (redTyCode_lt ty) (by omega)
  have d : dstOf wd = some r := dstOf_fields f1 f2 f3
  refine ⟨z, ?_⟩; simp [decodeV, f0, f1, f2, f3, f4, f5, f6, f7, d, selOf_selCode, redTyOf_redTyCode, finOf_val, bitOf_toNat, boolOf_toNat, Option.bind_some, reduceIte, and_self]
theorem vredmin (r : Dst) (a : Sel) (ty : RedTy) : Statement (.vredmin r a ty) := ofV rfl rfl rfl rfl rfl fun wf wd e => by
  have e : 0x22000002 + dstCode r + selCode a * 2 ^ 10 + redTyCode ty * 2 ^ 2 = wd := Option.some.inj e
  unfold dstCode at e
  obtain ⟨z, f0, f1, f2, f3, f4, f5, f6, f7⟩ := shape37 (op := 17) (w := wd) (by decide) (by decide) (bool_lt r.n) (r.l.isLt) (r.d.isLt) (selCode_lt64 a) (redTyCode_lt ty) (by omega)
  have d : dstOf wd = some r := dstOf_fields f1 f2 f3
  refine ⟨z, ?_⟩; simp [decodeV, f0, f1, f2, f3, f4, f5, f6, f7, d, selOf_selCode, redTyOf_redTyCode, finOf_val, bitOf_toNat, boolOf_toNat, Option.bind_some, reduceIte, and_self]
theorem vscan (r : Dst) (a : Sel) (ty : RedTy) : Statement (.vscan r a ty) := ofV rfl rfl rfl rfl rfl fun wf wd e => by
  have e : 0x22000003 + dstCode r + selCode a * 2 ^ 10 + redTyCode ty * 2 ^ 2 = wd := Option.some.inj e
  unfold dstCode at e
  obtain ⟨z, f0, f1, f2, f3, f4, f5, f6, f7⟩ := shape38 (op := 17) (w := wd) (by decide) (by decide) (bool_lt r.n) (r.l.isLt) (r.d.isLt) (selCode_lt64 a) (redTyCode_lt ty) (by omega)
  have d : dstOf wd = some r := dstOf_fields f1 f2 f3
  refine ⟨z, ?_⟩; simp [decodeV, f0, f1, f2, f3, f4, f5, f6, f7, d, selOf_selCode, redTyOf_redTyCode, finOf_val, bitOf_toNat, boolOf_toNat, Option.bind_some, reduceIte, and_self]
theorem vperm (r : Dst) (a : Sel) (b : Sel) : Statement (.vperm r a b) := ofV rfl rfl rfl rfl rfl fun wf wd e => by
  have e : 0x24000000 + dstCode r + selCode a * 2 ^ 10 + selCode b * 2 ^ 4 = wd := Option.some.inj e
  unfold dstCode at e
  obtain ⟨z, f0, f1, f2, f3, f4, f5, f6, f7⟩ := shape13 (op := 18) (s := 0) (w := wd) (by decide) (by decide) (by decide) (bool_lt r.n) (r.l.isLt) (r.d.isLt) (selCode_lt64 a) (selCode_lt64 b) (by omega)
  have d : dstOf wd = some r := dstOf_fields f1 f2 f3
  refine ⟨z, ?_⟩; simp [decodeV, f0, f1, f2, f3, f4, f5, f6, f7, d, selOf_selCode, finOf_val, bitOf_toNat, boolOf_toNat, Option.bind_some, reduceIte, and_self]
theorem vshuf (r : Dst) (a : Sel) (b : Sel) : Statement (.vshuf r a b) := ofV rfl rfl rfl rfl rfl fun wf wd e => by
  have e : 0x24000001 + dstCode r + selCode a * 2 ^ 10 + selCode b * 2 ^ 4 = wd := Option.some.inj e
  unfold dstCode at e
  obtain ⟨z, f0, f1, f2, f3, f4, f5, f6, f7⟩ := shape13 (op := 18) (s := 1) (w := wd) (by decide) (by decide) (by decide) (bool_lt r.n) (r.l.isLt) (r.d.isLt) (selCode_lt64 a) (selCode_lt64 b) (by omega)
  have d : dstOf wd = some r := dstOf_fields f1 f2 f3
  refine ⟨z, ?_⟩; simp [decodeV, f0, f1, f2, f3, f4, f5, f6, f7, d, selOf_selCode, finOf_val, bitOf_toNat, boolOf_toNat, Option.bind_some, reduceIte, and_self]
theorem vbcast (r : Dst) (a : Sel) (b : Sel) : Statement (.vbcast r a b) := ofV rfl rfl rfl rfl rfl fun wf wd e => by
  have e : 0x24000002 + dstCode r + selCode a * 2 ^ 10 + selCode b * 2 ^ 4 = wd := Option.some.inj e
  unfold dstCode at e
  obtain ⟨z, f0, f1, f2, f3, f4, f5, f6, f7⟩ := shape13 (op := 18) (s := 2) (w := wd) (by decide) (by decide) (by decide) (bool_lt r.n) (r.l.isLt) (r.d.isLt) (selCode_lt64 a) (selCode_lt64 b) (by omega)
  have d : dstOf wd = some r := dstOf_fields f1 f2 f3
  refine ⟨z, ?_⟩; simp [decodeV, f0, f1, f2, f3, f4, f5, f6, f7, d, selOf_selCode, finOf_val, bitOf_toNat, boolOf_toNat, Option.bind_some, reduceIte, and_self]
theorem vins (r : Dst) (a : Sel) (b : Sel) : Statement (.vins r a b) := ofV rfl rfl rfl rfl rfl fun wf wd e => by
  have e : 0x24000003 + dstCode r + selCode a * 2 ^ 10 + selCode b * 2 ^ 4 = wd := Option.some.inj e
  unfold dstCode at e
  obtain ⟨z, f0, f1, f2, f3, f4, f5, f6, f7⟩ := shape13 (op := 18) (s := 3) (w := wd) (by decide) (by decide) (by decide) (bool_lt r.n) (r.l.isLt) (r.d.isLt) (selCode_lt64 a) (selCode_lt64 b) (by omega)
  have d : dstOf wd = some r := dstOf_fields f1 f2 f3
  refine ⟨z, ?_⟩; simp [decodeV, f0, f1, f2, f3, f4, f5, f6, f7, d, selOf_selCode, finOf_val, bitOf_toNat, boolOf_toNat, Option.bind_some, reduceIte, and_self]
theorem vext (r : Dst) (a : Sel) (b : Sel) : Statement (.vext r a b) := ofV rfl rfl rfl rfl rfl fun wf wd e => by
  have e : 0x24000004 + dstCode r + selCode a * 2 ^ 10 + selCode b * 2 ^ 4 = wd := Option.some.inj e
  unfold dstCode at e
  obtain ⟨z, f0, f1, f2, f3, f4, f5, f6, f7⟩ := shape13 (op := 18) (s := 4) (w := wd) (by decide) (by decide) (by decide) (bool_lt r.n) (r.l.isLt) (r.d.isLt) (selCode_lt64 a) (selCode_lt64 b) (by omega)
  have d : dstOf wd = some r := dstOf_fields f1 f2 f3
  refine ⟨z, ?_⟩; simp [decodeV, f0, f1, f2, f3, f4, f5, f6, f7, d, selOf_selCode, finOf_val, bitOf_toNat, boolOf_toNat, Option.bind_some, reduceIte, and_self]
theorem vlidx (r : Dst) (a : Sel) (b : Sel) : Statement (.vlidx r a b) := ofV rfl rfl rfl rfl rfl fun wf wd e => by
  have e : 0x24000005 + dstCode r + selCode a * 2 ^ 10 + selCode b * 2 ^ 4 = wd := Option.some.inj e
  unfold dstCode at e
  obtain ⟨z, f0, f1, f2, f3, f4, f5, f6, f7⟩ := shape13 (op := 18) (s := 5) (w := wd) (by decide) (by decide) (by decide) (bool_lt r.n) (r.l.isLt) (r.d.isLt) (selCode_lt64 a) (selCode_lt64 b) (by omega)
  have d : dstOf wd = some r := dstOf_fields f1 f2 f3
  refine ⟨z, ?_⟩; simp [decodeV, f0, f1, f2, f3, f4, f5, f6, f7, d, selOf_selCode, finOf_val, bitOf_toNat, boolOf_toNat, Option.bind_some, reduceIte, and_self]
theorem vld (r : Dst) (base : Fin 32) (off : BitVec 10) : Statement (.vld r base off) := ofV rfl rfl rfl rfl rfl fun wf wd e => by
  have e : 0x30000000 + dstCode r + base.val * 2 ^ 10 + off.toNat = wd := Option.some.inj e
  unfold dstCode at e
  obtain ⟨z, f0, f1, f2, f3, f4, f5, f6⟩ := shape19 (op := 24) (w := wd) (by decide) (by decide) (bool_lt r.n) (r.l.isLt) (r.d.isLt) (base.isLt) (off.isLt) (by omega)
  have d : dstOf wd = some r := dstOf_fields f1 f2 f3
  refine ⟨z, ?_⟩; simp [decodeV, f0, f1, f2, f3, f4, f5, f6, d, finOf_val, bitOf_toNat, boolOf_toNat, Option.bind_some, reduceIte, and_self]
theorem vldStream (r : Dst) (st : Fin 8) : Statement (.vldStream r st) := ofV rfl rfl rfl rfl rfl fun wf wd e => by
  have e : 0x30008000 + dstCode r + st.val * 2 ^ 12 = wd := Option.some.inj e
  unfold dstCode at e
  obtain ⟨z, f0, f1, f2, f3, f4, f5, f6, f7, f8⟩ := shape20 (op := 24) (w := wd) (by decide) (by decide) (bool_lt r.n) (r.l.isLt) (r.d.isLt) (st.isLt) (by omega)
  have d : dstOf wd = some r := dstOf_fields f1 f2 f3
  refine ⟨z, ?_⟩; simp [decodeV, f0, f1, f2, f3, f4, f5, f6, f7, f8, d, finOf_val, bitOf_toNat, boolOf_toNat, Option.bind_some, reduceIte, and_self]
theorem vst (d : Sel) (base : Fin 32) (off : BitVec 10) : Statement (.vst d base off) := ofV rfl rfl rfl rfl rfl fun wf wd e => by
  have e : 0x32000000 + selCode d * 2 ^ 16 + base.val * 2 ^ 10 + off.toNat = wd := Option.some.inj e
  obtain ⟨z, f0, f1, f2, f3, f4, f5⟩ := shape21 (op := 25) (w := wd) (by decide) (by decide) (selCode_lt64 d) (base.isLt) (off.isLt) (by omega)
  refine ⟨z, ?_⟩; simp [decodeV, f0, f1, f2, f3, f4, f5, selOf_selCode, finOf_val, bitOf_toNat, boolOf_toNat, Option.bind_some, reduceIte, and_self]
theorem vstStream (d : Sel) (st : Fin 8) : Statement (.vstStream d st) := ofV rfl rfl rfl rfl rfl fun wf wd e => by
  have e : 0x32008000 + selCode d * 2 ^ 16 + st.val * 2 ^ 12 = wd := Option.some.inj e
  obtain ⟨z, f0, f1, f2, f3, f4, f5, f6, f7⟩ := shape22 (op := 25) (w := wd) (by decide) (by decide) (selCode_lt64 d) (st.isLt) (by omega)
  refine ⟨z, ?_⟩; simp [decodeV, f0, f1, f2, f3, f4, f5, f6, f7, selOf_selCode, finOf_val, bitOf_toNat, boolOf_toNat, Option.bind_some, reduceIte, and_self]
theorem vldx (r : Dst) (a : Sel) (b : Sel) : Statement (.vldx r a b) := ofV rfl rfl rfl rfl rfl fun wf wd e => by
  have e : 0x34000000 + dstCode r + selCode a * 2 ^ 10 + selCode b * 2 ^ 4 = wd := Option.some.inj e
  unfold dstCode at e
  obtain ⟨z, f0, f1, f2, f3, f4, f5, f6, f7⟩ := shape13 (op := 26) (s := 0) (w := wd) (by decide) (by decide) (by decide) (bool_lt r.n) (r.l.isLt) (r.d.isLt) (selCode_lt64 a) (selCode_lt64 b) (by omega)
  have d : dstOf wd = some r := dstOf_fields f1 f2 f3
  refine ⟨z, ?_⟩; simp [decodeV, f0, f1, f2, f3, f4, f5, f6, f7, d, selOf_selCode, finOf_val, bitOf_toNat, boolOf_toNat, Option.bind_some, reduceIte, and_self]
theorem vstx (d : Sel) (a : Sel) (b : Sel) : Statement (.vstx d a b) := ofV rfl rfl rfl rfl rfl fun wf wd e => by
  have e : 0x36000000 + selCode d * 2 ^ 16 + selCode a * 2 ^ 10 + selCode b * 2 ^ 4 = wd := Option.some.inj e
  obtain ⟨z, f0, f1, f2, f3, f4, f5⟩ := shape39 (op := 27) (s := 0) (w := wd) (by decide) (by decide) (by decide) (selCode_lt64 d) (selCode_lt64 a) (selCode_lt64 b) (by omega)
  refine ⟨z, ?_⟩; simp [decodeV, f0, f1, f2, f3, f4, f5, selOf_selCode, finOf_val, bitOf_toNat, boolOf_toNat, Option.bind_some, reduceIte, and_self]
theorem mloadbW (a : Sel) : Statement (.mloadbW a) := ofM rfl rfl rfl rfl rfl fun wf wd e => by
  have e : 0x02000000 + selCode a * 2 ^ 10 = wd := Option.some.inj e
  obtain ⟨z, f0, f1, f2, f3, f4⟩ := shape30 (op := 1) (s := 0) (w := wd) (by decide) (by decide) (by decide) (selCode_lt64 a) (by omega)
  refine ⟨z, ?_⟩; simp [decodeM, f0, f1, f2, f3, f4, selOf_selCode, finOf_val, bitOf_toNat, boolOf_toNat, Option.bind_some, reduceIte, and_self]
theorem mloadbS (row : Fin 32) (a : Sel) : Statement (.mloadbS row a) := ofM rfl rfl rfl rfl rfl fun wf wd e => by
  have e : 0x04000000 + row.val * 2 ^ 16 + selCode a * 2 ^ 10 = wd := Option.some.inj e
  obtain ⟨z, f0, f1, f2, f3, f4, f5, f6⟩ := shape23 (op := 2) (s := 0) (w := wd) (by decide) (by decide) (by decide) (row.isLt) (selCode_lt64 a) (by omega)
  refine ⟨z, ?_⟩; simp [decodeM, f0, f1, f2, f3, f4, f5, f6, selOf_selCode, finOf_val, bitOf_toNat, boolOf_toNat, Option.bind_some, reduceIte, and_self]
theorem mpush (set : Fin 2) (row : Fin 32) (a : Sel) (wa : Width) (wb : Width) (sp : Bool) (step : Fin 8) : Statement (.mpush set row a wa wb sp step) := ofM rfl rfl rfl rfl rfl fun wf wd e => by
  have e : 0x06000000 + set.val * 2 ^ 21 + row.val * 2 ^ 16 + selCode a * 2 ^ 10 + widthCode wa * 2 ^ 8 + widthCode wb * 2 ^ 6 + sp.toNat * 2 ^ 3 + step.val = wd := Option.some.inj e
  obtain ⟨z, f0, f1, f2, f3, f4, f5, f6, f7, f8, f9⟩ := shape40 (op := 3) (w := wd) (by decide) (by decide) (set.isLt) (row.isLt) (selCode_lt64 a) (widthCode_lt wa) (widthCode_lt wb) (bool_lt sp) (step.isLt) (by omega)
  refine ⟨z, ?_⟩; simp [decodeM, f0, f1, f2, f3, f4, f5, f6, f7, f8, f9, selOf_selCode, widthOf_widthCode, finOf_val, bitOf_toNat, boolOf_toNat, Option.bind_some, reduceIte, and_self]
theorem mshift (b : BitVec 6) : Statement (.mshift b) := ofM rfl rfl rfl rfl rfl fun wf wd e => by
  have e : 0x08000000 + b.toNat * 2 ^ 4 = wd := Option.some.inj e
  obtain ⟨z, f0, f1, f2, f3⟩ := shape41 (op := 4) (s := 0) (w := wd) (by decide) (by decide) (by decide) (b.isLt) (by omega)
  refine ⟨z, ?_⟩; simp [decodeM, f0, f1, f2, f3, finOf_val, bitOf_toNat, boolOf_toNat, Option.bind_some, reduceIte, and_self]
theorem macc (set : Fin 2) (row : Fin 32) : Statement (.macc set row) := ofM rfl rfl rfl rfl rfl fun wf wd e => by
  have e : 0x0a000001 + set.val * 2 ^ 21 + row.val * 2 ^ 16 = wd := Option.some.inj e
  obtain ⟨z, f0, f1, f2, f3, f4⟩ := shape42 (op := 5) (s := 1) (w := wd) (by decide) (by decide) (by decide) (set.isLt) (row.isLt) (by omega)
  refine ⟨z, ?_⟩; simp [decodeM, f0, f1, f2, f3, f4, finOf_val, bitOf_toNat, boolOf_toNat, Option.bind_some, reduceIte, and_self]
theorem maccDrop (set : Fin 2) (row : Fin 32) : Statement (.maccDrop set row) := ofM rfl rfl rfl rfl rfl fun wf wd e => by
  have e : 0x0a000000 + set.val * 2 ^ 21 + row.val * 2 ^ 16 = wd := Option.some.inj e
  obtain ⟨z, f0, f1, f2, f3, f4⟩ := shape42 (op := 5) (s := 0) (w := wd) (by decide) (by decide) (by decide) (set.isLt) (row.isLt) (by omega)
  refine ⟨z, ?_⟩; simp [decodeM, f0, f1, f2, f3, f4, finOf_val, bitOf_toNat, boolOf_toNat, Option.bind_some, reduceIte, and_self]
theorem mscale (a : Sel) : Statement (.mscale a) := ofM rfl rfl rfl rfl rfl fun wf wd e => by
  have e : 0x0c000000 + selCode a * 2 ^ 10 = wd := Option.some.inj e
  obtain ⟨z, f0, f1, f2, f3, f4⟩ := shape30 (op := 6) (s := 0) (w := wd) (by decide) (by decide) (by decide) (selCode_lt64 a) (by omega)
  refine ⟨z, ?_⟩; simp [decodeM, f0, f1, f2, f3, f4, selOf_selCode, finOf_val, bitOf_toNat, boolOf_toNat, Option.bind_some, reduceIte, and_self]
theorem mzero (set : Fin 2) : Statement (.mzero set) := ofM rfl rfl rfl rfl rfl fun wf wd e => by
  have e : 0x0e000000 + set.val * 2 ^ 21 = wd := Option.some.inj e
  obtain ⟨z, f0, f1, f2, f3⟩ := shape43 (op := 7) (s := 0) (w := wd) (by decide) (by decide) (by decide) (set.isLt) (by omega)
  refine ⟨z, ?_⟩; simp [decodeM, f0, f1, f2, f3, finOf_val, bitOf_toNat, boolOf_toNat, Option.bind_some, reduceIte, and_self]
theorem mdrain (r : Dst) (set : Fin 2) (row : Fin 32) (f : DrainFmt) : Statement (.mdrain r set row f) := ofM rfl rfl rfl rfl rfl fun wf wd e => by
  have e : 0x10000000 + dstCode r + set.val * 2 ^ 15 + row.val * 2 ^ 10 + drainFmtCode f = wd := Option.some.inj e
  unfold dstCode at e
  obtain ⟨z, f0, f1, f2, f3, f4, f5, f6, f7⟩ := shape44 (op := 8) (w := wd) (by decide) (by decide) (bool_lt r.n) (r.l.isLt) (r.d.isLt) (set.isLt) (row.isLt) (drainFmtCode_lt f) (by omega)
  have d : dstOf wd = some r := dstOf_fields f1 f2 f3
  refine ⟨z, ?_⟩; simp [decodeM, f0, f1, f2, f3, f4, f5, f6, f7, d, drainFmtOf_drainFmtCode, finOf_val, bitOf_toNat, boolOf_toNat, Option.bind_some, reduceIte, and_self]
theorem mmode (syn : Bool) (sp : Bool) (pw : Width) : Statement (.mmode syn sp pw) := ofM rfl rfl rfl rfl rfl fun wf wd e => by
  have e : 0x12000000 + syn.toNat * 2 ^ 3 + sp.toNat * 2 ^ 2 + widthCode pw = wd := Option.some.inj e
  obtain ⟨z, f0, f1, f2, f3, f4⟩ := shape45 (op := 9) (w := wd) (by decide) (by decide) (bool_lt syn) (bool_lt sp) (widthCode_lt pw) (by omega)
  refine ⟨z, ?_⟩; simp [decodeM, f0, f1, f2, f3, f4, widthOf_widthCode, finOf_val, bitOf_toNat, boolOf_toNat, Option.bind_some, reduceIte, and_self]
theorem msparse (a : Sel) : Statement (.msparse a) := ofM rfl rfl rfl rfl rfl fun wf wd e => by
  have e : 0x14000000 + selCode a * 2 ^ 10 = wd := Option.some.inj e
  obtain ⟨z, f0, f1, f2, f3, f4⟩ := shape30 (op := 10) (s := 0) (w := wd) (by decide) (by decide) (by decide) (selCode_lt64 a) (by omega)
  refine ⟨z, ?_⟩; simp [decodeM, f0, f1, f2, f3, f4, selOf_selCode, finOf_val, bitOf_toNat, boolOf_toNat, Option.bind_some, reduceIte, and_self]
theorem mflags (r : Dst) (set : Fin 2) : Statement (.mflags r set) := ofM rfl rfl rfl rfl rfl fun wf wd e => by
  have e : 0x16000000 + dstCode r + set.val * 2 ^ 15 = wd := Option.some.inj e
  unfold dstCode at e
  obtain ⟨z, f0, f1, f2, f3, f4, f5⟩ := shape46 (op := 11) (s := 0) (w := wd) (by decide) (by decide) (by decide) (bool_lt r.n) (r.l.isLt) (r.d.isLt) (set.isLt) (by omega)
  have d : dstOf wd = some r := dstOf_fields f1 f2 f3
  refine ⟨z, ?_⟩; simp [decodeM, f0, f1, f2, f3, f4, f5, d, finOf_val, bitOf_toNat, boolOf_toNat, Option.bind_some, reduceIte, and_self]
theorem flyRd (g : Guard) (kg : Fin 8) : Statement (.flyRd g kg) := ofX rfl rfl rfl rfl rfl fun wf wd e => by
  have e : 0x02000000 + g.p.val * 2 ^ 19 + g.inv.toNat * 2 ^ 18 + kg.val * 2 ^ 15 = wd := Option.some.inj e
  obtain ⟨z, f0, f1, f2, f3, f4, f5⟩ := shape47 (op := 1) (s := 0) (w := wd) (by decide) (by decide) (by decide) (g.p.isLt) (bool_lt g.inv) (kg.isLt) (by omega)
  refine ⟨z, ?_⟩; simp [decodeX, f0, f1, f2, f3, f4, f5, finOf_val, bitOf_toNat, boolOf_toNat, Option.bind_some, reduceIte, and_self]
theorem flyWr (g : Guard) (kg : Fin 8) : Statement (.flyWr g kg) := ofX rfl rfl rfl rfl rfl fun wf wd e => by
  have e : 0x04000000 + g.p.val * 2 ^ 19 + g.inv.toNat * 2 ^ 18 + kg.val * 2 ^ 15 = wd := Option.some.inj e
  obtain ⟨z, f0, f1, f2, f3, f4, f5⟩ := shape47 (op := 2) (s := 0) (w := wd) (by decide) (by decide) (by decide) (g.p.isLt) (bool_lt g.inv) (kg.isLt) (by omega)
  refine ⟨z, ?_⟩; simp [decodeX, f0, f1, f2, f3, f4, f5, finOf_val, bitOf_toNat, boolOf_toNat, Option.bind_some, reduceIte, and_self]
theorem flyRd2 (g : Guard) (kg : Fin 8) : Statement (.flyRd2 g kg) := ofX rfl rfl rfl rfl rfl fun wf wd e => by
  have e : 0x06000000 + g.p.val * 2 ^ 19 + g.inv.toNat * 2 ^ 18 + kg.val * 2 ^ 15 = wd := Option.some.inj e
  obtain ⟨z, f0, f1, f2, f3, f4, f5⟩ := shape47 (op := 3) (s := 0) (w := wd) (by decide) (by decide) (by decide) (g.p.isLt) (bool_lt g.inv) (kg.isLt) (by omega)
  refine ⟨z, ?_⟩; simp [decodeX, f0, f1, f2, f3, f4, f5, finOf_val, bitOf_toNat, boolOf_toNat, Option.bind_some, reduceIte, and_self]
theorem flyWr2 (g : Guard) (kg : Fin 8) : Statement (.flyWr2 g kg) := ofX rfl rfl rfl rfl rfl fun wf wd e => by
  have e : 0x08000000 + g.p.val * 2 ^ 19 + g.inv.toNat * 2 ^ 18 + kg.val * 2 ^ 15 = wd := Option.some.inj e
  obtain ⟨z, f0, f1, f2, f3, f4, f5⟩ := shape47 (op := 4) (s := 0) (w := wd) (by decide) (by decide) (by decide) (g.p.isLt) (bool_lt g.inv) (kg.isLt) (by omega)
  refine ⟨z, ?_⟩; simp [decodeX, f0, f1, f2, f3, f4, f5, finOf_val, bitOf_toNat, boolOf_toNat, Option.bind_some, reduceIte, and_self]
theorem acopyRd (g : Guard) (kg : Fin 8) (sc : Scope) : Statement (.acopyRd g kg sc) := ofX rfl rfl rfl rfl rfl fun wf wd e => by
  have e : 0x10000000 + g.p.val * 2 ^ 19 + g.inv.toNat * 2 ^ 18 + kg.val * 2 ^ 15 + scopeCode sc * 2 ^ 12 = wd := Option.some.inj e
  obtain ⟨z, f0, f1, f2, f3, f4, f5, f6⟩ := shape48 (op := 8) (s := 0) (w := wd) (by decide) (by decide) (by decide) (g.p.isLt) (bool_lt g.inv) (kg.isLt) (scopeCode_lt sc) (by omega)
  refine ⟨z, ?_⟩; simp [decodeX, f0, f1, f2, f3, f4, f5, f6, scopeOf_scopeCode, finOf_val, bitOf_toNat, boolOf_toNat, Option.bind_some, reduceIte, and_self]
theorem acopyWr (g : Guard) (kg : Fin 8) (sc : Scope) : Statement (.acopyWr g kg sc) := ofX rfl rfl rfl rfl rfl fun wf wd e => by
  have e : 0x12000000 + g.p.val * 2 ^ 19 + g.inv.toNat * 2 ^ 18 + kg.val * 2 ^ 15 + scopeCode sc * 2 ^ 12 = wd := Option.some.inj e
  obtain ⟨z, f0, f1, f2, f3, f4, f5, f6⟩ := shape48 (op := 9) (s := 0) (w := wd) (by decide) (by decide) (by decide) (g.p.isLt) (bool_lt g.inv) (kg.isLt) (scopeCode_lt sc) (by omega)
  refine ⟨z, ?_⟩; simp [decodeX, f0, f1, f2, f3, f4, f5, f6, scopeOf_scopeCode, finOf_val, bitOf_toNat, boolOf_toNat, Option.bind_some, reduceIte, and_self]
theorem acopy2d (g : Guard) (kg : Fin 8) (sc : Scope) : Statement (.acopy2d g kg sc) := ofX rfl rfl rfl rfl rfl fun wf wd e => by
  have e : 0x14000000 + g.p.val * 2 ^ 19 + g.inv.toNat * 2 ^ 18 + kg.val * 2 ^ 15 + scopeCode sc * 2 ^ 12 = wd := Option.some.inj e
  obtain ⟨z, f0, f1, f2, f3, f4, f5, f6⟩ := shape48 (op := 10) (s := 0) (w := wd) (by decide) (by decide) (by decide) (g.p.isLt) (bool_lt g.inv) (kg.isLt) (scopeCode_lt sc) (by omega)
  refine ⟨z, ?_⟩; simp [decodeX, f0, f1, f2, f3, f4, f5, f6, scopeOf_scopeCode, finOf_val, bitOf_toNat, boolOf_toNat, Option.bind_some, reduceIte, and_self]
theorem qmark (g : Guard) (sc : Scope) : Statement (.qmark g sc) := ofX rfl rfl rfl rfl rfl fun wf wd e => by
  have e : 0x16000000 + g.p.val * 2 ^ 19 + g.inv.toNat * 2 ^ 18 + scopeCode sc * 2 ^ 12 = wd := Option.some.inj e
  obtain ⟨z, f0, f1, f2, f3, f4, f5, f6⟩ := shape49 (op := 11) (s := 0) (w := wd) (by decide) (by decide) (by decide) (g.p.isLt) (bool_lt g.inv) (scopeCode_lt sc) (by omega)
  refine ⟨z, ?_⟩; simp [decodeX, f0, f1, f2, f3, f4, f5, f6, scopeOf_scopeCode, finOf_val, bitOf_toNat, boolOf_toNat, Option.bind_some, reduceIte, and_self]
theorem xcopy (g : Guard) (kg : Fin 8) (rm : Rnd) : Statement (.xcopy g kg rm) := ofX rfl rfl rfl rfl rfl fun wf wd e => by
  have e : 0x18000000 + g.p.val * 2 ^ 19 + g.inv.toNat * 2 ^ 18 + kg.val * 2 ^ 15 + rndCode rm = wd := Option.some.inj e
  obtain ⟨z, f0, f1, f2, f3, f4, f5, f6⟩ := shape50 (op := 12) (w := wd) (by decide) (by decide) (g.p.isLt) (bool_lt g.inv) (kg.isLt) (rndCode_lt rm) (by omega)
  refine ⟨z, ?_⟩; simp [decodeX, f0, f1, f2, f3, f4, f5, f6, rndOf_rndCode, finOf_val, bitOf_toNat, boolOf_toNat, Option.bind_some, reduceIte, and_self]
theorem xfill (g : Guard) (kg : Fin 8) : Statement (.xfill g kg) := ofX rfl rfl rfl rfl rfl fun wf wd e => by
  have e : 0x1a000000 + g.p.val * 2 ^ 19 + g.inv.toNat * 2 ^ 18 + kg.val * 2 ^ 15 = wd := Option.some.inj e
  obtain ⟨z, f0, f1, f2, f3, f4, f5⟩ := shape47 (op := 13) (s := 0) (w := wd) (by decide) (by decide) (by decide) (g.p.isLt) (bool_lt g.inv) (kg.isLt) (by omega)
  refine ⟨z, ?_⟩; simp [decodeX, f0, f1, f2, f3, f4, f5, finOf_val, bitOf_toNat, boolOf_toNat, Option.bind_some, reduceIte, and_self]
theorem give (g : Guard) (kg : Fin 8) (o : Fin 16) : Statement (.give g kg o) := ofX rfl rfl rfl rfl rfl fun wf wd e => by
  have e : 0x20000000 + g.p.val * 2 ^ 19 + g.inv.toNat * 2 ^ 18 + kg.val * 2 ^ 15 + o.val * 2 ^ 4 = wd := Option.some.inj e
  obtain ⟨z, f0, f1, f2, f3, f4, f5, f6, f7⟩ := shape51 (op := 16) (s := 0) (w := wd) (by decide) (by decide) (by decide) (g.p.isLt) (bool_lt g.inv) (kg.isLt) (o.isLt) (by omega)
  refine ⟨z, ?_⟩; simp [decodeX, f0, f1, f2, f3, f4, f5, f6, f7, finOf_val, bitOf_toNat, boolOf_toNat, Option.bind_some, reduceIte, and_self]
theorem ownq (l : Fin 4) (g : Guard) (kg : Fin 8) : Statement (.ownq l g kg) := ofX rfl rfl rfl rfl rfl fun wf wd e => by
  have e : 0x22000000 + l.val * 2 ^ 22 + g.p.val * 2 ^ 19 + g.inv.toNat * 2 ^ 18 + kg.val * 2 ^ 15 = wd := Option.some.inj e
  obtain ⟨z, f0, f1, f2, f3, f4, f5, f6⟩ := shape52 (op := 17) (s := 0) (w := wd) (by decide) (by decide) (by decide) (l.isLt) (g.p.isLt) (bool_lt g.inv) (kg.isLt) (by omega)
  refine ⟨z, ?_⟩; simp [decodeX, f0, f1, f2, f3, f4, f5, f6, finOf_val, bitOf_toNat, boolOf_toNat, Option.bind_some, reduceIte, and_self]
theorem wheelLd (l : Fin 4) (g : Guard) (kg : Fin 8) : Statement (.wheelLd l g kg) := ofX rfl rfl rfl rfl rfl fun wf wd e => by
  have e : 0x28000000 + l.val * 2 ^ 22 + g.p.val * 2 ^ 19 + g.inv.toNat * 2 ^ 18 + kg.val * 2 ^ 15 = wd := Option.some.inj e
  obtain ⟨z, f0, f1, f2, f3, f4, f5, f6⟩ := shape52 (op := 20) (s := 0) (w := wd) (by decide) (by decide) (by decide) (l.isLt) (g.p.isLt) (bool_lt g.inv) (kg.isLt) (by omega)
  refine ⟨z, ?_⟩; simp [decodeX, f0, f1, f2, f3, f4, f5, f6, finOf_val, bitOf_toNat, boolOf_toNat, Option.bind_some, reduceIte, and_self]
theorem wheelSt (g : Guard) (kg : Fin 8) : Statement (.wheelSt g kg) := ofX rfl rfl rfl rfl rfl fun wf wd e => by
  have e : 0x2a000000 + g.p.val * 2 ^ 19 + g.inv.toNat * 2 ^ 18 + kg.val * 2 ^ 15 = wd := Option.some.inj e
  obtain ⟨z, f0, f1, f2, f3, f4, f5⟩ := shape47 (op := 21) (s := 0) (w := wd) (by decide) (by decide) (by decide) (g.p.isLt) (bool_lt g.inv) (kg.isLt) (by omega)
  refine ⟨z, ?_⟩; simp [decodeX, f0, f1, f2, f3, f4, f5, finOf_val, bitOf_toNat, boolOf_toNat, Option.bind_some, reduceIte, and_self]
theorem wheelAdd (l : Fin 4) (g : Guard) (kg : Fin 8) : Statement (.wheelAdd l g kg) := ofX rfl rfl rfl rfl rfl fun wf wd e => by
  have e : 0x2c000000 + l.val * 2 ^ 22 + g.p.val * 2 ^ 19 + g.inv.toNat * 2 ^ 18 + kg.val * 2 ^ 15 = wd := Option.some.inj e
  obtain ⟨z, f0, f1, f2, f3, f4, f5, f6⟩ := shape52 (op := 22) (s := 0) (w := wd) (by decide) (by decide) (by decide) (l.isLt) (g.p.isLt) (bool_lt g.inv) (kg.isLt) (by omega)
  refine ⟨z, ?_⟩; simp [decodeX, f0, f1, f2, f3, f4, f5, f6, finOf_val, bitOf_toNat, boolOf_toNat, Option.bind_some, reduceIte, and_self]
theorem wheelXchg (l : Fin 4) (g : Guard) (kg : Fin 8) : Statement (.wheelXchg l g kg) := ofX rfl rfl rfl rfl rfl fun wf wd e => by
  have e : 0x2e000000 + l.val * 2 ^ 22 + g.p.val * 2 ^ 19 + g.inv.toNat * 2 ^ 18 + kg.val * 2 ^ 15 = wd := Option.some.inj e
  obtain ⟨z, f0, f1, f2, f3, f4, f5, f6⟩ := shape52 (op := 23) (s := 0) (w := wd) (by decide) (by decide) (by decide) (l.isLt) (g.p.isLt) (bool_lt g.inv) (kg.isLt) (by omega)
  refine ⟨z, ?_⟩; simp [decodeX, f0, f1, f2, f3, f4, f5, f6, finOf_val, bitOf_toNat, boolOf_toNat, Option.bind_some, reduceIte, and_self]
theorem wheelCas (l : Fin 4) (g : Guard) (kg : Fin 8) : Statement (.wheelCas l g kg) := ofX rfl rfl rfl rfl rfl fun wf wd e => by
  have e : 0x30000000 + l.val * 2 ^ 22 + g.p.val * 2 ^ 19 + g.inv.toNat * 2 ^ 18 + kg.val * 2 ^ 15 = wd := Option.some.inj e
  obtain ⟨z, f0, f1, f2, f3, f4, f5, f6⟩ := shape52 (op := 24) (s := 0) (w := wd) (by decide) (by decide) (by decide) (l.isLt) (g.p.isLt) (bool_lt g.inv) (kg.isLt) (by omega)
  refine ⟨z, ?_⟩; simp [decodeX, f0, f1, f2, f3, f4, f5, f6, finOf_val, bitOf_toNat, boolOf_toNat, Option.bind_some, reduceIte, and_self]
theorem mbput (g : Guard) (kg : Fin 8) : Statement (.mbput g kg) := ofX rfl rfl rfl rfl rfl fun wf wd e => by
  have e : 0x34000000 + g.p.val * 2 ^ 19 + g.inv.toNat * 2 ^ 18 + kg.val * 2 ^ 15 = wd := Option.some.inj e
  obtain ⟨z, f0, f1, f2, f3, f4, f5⟩ := shape47 (op := 26) (s := 0) (w := wd) (by decide) (by decide) (by decide) (g.p.isLt) (bool_lt g.inv) (kg.isLt) (by omega)
  refine ⟨z, ?_⟩; simp [decodeX, f0, f1, f2, f3, f4, f5, finOf_val, bitOf_toNat, boolOf_toNat, Option.bind_some, reduceIte, and_self]
theorem mbget (l : Fin 4) (g : Guard) (kg : Fin 8) : Statement (.mbget l g kg) := ofX rfl rfl rfl rfl rfl fun wf wd e => by
  have e : 0x36000000 + l.val * 2 ^ 22 + g.p.val * 2 ^ 19 + g.inv.toNat * 2 ^ 18 + kg.val * 2 ^ 15 = wd := Option.some.inj e
  obtain ⟨z, f0, f1, f2, f3, f4, f5, f6⟩ := shape52 (op := 27) (s := 0) (w := wd) (by decide) (by decide) (by decide) (l.isLt) (g.p.isLt) (bool_lt g.inv) (kg.isLt) (by omega)
  refine ⟨z, ?_⟩; simp [decodeX, f0, f1, f2, f3, f4, f5, f6, finOf_val, bitOf_toNat, boolOf_toNat, Option.bind_some, reduceIte, and_self]
theorem chorusAr (g : Guard) (kg : Fin 8) (sc : Scope) (op : COp) : Statement (.chorusAr g kg sc op) := ofX rfl rfl rfl rfl rfl fun wf wd e => by
  have e : 0x40000000 + g.p.val * 2 ^ 19 + g.inv.toNat * 2 ^ 18 + kg.val * 2 ^ 15 + scopeCode sc * 2 ^ 12 + cOpCode op = wd := Option.some.inj e
  obtain ⟨z, f0, f1, f2, f3, f4, f5, f6, f7⟩ := shape53 (op := 32) (w := wd) (by decide) (by decide) (g.p.isLt) (bool_lt g.inv) (kg.isLt) (scopeCode_lt sc) (cOpCode_lt op) (by omega)
  refine ⟨z, ?_⟩; simp [decodeX, f0, f1, f2, f3, f4, f5, f6, f7, scopeOf_scopeCode, cOpOf_cOpCode, finOf_val, bitOf_toNat, boolOf_toNat, Option.bind_some, reduceIte, and_self]
theorem chorusAg (g : Guard) (kg : Fin 8) (sc : Scope) : Statement (.chorusAg g kg sc) := ofX rfl rfl rfl rfl rfl fun wf wd e => by
  have e : 0x42000000 + g.p.val * 2 ^ 19 + g.inv.toNat * 2 ^ 18 + kg.val * 2 ^ 15 + scopeCode sc * 2 ^ 12 = wd := Option.some.inj e
  obtain ⟨z, f0, f1, f2, f3, f4, f5, f6⟩ := shape48 (op := 33) (s := 0) (w := wd) (by decide) (by decide) (by decide) (g.p.isLt) (bool_lt g.inv) (kg.isLt) (scopeCode_lt sc) (by omega)
  refine ⟨z, ?_⟩; simp [decodeX, f0, f1, f2, f3, f4, f5, f6, scopeOf_scopeCode, finOf_val, bitOf_toNat, boolOf_toNat, Option.bind_some, reduceIte, and_self]
theorem chorusRs (g : Guard) (kg : Fin 8) (sc : Scope) (op : COp) : Statement (.chorusRs g kg sc op) := ofX rfl rfl rfl rfl rfl fun wf wd e => by
  have e : 0x44000000 + g.p.val * 2 ^ 19 + g.inv.toNat * 2 ^ 18 + kg.val * 2 ^ 15 + scopeCode sc * 2 ^ 12 + cOpCode op = wd := Option.some.inj e
  obtain ⟨z, f0, f1, f2, f3, f4, f5, f6, f7⟩ := shape53 (op := 34) (w := wd) (by decide) (by decide) (g.p.isLt) (bool_lt g.inv) (kg.isLt) (scopeCode_lt sc) (cOpCode_lt op) (by omega)
  refine ⟨z, ?_⟩; simp [decodeX, f0, f1, f2, f3, f4, f5, f6, f7, scopeOf_scopeCode, cOpOf_cOpCode, finOf_val, bitOf_toNat, boolOf_toNat, Option.bind_some, reduceIte, and_self]
theorem chorusBc (g : Guard) (kg : Fin 8) (sc : Scope) : Statement (.chorusBc g kg sc) := ofX rfl rfl rfl rfl rfl fun wf wd e => by
  have e : 0x46000000 + g.p.val * 2 ^ 19 + g.inv.toNat * 2 ^ 18 + kg.val * 2 ^ 15 + scopeCode sc * 2 ^ 12 = wd := Option.some.inj e
  obtain ⟨z, f0, f1, f2, f3, f4, f5, f6⟩ := shape48 (op := 35) (s := 0) (w := wd) (by decide) (by decide) (by decide) (g.p.isLt) (bool_lt g.inv) (kg.isLt) (scopeCode_lt sc) (by omega)
  refine ⟨z, ?_⟩; simp [decodeX, f0, f1, f2, f3, f4, f5, f6, scopeOf_scopeCode, finOf_val, bitOf_toNat, boolOf_toNat, Option.bind_some, reduceIte, and_self]
theorem chorusBar (g : Guard) (kg : Fin 8) (sc : Scope) : Statement (.chorusBar g kg sc) := ofX rfl rfl rfl rfl rfl fun wf wd e => by
  have e : 0x48000000 + g.p.val * 2 ^ 19 + g.inv.toNat * 2 ^ 18 + kg.val * 2 ^ 15 + scopeCode sc * 2 ^ 12 = wd := Option.some.inj e
  obtain ⟨z, f0, f1, f2, f3, f4, f5, f6⟩ := shape48 (op := 36) (s := 0) (w := wd) (by decide) (by decide) (by decide) (g.p.isLt) (bool_lt g.inv) (kg.isLt) (scopeCode_lt sc) (by omega)
  refine ⟨z, ?_⟩; simp [decodeX, f0, f1, f2, f3, f4, f5, f6, scopeOf_scopeCode, finOf_val, bitOf_toNat, boolOf_toNat, Option.bind_some, reduceIte, and_self]
theorem chorusReady (g : Guard) (kg : Fin 8) (sc : Scope) : Statement (.chorusReady g kg sc) := ofX rfl rfl rfl rfl rfl fun wf wd e => by
  have e : 0x4a000000 + g.p.val * 2 ^ 19 + g.inv.toNat * 2 ^ 18 + kg.val * 2 ^ 15 + scopeCode sc * 2 ^ 12 = wd := Option.some.inj e
  obtain ⟨z, f0, f1, f2, f3, f4, f5, f6⟩ := shape48 (op := 37) (s := 0) (w := wd) (by decide) (by decide) (by decide) (g.p.isLt) (bool_lt g.inv) (kg.isLt) (scopeCode_lt sc) (by omega)
  refine ⟨z, ?_⟩; simp [decodeX, f0, f1, f2, f3, f4, f5, f6, scopeOf_scopeCode, finOf_val, bitOf_toNat, boolOf_toNat, Option.bind_some, reduceIte, and_self]
theorem chorusCombine (g : Guard) (kg : Fin 8) (sc : Scope) (op : COp) : Statement (.chorusCombine g kg sc op) := ofX rfl rfl rfl rfl rfl fun wf wd e => by
  have e : 0x4c000000 + g.p.val * 2 ^ 19 + g.inv.toNat * 2 ^ 18 + kg.val * 2 ^ 15 + scopeCode sc * 2 ^ 12 + cOpCode op = wd := Option.some.inj e
  obtain ⟨z, f0, f1, f2, f3, f4, f5, f6, f7⟩ := shape53 (op := 38) (w := wd) (by decide) (by decide) (g.p.isLt) (bool_lt g.inv) (kg.isLt) (scopeCode_lt sc) (cOpCode_lt op) (by omega)
  refine ⟨z, ?_⟩; simp [decodeX, f0, f1, f2, f3, f4, f5, f6, f7, scopeOf_scopeCode, cOpOf_cOpCode, finOf_val, bitOf_toNat, boolOf_toNat, Option.bind_some, reduceIte, and_self]
theorem chorusJoin (g : Guard) (kg : Fin 8) (sc : Scope) : Statement (.chorusJoin g kg sc) := ofX rfl rfl rfl rfl rfl fun wf wd e => by
  have e : 0x4e000000 + g.p.val * 2 ^ 19 + g.inv.toNat * 2 ^ 18 + kg.val * 2 ^ 15 + scopeCode sc * 2 ^ 12 = wd := Option.some.inj e
  obtain ⟨z, f0, f1, f2, f3, f4, f5, f6⟩ := shape48 (op := 39) (s := 0) (w := wd) (by decide) (by decide) (by decide) (g.p.isLt) (bool_lt g.inv) (kg.isLt) (scopeCode_lt sc) (by omega)
  refine ⟨z, ?_⟩; simp [decodeX, f0, f1, f2, f3, f4, f5, f6, scopeOf_scopeCode, finOf_val, bitOf_toNat, boolOf_toNat, Option.bind_some, reduceIte, and_self]
theorem chorusLeave (g : Guard) (kg : Fin 8) (sc : Scope) : Statement (.chorusLeave g kg sc) := ofX rfl rfl rfl rfl rfl fun wf wd e => by
  have e : 0x50000000 + g.p.val * 2 ^ 19 + g.inv.toNat * 2 ^ 18 + kg.val * 2 ^ 15 + scopeCode sc * 2 ^ 12 = wd := Option.some.inj e
  obtain ⟨z, f0, f1, f2, f3, f4, f5, f6⟩ := shape48 (op := 40) (s := 0) (w := wd) (by decide) (by decide) (by decide) (g.p.isLt) (bool_lt g.inv) (kg.isLt) (scopeCode_lt sc) (by omega)
  refine ⟨z, ?_⟩; simp [decodeX, f0, f1, f2, f3, f4, f5, f6, scopeOf_scopeCode, finOf_val, bitOf_toNat, boolOf_toNat, Option.bind_some, reduceIte, and_self]
theorem siteq (l : Fin 4) (g : Guard) (st : Fin 32) : Statement (.siteq l g st) := ofX rfl rfl rfl rfl rfl fun wf wd e => by
  have e : 0x58000000 + l.val * 2 ^ 22 + g.p.val * 2 ^ 19 + g.inv.toNat * 2 ^ 18 + st.val * 2 ^ 4 = wd := Option.some.inj e
  obtain ⟨z, f0, f1, f2, f3, f4, f5, f6, f7⟩ := shape54 (op := 44) (s := 0) (w := wd) (by decide) (by decide) (by decide) (l.isLt) (g.p.isLt) (bool_lt g.inv) (st.isLt) (by omega)
  refine ⟨z, ?_⟩; simp [decodeX, f0, f1, f2, f3, f4, f5, f6, f7, finOf_val, bitOf_toNat, boolOf_toNat, Option.bind_some, reduceIte, and_self]
theorem hop (a : Sel) (side : Side) (w : Bool) : Statement (.hop a side w) := ofF rfl rfl rfl rfl rfl fun wf wd e => by
  have e : 0x02000000 + selCode a * 2 ^ 10 + sideCode side * 2 ^ 7 + w.toNat * 2 ^ 6 = wd := Option.some.inj e
  obtain ⟨z, f0, f1, f2, f3, f4, f5, f6⟩ := shape55 (op := 1) (s := 0) (w := wd) (by decide) (by decide) (by decide) (selCode_lt64 a) (sideCode_lt side) (bool_lt w) (by omega)
  refine ⟨z, ?_⟩; simp [decodeF, f0, f1, f2, f3, f4, f5, f6, selOf_selCode, sideOf_sideCode, finOf_val, bitOf_toNat, boolOf_toNat, Option.bind_some, reduceIte, and_self]
theorem hopPass (side : Side) (w : Bool) (fr : Side) : Statement (.hopPass side w fr) := ofF rfl rfl rfl rfl rfl fun wf wd e => by
  have e : 0x02000008 + sideCode side * 2 ^ 7 + w.toNat * 2 ^ 6 + sideCode fr = wd := Option.some.inj e
  obtain ⟨z, f0, f1, f2, f3, f4, f5, f6, f7, f8⟩ := shape56 (op := 1) (w := wd) (by decide) (by decide) (sideCode_lt side) (bool_lt w) (sideCode_lt fr) (by omega)
  refine ⟨z, ?_⟩; simp [decodeF, f0, f1, f2, f3, f4, f5, f6, f7, f8, sideOf_sideCode, finOf_val, bitOf_toNat, boolOf_toNat, Option.bind_some, reduceIte, and_self]
theorem recv (r : Dst) (side : Side) (w : Bool) : Statement (.recv r side w) := ofF rfl rfl rfl rfl rfl fun wf wd e => by
  have e : 0x04000000 + dstCode r + sideCode side * 2 ^ 7 + w.toNat * 2 ^ 6 = wd := Option.some.inj e
  unfold dstCode at e
  obtain ⟨z, f0, f1, f2, f3, f4, f5, f6, f7⟩ := shape57 (op := 2) (s := 0) (w := wd) (by decide) (by decide) (by decide) (bool_lt r.n) (r.l.isLt) (r.d.isLt) (sideCode_lt side) (bool_lt w) (by omega)
  have d : dstOf wd = some r := dstOf_fields f1 f2 f3
  refine ⟨z, ?_⟩; simp [decodeF, f0, f1, f2, f3, f4, f5, f6, f7, d, sideOf_sideCode, finOf_val, bitOf_toNat, boolOf_toNat, Option.bind_some, reduceIte, and_self]
theorem xsend (a : Sel) (side : Side) (w : Bool) (ch : Fin 8) : Statement (.xsend a side w ch) := ofF rfl rfl rfl rfl rfl fun wf wd e => by
  have e : 0x06000000 + selCode a * 2 ^ 10 + sideCode side * 2 ^ 7 + w.toNat * 2 ^ 6 + ch.val = wd := Option.some.inj e
  obtain ⟨z, f0, f1, f2, f3, f4, f5, f6⟩ := shape58 (op := 3) (w := wd) (by decide) (by decide) (selCode_lt64 a) (sideCode_lt side) (bool_lt w) (ch.isLt) (by omega)
  refine ⟨z, ?_⟩; simp [decodeF, f0, f1, f2, f3, f4, f5, f6, selOf_selCode, sideOf_sideCode, finOf_val, bitOf_toNat, boolOf_toNat, Option.bind_some, reduceIte, and_self]
theorem xrecv (r : Dst) (side : Side) (w : Bool) (ch : Fin 8) : Statement (.xrecv r side w ch) := ofF rfl rfl rfl rfl rfl fun wf wd e => by
  have e : 0x08000000 + dstCode r + sideCode side * 2 ^ 7 + w.toNat * 2 ^ 6 + ch.val = wd := Option.some.inj e
  unfold dstCode at e
  obtain ⟨z, f0, f1, f2, f3, f4, f5, f6, f7, f8⟩ := shape59 (op := 4) (w := wd) (by decide) (by decide) (bool_lt r.n) (r.l.isLt) (r.d.isLt) (sideCode_lt side) (bool_lt w) (ch.isLt) (by omega)
  have d : dstOf wd = some r := dstOf_fields f1 f2 f3
  refine ⟨z, ?_⟩; simp [decodeF, f0, f1, f2, f3, f4, f5, f6, f7, f8, d, sideOf_sideCode, finOf_val, bitOf_toNat, boolOf_toNat, Option.bind_some, reduceIte, and_self]
theorem bandq (r : Dst) (a : Sel) : Statement (.bandq r a) := ofF rfl rfl rfl rfl rfl fun wf wd e => by
  have e : 0x0a000000 + dstCode r + selCode a * 2 ^ 10 = wd := Option.some.inj e
  unfold dstCode at e
  obtain ⟨z, f0, f1, f2, f3, f4, f5, f6, f7⟩ := shape14 (op := 5) (s := 0) (w := wd) (by decide) (by decide) (by decide) (bool_lt r.n) (r.l.isLt) (r.d.isLt) (selCode_lt64 a) (by omega)
  have d : dstOf wd = some r := dstOf_fields f1 f2 f3
  refine ⟨z, ?_⟩; simp [decodeF, f0, f1, f2, f3, f4, f5, f6, f7, d, selOf_selCode, finOf_val, bitOf_toNat, boolOf_toNat, Option.bind_some, reduceIte, and_self]
theorem cuetrim : Statement .cuetrim := ofF rfl rfl rfl rfl rfl fun wf wd e => by
  have e : 0x0c000000 = wd := Option.some.inj e
  obtain ⟨z, f0, f1, f2, f3, f4⟩ := shape0 (op := 6) (s := 0) (w := wd) (by decide) (by decide) (by decide)  (by omega)
  refine ⟨z, ?_⟩; simp [decodeF, f0, f1, f2, f3, f4, finOf_val, bitOf_toNat, boolOf_toNat, Option.bind_some, reduceIte, and_self]
theorem castKey (a : Sel) (b : Sel) : Statement (.castKey a b) := ofF rfl rfl rfl rfl rfl fun wf wd e => by
  have e : 0x20000000 + selCode a * 2 ^ 10 + selCode b * 2 ^ 4 = wd := Option.some.inj e
  obtain ⟨z, f0, f1, f2, f3, f4⟩ := shape29 (op := 16) (s := 0) (w := wd) (by decide) (by decide) (by decide) (selCode_lt64 a) (selCode_lt64 b) (by omega)
  refine ⟨z, ?_⟩; simp [decodeF, f0, f1, f2, f3, f4, selOf_selCode, finOf_val, bitOf_toNat, boolOf_toNat, Option.bind_some, reduceIte, and_self]
theorem castRand (r : Dst) (a : Sel) : Statement (.castRand r a) := ofF rfl rfl rfl rfl rfl fun wf wd e => by
  have e : 0x22000000 + dstCode r + selCode a * 2 ^ 10 = wd := Option.some.inj e
  unfold dstCode at e
  obtain ⟨z, f0, f1, f2, f3, f4, f5, f6, f7⟩ := shape14 (op := 17) (s := 0) (w := wd) (by decide) (by decide) (by decide) (bool_lt r.n) (r.l.isLt) (r.d.isLt) (selCode_lt64 a) (by omega)
  have d : dstOf wd = some r := dstOf_fields f1 f2 f3
  refine ⟨z, ?_⟩; simp [decodeF, f0, f1, f2, f3, f4, f5, f6, f7, d, selOf_selCode, finOf_val, bitOf_toNat, boolOf_toNat, Option.bind_some, reduceIte, and_self]
theorem castUnif (r : Dst) (a : Sel) : Statement (.castUnif r a) := ofF rfl rfl rfl rfl rfl fun wf wd e => by
  have e : 0x24000000 + dstCode r + selCode a * 2 ^ 10 = wd := Option.some.inj e
  unfold dstCode at e
  obtain ⟨z, f0, f1, f2, f3, f4, f5, f6, f7⟩ := shape14 (op := 18) (s := 0) (w := wd) (by decide) (by decide) (by decide) (bool_lt r.n) (r.l.isLt) (r.d.isLt) (selCode_lt64 a) (by omega)
  have d : dstOf wd = some r := dstOf_fields f1 f2 f3
  refine ⟨z, ?_⟩; simp [decodeF, f0, f1, f2, f3, f4, f5, f6, f7, d, selOf_selCode, finOf_val, bitOf_toNat, boolOf_toNat, Option.bind_some, reduceIte, and_self]
theorem castScore (r : Dst) (a : Sel) : Statement (.castScore r a) := ofF rfl rfl rfl rfl rfl fun wf wd e => by
  have e : 0x26000000 + dstCode r + selCode a * 2 ^ 10 = wd := Option.some.inj e
  unfold dstCode at e
  obtain ⟨z, f0, f1, f2, f3, f4, f5, f6, f7⟩ := shape14 (op := 19) (s := 0) (w := wd) (by decide) (by decide) (by decide) (bool_lt r.n) (r.l.isLt) (r.d.isLt) (selCode_lt64 a) (by omega)
  have d : dstOf wd = some r := dstOf_fields f1 f2 f3
  refine ⟨z, ?_⟩; simp [decodeF, f0, f1, f2, f3, f4, f5, f6, f7, d, selOf_selCode, finOf_val, bitOf_toNat, boolOf_toNat, Option.bind_some, reduceIte, and_self]
theorem castTopkK (a : Sel) (b : Sel) : Statement (.castTopkK a b) := ofF rfl rfl rfl rfl rfl fun wf wd e => by
  have e : 0x28000000 + selCode a * 2 ^ 10 + selCode b * 2 ^ 4 = wd := Option.some.inj e
  obtain ⟨z, f0, f1, f2, f3, f4⟩ := shape29 (op := 20) (s := 0) (w := wd) (by decide) (by decide) (by decide) (selCode_lt64 a) (selCode_lt64 b) (by omega)
  refine ⟨z, ?_⟩; simp [decodeF, f0, f1, f2, f3, f4, selOf_selCode, finOf_val, bitOf_toNat, boolOf_toNat, Option.bind_some, reduceIte, and_self]
theorem castTopkP (a : Sel) (b : Sel) : Statement (.castTopkP a b) := ofF rfl rfl rfl rfl rfl fun wf wd e => by
  have e : 0x28000001 + selCode a * 2 ^ 10 + selCode b * 2 ^ 4 = wd := Option.some.inj e
  obtain ⟨z, f0, f1, f2, f3, f4⟩ := shape29 (op := 20) (s := 1) (w := wd) (by decide) (by decide) (by decide) (selCode_lt64 a) (selCode_lt64 b) (by omega)
  refine ⟨z, ?_⟩; simp [decodeF, f0, f1, f2, f3, f4, selOf_selCode, finOf_val, bitOf_toNat, boolOf_toNat, Option.bind_some, reduceIte, and_self]
theorem castMass (r : Dst) : Statement (.castMass r) := ofF rfl rfl rfl rfl rfl fun wf wd e => by
  have e : 0x2a000000 + dstCode r = wd := Option.some.inj e
  unfold dstCode at e
  obtain ⟨z, f0, f1, f2, f3, f4⟩ := shape28 (op := 21) (s := 0) (w := wd) (by decide) (by decide) (by decide) (bool_lt r.n) (r.l.isLt) (r.d.isLt) (by omega)
  have d : dstOf wd = some r := dstOf_fields f1 f2 f3
  refine ⟨z, ?_⟩; simp [decodeF, f0, f1, f2, f3, f4, d, finOf_val, bitOf_toNat, boolOf_toNat, Option.bind_some, reduceIte, and_self]
theorem castPick (r : Dst) (a : Sel) : Statement (.castPick r a) := ofF rfl rfl rfl rfl rfl fun wf wd e => by
  have e : 0x2c000000 + dstCode r + selCode a * 2 ^ 10 = wd := Option.some.inj e
  unfold dstCode at e
  obtain ⟨z, f0, f1, f2, f3, f4, f5, f6, f7⟩ := shape14 (op := 22) (s := 0) (w := wd) (by decide) (by decide) (by decide) (bool_lt r.n) (r.l.isLt) (r.d.isLt) (selCode_lt64 a) (by omega)
  have d : dstOf wd = some r := dstOf_fields f1 f2 f3
  refine ⟨z, ?_⟩; simp [decodeF, f0, f1, f2, f3, f4, f5, f6, f7, d, selOf_selCode, finOf_val, bitOf_toNat, boolOf_toNat, Option.bind_some, reduceIte, and_self]
theorem castClr : Statement .castClr := ofF rfl rfl rfl rfl rfl fun wf wd e => by
  have e : 0x2e000000 = wd := Option.some.inj e
  obtain ⟨z, f0, f1, f2, f3, f4⟩ := shape0 (op := 23) (s := 0) (w := wd) (by decide) (by decide) (by decide)  (by omega)
  refine ⟨z, ?_⟩; simp [decodeF, f0, f1, f2, f3, f4, finOf_val, bitOf_toNat, boolOf_toNat, Option.bind_some, reduceIte, and_self]
theorem sequencerIssue (k : TileKey) : Statement (.sequencerIssue k) := ofEvent rfl rfl rfl rfl rfl rfl
theorem resultLanding (k : TileKey) : Statement (.resultLanding k) := ofEvent rfl rfl rfl rfl rfl rfl
theorem waitcueTargetReached (k : TileKey) : Statement (.waitcueTargetReached k) := ofEvent rfl rfl rfl rfl rfl rfl
theorem waitrelExpiry (k : TileKey) : Statement (.waitrelExpiry k) := ofEvent rfl rfl rfl rfl rfl rfl
theorem waiteWake (k : TileKey) : Statement (.waiteWake k) := ofEvent rfl rfl rfl rfl rfl rfl
theorem waiteDeadline (k : TileKey) : Statement (.waiteDeadline k) := ofEvent rfl rfl rfl rfl rfl rfl
theorem waitownWake (k : TileKey) : Statement (.waitownWake k) := ofEvent rfl rfl rfl rfl rfl rfl
theorem waitownDeadline (k : TileKey) : Statement (.waitownDeadline k) := ofEvent rfl rfl rfl rfl rfl rfl
theorem localLimitDeadline (k : TileKey) : Statement (.localLimitDeadline k) := ofEvent rfl rfl rfl rfl rfl rfl
theorem missingMarkRb (k : TileKey) : Statement (.missingMarkRb k) := ofEvent rfl rfl rfl rfl rfl rfl
theorem signalArrival (k : TileKey) : Statement (.signalArrival k) := ofEvent rfl rfl rfl rfl rfl rfl
theorem hopBeatLanding (k : TileKey) : Statement (.hopBeatLanding k) := ofEvent rfl rfl rfl rfl rfl rfl
theorem crossingBeatArrival (k : TileKey) : Statement (.crossingBeatArrival k) := ofEvent rfl rfl rfl rfl rfl rfl
theorem crossingWordLost (k : TileKey) (side : Side) (ch : Fin 8) : Statement (.crossingWordLost k side ch) := ofEvent rfl rfl rfl rfl rfl rfl
theorem gatedWriteRelease (co : Nat) : Statement (.gatedWriteRelease co) := ofEvent rfl rfl rfl rfl rfl rfl
theorem flyMemoryPoint (k : TileKey) : Statement (.flyMemoryPoint k) := ofEvent rfl rfl rfl rfl rfl rfl
theorem flyCompletion (k : TileKey) : Statement (.flyCompletion k) := ofEvent rfl rfl rfl rfl rfl rfl
theorem wheelMemoryPoint (k : TileKey) : Statement (.wheelMemoryPoint k) := ofEvent rfl rfl rfl rfl rfl rfl
theorem wheelResult (k : TileKey) : Statement (.wheelResult k) := ofEvent rfl rfl rfl rfl rfl rfl
theorem acopyLoadCompletion (k : TileKey) : Statement (.acopyLoadCompletion k) := ofEvent rfl rfl rfl rfl rfl rfl
theorem acopyStoreCompletion (k : TileKey) : Statement (.acopyStoreCompletion k) := ofEvent rfl rfl rfl rfl rfl rfl
theorem acopyPageFault (k : TileKey) (store : Bool) : Statement (.acopyPageFault k store) := ofEvent rfl rfl rfl rfl rfl rfl
theorem qmarkCompletion (k : TileKey) : Statement (.qmarkCompletion k) := ofEvent rfl rfl rfl rfl rfl rfl
theorem tileCopyStart (k : TileKey) : Statement (.tileCopyStart k) := ofEvent rfl rfl rfl rfl rfl rfl
theorem tileCopyCompletion (k : TileKey) : Statement (.tileCopyCompletion k) := ofEvent rfl rfl rfl rfl rfl rfl
theorem mailboxPutPerformed (k : TileKey) : Statement (.mailboxPutPerformed k) := ofEvent rfl rfl rfl rfl rfl rfl
theorem mailboxGetPerformed (k : TileKey) : Statement (.mailboxGetPerformed k) := ofEvent rfl rfl rfl rfl rfl rfl
theorem chorusMemberCompletion (k : TileKey) (b : Fin 64) : Statement (.chorusMemberCompletion k b) := ofEvent rfl rfl rfl rfl rfl rfl
theorem chorusStaleCompletion (k : TileKey) : Statement (.chorusStaleCompletion k) := ofEvent rfl rfl rfl rfl rfl rfl
theorem chorusTimeout (k : TileKey) (b : Fin 64) : Statement (.chorusTimeout k b) := ofEvent rfl rfl rfl rfl rfl rfl
theorem barCompletion (k : TileKey) (b : Fin 64) : Statement (.barCompletion k b) := ofEvent rfl rfl rfl rfl rfl rfl
theorem combineCompletion (k : TileKey) : Statement (.combineCompletion k) := ofEvent rfl rfl rfl rfl rfl rfl
theorem ringBoundary (co : Nat) : Statement (.ringBoundary co) := ofEvent rfl rfl rfl rfl rfl rfl
theorem overlayFetchCompletion (k : TileKey) : Statement (.overlayFetchCompletion k) := ofEvent rfl rfl rfl rfl rfl rfl
theorem holdAnnouncement (co : Nat) (h : Nat) : Statement (.holdAnnouncement co h) := ofEvent rfl rfl rfl rfl rfl rfl
theorem holdBegin (co : Nat) : Statement (.holdBegin co) := ofEvent rfl rfl rfl rfl rfl rfl
theorem holdEnd (co : Nat) : Statement (.holdEnd co) := ofEvent rfl rfl rfl rfl rfl rfl
theorem companyStart (co : Nat) : Statement (.companyStart co) := ofEvent rfl rfl rfl rfl rfl rfl
theorem launchEnd (co : Nat) : Statement (.launchEnd co) := ofEvent rfl rfl rfl rfl rfl rfl
theorem launchFaultEnd (co : Nat) : Statement (.launchFaultEnd co) := ofEvent rfl rfl rfl rfl rfl rfl
theorem uncorrectableError (w : ErrPlace) : Statement (.uncorrectableError w) := ofEvent rfl rfl rfl rfl rfl rfl
theorem rollbackRestart (co : Nat) : Statement (.rollbackRestart co) := ofEvent rfl rfl rfl rfl rfl rfl
theorem correctedError (w : ErrPlace) : Statement (.correctedError w) := ofEvent rfl rfl rfl rfl rfl rfl
theorem scrub (site : SiteId) : Statement (.scrub site) := ofEvent rfl rfl rfl rfl rfl rfl
theorem freezeAnnouncement (co : Nat) (cue : Nat) : Statement (.freezeAnnouncement co cue) := ofEvent rfl rfl rfl rfl rfl rfl
theorem freeze (co : Nat) : Statement (.freeze co) := ofEvent rfl rfl rfl rfl rfl rfl
theorem freezeSaveComplete (co : Nat) : Statement (.freezeSaveComplete co) := ofEvent rfl rfl rfl rfl rfl rfl
theorem instructionMemoryRewrite (co : Nat) : Statement (.instructionMemoryRewrite co) := ofEvent rfl rfl rfl rfl rfl rfl
theorem resume (co : Nat) : Statement (.resume co) := ofEvent rfl rfl rfl rfl rfl rfl
theorem placementPass : Statement .placementPass := ofEvent rfl rfl rfl rfl rfl rfl
theorem pfack (i : BitVec 32) : Statement (.pfack i) := ofEvent rfl rfl rfl rfl rfl rfl
theorem pageFaultUnresolvable (i : BitVec 32) : Statement (.pageFaultUnresolvable i) := ofEvent rfl rfl rfl rfl rfl rfl
theorem pageMigration (co : Nat) (seg : Fin 64) (va : BitVec 48) (frame : BitVec 48) : Statement (.pageMigration co seg va frame) := ofEvent rfl rfl rfl rfl rfl rfl
theorem hostCxlRead (at_ : PortAddr) (n : Nat) : Statement (.hostCxlRead at_ n) := ofEvent rfl rfl rfl rfl rfl rfl
theorem hostCxlWrite (at_ : PortAddr) (bytes : List (BitVec 8)) : Statement (.hostCxlWrite at_ bytes) := ofEvent rfl rfl rfl rfl rfl rfl
theorem hdmDecoderCommit (port : Fin 4) (dec : Fin 4) (base : BitVec 48) (size : BitVec 48) : Statement (.hdmDecoderCommit port dec base size) := ofEvent rfl rfl rfl rfl rfl rfl
theorem periodicTrim (site : SiteId) (q : Fin 4) : Statement (.periodicTrim site q) := ofEvent rfl rfl rfl rfl rfl rfl
theorem trimExchange (site : SiteId) (q : Fin 4) (t1 : BitVec 64) (t2 : BitVec 64) (t4 : BitVec 64) : Statement (.trimExchange site q t1 t2 t4) := ofEvent rfl rfl rfl rfl rfl rfl
theorem ofsMeasurement (k : TileKey) (side : Side) (t1 : BitVec 64) (t2 : BitVec 64) (t4 : BitVec 64) : Statement (.ofsMeasurement k side t1 t2 t4) := ofEvent rfl rfl rfl rfl rfl rfl
theorem circuitTeardown (i : Nat) : Statement (.circuitTeardown i) := ofEvent rfl rfl rfl rfl rfl rfl
theorem circuitSetup (i : Nat) (route : List DeckLink) : Statement (.circuitSetup i route) := ofEvent rfl rfl rfl rfl rfl rfl
theorem linkCrcFailure (link : DeckLink) (second : Bool) : Statement (.linkCrcFailure link second) := ofEvent rfl rfl rfl rfl rfl rfl
theorem islandRegulatorFailure (site : SiteId) (q : Fin 4) (i : Fin 32) : Statement (.islandRegulatorFailure site q i) := ofEvent rfl rfl rfl rfl rfl rfl
theorem regionRailFailure (site : SiteId) (q : Fin 4) : Statement (.regionRailFailure site q) := ofEvent rfl rfl rfl rfl rfl rfl
theorem busLow : Statement .busLow := ofEvent rfl rfl rfl rfl rfl rfl
theorem busCollapse : Statement .busCollapse := ofEvent rfl rfl rfl rfl rfl rfl
theorem powerStageTrip (site : SiteId) : Statement (.powerStageTrip site) := ofEvent rfl rfl rfl rfl rfl rfl
theorem presenceClampClosed (site : SiteId) : Statement (.presenceClampClosed site) := ofEvent rfl rfl rfl rfl rfl rfl
theorem presenceOpen (site : SiteId) : Statement (.presenceOpen site) := ofEvent rfl rfl rfl rfl rfl rfl
theorem clampOpen (site : SiteId) : Statement (.clampOpen site) := ofEvent rfl rfl rfl rfl rfl rfl
theorem powerGood (site : SiteId) : Statement (.powerGood site) := ofEvent rfl rfl rfl rfl rfl rfl
theorem phaseTimeLimit (site : SiteId) : Statement (.phaseTimeLimit site) := ofEvent rfl rfl rfl rfl rfl rfl
theorem selfTest (site : SiteId) (o : TestOutcome) : Statement (.selfTest site o) := ofEvent rfl rfl rfl rfl rfl rfl
theorem admission (site : SiteId) (o : TrainOutcome) : Statement (.admission site o) := ofEvent rfl rfl rfl rfl rfl rfl
theorem siteTransitionEffect : Statement .siteTransitionEffect := ofEvent rfl rfl rfl rfl rfl rfl
theorem keepAliveSend (site : SiteId) : Statement (.keepAliveSend site) := ofEvent rfl rfl rfl rfl rfl rfl
theorem keepAliveSilence (site : SiteId) : Statement (.keepAliveSilence site) := ofEvent rfl rfl rfl rfl rfl rfl
theorem cmdPower (site : SiteId) : Statement (.cmdPower site) := ofEvent rfl rfl rfl rfl rfl rfl
theorem cmdDrain (site : SiteId) : Statement (.cmdDrain site) := ofEvent rfl rfl rfl rfl rfl rfl
theorem cmdUndrain (site : SiteId) : Statement (.cmdUndrain site) := ofEvent rfl rfl rfl rfl rfl rfl
theorem cmdReset (site : SiteId) : Statement (.cmdReset site) := ofEvent rfl rfl rfl rfl rfl rfl
theorem siteRequestButton (site : SiteId) : Statement (.siteRequestButton site) := ofEvent rfl rfl rfl rfl rfl rfl
theorem freshrdClear (site : SiteId) : Statement (.freshrdClear site) := ofEvent rfl rfl rfl rfl rfl rfl
theorem rejoinGangStart (co : Nat) (g : Fin 8) : Statement (.rejoinGangStart co g) := ofEvent rfl rfl rfl rfl rfl rfl
theorem doorbell (q : Fin 64) (v : BitVec 32) : Statement (.doorbell q v) := ofEvent rfl rfl rfl rfl rfl rfl
theorem qcmdResume (q : Fin 64) : Statement (.qcmdResume q) := ofEvent rfl rfl rfl rfl rfl rfl
theorem qcmdSkip (q : Fin 64) : Statement (.qcmdSkip q) := ofEvent rfl rfl rfl rfl rfl rfl
theorem qcmdReset (q : Fin 64) : Statement (.qcmdReset q) := ofEvent rfl rfl rfl rfl rfl rfl
theorem queueVisit : Statement .queueVisit := ofEvent rfl rfl rfl rfl rfl rfl
theorem packetUnblock (q : Fin 64) : Statement (.packetUnblock q) := ofEvent rfl rfl rfl rfl rfl rfl
theorem packetNop (q : Fin 64) : Statement (.packetNop q) := ofEvent rfl rfl rfl rfl rfl rfl
theorem launch (q : Fin 64) : Statement (.launch q) := ofEvent rfl rfl rfl rfl rfl rfl
theorem copy (q : Fin 64) : Statement (.copy q) := ofEvent rfl rfl rfl rfl rfl rfl
theorem copyCompletion (id : Nat) : Statement (.copyCompletion id) := ofEvent rfl rfl rfl rfl rfl rfl
theorem weightload (q : Fin 64) : Statement (.weightload q) := ofEvent rfl rfl rfl rfl rfl rfl
theorem weightloadApply (co : Nat) : Statement (.weightloadApply co) := ofEvent rfl rfl rfl rfl rfl rfl
theorem putmb (q : Fin 64) : Statement (.putmb q) := ofEvent rfl rfl rfl rfl rfl rfl
theorem waitmb (q : Fin 64) : Statement (.waitmb q) := ofEvent rfl rfl rfl rfl rfl rfl
theorem unloadCode (q : Fin 64) : Statement (.unloadCode q) := ofEvent rfl rfl rfl rfl rfl rfl
theorem unloadData (q : Fin 64) : Statement (.unloadData q) := ofEvent rfl rfl rfl rfl rfl rfl
theorem unloadLaunch (q : Fin 64) : Statement (.unloadLaunch q) := ofEvent rfl rfl rfl rfl rfl rfl
theorem unloadCompletion (id : Nat) : Statement (.unloadCompletion id) := ofEvent rfl rfl rfl rfl rfl rfl
theorem indirect (q : Fin 64) : Statement (.indirect q) := ofEvent rfl rfl rfl rfl rfl rfl
theorem fence (q : Fin 64) : Statement (.fence q) := ofEvent rfl rfl rfl rfl rfl rfl
theorem rejoin (q : Fin 64) : Statement (.rejoin q) := ofEvent rfl rfl rfl rfl rfl rfl
theorem rejoinWithdraw (q : Fin 64) : Statement (.rejoinWithdraw q) := ofEvent rfl rfl rfl rfl rfl rfl
theorem mailboxFullClear (i : Fin 64) (mask : BitVec 64) : Statement (.mailboxFullClear i mask) := ofEvent rfl rfl rfl rfl rfl rfl
theorem logdropClear (v : BitVec 64) : Statement (.logdropClear v) := ofEvent rfl rfl rfl rfl rfl rfl
theorem deckColdStart (strap : Bool) : Statement (.deckColdStart strap) := ofEvent rfl rfl rfl rfl rfl rfl
theorem recoveryImageWrite (len : BitVec 64) : Statement (.recoveryImageWrite len) := ofEvent rfl rfl rfl rfl rfl rfl
theorem firmwareUpdate (len : BitVec 64) : Statement (.firmwareUpdate len) := ofEvent rfl rfl rfl rfl rfl rfl
theorem firmwareRestart : Statement .firmwareRestart := ofEvent rfl rfl rfl rfl rfl rfl
theorem ownerKeyEnrolment (rec : FlashRecord) : Statement (.ownerKeyEnrolment rec) := ofEvent rfl rfl rfl rfl rfl rfl
theorem attestationReport (nonce : BitVec 512) : Statement (.attestationReport nonce) := ofEvent rfl rfl rfl rfl rfl rfl
theorem commandLinkMessage (site : SiteId) (up : Bool) : Statement (.commandLinkMessage site up) := ofEvent rfl rfl rfl rfl rfl rfl
theorem commandLinkPermitTimeout (site : SiteId) (up : Bool) : Statement (.commandLinkPermitTimeout site up) := ofEvent rfl rfl rfl rfl rfl rfl
theorem networkWriteReceived (peer : Fin 16) (addr : BitVec 48) (bytes : List (BitVec 8)) (imm : Option (BitVec 32)) : Statement (.networkWriteReceived peer addr bytes imm) := ofEvent rfl rfl rfl rfl rfl rfl
theorem congestionNotification (peer : Fin 16) : Statement (.congestionNotification peer) := ofEvent rfl rfl rfl rfl rfl rfl
theorem retransmissionLimit (id : Nat) : Statement (.retransmissionLimit id) := ofEvent rfl rfl rfl rfl rfl rfl
theorem sensorRead (site : SiteId) (q : Fin 4) (i : Fin 32) (temp : BitVec 8) : Statement (.sensorRead site q i temp) := ofEvent rfl rfl rfl rfl rfl rfl
theorem reefTargetRaise (site : SiteId) : Statement (.reefTargetRaise site) := ofEvent rfl rfl rfl rfl rfl rfl
theorem reefTargetLower (site : SiteId) : Statement (.reefTargetLower site) := ofEvent rfl rfl rfl rfl rfl rfl
theorem thermalTrip (site : SiteId) : Statement (.thermalTrip site) := ofEvent rfl rfl rfl rfl rfl rfl
theorem reefLevelChange (co : Nat) : Statement (.reefLevelChange co) := ofEvent rfl rfl rfl rfl rfl rfl
theorem reefminWrite (site : SiteId) (v : BitVec 2) : Statement (.reefminWrite site v) := ofEvent rfl rfl rfl rfl rfl rfl
theorem islandWake (site : SiteId) (q : Fin 4) (i : Fin 32) : Statement (.islandWake site q i) := ofEvent rfl rfl rfl rfl rfl rfl
theorem registerWrite (bar : PortBar) (off : BitVec 25) (v : BitVec 64) : Statement (.registerWrite bar off v) := ofEvent rfl rfl rfl rfl rfl rfl
theorem fatalModuleError (site : SiteId) : Statement (.fatalModuleError site) := ofEvent rfl rfl rfl rfl rfl rfl
theorem presenceOpenFor222Cycles (site : SiteId) : Statement (.presenceOpenFor222Cycles site) := ofEvent rfl rfl rfl rfl rfl rfl
theorem overlayFetchTranslationFault (k : TileKey) : Statement (.overlayFetchTranslationFault k) := ofEvent rfl rfl rfl rfl rfl rfl
theorem linkReturnToService (link : DeckLink) : Statement (.linkReturnToService link) := ofEvent rfl rfl rfl rfl rfl rfl

end Sys2Proof.Laws.Roundtrip
end

