-- ==== Sys2Proof/Machine/Registers.lean ====
section
/-! DEFINITION. What the host reads: the words of the host window (14 R340, R341, R354, R358) and of BAR2 (13 R325; 12 R305, R310; 15 R368 to
R370). A read changes nothing. -/
namespace Sys2Proof.Machine

/-- A word of a list by number; zero past its end. -/
def wordAt (l : List W64) (i : Nat) : W64 := l.getD i 0

/-! ### Queues (14 R341) -/

/-- STATE of a queue: 0 idle, 1 reading, 2 blocked, 3 stopped, 4 disabled (14 R341). -/
def Queue.stateCode (x : Queue) : Nat :=
  if x.stopped then 3
  else if !x.enable then 4
  else if x.blocked.isSome then 2
  else if x.packet.isSome then 1
  else 0

/-- AT of a queue: the index of its blocked or stopping packet in its ring or buffer (14 R341). -/
def Queue.atIndex (x : Queue) : Nat :=
  if x.stopped || x.blocked.isSome then
    match x.live with
    | [] => x.head.toNat % 2 ^ x.log2n
    | f :: _ => f.pos
  else 0

/-- Word k of a queue's register block (14 R341). -/
def Queue.word (x : Queue) (k : Nat) : W64 :=
  match k with
  | 0 => x.qbase
  | 1 => BitVec.ofNat 64 (x.enable.toNat * 2 ^ 7 + x.log2n)
  | 2 => x.head.setWidth 64
  | 3 => x.tail.setWidth 64
  | 4 => BitVec.ofNat 64 (x.code.toNat * 2 ^ 56 + x.stateCode * 2 ^ 48 + x.live.length % 8 * 2 ^ 32 + x.atIndex)
  | _ => 0

/-! ### The host window (14 R340) -/

/-- The words of a fault record (11 R301). -/
def FaultRec.words (r : FaultRec) : List W64 := [r.w0, r.w1, r.w2, r.w3] ++ r.st.toList

/-- The record of the fault log in a place: record n in place n mod 1,024 (14 R340). -/
def State.logPlace (s : State) (k : Nat) : Option FaultRec :=
  s.log[(k + 1024 - (s.logHead.toNat + 1024 - s.log.length) % 1024) % 1024]?

/-- The words of a page-fault request (14 R340): of an overlay segment's number SEG holds the low six bits (DESIGN CHOICE, log 91). -/
def PfReq.words (r : PfReq) : List W64 :=
  [BitVec.ofNat 64 (r.co * 2 ^ 48 + r.seg % 64 * 2 ^ 42 + r.cause * 2 ^ 32), BitVec.ofNat 64 r.va, BitVec.ofNat 64 r.cue, 0]

/-- The latest page-fault request written in a place of the ring: request i in place i mod 256 (14 R340). -/
def State.pfPlace (s : State) (k : Nat) : Option PfReq :=
  (s.pfReqs.filter fun r => decide (r.idx.toNat % 256 = k) && decide ((s.pfHead - r.idx - 1).toNat < 2 ^ 31)).getLast?

/-- A mailbox word in a list of them. -/
def mailboxAt (mb : List (Nat × MbWord)) (w : Nat) : MbWord := ((mb.find? fun p => p.1 == w).map (·.2)).getD ⟨0, false⟩

/-- The full bits of 64 mailbox words in one (14 R340). -/
def fullBits (mb : List (Nat × MbWord)) (i : Nat) : W64 := maskOf (fun b => (mailboxAt mb (64 * i + b)).full) 64

/-- A mailbox word or a word of full bits, of the words themselves or of their mirror (14 R340, R358). -/
def mailboxWord (mb : List (Nat × MbWord)) (off : Nat) : W64 :=
  if off < 0x28000 then (mailboxAt mb ((off - 0x20000) / 8)).v else fullBits mb ((off - 0x28000) / 8)

/-- Whether an offset of the host window is one of the mailbox words or their full bits. -/
def inMailbox (off : Nat) : Bool := decide (0x20000 ≤ off) && decide (off < 0x28200)

/-- A word of the host window; an offset not listed, or that is only written, reads zero (14 R340). -/
def State.bar0Word (s : State) (off : Nat) : W64 :=
  if 0x1000 ≤ off ∧ off < 0x2000 then (s.queues[fin64 ((off - 0x1000) / 64)]).word (off % 64 / 8)
  else if off = 0x2000 then s.logHead.setWidth 64
  else if off = 0x2008 then s.logTail
  else if off = 0x2010 then s.logDrop
  else if off = 0x2020 then s.pfHead.setWidth 64
  else if 0x10000 ≤ off ∧ off < 0x20000 then ((s.logPlace ((off - 0x10000) / 64)).map fun r => wordAt r.words (off % 64 / 8)).getD 0
  else if inMailbox off then mailboxWord s.mbox off
  else if 0x30000 ≤ off ∧ off < 0x32000 then ((s.pfPlace ((off - 0x30000) / 32)).map fun r => wordAt r.words (off % 32 / 8)).getD 0
  else 0

/-- What the host reads at an aligned offset of the host window; nothing while the links are down (13 R336). In the restart of the stage manager
the mailbox words are read from the mirror; the recovery image shows its magic, on port 0 alone (14 R354, R358). -/
def State.readBar0 (s : State) (port : Fin 4) (off : Nat) : Option W64 :=
  match s.fw.mode with
  | .recovery => if !s.recovers || port ≠ 0 then none else some (if off = 0 then 0x7265636f76657279 else 0)
  | .restarting _ => if s.hostReaches && inMailbox off then some (mailboxWord s.mirror off) else none
  | _ => if s.accepts then some (s.bar0Word off) else none

/-! ### Sites and modules (13 R325; 15 R370) -/

/-- The status word of a site: the table's entry as site S's own counter shows it, TYPE and LASTCAUSE with it (13 R325, R327). -/
def State.statusWord (s : State) (n : SiteId) : W64 :=
  let x := s.shown n
  BitVec.ofNat 64 (x.epoch.toNat * 2 ^ 48 + x.freshCo.toNat * 2 ^ 32 + x.lastCause.toNat * 2 ^ 24 + x.typ.toNat * 2 ^ 20 +
    x.present.toNat * 2 ^ 19 + x.clamp.toNat * 2 ^ 18 + x.freshRd.toNat * 2 ^ 17 + x.auto.toNat * 2 ^ 16 + x.cmdErr.toNat * 2 ^ 15 + x.state.code)

/-- The power word of a module; TARGET and REEFMIN are zero for a memory site (15 R370). -/
def Site.powerWord (x : Site) (compute : Bool) : W64 :=
  BitVec.ofNat 64 (x.pwr.toNat * 2 ^ 48 + x.tmax.toNat * 2 ^ 40 + if compute then x.target.toNat * 2 ^ 34 + x.reefMin.toNat * 2 ^ 32 else 0)

/-- Four counters in a word, the first lowest (11 R302). -/
def countWord (x : Vector (BitVec 16) 4) : W64 :=
  BitVec.ofNat 64 (x[3].toNat * 2 ^ 48 + x[2].toNat * 2 ^ 32 + x[1].toNat * 2 ^ 16 + x[0].toNat)

/-- The word of an island (15 R370). -/
def Island.word (x : Island) : W64 :=
  BitVec.ofNat 64 (x.temp.toNat * 2 ^ 40 + x.vmeas.toNat * 2 ^ 28 + x.vset.toNat * 2 ^ 16 + x.mode.toNat)

/-- Eight bytes of a region's live defect map (12 R305, 15 R370). -/
def Region.mapWord (r : Region) (j : Nat) : W64 := BitVec.ofNat 64 (leNat ((r.defects.toList.drop (8 * j)).take 8))

/-- A word of a compute module's block or of a memory module's words (15 R369, R370; 12 R310). -/
def Site.blockWord (x : Site) (compute : Bool) (off : Nat) : W64 :=
  let region (n : Nat) : Region := x.regions[(⟨n % 4, Nat.mod_lt _ (by decide)⟩ : Fin 4)]
  if off = 0 then x.powerWord compute
  else if off = 8 then countWord x.modCounts
  else if !compute then 0
  else if 0x10 ≤ off ∧ off < 0x30 then countWord (region ((off - 0x10) / 8)).counts
  else if 0x100 ≤ off ∧ off < 0x180 then (bandEntry ((off - 0x100) / 8)).word 0
  else if 0x200 ≤ off ∧ off < 0x240 then (region ((off - 0x200) / 16)).mapWord (off % 16 / 8)
  else if 0x1000 ≤ off ∧ off < 0x1400 then
    let k := (off - 0x1000) / 8
    ((region (k / 32)).islands[(⟨k % 32, Nat.mod_lt _ (by decide)⟩ : Fin 32)]).word
  else 0

/-! ### BAR2 (15 R369) -/

/-- The version word: the security version of the firmware, major 1, minor 0 (15 R369). -/
def Firmware.versionWord (f : Firmware) : W64 := BitVec.ofNat 64 (f.secVersion.toNat * 2 ^ 16 + 1 * 2 ^ 8)

/-- A word of BAR2; an offset not listed, or that is only written, reads zero (15 R369). -/
def State.bar2Word (s : State) (off : Nat) : W64 :=
  if off = 0 then s.fw.versionWord
  else if 0x100 ≤ off ∧ off < 0x188 then s.statusWord (siteNo ((off - 0x100) / 8))
  else if off = 0x200 then BitVec.ofNat 64 (s.deckWatts.toNat * 2 ^ 48 + s.busCv.toNat * 2 ^ 32)
  else if 0x300 ≤ off ∧ off < 0x340 then s.fw.nonce.extractLsb' (8 * (off - 0x300)) 64
  else if off = 0x340 then BitVec.ofNat 64 (s.fw.jumper.toNat * 2 + s.fw.strap.toNat)
  else if off = 0x350 then s.fw.updStat.setWidth 64
  else if 0x10000 ≤ off ∧ off < 0x90000 then (s.sites[siteNo ((off - 0x10000) / 0x10000)]).blockWord true (off % 0x10000)
  else if 0x90000 ≤ off ∧ off < 0x98000 then (s.sites[siteNo (8 + (off - 0x90000) / 0x1000)]).blockWord false (off % 0x1000)
  else if 0x100000 ≤ off ∧ off < 0x111000 then wordAt (s.sites[siteNo ((off - 0x100000) / 0x1000)]).report (off % 0x1000 / 8)
  else 0

/-- What the host reads at an aligned offset of BAR2; nothing while the stage manager is away (13 R336). -/
def State.readBar2 (s : State) (off : Nat) : Option W64 := if s.accepts then some (s.bar2Word off) else none

end Sys2Proof.Machine
end

