-- ==== Sys2Proof/Safety.lean ====
section
/-! DEFINITION. What a safe step is, and the other terms the claims use: the instruction an event stands for, the words of a bundle run one
after the other, what a word's result is, the invariant of the two memories. -/
namespace Sys2Proof

/-- A step that goes on. -/
def goesOn (o : Host.Outcome Machine.State Machine.Fault Machine.Refusal) : Prop := ∃ t, o = .next t

/-- A run of steps from a state that goes on to the end. -/
def safeFor (n : Nat) (s : Machine.State) : Prop := ∃ t, Sys2Proof.core.run n s = .next t

end Sys2Proof

namespace Sys2Proof.Machine

/-- The instruction of the table that an event of the agenda stands for: the constructor of the same name with the same arguments. -/
def Event.means (e : Event) (ins : Instr) : Prop :=
  match e with
  | .sequencerIssue k => ins = Instr.sequencerIssue k
  | .resultLanding k => ins = Instr.resultLanding k
  | .waitcueTargetReached k => ins = Instr.waitcueTargetReached k
  | .waitrelExpiry k => ins = Instr.waitrelExpiry k
  | .waiteWake k => ins = Instr.waiteWake k
  | .waiteDeadline k => ins = Instr.waiteDeadline k
  | .waitownWake k => ins = Instr.waitownWake k
  | .waitownDeadline k => ins = Instr.waitownDeadline k
  | .localLimitDeadline k => ins = Instr.localLimitDeadline k
  | .missingMarkRb k => ins = Instr.missingMarkRb k
  | .signalArrival k => ins = Instr.signalArrival k
  | .hopBeatLanding k => ins = Instr.hopBeatLanding k
  | .crossingBeatArrival k => ins = Instr.crossingBeatArrival k
  | .crossingWordLost k side ch => ins = Instr.crossingWordLost k side ch
  | .gatedWriteRelease co => ins = Instr.gatedWriteRelease co
  | .flyMemoryPoint k => ins = Instr.flyMemoryPoint k
  | .flyCompletion k => ins = Instr.flyCompletion k
  | .wheelMemoryPoint k => ins = Instr.wheelMemoryPoint k
  | .wheelResult k => ins = Instr.wheelResult k
  | .acopyLoadCompletion k => ins = Instr.acopyLoadCompletion k
  | .acopyStoreCompletion k => ins = Instr.acopyStoreCompletion k
  | .acopyPageFault k store => ins = Instr.acopyPageFault k store
  | .qmarkCompletion k => ins = Instr.qmarkCompletion k
  | .tileCopyStart k => ins = Instr.tileCopyStart k
  | .tileCopyCompletion k => ins = Instr.tileCopyCompletion k
  | .mailboxPutPerformed k => ins = Instr.mailboxPutPerformed k
  | .mailboxGetPerformed k => ins = Instr.mailboxGetPerformed k
  | .chorusMemberCompletion k b => ins = Instr.chorusMemberCompletion k b
  | .chorusStaleCompletion k => ins = Instr.chorusStaleCompletion k
  | .chorusTimeout k b => ins = Instr.chorusTimeout k b
  | .barCompletion k b => ins = Instr.barCompletion k b
  | .combineCompletion k => ins = Instr.combineCompletion k
  | .ringBoundary co => ins = Instr.ringBoundary co
  | .overlayFetchCompletion k => ins = Instr.overlayFetchCompletion k
  | .holdAnnouncement co h => ins = Instr.holdAnnouncement co h
  | .holdBegin co => ins = Instr.holdBegin co
  | .holdEnd co => ins = Instr.holdEnd co
  | .companyStart co => ins = Instr.companyStart co
  | .launchEnd co => ins = Instr.launchEnd co
  | .launchFaultEnd co => ins = Instr.launchFaultEnd co
  | .uncorrectableError w => ins = Instr.uncorrectableError w
  | .rollbackRestart co => ins = Instr.rollbackRestart co
  | .correctedError w => ins = Instr.correctedError w
  | .scrub site => ins = Instr.scrub site
  | .freezeAnnouncement co cue => ins = Instr.freezeAnnouncement co cue
  | .freeze co => ins = Instr.freeze co
  | .freezeSaveComplete co => ins = Instr.freezeSaveComplete co
  | .instructionMemoryRewrite co => ins = Instr.instructionMemoryRewrite co
  | .resume co => ins = Instr.resume co
  | .placementPass => ins = Instr.placementPass
  | .pfack i => ins = Instr.pfack i
  | .pageFaultUnresolvable i => ins = Instr.pageFaultUnresolvable i
  | .pageMigration co seg va frame => ins = Instr.pageMigration co seg va frame
  | .hostCxlRead at_ n => ins = Instr.hostCxlRead at_ n
  | .hostCxlWrite at_ bytes => ins = Instr.hostCxlWrite at_ bytes
  | .hdmDecoderCommit port dec base size => ins = Instr.hdmDecoderCommit port dec base size
  | .periodicTrim site q => ins = Instr.periodicTrim site q
  | .trimExchange site q t1 t2 t4 => ins = Instr.trimExchange site q t1 t2 t4
  | .ofsMeasurement k side t1 t2 t4 => ins = Instr.ofsMeasurement k side t1 t2 t4
  | .circuitTeardown i => ins = Instr.circuitTeardown i
  | .circuitSetup i route => ins = Instr.circuitSetup i route
  | .linkCrcFailure link second => ins = Instr.linkCrcFailure link second
  | .islandRegulatorFailure site q i => ins = Instr.islandRegulatorFailure site q i
  | .regionRailFailure site q => ins = Instr.regionRailFailure site q
  | .busLow => ins = Instr.busLow
  | .busCollapse => ins = Instr.busCollapse
  | .powerStageTrip site => ins = Instr.powerStageTrip site
  | .presenceClampClosed site => ins = Instr.presenceClampClosed site
  | .presenceOpen site => ins = Instr.presenceOpen site
  | .clampOpen site => ins = Instr.clampOpen site
  | .powerGood site => ins = Instr.powerGood site
  | .phaseTimeLimit site => ins = Instr.phaseTimeLimit site
  | .selfTest site o => ins = Instr.selfTest site o
  | .admission site o => ins = Instr.admission site o
  | .siteTransitionEffect => ins = Instr.siteTransitionEffect
  | .keepAliveSend site => ins = Instr.keepAliveSend site
  | .keepAliveSilence site => ins = Instr.keepAliveSilence site
  | .cmdPower site => ins = Instr.cmdPower site
  | .cmdDrain site => ins = Instr.cmdDrain site
  | .cmdUndrain site => ins = Instr.cmdUndrain site
  | .cmdReset site => ins = Instr.cmdReset site
  | .siteRequestButton site => ins = Instr.siteRequestButton site
  | .freshrdClear site => ins = Instr.freshrdClear site
  | .rejoinGangStart co g => ins = Instr.rejoinGangStart co g
  | .doorbell q v => ins = Instr.doorbell q v
  | .qcmdResume q => ins = Instr.qcmdResume q
  | .qcmdSkip q => ins = Instr.qcmdSkip q
  | .qcmdReset q => ins = Instr.qcmdReset q
  | .queueVisit => ins = Instr.queueVisit
  | .packetUnblock q => ins = Instr.packetUnblock q
  | .packetNop q => ins = Instr.packetNop q
  | .launch q => ins = Instr.launch q
  | .copy q => ins = Instr.copy q
  | .copyCompletion id => ins = Instr.copyCompletion id
  | .weightload q => ins = Instr.weightload q
  | .weightloadApply co => ins = Instr.weightloadApply co
  | .putmb q => ins = Instr.putmb q
  | .waitmb q => ins = Instr.waitmb q
  | .unloadCode q => ins = Instr.unloadCode q
  | .unloadData q => ins = Instr.unloadData q
  | .unloadLaunch q => ins = Instr.unloadLaunch q
  | .unloadCompletion id => ins = Instr.unloadCompletion id
  | .indirect q => ins = Instr.indirect q
  | .fence q => ins = Instr.fence q
  | .rejoin q => ins = Instr.rejoin q
  | .rejoinWithdraw q => ins = Instr.rejoinWithdraw q
  | .mailboxFullClear i mask => ins = Instr.mailboxFullClear i mask
  | .logdropClear v => ins = Instr.logdropClear v
  | .deckColdStart strap => ins = Instr.deckColdStart strap
  | .recoveryImageWrite len => ins = Instr.recoveryImageWrite len
  | .firmwareUpdate len => ins = Instr.firmwareUpdate len
  | .firmwareRestart => ins = Instr.firmwareRestart
  | .ownerKeyEnrolment rec => ins = Instr.ownerKeyEnrolment rec
  | .attestationReport nonce => ins = Instr.attestationReport nonce
  | .commandLinkMessage site up => ins = Instr.commandLinkMessage site up
  | .commandLinkPermitTimeout site up => ins = Instr.commandLinkPermitTimeout site up
  | .networkWriteReceived peer addr bytes imm => ins = Instr.networkWriteReceived peer addr bytes imm
  | .congestionNotification peer => ins = Instr.congestionNotification peer
  | .retransmissionLimit id => ins = Instr.retransmissionLimit id
  | .sensorRead site q i temp => ins = Instr.sensorRead site q i temp
  | .reefTargetRaise site => ins = Instr.reefTargetRaise site
  | .reefTargetLower site => ins = Instr.reefTargetLower site
  | .thermalTrip site => ins = Instr.thermalTrip site
  | .reefLevelChange co => ins = Instr.reefLevelChange co
  | .reefminWrite site v => ins = Instr.reefminWrite site v
  | .islandWake site q i => ins = Instr.islandWake site q i
  | .registerWrite bar off v => ins = Instr.registerWrite bar off v
  | .fatalModuleError site => ins = Instr.fatalModuleError site
  | .presenceOpenFor222Cycles site => ins = Instr.presenceOpenFor222Cycles site
  | .overlayFetchTranslationFault k => ins = Instr.overlayFetchTranslationFault k
  | .linkReturnToService link => ins = Instr.linkReturnToService link

/-- The words of a bundle executed in slot order, each from the state the one before it left, none raising a cause (03 R80, 04 R96). -/
def runWords (f : Slot → Instr) : List Slot → State → Option State
  | [], s => some s
  | u :: r, s =>
    match exec (f u) { s with slot := u, raised := none } with
    | .next t => if t.raised = none then runWords f r t else none
    | _ => none

/-- The invariant of every step: deck memory and the weight stores keep their canonical form. -/
def State.MemInv (s : State) : Prop := memWf s.mem = true ∧ memWf s.weights = true

/-- The real number a finite value is (02 R45); zero for what is no number. -/
def Val.rat : Val → ℚ
  | .fin neg m e => (if neg then -1 else 1) * m * 2 ^ e
  | _ => 0

/-- The outcome of a word whose only effect is on the issuing tile's registers. -/
def Here.becomes (h : Here) (st : TState) : Host.Outcome State Fault Refusal := .next (h.put st)

/-- The outcome of an s-slot word with a 64-bit result `lat` cycles on. -/
def Here.gives (h : Here) (lat : Nat) (r : Dst) (v : W64) : Host.Outcome State Fault Refusal := h.becomes (h.st.resS h.cue lat r v)

/-- The outcome of a vector word with result lanes `f` under the active mask `lat` cycles on. -/
def Here.givesV (h : Here) (lat : Nat) (r : Dst) (f : Nat → W32) : Host.Outcome State Fault Refusal :=
  h.becomes (h.st.resV h.s.slot h.cue lat r (ofLanes f) h.st.active)

/-- The outcome of a word that raises a cause in the tile that issues it: the trap taken, the cause left for the sequencer (11 R291). -/
def Here.traps (h : Here) (code : BitVec 8) (info : W64) : Host.Outcome State Fault Refusal :=
  .next { h.takeTrap true code info with raised := some ⟨code, info, h.s.slot⟩ }

/-- What a scalar load of `w` bytes from address `a` does (04 R123, R116): BOUNDS, then OWNER, then the value lands 4 cycles on. -/
def Here.loads (h : Here) (w : Nat) (r : Dst) (a : Int) : Host.Outcome State Fault Refusal :=
  if a < 0 ∨ 0xfffff < a ∨ a % w ≠ 0 then h.traps cBOUNDS (BitVec.ofInt 64 a)
  else
    let u := a.toNat / 4096
    if h.st.owner u ≠ 0 then h.traps cOWNER (BitVec.ofNat 64 (h.st.owner u * 256 + u))
    else h.gives 4 r (BitVec.ofNat 64 (memNat h.st.spad a.toNat w))

/-- What a scalar store of the low `w` bytes of `v` to address `a` does (04 R123, R116): BOUNDS, then OWNER, then the bytes are seen one
cycle on. -/
def Here.stores (h : Here) (w : Nat) (v : W64) (a : Int) : Host.Outcome State Fault Refusal :=
  if a < 0 ∨ 0xfffff < a ∨ a % w ≠ 0 then h.traps cBOUNDS (BitVec.ofInt 64 a)
  else
    let u := a.toNat / 4096
    if h.st.owner u ≠ 0 then h.traps cOWNER (BitVec.ofNat 64 (h.st.owner u * 256 + u))
    else h.becomes (h.st.fly1 h.cue 1 (.store (cellsAt a.toNat (leBytes w v.toNat))))

/-- What a compare with truth value `t` does (04 R121). -/
def Here.compares (h : Here) (n : Bool) (l : Fin 4) (p : Fin 8) (t : Bool) : Host.Outcome State Fault Refusal :=
  let st := h.st.fly1 h.cue 1 (.latS .s l (if t then 1 else 0))
  h.becomes (if n then st else st.fly1 h.cue 1 (.pred p t))

/-- The machine with nothing changed outside one tile's results in flight. -/
def Here.onlyFlies (h : Here) (t : State) (fs : List Flight) : Prop := t = h.put { h.st with flight := h.st.flight ++ fs }

end Sys2Proof.Machine
end

