-- ==== Sys2Proof/Certificates/Slice0/Obligations.lean ====
section
/-! DEFINITION. The statements about the machine, for the provers. Each follows the rules of spec/ its docstring names; a clause that
rests on a choice of the model names the log entry; `s.here`, the tile and slot a word is issued in, is the model's own (log 10). -/
open Sys2Proof Sys2Proof.Machine

/-! ### The step, the decoder, reset -/

/-- The event at the head of the agenda is done as exec does the instruction it stands for; with none left, the next part of the cycle
begins (the agenda is the model's own: log 3). -/
def Obligations.StepDoesTheNextEvent : Prop :=
  (∀ (s : State) (e : Event) (r : List Event) (i : Instr), s.agenda = e :: r → e.means i → step s = exec i { s with agenda := r }) ∧
  (∀ s : State, s.agenda = [] → step s = .next s.advance)

/-- SEQUENCER_ISSUE at a tile that issues: the eight words the decoder reads from the bundle at its address are executed in slot order as
exec does them, then the next address is formed (03 R70, R80; 04 R96), in the state with the latches cleared if a group begins (01 R22). The
address a RET popped is absolute: in an overlaid binary it names the half too (03 R79, 04 R102). -/
def Obligations.StepIssuesTheBundle : Prop :=
  ∀ (s t : State) (k : TileKey) (r : List Event) (h₀ : Here) (b : Bundle) (f : Slot → Instr),
    s.agenda = .sequencerIssue k :: r → ({ s with agenda := r } : State).hereAt k = some h₀ → h₀.issues = true →
    let h := h₀.enterPopped
    h.t.bundleAt h.st.pc = some b → h.st.skip = 0 → (∀ u ∈ slots, decode u (slotWord b u) = some (f u)) →
    (∀ u ∈ slots, (encode (f u)).isSome = true) →
    runWords f slots { h.put h.st.beforeBundle with focus := h.t.key, raised := none } = some t →
    step s = .next { t.finishBundle h.t.key b with raised := none }

/-- Words written out from the encoding tables of the spec decode to the instructions they stand for (03 R72, R82 to R87; 04 R95, R117). -/
def Obligations.DecodesWrittenWords : Prop :=
  decode .c 0x28800010 = some (.waite 4 0x0010) ∧
  decode .c 0x0ea00040 = some (.call ⟨2, true⟩ 0x040) ∧
  decode .c 0x0c250010 = some (.brz true 5 0x010) ∧
  decode .c 0x1ca03025 = some (.replay 1 2 6 0x025) ∧
  decode .c 0x18005005 = some (.loop 0 10 0x005) ∧
  decode .s 0x06431093 = some (.cmpLtn false 1 3 (.reg 4) (.reg 9)) ∧
  decode .s 0x34070802 = some (.ld32 ⟨false, 0, 7⟩ 2 2) ∧
  decode .s 0x3e21b000 = some (.st64Stream (.own 1) 3) ∧
  decode .s 0x44092400 = some (.setd 2 1 (.reg 9)) ∧
  decode .s 0x3c0a0048 = some (.st32 (.reg 10) 0 72)

/-- Decoding reads back what the encoder wrote, for every instruction the word alone allows, with every operand at every value: the word of a slot
decodes, in each slot that takes it, to the instruction it was made from (03 R71, R72, R82 to R87); the zero word, which has no encoder, is NOP in
every slot (03 R71). -/
def Obligations.DecodeReadsEncodedWords : Prop :=
  (∀ i : Instr, Sys2Proof.Laws.Roundtrip.Statement i) ∧ ∀ u : Slot, decode u 0 = some .nop ∧ ∀ i, decode u 0 = some i → i = .nop

/-- What the decoder gives is a legal word with an encoding: no event, no word the spec calls illegal (03 R75, R77). -/
def Obligations.DecodeGivesOnlyLegalWords : Prop :=
  ∀ (u : Slot) (w : Nat) (i : Instr), decode u w = some i → i.wf = true ∧ (encode i).isSome = true

/-- The machine never stops: whatever the agenda holds, a step goes on to a next state; exec refuses nothing, and faults only where a slot
word has no tile to issue it (logs 6, 10: the model's choice). -/
def Obligations.StepAlwaysGoesOn : Prop :=
  (∀ s : State, goesOn (step s)) ∧
  (∀ (i : Instr) (s : State) (x : Refusal), exec i s ≠ .refused x) ∧
  (∀ (i : Instr) (s : State) (x : Fault), exec i s = .fault x → s.here = none ∧ (encode i).isSome = true)

/-- Every step keeps the two shared memories in their canonical form, from every state that has it, reachable or not (log 28). -/
def Obligations.StepKeepsMemoriesCanonical : Prop :=
  ∀ s t : State, s.MemInv → step s = .next t → t.MemInv

/-- The machine at reset has its memories in canonical form. -/
def Obligations.ResetMemoriesCanonical : Prop := State.reset.MemInv

/-- What cold start leaves, as the spec says it: the deck cue is zero (00 R11); deck memory and the weight stores read zero everywhere (10
R265, R267); every site is EMPTY with epoch zero, AUTO set and no cause (13 R325, 14 R354); every mailbox word is empty (14 R339); every
queue is disabled with LOG2N 4 and its registers zero (14 R341); no launch runs. That no site has a trained link then is the model's choice (log 12).
What a tile holds at launch start (01 R42): registers zero, p0 one, one mask entry with every lane, no latch, no loop, no result in
flight, the event flags clear, every unit's owner CORE, the scratchpad as the binary's data sections give it. -/
def Obligations.ResetAndLaunchStart : Prop :=
  (State.reset.cue = 0 ∧ (∀ a, memGet State.reset.mem a = 0) ∧ (∀ a, memGet State.reset.weights a = 0) ∧
  (∀ n : SiteId, (State.reset.sites[n]).state = .empty ∧ (State.reset.sites[n]).epoch = 0 ∧ (State.reset.sites[n]).auto = true ∧
    (State.reset.sites[n]).lastCause = 0 ∧ (State.reset.sites[n]).links = []) ∧
  State.reset.mbox = [] ∧
  (∀ q : Fin 64, (State.reset.queues[q]).log2n = 4 ∧ (State.reset.queues[q]).enable = false ∧ (State.reset.queues[q]).head = 0 ∧
    (State.reset.queues[q]).tail = 0 ∧ (State.reset.queues[q]).qbase = 0) ∧
  State.reset.companies = [] ∧ State.reset.tiles = []) ∧
  (∀ data : Memory, let st := TState.launch data
    (∀ r : Fin 32, st.sreg r = 0 ∧ st.v[r] = 0 ∧ st.k[r] = 0) ∧ (∀ p : Fin 8, st.pred p = decide (p = 0)) ∧
    st.mask = [BitVec.allOnes 64] ∧ (∀ l : Fin 16, st.latS[l] = 0 ∧ st.latV[l] = 0) ∧
    (∀ j : Fin 4, (st.loops[j]).active = false) ∧ st.rstack = [] ∧ st.flight = [] ∧ st.e = 0 ∧
    st.arrive = 0 ∧ (∀ u, st.owner u = ownCore) ∧ st.spad = data ∧ st.ordinal = 0 ∧ st.pc = 0)

/-! ### Scalar words, results that land -/

/-- R119: the logic and shift words and their immediate forms. -/
def Obligations.LogicAndShiftWords : Prop :=
  ∀ (s : State) (h : Here) (r : Dst) (a b : Sel) (i : BitVec 16) (n : BitVec 6), s.here = some h →
    let x := h.getS a
    let y := h.getS b
    let d := h.st.sreg r.d
    let k := y.toNat % 64
    exec (.add r a b) s = h.gives 1 r (BitVec.ofNat 64 (x.toNat + y.toNat)) ∧
    exec (.sub r a b) s = h.gives 1 r (BitVec.ofInt 64 (x.toInt - y.toInt)) ∧
    exec (.and r a b) s = h.gives 1 r (x &&& y) ∧
    exec (.or r a b) s = h.gives 1 r (x ||| y) ∧
    exec (.xor r a b) s = h.gives 1 r (x ^^^ y) ∧
    exec (.shl r a b) s = h.gives 1 r (BitVec.ofNat 64 (x.toNat * 2 ^ k)) ∧
    exec (.shr r a b) s = h.gives 1 r (BitVec.ofNat 64 (x.toNat / 2 ^ k)) ∧
    exec (.sha r a b) s = h.gives 1 r (BitVec.ofInt 64 (x.toInt / 2 ^ k)) ∧
    exec (.min r a b) s = h.gives 1 r (if x.toInt < y.toInt then x else y) ∧
    exec (.max r a b) s = h.gives 1 r (if x.toInt < y.toInt then y else x) ∧
    exec (.minn r a b) s = h.gives 1 r (if x.toNat < y.toNat then x else y) ∧
    exec (.maxn r a b) s = h.gives 1 r (if x.toNat < y.toNat then y else x) ∧
    (∃ z : Nat, exec (.clz r a) s = h.gives 1 r (BitVec.ofNat 64 z) ∧ z ≤ 64 ∧ (∀ j < z, x.getLsbD (63 - j) = false) ∧
      (z < 64 → x.getLsbD (63 - z) = true)) ∧
    exec (.popc r a) s = h.gives 1 r (BitVec.ofNat 64 ((List.range 64).countP fun j => x.getLsbD j)) ∧
    exec (.addi r i) s = h.gives 1 r (d + i.signExtend 64) ∧
    exec (.andi r i) s = h.gives 1 r (d &&& i.setWidth 64) ∧
    exec (.ori r i) s = h.gives 1 r (d ||| i.setWidth 64) ∧
    exec (.xori r i) s = h.gives 1 r (d ^^^ i.setWidth 64) ∧
    exec (.shli r n) s = h.gives 1 r (BitVec.ofNat 64 (d.toNat * 2 ^ n.toNat)) ∧
    exec (.shri r n) s = h.gives 1 r (BitVec.ofNat 64 (d.toNat / 2 ^ n.toNat)) ∧
    exec (.shai r n) s = h.gives 1 r (BitVec.ofInt 64 (d.toInt / 2 ^ n.toNat)) ∧
    exec (.li r i) s = h.gives 1 r (i.signExtend 64) ∧
    exec (.lih r i) s = h.gives 1 r (BitVec.ofNat 64 (d.toNat * 2 ^ 16 + i.toNat))

/-- R120, R122: the multiply and divide words, with their corners, and the bit-field words. -/
def Obligations.MultiplyDivideAndFieldWords : Prop :=
  ∀ (s : State) (h : Here) (r : Dst) (a b : Sel), s.here = some h →
    let x := h.getS a
    let y := h.getS b
    let d := h.st.sreg r.d
    let pos := bits y 5 0
    let mask : W64 := BitVec.ofNat 64 (2 ^ (bits y 13 8 + 1) - 1)
    exec (.mul r a b) s = h.gives 3 r (BitVec.ofNat 64 (x.toNat * y.toNat)) ∧
    exec (.mulh r a b) s = h.gives 3 r (BitVec.ofInt 64 (x.toInt * y.toInt / 2 ^ 64)) ∧
    exec (.mulhn r a b) s = h.gives 3 r (BitVec.ofNat 64 (x.toNat * y.toNat / 2 ^ 64)) ∧
    exec (.div r a b) s = h.gives 34 r (if y = 0 then 0xffffffffffffffff else BitVec.ofInt 64 (x.toInt.tdiv y.toInt)) ∧
    exec (.divn r a b) s = h.gives 34 r (if y = 0 then 0xffffffffffffffff else BitVec.ofNat 64 (x.toNat / y.toNat)) ∧
    exec (.rem r a b) s = h.gives 34 r (if y = 0 then x else BitVec.ofInt 64 (x.toInt - x.toInt.tdiv y.toInt * y.toInt)) ∧
    exec (.remn r a b) s = h.gives 34 r (if y = 0 then x else BitVec.ofNat 64 (x.toNat - x.toNat / y.toNat * y.toNat)) ∧
    exec (.bfx r a b) s = h.gives 1 r ((x >>> pos) &&& mask) ∧
    exec (.bfi r a b) s = h.gives 1 r ((d &&& ~~~(mask <<< pos)) ||| ((x &&& mask) <<< pos))

/-- R121: the compares and SEL. -/
def Obligations.CompareWords : Prop :=
  ∀ (s : State) (h : Here) (n : Bool) (l : Fin 4) (p q : Fin 8) (r : Dst) (a b : Sel) (inv : Bool), s.here = some h →
    let x := h.getS a
    let y := h.getS b
    exec (.cmpEq n l p a b) s = h.compares n l p (decide (x = y)) ∧
    exec (.cmpNe n l p a b) s = h.compares n l p (decide (x ≠ y)) ∧
    exec (.cmpLt n l p a b) s = h.compares n l p (decide (x.toInt < y.toInt)) ∧
    exec (.cmpLtn n l p a b) s = h.compares n l p (decide (x.toNat < y.toNat)) ∧
    exec (.cmpGe n l p a b) s = h.compares n l p (decide (y.toInt ≤ x.toInt)) ∧
    exec (.cmpGen n l p a b) s = h.compares n l p (decide (y.toNat ≤ x.toNat)) ∧
    exec (.sel r a b inv q) s = h.gives 1 r (if h.st.pred q ≠ inv then x else y)

/-- R123: scalar loads, through a register and an offset and through a stream, with their checks in order.
R123: scalar stores, through a register and an offset and through a stream, with their checks in order. -/
def Obligations.ScalarMemoryWords : Prop :=
  (∀ (s : State) (h : Here) (r : Dst) (base : Fin 32) (off : BitVec 10) (n : Fin 8), s.here = some h →
    let at_ (w : Nat) : Int := (h.st.sreg base).toInt + off.toInt * w
    let str := h.st.streamAddr n
    exec (.ld8 r base off) s = h.loads 1 r (at_ 1) ∧ exec (.ld8Stream r n) s = h.loads 1 r str ∧
    exec (.ld16 r base off) s = h.loads 2 r (at_ 2) ∧ exec (.ld16Stream r n) s = h.loads 2 r str ∧
    exec (.ld32 r base off) s = h.loads 4 r (at_ 4) ∧ exec (.ld32Stream r n) s = h.loads 4 r str ∧
    exec (.ld64 r base off) s = h.loads 8 r (at_ 8) ∧ exec (.ld64Stream r n) s = h.loads 8 r str) ∧
  (∀ (s : State) (h : Here) (d : Sel) (base : Fin 32) (off : BitVec 10) (n : Fin 8), s.here = some h →
    let at_ (w : Nat) : Int := (h.st.sreg base).toInt + off.toInt * w
    let str := h.st.streamAddr n
    let v := h.getS d
    exec (.st8 d base off) s = h.stores 1 v (at_ 1) ∧ exec (.st8Stream d n) s = h.stores 1 v str ∧
    exec (.st16 d base off) s = h.stores 2 v (at_ 2) ∧ exec (.st16Stream d n) s = h.stores 2 v str ∧
    exec (.st32 d base off) s = h.stores 4 v (at_ 4) ∧ exec (.st32Stream d n) s = h.stores 4 v str ∧
    exec (.st64 d base off) s = h.stores 8 v (at_ 8) ∧ exec (.st64Stream d n) s = h.stores 8 v str)

/-- R125, R100: the words that set staging, stream and loop registers, one cycle on; SETLB raises LOOPREG of kind 1 on a level that is
active or that the loop word of its bundle activates. -/
def Obligations.RegisterSettingWords : Prop :=
  ∀ (s : State) (h : Here) (a b : Sel) (k : Fin 32) (n : Fin 8) (j : Fin 4), s.here = some h →
    let x := h.getS a
    exec (.setk k a) s = h.becomes (h.st.fly1 h.cue 1 (.stage k x)) ∧
    exec (.seta n a) s = h.becomes (h.st.fly1 h.cue 1 (.streamBase n (x.extractLsb' 0 20))) ∧
    exec (.setd n j a) s = h.becomes (h.st.fly1 h.cue 1 (.streamDelta n j (x.extractLsb' 0 32))) ∧
    exec (.setlc j a) s = h.becomes (h.st.fly1 h.cue 1 (.loopCount j (x.extractLsb' 0 32))) ∧
    ((h.st.loops[j]).active = true ∨ h.st.xfer.activates j = true →
      exec (.setlb j a b) s = h.traps cLOOPREG (BitVec.ofNat 64 (4 + j.val))) ∧
    ((h.st.loops[j]).active = false → h.st.xfer.activates j = false →
      exec (.setlb j a b) s = h.becomes (h.st.fly1 h.cue 1 (.loopRange j (x.extractLsb' 0 11) ((h.getS b).extractLsb' 0 11))))

/-- R126, R36, R40, R41: the read words, each index with the word its table gives; an index that is not listed is ILLEGAL in its slot (03
R77). The flags are read with the cycle's arrivals (01 R13). RDDECK reads the region's deck counter, less what that counter stood off the deck
cue when the company's cue started on it (09 R235), as log 73 reads it; that RDCFG 0x60 takes the cycle's arrivals in is log 15's reading.
Selectors of the scalar and control slots (03 R74, 01 R16, R21): a register, s0 as zero; the latches of the slot and of its partner; the
constants. -/
def Obligations.ReadWordsAndSelectors : Prop :=
  (∀ (s : State) (h : Here) (r : Dst) (i : BitVec 16), s.here = some h →
    exec (.rdid r 0) s = h.gives 1 r (BitVec.ofNat 64 (tileIdOf h.t.key)) ∧
    exec (.rdid r 1) s = h.gives 1 r (BitVec.ofNat 64 ((h.gang.bin.rows - 1) * 32 + (h.gang.bin.cols - 1))) ∧
    exec (.rdid r 2) s = h.gives 1 r (BitVec.ofNat 64 h.co.num) ∧
    exec (.rdid r 3) s = h.gives 1 r (BitVec.ofNat 64 h.t.site.val) ∧
    exec (.rdid r 4) s = h.gives 1 r (BitVec.ofNat 64 h.t.region.val) ∧
    exec (.rdid r 5) s = h.gives 1 r (BitVec.ofNat 64 (h.t.row.val * 16 + h.t.col.val)) ∧
    exec (.rdid r 6) s = h.gives 1 r (BitVec.ofNat 64 h.t.grade) ∧
    (6 < i.toNat → exec (.rdid r i) s = h.traps cILLEGAL 2) ∧
    (let cfg (n : Nat) (v : W64) : Prop := exec (.rdcfg r (BitVec.ofNat 16 n)) s = h.gives 1 r v
      let st := h.st
      (∀ f : Fin 16, cfg f.val ((h.t.fmts[f]).setWidth 64)) ∧ cfg 0x10 (h.t.vctl.setWidth 64) ∧ cfg 0x11 st.ordinal ∧
      cfg 0x12 h.co.info.seed ∧ cfg 0x13 (BitVec.ofNat 64 st.mask.length) ∧ cfg 0x14 st.active ∧
      cfg 0x15 (BitVec.ofNat 64 st.rstack.length) ∧ cfg 0x16 (BitVec.ofNat 64 h.gang.base) ∧
      (∀ l : Fin 4, cfg (0x18 + l.val) ((st.loops[l]).count.setWidth 64) ∧
        cfg (0x1c + l.val) (BitVec.ofBool (st.loops[l]).active ++ 0#41 ++ (st.loops[l]).stop ++ (st.loops[l]).start) ∧
        cfg (0x20 + l.val) ((st.loops[l]).idx.setWidth 64)) ∧
      cfg 0x24 (h.t.trap.cause.setWidth 64) ∧ cfg 0x25 (h.t.trap.pc.setWidth 64) ∧ cfg 0x26 h.t.trap.info ∧
      (∀ q : Fin 4, cfg (0x28 + q.val) (h.t.trap.bundle.extractLsb' (64 * q.val) 64)) ∧
      (∀ n : Fin 8, cfg (0x30 + n.val) ((st.a[n]).base.setWidth 64) ∧
        ∀ j : Fin 4, cfg (0x40 + 4 * n.val + j.val) (((st.a[n]).d[j]).signExtend 64)) ∧
      cfg 0x60 ((st.e ||| st.arrive).setWidth 64)) ∧
    ((i.toNat = 0x17 ∨ i.toNat = 0x27 ∨ (0x2c ≤ i.toNat ∧ i.toNat ≤ 0x2f) ∨ (0x38 ≤ i.toNat ∧ i.toNat ≤ 0x3f) ∨ 0x60 < i.toNat) →
      exec (.rdcfg r i) s = h.traps cILLEGAL 2) ∧
    exec (.rdcue r) s = h.gives 1 r (BitVec.ofNat 64 h.cue) ∧
    exec (.rddeck r) s = h.gives 1 r (BitVec.ofInt 64 (((s.sites[h.t.site]).regions[h.t.region]).counterAt s.cue - h.t.skew))) ∧
  (∀ (h : Here) (r : Fin 32) (b : Fin 4),
    (r ≠ 0 → h.getS (.reg r) = h.st.s[r]) ∧ h.getS (.reg 0) = 0 ∧
    h.getS (.own b) = h.st.latS[latSIdx .s b] ∧ h.getS (.partner b) = h.st.latS[latSIdx .c b] ∧
    h.get64 .c (.own b) = h.st.latS[latSIdx .c b] ∧ h.get64 .c (.partner b) = h.st.latS[latSIdx .s b] ∧
    h.getS .zero = 0 ∧ h.getS .lane = 0 ∧
    h.getS .tileid = BitVec.ofNat 64 (tileIdOf h.t.key) ∧
    h.getS .cuelo = BitVec.ofNat 64 (h.cue % 2 ^ 32) ∧
    h.getS (.cross 0) = h.st.latS[latSIdx .xa 0] ∧ h.getS (.cross 1) = h.st.latS[latSIdx .xb 0] ∧
    h.getS (.cross 2) = low64 h.st.latV[latVIdx .f 0] ∧ h.getS (.cross 3) = low64 h.st.latV[latVIdx .f 1])

/-- A scalar result lands in its cycle and not before: its latch always, its register unless N is set; a write of s0 is discarded; nothing
else changes (01 R13, R16, R20; 03 R73).
A vector result lands under its mask: the enabled lanes of its latch and, unless N is set, of its register take the result, the others
keep what they hold; nothing else changes (01 R13, R17, R19, R20).
A predicate and a latch of a compare land one cycle on; a write of p0 is discarded, p0 reads 1 (01 R16, 04 R121).
Two results due in one cycle both land in it, in issue order: of two writes of one register the later stands, writes of different registers
both (01 R13, R14).
What SETK, SETA, SETD, SETLC and SETLB set in flight changes, as it lands, the one field the word names and nothing else (04 R100, R125); the
address of a stream is its BASE and, for each active level j, IDX(lj) times Dj, summed exactly (01 R25).
The group of a bundle is its segment and the innermost active level that covers it. Where it is the group of the bundle issued before, the latches
stay; where it is another, or none is kept (after JUMP.OV, MARK.RB, trap entry and trap return), they are cleared, latch writes in flight are dropped and
an engine's result outstanding loses its latch, and nothing else changes (01 R22). -/
def Obligations.ResultsLand : Prop :=
  (∀ (st : TState) (c lat : Nat) (r : Dst) (v : W64), st.flight = [] →
    let st' := (st.resS c lat r v).landDue (c + lat)
    (∀ q : Fin 32, st'.sreg q = if q = r.d ∧ r.n = false ∧ r.d ≠ 0 then v else st.sreg q) ∧
    (∀ x : Fin 16, st'.latS[x] = if x = latSIdx .s r.l then v else st.latS[x]) ∧
    (∀ c', c' < c + lat → (st.resS c lat r v).landDue c' = st.resS c lat r v) ∧
    st' = { st with s := st'.s, latS := st'.latS }) ∧
  (∀ (st : TState) (u : Slot) (c lat : Nat) (r : Dst) (v : Vec) (m : W64), st.flight = [] →
    let st' := (st.resV u c lat r v m).landDue (c + lat)
    (∀ (q : Fin 32) (i : Nat), i < 64 →
      lane st'.v[q] i = if q = r.d ∧ r.n = false ∧ m.getLsbD i = true then lane v i else lane st.v[q] i) ∧
    (∀ (x : Fin 16) (i : Nat), i < 64 →
      lane st'.latV[x] i = if x = latVIdx u r.l ∧ m.getLsbD i = true then lane v i else lane st.latV[x] i) ∧
    st' = { st with v := st'.v, latV := st'.latV }) ∧
  (∀ (st : TState) (c : Nat) (p q : Fin 8) (t : Bool), st.flight = [] →
    let st' := (st.fly1 c 1 (.pred p t)).landDue (c + 1)
    st'.pred q = (if q = 0 then true else if q = p then t else st.pred q) ∧ st' = { st with p := st'.p }) ∧
  (∀ (st : TState) (c lat lat' : Nat) (r r' : Dst) (v v' : W64) (u : Slot) (m m' : W64) (x y : Vec), st.flight = [] → r.n = false → r'.n = false →
    (let st' := (((st.resS c lat r v).resS (c + lat) 0 r' v').landDue (c + lat));
      (∀ q : Fin 32, q ≠ 0 → st'.sreg q = if q = r'.d then v' else if q = r.d then v else st.sreg q) ∧
      (∀ l : Fin 16, st'.latS[l] = if l = latSIdx .s r'.l then v' else if l = latSIdx .s r.l then v else st.latS[l]) ∧ st'.flight = []) ∧
    (let st' := (((st.resV u c lat r x m).resV u (c + lat) 0 r' y m').landDue (c + lat));
      (∀ (q : Fin 32) (i : Nat), i < 64 → lane st'.v[q] i = if q = r'.d ∧ m'.getLsbD i = true then lane y i
        else if q = r.d ∧ m.getLsbD i = true then lane x i else lane st.v[q] i) ∧ st'.flight = []) ∧
    (lat < lat' → let st' := (((st.resS c lat r v).resS c lat' r' v').landDue (c + lat))
      (∀ q : Fin 32, q ≠ 0 → st'.sreg q = if q = r.d then v else st.sreg q) ∧ (st'.landDue (c + lat')).sreg r'.d = if r'.d = 0 then 0 else v')) ∧
  (∀ (st : TState) (c : Nat) (k : Fin 32) (n : Fin 8) (j : Fin 4) (x : W64) (a : BitVec 20) (w : W32) (lo hi : BitVec 11), st.flight = [] →
    let lands (e : Eff) : TState := (st.fly1 c 1 e).landDue (c + 1)
    (let u := lands (.stage k x);
      (∀ i : Fin 32, u.k[i] = if i = k then x else st.k[i]) ∧ u = { st with k := u.k }) ∧
    (let u := lands (.streamBase n a);
      (∀ i : Fin 8, u.a[i] = if i = n then ⟨a, (st.a[n]).d⟩ else st.a[i]) ∧ u = { st with a := u.a }) ∧
    (let u := lands (.streamDelta n j w);
      (∀ i : Fin 8, (u.a[i]).base = (st.a[i]).base ∧ ∀ l : Fin 4, (u.a[i]).d[l] = if i = n ∧ l = j then w else (st.a[i]).d[l]) ∧ u = { st with a := u.a }) ∧
    (let u := lands (.loopCount j w);
      (∀ l : Fin 4, u.loops[l] = if l = j then { st.loops[j] with count := w } else st.loops[l]) ∧ u = { st with loops := u.loops }) ∧
    (let u := lands (.loopRange j lo hi);
      (∀ l : Fin 4, u.loops[l] = if l = j then { st.loops[j] with start := lo, stop := hi } else st.loops[l]) ∧ u = { st with loops := u.loops }) ∧
    (let part (l : Fin 4) : Int := if (st.loops[l]).active then ((st.loops[l]).idx.toNat : Int) * ((st.a[n]).d[l]).toInt else 0;
      st.streamAddr n = ((st.a[n]).base.toNat : Int) + part 0 + part 1 + part 2 + part 3)) ∧
  (∀ st : TState,
    (st.groupOf).seg = st.segs[st.half] ∧
    (∀ l, (st.groupOf).level = some l ↔ ∃ a b, st.nest = a ++ l :: b ∧ (st.loops[l]).covers st.pc = true ∧ ∀ m ∈ a, (st.loops[m]).covers st.pc = false) ∧
    (st.lastGroup = some st.groupOf → st.beforeBundle = st) ∧
    (st.lastGroup ≠ some st.groupOf →
      let u := st.beforeBundle;
      (∀ l : Fin 16, u.latS[l] = 0 ∧ u.latV[l] = 0) ∧
      (∀ f, f ∈ u.flight ↔ f ∈ st.flight ∧ (∀ x b v, f.eff ≠ .latS x b v) ∧ ∀ x b v m, f.eff ≠ .latV x b v m) ∧ u.flight.Sublist st.flight ∧
      u.wheel = st.wheel.map (fun w => { w with lat := none }) ∧ u.mbQ = st.mbQ.map (fun w => { w with lat := none }) ∧
      u = { st with latS := u.latS, latV := u.latV, flight := u.flight, wheel := u.wheel, mbQ := u.mbQ }))

/-- A store lands at its address: the bytes of [a, a + w) are those of the value, little-endian; every other byte of the scratchpad reads
as before, and the canonical form is kept (02 R44; 04 R123).
A load reads what a store of the same width to the same address wrote (04 R123, 02 R44). -/
def Obligations.StoresAndLoads : Prop :=
  (∀ (st : TState) (c lat w a n x : Nat), st.flight = [] → memWf st.spad = true →
    let st' := (st.fly1 c lat (.store (cellsAt a (leBytes w n)))).landDue (c + lat)
    memGet st'.spad x = (if a ≤ x ∧ x < a + w then BitVec.ofNat 8 (n / 256 ^ (x - a)) else memGet st.spad x) ∧
    memWf st'.spad = true ∧ st' = { st with spad := st'.spad }) ∧
  (∀ (m : Memory) (a w n : Nat), memWf m = true → memNat (memPutAll m (cellsAt a (leBytes w n))) a w = n % 256 ^ w)

/-! ### Control words, traps -/

/-- R101, R102, R79: branches, CALL and RET at a legal target, in every case of their conditions; STACK at the ends of the return stack; a
target that breaks R79 is ILLEGAL in the control slot. A guarded transfer that is taken, and BRZ and BRNZ either way, enter local state (09 R240); that a
BRP not taken leaves the tile as it is is log 14's reading. -/
def Obligations.TransferWords : Prop :=
  ∀ (s : State) (h : Here) (g : Guard) (nz : Bool) (k : Fin 32) (t : BitVec 11), s.here = some h →
    (∀ a, h.target t = some a →
      exec (.br t) s = h.becomes { h.st with xfer := .branch a } ∧
      (h.passes g = true → exec (.brp g t) s = h.becomes (h.enterLocal { h.st with xfer := .branch a })) ∧
      (h.passes g = false → exec (.brp g t) s = h.becomes h.st) ∧
      (((h.st.sreg k = 0) ↔ nz = false) → exec (.brz nz k t) s = h.becomes (h.enterLocal { h.st with xfer := .branch a })) ∧
      (((h.st.sreg k = 0) ↔ nz = true) → exec (.brz nz k t) s = h.becomes (h.enterLocal h.st)) ∧
      (h.passes g = true → h.st.rstack.length < 8 → exec (.call g t) s = h.becomes (h.guardedLocal g { h.st with xfer := .call a })) ∧
      (h.passes g = true → 8 ≤ h.st.rstack.length → exec (.call g t) s = h.traps cSTACK 0) ∧
      (h.passes g = false → exec (.call g t) s = h.becomes h.st)) ∧
    (h.target t = none → exec (.br t) s = h.traps cILLEGAL 1 ∧ exec (.brp g t) s = h.traps cILLEGAL 1 ∧
      exec (.brz nz k t) s = h.traps cILLEGAL 1 ∧ exec (.call g t) s = h.traps cILLEGAL 1) ∧
    (h.passes g = true → h.st.rstack ≠ [] → exec (.ret g) s = h.becomes (h.guardedLocal g { h.st with xfer := .ret })) ∧
    (h.passes g = true → h.st.rstack = [] → exec (.ret g) s = h.traps cSTACK 2) ∧
    (h.passes g = false → exec (.ret g) s = h.becomes h.st)

/-- R97, R98: the loop words at a legal END after them, on a level that is not active and outside the END of any level; a count of zero
is a transfer past END.
R97, R98, R116: LOOPREG of the loop words, with the lowest kind that holds: 0 on an active level, 2 for REPLAY inside REPLAY, 3 in the END
bundle of a level. An END that is not past the word's own bundle, or lies past the segment, is ILLEGAL (03 R79). -/
def Obligations.LoopWords : Prop :=
  (∀ (s : State) (h : Here) (lv : Fin 4) (x : BitVec 12) (st : Fin 8) (k : Fin 32) (t : BitVec 11) (e : Nat), s.here = some h →
    h.target t = some e → h.st.pc < e → e < h.st.base + h.t.segLen → (h.st.loops[lv]).active = false → (∀ l ∈ h.st.nest, (h.st.loops[l]).stop.toNat ≠ h.st.pc) →
    let stop := BitVec.ofNat 11 e
    let n := (h.st.sreg k).toNat % 2 ^ 32
    let m := (h.st.sreg k).toNat % 2 ^ 28
    (x ≠ 0 → exec (.loop lv x t) s = h.becomes { h.st with xfer := .loop lv (BitVec.ofNat 32 (x.toNat - 1)) stop 0 }) ∧
    (n ≠ 0 → exec (.loops lv k t) s = h.becomes { h.st with xfer := .loop lv (BitVec.ofNat 32 (n - 1)) stop 0 }) ∧
    (n = 0 → exec (.loops lv k t) s = h.becomes { h.st with xfer := .branch (e + 1) }) ∧
    ((∀ l ∈ h.st.nest, (h.st.loops[l]).stages = 0) →
      (m ≠ 0 → exec (.replay lv st k t) s =
        h.becomes { h.st with xfer := .loop lv (BitVec.ofNat 32 (m + (st.val + 1) - 2)) stop (st.val + 1) }) ∧
      (m = 0 → exec (.replay lv st k t) s = h.becomes { h.st with xfer := .branch (e + 1) }))) ∧
  (∀ (s : State) (h : Here) (lv : Fin 4) (x : BitVec 12) (st : Fin 8) (k : Fin 32) (t : BitVec 11) (e : Nat), s.here = some h →
    h.target t = some e →
    (e ≤ h.st.pc ∨ h.st.base + h.t.segLen ≤ e → ∀ i ∈ [Instr.loop lv x t, .loops lv k t, .replay lv st k t], exec i s = h.traps cILLEGAL 1) ∧
    (h.st.pc < e → e < h.st.base + h.t.segLen →
    let traps (i : Instr) (kind : Nat) := exec i s = h.traps cLOOPREG (BitVec.ofNat 64 (kind * 4 + lv.val))
    ((h.st.loops[lv]).active = true → traps (.loop lv x t) 0 ∧ traps (.loops lv k t) 0 ∧ traps (.replay lv st k t) 0) ∧
    ((h.st.loops[lv]).active = false → (∃ l ∈ h.st.nest, (h.st.loops[l]).stages ≠ 0) → traps (.replay lv st k t) 2) ∧
    ((h.st.loops[lv]).active = false → (∃ l ∈ h.st.nest, (h.st.loops[l]).stop.toNat = h.st.pc) →
      traps (.loop lv x t) 3 ∧ traps (.loops lv k t) 3 ∧
      ((∀ l ∈ h.st.nest, (h.st.loops[l]).stages = 0) → traps (.replay lv st k t) 3))))

/-- R96: the next address. Past a bundle that is the END of no level it is one on; the innermost level that ends there runs again while its
COUNT is not zero, and is left, IDX kept, when it is; of several levels that end at one bundle those with COUNT zero are left, innermost first, up to
the first that runs again; a taken transfer leaves every level that covers the bundle and not the target and
steps no level. R97: a loop word activates its level innermost, START after the word, IDX zero. R102: CALL pushes the address after it, RET
pops; past the last address the pushed one begins at zero again: the model's choice (log 79).
04 R113, R114: JUMP.OV enters the requested segment at its offset in the other half: every loop level is left with IDX kept, q is zero, the return
stack and the request are gone, and a new group begins. HALT stops issue after its bundle: what is in flight and the engine commands stay, and a halted
tile issues nothing more.
04 R98, R99; 01 R26: REPLAY of S stages over n iterations starts with q0 alone; in pass i the COUNT is n + S − 2 − i and qj is set just where
stage j works on an iteration, 0 ≤ i − j < n, and each END step that loops back keeps this; q is zero once the level is left. In replay mode a guard
reads q, outside p. -/
def Obligations.NextAddress : Prop :=
  (∀ (st : TState) (c : Nat),
    ((∀ l ∈ st.nest, (st.loops[l]).stop.toNat ≠ st.pc) → (st.leaveBundle c .none).pc = st.pc + 1 ∧ (st.leaveBundle c .none).loops = st.loops) ∧
    (∀ (l : Fin 4) (r : List (Fin 4)), st.nest = l :: r → (st.loops[l]).stop.toNat = st.pc → (st.loops[l]).count ≠ 0 →
      let u := st.leaveBundle c .none
      u.pc = (st.loops[l]).start.toNat ∧ u.nest = st.nest ∧
      u.loops = st.loops.set l { st.loops[l] with count := (st.loops[l]).count - 1, idx := (st.loops[l]).idx + 1 }) ∧
    (∀ l : Fin 4, st.nest = [l] → (st.loops[l]).stop.toNat = st.pc → (st.loops[l]).count = 0 →
      let u := st.leaveBundle c .none
      u.pc = st.pc + 1 ∧ u.nest = [] ∧ u.loops = st.loops.set l { st.loops[l] with active := false }) ∧
    (∀ (ls : List (Fin 4)) (r : List (Fin 4)), st.nest = ls ++ r → st.nest.Nodup →
      (∀ l ∈ ls, (st.loops[l]).stop.toNat = st.pc ∧ (st.loops[l]).count = 0) →
      (∀ l r', r = l :: r' → (st.loops[l]).stop.toNat = st.pc → (st.loops[l]).count ≠ 0 →
        let u := st.leaveBundle c .none
        u.pc = (st.loops[l]).start.toNat ∧ u.nest = r ∧ ∀ j : Fin 4, u.loops[j] =
          if j = l then { st.loops[l] with count := (st.loops[l]).count - 1, idx := (st.loops[l]).idx + 1 }
          else { st.loops[j] with active := (st.loops[j]).active && !decide (j ∈ ls) }) ∧
      ((∀ l ∈ r, (st.loops[l]).stop.toNat ≠ st.pc) →
        let u := st.leaveBundle c .none
        u.pc = st.pc + 1 ∧ u.nest = r ∧ ∀ j : Fin 4, u.loops[j] = { st.loops[j] with active := (st.loops[j]).active && !decide (j ∈ ls) })) ∧
    (∀ t : Nat,
      let u := st.leaveBundle c (.branch t)
      u.pc = t ∧ ∀ j : Fin 4, u.loops[j] = { st.loops[j] with
        active := (st.loops[j]).active && !(decide (j ∈ st.nest) && (st.loops[j]).covers st.pc && !(st.loops[j]).covers t) }) ∧
    (∀ (lv : Fin 4) (n : W32) (stop : BitVec 11) (stages : Nat), (∀ l ∈ st.nest, (st.loops[l]).stop.toNat ≠ st.pc) → lv ∉ st.nest →
      stop.toNat ≠ st.pc →
      let u := st.leaveBundle c (.loop lv n stop stages)
      u.pc = st.pc + 1 ∧ u.nest = lv :: st.nest ∧ u.loops = st.loops.set lv ⟨true, BitVec.ofNat 11 (st.pc + 1), stop, n, 0, stages⟩) ∧
    (∀ t : Nat, (st.leaveBundle c (.call t)).pc = t ∧ (st.leaveBundle c (.call t)).rstack = BitVec.ofNat 11 (st.pc + 1) :: st.rstack) ∧
    (∀ (a : BitVec 11) (r : List (BitVec 11)), st.rstack = a :: r →
      (st.leaveBundle c .ret).pc = a.toNat ∧ (st.leaveBundle c .ret).rstack = r ∧ (st.leaveBundle c .ret).loops = st.loops ∧
      (st.leaveBundle c .ret).popped = true)) ∧
  ((∀ (st : TState) (c : Nat) (t : BitVec 11), let u := st.leaveBundle c (.jumpOv t);
    u.half ≠ st.half ∧ u.pc = 1024 * u.half.val + t.toNat ∧ (∀ l : Fin 4, u.loops[l] = { st.loops[l] with active := false }) ∧
    u.nest = [] ∧ u.q = 0 ∧ u.rstack = [] ∧ u.ovl = none ∧ u.lastGroup = none ∧
    u = { st with
      half := u.half, pc := u.pc, loops := u.loops, nest := [], q := 0, rstack := [], ovl := none, lastGroup := none
      localSince := st.localNext.getD st.localSince, localNext := none, xfer := .none }) ∧
  (∀ (st : TState) (c : Nat), (∀ l ∈ st.nest, (st.loops[l]).stop.toNat ≠ st.pc) →
    st.leaveBundle c .halt = { st with
      pc := st.pc + 1, halted := true, wait := .none, localSince := st.localNext.getD st.localSince, localNext := none, xfer := .none }) ∧
  (∀ (s : State) (k : TileKey) (h : Here), s.hereAt k = some h → h.st.halted = true → exec (.sequencerIssue k) s = .next s)) ∧
  (∀ (st : TState) (c : Nat) (lv : Fin 4) (r : List (Fin 4)) (n S i : Nat),
    (∀ (x : W32) (stop : BitVec 11), S ≠ 0 → (∀ l ∈ st.nest, (st.loops[l]).stop.toNat ≠ st.pc) → stop.toNat ≠ st.pc →
      (st.leaveBundle c (.loop lv x stop S)).q = 1) ∧
    (st.nest = lv :: r → (st.loops[lv]).stop.toNat = st.pc → (st.loops[lv]).stages = S → 0 < S → 0 < n → n + S < 2 ^ 32 →
      (i + 2 < n + S → (st.loops[lv]).count.toNat = n + S - 2 - i → (∀ j < 8, st.q.getLsbD j = true ↔ j ≤ i ∧ i < n + j) →
        let u := st.leaveBundle c .none
        (u.loops[lv]).count.toNat = n + S - 2 - (i + 1) ∧ (u.loops[lv]).stages = S ∧ ∀ j < 8, u.q.getLsbD j = true ↔ j ≤ i + 1 ∧ i + 1 < n + j) ∧
      ((st.loops[lv]).count = 0 → (∀ l ∈ r, (st.loops[l]).stop.toNat ≠ st.pc) → (st.leaveBundle c .none).q = 0)) ∧
    (∀ t : Nat, lv ∈ st.nest → (st.loops[lv]).stages ≠ 0 → (st.loops[lv]).covers st.pc = true → (st.loops[lv]).covers t = false →
      (st.leaveBundle c (.branch t)).q = 0) ∧
    (∀ (h : Here) (g : Guard), (h.st.replayMode = true ↔ ∃ l ∈ h.st.nest, (h.st.loops[l]).stages ≠ 0 ∧ (h.st.loops[l]).covers h.st.pc = true) ∧
      (h.st.replayMode = true → (h.passes g = true ↔ h.st.q.getLsbD g.p ≠ g.inv)) ∧
      (h.st.replayMode = false → (h.passes g = true ↔ h.st.pred g.p ≠ g.inv))))

/-- R103, R104, R106, R107: the waits. A target of a WAITCUE or JOIN that is not ahead raises DEADLINE with the cycles by which it was passed;
JOIN ends local state, and in the handler returns from it (11 R295); WAITE and WAITOWN enter it (09 R240). Cues are 64-bit counts (00 R4). The field of
tinfo holds the cycles modulo 2^40: the model's choice (log 80). -/
def Obligations.WaitWords : Prop :=
  ∀ (s : State) (h : Here) (a : Sel) (imm : BitVec 16) (j : Fin 16) (u : Fin 256), s.here = some h →
    let t := (h.get64 .c a).toNat
    let c := h.cue % 2 ^ 64
    let at_ := h.cue + (t - c)
    let b := 16 * imm.toNat
    (c < t → exec (.waitcue a) s = h.becomes { h.st with wait := .until at_ false }) ∧
    (t ≤ c → exec (.waitcue a) s = h.traps cDEADLINE (BitVec.ofNat 64 (1 * 2 ^ 60 + (c - t) % 2 ^ 40))) ∧
    (c < t → h.st.handler = false → exec (.join a) s = h.becomes { h.st with wait := .until at_ false, localNext := some none }) ∧
    (c < t → h.st.handler = true → exec (.join a) s = h.becomes { h.st with xfer := .trapReturn at_ }) ∧
    (t ≤ c → exec (.join a) s = h.traps cDEADLINE (BitVec.ofNat 64 (2 * 2 ^ 60 + (c - t) % 2 ^ 40))) ∧
    exec (.waitrel imm) s = h.becomes { h.st with wait := .until (h.cue + imm.toNat) true } ∧
    exec (.waite j imm) s = h.becomes (h.enterLocal { h.st with wait := .event j (h.cue + b) b }) ∧
    exec (.waitown u imm) s = h.becomes (h.enterLocal { h.st with wait := .owner u (h.cue + b) b })

/-- R71, R108, R109, R110, R112, R114: NOP, HALT, CLRE, SIGNAL, SKIPM, the overlay words and MARK.RB where they are in place; MARK.RB outside a
boundary of the book, in local state or in the handler raises DEADLINE of kind 6 (09 R247, R240; 11 R294). JUMP.OV before the overlay event raises ILLEGAL
with the bit of the flow rule, and takes a target of the segment alone (04 R113, 09 R245, 03 R79).
R115: TRAP raises USER with its code, whatever else holds. -/
def Obligations.OtherControlWords : Prop :=
  (∀ (s : State) (h : Here) (imm : BitVec 16) (j : Fin 16) (n t : BitVec 11) (o : OvlReq), s.here = some h →
    exec .nop s = h.becomes h.st ∧
    exec .halt s = h.becomes { h.st with xfer := .halt, localNext := some none } ∧
    exec (.clre imm) s = h.becomes { h.st with clre := h.st.clre ||| imm } ∧
    exec (.signal j) s = h.becomes { h.st with signals := h.st.signals ++ [(h.cue + 64, j)] } ∧
    (h.st.active ≠ 0 → exec (.skipm n) s = h.becomes h.st) ∧
    (h.st.active = 0 → exec (.skipm n) s = h.becomes { h.st with skip := n.toNat }) ∧
    (h.st.handler = false → h.st.localSince = none → boundaryAt h.co h.cue = true → exec .markRb s = h.becomes { h.st with xfer := .markRb }) ∧
    (h.st.handler = true ∨ h.st.localSince ≠ none ∨ boundaryAt h.co h.cue = false →
      exec .markRb s = h.traps cDEADLINE (BitVec.ofNat 64 (6 * 2 ^ 60 + h.cue % 2 ^ 40))) ∧
    (h.overlaid = true → h.st.handler = false →
      (h.co.info.hasSegment imm = true →
        exec (.markOv imm) s = h.becomes { h.st with ovl := some ⟨imm, h.cue + 4096, false, false⟩ }) ∧
      (h.st.ovl = some o → o.entry ≤ h.cue → t.toNat < 1024 → exec (.jumpOv t) s = h.becomes { h.st with xfer := .jumpOv t }) ∧
      (h.st.ovl = some o → h.cue < o.entry → t.toNat < 1024 → exec (.jumpOv t) s = h.traps cILLEGAL 0x100) ∧
      (h.st.ovl = none → t.toNat < 1024 → exec (.jumpOv t) s = h.traps cILLEGAL 0x100)) ∧
    (h.overlaid = true → h.st.handler = true →
      (h.co.info.hasSegment imm = true → exec (.markOv imm) s = h.traps cILLEGAL 0x100) ∧
      (t.toNat < 1024 → exec (.jumpOv t) s = h.traps cILLEGAL 0x100)) ∧
    (h.overlaid = false ∨ h.co.info.hasSegment imm = false → exec (.markOv imm) s = h.traps cILLEGAL 1) ∧
    (h.overlaid = false ∨ 1024 ≤ t.toNat → exec (.jumpOv t) s = h.traps cILLEGAL 1)) ∧
  (∀ (s : State) (h : Here) (imm : BitVec 16), s.here = some h → exec (.trap imm) s = h.traps cUSER (imm.setWidth 64))

/-- R289, R293: a tile with a handler, outside handler mode, takes a cause that is not final: cause, place, information and bundle are
recorded, the return address is kept, local state begins, the skip count goes, and the bundle at the handler issues next; nothing outside
the tile changes. For a trap at issue the next address is formed first. Where no bundle stands at the address, the bundle recorded is zero:
the model's choice (log 55).
R289, R294, R298: where no handler can take it, the cause ends the launch: the tile issues nothing more, and the company keeps the first
cause that ended it, the one it has already if it has one.
R295: the return from a handler: handler mode and local state end, and the bundle at the return address issues at the target and begins a
group.
04 R111, 09 R247, R248: MARK.RB marks its tile with its cue and the bundle after it begins a group; as the cycle of a boundary ends, every tile's image
is its state as reads of the next bundle see it, with what is in flight and without its latches, skips or the words still in its crossings, which stand in
their receivers' replay buffers (08 R219); the writes in the gate are sealed as one interval from this cue, but those that a module past its loss
held.
11 R296, R289, R293; 09 R249: a tile that marks its boundary with causes pending takes the one of the highest priority, with the place of its MARK.RB
bundle and the whole set in tinfo, records the trap state beside the image, and clears the set; ROUTE_LOST clears the status words. -/
def Obligations.TrapEntryAndReturn : Prop :=
  (∀ (h : Here) (atIssue : Bool) (code : BitVec 8) (info : W64) (hd : BitVec 11),
    h.co.info.handler = some hd → finalCause code info = false → h.st.handler = false →
    let st := if atIssue then h.st.stepOn else h.st
    h.takeTrap atIssue code info = h.s.setTile { h.t with
      trap := (if atIssue then ⟨code, tpcOf h.st.segs[h.st.half] h.st.pc, info, (h.t.bundleAt h.st.pc).getD 0⟩
        else ⟨code, tpcOf h.st.lastSeg h.st.lastAddr, info, h.st.lastBundle⟩)
      st := { st with
        retAddr := st.pc, handler := true, localSince := some (st.localSince.getD h.cue), skip := 0, wait := .none, xfer := .none
        pc := 1024 * st.half.val + hd.toNat, lastGroup := none } }) ∧
  (∀ (h : Here) (atIssue : Bool) (code : BitVec 8) (info : W64),
    h.s.tileAt h.t.key = some h.t → h.s.coAt h.co.num = some h.co →
    h.co.info.handler = none ∨ finalCause code info = true ∨ h.st.handler = true →
    let u := h.takeTrap atIssue code info
    (∃ t, u.tileAt h.t.key = some t ∧ t.st.halted = true ∧ t.trap.cause = code ∧ t.trap.info = info) ∧
    (h.co.fatal = none → ∃ c f, u.coAt h.co.num = some c ∧ c.fatal = some f ∧ f.code = code ∧ f.info = info ∧ f.tile = some h.t.key ∧
      f.since = h.s.cue) ∧
    (∀ f, h.co.fatal = some f → u.coAt h.co.num = some h.co) ∧
    u.mem = h.s.mem ∧ u.sites = h.s.sites ∧ u.weights = h.s.weights) ∧
  (∀ (st : TState) (c t : Nat), (∀ l ∈ st.nest, (st.loops[l]).stop.toNat ≠ st.pc) →
    st.leaveBundle c (.trapReturn t) = { st with
      handler := false, localSince := none, localNext := none, xfer := .none, pc := st.retAddr, wait := .until t false, lastGroup := none }) ∧
  ((∀ (st : TState) (c : Nat), (∀ l ∈ st.nest, (st.loops[l]).stop.toNat ≠ st.pc) → st.localNext = none →
    st.leaveBundle c .markRb = { st with pc := st.pc + 1, marked := some c, lastGroup := none, xfer := .none }) ∧
  (∀ st : TState, let u := st.image;
    (∀ l : Fin 16, u.latS[l] = 0 ∧ u.latV[l] = 0) ∧
    (∀ f, f ∈ u.flight ↔ f ∈ st.flight ∧ (∀ x b v, f.eff ≠ .latS x b v) ∧ ∀ x b v m, f.eff ≠ .latV x b v m) ∧
    u = { st with latS := u.latS, latV := u.latV, flight := u.flight, wheel := u.wheel, mbQ := u.mbQ, skip := 0 }) ∧
  (∀ (s : State) (c : Company), let d := s.seal c;
    (∀ w, w ∈ d.gateOpen ↔ w ∈ c.gateOpen ∧ s.pastLoss w.site = true) ∧
    ((∀ w ∈ c.gateOpen, s.pastLoss w.site = true) → d = c) ∧
    ((∃ w ∈ c.gateOpen, s.pastLoss w.site = false) →
      ∃ ws, ws.Sublist c.gateOpen ∧ (∀ w, w ∈ ws ↔ w ∈ c.gateOpen ∧ s.pastLoss w.site = false) ∧
        d = { c with gateSealed := c.gateSealed ++ [⟨c.cue, false, ws⟩], gateOpen := d.gateOpen })) ∧
  (∀ (s : State) (c : Company), s.coAt c.num = some c →
    let u := s.closeBoundary c.num
    (∀ k t, s.tileAt k = some t → k.co = c.num → t.lost = false → ∃ t', u.tileAt k = some t' ∧ t'.img = (s.drained c t).image ∧ t'.imgBad = false) ∧
    (∀ k t, s.tileAt k = some t → k.co ≠ c.num → u.tileAt k = some t) ∧
    ((∀ t ∈ s.tilesOf c.num, t.pend.any = false) →
      u.coAt c.num = some { s.seal c with lastB := c.cue, sameB := 0, imgRounds := c.rounds } ∧
      (∀ k t, s.tileAt k = some t → k.co = c.num → t.lost = false →
        u.tileAt k = some { t with img := (s.drained c t).image, imgTrap := none, imgBad := false }) ∧
      u = { s with tiles := u.tiles, companies := u.companies }))) ∧
  ((∀ t : Tile, let p := t.pend
    let f := (if p.siteLost then 1 else 0) + (if p.regionLost then 2 else 0) + (if p.islandLost then 4 else 0) + (if p.routeLost then 8 else 0) +
      (if p.hole then 16 else 0)
    let with_ (x : Nat) : W64 := BitVec.ofNat 64 (f * 2 ^ 56 + x)
    (p.siteLost = true → t.boundaryCause = (cSITE, with_ p.sites.toNat)) ∧
    (p.siteLost = false → p.regionLost = true → t.boundaryCause = (cREGION, with_ p.region.toNat)) ∧
    (p.siteLost = false → p.regionLost = false → p.islandLost = true → t.boundaryCause = (cISLAND, with_ p.island.toNat)) ∧
    (p.siteLost = false → p.regionLost = false → p.islandLost = false → p.routeLost = true → t.boundaryCause = (cROUTE, with_ t.routeInfo)) ∧
    (p.siteLost = false → p.regionLost = false → p.islandLost = false → p.routeLost = false → p.hole = true →
      (p.holeAddr = none → t.boundaryCause = (cHOLE, with_ 0)) ∧
      ∀ a, p.holeAddr = some a → t.boundaryCause = (cHOLE, with_ (2 ^ 48 + a.toNat)))) ∧
  (∀ (s : State) (k : TileKey) (h : Here) (hd : BitVec 11), s.hereAt k = some h →
    (h.t.pend.any = false → s.deliver k = s) ∧
    (h.t.pend.any = true → h.co.info.handler = some hd → h.st.handler = false →
      ∃ t, (s.deliver k).tileAt k = some t ∧
        t.trap = ⟨h.t.boundaryCause.1, tpcOf h.st.lastSeg h.st.lastAddr, h.t.boundaryCause.2, h.st.lastBundle⟩ ∧
        t.imgTrap = some t.trap ∧ t.pend = Pending.launch ∧ t.img = h.t.img ∧ t.st = h.st.enterHandler h.cue hd.toNat ∧
        t.status = if h.t.boundaryCause.1 = cROUTE then Vector.replicate 4 SideStatus.launch else h.t.status)))

/-- R291, R78: of several causes one bundle raises, ILLEGAL is taken with every slot that raised it named; otherwise the cause of the highest
priority, the lowest slot among equals. -/
def Obligations.CausePriority : Prop :=
  ∀ rs : List Raise, rs ≠ [] →
    ((∃ x ∈ rs, x.code = cILLEGAL) →
      ∃ i, takenCause rs = some (cILLEGAL, i) ∧ ∀ n < 64, i.getLsbD n = rs.any fun x => x.code == cILLEGAL && x.info.getLsbD n) ∧
    ((∀ x ∈ rs, x.code ≠ cILLEGAL) →
      ∃ (a b : List Raise) (x : Raise), rs = a ++ x :: b ∧ takenCause rs = some (x.code, x.info) ∧
        (∀ y ∈ a, priority x.code < priority y.code) ∧ (∀ y ∈ b, priority x.code ≤ priority y.code))

/-- R80, R293, R289: where a word of the bundle at a tile's address raises a cause, no word takes effect: the tile takes the cause from the state in
which the bundle began, or, where that has no higher priority than DEADLINE, the DEADLINE of kind 7 or 5 that the tile raises in the same cycle (11
R289). That these go before a DEADLINE of another kind raised at issue, and kind 7 before kind 5, is the model's choice (log 94).
R110: a suppressed bundle advances as eight NOPs do, counts in the ordinal, and takes one off the skip count. -/
def Obligations.BundleUndoneOrSuppressed : Prop :=
  (∀ (s : State) (k : TileKey) (h₀ h0 : Here) (b : Bundle) (c : BitVec 8 × W64), s.hereAt k = some h₀ → h₀.issues = true →
    let h := h₀.enterPopped
    h.t.bundleAt h.st.pc = some b → h.st.skip = 0 →
    let s0 : State := { h.put h.st.beforeBundle with focus := h.t.key, raised := none }
    s0.hereAt h.t.key = some h0 → takenCause (issueSlots b slots s0 []).2 = some c →
    let b := h0.cue - 1
    let missed : Prop := 0 < h0.cue ∧ boundaryAt h0.co b = true ∧ h0.gang.base ≤ b ∧ h0.st.marked ≠ some b
    (priority c.1 < priority cDEADLINE ∨ (¬missed ∧ ∀ e, h0.st.localSince = some e → h0.cue ≤ e + h0.gang.bin.localLimit) →
      exec (.sequencerIssue k) s = .next (h0.takeTrap true c.1 c.2)) ∧
    (priority cDEADLINE ≤ priority c.1 → missed →
      exec (.sequencerIssue k) s = .next (h0.takeTrap false cDEADLINE (BitVec.ofNat 64 (7 * 2 ^ 60 + b % 2 ^ 40)))) ∧
    (priority cDEADLINE ≤ priority c.1 → ¬missed → ∀ e, h0.st.localSince = some e → e + h0.gang.bin.localLimit < h0.cue →
      exec (.sequencerIssue k) s = .next (h0.takeTrap false cDEADLINE (BitVec.ofNat 64 (5 * 2 ^ 60 + (h0.cue - e) % 2 ^ 40))))) ∧
  (∀ (s : State) (k : TileKey) (h₀ : Here) (b : Bundle), s.hereAt k = some h₀ → h₀.issues = true →
    let h := h₀.enterPopped
    h.t.bundleAt h.st.pc = some b → 0 < h.st.skip →
    ∃ st, exec (.sequencerIssue k) s = .next (h.put st) ∧ st.skip = h.st.skip - 1 ∧ st.ordinal = h.st.ordinal + 1 ∧
      st.pc = (h.st.stepOn).pc ∧ st.loops = (h.st.stepOn).loops ∧ st.s = h.st.s ∧ st.v = h.st.v ∧ st.spad = h.st.spad ∧ st.wait = h.st.wait)

/-- R103, R104, R106, R107: the samples that end a wait.
R106, R107, R116; 09 R241, R247: the deadlines of the waits, of local state and of a missing boundary are taken as causes after issue. A tile that
has taken another cause in this cycle and stands at its handler takes the last two in none but a later cycle (11 R289: USER goes before; a tie of kinds:
log 94). A tile that halts by the check counts as having marked (log 95).
04 R106: within a cycle the flags named by CLRE are cleared first and then every arrival is set, so an arrival in the cycle of a CLRE stays; both are
spent. This is done in every tile after the cycle's issue and engine work and before its samples. -/
def Obligations.WaitsAndDeadlines : Prop :=
  (∀ (s : State) (k : TileKey) (h : Here), s.hereAt k = some h → h.alive = true →
    let ends (i : Instr) := exec i s = .next (h.put { h.st with wait := .none })
    (∀ t, h.st.wait = .until t false → t ≤ h.cue → ends (.waitcueTargetReached k)) ∧
    (∀ t, h.st.wait = .until t true → t ≤ h.cue → ends (.waitrelExpiry k)) ∧
    (∀ j last b, h.st.wait = .event j last b → h.cue ≤ last → h.st.e.getLsbD j.val = true → ends (.waiteWake k)) ∧
    (∀ u last b, h.st.wait = .owner u last b → h.cue ≤ last → h.st.owner u.val = ownCore → ends (.waitownWake k))) ∧
  (∀ (s : State) (k : TileKey) (h : Here), s.hereAt k = some h → h.alive = true →
    let takes (i : Instr) (info : Nat) := exec i s = .next (h.takeTrap false cDEADLINE (BitVec.ofNat 64 info))
    (∀ j last b, h.st.wait = .event j last b → last < h.cue → takes (.waiteDeadline k) (3 * 2 ^ 60 + j.val * 2 ^ 40 + b % 2 ^ 40)) ∧
    (∀ u last b, h.st.wait = .owner u last b → last < h.cue → takes (.waitownDeadline k) (4 * 2 ^ 60 + u.val * 2 ^ 40 + b % 2 ^ 40)) ∧
    (∀ c, h.st.localSince = some c → c + h.gang.bin.localLimit < h.cue →
      ((h.st.handler = true → h.st.lastGroup ≠ none) → takes (.localLimitDeadline k) (5 * 2 ^ 60 + (h.cue - c) % 2 ^ 40)) ∧
      (h.st.handler = true → h.st.lastGroup = none → exec (.localLimitDeadline k) s = .next s)) ∧
    (0 < h.cue → boundaryAt h.co (h.cue - 1) = true → h.gang.base ≤ h.cue - 1 → h.st.marked ≠ some (h.cue - 1) →
      ((h.st.handler = true → h.st.lastGroup ≠ none) → takes (.missingMarkRb k) (7 * 2 ^ 60 + (h.cue - 1) % 2 ^ 40)) ∧
      (h.st.handler = true → h.st.lastGroup = none → exec (.missingMarkRb k) s = .next s))) ∧
  ((∀ (st : TState) (j : Nat), let u := st.settleFlags;
    (u.e.getLsbD j = true ↔ st.arrive.getLsbD j = true ∨ (st.e.getLsbD j = true ∧ st.clre.getLsbD j = false)) ∧
    u.clre = 0 ∧ u.arrive = 0 ∧ u = { st with e := u.e, clre := 0, arrive := 0 }) ∧
  (∀ (s t : State), s.agenda = [] → s.stopped = false → s.phase = .work → s.inputs = [] → step s = .next t →
    t.tiles = s.tiles.map (fun x => { x with st := x.st.settleFlags }) ∧ t.phase = .sample ∧ t.agenda = s.settle.sampleEvents))

/-! ### Vector and matrix words -/

/-- R130: the lane-wise integer words, in whichever vector slot they issue, under the active mask. -/
def Obligations.VectorIntegerWords : Prop :=
  ∀ (s : State) (h : Here) (r : Dst) (a b : Sel), s.here = some h →
    let x (i : Nat) := lane (h.getV h.s.slot a) i
    let y (i : Nat) := lane (h.getV h.s.slot b) i
    let k (i : Nat) := (y i).toNat % 32
    exec (.vadd r a b) s = h.givesV 2 r (fun i => BitVec.ofNat 32 ((x i).toNat + (y i).toNat)) ∧
    exec (.vsub r a b) s = h.givesV 2 r (fun i => BitVec.ofInt 32 ((x i).toInt - (y i).toInt)) ∧
    exec (.vmul r a b) s = h.givesV 4 r (fun i => BitVec.ofNat 32 ((x i).toNat * (y i).toNat)) ∧
    exec (.vmulh r a b) s = h.givesV 4 r (fun i => BitVec.ofInt 32 ((x i).toInt * (y i).toInt / 2 ^ 32)) ∧
    exec (.vmin r a b) s = h.givesV 2 r (fun i => if (x i).toInt < (y i).toInt then x i else y i) ∧
    exec (.vmax r a b) s = h.givesV 2 r (fun i => if (x i).toInt < (y i).toInt then y i else x i) ∧
    exec (.vminn r a b) s = h.givesV 2 r (fun i => if (x i).toNat < (y i).toNat then x i else y i) ∧
    exec (.vmaxn r a b) s = h.givesV 2 r (fun i => if (x i).toNat < (y i).toNat then y i else x i) ∧
    exec (.vand r a b) s = h.givesV 2 r (fun i => x i &&& y i) ∧
    exec (.vor r a b) s = h.givesV 2 r (fun i => x i ||| y i) ∧
    exec (.vxor r a b) s = h.givesV 2 r (fun i => x i ^^^ y i) ∧
    exec (.vshl r a b) s = h.givesV 2 r (fun i => BitVec.ofNat 32 ((x i).toNat * 2 ^ k i)) ∧
    exec (.vshr r a b) s = h.givesV 2 r (fun i => BitVec.ofNat 32 ((x i).toNat / 2 ^ k i)) ∧
    exec (.vsha r a b) s = h.givesV 2 r (fun i => BitVec.ofInt 32 ((x i).toInt / 2 ^ k i))

/-- R133, R148: selection and lane movement; the lane number is b[0][5:0], and byte q of a VSHUF is byte b_q of a. -/
def Obligations.VectorLaneWords : Prop :=
  ∀ (s : State) (h : Here) (r : Dst) (a b : Sel), s.here = some h →
    let va := h.getV h.s.slot a
    let vb := h.getV h.s.slot b
    let d (i : Nat) := lane h.st.v[r.d] i
    let k := (lane vb 0).toNat % 64
    exec (.vsel r a b) s = h.givesV 2 r (fun i => if d i ≠ 0 then lane va i else lane vb i) ∧
    exec (.vperm r a b) s = h.givesV 2 r (fun i => lane va ((lane vb i).toNat % 64)) ∧
    (∃ f, exec (.vshuf r a b) s = h.givesV 2 r f ∧ ∀ q < 256, byteOf (ofLanes f) q = byteOf va (byteOf vb q).toNat) ∧
    exec (.vbcast r a b) s = h.givesV 2 r (fun _ => lane va k) ∧
    exec (.vins r a b) s = h.givesV 2 r (fun i => if i = k then lane va 0 else d i) ∧
    exec (.vext r a b) s = h.givesV 2 r (fun i => if i + k < 64 then lane va (i + k) else d (i + k - 64)) ∧
    exec (.vlidx r a b) s = h.givesV 2 r (fun i => lane vb i + BitVec.ofNat 32 ((List.range i).countP fun j => lane va j != 0))

/-- R128, R131, R132, R154: a compare pushes the lane vector of its relation two cycles on and VPUSHM one on; STACK where the projected depth
is 8, or for VINVM and VPOPM where it is 1.
R18, R128: what the changes of the mask stack do when they land: a push enables the lanes enabled before that the vector names; VINVM
turns the top to the lanes of the entry below that it left out; VPOPM drops the top.
R128, R131: the projected depth of a mask word is the depth of the stack, one more for each push in flight that lands by the word's cycle and one less
for each pop, and for a word of latency 2 in va also what the vb word of its bundle changes one cycle on. Of values, a NaN compares with none, and −0
equals +0. -/
def Obligations.MaskWords : Prop :=
  (∀ (s : State) (h : Here) (a b : Sel), s.here = some h →
    let x (i : Nat) := lane (h.getV h.s.slot a) i
    let y (i : Nat) := lane (h.getV h.s.slot b) i
    let fx (i : Nat) := f32 h (x i)
    let fy (i : Nat) := f32 h (y i)
    let pushes (ins : Instr) (lat : Nat) (rel : Nat → Bool) : Prop :=
      (h.projDepth lat < 8 → ∃ m : W64, exec ins s = h.becomes (h.st.fly1 h.cue lat (.push m)) ∧ ∀ i < 64, m.getLsbD i = rel i) ∧
      (8 ≤ h.projDepth lat → exec ins s = h.traps cSTACK 1)
    pushes (.vcmpEq a b) 2 (fun i => decide (x i = y i)) ∧
    pushes (.vcmpNe a b) 2 (fun i => decide (x i ≠ y i)) ∧
    pushes (.vcmpLt a b) 2 (fun i => decide ((x i).toInt < (y i).toInt)) ∧
    pushes (.vcmpLtn a b) 2 (fun i => decide ((x i).toNat < (y i).toNat)) ∧
    pushes (.vcmpGe a b) 2 (fun i => decide ((y i).toInt ≤ (x i).toInt)) ∧
    pushes (.vcmpGen a b) 2 (fun i => decide ((y i).toNat ≤ (x i).toNat)) ∧
    pushes (.vcmpFeq a b) 2 (fun i => (fx i).eq (fy i)) ∧
    pushes (.vcmpFne a b) 2 (fun i => !(fx i).eq (fy i)) ∧
    pushes (.vcmpFlt a b) 2 (fun i => (fx i).lt (fy i)) ∧
    pushes (.vcmpFge a b) 2 (fun i => (fy i).lt (fx i) || (fx i).eq (fy i)) ∧
    pushes (.vpushm a) 1 (fun i => decide (x i ≠ 0)) ∧
    (1 < h.projDepth 1 → exec .vinvm s = h.becomes (h.st.fly1 h.cue 1 .invm) ∧ exec .vpopm s = h.becomes (h.st.fly1 h.cue 1 .popm)) ∧
    (h.projDepth 1 ≤ 1 → exec .vinvm s = h.traps cSTACK 3 ∧ exec .vpopm s = h.traps cSTACK 3)) ∧
  (∀ (st : TState) (m x y : W64) (r : List W64),
    (st.mask = x :: r → r.length < 7 → (st.landEff (.push m)).mask = (x &&& m) :: x :: r) ∧
    (st.mask = x :: y :: r → (st.landEff .invm).mask = (y &&& ~~~x) :: y :: r ∧ (st.landEff .popm).mask = y :: r ∧
      (st.landEff .popm).active = y)) ∧
  ((∀ (h : Here) (lat : Nat),
    let due (p : Eff → Bool) : Int := ((h.st.flight.countP fun f => decide (f.due ≤ h.cue + lat) && p f.eff : Nat) : Int)
    let d : Int := (h.st.mask.length : Int) + due (fun e => match e with | .push _ => true | _ => false) - due (fun e => e == .popm)
    (h.s.slot ≠ .va ∨ lat ≠ 2 → h.projDepth lat = d) ∧
    (h.s.slot = .va → lat = 2 → ∀ b i, h.t.bundleAt h.st.pc = some b → decode .vb (b.extractLsb' 96 32).toNat = some i →
      ((∃ a, i = .vpushm a) → h.projDepth lat = d + 1) ∧ (i = .vpopm → h.projDepth lat = d - 1) ∧
      ((∀ a, i ≠ .vpushm a) → i ≠ .vpopm → h.projDepth lat = d))) ∧
  (∀ x : Val, Val.lt .nan x = false ∧ Val.lt x .nan = false ∧ Val.eq .nan x = false ∧ Val.eq x .nan = false) ∧
  (∀ (s t : Bool) (m n : Nat) (e f : Int), let x := Val.fin s m e; let y := Val.fin t n f;
    (x.lt y = true ↔ x.rat < y.rat) ∧ (x.eq y = true ↔ x.rat = y.rat) ∧ Val.lt (.inf s) y = s ∧ Val.lt x (.inf t) = !t ∧
    Val.eq (.inf s) y = false ∧ Val.eq x (.inf t) = false ∧ Val.lt (.inf s) (.inf t) = (s && !t) ∧ Val.eq (.inf s) (.inf t) = (s == t)))

/-- R134, R135, R136, R141 to R145: lane-wise floating-point words; each result is rounded once from the exact value (02 R48), the
special functions from the value their rule's steps give.
R47 to R51, R53: what `add`, `mul` and the rounding give. A sum and a product of finite values are exact, a sum of infinities of unlike
sign and a product of infinity and zero are NaN, a NaN gives NaN; an exact zero sum of unlike signs is −0 under RD and +0 else. A
value is rounded once to the grid of its format, 2^q apart, as its mode says; a magnitude beyond the largest becomes what R50 says; a
subnormal result is flushed under FTZ to the zero of its sign; a NaN is canonical. R135: minimum and maximum order −0 below +0.
R140 to R145: the special functions. Corners: a NaN, the infinities, zeros, and arguments outside a function's range; else, for a value of
magnitude M × 2^(k − 23) with 2^23 ≤ M < 2^24, the value that the rule's table steps give before the last rounding.
R140: the tables T, L and H: each entry the stated real number rounded to the nearest integer, halves upward. -/
def Obligations.VectorFloatWords : Prop :=
  (∀ (s : State) (h : Here) (r : Dst) (a b : Sel) (rm : Rnd) (fr tf : CvtFmt), s.here = some h →
    let x (i : Nat) := lane (h.getV h.s.slot a) i
    let f (c : Sel) (i : Nat) := f32 h (lane (h.getV h.s.slot c) i)
    let d (i : Nat) := f32 h (lane h.st.v[r.d] i)
    exec (.vfadd r a b rm) s = h.givesV 4 r (fun i => toF32 h rm i ((f a i).add rm (f b i))) ∧
    exec (.vfsub r a b rm) s = h.givesV 4 r (fun i => toF32 h rm i ((f a i).add rm (f b i).neg)) ∧
    exec (.vfmul r a b rm) s = h.givesV 4 r (fun i => toF32 h rm i ((f a i).mul (f b i))) ∧
    exec (.vfma r a b rm) s = h.givesV 4 r (fun i => toF32 h rm i (((f a i).mul (f b i)).add rm (d i))) ∧
    exec (.vfmin r a b) s = h.givesV 2 r (fun i => toF32 h .rne i (minVal (f a i) (f b i))) ∧
    exec (.vfmax r a b) s = h.givesV 2 r (fun i => toF32 h .rne i (maxVal (f a i) (f b i))) ∧
    exec (.vfabs r a) s = h.givesV 2 r (fun i => toF32 h .rne i (f a i).abs) ∧
    exec (.vfneg r a) s = h.givesV 2 r (fun i => toF32 h .rne i (f a i).neg) ∧
    exec (.vcvt r a fr tf rm) s = h.givesV 4 r (fun i => cvtWrite h.ftz tf rm (h.rbFor rm i) (cvtRead h.ftz fr (x i))) ∧
    exec (.vexp2 r a) s = h.givesV 8 r (fun i => toF32 h .rne i (vexp2 (f a i))) ∧
    exec (.vlog2 r a) s = h.givesV 8 r (fun i => toF32 h .rne i (vlog2 (f a i))) ∧
    exec (.vrcp r a) s = h.givesV 8 r (fun i => toF32 h .rne i (vrcp (f a i))) ∧
    exec (.vrsq r a) s = h.givesV 8 r (fun i => toF32 h .rne i (vrsq (f a i))) ∧
    exec (.vtanh r a) s = h.givesV 8 r (fun i => toF32 h .rne i (vtanh (f a i)))) ∧
  ((∀ (rm : Rnd) (s t : Bool) (m n : Nat) (e f : Int),
    (Val.add rm (.fin s m e) (.fin t n f)).rat = (Val.fin s m e).rat + (Val.fin t n f).rat ∧
    (∃ k g, Val.add rm (.fin s m e) (.fin t n f) = .fin (if (Val.fin s m e).rat + (Val.fin t n f).rat = 0 then
      (if s = t then s else decide (rm = .rd)) else decide ((Val.fin s m e).rat + (Val.fin t n f).rat < 0)) k g) ∧
    Val.mul (.fin s m e) (.fin t n f) = .fin (s != t) (m * n) (e + f) ∧
    Val.add rm (.inf s) (.fin t n f) = .inf s ∧ Val.add rm (.fin t n f) (.inf s) = .inf s ∧
    Val.add rm (.inf s) (.inf t) = (if s = t then .inf s else .nan) ∧ Val.mul (.inf s) (.inf t) = .inf (s != t) ∧
    Val.mul (.inf s) (.fin t n f) = (if n = 0 then .nan else .inf (s != t)) ∧
    Val.mul (.fin t n f) (.inf s) = (if n = 0 then .nan else .inf (t != s))) ∧
  (∀ (rm : Rnd) (v : Val), Val.add rm .nan v = .nan ∧ Val.add rm v .nan = .nan ∧ Val.mul .nan v = .nan ∧ Val.mul v .nan = .nan ∧
    minVal .nan v = .nan ∧ minVal v .nan = .nan ∧ maxVal .nan v = .nan ∧ maxVal v .nan = .nan) ∧
  (∀ (s t : Bool) (m n : Nat) (e f : Int), let x := Val.fin s m e; let y := Val.fin t n f
    (x.rat < y.rat → minVal x y = x ∧ minVal y x = x ∧ maxVal x y = y ∧ maxVal y x = y) ∧
    minVal (.fin s 0 e) (.fin t 0 f) = (if s then .fin s 0 e else .fin t 0 f) ∧
    maxVal (.fin s 0 e) (.fin t 0 f) = (if s then .fin t 0 f else .fin s 0 e)) ∧
  (∀ (t : FpFmt) (rm : Rnd) (ftz neg : Bool) (rb m : Nat) (e : Int), t = fp32 ∨ t = bf16 ∨ t = fp16 → 0 < m → rb < 2 ^ 24 →
    let q := t.quantum m e
    let x : ℚ := (m : ℚ) * 2 ^ (e - q)
    let n := roundQuantum rm neg m e q rb
    let mag := (fpEncode t rm false rb (.fin neg m e)) - t.signBit neg
    (q = max ((Nat.log2 m : Int) + e - t.f) (1 - (t.bias : Int) - t.f)) ∧
    ((n : ℚ) = ⌊x⌋ ∨ (n : ℚ) = ⌈x⌉) ∧
    (rm = .rne → |x - n| ≤ 1 / 2 ∧ (|x - n| = 1 / 2 → n % 2 = 0)) ∧ (rm = .rz → (n : ℚ) = ⌊x⌋) ∧
    (rm = .ru → (n : ℚ) = if neg then ⌊x⌋ else ⌈x⌉) ∧ (rm = .rd → (n : ℚ) = if neg then ⌈x⌉ else ⌊x⌋) ∧
    (rm = .sr → (n : ℚ) = if 2 ^ 24 ≤ ⌊Int.fract x * 2 ^ 24⌋ + (rb : Int) then ⌊x⌋ + 1 else ⌊x⌋) ∧
    ((n : ℚ) * 2 ^ q ≤ (fpDecode t t.maxEnc).rat → mag ≤ t.maxEnc ∧ (fpDecode t mag).rat = (n : ℚ) * 2 ^ q ∧
      fpEncode t rm ftz rb (.fin neg m e) = t.signBit neg + (if ftz = true ∧ mag < 2 ^ t.f then 0 else mag)) ∧
    ((fpDecode t t.maxEnc).rat < (n : ℚ) * 2 ^ q → fpEncode t rm ftz rb (.fin neg m e) = t.signBit neg +
      (match rm with | .rne | .sr => t.infEnc | .rz => t.maxEnc | .ru => if neg then t.maxEnc else t.infEnc | .rd => if neg then t.infEnc else t.maxEnc))) ∧
  (∀ (t : FpFmt) (rm : Rnd) (ftz neg : Bool) (rb : Nat) (e : Int), fpEncode t rm ftz rb .nan = t.nanEnc ∧
    fpEncode t rm ftz rb (.fin neg 0 e) = t.signBit neg ∧ fpEncode fp32 rm ftz rb (.inf neg) = (if neg then 0xff800000 else 0x7f800000)) ∧
  fp32.nanEnc = 0x7fc00000) ∧
  ((vexp2 .nan = .nan ∧ vlog2 .nan = .nan ∧ vrcp .nan = .nan ∧ vrsq .nan = .nan ∧ vtanh .nan = .nan) ∧
  (vexp2 (.inf false) = .inf false ∧ vexp2 (.inf true) = .fin false 0 0 ∧ vlog2 (.inf false) = .inf false ∧ vlog2 (.inf true) = .nan ∧
    vrsq (.inf false) = .fin false 0 0 ∧ vrsq (.inf true) = .nan ∧
    ∀ s, vrcp (.inf s) = .fin s 0 0 ∧ vtanh (.inf s) = .fin s 1 0) ∧
  (∀ (s : Bool) (e : Int), vlog2 (.fin s 0 e) = .inf true ∧ vrcp (.fin s 0 e) = .inf s ∧ vrsq (.fin s 0 e) = .inf s ∧
    vtanh (.fin s 0 e) = .fin s 0 e) ∧
  (∀ (s : Bool) (m : Nat) (e : Int), let v := Val.fin s m e
    (128 ≤ v.rat → vexp2 v = .inf false) ∧ (v.rat < -160 → vexp2 v = .fin false 0 0) ∧
    (-160 ≤ v.rat → v.rat < 128 →
      let x := ⌊v.rat * 2 ^ 22⌋
      let f := (x % 2 ^ 22).toNat
      let j := f / 2 ^ 14
      let r := f % 2 ^ 14
      let p := 2 ^ 30 + 744261118 * r / 2 ^ 22 + 257941248 * r * r / 2 ^ 44
      vexp2 v = .fin false (tableT.getD j 0 * p / 2 ^ 30) (x / 2 ^ 22 - 30)) ∧
    (v.rat < 0 → vlog2 v = .nan ∧ vrsq v = .nan) ∧
    (|v.rat| < 1 / 2 ^ 12 → vtanh v = v) ∧ (16 ≤ |v.rat| → vtanh v = .fin s 1 0)) ∧
  (∀ (s : Bool) (m M : Nat) (e k : Int), 2 ^ 23 ≤ M → M < 2 ^ 24 → (M : ℚ) * 2 ^ (k - 23) = (m : ℚ) * 2 ^ e →
    let j : Nat := M / 2 ^ 15 - 256
    let g : ℚ := 2 ^ 38 / (256 + (j : ℚ))
    let u := M % 2 ^ 15 * tableG j / 2 ^ 23
    (tableG j : ℚ) = ⌊g + 1 / 2⌋ ∧
    (∃ z : Int, z = k * 2 ^ 30 + tableL.getD j 0 + ((1549082005 * u / 2 ^ 30 : Nat) - (774541002 * (u * u / 2 ^ 30) / 2 ^ 30 : Nat) : Int) ∧
      vlog2 (.fin false m e) = .fin (decide (z < 0)) z.natAbs (-30)) ∧
    vrcp (.fin s m e) = .fin s (tableG j * (2 ^ 30 - u + u * u / 2 ^ 30) / 2 ^ 30) (-k - 30) ∧
    (let i := M / 2 ^ 16 - 128
      let w := M % 2 ^ 16 * tableG (2 * i) / 2 ^ 23
      let hh := (k % 2).toNat
      vrsq (.fin false m e) = .fin false (tableH.getD (128 * hh + i) 0 * (2 ^ 30 - w / 2 + 3 * (w * w / 2 ^ 30) / 8) / 2 ^ 30) (-((k - hh) / 2) - 30)) ∧
    (1 / 2 ^ 12 ≤ (m : ℚ) * 2 ^ e → (m : ℚ) * 2 ^ e < 16 →
      let rnd (v : Val) := fpDecode fp32 (fpEncode fp32 .rne false 0 v)
      let one := Val.fin false 1 0
      let x := rnd (vexp2 (rnd (Val.mul (.fin false m e) (fpDecode fp32 0xc038aa3b))))
      let y := rnd (Val.mul (rnd (Val.add .rne one x.neg)) (rnd (vrcp (rnd (Val.add .rne one x)))))
      vtanh (.fin s m e) = if s then y.neg else y))) ∧
  ((∀ j < 256, (tableT.getD j 0 : ℤ) = ⌊2 ^ 30 * (2 : ℝ) ^ ((j : ℝ) / 256) + 1 / 2⌋) ∧
  (∀ j < 256, (tableL.getD j 0 : ℤ) = ⌊2 ^ 30 * Real.logb 2 (1 + (j : ℝ) / 256) + 1 / 2⌋) ∧
  (∀ h < 2, ∀ k < 128, (tableH.getD (128 * h + k) 0 : ℤ) = ⌊2 ^ 30 / √(2 ^ h * ((128 + (k : ℝ)) / 128)) + 1 / 2⌋))

/-- R137 to R139, R146, R147: words on groups and blocks, reductions over the active lanes, scans.
R57, R58, R61, R55: what the block codec gives. A value that is NaN or infinite makes the block a NaN block. Else E takes the largest magnitude to the
width's range, within 0 and 254; the sub-shift of a sub-block is the largest of 0 to 3 that keeps it in range; each mantissa is its value at that scale,
rounded once as the mode says and clamped. An element decodes to its mantissa at that scale; an image reads back as the block it was made of, its fields
where R55 puts them.
R59, R62: what export to MX gives: a NaN or infinite value makes the scale 0xff; else the scale takes the largest magnitude to the format's range,
within 0 and 254, and each element is its value under the scale, rounded once onto the format's grid and no larger than its maximum. -/
def Obligations.VectorBlockAndReductionWords : Prop :=
  (∀ (s : State) (h : Here) (r : Dst) (a : Sel) (w : Width) (rm : Rnd) (ty : RedTy), s.here = some h →
    let x := h.getV h.s.slot a
    let wb := widthBits w
    let act (id : W32) := (List.range 64).map fun i => if h.st.active.getLsbD i then lane x i else id
    exec (.vqblk r a w rm) s = h.becomes (h.st.resGroup h.s.slot h.cue 8 r
      ((encodeBlock ((h.st.group (selReg a)).map (f32 h)) wb rm (h.rbFor rm)).image wb) h.st.active) ∧
    exec (.vdqblk r a w rm) s = h.becomes (h.st.resGroup h.s.slot h.cue 8 r
      (groupImage ((List.range 256).map fun i => toF32 h rm i ((blkOf wb (h.st.groupNat (selReg a) (4 + 32 * wb))).val i))) h.st.active) ∧
    (∀ f : MxFmt,
      let blk (j : Nat) := exportMx ((List.range 32).map fun i => f32 h (lane x (32 * j + i))) f rm fun n => h.rbFor rm (32 * j + n)
      exec (.vmxq r a f rm) s = h.becomes (h.st.resV h.s.slot h.cue 8 r
        (BitVec.ofNat 2048 (packNats (mxBits f) ((blk 0).2 ++ (blk 1).2) + 2 ^ 2016 * ((blk 0).1 + 256 * (blk 1).1))) h.st.active) ∧
      exec (.vmxdq r a f rm) s = h.givesV 8 r (fun n =>
        toF32 h rm n (mxVal f ((lane x 63).toNat / 256 ^ (n / 32) % 256) (x.toNat / 2 ^ (mxBits f * n) % 2 ^ mxBits f)))) ∧
    exec (.vredadd r a ty) s = h.givesV 6 r (fun _ => (treeFold (redAdd h.ftz ty) 6 (act (idAdd ty))).headD 0) ∧
    exec (.vredmax r a ty) s = h.givesV 6 r (fun _ => (treeFold (redMax h.ftz ty) 6 (act (idMax ty))).headD 0) ∧
    exec (.vredmin r a ty) s = h.givesV 6 r (fun _ => (treeFold (redMin h.ftz ty) 6 (act (idMin ty))).headD 0) ∧
    exec (.vscan r a ty) s = h.givesV 6 r (fun i => scanLane h.ftz ty
      (([1, 2, 4, 8, 16, 32].foldl (fun xs d => scanStep (redAdd h.ftz ty) d xs) (act (idAdd ty))).getD i 0))) ∧
  ((∀ (xs : List Val) (wd : Width) (rm : Rnd) (rb : Nat → Nat), xs.length = 256 →
    let w := widthBits wd
    let b := encodeBlock xs w rm rb
    let lim : Int := 2 ^ (w - 1) - 1
    blkOf w (b.image w) = b ∧
    ((∃ x ∈ xs, x.special = true) → b = ⟨0xff, List.replicate 8 0, List.replicate 256 0⟩) ∧
    ((∀ x ∈ xs, x.special = false) →
      ((∀ x ∈ xs, x.rat = 0) → b.e = 0) ∧
      (∀ (x : Val) (k : Int), x ∈ xs → (∀ y ∈ xs, |y.rat| ≤ |x.rat|) → (2 : ℚ) ^ k ≤ |x.rat| → |x.rat| < 2 ^ (k + 1) →
        (b.e : Int) = min 254 (max 0 (k - (w - 2) + 127))) ∧
      (∀ j < 8, ∀ x ∈ (xs.drop (32 * j)).take 32, (∀ y ∈ (xs.drop (32 * j)).take 32, |y.rat| ≤ |x.rat|) →
        let s := b.sh.getD j 0
        s ≤ 3 ∧ (s ≠ 0 → |x.rat| * 2 ^ (127 - (b.e : Int) + s) < 2 ^ (w - 1)) ∧
          ∀ t, s < t → t ≤ 3 → (2 : ℚ) ^ (w - 1) ≤ |x.rat| * 2 ^ (127 - (b.e : Int) + t)) ∧
      (∀ i sg m e, xs[i]? = some (.fin sg m e) → b.m[i]? = some (max (-lim) (min lim
        ((if sg then -1 else 1) * (roundQuantum rm sg m (e + (127 - (b.e : Int) + b.sh.getD (i / 32) 0)) 0 (rb i) : Int))))))) ∧
  (∀ (b : Blk) (i : Nat), (b.e = 0xff → b.val i = .nan) ∧
    (b.e ≠ 0xff → (b.val i).rat = (b.m.getD i 0 : ℚ) * 2 ^ ((b.e : Int) - 127 - b.sh.getD (i / 32) 0) ∧ (b.val i).special = false)) ∧
  (∀ (wd : Width) (img : Nat), let w := widthBits wd
    (blkOf w img).e = img % 256 ∧ (∀ j < 8, (blkOf w img).sh.getD j 0 = img / 2 ^ (8 + 2 * j) % 4) ∧
    ∀ i < 256, (blkOf w img).m.getD i 0 = (BitVec.ofNat w (img / 2 ^ (32 + w * i))).toInt)) ∧
  (∀ (xs : List Val) (f : MxFmt) (rm : Rnd) (rb : Nat → Nat), xs.length = 32 →
    let y := exportMx xs f rm rb
    (mxEmax .int8, mxEmax .e4m3, mxEmax .e5m2, mxEmax .e2m3, mxEmax .e3m2, mxEmax .e2m1) = (0, 8, 15, 2, 4, 2) ∧
    ((∃ x ∈ xs, x.special = true) → y = (0xff, List.replicate 32 0)) ∧
    ((∀ x ∈ xs, x.special = false) →
      ((∀ x ∈ xs, x.rat = 0) → y.1 = 0) ∧
      (∀ (x : Val) (k : Int), x ∈ xs → (∀ z ∈ xs, |z.rat| ≤ |x.rat|) → (2 : ℚ) ^ k ≤ |x.rat| → |x.rat| < 2 ^ (k + 1) →
        (y.1 : Int) = min 254 (max 0 (k - mxEmax f + 127))) ∧
      (∀ i sg m e, xs[i]? = some (.fin sg m e) → ∃ v, y.2[i]? = some v ∧ v < 2 ^ mxBits f ∧
        (f = .int8 → (BitVec.ofNat 8 v).toInt = max (-127) (min 127
          ((if sg then -1 else 1) * (roundQuantum rm sg m (e + (127 - (y.1 : Int)) + 6) 0 (rb i) : Int)))) ∧
        (∀ t, mxFp f = some t → 0 < m →
          let q := t.quantum m (e + (127 - (y.1 : Int)))
          (fpDecode t v).rat = (if sg then -1 else 1) *
            min ((roundQuantum rm sg m (e + (127 - (y.1 : Int))) q (rb i) : ℚ) * 2 ^ q) (fpDecode t t.maxEnc).rat) ∧
        (∀ t, mxFp f = some t → m = 0 → v = t.signBit sg))))

/-- R146, R147 on integers of either signedness: a reduction's tree gives the sum, or the largest and smallest, of 64 lanes, and a scan's passes give
every prefix sum. -/
def Obligations.IntegerReductions : Prop :=
  ∀ (ftz : Bool) (xs : List W32), xs.length = 64 →
    (∀ ty ∈ [RedTy.i32, .n32], (treeFold (redAdd ftz ty) 6 xs).headD 0 = xs.foldl (· + ·) 0 ∧
      (treeFold (redMax ftz ty) 6 xs).headD 0 ∈ xs ∧ (treeFold (redMin ftz ty) 6 xs).headD 0 ∈ xs ∧
      ∀ i < 64, ([1, 2, 4, 8, 16, 32].foldl (fun ys d => scanStep (redAdd ftz ty) d ys) xs).getD i 0 = (xs.take (i + 1)).foldl (· + ·) 0) ∧
    (∀ x ∈ xs, x.toNat ≤ ((treeFold (redMax ftz .n32) 6 xs).headD 0).toNat ∧ ((treeFold (redMin ftz .n32) 6 xs).headD 0).toNat ≤ x.toNat) ∧
    ∀ x ∈ xs, x.toInt ≤ ((treeFold (redMax ftz .i32) 6 xs).headD 0).toInt ∧ ((treeFold (redMin ftz .i32) 6 xs).headD 0).toInt ≤ x.toInt

/-- R149 to R151: vector loads and stores of a bank that is no block bank, and of a block bank, at an address in place, on units of the core:
what a lane reads, and the bytes the active lanes store.
R149, R151, R154: where vector accesses trap, through a register and an offset and through a stream, in the order of the checks: BOUNDS outside
the scratchpad, off an element or a block, or past its end; BANKFMT with reason 3 where the range reaches a bank with another fmt word, reason
1 for what is no group and reason 2 for a partial mask on a block bank (reason 1 first: the model's choice, log 70); OWNER on the lowest
unit that is not the core's. -/
def Obligations.VectorMemoryWords : Prop :=
  (∀ (s : State) (h : Here) (r : Dst) (d : Sel) (base : Fin 32) (off : BitVec 10) (n : Fin 8), s.here = some h →
    let ok (a : Nat) (len : Nat) : Prop := ∀ u, a / 4096 ≤ u → u ≤ (a + len - 1) / 4096 → h.st.owner u = 0
    let loads (i : Instr) (a : Nat) : Prop :=
      (∀ f, h.t.bankFmt (a / 0x10000) = f → f.isBlock = false → a % f.bytes = 0 → a + 64 * f.bytes ≤ 0x100000 →
        h.t.fmt ((a + 64 * f.bytes - 1) / 0x10000) = h.t.fmt (a / 0x10000) → ok a (64 * f.bytes) →
        exec i s = h.givesV 5 r (fun j => elemIn h f (memNat h.st.spad (a + j * f.bytes) f.bytes))) ∧
      (∀ w, h.t.bankFmt (a / 0x10000) = .block w → a < 0x100000 → blockStart w a = true → r.d.val % 4 = 0 → ok a (4 + 32 * widthBits w) →
        exec i s = h.becomes (h.st.resGroup h.s.slot h.cue 5 r (groupImage ((List.range 256).map fun j =>
          toF32 h .rne j ((blkOf (widthBits w) (memNat h.st.spad a (4 + 32 * widthBits w))).val j))) h.st.active))
    let stores (i : Instr) (a : Nat) : Prop :=
      (∀ f, h.t.bankFmt (a / 0x10000) = f → f.isBlock = false → a % f.bytes = 0 → a + 64 * f.bytes ≤ 0x100000 →
        h.t.fmt ((a + 64 * f.bytes - 1) / 0x10000) = h.t.fmt (a / 0x10000) → ok a (64 * f.bytes) →
        exec i s = h.becomes (h.st.fly1 h.cue 2 (.store ((((List.range 64).filter fun j => h.st.active.getLsbD j).map fun j =>
          cellsAt (a + j * f.bytes) (leBytes f.bytes (elemOut h f (h.t.bankRnd (a / 0x10000)) j (lane (h.getV h.s.slot d) j)))).flatten)))) ∧
      (∀ w, h.t.bankFmt (a / 0x10000) = .block w → a < 0x100000 → blockStart w a = true → d.isGroup = true → h.st.active = allLanes →
        ok a (4 + 32 * widthBits w) →
        exec i s = h.becomes (h.st.fly1 h.cue 2 (.store (cellsAt a (leBytes (4 + 32 * widthBits w)
          ((encodeBlock ((h.st.group (selReg d)).map (f32 h)) (widthBits w) (h.t.bankRnd (a / 0x10000))
            (h.rbFor (h.t.bankRnd (a / 0x10000)))).image (widthBits w)))))))
    (∀ a : Nat, h.st.baseAddr base off 64 = a → loads (.vld r base off) a ∧ stores (.vst d base off) a) ∧
    (∀ a : Nat, h.st.streamAddr n = a → loads (.vldStream r n) a ∧ stores (.vstStream d n) a)) ∧
  (∀ (s : State) (h : Here) (r : Dst) (d : Sel) (base : Fin 32) (off : BitVec 10) (n : Fin 8) (ld st : Instr) (a : Int), s.here = some h →
    (ld = .vld r base off ∧ st = .vst d base off ∧ a = h.st.baseAddr base off 64) ∨
      (ld = .vldStream r n ∧ st = .vstStream d n ∧ a = h.st.streamAddr n) →
    let b := a.toNat / 0x10000
    let f := h.t.bankFmt b
    let last := (a.toNat + 64 * f.bytes - 1) / 0x10000
    let both (code : BitVec 8) (info : W64) : Prop := exec ld s = h.traps code info ∧ exec st s = h.traps code info
    let owner (len u : Nat) : Prop := a.toNat / 4096 ≤ u ∧ u ≤ (a.toNat + len - 1) / 4096 ∧ h.st.owner u ≠ 0 ∧
      ∀ v, a.toNat / 4096 ≤ v → v < u → h.st.owner v = 0
    let info (u : Nat) : W64 := BitVec.ofNat 64 (h.st.owner u * 2 ^ 8 + u)
    (a < 0 ∨ 0xfffff < a → both cBOUNDS (BitVec.ofInt 64 a)) ∧
    (0 ≤ a → a ≤ 0xfffff →
      (f.isBlock = false →
        (a % f.bytes ≠ 0 ∨ 0x100000 < a + 64 * f.bytes → both cBOUNDS (BitVec.ofInt 64 a)) ∧
        (a % f.bytes = 0 → a + 64 * f.bytes ≤ 0x100000 →
          (h.t.fmt last ≠ h.t.fmt b → both cBANKFMT (BitVec.ofNat 64 (last * 2 ^ 16 + 3))) ∧
          (h.t.fmt last = h.t.fmt b → ∀ u, owner (64 * f.bytes) u → both cOWNER (info u)))) ∧
      (∀ w, f = .block w →
        (blockStart w a.toNat = false → both cBOUNDS (BitVec.ofInt 64 a)) ∧
        (blockStart w a.toNat = true →
          (r.d.val % 4 ≠ 0 → exec ld s = h.traps cBANKFMT (BitVec.ofNat 64 (b * 2 ^ 16 + 1))) ∧
          (d.isGroup = false → exec st s = h.traps cBANKFMT (BitVec.ofNat 64 (b * 2 ^ 16 + 1))) ∧
          (d.isGroup = true → h.st.active ≠ allLanes → exec st s = h.traps cBANKFMT (BitVec.ofNat 64 (b * 2 ^ 16 + 2))) ∧
          (∀ u, owner (4 + 32 * widthBits w) u → (r.d.val % 4 = 0 → exec ld s = h.traps cOWNER (info u)) ∧
            (d.isGroup = true → h.st.active = allLanes → exec st s = h.traps cOWNER (info u)))))))

/-- R152: indexed access: where no active lane fails a check, each active lane reads, or writes, an element at its own address.
R152, R154: where indexed accesses trap: the first check that some active lane fails, in the order BOUNDS, BANKFMT, OWNER, naming the lowest lane
that fails it; no lane takes effect. -/
def Obligations.VectorIndexedWords : Prop :=
  (∀ (s : State) (h : Here) (r : Dst) (d a b : Sel), s.here = some h →
    let addr (i : Nat) : Nat := (lane (h.getV h.s.slot a) i).toNat + (lane (h.getV h.s.slot b) i).toNat
    let f (i : Nat) := h.t.bankFmt (addr i / 0x10000)
    (∀ i < 64, h.st.active.getLsbD i = true → addr i < 0x100000 ∧ (f i).isBlock = false ∧ addr i % (f i).bytes = 0 ∧
      h.st.owner (addr i / 4096) = 0) →
    (∃ v, exec (.vldx r a b) s = h.givesV 5 r v ∧
      ∀ i < 64, h.st.active.getLsbD i = true → v i = elemIn h (f i) (memNat h.st.spad (addr i) (f i).bytes)) ∧
    exec (.vstx d a b) s = h.becomes (h.st.fly1 h.cue 2 (.store ((((List.range 64).filter fun i => h.st.active.getLsbD i).map fun i =>
      cellsAt (addr i) (leBytes (f i).bytes (elemOut h (f i) (h.t.bankRnd (addr i / 0x10000)) i (lane (h.getV h.s.slot d) i)))).flatten)))) ∧
  (∀ (s : State) (h : Here) (r : Dst) (d a b : Sel) (i : Nat), s.here = some h →
    let addr (i : Nat) : Nat := (lane (h.getV h.s.slot a) i).toNat + (lane (h.getV h.s.slot b) i).toNat
    let f (i : Nat) := h.t.bankFmt (addr i / 0x10000)
    let on (i : Nat) : Prop := i < 64 ∧ h.st.active.getLsbD i = true
    let far (i : Nat) : Prop := 0x100000 ≤ addr i ∨ ((f i).isBlock = false ∧ addr i % (f i).bytes ≠ 0)
    let lent (i : Nat) : Prop := h.st.owner (addr i / 4096) ≠ 0
    let first (p : Nat → Prop) : Prop := on i ∧ p i ∧ ∀ j < i, on j → ¬p j
    let both (code : BitVec 8) (info : Nat) : Prop :=
      exec (.vldx r a b) s = h.traps code (BitVec.ofNat 64 info) ∧ exec (.vstx d a b) s = h.traps code (BitVec.ofNat 64 info)
    (first far → both cBOUNDS (i * 2 ^ 40 + addr i)) ∧
    ((∀ j, on j → ¬far j) → first (fun j => (f j).isBlock = true) → both cBANKFMT (i * 2 ^ 40 + addr i / 0x10000 * 2 ^ 16 + 4)) ∧
    ((∀ j, on j → ¬far j ∧ (f j).isBlock = false) → first lent →
      both cOWNER (i * 2 ^ 40 + h.st.owner (addr i / 4096) * 2 ^ 8 + addr i / 4096)))

/-- R156, R159 to R171: the matrix words change the array when they land, MPUSH and MACC 34 cycles on; MLOADB.W checks its offset, then the
refresh calendar. MDRAIN gives the 32 columns, the flags of the row in lane 32 and zeros, and sets SAT where a column saturates.
R156, R158 to R164, R168, R169: the changes of the array as they land: the plane is loaded whole and the cursor returns to zero, a row of it is
replaced, the headers are replaced, the cursor moves in the ring of the plane's sub-blocks, MZERO clears its set alone, MACC folds and closes the
older of two open partials.
R65 to R67, R69, R161, R166 to R168, R170: the arithmetic of the array. A fold takes a block sum into an accumulator as R65's steps say, with its
one rounding of the smaller operand and of a sum that reaches 2^46; MACC folds each column's sum at the exponent of its headers, or sets the NAN flag
of the row. A push adds, for each place of its window, the sum of 32 products at the place's sub-shifts, modulo 2^48. A drain rounds once to FP32,
saturates at the largest finite value with SAT, and gives a canonical NaN for a row with NAN; the NAN flag goes first: log 68. -/
def Obligations.MatrixWords : Prop :=
  (∀ (s : State) (h : Here) (r : Dst) (a : Sel) (set : Fin 2) (row : Fin 32) (b : BitVec 6) (syn sp : Bool) (pw wa wb : Width) (st : Fin 8)
    (f : DrainFmt), s.here = some h →
    let x := h.getV .m a
    let o := (lane x 0).toNat
    let c := h.cue % 16384
    let flies (i : Instr) (lat : Nat) (e : Eff) : Prop := exec i s = h.becomes (h.st.fly1 h.cue lat e)
    (o % 4096 = 0 → o ≤ 0x1f000 → 64 ≤ c % 512 → h.s.weightBad.contains (h.s.weightBase h.t) = false → flies (.mloadbW a) 6 (.plane o)) ∧
    (o % 4096 ≠ 0 ∨ 0x1f000 < o → exec (.mloadbW a) s = h.traps cBOUNDS (BitVec.ofNat 64 o)) ∧
    (o % 4096 = 0 → o ≤ 0x1f000 → c % 512 < 64 →
      exec (.mloadbW a) s = h.traps cWREFRESH (BitVec.ofNat 64 (c / 512 * 2 ^ 16 + c))) ∧
    flies (.mloadbS row a) 6 (.planeRow row x) ∧ flies (.mshift b) 1 (.mshift b.toNat) ∧ flies (.mscale a) 1 (.mscale x) ∧
    flies (.msparse a) 1 (.msparse x) ∧ flies (.mmode syn sp pw) 1 (.mmode syn sp pw) ∧ flies (.mzero set) 1 (.mzero set) ∧
    flies (.macc set row) 34 (.macc set row true) ∧ flies (.maccDrop set row) 34 (.macc set row false) ∧
    (let arr := h.st.arr
      let step := if arr.syn then st.val else 0
      let sparse := sp && arr.sparse
      let n := (if step ≠ 0 then 2 else gangS wa wb) * (if sparse then 2 else 1)
      let v : PushView := ⟨arr, (List.range 32).map (arr.column h.s.weights (h.s.weightBase h.t)), x,
        if step = 0 then widthBits wa else arr.planeWidth, if step = 0 then widthBits wb else arr.planeWidth, step, sparse⟩
      flies (.mpush set row a wa wb sp st) 34 (.mpush set row ((((List.range n).map v.par).eraseDups).map (v.delta n)))) ∧
    (let nan := h.st.arr.nan.getLsbD (rowIdx set row).val
      let column (k : Fin 32) := drainLane h.ftz nan f (h.st.arr.acc[rowIdx set row])[k]
      let drained (v : Vec) := h.st.resV .m h.cue 3 r v allLanes
      ∃ (v : Vec) (tops : Bool), (tops = true ↔ ∃ k, (column k).2 = true) ∧ (∀ k : Fin 32, lane v k.val = BitVec.ofNat 32 (column k).1) ∧
        lane v 32 = BitVec.ofNat 32 (nan.toNat * 2 + (h.st.arr.sat.getLsbD (rowIdx set row).val || tops).toNat) ∧
        (∀ k, 32 < k → k < 64 → lane v k = 0) ∧
        exec (.mdrain r set row f) s = h.becomes (if tops then (drained v).fly1 h.cue 3 (.satSet set row) else drained v)) ∧
    (∃ v, exec (.mflags r set) s = h.becomes (h.st.resV .m h.cue 3 r v allLanes) ∧
      (∀ i < 32, (lane v 0).getLsbD i = ((h.st.arr.sat ||| h.st.arr.nan).getLsbD (32 * set.val + i))) ∧ (∀ k, 0 < k → k < 64 → lane v k = 0))) ∧
  (∀ (x : ArrayState) (set : Fin 2) (row : Fin 32) (off : Nat) (i : Fin 64),
    ((x.loadPlane off).planeBase = some off ∧ (x.loadPlane off).cursor = 0 ∧ (x.loadPlane off).acc = x.acc ∧ (x.loadPlane off).part = x.part) ∧
    (i.val / 32 = set.val → ((x.applyMzero set).acc[i] = Vector.replicate 32 ⟨0, 0⟩) ∧ (x.applyMzero set).sat.getLsbD i.val = false ∧
      (x.applyMzero set).nan.getLsbD i.val = false) ∧
    (i.val / 32 ≠ set.val → (x.applyMzero set).acc[i] = x.acc[i] ∧ (x.applyMzero set).sat.getLsbD i.val = x.sat.getLsbD i.val ∧
      (x.applyMzero set).nan.getLsbD i.val = x.nan.getLsbD i.val) ∧
    (∀ fold, x.oldest set row = none → x.applyMacc set row fold = x) ∧
    (∀ par fold, x.oldest set row = some par →
      let y := x.applyMacc set row fold
      ((y.part[partIdx set row par]).isOpen = false ∧ (y.part[partIdx set row par]).p = Vector.replicate 32 0) ∧
      (∀ j : Fin 64, j ≠ rowIdx set row → y.acc[j] = x.acc[j]) ∧ (fold = false → y.acc = x.acc ∧ y.nan = x.nan)) ∧
    (∀ (st : TState) (v : Vec) (n : Nat), st.arr = x →
      (st.landEff (.plane off)).arr = x.loadPlane off ∧ (st.landEff (.planeRow row v)).arr.planeRows = x.planeRows.set row (some v) ∧
      (st.landEff (.mshift n)).arr.cursor = (x.cursor + n) % x.nsb ∧ (st.landEff (.mscale v)).arr.hdr = v ∧
      (st.landEff (.mzero set)).arr = x.applyMzero set ∧ (st.landEff (.macc set row true)).arr = x.applyMacc set row true)) ∧
  ((∀ (v : Int) (k : Nat), (48 ≤ k → rneShift v k = 0) ∧
    (k < 48 → let d := |(v : ℚ) / 2 ^ k - rneShift v k|; d ≤ 1 / 2 ∧ (d = 1 / 2 → rneShift v k % 2 = 0))) ∧
  (∀ S Z : Int, |S| < 2 ^ 63 →
    normal (0, Z) = (0, 0) ∧ (2 ^ 45 ≤ |S| → |S| < 2 ^ 46 → normal (S, Z) = (S, Z)) ∧
    (2 ^ 46 ≤ |S| → normal (S, Z) = normal (rneShift S 1, Z + 1)) ∧ (S ≠ 0 → |S| < 2 ^ 45 → normal (S, Z) = normal (S * 2, Z - 1))) ∧
  (∀ A X P Y p y : Int, normal (P, Y) = (p, y) →
    let sum (r : Int × Int) : Acc := ⟨(normal r).1, (normal r).2⟩
    foldAcc ⟨A, X⟩ (0, Y) = ⟨A, X⟩ ∧ (P ≠ 0 → foldAcc ⟨0, X⟩ (P, Y) = ⟨p, y⟩) ∧
    (P ≠ 0 → A ≠ 0 → y ≤ X → foldAcc ⟨A, X⟩ (P, Y) = sum (A + rneShift p (X - y).toNat, X)) ∧
    (P ≠ 0 → A ≠ 0 → X < y → foldAcc ⟨A, X⟩ (P, Y) = sum (rneShift A (y - X).toNat + p, y))) ∧
  (∀ (x : ArrayState) (set : Fin 2) (row : Fin 32) (par : Fin 2), x.oldest set row = some par →
    let p := x.part[partIdx set row par]
    let r := rowIdx set row
    let y := x.applyMacc set row true
    (p.pnan = true → y.acc = x.acc ∧ ∀ i < 64, y.nan.getLsbD i = true ↔ i = r.val ∨ x.nan.getLsbD i = true) ∧
    (p.pnan = false → y.nan = x.nan ∧ ∀ cn : Fin 32,
      (y.acc[r])[cn] = foldAcc (x.acc[r])[cn] (p.p[cn], (p.ea.toNat : Int) + (p.eb[cn]).toNat - 260 + p.w))) ∧
  (∀ (x : ArrayState) (set : Fin 2) (row : Fin 32) (d : PushDelta),
    let p := x.part[partIdx set row d.par]
    let y := x.applyDelta set row d
    let q := y.part[partIdx set row d.par]
    q.isOpen = true ∧ q.ea = d.ea ∧ q.eb = d.eb ∧ q.w = d.w ∧
    (q.pnan = true ↔ p.pnan = true ∨ d.ea = 0xff ∨ ∃ cn : Fin 32, d.eb[cn] = 0xff) ∧
    (∀ cn : Fin 32, -2 ^ 47 ≤ q.p[cn] ∧ q.p[cn] < 2 ^ 47 ∧ (2 : Int) ^ 48 ∣ q.p[cn] - (p.p[cn] + d.dp[cn])) ∧
    (∀ par, par ≠ d.par → p.isOpen = false → (x.part[partIdx set row par]).isOpen = true →
      (y.part[partIdx set row par]).age = true ∧ q.age = false) ∧
    y = { x with part := y.part } ∧ ∀ i, i ≠ partIdx set row 0 → i ≠ partIdx set row 1 → y.part[i] = x.part[i]) ∧
  (∀ (v : PushView) (n par : Nat) (cn : Fin 32) (q : Nat),
    let y (k : Nat) := columnElem (v.cols.getD cn.val 0) (32 * v.arr.planeWidth * v.g q + v.eb * k) v.eb
    (v.delta n par).dp[cn] = ∑ i ∈ Finset.range n, (if v.par i = par then v.term i cn.val else 0) ∧
    (v.delta n par).ea = BitVec.ofNat 8 (v.ha par) ∧ (v.delta n par).eb[cn] = BitVec.ofNat 8 (v.hb par cn.val) ∧
    v.g q = (v.arr.cursor + q) % v.arr.nsb ∧ v.par q = v.g q / 8 % 2 ∧
    v.term q cn.val = (∑ k ∈ Finset.range 32, (v.slices (v.aElem q k) (y k)).1 * (v.slices (v.aElem q k) (y k)).2.1) *
      2 ^ (6 - hdrShift (v.ha (v.par q)) (v.g q % 8) - hdrShift (v.hb (v.par q) cn.val) (v.g q % 8)) ∧
    (v.sparse = false → ∀ k, v.aElem q k = elemAt v.a (32 * q + k) v.ea) ∧
    (v.step = 0 → ∀ a b, v.slices a b = (a, b, 0))) ∧
  (∀ x y : Int, let part (i : Nat) : Int := (synSlices false i x y).1 * (synSlices false i x y).2.1 * 2 ^ (synSlices false i x y).2.2
    part 1 + part 2 + part 3 + part 4 = x * y) ∧
  (∀ (ftz : Bool) (c : Acc) (f : DrainFmt),
    let neg := decide (c.a < 0)
    let v := Val.fin neg c.a.natAbs c.x
    let d := drain32 ftz false c
    drain32 ftz true c = (0x7fc00000, false) ∧ (c.a = 0 → d = (0, false)) ∧
    (c.a ≠ 0 → fpEncode fp32 .rne false 0 v % 2 ^ 31 = 0x7f800000 → d = (if neg then 0xff7fffff else 0x7f7fffff, true)) ∧
    (c.a ≠ 0 → fpEncode fp32 .rne false 0 v % 2 ^ 31 ≠ 0x7f800000 → d = (fpEncode fp32 .rne ftz 0 v, false)) ∧
    (∀ nan, drainLane ftz nan .fp32 c = drain32 ftz nan c) ∧
    drainLane ftz true .bf16 c = (0x7fc0, false) ∧ drainLane ftz true .fp16 c = (0x7e00, false) ∧
    (f ≠ .fp32 → let t := fpEncode (drainFp f) .rne ftz 0 (fpRead fp32 ftz d.1)
      drainLane ftz false f c = if t % 2 ^ 15 = (drainFp f).infEnc then (t - 1, true) else (t, d.2))))

/-! ### Fabric, cast, engine words -/

/-- R210, R211, R213: hops: a free link takes one beat, or eight for a vector, in successive cycles, of the value read at issue or, for a pass,
of the buffer as it then stands; a link still claimed raises BOUNDS with reason 8; RECV reads the buffer of a side.
R214 to R218: crossings. XSEND claims its link, or raises BOUNDS with reason 8, and sends the word, to arrive within the band and not before
the word sent last; with no crossing the word is discarded; with a circuit that is down it is counted lost at the sender, and in the cycle of
its tear-down lost and marked torn at both ends (12 R319, R320). XRECV takes the oldest word of its channel, or, with none, reads zero and
records the underrun. BANDQ reads the band, status and trim words of its table. CUETRIM asks for one exchange at the next multiple of 4,096
of its region's counter (12 R315); a region with no trim parent runs none.
The arrival cycle within the band is free (log 5). -/
def Obligations.FabricWords : Prop :=
  (∀ (s : State) (h : Here) (a : Sel) (r : Dst) (d fr : Side), s.here = some h →
    let busy := h.st.hopBusy[sideNo d]
    let claimed (n : Nat) := h.st.hopBusy.set (sideNo d) (h.cue + n)
    (busy ≤ h.cue →
      exec (.hop a d false) s = h.becomes { h.st with
        hopBusy := claimed 1, wires := h.st.wires ++ [⟨h.cue, d, false, 0, .val ((inLow (h.get64 .f a)).extractLsb' 0 256)⟩] } ∧
      exec (.hop a d true) s = h.becomes { h.st with
        hopBusy := claimed 8
        wires := h.st.wires ++ (List.range 8).map fun b => ⟨h.cue + b, d, true, b, .val ((h.getV .f a).extractLsb' (256 * b) 256)⟩ } ∧
      exec (.hopPass d false fr) s = h.becomes { h.st with hopBusy := claimed 1, wires := h.st.wires ++ [⟨h.cue, d, false, 0, .pass fr⟩] } ∧
      exec (.hopPass d true fr) s = h.becomes { h.st with
        hopBusy := claimed 8, wires := h.st.wires ++ (List.range 8).map fun b => ⟨h.cue + b, d, true, b, .pass fr⟩ }) ∧
    (h.cue < busy → ∀ w, exec (.hop a d w) s = h.traps cBOUNDS (BitVec.ofNat 64 (8 * 2 ^ 40 + (sideNo d).val)) ∧
      exec (.hopPass d w fr) s = h.traps cBOUNDS (BitVec.ofNat 64 (8 * 2 ^ 40 + (sideNo d).val))) ∧
    exec (.recv r d true) s = h.becomes (h.st.resV .f h.cue 1 r h.st.bufV[sideNo d] allLanes) ∧
    exec (.recv r d false) s = h.becomes (h.st.resF h.cue 1 r h.st.bufS[sideNo d])) ∧
  (∀ (s : State) (h : Here) (a : Sel) (r : Dst) (d : Side) (w : Bool) (ch : Fin 8), s.here = some h →
    let n := if w then 8 else 1
    let last := h.cue + n - 1
    let v := if w then h.getV .f a else inLow (h.get64 .f a)
    let st := { h.st with xBusy := h.st.xBusy.set (sideNo d) (h.cue + n) }
    (h.cue < h.st.xBusy[sideNo d] → exec (.xsend a d w ch) s = h.traps cBOUNDS (BitVec.ofNat 64 (8 * 2 ^ 40 + (sideNo d).val))) ∧
    (h.st.xBusy[sideNo d] ≤ h.cue →
      (h.s.crossing h.gang h.t.key d = none → exec (.xsend a d w ch) s = h.becomes st) ∧
      (∀ x, h.s.crossing h.gang h.t.key d = some x → x.up = false → x.torn = false → ∃ t u, exec (.xsend a d w ch) s = .next t ∧
        t.tiles = (h.s.setTile u).tiles ∧ u.key = h.t.key ∧ u.st = st ∧
        (u.status[sideNo d]).lost.toNat = min 0xffff ((h.t.status[sideNo d]).lost.toNat + 1) ∧ u.pend.routeLost = true) ∧
      (∀ x, h.s.crossing h.gang h.t.key d = some x → x.up = false → x.torn = true →
        exec (.xsend a d w ch) s = .next (let s' := s.setTile (({ h.t with st := st } : Tile).addTorn d ch)
          (s'.tileAt x.peer).elim s' fun u => s'.setTile (u.addTorn x.peerSide ch))) ∧
      (∀ x, h.s.crossing h.gang h.t.key d = some x → x.up = true → h.st.xLast[sideNo d] ≤ last + x.band.hi → x.band.lo ≤ x.band.hi →
        ∃ t arrive, exec (.xsend a d w ch) s = .next t ∧ last + x.band.lo ≤ arrive ∧ arrive ≤ last + x.band.hi ∧ h.st.xLast[sideNo d] ≤ arrive ∧
          t.tiles = (h.put { st with
            xLast := h.st.xLast.set (sideNo d) arrive, xwords := h.st.xwords ++ [⟨d, ch, w, v, h.cue, arrive, last + x.band.lo⟩] }).tiles)) ∧
    (∀ (t : Tile) (f : Side), ((t.addTorn f ch).status[sideNo f]).torn = (t.status[sideNo f]).torn ||| 1#8 <<< ch.val ∧
      ((t.addTorn f ch).status[sideNo f]).lost.toNat = min 0xffff ((t.status[sideNo f]).lost.toNat + 1) ∧ (t.addTorn f ch).pend.routeLost = true) ∧
    (∀ x rest, h.st.fifo[fifoIdx d ch] = x :: rest → exec (.xrecv r d w ch) s = h.becomes (TState.receive
      { h.st with fifo := h.st.fifo.set (fifoIdx d ch) rest } h.cue r w (if x.vec then x.v else inLow (low64 x.v)))) ∧
    (h.st.fifo[fifoIdx d ch] = [] → ∃ t u, exec (.xrecv r d w ch) s = .next t ∧ t.tiles = (h.s.setTile u).tiles ∧ u.key = h.t.key ∧
      u.st = h.st.receive h.cue r w 0 ∧ (u.status[sideNo d]).under.getLsbD ch.val = true ∧ u.pend.routeLost = true) ∧
    (∀ i, (h.get64 .f a).toNat % 256 = i →
      let reads (v : W64) : Prop := exec (.bandq r a) s = h.becomes (h.st.resF h.cue 2 r v)
      let side : Side := if i = 0 then .n else if i = 1 then .e else if i = 2 then .s else .w
      let x := h.s.crossing h.gang h.t.key side
      (i < 4 → (∀ c, x = some c → c.up = true → reads (BitVec.ofNat 64 (c.band.kind * 2 ^ 56 + c.band.depth * 2 ^ 48 +
        (h.t.ofs[sideNo side]).toNat * 2 ^ 40 + c.band.hi * 2 ^ 16 + c.band.lo))) ∧ ((∀ c ∈ x, c.up = false) → reads 0)) ∧
      (∀ (q : Fin 4), i = 4 + q.val → let y := h.t.status[q]
        reads (BitVec.ofNat 64 (y.lost.toNat * 2 ^ 32 + y.torn.toNat * 2 ^ 16 + y.overrun.toNat * 2 ^ 8 + y.under.toNat))) ∧
      (i = 8 → let y := (h.s.sites[h.t.site]).regions[h.t.region]
        reads (BitVec.ofNat 64 (y.trimGen.toNat * 2 ^ 32 + y.lastCorr.toNat))) ∧ (8 < i → reads 0)) ∧
    (s.parentOf h.t.site h.t.region = none → exec .cuetrim s = .next s) ∧
    (s.parentOf h.t.site h.t.region ≠ none → ∃ m, s.cue < m ∧ m ≤ s.cue + 4096 ∧
      (((s.sites[h.t.site]).regions[h.t.region]).heldTo ≤ s.cue → ((s.sites[h.t.site]).regions[h.t.region]).counterAt m % 4096 = 0) ∧
      exec .cuetrim s = .next (s.setRegion h.t.site h.t.region fun y => { y with trimFrom := some ((y.trimFrom.map (min m)).getD m) })))

/-- R225 to R231: the cast words: what each reads at issue, when its result and its change of the cast state land. A merge takes the KMAX that stands
when it lands: the model's choice (log 81).
R226 to R230, 02 R52: the arithmetic of the cast words. philox is ten rounds with the key stepped before each but the first. A weight is zero for
a NaN or a value below −40 in base 2, the largest for one not below zero, else what the steps of R227 give. A draw takes the first entry, in ascending
id, whose inclusive sum exceeds floor(M × U / 2^64); TOPK.p keeps the first KMIN entries and those whose preceding weight is below P × M / 2^32. -/
def Obligations.CastWords : Prop :=
  (∀ (s : State) (h : Here) (r : Dst) (a b : Sel), s.here = some h →
    let x (i : Nat) := lane (h.getV .f a) i
    let y (i : Nat) := lane (h.getV .f b) i
    let c := h.st.cast
    let o := philox c.key (c.seq.toNat, c.pos.toNat, (x 0).toNat, c.stream.toNat)
    let cands := (List.range 64).map fun i => (castWeight (x i), c.tbase + BitVec.ofNat 32 i)
    let res (lat : Nat) (v : Vec) := h.st.resV .f h.cue lat r v allLanes
    let k := (y 0).toNat % 128
    exec (.castKey a b) s = h.becomes (h.st.fly1 h.cue 1
      (.castKey h.co.info.seed (x 0) (x 1) ((x 2).setWidth 7) ((y 0).setWidth 24) (y 1))) ∧
    exec (.castRand r a) s = h.becomes (res 10 (twoLanes (BitVec.ofNat 32 o.1) (BitVec.ofNat 32 o.2.1))) ∧
    exec (.castUnif r a) s = h.becomes (res 12 (twoLanes (BitVec.ofNat 32 (rne32 (.fin false (o.1 / 256) (-24)))) 0)) ∧
    exec (.castScore r a) s = h.becomes (((h.st.fly1 h.cue 1 .castTbase).fly1 h.cue 8 (.castMerge cands)).resV .f h.cue 8 r
      (inLow (BitVec.ofNat 64 (sumWeights cands))) allLanes) ∧
    exec (.castTopkK a b) s = h.becomes (h.st.fly1 h.cue 4 (.castMerge ((List.range 64).map fun i => (x i, y i)))) ∧
    exec (.castTopkP a b) s = h.becomes (h.st.fly1 h.cue 4 (.castTopp (x 0) (if 1 ≤ k ∧ k ≤ 64 then k else 1))) ∧
    exec (.castMass r) s = h.becomes ((res 6 (inLow (BitVec.ofNat 64 (sumWeights c.list)))).fly1 h.cue 6
      (.castMass (BitVec.ofNat 64 (sumWeights c.list)))) ∧
    exec (.castPick r a) s = h.becomes ((res 12 (twoLanes (c.pick (h.getV .f a)).1 (c.pick (h.getV .f a)).2)).fly1 h.cue 12
      (.castLast ((c.pick (h.getV .f a)).2 ++ (c.pick (h.getV .f a)).1))) ∧
    exec .castClr s = h.becomes (h.st.fly1 h.cue 1 .castClr)) ∧
  ((∀ (key : W64) (c : Nat × Nat × Nat × Nat), ∃ x : Nat → Nat × Nat × Nat × Nat, x 0 = c ∧ philox key c = x 10 ∧ ∀ i < 10,
    let k0 := (key.toNat % 2 ^ 32 + i * 0x9e3779b9) % 2 ^ 32
    let k1 := (key.toNat / 2 ^ 32 + i * 0xbb67ae85) % 2 ^ 32
    let p0 := 0xd2511f53 * (x i).1
    let p1 := 0xcd9e8d57 * (x i).2.2.1
    x (i + 1) = ((p1 / 2 ^ 32) ^^^ (x i).2.1 ^^^ k0, p1 % 2 ^ 32, (p0 / 2 ^ 32) ^^^ (x i).2.2.2 ^^^ k1, p0 % 2 ^ 32)) ∧
  (∀ x : W32, let y := fpDecode fp32 (rne32 (Val.mul (fpDecode fp32 x.toNat) (fpDecode fp32 0x3fb8aa3b)))
    (fpDecode fp32 x.toNat = .nan → castWeight x = 0) ∧ (∀ s, y = .inf s → castWeight x = if s then 0 else 0xffffffff) ∧
    (∀ s m e, y = .fin s m e →
      (0 ≤ y.rat → castWeight x = 0xffffffff) ∧ (y.rat < -40 → castWeight x = 0) ∧
      (-40 ≤ y.rat → y.rat < 0 →
        let z : Int := ⌊y.rat * 2 ^ 22⌋
        let k : Int := z / 2 ^ 22 + 2
        let f := (z % 2 ^ 22).toNat
        let r := f % 2 ^ 14
        let p := 2 ^ 30 + 744261118 * r / 2 ^ 22 + 257941248 * r * r / 2 ^ 44
        let q : Nat := tableT.getD (f / 2 ^ 14) 0 * p / 2 ^ 30
        ((castWeight x).toNat : ℤ) = min 0xffffffff ⌊(q : ℚ) * 2 ^ k⌋))) ∧
  (∀ l : List (W32 × W32), sumWeights l = (l.map fun u => u.1.toNat).sum ∧ (l.length ≤ 64 → sumWeights l < 2 ^ 38)) ∧
  (∀ (c : CastState) (a : Vec), let j := (lane a 0).toNat % 64
    let o := philox c.key (c.seq.toNat, c.pos.toNat, (lane a 0).toNat, c.stream.toNat)
    let M := sumWeights c.list
    let u := M * (o.2.1 * 2 ^ 32 + o.1) / 2 ^ 64
    ((lane a 1).getLsbD 0 = true → (∀ x, c.list[j]? = some x → c.pick a = x) ∧ (c.list[j]? = none → c.pick a = (0, 0xffffffff))) ∧
    ((lane a 1).getLsbD 0 = false → M = 0 → c.pick a = (0xffffffff, 64)) ∧
    ((lane a 1).getLsbD 0 = false → M ≠ 0 → ∀ l : List (W32 × W32), l.Perm c.list → l.Pairwise (fun x y => x.2.toNat < y.2.toNat) →
      ∃ (k : Nat) (x : W32 × W32), l[k]? = some x ∧ sumWeights (l.take k) ≤ u ∧ u < sumWeights (l.take (k + 1)) ∧ c.pick a = (x.2, BitVec.ofNat 32 k))) ∧
  (∀ (c : CastState) (p : W32) (kmin : Nat), c.topp p kmin = { c with list := (((List.range c.list.length).filter fun j =>
    decide (j < kmin ∨ sumWeights (c.list.take j) * 2 ^ 32 < p.toNat * sumWeights c.list)).map fun j => c.list.getD j (0, 0)) }))

/-- R221, R222: the list of the cast state stays in rank order, without a repeated id, without weight zero, no longer than the limit, through
every merge of candidates.
R221 to R231: what the cast words have set in flight changes as it lands: the fields its rule names, nothing else. A merge puts in the candidates of
weight not zero whose id the list lacks, of one id the lowest lane's, and keeps the first of them all in rank order, up to the limit. -/
def Obligations.CastListStaysRanked : Prop :=
  (∀ (c : CastState) (cands : List (W32 × W32)),
    let good (l : List (W32 × W32)) : Prop := l.Pairwise (fun u v => v.1.toNat < u.1.toNat ∨ (u.1 = v.1 ∧ u.2.toNat < v.2.toNat)) ∧
      (l.map (·.2)).Nodup ∧ ∀ u ∈ l, u.1 ≠ 0
    good c.list → good (c.merge cands).list ∧ (c.merge cands).list.length ≤ c.limit ∧ c.limit ≤ 64) ∧
  ((∀ (st : TState) (key m v : W64) (seq pos tb p : W32) (kmax : BitVec 7) (sm : BitVec 24) (kmin : Nat) (cands : List (W32 × W32)),
    let c := st.cast
    let sets (e : Eff) (d : CastState) : Prop := st.landEff e = { st with cast := d }
    sets (.castKey key seq pos kmax sm tb) { c with key := key, seq := seq, pos := pos, kmax := kmax, stream := sm, tbase := tb } ∧
    sets .castTbase { c with tbase := c.tbase + 64 } ∧ sets (.castTopp p kmin) (c.topp p kmin) ∧ sets (.castMass m) { c with mass := m } ∧
    sets (.castLast v) { c with last := v } ∧ sets .castClr ⟨0, 0, 0, 0, 0, 0, [], 0, 0⟩ ∧
    sets (.castMerge cands) (c.merge cands)) ∧
  (∀ (c : CastState) (cands : List (W32 × W32)),
    let sorted (l : List (W32 × W32)) : Prop := l.Pairwise (fun u v => v.1.toNat < u.1.toNat ∨ (u.1 = v.1 ∧ u.2.toNat < v.2.toNat))
    sorted c.list → ∃ l, sorted l ∧ c.merge cands = { c with list := l.take c.limit } ∧
      ∀ u, u ∈ l ↔ u ∈ c.list ∨ (u.1 ≠ 0 ∧ (∀ v ∈ c.list, v.2 ≠ u.2) ∧
        ∃ i : Nat, cands[i]? = some u ∧ ∀ j < i, ∀ v : W32 × W32, cands[j]? = some v → v.1 ≠ 0 → v.2 ≠ u.2)) ∧
  (∀ c : CastState, c.limit = if 1 ≤ c.kmax.toNat ∧ c.kmax.toNat ≤ 64 then c.kmax.toNat else 64))

/-- R75: an engine word whose guard fails has no effect. -/
def Obligations.GuardedEngineWords : Prop :=
  ∀ (s : State) (h : Here) (g : Guard) (kg : Fin 8) (l : Fin 4) (sc : Scope) (op : COp) (rm : Rnd) (o : Fin 16) (st : Fin 32),
    s.here = some h → h.passes g = false →
    ∀ i ∈ [Instr.flyRd g kg, .flyWr g kg, .flyRd2 g kg, .flyWr2 g kg, .acopyRd g kg sc, .acopyWr g kg sc, .acopy2d g kg sc, .qmark g sc,
      .xcopy g kg rm, .xfill g kg, .give g kg o, .ownq l g kg, .wheelLd l g kg, .wheelSt g kg, .wheelAdd l g kg, .wheelXchg l g kg,
      .wheelCas l g kg, .mbput g kg, .mbget l g kg, .chorusAr g kg sc op, .chorusAg g kg sc, .chorusRs g kg sc op, .chorusBc g kg sc,
      .chorusBar g kg sc, .chorusReady g kg sc, .chorusCombine g kg sc op, .chorusJoin g kg sc, .chorusLeave g kg sc, .siteq l g st],
      exec i s = h.becomes h.st

/-- R183 to R190: the transfer words whose checks pass: a FLY takes its occurrence of the calendar and is outstanding; an ACOPY joins the load
or the store queue; QMARK joins both. Where checks fail, the first of R178's order is raised as BOUNDS; a FLY with no occurrence of its
calendar raises reason 7, a full queue reason 8; then OWNER on the lowest unit not lent to the engine. Which word and field tinfo names of a check that
joins several is log 29's reading; a FLY beside the word that enters local state still finds its occurrence: the model's choice (log 85). -/
def Obligations.TransferEngineWords : Prop :=
  ∀ (s : State) (h : Here) (g : Guard) (kg : Fin 8) (sc : Scope), s.here = some h → h.passes g = true →
    let fly (i : Instr) (two wr : Bool) : Prop :=
      let m := h.flyMove kg two wr
      let cs := h.moveChecks m true [(decide (65536 < m.rows * m.len), boundsInfo 6 1 (m.len / 64 - 1))]
      (∀ a b c, cs = a ++ c :: b → (∀ x ∈ a, x.1 = false) → c.1 = true → exec i s = h.traps cBOUNDS c.2) ∧
      (∀ e, (∀ c ∈ cs, c.1 = false) → h.segOf m.seg = some e →
        h.st.localSince ≠ none ∨ h.flyEntry wr (siteOf (m.target e)) (m.rows * m.len) = none →
        exec i s = h.traps cBOUNDS (boundsInfo 7 0 (h.stage kg 0).toNat)) ∧
      (∀ e n u, (∀ c ∈ cs, c.1 = false) → h.segOf m.seg = some e → h.st.localSince = none →
        h.flyEntry wr (siteOf (m.target e)) (m.rows * m.len) = some n → h.st.notOwnedSpans ownFly (rowSpans (m.xrows e)) = some u →
        exec i s = h.traps cOWNER (ownerInfo 0 (h.st.owner u) u)) ∧
      ∀ e n, (∀ c ∈ h.moveChecks m true [(decide (65536 < m.rows * m.len), boundsInfo 6 1 (m.len / 64 - 1))], c.1 = false) →
        h.segOf m.seg = some e → h.st.localSince = none → h.flyEntry wr (siteOf (m.target e)) (m.rows * m.len) = some n →
        h.st.notOwnedSpans ownFly (rowSpans (m.xrows e)) = none →
        exec i s = h.becomes { h.st with
          flyTaken := (n, h.cue) :: h.st.flyTaken.filter fun p => p.2 == h.cue
          fly := h.st.fly ++ [⟨wr, h.cue, siteOf (m.target e), flyWindow h.t.site (siteOf (m.target e)), m.xrows e, [], false, false, h.s.slot⟩] }
    let acopy (i : Instr) (six wr : Bool) : Prop :=
      let m := h.acopyMove kg six wr
      let rep := bit (h.stage kg 1) 20
      let rslot := bits (h.stage kg 1) 28 21
      (∀ a b c, h.moveChecks m false [(m.len % 64 != 0 || decide (m.len < 64) || decide (0x100000 < m.len), boundsInfo 6 2 m.len)] ++
          [(rep && (h.co.bound rslot).isNone, boundsInfo 9 0 (h.stage kg 0).toNat),
            (decide (32 ≤ (if wr then h.st.storeQ else h.st.loadQ).length), boundsInfo 8 0 (h.stage kg 0).toNat)] = a ++ c :: b →
        (∀ x ∈ a, x.1 = false) → c.1 = true → exec i s = h.traps cBOUNDS c.2) ∧
      ∀ e, (∀ c ∈ h.moveChecks m false [(m.len % 64 != 0 || decide (m.len < 64) || decide (0x100000 < m.len), boundsInfo 6 2 m.len)], c.1 = false) →
        (rep = true → (h.co.bound rslot).isSome = true) → (if wr then h.st.storeQ else h.st.loadQ).length < 32 →
        h.segOf m.seg = some e →
        (∀ u, h.st.notOwnedSpans ownAcopy (rowSpans (m.xrows e)) = some u → exec i s = h.traps cOWNER (ownerInfo 0 (h.st.owner u) u)) ∧
        (h.st.notOwnedSpans ownAcopy (rowSpans (m.xrows e)) = none →
        let x : AcEntry := ⟨h.st.nextEntry, false, sc, m.seg, m.xrows e, rep, rslot, .waiting, 0, []⟩
        exec i s = h.becomes { h.st with
          loadQ := if wr then h.st.loadQ else h.st.loadQ ++ [x], storeQ := if wr then h.st.storeQ ++ [x] else h.st.storeQ
          nextEntry := h.st.nextEntry + 1 })
    let mark : AcEntry := ⟨h.st.nextEntry, true, sc, 0, [], false, 0, .waiting, 0, []⟩
    fly (.flyRd g kg) false false ∧ fly (.flyWr g kg) false true ∧ fly (.flyRd2 g kg) true false ∧ fly (.flyWr2 g kg) true true ∧
    acopy (.acopyRd g kg sc) false false ∧ acopy (.acopyWr g kg sc) false true ∧
    (∀ dir, bit (h.stage kg 3) 12 = dir → acopy (.acopy2d g kg sc) true dir) ∧
    (h.st.loadQ.length < 32 → h.st.storeQ.length < 32 → exec (.qmark g sc) s = h.becomes { h.st with
      loadQ := h.st.loadQ ++ [mark], storeQ := h.st.storeQ ++ [mark], nextEntry := h.st.nextEntry + 1 }) ∧
    (32 ≤ h.st.loadQ.length ∨ 32 ≤ h.st.storeQ.length → exec (.qmark g sc) s = h.traps cBOUNDS (BitVec.ofNat 64 (8 * 2 ^ 40)))

/-- R31, R180: GIVE lands: the OWNER of every unit of its range is as given and POISON is clear; nothing else changes.
R180 to R182, R197: GIVE, OWNQ, SITEQ and the mailbox words in place; a mailbox word's command joins its queue of eight; on a word that is not bound, and
with the queue full, BOUNDS of reasons 9 and 8. That GIVE's BOUNDS names its count is log 29's reading.
R195, R196: a wheel word at a position of its gang, alone on the wheel in its bundle, on an aligned word of pinned deck memory it may
access, is outstanding with its memory address; off its positions it raises WHEELPOS with reason 1, beside another wheel word with reason 2
(reason 1 first where both hold: the model's choice, log 70).
R192 to R194, R178: a copy word whose checks pass joins the copy unit, to start as the last command ends and to run for its cost: XFILL on whole
words, XCOPY between two sides in any of their formats: raw, scalar or block formats of their banks, MX arrays, the weight store. The first check of
R178's order that fails is raised; then BANKFMT for a range that reaches a bank of another format (reason 3) or a RAW32 side beside elements that are
not 4 bytes (reason 5), OWNER on the lowest unit not lent, WREFRESH. That the trap of reason 5 names the destination's bank, and that an MX code
without a format is BOUNDS of reason 6, is log 31's reading; which field a joint check names is log 29's; a plain side need not be aligned (log 30); a
command that ends in the cycle of issue no longer counts toward the eight (log 32). -/
def Obligations.EngineUnitWords : Prop :=
  (∀ (st : TState) (first n : Nat) (o : BitVec 4), let x := st.landEff (.give first n o);
    (∀ u : Fin 256, x.own[u] = if first ≤ u.val ∧ u.val < first + n then o.setWidth 8 else st.own[u]) ∧ x = { st with own := x.own } ∧
    ∀ u : Fin 256, first ≤ u.val → u.val < first + n → x.owner u.val = o.toNat) ∧
  (∀ (s : State) (h : Here) (g : Guard) (kg : Fin 8) (l : Fin 4) (o : Fin 16) (st : Fin 17) (m : Nat), s.here = some h → h.passes g = true →
    let w := h.stage kg 0
    let u := bits w 7 0
    let cnt := bits w 15 8
    (u + cnt ≤ 255 → (∀ v, u ≤ v → v ≤ u + cnt → h.st.owner v = ownCore) →
      exec (.give g kg o) s = h.becomes (h.st.fly1 h.cue 1 (.give u (cnt + 1) (BitVec.ofNat 4 o.val)))) ∧
    (255 < u + cnt → exec (.give g kg o) s = h.traps cBOUNDS (BitVec.ofNat 64 (6 * 2 ^ 40 + cnt))) ∧
    exec (.ownq l g kg) s = h.becomes (h.st.fly1 h.cue 2 (.latS h.s.slot l (BitVec.ofNat 64 (h.st.ownRead u)))) ∧
    (∀ old epoch, ((h.s.changes.find? fun c => c.site == st && c.ahead.contains (h.t.site, h.t.region)).map fun c => (c.was, c.epoch)).getD
        ((h.s.sites[st]).state, (h.s.sites[st]).epoch) = (old, epoch) →
      exec (.siteq l g ⟨st.val, by omega⟩) s = h.becomes (h.st.fly1 h.cue 2 (.latS h.s.slot l
        (BitVec.ofNat 64 (epoch.toNat * 2 ^ 32 + old.code))))) ∧
    (h.co.bound u = some m → h.st.mbQ.length < 8 →
      exec (.mbput g kg) s = h.becomes { h.st with mbQ := h.st.mbQ ++ [⟨true, m, h.stage kg 1, none, h.cue⟩] } ∧
      exec (.mbget l g kg) s = h.becomes { h.st with mbQ := h.st.mbQ ++ [⟨false, m, 0, some (h.s.slot, l), h.cue⟩] }) ∧
    (h.co.bound u = none → exec (.mbput g kg) s = h.traps cBOUNDS (BitVec.ofNat 64 (9 * 2 ^ 40 + w.toNat % 2 ^ 32)) ∧
      exec (.mbget l g kg) s = h.traps cBOUNDS (BitVec.ofNat 64 (9 * 2 ^ 40 + w.toNat % 2 ^ 32))) ∧
    ((h.co.bound u).isSome = true → 8 ≤ h.st.mbQ.length →
      exec (.mbput g kg) s = h.traps cBOUNDS (BitVec.ofNat 64 (8 * 2 ^ 40 + w.toNat % 2 ^ 32)) ∧
      exec (.mbget l g kg) s = h.traps cBOUNDS (BitVec.ofNat 64 (8 * 2 ^ 40 + w.toNat % 2 ^ 32))) ∧
    (∀ v, u + cnt ≤ 255 → h.st.notOwned ownCore (u * 4096) ((cnt + 1) * 4096) = some v →
      exec (.give g kg o) s = h.traps cOWNER (ownerInfo 0 (h.st.owner v) v))) ∧
  (∀ (s : State) (h : Here) (g : Guard) (kg : Fin 8) (l : Fin 4), s.here = some h → h.passes g = true →
    let p := h.cue % 8192
    let w0 := h.stage kg 0
    let w1 := h.stage kg 1
    let off := bits w0 47 0
    let runs (i : Instr) (op : WheelOp) (lat : Option (Slot × Fin 4)) : Prop :=
      ∀ e, h.segOf (bits w0 53 48) = some e → h.gang.bin.wheel.contains p = true → h.twoWheels = false → off % 4 = 0 →
        e.passes off 4 = false → (op ≠ .st → e.rd = true) → (op ≠ .ld → e.wr = true) → e.pinnedDeck = true →
        let v := if op = .ld then 0 else w1
        exec i s = h.becomes { h.st with wheel := h.st.wheel ++ [⟨op, e.base + off, siteOf (e.base + off), v.extractLsb' 0 32,
          v.extractLsb' 32 32, h.cue, flyWindow h.t.site (siteOf (e.base + off)), lat, none, h.s.slot⟩] }
    let here := some (h.s.slot, l)
    runs (.wheelLd l g kg) .ld here ∧ runs (.wheelSt g kg) .st none ∧ runs (.wheelAdd l g kg) .add here ∧
    runs (.wheelXchg l g kg) .xchg here ∧ runs (.wheelCas l g kg) .cas here ∧
    (∀ i ∈ [Instr.wheelLd l g kg, .wheelSt g kg, .wheelAdd l g kg, .wheelXchg l g kg, .wheelCas l g kg],
      (h.gang.bin.wheel.contains p = false → exec i s = h.traps cWHEELPOS (BitVec.ofNat 64 (1 * 2 ^ 14 + p))) ∧
      (h.gang.bin.wheel.contains p = true → h.twoWheels = true → exec i s = h.traps cWHEELPOS (BitVec.ofNat 64 (2 * 2 ^ 14 + p))))) ∧
  (∀ (s : State) (h : Here) (g : Guard) (kg : Fin 8) (rm : Rnd), s.here = some h → h.passes g = true →
    let w0 := h.stage kg 0
    let w1 := h.stage kg 1
    let w2 := h.stage kg 2
    let enters (k : CopyKind) (cost : Nat) : Host.Outcome State Fault Refusal :=
      h.becomes { h.st with copyQ := h.st.copyQ ++ [⟨k, h.copyStart, h.copyStart + 4 + cost, none⟩] }
    (h.copyFull = true ↔ 8 ≤ (h.st.copyQ.filter fun c => decide (h.cue < c.finish)).length) ∧
    (h.st.copyQ = [] → h.copyStart = h.cue + 1) ∧ (∀ q c, h.st.copyQ = q ++ [c] → h.copyStart = max c.finish (h.cue + 1)) ∧
    (let a := bits w0 19 0
      let n := bits w0 40 20
      let cs : List Check := [(a % 4 != 0, boundsInfo 5 0 a), (n % 4 != 0 || decide (n < 4) || decide (0x100000 < n), boundsInfo 6 0 n),
        (decide (0x100000 < a + n), boundsInfo 4 0 a), (h.copyFull, boundsInfo 8 0 w0.toNat)]
      (∀ p c q, cs = p ++ c :: q → (∀ x ∈ p, x.1 = false) → c.1 = true → exec (.xfill g kg) s = h.traps cBOUNDS c.2) ∧
      ((∀ c ∈ cs, c.1 = false) →
        (∀ u, h.st.notOwnedSpans ownCopy [(a, n)] = some u → exec (.xfill g kg) s = h.traps cOWNER (ownerInfo 0 (h.st.owner u) u)) ∧
        (h.st.notOwnedSpans ownCopy [(a, n)] = none → exec (.xfill g kg) s = enters (.xfill a n (w1.extractLsb' 0 32)) ((n + 255) / 256)))) ∧
    (let smx := bit w0 43
      let dmx := bit w1 43
      let sw := bit w0 22
      let src := if sw then bits w0 21 0 else bits w0 19 0
      let dst := bits w1 19 0
      let scl := bits w2 51 32
      let nel := bits w2 20 0
      let code := bits w0 39 32
      let fs : ElFmt := if sw then .code (BitVec.ofNat 8 code) else if smx then .mx ((mxFmtOf (bits w0 42 40)).getD .int8)
        else .code ((h.t.fmt (src / 0x10000)).setWidth 8)
      let fd : ElFmt := if dmx then .mx ((mxFmtOf (bits w1 42 40)).getD .int8) else .code ((h.t.fmt (dst / 0x10000)).setWidth 8)
      let ss := if sw then [] else fs.spans src nel scl
      let ds := fd.spans dst nel scl
      let cs : List Check := [(fs.misaligned sw src, boundsInfo 5 0 src), (fd.misaligned false dst, boundsInfo 5 1 dst),
        (smx && dmx || sw && smx, boundsInfo 6 0 1), (sw && !isFmtCode code, boundsInfo 6 0 code),
        (smx && (mxFmtOf (bits w0 42 40)).isNone, boundsInfo 6 0 (bits w0 42 40)),
        (dmx && (mxFmtOf (bits w1 42 40)).isNone, boundsInfo 6 1 (bits w1 42 40)),
        (nel == 0 || decide (0x100000 < nel) || (fs.block?.isSome || fd.block?.isSome) && nel % 256 != 0 || (smx || dmx) && nel % 32 != 0,
          boundsInfo 6 2 nel),
        (if sw then decide (0x400000 < src + fs.bytes nel) else pastEnd (ss.take 1) || !fs.isMx && pastEnd ss, boundsInfo 4 0 src),
        (pastEnd (ds.take 1) || !fd.isMx && pastEnd ds, boundsInfo 4 1 dst),
        ((fs.isMx || fd.isMx) && decide (0x100000 < scl + nel / 32), boundsInfo 4 2 scl), (h.copyFull, boundsInfo 8 0 w0.toNat)]
      let same (f : ElFmt) (ps : List Span) : Prop := f.isMx = true ∨ h.otherBank ps = none
      let paired : Prop := (fs.isRaw = true → fd.fourBytes = true) ∧ (fd.isRaw = true → fs.fourBytes = true)
      let cost := (nel + 63) / 64
      (∀ p c q, cs = p ++ c :: q → (∀ x ∈ p, x.1 = false) → c.1 = true → exec (.xcopy g kg rm) s = h.traps cBOUNDS c.2) ∧
      ((∀ c ∈ cs, c.1 = false) →
        (∀ b, sw = false → fs.isMx = false → h.otherBank ss = some b → exec (.xcopy g kg rm) s = h.traps cBANKFMT (bankInfo 0 b 3)) ∧
        ((sw = true ∨ same fs ss) → ∀ b, fd.isMx = false → h.otherBank ds = some b → exec (.xcopy g kg rm) s = h.traps cBANKFMT (bankInfo 0 b 3)) ∧
        ((sw = true ∨ same fs ss) → same fd ds → ¬paired → exec (.xcopy g kg rm) s = h.traps cBANKFMT (bankInfo 0 (dst / 0x10000) 5)) ∧
        ((sw = true ∨ same fs ss) → same fd ds → paired →
          (∀ u, h.st.notOwnedSpans ownCopy (ss ++ ds) = some u → exec (.xcopy g kg rm) s = h.traps cOWNER (ownerInfo 0 (h.st.owner u) u)) ∧
          (h.st.notOwnedSpans ownCopy (ss ++ ds) = none →
            (∀ c, sw = true → refreshClash h.copyStart cost src (fs.bytes nel) = some c →
              exec (.xcopy g kg rm) s = h.traps cWREFRESH (BitVec.ofNat 64 (c.1 * 2 ^ 16 + c.2))) ∧
            ((sw = true → refreshClash h.copyStart cost src (fs.bytes nel) = none) → exec (.xcopy g kg rm) s =
              enters (.xcopy fs fd sw src dst scl nel rm (copyUnit h.s.slot) h.st.ordinal) cost))))))

/-- R199, R200: a collective whose checks pass stands in its tile with the round of its bucket posted; one whose generation is not the company's, or
whose gang is no member of the ring, is stale and joins no round. The members of a bucket are the gangs of the ring that have a tile at the place:
where shapes differ, the model's choice (log 77).
R200, R203, R205: READY hands the buffer of its bucket's descriptor over; COMBINE waits for its fold; JOIN and LEAVE wait for a ring
boundary, or complete alone where they change nothing. A gang whose removal waits for the boundary is no member (07 R198, 13 R335). -/
def Obligations.ChorusWords : Prop :=
  (∀ (s : State) (h : Here) (g : Guard) (kg : Fin 8) (sc : Scope) (op : COp), s.here = some h → h.passes g = true →
    let members := h.co.bucketRing h.t.key.row h.t.key.col
    let posts (i : Instr) (kind : CKind) (op : COp) : Prop :=
      let d := h.chorusDesc kg kind op sc
      let n := d.nel * opBytes op
      let red : Prop := kind = .ar ∨ kind = .rs
      (kind ≠ .bar → d.buf % 64 = 0 ∧ 1 ≤ d.nel ∧ d.nel ≤ 0x100000 ∧ d.nel % (32 * (if kind = .bc then 1 else members.length)) = 0 ∧
        d.buf + n ≤ 0x100000) →
      (red → d.slots % 64 = 0 ∧ d.slots + n ≤ 0x100000 ∧ h.st.notOwnedSpans ownChorus [(d.slots, n)] = none) →
      (kind = .bc → d.root < members.length) → d.tmo ≠ 0 → (∀ x ∈ h.st.chorus, x.bucket ≠ d.bucket) →
      let t := { h.t with st := { h.st with chorus := h.st.chorus ++ [d] } }
      (d.stale = true → exec i s = .next (h.s.setTile t)) ∧
      (d.stale = false → exec i s = .next ((h.s.setTile t).setCo (h.co.postDesc t d s.cue)))
    posts (.chorusAr g kg sc op) .ar op ∧ posts (.chorusAg g kg sc) .ag .i32 ∧ posts (.chorusRs g kg sc op) .rs op ∧
    posts (.chorusBc g kg sc) .bc .i32 ∧ posts (.chorusBar g kg sc) .bar .i32 ∧
    (let d := h.chorusDesc kg .bar .i32 sc;
      (d.stale = true ↔ (d.gen ≠ 0xffff ∧ d.gen ≠ h.co.gen) ∨ h.t.key.gang ∉ h.co.ring ∨ h.t.key.gang ∈ h.co.leaves)) ∧
    (∀ x, x ∈ members ↔ x ∈ h.co.ring ∧ ∃ y, h.co.gangAt x = some y ∧ h.t.key.row < y.bin.rows ∧ h.t.key.col < y.bin.cols)) ∧
  (∀ (s : State) (h : Here) (g : Guard) (kg : Fin 8) (sc : Scope) (op : COp) (d : CDesc), s.here = some h → h.passes g = true →
    let w0 := h.stage kg 0
    let w2 := h.stage kg 2
    let isIn := h.co.isMember h.t.key.gang
    (h.st.chorus = [d] → d.bucket.val = bits w0 41 36 → d.stale = false → d.ready = false → d.kind ≠ .bar →
      h.st.notOwnedSpans ownChorus [(d.buf, d.nel * opBytes d.op)] = none →
      ∃ t, exec (.chorusReady g kg sc) s = .next t ∧ t.tiles = (h.put { h.st with chorus := [{ d with ready := true }] }).tiles) ∧
    (h.st.chorus = [] → exec (.chorusReady g kg sc) s = h.traps cBOUNDS (BitVec.ofNat 64 (10 * 2 ^ 40 + w0.toNat % 2 ^ 32))) ∧
    (let c : CombineCmd := ⟨bucketOf w0, op, sc, bits w0 19 0, bits (h.stage kg 1) 19 0, bits w2 26 24, bits w2 20 0, bit w0 27, bits w0 35 28, h.cue⟩;
      c.buf % 64 = 0 → c.slots % 64 = 0 → bits w2 63 48 = 0 → 1 ≤ c.nel → c.nel ≤ 0x100000 → c.buf + c.nel * opBytes op ≤ 0x100000 →
      c.slots + (c.ns + 1) * (c.nel * opBytes op) ≤ 0x100000 → h.st.notOwnedSpans ownChorus c.spans = none →
      exec (.chorusCombine g kg sc op) s = h.becomes { h.st with combine := h.st.combine ++ [c] }) ∧
    exec (.chorusJoin g kg sc) s = h.becomes { h.st with
      ringReq := h.st.ringReq ++ [⟨bucketOf w0, true, bit w0 27, bits w0 35 28, h.cue, isIn⟩] } ∧
    exec (.chorusLeave g kg sc) s = h.becomes { h.st with
      ringReq := h.st.ringReq ++ [⟨bucketOf w0, false, bit w0 27, bits w0 35 28, h.cue, !isIn⟩] })

/-- 03 R80, R89; 10 R281: what no slot word touches: deck memory, the weight stores, the queues, the cues, every other company and every tile
but its own, but for the status words of the tile across a circuit torn down in the very cycle of an XSEND (12 R320). No word changes the
sites, CUETRIM's request apart. -/
def Obligations.SlotWordFrame : Prop :=
  ∀ (i : Instr) (s t : State) (h : Here), (encode i).isSome = true → s.here = some h → exec i s = .next t →
    t.mem = s.mem ∧ t.weights = s.weights ∧ t.hostMem = s.hostMem ∧ t.mbox = s.mbox ∧ t.queues = s.queues ∧ t.cue = s.cue ∧
    t.agenda = s.agenda ∧ t.inputs = s.inputs ∧ t.log = s.log ∧ t.circuits = s.circuits ∧ t.fw = s.fw ∧
    t.tiles.length = s.tiles.length ∧
    (∀ k, k ≠ h.t.key → t.tileAt k = s.tileAt k ∨ (∃ a d w ch x u, i = .xsend a d w ch ∧ s.crossing h.gang h.t.key d = some x ∧ x.torn = true ∧
      x.peer = k ∧ s.tileAt k = some u ∧ t.tileAt k = some (u.addTorn x.peerSide ch))) ∧
    (∀ n, n ≠ h.co.num → t.coAt n = s.coAt n) ∧ (i ≠ .cuetrim → t.sites = s.sites)

/-- Frame of the scalar words that only compute: where no cause is raised, nothing of the tile changes but its results in flight, and these
are its latch, its destination register or predicate (01 R13; 03 R73; 04 R118). -/
def Obligations.ScalarComputeFrame : Prop :=
  ∀ (s t : State) (h : Here) (r : Dst) (a b : Sel) (imm : BitVec 16) (n6 : BitVec 6) (n : Bool) (l : Fin 4) (p : Fin 8) (inv : Bool)
    (base : Fin 32) (off : BitVec 10) (st : Fin 8), s.here = some h →
    (∀ i ∈ [Instr.add r a b, .sub r a b, .and r a b, .or r a b, .xor r a b, .shl r a b, .shr r a b, .sha r a b, .min r a b, .max r a b,
        .minn r a b, .maxn r a b, .clz r a, .popc r a, .mul r a b, .mulh r a b, .mulhn r a b, .div r a b, .divn r a b, .rem r a b, .remn r a b,
        .sel r a b inv p, .bfx r a b, .bfi r a b, .addi r imm, .andi r imm, .ori r imm, .xori r imm, .shli r n6, .shri r n6, .shai r n6,
        .li r imm, .lih r imm, .ld8 r base off, .ld16 r base off, .ld32 r base off, .ld64 r base off, .ld8Stream r st, .ld16Stream r st,
        .ld32Stream r st, .ld64Stream r st, .rdid r imm, .rdcfg r imm, .rdcue r, .rddeck r],
      exec i s = .next t → t.raised = s.raised → s.raised = none → ∃ c v, h.onlyFlies t
        (⟨c, .latS .s r.l v⟩ :: if r.n then [] else [⟨c, .sreg r.d v⟩])) ∧
    (∀ i ∈ [Instr.cmpEq n l p a b, .cmpNe n l p a b, .cmpLt n l p a b, .cmpLtn n l p a b, .cmpGe n l p a b, .cmpGen n l p a b],
      exec i s = .next t → ∃ v, h.onlyFlies t
        (⟨h.cue + 1, .latS .s l (if v then 1 else 0)⟩ :: if n then [] else [⟨h.cue + 1, .pred p v⟩]))

/-- 01 R13, R21; 03 R80; 05 R130 to R154; 06 R156 to R171; 07 R175 to R206; 08 R207 to R231: where words run with their own effect, no cause raised.
The floating-point, block, reduction, array and cast words always do, as do RECV, XRECV and BANDQ: their results and changes are in flight, due at
their latencies. The others do under the conditions their rules give, on the state and the operands alone: a range of the scratchpad in place, in one
bank format, on units of the core; a link that is free; a guard that passes and checks that pass. Then the command stands in its queue, the beat on
the link. A plain side of XCOPY need not be aligned (log 30); a FLY beside the word that enters local state finds its occurrence (log 85); which gangs
are members of a bucket where shapes differ: log 77. -/
def Obligations.WordsComplete : Prop :=
  ∀ (s : State) (h : Here) (r : Dst) (a b d : Sel) (base : Fin 32) (off : BitVec 10) (n : Fin 8) (rm : Rnd) (fr tf : CvtFmt) (w : Width)
    (mx : MxFmt) (ty : RedTy) (set : Fin 2) (row : Fin 32) (n6 : BitVec 6) (syn sp : Bool) (wa wb : Width) (df : DrainFmt)
    (side from_ : Side) (vec : Bool) (g : Guard) (kg : Fin 8) (l : Fin 4) (o : Fin 16) (st : Fin 32) (sc : Scope) (op : COp), s.here = some h →
    let lands (lo hi : Nat) (i : Instr) : Prop := ∃ es : List Flight, es ≠ [] ∧ (∀ e ∈ es, h.cue + lo ≤ e.due ∧ e.due ≤ h.cue + hi) ∧
      exec i s = .next (h.put { h.st with flight := h.st.flight ++ es })
    let runs (i : Instr) (p : TState → Prop) : Prop := ∃ t u, exec i s = .next t ∧ t.raised = s.raised ∧ t.tileAt h.t.key = some u ∧ p u.st
    let grows (i : Instr) (q : TState → Nat) : Prop := runs i fun st => q h.st < q st
    (∀ i ∈ [Instr.vfmin r a b, .vfmax r a b, .vfabs r a, .vfneg r a, .bandq r a], lands 2 2 i) ∧
    (∀ i ∈ [Instr.vfadd r a b rm, .vfsub r a b rm, .vfmul r a b rm, .vfma r a b rm, .vcvt r a fr tf rm, .castTopkK a b, .castTopkP a b],
      lands 4 4 i) ∧
    (∀ i ∈ [Instr.vexp2 r a, .vlog2 r a, .vrcp r a, .vrsq r a, .vtanh r a, .vqblk r a w rm, .vdqblk r a w rm, .vmxq r a mx rm,
      .vmxdq r a mx rm], lands 8 8 i) ∧
    (∀ i ∈ [Instr.vredadd r a ty, .vredmax r a ty, .vredmin r a ty, .vscan r a ty, .mloadbS row a, .castMass r], lands 6 6 i) ∧
    (∀ i ∈ [Instr.mshift n6, .mscale a, .msparse a, .mmode syn sp w, .mzero set, .recv r side vec, .castKey a b, .castClr], lands 1 1 i) ∧
    (∀ i ∈ [Instr.macc set row, .maccDrop set row, .mpush set row a wa wb sp n], lands 34 34 i) ∧
    (∀ i ∈ [Instr.mdrain r set row df, .mflags r set], lands 3 3 i) ∧
    lands 10 10 (.castRand r a) ∧ (∀ i ∈ [Instr.castUnif r a, .castPick r a], lands 12 12 i) ∧ lands 1 8 (.castScore r a) ∧
    (let x := (lane (h.getV .m a) 0).toNat;
      x % 4096 = 0 → x ≤ 0x1f000 → 64 ≤ h.cue % 512 → h.s.weightBad.contains (h.s.weightBase h.t) = false → lands 6 6 (.mloadbW a)) ∧
    (∀ x ld sto, (ld = Instr.vld r base off ∧ sto = .vst d base off ∧ h.st.baseAddr base off 64 = ((x : Nat) : Int)) ∨
        (ld = .vldStream r n ∧ sto = .vstStream d n ∧ h.st.streamAddr n = ((x : Nat) : Int)) →
      let f := h.t.bankFmt (x / 0x10000)
      let len : Nat := match f with
        | .block v => 4 + 32 * widthBits v
        | _ => 64 * f.bytes
      (∀ u, x / 4096 ≤ u → u ≤ (x + len - 1) / 4096 → h.st.owner u = 0) →
      (f.isBlock = false → x % f.bytes = 0 → x + len ≤ 0x100000 → h.t.fmt ((x + len - 1) / 0x10000) = h.t.fmt (x / 0x10000) →
        lands 5 5 ld ∧ lands 2 2 sto) ∧
      (∀ v, f = .block v → x < 0x100000 → blockStart v x = true →
        (r.d.val % 4 = 0 → lands 5 5 ld) ∧ (d.isGroup = true → h.st.active = allLanes → lands 2 2 sto))) ∧
    (let x (i : Nat) : Nat := (lane (h.getV h.s.slot a) i).toNat + (lane (h.getV h.s.slot b) i).toNat
      let f (i : Nat) := h.t.bankFmt (x i / 0x10000)
      (∀ i < 64, h.st.active.getLsbD i = true → x i < 0x100000 ∧ (f i).isBlock = false ∧ x i % (f i).bytes = 0 ∧ h.st.owner (x i / 4096) = 0) →
      lands 5 5 (.vldx r a b) ∧ lands 2 2 (.vstx d a b)) ∧
    (h.st.hopBusy[sideNo side] ≤ h.cue → grows (.hop a side vec) (·.wires.length) ∧ grows (.hopPass side vec from_) (·.wires.length)) ∧
    grows (.xrecv r side vec n) (·.flight.length) ∧
    (h.st.xBusy[sideNo side] ≤ h.cue → runs (.xsend a side vec n) fun st => h.cue < st.xBusy[sideNo side]) ∧
    (s.parentOf h.t.site h.t.region ≠ none → ∃ t, exec .cuetrim s = .next t ∧ t.raised = s.raised ∧
      (((t.sites[h.t.site]).regions[h.t.region]).trimFrom).isSome = true) ∧
    (h.passes g = true →
      let w0 := h.stage kg 0
      let w1 := h.stage kg 1
      let w2 := h.stage kg 2
      (∀ wr two i, (i, two, wr) ∈ [(Instr.flyRd g kg, false, false), (.flyWr g kg, false, true), (.flyRd2 g kg, true, false), (.flyWr2 g kg, true, true)] →
        let m := h.flyMove kg two wr
        ∀ e k, (∀ c ∈ h.moveChecks m true [(decide (65536 < m.rows * m.len), boundsInfo 6 1 (m.len / 64 - 1))], c.1 = false) →
          h.segOf m.seg = some e → h.st.localSince = none → h.flyEntry wr (siteOf (m.target e)) (m.rows * m.len) = some k →
          h.st.notOwnedSpans ownFly (rowSpans (m.xrows e)) = none → grows i (·.fly.length)) ∧
      (∀ wr six i, (i, six, wr) ∈ [(Instr.acopyRd g kg sc, false, false), (.acopyWr g kg sc, false, true), (.acopy2d g kg sc, true, bit (h.stage kg 3) 12)] →
        let m := h.acopyMove kg six wr
        ∀ e, (∀ c ∈ h.moveChecks m false [(m.len % 64 != 0 || decide (m.len < 64) || decide (0x100000 < m.len), boundsInfo 6 2 m.len)], c.1 = false) →
          (bit w1 20 = true → (h.co.bound (bits w1 28 21)).isSome = true) → h.st.storeQ.length < 32 → h.st.loadQ.length < 32 →
          h.segOf m.seg = some e → h.st.notOwnedSpans ownAcopy (rowSpans (m.xrows e)) = none →
          grows i fun t => t.loadQ.length + t.storeQ.length) ∧
      (h.st.loadQ.length < 32 → h.st.storeQ.length < 32 → grows (.qmark g sc) (·.loadQ.length) ∧ grows (.qmark g sc) (·.storeQ.length)) ∧
      (h.copyFull = false →
        (let x := bits w0 19 0
          let len := bits w0 40 20;
          x % 4 = 0 → len % 4 = 0 → 4 ≤ len → len ≤ 0x100000 → x + len ≤ 0x100000 → h.st.notOwnedSpans ownCopy [(x, len)] = none →
          grows (.xfill g kg) (·.copyQ.length)) ∧
        (let x := bits w0 19 0
          let y := bits w1 19 0
          let nel := bits w2 20 0;
          bit w0 43 = false → bit w1 43 = false → bit w0 22 = false → 1 ≤ nel → nel ≤ 0x100000 → (∀ b < 16, h.t.fmt b = 0) →
          x + 4 * nel ≤ 0x100000 → y + 4 * nel ≤ 0x100000 → h.st.notOwnedSpans ownCopy [(x, 4 * nel), (y, 4 * nel)] = none →
          grows (.xcopy g kg rm) (·.copyQ.length))) ∧
      (let u := bits w0 7 0
        let cnt := bits w0 15 8;
        u + cnt ≤ 255 → (∀ v, u ≤ v → v ≤ u + cnt → h.st.owner v = ownCore) → lands 1 1 (.give g kg o)) ∧
      (∀ i ∈ [Instr.ownq l g kg, .siteq l g st], lands 2 2 i) ∧
      ((h.co.bound (bits w0 7 0)).isSome = true → h.st.mbQ.length < 8 → ∀ i ∈ [Instr.mbput g kg, .mbget l g kg], grows i (·.mbQ.length)) ∧
      (∀ e, h.segOf (bits w0 53 48) = some e → h.gang.bin.wheel.contains (h.cue % 8192) = true → h.twoWheels = false → bits w0 47 0 % 4 = 0 →
        e.passes (bits w0 47 0) 4 = false → e.rd = true → e.wr = true → e.pinnedDeck = true →
        ∀ i ∈ [Instr.wheelLd l g kg, .wheelSt g kg, .wheelAdd l g kg, .wheelXchg l g kg, .wheelCas l g kg], grows i (·.wheel.length)) ∧
      (∀ i kind cop, (i, kind, cop) ∈ [(Instr.chorusAr g kg sc op, CKind.ar, op), (.chorusAg g kg sc, .ag, .i32), (.chorusRs g kg sc op, .rs, op),
          (.chorusBc g kg sc, .bc, .i32), (.chorusBar g kg sc, .bar, .i32)] →
        let c := h.chorusDesc kg kind cop sc
        let len := c.nel * opBytes cop
        (kind ≠ .bar → c.buf % 64 = 0 ∧ 1 ≤ c.nel ∧ c.nel ≤ 0x100000 ∧ c.nel % (32 * (if kind = .bc then 1 else (h.co.bucketRing h.t.key.row h.t.key.col).length)) = 0 ∧
          c.buf + len ≤ 0x100000) →
        (kind = .ar ∨ kind = .rs → c.slots % 64 = 0 ∧ c.slots + len ≤ 0x100000 ∧ h.st.notOwnedSpans ownChorus [(c.slots, len)] = none) →
        (kind = .bc → c.root < (h.co.bucketRing h.t.key.row h.t.key.col).length) → c.tmo ≠ 0 → (∀ x ∈ h.st.chorus, x.bucket ≠ c.bucket) → grows i (·.chorus.length)) ∧
      (∀ c, h.st.chorus = [c] → c.bucket.val = bits w0 41 36 → c.stale = false → c.ready = false → c.kind ≠ .bar →
        h.st.notOwnedSpans ownChorus [(c.buf, c.nel * opBytes c.op)] = none → grows (.chorusReady g kg sc) fun t => (t.chorus.filter (·.ready)).length) ∧
      (let c : CombineCmd := ⟨bucketOf w0, op, sc, bits w0 19 0, bits w1 19 0, bits w2 26 24, bits w2 20 0, bit w0 27, bits w0 35 28, h.cue⟩;
        c.buf % 64 = 0 → c.slots % 64 = 0 → bits w2 63 48 = 0 → 1 ≤ c.nel → c.nel ≤ 0x100000 → c.buf + c.nel * opBytes op ≤ 0x100000 →
        c.slots + (c.ns + 1) * (c.nel * opBytes op) ≤ 0x100000 → h.st.notOwnedSpans ownChorus c.spans = none →
        grows (.chorusCombine g kg sc op) (·.combine.length)) ∧
      ∀ i ∈ [Instr.chorusJoin g kg sc, .chorusLeave g kg sc], grows i (·.ringReq.length))

/-! ### Events of a tile -/

/-- R13, R109, R210, R215, R217: the results, signals, hop beats and crossing words of a tile land; a crossing word that does not arrive is
lost and counted at the receiving side, as is one on a stitch whose rail has failed (12 R318). A signal comes to every tile of the gang, the one that
sent it among them. Beats and words that land in one cycle land one after another; a word that a freeze captured lands from the tile's own replay
buffer, before any other (R219).
R210, R214 to R217: what a beat and a word leave where they land: a beat of a scalar fills its side's buffer, a beat of a vector its eight
lanes alone; a word enters the channel's FIFO behind those before it, or, with sixteen there, is lost and marks the overrun.
R211: a beat of a pass takes, in the cycle it is sent, what the buffer of its side then holds, lanes 8b to 8b + 7 of a vector's as beat b; a beat
sent in another cycle, and one that holds its value already, stay. This is done as the cycle of the beat's company ends. -/
def Obligations.FabricEvents : Prop :=
  (∀ (s : State) (k : TileKey) (h : Here) (d : Side) (ch : Fin 8), s.hereAt k = some h →
    exec (.resultLanding k) s = .next (h.put (h.st.landDue h.cue)) ∧
    (∃ t, exec (.signalArrival k) s = .next t ∧ ∀ g u, s.tileAt g = some u → g ≠ k →
      ∃ v, t.tileAt g = some v ∧ ∀ j : Fin 16, v.st.arrive.getLsbD j.val =
        (u.st.arrive.getLsbD j.val || (decide (g.co = k.co ∧ g.gang = k.gang) && h.st.signals.any fun x => decide (x.1 ≤ h.cue) && x.2 == j))) ∧
    (∃ t v, exec (.signalArrival k) s = .next t ∧ t.tileAt k = some v ∧
      v.st.signals = h.st.signals.filter (fun x => decide (h.cue < x.1)) ∧
      ∀ j : Fin 16, v.st.arrive.getLsbD j.val = (h.st.arrive.getLsbD j.val || h.st.signals.any fun x => decide (x.1 ≤ h.cue) && x.2 == j)) ∧
    (∃ t, exec (.hopBeatLanding k) s = .next t ∧
      (∀ a b n m u w, h.st.wires = [a, b] → a.sent < h.cue → b.sent < h.cue → hopNext h.gang k a.side = some n → hopNext h.gang k b.side = some m →
        n ≠ k → m ≠ k → s.tileAt n = some u → s.tileAt m = some w →
        let s0 := (h.put { h.st with wires := [] }).setTile { u with st := u.st.landBeat (facing a.side) a }
        (n = m → t = s0.setTile { u with st := (u.st.landBeat (facing a.side) a).landBeat (facing b.side) b }) ∧
        (n ≠ m → t = s0.setTile { w with st := w.st.landBeat (facing b.side) b })) ∧
      (∀ b n u, h.st.wires = [b] → b.sent < h.cue → hopNext h.gang k b.side = some n → n ≠ k → s.tileAt n = some u →
        t = (h.put { h.st with wires := [] }).setTile { u with st := u.st.landBeat (facing b.side) b }) ∧
      (∀ b, h.st.wires = [b] → b.sent < h.cue → hopNext h.gang k b.side = none → t = h.put { h.st with wires := [] })) ∧
    (∃ t, exec (.crossingBeatArrival k) s = .next t ∧
      (∀ y x, h.st.replay = [(y, x)] → x.arrive ≤ h.cue → t = s.setTile (({ h.t with st := { h.st with replay := [] } } : Tile).xEnter y x)) ∧
      (∀ x y c e u, h.st.replay = [] → h.st.xwords = [x, y] → x.arrive ≤ h.cue → y.arrive ≤ h.cue →
        let s0 := h.put { h.st with xwords := [] }
        s0.crossing h.gang k x.side = some c → c.peer ≠ k → s.tileAt c.peer = some u →
        let s1 := s0.setTile (u.xEnter c.peerSide x)
        s1.crossing h.gang k y.side = some e → e.peer = c.peer → t = s1.setTile ((u.xEnter c.peerSide x).xEnter e.peerSide y)) ∧
      (∀ x c u, h.st.replay = [] → h.st.xwords = [x] → x.arrive ≤ h.cue → (h.put { h.st with xwords := [] }).crossing h.gang k x.side = some c → c.peer ≠ k →
        s.tileAt c.peer = some u → t = (h.put { h.st with xwords := [] }).setTile (u.xEnter c.peerSide x)) ∧
      (∀ x n u, h.st.replay = [] → h.st.xwords = [x] → x.arrive ≤ h.cue → (h.put { h.st with xwords := [] }).crossing h.gang k x.side = none →
        stitchNext h.gang k x.side = some n → n.1 ≠ k → s.tileAt n.1 = some u →
        t = (h.put { h.st with xwords := [] }).setTile (u.addLost n.2 1))) ∧
    (∃ t, exec (.crossingWordLost k d ch) s = .next t ∧
      (∀ x c u, h.st.xwords = [x] → x.side = d → x.ch = ch → s.crossing h.gang k d = some c → c.peer ≠ k → s.tileAt c.peer = some u →
        t = (h.put { h.st with xwords := [] }).setTile (u.addLost c.peerSide 1)) ∧
      (∀ x n u, h.st.xwords = [x] → x.side = d → x.ch = ch → s.crossing h.gang k d = none → stitchNext h.gang k d = some n → n.1 ≠ k →
        s.tileAt n.1 = some u → t = (h.put { h.st with xwords := [] }).setTile (u.addLost n.2 1)))) ∧
  (∀ (st : TState) (t : Tile) (d : Side) (b : HopBeat) (v : BitVec 256) (x : XWord),
    (b.src = .val v → b.vec = false → (st.landBeat d b) = { st with bufS := st.bufS.set (sideNo d) (v.extractLsb' 0 64) }) ∧
    (b.src = .val v → b.vec = true → b.beat < 8 → ∀ i < 64, lane ((st.landBeat d b).bufV[sideNo d]) i =
      if i / 8 = b.beat then v.extractLsb' (32 * (i % 8)) 32 else lane st.bufV[sideNo d] i) ∧
    ((t.st.fifo[fifoIdx d x.ch]).length < 16 →
      (t.xEnter d x).st = { t.st with fifo := t.st.fifo.set (fifoIdx d x.ch) (t.st.fifo[fifoIdx d x.ch] ++ [⟨x.vec, x.v⟩]) } ∧
      (t.xEnter d x).status = t.status) ∧
    (16 ≤ (t.st.fifo[fifoIdx d x.ch]).length →
      (t.xEnter d x).st = t.st ∧ ((t.xEnter d x).status[sideNo d]).overrun.getLsbD x.ch.val = true ∧
      ((t.xEnter d x).status[sideNo d]).lost.toNat = min 0xffff ((t.status[sideNo d]).lost.toNat + 1) ∧ (t.xEnter d x).pend.routeLost = true)) ∧
  ((∀ (st : TState) (c i : Nat) (b : HopBeat), st.wires[i]? = some b →
    let u := st.latchPasses c
    u = { st with wires := u.wires } ∧ u.wires.length = st.wires.length ∧
    (∀ f, b.src = .pass f → b.sent = c → let v := if b.vec then (st.bufV[sideNo f]).extractLsb' (256 * b.beat) 256 else (st.bufS[sideNo f]).setWidth 256;
      u.wires[i]? = some { b with src := .val v }) ∧
    ((∃ v, b.src = .val v) ∨ b.sent ≠ c → u.wires[i]? = some b)) ∧
  (∀ (s : State) (c : Company) (k : TileKey) (t : Tile), s.carrying = [c] → s.tileAt k = some t → k.co = c.num →
    ∃ u, s.endCycle.tileAt k = some u ∧ u.st = (if t.lost then t.st else t.st.flyReads c.cue).latchPasses c.cue))

/-- R185, R186, R248: the memory side of the first fly command due, and the completions: a write joins the company's open gate interval, at its place
among the company's writes of the cycle (10 R269), the core stores issued before it in its bytes (10 R281), and leaves deck memory as it is; a read
takes the bytes the company sees, which land in the scratchpad at its completion, with the command's units given back. On a hole a read takes zeros, a
write is discarded, and HOLE is pending in every tile of the company.
R196, R206: the wheel: at its memory point, or before that of an operation behind it in the wheel's order on the same word (10 R285; log
46), an operation takes the word as the company sees it and leaves the new word at once; on a hole it leaves memory alone and answers the
NACK; the result lands in its latch with e3.
01 R31, R32; 07 R177, R180: the units of a command that is done go back to CORE, those that no other command of its engine names, POISON set in
all of them where the command ended so, else as it was; a unit that the engine does not own stays as it is. The units of a range are those it touches.
Commands that complete before a cycle's issue give their units back once its bundles have issued. -/
def Obligations.FlyAndWheelEvents : Prop :=
  (∀ (s : State) (k : TileKey) (h : Here), s.hereAt k = some h → h.works = true →
    (∀ a c b, h.st.fly = a ++ c :: b → (∀ x ∈ a, x.point = true ∨ h.cue < x.issued + x.w / 2) → c.point = false → c.issued + c.w / 2 ≤ h.cue →
      exec (.flyMemoryPoint k) s = .next (s.flyPoint k c)) ∧
    ((∀ x ∈ h.st.fly, x.point = true ∨ h.cue < x.issued + x.w / 2) → exec (.flyMemoryPoint k) s = .next s) ∧
    exec (.flyCompletion k) s = .next
      ((h.st.fly.filter fun c => !c.landed && (c.wr || c.point) && decide (c.finish ≤ h.cue)).foldl (fun s c => s.flyFinish k c) s) ∧
    (∀ c ∈ h.st.fly, s.siteHole c.site = false →
      (c.wr = true → (s.flyPoint k c).mem = s.mem ∧ ∃ d w, (s.flyPoint k c).coAt k.co = some d ∧ d.gateOpen = h.co.gateOpen ++ [w] ∧
        w.bytes = (c.readTo h.st.engineSpad c.total).data ∧ w.ord = s.place0 (.company h.co.num) 0 ∧ w.tile = k) ∧
      (c.wr = false → (∀ r ∈ c.rows, s.poisoned r.mem r.len = false) → (s.flyPoint k c).mem = s.mem ∧ ∃ u, (s.flyPoint k c).tileAt k = some u ∧
        { c with point := true, data := (c.rows.map fun r => cellsAt r.spad (s.companyBytes h.co r.mem r.len)).flatten } ∈ u.st.fly) ∧
      (c.wr = false → ∃ u, (s.flyFinish k c).tileAt k = some u ∧ u.st.spad = memPutAll h.st.spad c.data ∧ u.st.fly = h.st.fly.erase c)) ∧
    (∀ c ∈ h.st.fly, ∃ u, (s.flyFinish k c).tileAt k = some u ∧
      u.st.own = (({ h.st with fly := u.st.fly } : TState).giveBack ownFly (unitsOf (rowSpans c.rows)) false).own) ∧
    (∀ c ∈ h.st.fly, s.siteHole c.site = true → let t := s.flyPoint k c
      t.mem = s.mem ∧ t.companies = s.companies ∧
      (∀ g u, s.tileAt g = some u → g.co = k.co → ∃ v, t.tileAt g = some v ∧ v.pend.hole = true) ∧
      (∃ u, t.tileAt k = some u ∧ u.pend.holeAddr = some (h.t.pend.holeAddr.getD (BitVec.ofNat 48 ((c.rows.head?.map (·.mem)).getD 0))) ∧
        (c.wr = false → { c with point := true, data := (c.rows.map fun r => cellsAt r.spad (List.replicate r.len 0)).flatten } ∈ u.st.fly)) ∧
      (c.wr = false → ∃ u, (s.flyFinish k c).tileAt k = some u ∧ u.st.spad = memPutAll h.st.spad (c.data.map fun x => (x.1, 0))))) ∧
  (∀ (s : State) (k : TileKey) (h : Here), s.hereAt k = some h → h.works = true →
    (∀ a c b, h.st.wheel = a ++ c :: b → (∀ x ∈ a, s.wheelNow h.co k x = false) → s.wheelNow h.co k c = true →
      exec (.wheelMemoryPoint k) s = .next (s.wheelPoint k c)) ∧
    ((∀ x ∈ h.st.wheel, s.wheelNow h.co k x = false) → exec (.wheelMemoryPoint k) s = .next s) ∧
    (∀ c : WheelCmd, s.wheelNow h.co k c = true ↔ c.res = none ∧ (c.issued + c.w / 2 ≤ h.cue ∨
      ∃ t ∈ s.tiles, t.key.co = h.co.num ∧ t.lost = false ∧ ∃ d ∈ t.st.wheel, d.res = none ∧ d.issued + d.w / 2 ≤ h.cue ∧ d.addr = c.addr ∧
        (c.issued < d.issued ∨ c.issued = d.issued ∧ (tileIdOf k < tileIdOf t.key ∨ tileIdOf k = tileIdOf t.key ∧ slotNo c.slot < slotNo d.slot)))) ∧
    (∀ c : WheelCmd, let x : W32 := BitVec.ofNat 32 (leNat (s.companyBytes h.co c.addr 4))
      (s.siteHole c.site = true → (s.wheelPoint k c).mem = s.mem ∧ (s.wheelPoint k c).tileAt k = some (h.t.wheelDone c 0x100000000)) ∧
      (s.siteHole c.site = false → c.op = .st ∨ s.poisoned c.addr 4 = false →
        (s.wheelPoint k c).tileAt k = some (h.t.wheelDone c (x.setWidth 64)) ∧
        (c.op = .ld → (s.wheelPoint k c).mem = s.mem) ∧
        (c.op = .cas → x ≠ c.val → (s.wheelPoint k c).mem = s.mem) ∧
        (memWf s.mem = true → (∀ p ∈ s.memOrd, p.2.le (s.place0 (.company h.co.num) 0) = true) → (∀ i < 4, s.hole (c.addr + i) = false) →
          ((c.op = .st ∨ c.op = .xchg) → memNat (s.wheelPoint k c).mem c.addr 4 = c.val.toNat) ∧
          (c.op = .add → memNat (s.wheelPoint k c).mem c.addr 4 = (x + c.val).toNat) ∧
          (c.op = .cas → x = c.val → memNat (s.wheelPoint k c).mem c.addr 4 = c.new.toNat)))) ∧
    (∃ st, exec (.wheelResult k) s = .next (h.put st) ∧
      (∀ c u b r, h.st.wheel = [c] → c.res = some r → c.lat = some (u, b) → c.issued + c.w ≤ h.cue → s.siteHole c.site = false →
        st.wheel = [] ∧ st.latS[latSIdx u b] = r ∧ st.arrive = h.st.arrive ||| 8#16 ∧ st.spad = h.st.spad))) ∧
  ((∀ (ps : List Span) (u : Nat), u ∈ unitsOf ps ↔ ∃ p ∈ ps, p.2 ≠ 0 ∧ p.1 / 4096 ≤ u ∧ u ≤ (p.1 + p.2 - 1) / 4096) ∧
  (∀ (st : TState) (code : Nat) (us : List Nat) (poison : Bool), let x := st.giveBack code us poison
    x = { st with own := x.own } ∧ ∀ u : Fin 256,
      (u.val ∉ us ∨ st.owner u.val ≠ code → x.own[u] = st.own[u]) ∧
      (u.val ∈ us → st.owner u.val = code → u.val ∈ st.unitsHeld code → x.own[u] = st.own[u] ||| (if poison then 0x10 else 0)) ∧
      (u.val ∈ us → st.owner u.val = code → u.val ∉ st.unitsHeld code → x.own[u] = if poison then 0x10 else st.own[u] &&& 0x10)) ∧
  (∀ (st : TState) (u : Nat),
    (u ∈ st.unitsHeld ownFly ↔ ∃ c ∈ st.fly, c.landed = false ∧ u ∈ unitsOf (rowSpans c.rows)) ∧
    (u ∈ st.unitsHeld ownAcopy ↔ ∃ x ∈ st.loadQ ++ st.storeQ, u ∈ unitsOf (rowSpans x.rows)) ∧
    (u ∈ st.unitsHeld ownCopy ↔ ∃ c ∈ st.copyQ, u ∈ unitsOf c.kind.spans) ∧
    (u ∈ st.unitsHeld ownChorus ↔ (∃ d ∈ st.chorus, u ∈ unitsOf d.spans) ∨ ∃ c ∈ st.combine, u ∈ unitsOf c.spans)) ∧
  (∀ st : TState, (st.back = [] → st.settleBack = st) ∧
    ∀ r : UnitReturn, st.back = [r] → st.settleBack = ({ st with back := [] } : TState).giveBack r.code r.units r.poison) ∧
  (∀ s t : State, s.agenda = [] → s.stopped = false → s.phase = .issue → step s = .next t →
    t.phase = .work ∧ t.tiles = s.tiles.map fun x => { x with st := x.st.settleBack }))

/-- R194, R177: the copy unit: a command reads its source when it starts, and at its completion its bytes are in the scratchpad, e2 arrives
and its units are to return.
R197, R339: mailbox commands: a put waits for an empty word and fills it; a get waits for a full word, takes its value into its latch
with e4, 512 cycles after issue at the earliest, and empties it.
R188, R190, R191: the oldest load of a tile, on deck memory all of it mapped, lands its bytes; the oldest store's bytes go to the company's open
gate interval; a load that meets a hole ends there with sub-code 2; an entry at a page without a mapping is suspended there and the page's virtual
address reported (10 R275); where host memory is reached the entry waits for the service site, and an error of a host access, freely which, ends it
with sub-code 3 at that access's page (10 R275; log 5). An entry that is done gives its units back, POISON set where it failed. A mark completes once
no older store waits. That a hole ends an entry where the access that meets it stands is the model's reading (log 17).
R188, R189, R280: what a load that is done leaves: each access it had not made yet reads what the company sees, the bytes of all its
accesses stand in the scratchpad, in their order, e0 arrives, deck memory is unchanged.
R188, R248, R269: what a store leaves where the quota has room: deck memory unchanged, and in the company's open gate interval, at this
cycle's place, the bytes of the scratchpad still to be moved at the addresses that its accesses reach, and no others.
An event where it is not enabled changes nothing: the model's choice (log 6). When a command of unstated time completes comes as an input (log 4). -/
def Obligations.CopyAndMailboxEvents : Prop :=
  (∀ (s : State) (k : TileKey) (h : Here) (c : CopyCmd) (r : List CopyCmd) (cells : List Host.Cell), s.hereAt k = some h → h.st.copyQ = c :: r →
    (c.start ≤ h.cue → c.out = none → (c.kind.readsWeights = true → s.weightBad.contains (s.weightBase h.t) = false) →
      exec (.tileCopyStart k) s = .next (h.put { h.st with copyQ := { c with out := some (h.copyCells c.kind) } :: r })) ∧
    (c.out = some cells → c.finish ≤ h.cue → ∃ st, exec (.tileCopyCompletion k) s = .next (h.put st) ∧
      st.copyQ = r ∧ st.spad = memPutAll h.st.spad cells ∧ st.arrive = h.st.arrive ||| 4#16 ∧
      st.back = h.st.back ++ [⟨ownCopy, unitsOf c.kind.spans, false⟩])) ∧
  (∀ (s : State) (k : TileKey) (h : Here) (c : MbCmd) (r : List MbCmd), s.hereAt k = some h → h.works = true → h.st.mbQ = c :: r →
    s.serviceUp = true →
    (c.put = true → (s.mb c.word).full = false → ∃ t u, exec (.mailboxPutPerformed k) s = .next t ∧
      t = (s.setTile u).mbSet c.word ⟨c.val, true⟩ ∧ u.key = h.t.key ∧ u.st = { h.st with mbQ := r }) ∧
    (c.put = true → (s.mb c.word).full = true → exec (.mailboxPutPerformed k) s = .next s) ∧
    (∀ u b, c.put = false → c.lat = some (u, b) → (s.mb c.word).full = true → c.issued + 512 ≤ h.cue → ∃ t v,
      exec (.mailboxGetPerformed k) s = .next t ∧ t = (s.setTile v).mbSet c.word ⟨(s.mb c.word).v, false⟩ ∧ v.key = h.t.key ∧
      v.st.latS[latSIdx u b] = (s.mb c.word).v ∧ v.st.arrive = h.st.arrive ||| 16#16 ∧ v.st.mbQ = r) ∧
    (c.put = false → (s.mb c.word).full = false → exec (.mailboxGetPerformed k) s = .next s)) ∧
  (∀ (s : State) (k : TileKey) (h : Here) (x : AcEntry) (rest : List AcEntry) (e : SegEntry), s.hereAt k = some h → h.works = true →
    h.segOf x.seg = some e → x.mark = false → x.stage = .waiting → h.st.storesTo (unitsOf (rowSpans x.rows)) = false →
    (∀ r, r = h.reachOf e false x x.toRead → h.st.loadQ = x :: rest →
      let ends (g : Here) (f : Option (Nat × Nat)) : Prop := exec (.acopyLoadCompletion k) s = .next (g.loadDo x rest r f)
      let goes (g : Here) : Prop := (r.bad = none → ends g none) ∧ ∀ p, r.bad = some (p, .hole) → ends g (some (2, p.pos / 4096 * 4096))
      (usesHost r.good = false → goes h) ∧
      (usesHost r.good = true → s.serviceUp = false → exec (.acopyLoadCompletion k) s = .next s) ∧
      (usesHost r.good = true → s.serviceUp = true → (∀ p, hostError r.good s.free = some p → ends (h.hostDrawn r.good) (some (3, p))) ∧
        (hostError r.good s.free = none → goes (h.hostDrawn r.good)))) ∧
    (∀ r, r = h.reachOf e true x x.toWrite → h.st.storeNow = some x →
      let ends (g : Here) (upto : Option Nat) (st : AcStage) : Prop := exec (.acopyStoreCompletion k) s = .next (g.storeDo x r upto st)
      let fails (g : Here) (sub p : Nat) : Prop := ∃ upto, max x.pos upto = max x.pos p ∧ ends g (some upto) (.failed sub (max x.pos p / 4096))
      let goes (g : Here) : Prop := (r.bad = none → ends g none .gated) ∧ ∀ p, r.bad = some (p, .hole) → fails g 2 (p.pos / 4096 * 4096)
      (usesHost r.good = false → goes h) ∧
      (usesHost r.good = true → s.serviceUp = false → exec (.acopyStoreCompletion k) s = .next s) ∧
      (usesHost r.good = true → s.serviceUp = true → (∀ p, hostError r.good s.free = some p → fails (h.hostDrawn r.good) 3 p) ∧
        (hostError r.good s.free = none → goes (h.hostDrawn r.good)))) ∧
    (∀ ps f p, hostError ps f = some p → ∃ q ∈ ps, usesHost [q] = true ∧ p = q.1.pos / 4096 * 4096) ∧
    (∀ st y store fault, ∃ u, (h.acopyEnd st y store fault).tileAt k = some u ∧
      u.st.back = st.back ++ [⟨ownAcopy, unitsOf (rowSpans y.rows), fault.isSome⟩] ∧
      u.st.arrive = st.arrive ||| (if fault.isSome then 512#16 else if store then 2#16 else 1#16)) ∧
    (∀ p c, h.st.loadQ = x :: rest → (h.reachOf e false x x.toRead).bad = some (p, .fault c) →
      (h.readTables (h.reachOf e false x x.toRead)).2 = true → ∃ t u, exec (.acopyPageFault k false) s = .next t ∧
      t.tiles = (s.setTile u).tiles ∧ u.key = h.t.key ∧ u.st = h.st.restage false x.id (.suspended c (p.pos / 4096) s.pfNext) ∧
      t.pfNext = s.pfNext + 1 ∧ ∃ r ∈ t.pfReqs, r.idx = s.pfNext ∧ r.co = h.co.num ∧ r.cause = c ∧ r.va = p.mem / 4096 * 4096 ∧ r.live = true) ∧
    (∀ m q, h.st.loadQ = m :: q → m.mark = true → (∀ y ∈ h.st.storeQ, m.id ≤ y.id) → wide m.scope = false →
      exec (.qmarkCompletion k) s = .next (drainStores k 32 (h.put { h.st with
        loadQ := q, storeQ := h.st.storeQ.filter fun y => y.id != m.id })))) ∧
  (∀ (s : State) (k : TileKey) (h : Here) (x : AcEntry) (rest : List AcEntry) (r : Reach), s.hereAt k = some h → h.st.loadQ = x :: rest →
    r.walks = [] → x.rep = false → (∀ p ∈ r.good, ∃ pa, p.2 = .deck pa) → (∀ a n, s.poisoned a n = false) →
    ∃ (u : Tile) (got : List (Nat × List Byte)), (h.loadDo x rest r none).tileAt k = some u ∧ u.st.loadQ = rest ∧
      u.st.arrive = h.st.arrive ||| 1#16 ∧ (h.loadDo x rest r none).mem = s.mem ∧ (∀ g ∈ x.got, g ∈ got) ∧
      (∀ p ∈ x.accesses, (∀ g ∈ x.got, g.1 ≠ p.pos) → p.pos + p.len ≤ x.total → 0 < p.len →
        ∀ q pa, (q, .deck pa) ∈ r.good → q.pos ≤ p.pos → p.pos + p.len ≤ q.pos + q.len →
          (p.pos, s.companyBytes h.co (pa + (p.pos - q.pos)) p.len) ∈ got) ∧
      u.st.spad = memPutAll h.st.spad (x.accesses.flatMap fun p =>
        cellsAt p.spad ((((got.find? fun g => g.1 == p.pos).map (·.2)).getD []).take (x.total - p.pos)))) ∧
  (∀ (s : State) (k : TileKey) (h : Here) (x : AcEntry) (r : Reach), s.hereAt k = some h → r.walks = [] → x.pos ≤ x.total →
    (x.total - x.pos) + h.co.gateBytes h.t.site h.t.region ≤ h.co.quota h.t.site →
    (∀ p ∈ r.good, (∃ pa, p.2 = .deck pa) ∨ ∃ port bus, p.2 = .host port bus) →
    ∃ d ws, (h.storeDo x r none .gated).coAt k.co = some d ∧ d.gateOpen = h.co.gateOpen ++ ws ∧ d.gateSealed = h.co.gateSealed ∧
      (h.storeDo x r none .gated).mem = s.mem ∧
      (∀ w ∈ ws, w.site = h.t.site ∧ w.region = h.t.region ∧ w.tile = k ∧ w.entry = some x.id ∧
        w.ord.cycle = s.cue ∧ w.ord.kind = 1 ∧ w.ord.co = h.co.num) ∧
      (∀ q pa j, (q, .deck pa) ∈ r.good → j < q.len → x.pos ≤ q.pos + j → q.pos + j < x.total →
        ∃ w ∈ ws, w.host = none ∧ (pa + j, memGet h.st.spad (q.spad + j)) ∈ w.bytes) ∧
      (∀ q port bus j, (q, .host port bus) ∈ r.good → j < q.len → x.pos ≤ q.pos + j → q.pos + j < x.total →
        ∃ w ∈ ws, w.host = some port ∧ (bus + j, memGet h.st.spad (q.spad + j)) ∈ w.bytes) ∧
      (∀ w ∈ ws, ∀ c ∈ w.bytes, ∃ q j, j < q.len ∧ x.pos ≤ q.pos + j ∧ q.pos + j < x.total ∧ c.2 = memGet h.st.spad (q.spad + j) ∧
        ((∃ pa, w.host = none ∧ (q, .deck pa) ∈ r.good ∧ c.1 = pa + j) ∨
          ∃ port bus, w.host = some port ∧ (q, .host port bus) ∈ r.good ∧ c.1 = bus + j)))

/-- R248, R269: a release performs the oldest sealed write whose module is neither silent nor past its loss cue on memory at its place in coherence
order, and takes it out of the gate; where it belongs to an ACOPY store, the store entries of its tile that are done then complete (07 R188, 10 R286);
the writes of a lost module hold back no other's (13 R330, R338), and a write to the host waits for the service site (13 R336).
R200 to R204: the completions of collectives: a member whose round has what its result needs takes the collective's bytes with e5; a barrier when
every member stands at it; a stale descriptor with e6 one cycle on; a descriptor past its time with e6 and POISON, no byte of its areas but the
collective's written; its units are to return (01 R31). While a member's module is past its loss cue, only what was sent in time counts (13 R331; log
57).
R203, R205, R198: COMBINE folds its slots into its buffer with e5; at a ring boundary the joins and leaves that wait change the ring and the
generation advances by one, and a waiting request is answered with e5; with a bucket outstanding the ring stays. Blocks of buffers handed over that
have not gone out when a COMBINE completes may take what it wrote: the model's choice (log 71).
An event where it is not enabled changes nothing: the model's choice (log 6). When a release or a collective completes comes as an input (log 4); the bytes a round that timed out leaves are free (log 5). -/
def Obligations.ReleaseAndChorusEvents : Prop :=
  (∀ (s : State) (co : Nat) (c : Company) (a b : List GWrite) (w : GWrite), s.coAt co = some c →
    let stuck (w : GWrite) : Prop := (s.sites[w.site]).mute = true ∨ s.pastLoss w.site = true
    (c.gateSealed.flatMap (·.writes) = a ++ w :: b → (∀ x ∈ a, stuck x) → ¬stuck w →
      (w.host = none ∨ s.serviceUp = true → let t := (s.performGated w).setCo { c with gateSealed := takeWrite w c.gateSealed }
        exec (.gatedWriteRelease co) s = .next (if w.entry.isSome then drainStores w.tile 32 t else t)) ∧
      (w.host ≠ none → s.serviceUp = false → exec (.gatedWriteRelease co) s = .next s)) ∧
    ((∀ x ∈ c.gateSealed.flatMap (·.writes), stuck x) → ∃ t, exec (.gatedWriteRelease co) s = .next t ∧ t.mem = s.mem ∧ t.tiles = s.tiles ∧
      t.hostMem = s.hostMem) ∧
    (∀ k n (h : Here) (x : AcEntry) rest, s.hereAt k = some h → h.st.storeQ = x :: rest → x.mark = false →
      (x.storeDone h.co k = true ↔ (x.stage = .gated ∨ ∃ i j, x.stage = .failed i j) ∧ (wide x.scope = false ∨ h.co.released k (· == x.id) = true)) ∧
      (x.storeDone h.co k = false → drainStores k (n + 1) s = s) ∧
      (x.storeDone h.co k = true → drainStores k (n + 1) s = drainStores k n (h.acopyEnd { h.st with storeQ := rest } x true
        (match x.stage with
        | .failed i j => some (i, j)
        | _ => none)))) ∧
    ((takeWrite w c.gateSealed).flatMap (·.writes) = (c.gateSealed.flatMap (·.writes)).erase w) ∧
    (w.host = none → memWf s.mem = true → (∀ p ∈ s.memOrd, p.2.le w.ord = true) → (∀ c ∈ w.bytes, s.hole c.1 = false) →
      (s.performGated w).mem = memPutAll s.mem w.bytes)) ∧
  (∀ (s : State) (k : TileKey) (h : Here) (b : Fin 64) (d : CDesc) (r : Round), s.hereAt k = some h →
    let has (x : Nat) : Bool := r.contrib.any fun y => y.1 == x
    (h.chorusReady b = some (d, r) → d.kind ≠ .bar → d.ready = true →
      (if d.kind = .bc then has (r.members.getD d.root 0) else r.members.all has) = true → s.inTime h.co k.gang d r = true →
      h.st.storesTo (unitsOf d.spans) = false →
      exec (.chorusMemberCompletion k b) s = .next
        (h.chorusEnd d (runCells (s.chorusWrites h.co.num r h.t.key.gang d)) false 5 0 0)) ∧
    (h.chorusReady b = some (d, r) → d.kind = .bar → s.inTime h.co k.gang d r = true → exec (.barCompletion k b) s = .next (h.chorusEnd d [] false 5 0 0)) ∧
    (h.st.chorus = [d] → d.stale = true → d.issued < h.cue →
      exec (.chorusStaleCompletion k) s = .next (h.chorusEnd d [] false 6 0x21 2)) ∧
    (h.st.chorus = [d] → d.bucket = b → d.stale = false → d.issued + 4096 * d.tmo ≤ h.cue →
      ∃ cells n, exec (.chorusTimeout k b) s = .next (({ h with s := { s with free := s.free + n } } : Here).chorusEnd d cells true 6 0x21 1) ∧
        ∀ c ∈ cells, ∃ r', h.co.roundOf b h.t.key.row h.t.key.col = some r' ∧
          c ∈ runCells (blocks64 (s.chorusWrites h.co.num r' h.t.key.gang d))) ∧
    (d ∈ h.st.chorus → ∀ cells poison flag code sub, flag < 16 → ∃ u, (h.chorusEnd d cells poison flag code sub).tileAt k = some u ∧
      u.st.chorus = h.st.chorus.erase d ∧ u.st.spad = memPutAll h.st.spad cells ∧ u.st.arrive.getLsbD flag = true ∧
      u.st.back = h.st.back ++ [⟨ownChorus, unitsOf d.spans, poison⟩])) ∧
  (∀ (s : State) (k : TileKey) (h : Here) (c : CombineCmd) (rest : List CombineCmd) (co : Company), s.hereAt k = some h →
    (h.st.combine = c :: rest → h.moving = true → h.st.storesTo (unitsOf c.spans) = false → c.rep = false →
      ∃ st, exec (.combineCompletion k) s = .next ((h.put st).resend k) ∧ st.combine = rest ∧ st.arrive = h.st.arrive ||| 32#16 ∧
        st.back = h.st.back ++ [⟨ownChorus, unitsOf c.spans, false⟩] ∧ st.spad = memPutAll h.st.spad (cellsAt c.buf (foldArrays h.ftz c.op c.nel
          ((List.range (c.ns + 1)).map fun i => memBytes h.st.spad (c.slots + i * (c.nel * opBytes c.op)) (c.nel * opBytes c.op))))) ∧
    (s.coAt k.co = some co → (∀ r ∈ co.rounds, s.roundOver co r = false) → (∀ t ∈ s.tiles, t.st.ringReq = []) → ∃ t, exec (.ringBoundary k.co) s = .next t ∧
      ∃ c', t.coAt k.co = some c' ∧
        (co.leaves = [] ∨ co.rounds ≠ [] → c'.ring = co.ring ∧ c'.gen = co.gen ∧ c'.leaves = co.leaves) ∧
        (co.leaves ≠ [] → co.rounds = [] → c'.ring = co.ring.filter (fun g => !co.leaves.contains g) ∧ c'.gen = co.gen + 1 ∧ c'.leaves = [])) ∧
    (∀ q, s.coAt k.co = some co → co.rounds = [] → co.leaves = [] → h.t.lost = false → h.st.ringReq = [q] → q.now = false → q.rep = false →
      q.issued < co.cue → (∀ t ∈ s.tiles, t ≠ h.t → t.st.ringReq = []) → ∃ t c' u, exec (.ringBoundary k.co) s = .next t ∧ t.coAt k.co = some c' ∧
        t.tileAt k = some u ∧ c'.gen = co.gen + 1 ∧ u.st.ringReq = [] ∧ u.st.arrive = h.st.arrive ||| 32#16 ∧
        (q.join = true → co.ring.contains k.gang = false → c'.ring = co.ringInsert k.gang co.ring) ∧
        (q.join = false → c'.ring = co.ring.filter fun g => g != k.gang)))

/-- R245, R246, R303: an overlay fetch that has its translations brings its segment's bundles to the idle half of every tile that shares it; one that
meets a fault waits and reports the first address that has none.
R303, R340, R276: a page fault acknowledged is walked again: where the walk succeeds the entry or the fetch goes on and the request is closed,
where it fails again at that page it is reported once more, the limit counting from the first report; where it fails at a later page the entry or
fetch goes on and meets it anew. One that stands 2^26 deck cycles ends, for a load with COPY_FAULT of sub-code 1 at its page, or of 3 at a page where
a host access before it ends with an error (10 R275), and for an overlay with the launch; a page moves to its new frame with its table entry.
R276: the migration of a page of a paged deck segment: first its entry is marked as migrating; once no entry of the launch references the page and no
gated write touches it, its bytes go to the new frame and its entry names that frame, the mark gone; till then it waits.
An event where it is not enabled changes nothing: the model's choice (log 6). The hole met by an overlay fetch and the full page-fault list are read as logs 18 and 22 say. -/
def Obligations.OverlayAndPageEvents : Prop :=
  (∀ (s : State) (k : TileKey) (h : Here) (o : OvlReq), s.hereAt k = some h → h.st.ovl = some o → o.done = false → o.fault = false →
    h.fetches = true →
    let f := s.fetch h.co h.t.site h.t.region o.seg.toNat
    f.bundles = f.frames.map (fun pa => BitVec.ofNat 256 (memNat s.mem pa 32)) ∧
    (f.bad = none → ∀ e, h.co.info.ovTab[o.seg.toNat]? = some e → f.bundles.length = e.2) ∧
    (f.bad = none → (∀ a n, s.poisoned a n = false) → ∃ t, exec (.overlayFetchCompletion k) s = .next t ∧
      (∀ u ∈ s.sharers k, (∀ x ∈ s.tiles, x.key = u.key → x = u) → ∃ v, t.tileAt u.key = some v ∧
        v.imem = u.imem.set (otherHalf u.st.half) f.bundles ∧ v.st.segs = u.st.segs.set (otherHalf u.st.half) o.seg ∧
        v.st.ovl = u.st.ovl.map fun y => { y with done := true }) ∧
      (s.sharers k = [h.t] → ∃ u, t.tileAt k = some u ∧ u.imem = h.t.imem.set (otherHalf h.st.half) f.bundles ∧
        u.st.segs = h.st.segs.set (otherHalf h.st.half) o.seg ∧ u.st.ovl = some { o with done := true })) ∧
    (∀ c va, f.bad = some (c, va) → (∀ a n, s.poisoned a n = false) → exec (.overlayFetchCompletion k) s = .next s ∧
      ∃ t, exec (.overlayFetchTranslationFault k) s = .next t ∧
      t.pfNext = s.pfNext + 1 ∧ (∃ r ∈ t.pfReqs, r.idx = s.pfNext ∧ r.co = h.co.num ∧ r.cause = c ∧ r.va = va ∧ r.live = true) ∧
      (∀ u ∈ s.sharers k, (∀ x ∈ s.tiles, x.key = u.key → x = u) → ∃ v, t.tileAt u.key = some v ∧
        v.st.ovl = u.st.ovl.map fun y => { y with fault := true }) ∧
      (s.sharers k = [h.t] → ∃ u, t.tileAt k = some u ∧ u.st.ovl = some { o with fault := true })) ∧
    (∀ u, u ∈ s.sharers k ↔ u ∈ s.tiles ∧ u.key.co = k.co ∧ u.site = h.t.site ∧ u.region = h.t.region ∧
      ∃ y, u.st.ovl = some y ∧ y.seg = o.seg ∧ y.entry = o.entry)) ∧
  (∀ (s : State) (i : BitVec 32) (r : PfReq),
    (s.pfReqs.find? fun r => r.idx == i && r.live) = some r →
    (s.serviceUp = true → (s.pfHead - i - 1).toNat < 2 ^ 31 → exec (.pfack i) s = .next (s.retryReq r)) ∧
    (s.serviceUp = false → exec (.pfack i) s = .next s) ∧
    (r.cause ≠ 3 → r.first + 2 ^ 26 ≤ s.cue → s.tileAt r.tile = none → r.kind = .overlay →
      exec (.pageFaultUnresolvable i) s = .next ((s.closeReq i).endCause r.co 0x3a (BitVec.ofNat 64 r.va) 0 0 none)) ∧
    (∀ h x e q page j, r.cause ≠ 3 → r.first + 2 ^ 26 ≤ s.cue → r.kind = .load → (s.closeReq i).suspendedBy r = some (h, x) →
      x.stage = .suspended q page j → h.segOf x.seg = some e →
      let reach := h.reachOf e false x x.toRead
      let ps := x.unread reach (4096 * page)
      let ends (f : Nat × Nat) : Prop := ∃ s1, s1.tiles = s.tiles ∧ s1.mem = s.mem ∧
        exec (.pageFaultUnresolvable i) s = .next (({ h with s := s1 } : Here).loadDo x h.st.loadQ.tail reach (some f))
      (usesHost ps = false → ends (1, 4096 * page)) ∧ (usesHost ps = true → s.serviceUp = false → exec (.pageFaultUnresolvable i) s = .next s) ∧
      (usesHost ps = true → s.serviceUp = true → ends (1, 4096 * page) ∨ ∃ p ∈ ps, usesHost [p] = true ∧ ends (3, p.1.pos / 4096 * 4096))) ∧
    (r.cause = 3 ∨ s.cue < r.first + 2 ^ 26 → exec (.pageFaultUnresolvable i) s = .next s) ∧
    (let t := s.retryReq r
    (∀ h x, r.kind = .load ∨ r.kind = .store → s.suspendedBy r = some (h, x) →
      let store := decide (r.kind = .store)
      let reach := h.reachLeft store x
      (h.readTables reach).2 = true → ∃ u, t.tileAt r.tile = some u ∧
        (reach.fault = none → u.st = h.st.restage store x.id .waiting ∧ ∀ q ∈ t.pfReqs, q.idx = r.idx → q.live = false) ∧
        (∀ p c, reach.fault = some (p, c) → p.mem / 4096 ≠ r.va / 4096 → u.st = h.st.restage store x.id .waiting ∧
          ∀ q ∈ t.pfReqs, q.idx = r.idx → q.live = false) ∧
        (∀ p c, reach.fault = some (p, c) → p.mem / 4096 = r.va / 4096 → u.st = h.st.restage store x.id (.suspended c (p.pos / 4096) s.pfNext) ∧
          t.pfNext = s.pfNext + 1 ∧ ∃ q ∈ t.pfReqs, q.idx = s.pfNext ∧ q.cause = c ∧ q.va = p.mem / 4096 * 4096 ∧ q.first = r.first ∧ q.live = true)) ∧
    (∀ h o, r.kind = .overlay → s.hereAt r.tile = some h → h.st.ovl = some o → (∀ a n, s.poisoned a n = false) →
      let f := s.fetch h.co h.t.site h.t.region o.seg.toNat
      ((∀ c va, f.bad = some (c, va) → va / 4096 ≠ r.va / 4096) → (∀ u ∈ s.sharers r.tile, (∀ y ∈ s.tiles, y.key = u.key → y = u) → ∃ v, t.tileAt u.key = some v ∧
        v.st.ovl = u.st.ovl.map fun y => { y with fault := false }) ∧ ∀ q ∈ t.pfReqs, q.idx = r.idx → q.live = false) ∧
      (∀ c va, f.bad = some (c, va) → va / 4096 = r.va / 4096 → t.tiles = s.tiles ∧ t.pfNext = s.pfNext + 1 ∧
        ∃ q ∈ t.pfReqs, q.idx = s.pfNext ∧ q.cause = c ∧ q.va = va ∧ q.first = r.first ∧ q.live = true)))) ∧
  (∀ (s : State) (co : Nat) (seg : Fin 64) (va frame : BitVec 48) (c : Company) (e : SegEntry) (a b : Nat) (p : Pte), s.coAt co = some c →
    c.info.segtab[seg.val]? = some e → e.paged = true → s.leafOf va.toNat walkLevels e.root = some (a, p, b) → p.aper = 0 →
    frame.toNat % 2 ^ b = 0 → populatedRange frame.toNat (2 ^ b) = true → s.hole frame.toNat = false → s.hole p.pa = false →
    let word := memNat s.mem a 8
    let page := va.toNat / 2 ^ b * 2 ^ b
    (p.mig = false → exec (.pageMigration co seg va frame) s = .next (s.placeWrite .leaf (cellsAt a (leBytes 8 (word + 8))))) ∧
    (p.mig = true → s.referenced co seg.val page (2 ^ b) = true ∨ (∃ d ∈ s.companies, ∃ w ∈ d.gated, w.touches p.pa (2 ^ b) = true) →
      exec (.pageMigration co seg va frame) s = .next s) ∧
    (p.mig = true → s.referenced co seg.val page (2 ^ b) = false → (∀ d ∈ s.companies, ∀ w ∈ d.gated, w.touches p.pa (2 ^ b) = false) →
      (∀ r ∈ s.pfReqs, r.cause ≠ 3) → ∃ t, exec (.pageMigration co seg va frame) s = .next t ∧
      t.mem = (((s.freshRead none 0xffff p.pa (2 ^ b)).placeWrite .leaf (cellsAt frame.toNat (memBytes s.mem p.pa (2 ^ b)))).placeWrite .leaf (cellsAt a
        (leBytes 8 (2 ^ 48 * (word / 2 ^ 48) + frame.toNat + word % 8)))).mem ∧
      t.tiles = s.tiles ∧ t.companies = s.companies))

/-- R273: a walk follows valid table entries level by level and ends at a leaf, whose frame gives the address; an entry that is not valid is
cause 1, a malformed one cause 2, a migrating page cause 3, a write without permission cause 4, a hole the walk's own end. R274: a translation
buffered for the launch and segment serves while the entries it was taken from stand; where none serves, the tables are walked. -/
def Obligations.TranslationWalk : Prop :=
  ∀ (s : State) (instr wr : Bool) (va l b table : Nat) (r : List (Nat × Nat)),
    let a := table + 8 * (va / 2 ^ b % 512)
    let e := pteOf (memNat s.mem a 8)
    let w := s.walkFrom instr wr va ((l, b) :: r) table
    (s.hole a = true → w.1 = .hole) ∧
    (s.hole a = false →
      (e.v = false → w.1 = .fault 1) ∧
      (e.v = true → e.malformed instr l b = true → w.1 = .fault 2) ∧
      (e.v = true → e.malformed instr l b = false →
        (e.leaf = true → e.mig = true → w.1 = .fault 3) ∧
        (e.leaf = true → e.mig = false → wr = true → e.w = false → w.1 = .fault 4) ∧
        (e.leaf = true → e.mig = false → (wr = true → e.w = true) → w.1 = .ok e.aper (e.pa + va % 2 ^ b)) ∧
        (e.leaf = false → w.1 = (s.walkFrom instr wr va r e.pa).1))) ∧
    (∀ k root, ((s.xlate.find? fun x => x.serves s k wr va) = none → (s.translate k root wr (fun _ _ => false) va).walk = (s.walk root k.seg.isNone wr va).1) ∧
      (∀ x, (s.xlate.find? fun x => x.serves s k wr va) = some x → (s.translate k root wr (fun _ _ => false) va).walk = .ok x.aper (x.pa + va % 2 ^ x.bits) ∧
        x.key = k ∧ (wr = true → x.w = true) ∧ ∀ p ∈ x.words, memNat s.mem p.1 8 = p.2))

/-! ### Events of companies, links, sites, power -/

/-- R242 to R245, R364: a hold is announced 256 company cycles ahead, begins at its cue if its cause stands and else falls away, and ends once no
cause stands, one for a reef level once that is taken, its deck cycles counted; a crossing word that would have arrived in it enters at its cue, none
before its band allows. A reef hold brings the level wanted last before its boundary, falls away where that is the company's own; in it the regulators
settle at the voltages of that level (15 R365), which the company takes 4,096 deck cycles into it. That the level's D0 is the cue of its taking, and
then that of the hold's end, is the model's reading (log 34).
R251 to R255: a freeze is announced at least 2,048 cycles ahead, stops the company at its cue with everything in flight as it stands, the words in
crossings in their receivers' replay buffers (08 R219) and the fly memory sides done, and is saved; a company chosen for resumption has its
instruction memory written again, then its regions trimmed, waits for those trims, and goes on 256 cycles after at the same company cue. Without the
service site nothing is rewritten. That a freeze takes effect in two parts of one cycle is the model's choice (log 3), the new D0 at a resume its
reading (log 34); that the resume comes 256 cycles on, where the rule asks for 256 or more, its choice (log 83); whether it waits for its islands to
be awake: log 63.
An event where it is not enabled changes nothing: the model's choice (log 6). When a freeze is announced and ends comes as an input (log 4). -/
def Obligations.HoldAndFreezeEvents : Prop :=
  (∀ (s : State) (co since at_ : Nat) (c : Company) (l : Fin 4), s.coAt co = some c →
    (c.mode = .running → c.fatal = none → ((s.tilesOf co).any fun t => t.lateAt (c.cue + 256)) = true → c.holds = [] → c.reefCue = none →
      exec (.holdAnnouncement co (c.cue + 256)) s = .next (s.setCo { c with holds := [⟨c.cue + 256, .overlay⟩] })) ∧
    (c.mode = .running → c.fatal = none → ((s.tilesOf co).any fun t => t.lateAt (c.cue + 256)) = false → c.holds = [] →
      c.reefCue = some (c.cue + 256) →
      exec (.holdAnnouncement co (c.cue + 256)) s = .next (s.setCo { c with holds := [⟨c.cue + 256, .reef c.wanted⟩] })) ∧
    (c.carries s.cue = true → c.holds = [⟨at_, .overlay⟩] → at_ ≤ c.cue →
      exec (.holdBegin co) s = .next (if (s.tilesOf co).any fun t => t.lateAt at_ then (s.setCo { c with mode := .held s.cue }).restIslands
        else s.setCo { c with holds := [] })) ∧
    (c.carries s.cue = true → c.holds = [⟨at_, .reef l⟩] → at_ ≤ c.cue →
      exec (.holdBegin co) s = .next (if l = c.level then s.setCo { c with holds := [] }
        else (s.setCo { c with mode := .held s.cue }).restIslands)) ∧
    (c.holds = [⟨at_, .reef l⟩] → at_ ≤ c.cue → (({ c with mode := .held since } : Company).islandLevel = l)) ∧
    (∀ w, w ≠ c.wanted → (∀ y ∈ c.holds, ∃ v, y.cause = .reef v ∧ c.cue + 1 < y.at_) → c.holds ≠ [] →
      (c.rewanted w).wanted = w ∧ (c.rewanted w).wantedCue = c.wantedCue ∧
        (c.rewanted w).holds = c.holds.map fun y => { y with cause := .reef w }) ∧
    (c.mode = .held since → c.holds = [⟨at_, .overlay⟩] → at_ ≤ c.cue → ((s.tilesOf c.num).any fun t => t.lateAt at_) = false →
      exec (.holdEnd co) s = .next ((s.setCo { c with
        mode := .running, holds := [], holdCyc := c.holdCyc + (s.cue - since), d0 := if since < c.d0 then s.cue else c.d0 }).heldWords
          co c.cue (s.cue - since))) ∧
    (∀ k t h d, s.tileAt k = some t → k.co = co → ∃ u, (s.heldWords co h d).tileAt k = some u ∧
      u.st.xwords = t.st.xwords.map fun x => { x with arrive := max (max h (x.arrive - d)) x.least }) ∧
    (c.mode = .held since → c.holds = [⟨at_, .overlay⟩] → at_ ≤ c.cue → ((s.tilesOf c.num).any fun t => t.lateAt at_) = true →
      exec (.holdEnd co) s = .next s) ∧
    (c.mode = .held since → c.holds = [⟨at_, .reef l⟩] → at_ ≤ c.cue → since + 4096 ≤ s.cue →
      exec (.reefLevelChange co) s = .next (s.setCo { c with level := l, d0 := s.cue, holds := [] }).restIslands) ∧
    (c.mode = .held since → c.holds = [⟨at_, .reef l⟩] → at_ ≤ c.cue → exec (.holdEnd co) s = .next s) ∧
    (c.mode = .held since → c.holds = [] → since < c.d0 →
      exec (.holdEnd co) s = .next ((s.setCo { c with mode := .running, holdCyc := c.holdCyc + (s.cue - since), d0 := s.cue }).heldWords
        co c.cue (s.cue - since)))) ∧
  (∀ (s : State) (co since : Nat) (c : Company), s.coAt co = some c → c.fatal = none →
    (∀ cue, c.mode = .running → c.freezeAt = none → c.covering = false → s.serviceUp = true → c.cue + 2048 ≤ cue →
      exec (.freezeAnnouncement co cue) s = .next (s.setCo { c with freezeAt := some cue })) ∧
    (∀ cue, cue < c.cue + 2048 → exec (.freezeAnnouncement co cue) s = .next s) ∧
    (∀ t, c.mode = .running ∨ c.mode = .held since → c.freezeAt = some t → t ≤ c.cue →
      let w := s.heldWords co c.cue (c.holdTotal s.cue - c.holdCyc)
      ∃ u, exec (.freeze co) s = .next u ∧
        u.coAt co = some { c with mode := .frozen false s.cue, freezeAt := none, holdCyc := c.holdTotal s.cue } ∧ u.mem = s.mem ∧
        ∀ k t, w.tileAt k = some t → k.co = co → u.tileAt k = some { t with st := w.drained c t }) ∧
    (c.mode = .frozen false s.cue → exec (.freeze co) s = .next ((s.drainPoints co).mapTiles co fun t => { t with st := t.st.captured t.site }) ∧
      ((∀ u ∈ s.tilesOf co, u.st.fly = []) → s.drainPoints co = s)) ∧
    (∀ t, (∃ a b, s.drained c t = { t.st with replay := a, xwords := b }) ∧
      (∀ y x, (y, x) ∈ (s.drained c t).replay ↔ (y, x) ∈ t.st.replay ∨ ∃ u ∈ s.tilesOf c.num, ((t.key, y), x) ∈ s.wordsIn c u) ∧
      (∀ x, x ∈ (s.drained c t).xwords ↔ x ∈ t.st.xwords ∧ ∀ e, (e, x) ∉ s.wordsIn c t) ∧
      ∀ e x, (e, x) ∈ s.wordsIn c t ↔ x ∈ t.st.xwords ∧ ∃ g z, c.gangAt t.key.gang = some g ∧ s.crossing g t.key x.side = some z ∧
        z.up = true ∧ e = (z.peer, z.peerSide)) ∧
    (c.mode = .frozen false since → since ≠ s.cue → ∃ u rested, exec (.freezeSaveComplete co) s = .next u ∧
      u.coAt co = some { c with mode := .frozen true since, rested := rested } ∧
      ∀ k t, s.tileAt k = some t → k.co = co → t.lost = false → u.tileAt k = some { t with frz := some t.st }) ∧
    (c.mode = .resuming false since → s.serviceUp = false → exec (.instructionMemoryRewrite co) s = .next s) ∧
    (c.mode = .resuming false since → s.serviceUp = true → c.info.overlaid = false →
      ∃ u, exec (.instructionMemoryRewrite co) s = .next u ∧ u.coAt co = some { c with mode := .resuming true (s.cue + 1) } ∧
        (∀ t ∈ s.tilesOf co, t.lost = false → (s.parentOf t.site t.region).isSome = true →
          (((u.sites[t.site]).regions[t.region]).trimFrom).isSome = true) ∧
        ∀ k t g, s.tileAt k = some t → (∀ x ∈ s.tiles, x.key = k → x = t) → k.co = co → t.lost = false → c.gangAt k.gang = some g →
          u.tileAt k = some { t with imem := #v[g.bin.segment 0, []] }) ∧
    (c.mode = .resuming true since → (∃ t ∈ s.tilesOf co, t.lost = false ∧ (((s.sites[t.site]).regions[t.region]).trimFrom).isSome = true) →
      exec (.resume co) s = .next (s.setCo { c with mode := .resuming true (s.cue + 1) })) ∧
    (c.mode = .resuming true since → since + 256 ≤ s.cue → s.awake co 0 = true →
      (∀ t ∈ s.tilesOf co, t.lost = false ∧ ((s.sites[t.site]).regions[t.region]).trimFrom = none ∧ t.frz.isSome = true) →
      ∃ u d, exec (.resume co) s = .next u ∧ u.coAt co = some d ∧ d.mode = .running ∧ d.cue = c.cue ∧ d.base = c.base ∧ d.d0 = s.cue ∧
        d.level = c.wanted ∧ ∀ k t, s.tileAt k = some t → k.co = co → ∃ v, u.tileAt k = some v ∧ v.st = t.st ∧ v.frz = none))

/-- R235, R260, R261, R298: a company starts with company cue equal to deck cue, each region's counter on the region's own deck counter; a launch
whose tiles have halted with their work done ends; one with a cause has its engines' work abandoned, its units back and its sealed writes released 257
cycles after it (the model's choice, log 101), those to the host once PCIe is there (13 R336), its record posted, with the status words of a
ROUTE_LOST as they stood (11 R301), and ends in a cycle after that. A launch that has ended has no tile, company or circuit, and the completion word
its packet asked for carries its code, its rollbacks and its hold cycles.
R250: a rollback takes a company back to its last boundary: company cue one past it, the open gate interval gone (but for writes of a module past
its loss cue, which stay to be counted as lost: 13 R330), every tile as its image holds it, the hold it stood in counted; a third in a row to one
boundary (log 38), and one that needs a bad image, ends the launch. R255: instruction memory is written again, then the restart is announced at least 256
deck cycles ahead; there the company runs, on each region's own counter (log 73), its D0 the restart (log 34).
R299, R300, R302: errors. One in a tile's storage or in the open gate interval rolls its company back; one in a boundary image marks it bad, one
in a freeze image takes it away; one in a weight store is kept against it and ends the launch that has the tile, none where a lost gang had it (R297);
one in deck memory poisons its block; one in a mailbox word leaves all ones, full; one a structure corrects is counted and changes nothing else; a
scrub changes no value.
An event where it is not enabled changes nothing: the model's choice (log 6). The stop and the restart cue of a rollback within their bounds are free (log 5). -/
def Obligations.LaunchAndRollbackEvents : Prop :=
  (∀ (s : State) (co : Nat) (c : Company), s.coAt co = some c →
    (∀ start, c.mode = .loading start → start ≤ s.cue → c.info.loads = [] → c.fatal = none → s.awake co 4096 = true →
      ∃ u d, exec (.companyStart co) s = .next u ∧ u.coAt co = some d ∧ d.mode = .running ∧ d.cue = s.cue ∧ d.base = s.cue ∧ d.num = c.num ∧
        d.rollbacks = c.rollbacks ∧ (∀ g ∈ d.gangs, g.base = s.cue) ∧ u.mem = s.mem ∧
        ∀ k t, s.tileAt k = some t → k.co = co →
          u.tileAt k = some { t with skew := ((s.sites[t.site]).regions[t.region]).offset }) ∧
    (c.mode = .running → c.fatal = none → (∀ t ∈ s.tilesOf co, t.finished = true) → c.gateOpen = [] → c.gateSealed = [] →
      (∀ t ∈ s.tilesOf co, t.st.loadQ = [] ∧ t.st.storeQ = []) → exec (.launchEnd co) s = .next (s.freeCompany c 0)) ∧
    (c.mode = .running → c.fatal = none → (∀ t ∈ s.tilesOf co, t.finished = true) → c.gateOpen ≠ [] →
      exec (.launchEnd co) s = .next (s.setCo (s.seal c))) ∧
    (c.gateOpen ≠ [] → (∀ w ∈ c.gateOpen, s.pastLoss w.site = false) →
      s.seal c = { c with gateSealed := c.gateSealed ++ [⟨c.cue, false, c.gateOpen⟩], gateOpen := [] }) ∧
    (∀ f, c.fatal = some f → f.since + 257 ≤ s.cue → f.stopped = false → ∃ (u : State) (left : List GInterval),
      exec (.launchFaultEnd co) s = .next u ∧
      u.coAt co = some { c with gateSealed := left, gateOpen := [], fatal := some { f with stopped := true } } ∧
      left.flatMap (·.writes) = (c.gateSealed.flatMap (·.writes)).filter (fun w => !s.pastLoss w.site && (w.host.isSome && !s.serviceUp)) ∧
      (left.flatMap (·.writes) = [] → left = []) ∧
      ∀ k t, s.tileAt k = some t → k.co = co → t.lost = false → ∃ v, u.tileAt k = some v ∧ v.st.halted = true ∧ v.st.fly = [] ∧
        v.st.wheel = [] ∧ v.st.loadQ = [] ∧ v.st.storeQ = [] ∧ v.st.copyQ = [] ∧ v.st.mbQ = [] ∧ v.st.chorus = [] ∧ v.st.combine = [] ∧
        (∀ i : Fin 256, v.st.own[i] = t.st.own[i] &&& 0x10) ∧ v.st.spad = t.st.spad ∧ v.trap = t.trap) ∧
    (∀ f, c.fatal = some f → f.since + 257 ≤ s.cue → f.stopped = true → c.gateSealed = [] →
      exec (.launchFaultEnd co) s = .next (s.freeCompany c f.code)) ∧
    (∀ f, c.fatal = some f → f.since + 257 ≤ s.cue → f.stopped = true → c.gateSealed ≠ [] → ∃ u d, exec (.launchFaultEnd co) s = .next u ∧
      u.coAt co = some d ∧ d.fatal = some f ∧ (s.serviceUp = true → d.gateSealed = []) ∧ u.tiles = s.tiles) ∧
    (∀ f, c.fatal = some f → s.cue < f.since + 257 → exec (.launchFaultEnd co) s = .next s) ∧
    (∀ f, c.fatal = some f → f.since + 257 ≤ s.cue → f.stopped = false → s.serviceUp = true →
      (s.logHead - s.logTail.setWidth 32).toNat < 1024 → ∃ u r, exec (.launchFaultEnd co) s = .next u ∧ u.log.getLast? = some r ∧
        r.st = f.words ∧ r.w1 = f.info ∧ (r.w0.extractLsb' 56 8 = 1 ∧ r.w0.extractLsb' 48 8 = f.code)) ∧
    (∀ code info pc unit tile, c.fatal = none → ∃ d f, (s.endCause co code info pc unit tile).coAt co = some d ∧ d.fatal = some f ∧
      f.code = code ∧ f.since = s.cue ∧ f.stopped = false ∧ f.info = info ∧
      (code ≠ cROUTE → f.words = Vector.replicate 4 0) ∧
      ∀ k t, code = cROUTE → tile = some k → s.tileAt k = some t → f.words = t.status.map SideStatus.image) ∧
    (∀ code, (s.freeCompany c code).coAt c.num = none ∧ (∀ t ∈ (s.freeCompany c code).tiles, t.key.co ≠ c.num) ∧
      (∀ x ∈ (s.freeCompany c code).circuits, x.co ≠ c.num) ∧ (s.freeCompany c code).mem = s.mem ∧
      ∀ o m, s.ops = [o] → o.id = c.info.op → (∀ w x y, o.kind ≠ .rejoin w x y) → o.done = some m → c.info.loads = [] → s.serviceUp = true →
        (s.freeCompany c code).ops = [] ∧
        (s.freeCompany c code).mb m = ⟨completionWord code c.rollbacks (c.holdTotal s.cue), true⟩) ∧
    (∀ code rb hold, rb ≤ 255 → hold < 2 ^ 48 → (completionWord code rb hold).toNat = code.toNat * 2 ^ 56 + rb * 2 ^ 48 + hold)) ∧
  (∀ (s : State) (co unit since : Nat) (info : W64) (p : RecPlace) (c : Company), s.coAt co = some c → c.fatal = none →
    (c.sameB < 2 → c.mode = .running ∨ c.mode = .held since → c.imgRounds = [] → (∀ t ∈ s.tilesOf co, t.imgBad = false ∨ t.lost = true) →
      ∃ d, (s.rollback co unit info p).coAt co = some d ∧ d.mode = .rolling none ∧
      d.cue = c.lastB + 1 ∧ d.gateOpen = c.gateOpen.filter (fun w => s.pastLoss w.site) ∧ d.gateSealed = c.gateSealed ∧ d.rollbacks = c.rollbacks + 1 ∧
      d.holdCyc = c.holdTotal s.cue ∧
      ∀ k t, s.tileAt k = some t → k.co = co → t.imgTrap = none → (s.rollback co unit info p).tileAt k = some (t.restored c)) ∧
    (2 ≤ c.sameB ∨ (∃ t ∈ s.tilesOf co, t.imgBad = true ∧ t.lost = false) → ∃ d f, (s.rollback co unit info p).coAt co = some d ∧
      d.fatal = some f ∧ f.code = cECC ∧ d.rollbacks = c.rollbacks + 1) ∧
    (c.mode = .rolling none → c.info.overlaid = false →
      ∃ u at_, exec (.rollbackRestart co) s = .next u ∧ s.cue + 256 ≤ at_ ∧ u.coAt co = some { c with mode := .rolling (some at_) } ∧
        ∀ k t g, s.tileAt k = some t → (∀ x ∈ s.tiles, x.key = k → x = t) → k.co = co → t.lost = false → c.gangAt k.gang = some g →
          u.tileAt k = some { t with imem := #v[g.bin.segment 0, []] }) ∧
    (∀ at_, c.mode = .rolling (some at_) →
      (at_ ≤ s.cue → ∃ u, exec (.rollbackRestart co) s = .next u ∧ u.coAt co = some { c with mode := .running, d0 := s.cue } ∧
        ∀ k t, s.tileAt k = some t → k.co = co → u.tileAt k = some { t with skew := ((s.sites[t.site]).regions[t.region]).offset }) ∧
      (s.cue < at_ → exec (.rollbackRestart co) s = .next s)) ∧
    (∀ d, c.mode = .held d → c.holdTotal s.cue = c.holdCyc + (s.cue - d)) ∧ (c.mode = .running → c.holdTotal s.cue = c.holdCyc)) ∧
  (∀ (s : State) (k : TileKey) (t : Tile) (n : SiteId) (q : Fin 4) (r c : Fin 16) (a : BitVec 48) (m : Fin 4096) (u : Fin 6),
    (s.tileAt k = some t → exec (.uncorrectableError (.tile k u)) s =
        .next ((s.uncorrected k.co u (s.placeOf t) none).rollback k.co u 0 (s.placeOf t)) ∧
      exec (.uncorrectableError (.shadow k true)) s = .next ((s.uncorrected k.co 7 (s.placeOf t) none).setTile { t with imgBad := true }) ∧
      exec (.uncorrectableError (.shadow k false)) s = .next ((s.uncorrected k.co 7 (s.placeOf t) none).setTile { t with frz := none })) ∧
    ((s.coAt k.co).isSome = true → exec (.uncorrectableError (.gate k.co n q false)) s =
      .next ((s.uncorrected k.co 8 ⟨n, q, 0, 0, 0⟩ none).rollback k.co 8 0 ⟨n, q, 0, 0, 0⟩)) ∧
    (∃ v, exec (.uncorrectableError (.weights n q r c)) s = .next v ∧ s.weightBaseAt n q r c ∈ v.weightBad ∧ v.mem = s.mem ∧
      ((∀ t ∈ s.tiles, t.site = n → t.region = q → t.row = r → t.col = c → t.lost = true) → v.companies = s.companies) ∧
      ∀ d, s.tileAt k = some t → (∀ x ∈ s.tiles, x.site = n → x.region = q → x.row = r → x.col = c → x.lost = false → x = t) →
        t.site = n → t.region = q → t.row = r → t.col = c → t.lost = false → s.coAt k.co = some d → d.fatal = none →
        ∃ e f, v.coAt k.co = some e ∧ e.fatal = some f ∧ f.code = cECC) ∧
    (s.hole a.toNat = false → ∃ v, exec (.uncorrectableError (.hbm a)) s = .next v ∧ a.toNat / 64 ∈ v.poison ∧ v.mem = s.mem ∧ v.tiles = s.tiles) ∧
    ((s.sites[siteS]).state.powered = true → s.pastLoss siteS = false → ∃ v, exec (.uncorrectableError (.mailbox m)) s = .next v ∧ v.mb m.val = ⟨0xffffffffffffffff, true⟩) ∧
    (s.tileAt k = some t → exec (.correctedError (.tile k 1)) s = .next (s.regCount t.site t.region 3 1) ∧
      exec (.correctedError (.tile k 2)) s = .next (s.regCount t.site t.region 2 2)) ∧
    (winSite a.toNat = some n → exec (.correctedError (.hbm a)) s = .next (s.modCount n 3 9)) ∧
    (∀ j unit, (s.modCount n j unit).mem = s.mem ∧ (s.modCount n j unit).tiles = s.tiles ∧
      ((s.sites[n]).modCounts[j] ≠ 0xffff → (((s.modCount n j unit).sites[n]).modCounts[j]) = (s.sites[n]).modCounts[j] + 1) ∧
      ((s.sites[n]).modCounts[j] = 0xffff → (((s.modCount n j unit).sites[n]).modCounts[j]) = 0xffff)) ∧
    (∃ v, exec (.scrub n) s = .next v ∧ v.mem = s.mem ∧ v.tiles = s.tiles ∧ v.companies = s.companies))

/-- R312, R314 to R316: a trim exchange asked for keeps the earlier cue; a region without a parent runs none. A follower in service found 2 or less
away moves by one toward its parent, one further away moves not and its path goes out of service; in TRAINING the first exchange takes the whole
difference, the later ones one each, and zeros in a row are counted; across a stitch a region trains once its parent has come to an end, or has none
to trim from in a deck without a root, and again where the anchor is then loaded anew (both log 65). No correction takes a counter more than 2 from
another. A counter moved forward jumps; moved back by k it stands k cycles and then runs k lower, and it never goes back. R311: a measurement that is
due sets OFS alone. The stamps are those of the two counters (12 R314); that an exchange lasts 512 cycles at most, and one whose correction would take
a counter further from another comes to nothing, is the model's reading (log 20).
R319: a circuit whose route no longer stands is torn down, and e7 arrives at both ends; one that is down comes up on the first route, its own
before the parallel links' (the model's choice, log 25), that fits and has room, its sides' OFS is due, and e7 arrives at both ends; an end that is
lost, or whose launch has not started, takes no flag.
R299, R319: a link's first CRC failure is counted, a second takes the link out of service; a link returned is in service again.
An event where it is not enabled changes nothing: the model's choice (log 6). The stamps of a measurement are inputs (log 20). -/
def Obligations.LinkAndTrimEvents : Prop :=
  (∀ (s : State) (n : SiteId) (q : Fin 4) (p : Parent) (y : SiteId × Fin 4) (t1 t2 t4 : BitVec 64),
    let d := trimD t1 t2 t4
    let r := (s.sites[n]).regions[q]
    (exec (.periodicTrim n q) s = .next (s.askTrim n q s.cue)) ∧
    (∀ a, (s.parentOf n q = none → s.askTrim n q a = s) ∧
      (s.parentOf n q = some p → s.askTrim n q a = s.setRegion n q fun r => { r with trimFrom := some ((r.trimFrom.map (min a)).getD a) })) ∧
    (s.parentOf n q = some p → s.parentAt n p = some y → s.pastLoss n = false → s.pastLoss y.1 = false →
      stampsFit (s.counter n q) (s.counter y.1 y.2) t1 t2 t4 = true →
      r.heldTo ≤ s.cue →
      (∀ a, (s.sites[n]).state ≠ .training → r.trimStart = some a → a ≤ s.cue → s.cue ≤ a + 512 →
        t1 = BitVec.ofInt 64 (s.counter n q - ((s.cue - a : Nat) : Int)) →
        (d.natAbs ≤ 2 → (d ≠ 0 → s.nearAll n q d.sign = true) →
          exec (.trimExchange n q t1 t2 t4) s = .next ((s.setRegion n q fun r => r.corrected d.sign s.cue).askOfs n q)) ∧
        (d.natAbs ≤ 2 → d ≠ 0 → s.nearAll n q d.sign = false → exec (.trimExchange n q t1 t2 t4) s = .next s) ∧
        (2 < d.natAbs → exec (.trimExchange n q t1 t2 t4) s =
          .next (((s.setRegion n q fun r => r.corrected 0 s.cue).askOfs n q).pathOut n q p))) ∧
      ((s.sites[n]).state = .training → s.trains n q p = true →
        (let again := isCompute n && q == s.anchor n && decide (d ≠ 0)
        let u := if again then s.retrain n q else s
        r.loads = 0 → (d ≠ 0 → u.nearAll n q d = true) → exec (.trimExchange n q t1 t2 t4) s =
          .next ((u.setRegion n q fun r => (r.corrected d s.cue).counted d).askOfs n q)) ∧
        (0 < r.loads → d.natAbs ≤ 2 → (d ≠ 0 → s.nearAll n q d.sign = true) → exec (.trimExchange n q t1 t2 t4) s =
          .next ((s.setRegion n q fun r => (r.corrected d.sign s.cue).counted d).askOfs n q))) ∧
      ((s.sites[n]).state = .training → s.trains n q p = false → exec (.trimExchange n q t1 t2 t4) s = .next s)) ∧
    (∀ o : Fin 4, ((s.retrain n q).sites[n]).regions[o] = if o = q then r else { (s.sites[n]).regions[o] with loads := 0, zeros := 0 }) ∧
    (s.trains n q p = true ↔ r.loads < 8 ∧ r.zeros < 2 ∧
      ∀ o, p = .stitch o → 2 ≤ ((s.sites[n]).regions[o]).zeros ∨ (s.rootSite = none ∧ s.parentOf n o = none)) ∧
    (∀ k, s.nearAll n q k = true ↔ ∀ c ∈ s.counters, c = (n, q) ∨ ((s.sites[c.1]).state.up = false ∧ ((s.sites[c.1]).regions[c.2]).loads = 0) ∨
      (s.counter n q + k - s.counter c.1 c.2).natAbs ≤ 2) ∧
    (∀ (r : Region) (k : Int) (cue a : Nat),
      (r.corrected k cue).trimGen = r.trimGen + 1 ∧ (r.corrected k cue).lastCorr = BitVec.ofInt 8 k ∧ (r.corrected k cue).trimFrom = none ∧
      (r.counted k).loads = r.loads + 1 ∧ (r.counted k).zeros = (if k = 0 then r.zeros + 1 else 0) ∧
      (0 ≤ k → r.heldTo ≤ a → (r.corrected k cue).counterAt a = r.counterAt a + k) ∧
      (k < 0 → r.heldTo < cue → cue ≤ a → (r.corrected k cue).counterAt a =
        if a < cue + k.natAbs then r.counterAt cue - 1 else r.counterAt a + k) ∧
      (cue ≤ a → r.counterAt (cue - 1) ≤ (r.corrected k cue).counterAt a)) ∧
    (∀ o l, (n, if o = q + 1 then q else o) ∈ (s.pathOut n q (.stitch o)).stitchesOut ∧ (n, 0) ∈ (s.pathOut n q .command).stitchesOut ∧
      s.pathOut n q (.link l) = s.linkOut l) ∧
    (∀ k h side x u, s.hereAt k = some h → s.crossing h.gang k side = some x → x.up = true → s.tileAt x.peer = some u →
      h.t.ofsDue[sideNo side] = true → stampsFit (s.counter h.t.site h.t.region) (s.counter u.site u.region) t1 t2 t4 = true → d.natAbs ≤ 2 →
      exec (.ofsMeasurement k side t1 t2 t4) s = .next (s.setTile { h.t with
        ofs := h.t.ofs.set (sideNo side) (BitVec.ofInt 8 d), ofsDue := h.t.ofsDue.set (sideNo side) false }))) ∧
  (∀ (s : State) (i : Nat) (c : Circuit) (route : List DeckLink) (e : (Tile × Side) × (Tile × Side)), s.circuits[i]? = some c →
    (s.circuitStands c = true → exec (.circuitTeardown i) s = .next s) ∧
    (s.circuitStands c = false → exec (.circuitTeardown i) s = .next (s.tearDown i)) ∧
    (c.up = true → (∃ d, (s.tearDown i).circuits[i]? = some d ∧ d.up = false ∧ d.route = c.route ∧ d.tornAt = some s.cue) ∧
      ∀ k t, k = c.a.1 ∨ k = c.b.1 → s.tileAt k = some t → t.lost = false → s.notStarted k.co = false →
        ∃ u, (s.tearDown i).tileAt k = some u ∧ u.st.arrive.getLsbD 7 = true ∧ ∀ b, b ≠ 7 → u.st.arrive.getLsbD b = t.st.arrive.getLsbD b) ∧
    (s.circuitEnds c = some e → c.up = false → e.1.1.lost = false → e.2.1.lost = false → s.chosenRoute i c = some route →
      ∃ t, exec (.circuitSetup i route) s = .next t ∧ t.circuits = s.circuits.set i { c with up := true, route := route } ∧ t.mem = s.mem ∧
        (∃ u, t.tileAt c.a.1 = some u ∧ u.ofsDue[sideNo c.a.2] = true ∧ (s.notStarted c.a.1.co = false → u.st.arrive.getLsbD 7 = true)) ∧
        ∃ u, t.tileAt c.b.1 = some u ∧ u.ofsDue[sideNo c.b.2] = true ∧ (s.notStarted c.b.1.co = false → u.st.arrive.getLsbD 7 = true)) ∧
    (s.chosenRoute i c ≠ some route → exec (.circuitSetup i route) s = .next s) ∧
    (s.circuitEnds c = some e → s.chosenRoute i c = some route → s.routeFits e.1 e.2 route = true ∧ s.routeRoom i route = true ∧
      route ∈ otherRoutes c.route) ∧
    (∀ e, s.circuitEnds c = some e → s.routeFits e.1 e.2 c.route = true → s.routeRoom i c.route = true → s.chosenRoute i c = some c.route)) ∧
  (∀ (s : State) (l : DeckLink),
    (s.linkUp l = true → exec (.linkCrcFailure l false) s = .next (s.modCount l.site 1 0x0b) ∧
      exec (.linkCrcFailure l true) s = .next (s.linkOut l)) ∧
    (s.linkUp l = false → ∀ b, exec (.linkCrcFailure l b) s = .next s) ∧
    (s.linksOut.contains l = false → l ∈ (s.linkOut l).linksOut) ∧
    (∃ t, exec (.linkReturnToService l) s = .next t ∧ l ∉ t.linksOut ∧ t.mem = s.mem))

/-- R322, R326, R327, R329: contacts and phases. A decision takes effect 4,096 cycles after it is made; a contact that opens under power loses the
site from that cue, the decision at most 12,288 cycles on (log 40); a stage that trips faults its site, its
input opens and its rails are discharged within 40,000 cycles, and its output stays isolated until CMD RESET (log 92); a module powers up only with
its stage closed.
R327, R329: the keep-alive: a powered module that is not mute is heard; 256,000 cycles of silence lose the site, and its window is a hole from
4,096 cycles after the last (log 21).
R305, R315, R326, R328, R367, R368: self-test writes the report and the defect maps of the module's record, read by the leaf controller on a
pass, and leads to TRAINING or FAULTED. Admission trains the links, waits for two zeros in a row of every
counter and for every link's OFS, and leads to ADMITTED with the window cleared, or to FAULTED. The maps stay with the module (log 76).
R325, R326: the commands of a site, in the states that allow them, with CMDERR elsewhere; POWER is void where the module's type has
already led to FAULTED (log 89).
R326, R327: a decision whose transition the table lacks changes no site; one it has sets the state, the epoch one higher where a module comes in
from TRAINING; an opening makes a SEATED site EMPTY, one sensed at a RELEASED, LOST or FAULTED site is judged by the contacts and loses none that
stand closed again. The step takes every decision whose cue has come at the first counter of the deck (log 61). Each region sees a transition, and has
e8 in its tiles and SITE_LOST pending in those of a company that loses the site, as its own counter comes to the cue; till then its copy of the site
table stands; the status word follows site S's counter, the window of a module the module's own.
An event where it is not enabled changes nothing: the model's choice (log 6). Contacts and outcomes of tests are inputs (log 4). -/
def Obligations.SiteEvents : Prop :=
  (∀ (s : State) (n : SiteId),
    let x := s.sites[n]
    (x.state = .empty → s.awaits n .seated = false → (∃ c, x.closedSince = some c ∧ c + 2 ^ 22 ≤ s.cue) →
      exec (.presenceClampClosed n) s = .next (s.judge n .seated 0)) ∧
    (x.state = .lost ∨ x.state = .faulted → s.awaits n .empty = false → (∃ c, x.openSince = some c ∧ c + 2 ^ 22 ≤ s.cue) →
      exec (.presenceOpenFor222Cycles n) s = .next (s.judge n .empty 0)) ∧
    (x.present = true → exec (.presenceOpen n) s = .next ((s.setSite n fun x => { x with
      present := false, module := 0, closedSince := none, openSince := some s.cue }).opened n 1)) ∧
    (x.clamp = true → exec (.clampOpen n) s = .next ((s.setSite n fun x => { x with clamp := false, closedSince := none }).opened n 2)) ∧
    (∀ cause, x.state.powered = true → ∃ k : Nat, k ≤ 12288 ∧
      s.opened n cause = { s with free := s.free + 1 }.loseBy n .lost cause s.cue (s.cue + k) true) ∧
    (s.inPhase n .powering = true → x.stage = true → s.cue < x.phaseSince + 2 ^ 26 → exec (.powerGood n) s = .next (s.judge n .testing 0)) ∧
    (x.stage = false → exec (.powerGood n) s = .next s) ∧
    (∀ limit cause, phaseLimit x.state = some (limit, cause) → s.inPhase n x.state = true →
      x.phaseSince + limit ≤ s.cue → exec (.phaseTimeLimit n) s = .next (s.judge n .faulted cause)) ∧
    (x.stage = true → (∀ c, x.openAt = some c → s.cue < c) →
      (x.tripped = false → ∃ k : Nat, k ≤ 40000 ∧
        let t := { s with free := s.free + 1 }.setSite n fun x => x.trip (s.cue + k)
        exec (.powerStageTrip n) s = .next (if x.state.powered then t.lose n .faulted 6 s.cue s.cue else t)) ∧
      (x.tripped = true → exec (.powerStageTrip n) s = .next s)) ∧
    (∀ at_, (x.trip at_).tripped = true ∧ (x.trip at_).stage = x.stage ∧ ∃ c, (x.trip at_).openAt = some c ∧ c ≤ at_ ∧
      ∀ o, x.openAt = some o → c ≤ o) ∧
    (∀ to_ cause, (x.enter to_ cause s.cue).tripped = x.tripped ∧
      ((x.enter .powering cause s.cue).stage = !x.tripped) ∧ (x.enter .powering cause s.cue).openAt = none) ∧
    (∀ c, x.stage = true → x.openAt = some c → c ≤ s.cue → exec (.powerStageTrip n) s = .next (s.setSite n fun x => x.dark.railsOff)) ∧
    (x.dark.railsOff.stage = false ∧ ∀ (q : Fin 4) (i : Fin 32), (x.dark.railsOff.regions[q]).rail = false ∧
      ((x.dark.railsOff.regions[q]).islands[i]).vset = 0 ∧ ((x.dark.railsOff.regions[q]).islands[i]).vmeas = 0) ∧
    (x.state.up = true → exec (.fatalModuleError n) s = .next (s.lose n .faulted 12 s.cue s.cue)) ∧
    (∀ to_ cause, s.kept = true → (∀ d ∈ s.decisions, d.site = n → d.effect = s.cue + 4096 → d.isLoss = false) →
      (s.judge n to_ cause).sites = s.sites ∧ ⟨s.cue + 4096, n, to_, cause, false⟩ ∈ (s.judge n to_ cause).decisions)) ∧
  (∀ (s : State) (n : SiteId),
    let x := s.sites[n]
    (x.state.powered = true → x.mute = false →
      exec (.keepAliveSend n) s = .next (s.setSite n fun x => { x with keepAlive := s.cue })) ∧
    (x.mute = true → exec (.keepAliveSend n) s = .next s) ∧
    (x.state.powered = true → s.losing n 3 = false → x.keepAlive + 256000 ≤ s.cue →
      ∃ d : Nat, d ≤ 8192 ∧ exec (.keepAliveSilence n) s = .next
        ({ s with free := s.free + 1 }.lose n .lost 3 (x.keepAlive + 4096) (s.cue + d))) ∧
    (x.state.powered = true → x.mute = true → x.keepAlive + 4096 ≤ s.cue → s.siteHole n = true) ∧
    (∀ to_ cause l at_, ((s.lose n to_ cause l at_).sites[n]).lossCue = some ((x.lossCue.map (min l)).getD l)) ∧
    (∀ to_ cause l at_, s.kept = true → to_ = .lost ∨ to_ = .faulted →
      ⟨at_ + 4096, n, to_, cause, false⟩ ∈ (s.lose n to_ cause l at_).decisions)) ∧
  (∀ (s : State) (n : SiteId) (o : TestOutcome) (ps : List (Fin 8)),
    let fails := testFails o ∨ o.recordOk = false ∨ o.firmwareOk = false
    (s.inPhase n .testing = true → ∃ t : State, (exec (.selfTest n o) s = .next (t.judge n (if fails then .faulted else .training)
        (if testFails o then 7 else if o.recordOk = false then 8 else if o.firmwareOk = false then 14 else 0))) ∧
      2 ≤ ((t.sites[n]).report).length ∧ (isCompute n = true → ∀ q : Fin 4, ((t.sites[n]).regions[q]).record = mapOf o.entries q ∧
        ((t.sites[n]).regions[q]).defects = if fails then ((s.sites[n]).regions[q]).defects else mapOf o.entries q) ∧
      (isCompute n = true → t.cardOf (s.sites[n]).chip = (t.sites[n]).regions.map (·.record)) ∧
      (∀ a, n.val * 4 * 16 * 17 * 0x400000 ≤ a → a < (n.val + 1) * 4 * 16 * 17 * 0x400000 → memGet t.weights a = 0)) ∧
    (s.inPhase n .training = true → (s.sites[n]).trained = false →
      exec (.admission n .noLink) s = .next (s.judge n .faulted 9) ∧ exec (.admission n .noTrim) s = .next s ∧
      ((∃ p ∈ ps, s.trainable n p = true) → exec (.admission n (.trained ps)) s = .next (s.linkTraining n (ps.filter (s.trainable n))))) ∧
    (∀ p ∈ ps, (linkPeer ⟨n, p⟩).isSome = true → p ∈ ((s.trainLinks n ps).sites[n]).links) ∧
    (∀ out, s.inPhase n .training = true → (s.sites[n]).trained = true →
      (s.trimFailed n = true → exec (.admission n out) s = .next (s.judge n .faulted 10)) ∧
      (s.trimFailed n = false → s.trimDone n = false ∨ s.linksMeasured n = false → exec (.admission n out) s = .next s) ∧
      (s.trimFailed n = false → s.trimDone n = true → s.linksMeasured n = true → n ≠ siteS → ∃ t : State, exec (.admission n out) s = .next (t.judge n .admitted 0) ∧
        (∀ a, n.val * 0x10000000000 ≤ a → a < (n.val + 1) * 0x10000000000 → memGet t.mem a = 0) ∧
        ∀ q : Fin 4, ((t.sites[n]).regions[q]).mapped = ((s.sites[n]).regions[q]).defects)) ∧
    (∀ (q : Fin 4) p, s.trimDone n = true → isCompute n = true → s.railLive n q = true → s.parentOf n q = some p →
      2 ≤ ((s.sites[n]).regions[q]).zeros) ∧
    (s.linksMeasured n = true ↔ ∀ l ∈ s.linksOf n, ((s.sites[n]).linkOfs[l.port]).isSome = true) ∧
    (∀ p y t1 t2 t4, s.inPhase n .training = true → (s.sites[n]).trained = true → s.trimDone n = true → s.linkUp ⟨n, p⟩ = true →
      s.parentAt n (.link ⟨n, p⟩) = some y → ofsFits (s.counter n (if isCompute n then linkRegion p else 0)) (s.counter y.1 y.2) t1 t2 t4 = true →
      ((s.measureLink n p t1 t2 t4).sites[n]).linkOfs[p] = some (BitVec.ofInt 8 (trimD t1 t2 t4)))) ∧
  (∀ (s : State) (n : SiteId), s.serviceUp = true →
    let refused := Host.Outcome.next (s.setSite n fun x => { x with cmdErr := true })
    let x := (s.sites[n]).state
    (x = .seated → (s.awaits n .faulted = false → exec (.cmdPower n) s = .next (s.judge n .powering 0)) ∧
      (s.awaits n .faulted = true → exec (.cmdPower n) s = .next s)) ∧ (x ≠ .seated → exec (.cmdPower n) s = refused) ∧
    (s.openedNow n = false → n ≠ siteS →
      (x.serving = true → exec (.cmdDrain n) s = .next (s.judge n .draining 0) ∧ exec (.siteRequestButton n) s = .next (s.judge n .draining 0)) ∧
      (x.serving = false → exec (.cmdDrain n) s = refused ∧ exec (.siteRequestButton n) s = refused)) ∧
    (x = .draining → exec (.cmdUndrain n) s = .next (s.judge n (if s.inUse n then .active else .admitted) 0)) ∧
    (x ≠ .draining → exec (.cmdUndrain n) s = refused) ∧
    ((x = .released ∨ x = .lost ∨ x = .faulted) → (s.sites[n]).present = true → (s.sites[n]).clamp = true →
      exec (.cmdReset n) s = .next ((s.setSite n fun x => { x with tripped := false }).judge n .powering 0)) ∧
    ((x = .released ∨ x = .lost ∨ x = .faulted) → (s.sites[n]).present = false ∨ (s.sites[n]).clamp = false → exec (.cmdReset n) s = refused) ∧
    (¬(x = .released ∨ x = .lost ∨ x = .faulted) → exec (.cmdReset n) s = refused) ∧
    exec (.freshrdClear n) s = .next (s.setSite n fun x => { x with freshRd := false })) ∧
  ((∀ (s : State) (d : Decision),
    let e := d.resolve s.sites[d.site]
    (transits (s.sites[d.site]).state e.to_ = false → s.transit d = s) ∧
    (d.opening = false → e = d) ∧ (d.opening = true → (s.sites[d.site]).state = .seated → e.to_ = .empty) ∧
    (d.opening = true → d.to_ = .empty →
      ((s.sites[d.site]).state = .lost ∨ (s.sites[d.site]).state = .faulted → s.transit d = s) ∧
      ((s.sites[d.site]).state = .released → (d.cause = 1 → e.to_ = .empty) ∧ (d.cause ≠ 1 → s.transit d = s)) ∧
      ((s.sites[d.site]).state.powered = true → ((s.sites[d.site]).present = true ∧ (s.sites[d.site]).clamp = true → s.transit d = s) ∧
        ((s.sites[d.site]).present = false ∨ (s.sites[d.site]).clamp = false → e.to_ = .lost))) ∧
    (∀ old, (old = .released ∨ old = .lost ∨ old = .faulted) → ∀ y ∈ (s.renewed d.site old).decisions, y.site = d.site →
      (y.to_ = .lost ∨ y.to_ = .faulted) → False) ∧
    (∀ (x : Site) (to_ : SiteState) (cause : BitVec 8), (x.enter to_ cause s.cue).state = to_ ∧ (x.enter to_ cause s.cue).phaseSince = s.cue ∧
      ((x.state = .training ∧ to_ = .admitted) → (x.enter to_ cause s.cue).epoch = x.epoch + 1) ∧
      (¬(x.state = .training ∧ to_ = .admitted) → (x.enter to_ cause s.cue).epoch = x.epoch)) ∧
    (∃ t, exec .siteTransitionEffect s = .next t ∧
      ((∀ x ∈ s.decisions, s.firstCue < x.effect) → t = s.tell) ∧ ((∃ x ∈ s.decisions, x.effect ≤ s.firstCue) → t.mem = s.mem) ∧
      ((∀ x ∈ s.decisions, x.effect ≤ s.firstCue → transits (s.sites[x.site]).state (x.resolve s.sites[x.site]).to_ = false) →
        s.changes = [] → s.circuits = [] → s.ops = [] → t.tiles = s.tiles)) ∧
    ((s.transit d).sites[d.site].state ≠ (s.sites[d.site]).state → ∃ c, (s.change d).changes = s.changes ++ [c] ∧ c.effect = d.effect ∧
      c.site = d.site ∧ c.was = (s.sites[d.site]).state ∧ c.epoch = (s.sites[d.site]).epoch ∧ c.typ = (s.sites[d.site]).typ ∧
      c.cause = (s.sites[d.site]).lastCause ∧
      ∀ n q, ((s.transit d).sites[n]).state.up = true → (n.val < 8 ∨ q = 0) → (n, q) ∈ c.ahead)) ∧
  (∀ (s : State), (s.changes = [] → s.tell = s) ∧
    (∀ c ∈ s.tell.changes, ∀ x ∈ c.ahead, s.counter x.1 x.2 < c.effect) ∧
    (∀ u ∈ s.tiles, u.lost = false → s.notStarted u.key.co = false → (s.sites[u.site]).state.up = true → (∀ c ∈ s.changes, u.key.co ∉ c.loses) →
      (if ∃ c ∈ s.changes, (u.site, u.region) ∈ c.ahead ∧ (c.effect : Int) ≤ s.counter u.site u.region
        then { u with st := u.st.arrives 8 } else u) ∈ s.tell.tiles) ∧
    (∀ c, ∀ u ∈ s.tiles, s.changes = [c] → u.key.co ∈ c.loses → u.lost = false → s.notStarted u.key.co = false → (s.sites[u.site]).state.up = true →
      (if (u.site, u.region) ∈ c.ahead ∧ (c.effect : Int) ≤ s.counter u.site u.region
        then { u with
          st := u.st.arrives 8
          pend := { u.pend with siteLost := true, sites := u.pend.sites ||| (1#16 <<< c.site.val) } } else u) ∈ s.tell.tiles) ∧
    (∀ m, s.shown m = ((s.changes.find? fun c => c.site == m && c.ahead.contains (siteS, 0)).map fun c =>
      { s.sites[m] with state := c.was, epoch := c.epoch, typ := c.typ, lastCause := c.cause }).getD s.sites[m]) ∧
    (∀ m, s.siteHole m = (!(s.siteView m (s.anchor m) m.val).1.up || s.pastLoss m)) ∧
    ∀ n q m, s.siteView n q m.val = ((s.changes.find? fun c => c.site == m && c.ahead.contains (n, q)).map fun c => (c.was, c.epoch)).getD
      ((s.sites[m]).state, (s.sites[m]).epoch)))

/-- R317, R318, R297: an island or a rail that fails stops its tiles for good, makes the cause pending in the other tiles of their gangs, and
takes the row, or the region, out.
R321, R363: power. A bus below 45 V opens every stage and stops the deck; a bus low for 4,096 cycles, and a hot site, raise targets, by one for
each condition that is due, to 3 at most and not below REEFMIN; quiet for 2^26 cycles lowers one; a sensor at 110 °C, or level 3 with power above 3.3
kW for 2^24, opens the stage. When the first raise of a condition is due, and from when a quiet time counts again, is read as log 35 says; how a deck
that has stopped goes on, as log 49 says.
R365, R366, R370: a sensor is read at multiples of 4,096 deck cycles, the hottest of a module without islands as its own; an island with a company on
it is set to the voltage of its level in its module's record (log 9); one that has failed, or whose rail is dead, is off; one without a company rests at
retention voltage.
An event where it is not enabled changes nothing: the model's choice (log 6). -/
def Obligations.PowerEvents : Prop :=
  (∀ (s : State) (n : SiteId) (q : Fin 4) (i : Fin 32), n.val < 8 →
    ((((s.sites[n]).regions[q]).islands[i]).failed = false → ∃ t, exec (.islandRegulatorFailure n q i) s = .next t ∧
      (∀ k u, s.tileAt k = some u → u.site = n → u.region = q → s.islandOf u = i → ∃ v, t.tileAt k = some v ∧ v.lost = true) ∧
      (((t.sites[n]).regions[q]).islands[i]).failed = true ∧ (((t.sites[n]).regions[q]).islands[i]).mode = 0 ∧
      (∀ p : Fin 16, ((t.sites[n]).regions[q]).defects[p] = if p.val = i.val / 2 then ((s.sites[n]).regions[q]).defects[p] ||| 0x80
        else ((s.sites[n]).regions[q]).defects[p]) ∧
      (∀ k u g v, s.tileAt k = some u → u.lost = false → ¬(u.site = n ∧ u.region = q ∧ s.islandOf u = i) → s.tileAt g = some v → v.lost = false →
        v.site = n → v.region = q → s.islandOf v = i → g.co = k.co → g.gang = k.gang → ∃ w, t.tileAt k = some w ∧ w.pend.islandLost = true) ∧
      t.mem = s.mem) ∧
    (s.railLive n q = true → ∃ t, exec (.regionRailFailure n q) s = .next t ∧ ((t.sites[n]).regions[q]).rail = false ∧
      ((t.sites[n]).regions[q]).grade = 0 ∧ t.mem = s.mem ∧
      (∀ k u, s.tileAt k = some u → u.site = n → u.region = q → ∃ v, t.tileAt k = some v ∧ v.lost = true) ∧
      ∀ k u g v, s.tileAt k = some u → u.lost = false → ¬(u.site = n ∧ u.region = q) → s.tileAt g = some v →
        v.site = n → v.region = q → g.co = k.co → g.gang = k.gang → ∃ w, t.tileAt k = some w ∧ w.pend.regionLost = true)) ∧
  (∀ (s : State) (n : SiteId) (v : BitVec 2),
    let x := s.sites[n]
    (s.busCv.toNat < 4500 → ∃ t, exec .busCollapse s = .next t ∧ t.stopped = true ∧ t.mem = s.mem ∧
      ∀ (m : SiteId) (q : Fin 4), (t.sites[m]).stage = false ∧ ((t.sites[m]).regions[q]).rail = false) ∧
    (4500 ≤ s.busCv.toNat → exec .busCollapse s = .next s) ∧
    (∀ c, s.busLowSince = some c → c + 4096 ≤ s.cue → s.serviceUp = true → exec .busLow s = .next { s with busLowSince := none }.raiseAll) ∧
    (s.serviceUp = true → n.val < 8 →
      (s.deckHotSince = none → ∀ h, x.hotNext = some h → h ≤ s.cue →
        (x.warmNext = none → exec (.reefTargetRaise n) s = .next
          ((s.setSite n fun x => { x with hotNext := some (h + 2 ^ 16), warmNext := none }).setTarget n (x.target.toNat + 1))) ∧
        (∀ w, x.warmNext = some w → w ≤ s.cue → exec (.reefTargetRaise n) s = .next
          ((s.setSite n fun x => { x with hotNext := some (h + 2 ^ 16), warmNext := some (w + 2 ^ 16) }).setTarget n (x.target.toNat + 2)))) ∧
      (∀ c, x.coolSince = some c → c + 2 ^ 26 ≤ s.cue → exec (.reefTargetLower n) s = .next
        ((s.setSite n fun x => { x with coolSince := some s.cue }).setTarget n (x.target.toNat - 1))) ∧
      exec (.reefminWrite n v) s = .next ((s.setSite n fun x => { x with reefMin := v }).setTarget n x.target.toNat)) ∧
    (∀ k, ((s.setTarget n k).sites[n]).target.toNat = max x.reefMin.toNat (min 3 k)) ∧
    (∀ (c : Company) (w : Fin 4), (c.rewanted w).wanted = w) ∧
    (x.stage = true → x.state.powered = true → n.val < 8 → 110 ≤ x.tmax.toNat →
      exec (.thermalTrip n) s = .next ((s.setSite n fun x => x.dark.railsOff).lose n .faulted 12 s.cue s.cue)) ∧
    (x.stage = true → x.state.powered = true → ∀ c, x.tripSince = some c → c + 2 ^ 24 ≤ s.cue →
      exec (.thermalTrip n) s = .next ((s.setSite n fun x => x.dark.railsOff).lose n .faulted 12 s.cue s.cue))) ∧
  (∀ (s : State) (n : SiteId) (q : Fin 4) (i : Fin 32) (temp : BitVec 8) (l : Fin 4),
    (n.val < 8 → s.cue % 4096 = 0 → (s.sites[n]).state.powered = true → ∃ t, exec (.sensorRead n q i temp) s = .next t ∧
      ((((t.sites[n]).regions[q]).islands[i]).temp = temp) ∧ temp.toNat ≤ ((t.sites[n]).tmax).toNat) ∧
    (8 ≤ n.val → s.cue % 4096 = 0 → (s.sites[n]).state.powered = true →
      exec (.sensorRead n q i temp) s = .next (s.setSite n fun x => { x with tmax := temp })) ∧
    (s.cue % 4096 ≠ 0 → exec (.sensorRead n q i temp) s = .next s) ∧
    (s.islandLevel n q i = some l → (((s.sites[n]).regions[q]).islands[i]).failed = false → (((s.sites[n]).regions[q]).islands[i]).woken = none →
      s.railLive n q = true → ∃ t, exec (.islandWake n q i) s = .next t ∧
        ((((t.sites[n]).regions[q]).islands[i]).mode = 2) ∧ ((((t.sites[n]).regions[q]).islands[i]).woken = some s.cue) ∧
        ((((t.sites[n]).regions[q]).islands[i]).vset = Config.islandVolts (s.sites[n]).chip q.val i.val l.val) ∧ t.tiles = s.tiles) ∧
    (∀ (x : Island) (rail : Bool) (lv : Option (Fin 4)) (chip : Nat), let y := x.served rail chip q.val i.val lv
      (x.failed = true ∨ rail = false → y.mode = 0 ∧ y.vset = 0 ∧ y.vmeas = 0) ∧
      (x.failed = false → rail = true → (lv = none ∨ x.woken = none) → y.mode = 1 ∧ y.vset = Config.retentionVolts chip q.val i.val) ∧
      (x.failed = false → rail = true → x.woken.isSome = true → lv = some l → y.mode = 2 ∧
        y.vset = Config.islandVolts chip q.val i.val l.val)))

/-! ### Events of the host interface -/

/-- R341, R342, R343: a doorbell records TAIL, and stops a queue it overfills; the commands of a queue; a visit reads the next packet of the
queue and does it, or stops the queue with PACKET_FORMAT when it is not well formed.
R342, R343, R344: QUEUE_VISIT. A queue without a packet to read is passed over; one that has a packet has it in hand and does it in the same step: NOP
completes, COPY and UNLOAD are pending under their number, PUTMB, WAITMB and FENCE issue or block, and every other type reaches the state its own event
reaches. A packet read marks fresh blocks, and one read through a hole reads all zeros, as log 22 says.
An event where it is not enabled changes nothing: the model's choice (log 6). -/
def Obligations.QueueEvents : Prop :=
  (∀ (s : State) (q : Fin 64) (v : BitVec 32),
    let x := s.queues[q]
    (s.hostReaches = true → exec (.doorbell q v) s = .next (s.onQueue q fun _ =>
      if x.stopped = false ∧ 2 ^ x.log2n < (v - x.head).toNat then
        { x with tail := v, stopped := true, code := 0x31, packet := none, blocked := none, freed := none }
      else { x with tail := v })) ∧
    (s.hostReaches = false → exec (.doorbell q v) s = .next s) ∧
    (s.accepts = true →
      (x.stopped = true → exec (.qcmdResume q) s = .next (s.onQueue q fun _ => { x with stopped := false, code := 0 }) ∧
        (x.chain = [] → exec (.qcmdSkip q) s = .next (s.onQueue q fun _ =>
          { x with head := x.head + 1, stopped := false, code := 0, packet := none, blocked := none, freed := none }))) ∧
      (x.stopped = false → exec (.qcmdResume q) s = .next s ∧ exec (.qcmdSkip q) s = .next s) ∧
      exec (.qcmdReset q) s = .next (s.onQueue q fun _ =>
        { x with head := x.tail, chain := [], code := 0, stopped := false, packet := none, blocked := none, freed := none })) ∧
    (∀ f, ((s.onQueue q f).queues[q] = f x) ∧ ∀ r : Fin 64, r ≠ q → (s.onQueue q f).queues[r] = s.queues[r])) ∧
  (∀ s : State, s.accepts = true →
    let q := s.nextQueue
    let x := s.queues[q]
    let at_ := x.next
    let p : Packet := Vector.ofFn fun i => BitVec.ofNat 64 (s.wordNat at_.1 (at_.2 + 8 * i.val) 8)
    let u : State := { s with nextQueue := q + 1 }
    let r := if aperOf at_.1 = 0 then u.freshRead none 0xffff (addrOf at_.1 + at_.2) 64 else u
    let w := r.onQueue q fun x => { x with packet := some p }
    let does (i : Instr) : Prop := ∃ t, exec .queueVisit s = .next t ∧ exec i w = .next t
    (x.ready = false → exec .queueVisit s = .next u) ∧
    (x.ready = true → packetOk p = false → exec .queueVisit s = .next (r.onQueue q fun x => x.stop 0x31)) ∧
    (w.accepts = true ∧ w.nextQueue = q + 1 ∧ (w.queues[q]).packet = some p ∧ w.mem = s.mem ∧ w.mbox = s.mbox ∧ w.ops = s.ops) ∧
    (x.ready = true → packetOk p = true →
      (pkType p = 0 → exec .queueVisit s = .next (w.complete q p 0)) ∧
      (pkType p = 2 → exec .queueVisit s = .next (w.later q p
        (.copy p[1] p[2] (bits p[3] 47 0) (if bit p[4] 63 then some (p[4].setWidth 32) else none) []))) ∧
      (pkType p = 4 → exec .queueVisit s = .next (if (s.mb (pkWord p)).full = false ∧ w.behind q p = false
        then (w.mbSet (pkWord p) ⟨p[1], true⟩).complete q p 0 else w.block q)) ∧
      (pkType p = 5 → exec .queueVisit s = .next (if (s.mb (pkWord p)).full = true ∧ w.behind q p = false
        then (if bit p[0] 12 then w else w.mbSet (pkWord p) ⟨(s.mb (pkWord p)).v, false⟩).complete q p 0 else w.block q)) ∧
      (pkType p = 8 → exec .queueVisit s = .next (if ∃ o ∈ s.ops, o.queue = q.val then w.block q else w.complete q p 0)) ∧
      (pkType p = 6 → bits p[0] 31 30 = 0 → exec .queueVisit s = .next (w.later q p (.unloadCode (bits p[0] 15 0)))) ∧
      (pkType p = 6 → bits p[0] 31 30 = 1 → exec .queueVisit s = .next (w.later q p .unloadData)) ∧
      (∀ y ∈ [(0, Instr.packetNop q), (1, .launch q), (2, .copy q), (3, .weightload q), (4, .putmb q), (5, .waitmb q), (7, .indirect q),
        (8, .fence q)], pkType p = y.1 → does y.2) ∧
      (pkType p = 6 → (bits p[0] 31 30 = 0 → does (.unloadCode q)) ∧ (bits p[0] 31 30 = 1 → does (.unloadData q)) ∧
        (bits p[0] 31 30 = 2 → does (.unloadLaunch q))) ∧
      (pkType p = 9 → (bit p[0] 15 = false → does (.rejoin q)) ∧ (bit p[0] 15 = true → does (.rejoinWithdraw q)))))

/-- R343, R344, R347 to R351: the packets, each in hand of its queue: those that complete at issue post their status, those that complete
later are pending under their number, those whose condition does not hold block their queue. A rejoin withdrawn ends the use of its site (13 R324, R333).
R334, R344, R347, R348, R350, R361: the completions of what was pending: a copy moves the blocks its engine has not moved yet, and completes with
the last that its engine moves, a weight load writes its weights; a launch placed; a gang placed again, which starts one past its boundary, completing
every request for it, unless its site or the service site is lost, the others of its company as they were. What a copy or a weight load reads through
a hole is read as log 22 says; each region's counter at a start: log 73; the circuits of a gang that comes back: log 54.
An event where it is not enabled changes nothing: the model's choice (log 6). Where a launch is placed is free within its rules (log 5). -/
def Obligations.PacketEvents : Prop :=
  (∀ (s : State) (q : Fin 64) (p : Packet), s.accepts = true → (s.queues[q]).packet = some p →
    let x := s.queues[q]
    let w := pkWord p
    let t := pkType p
    let done (code : BitVec 8) := s.complete q p code
    (t = 0 → exec (.packetNop q) s = .next (done 0)) ∧
    (t = 2 → exec (.copy q) s = .next (s.later q p
      (.copy p[1] p[2] (bits p[3] 47 0) (if bit p[4] 63 then some (p[4].setWidth 32) else none) []))) ∧
    (t = 3 → ∃ u, exec (.weightload q) s = .next u ∧ u.ops = (s.later q p .weightload).ops ∧ u.nextOp = s.nextOp + 1 ∧
      (u.queues[q]).bound = x.bound ++ [⟨s.nextOp, bits p[0] 31 29, p[1], bits p[2] 19 15, bits p[2] 14 10, bits p[2] 9 5 + 1,
        bits p[2] 4 0 + 1, bits p[3] 63 32, bits p[3] 21 0, bits p[4] 22 0⟩]) ∧
    (t = 4 → ((s.mb w).full = false → s.behind q p = false → exec (.putmb q) s = .next ((s.mbSet w ⟨p[1], true⟩).complete q p 0)) ∧
      ((s.mb w).full = true ∨ s.behind q p = true → exec (.putmb q) s = .next (s.block q))) ∧
    (t = 5 → ((s.mb w).full = true → s.behind q p = false →
        (bit p[0] 12 = false → exec (.waitmb q) s = .next ((s.mbSet w ⟨(s.mb w).v, false⟩).complete q p 0)) ∧
        (bit p[0] 12 = true → exec (.waitmb q) s = .next (done 0))) ∧
      ((s.mb w).full = false ∨ s.behind q p = true → exec (.waitmb q) s = .next (s.block q))) ∧
    (t = 8 → ((∀ o ∈ s.ops, o.queue ≠ q.val) → exec (.fence q) s = .next (done 0)) ∧
      ((∃ o ∈ s.ops, o.queue = q.val) → exec (.fence q) s = .next (s.block q))) ∧
    (x.blocked ≠ none → (s.free? q p = true → exec (.packetUnblock q) s = .next (s.waitDone q p)) ∧
      (s.free? q p = false → exec (.packetUnblock q) s = .next s)) ∧
    (t = 6 → (bits p[0] 31 30 = 0 → exec (.unloadCode q) s = .next (s.later q p (.unloadCode (bits p[0] 15 0)))) ∧
      (bits p[0] 31 30 = 1 → exec (.unloadData q) s = .next (s.later q p .unloadData)) ∧
      (bits p[0] 31 30 = 2 → ∃ u : State, exec (.unloadLaunch q) s = .next u ∧ (∀ i ∈ u.launches, ¬(i.queue = q.val ∧ i.cmb = w)) ∧
        (s.launches = [] → s.companies = [] → u = s.later q p (.unloadLaunch w)))) ∧
    (t = 7 → (x.live = [] → aperOf p[1] ≠ aperOf x.qbase → ∃ u : State, exec (.indirect q) s = .next u ∧
        (u.queues[q]).chain = [⟨p[1], bits p[2] 15 0 + 1, 0⟩] ∧ (u.queues[q]).head = x.head + 1 ∧ (u.queues[q]).packet = none) ∧
      (4 ≤ x.live.length → exec (.indirect q) s = .next (s.onQueue q fun x => x.stop 0x30))) ∧
    (t = 9 → bit p[0] 15 = false →
      let co := s.companies.find? fun c => c.info.queue == q.val && c.info.cmb == w
      (co = none → exec (.rejoin q) s = .next (done 0x31)) ∧
      (∀ c y, co = some c → c.gangAt (bits p[0] 14 12) = some y →
        (y.detached = false → exec (.rejoin q) s = .next (done 0x31)) ∧
        (y.detached = true → ∃ u : State, exec (.rejoin q) s = .next u ∧ u.nextOp = s.nextOp + 1 ∧
          ∃ o ∈ u.ops, o.id = s.nextOp ∧ o.queue = q.val ∧ o.done = pkPost p ∧
            ∃ y, o.kind = .rejoin w (bits p[0] 14 12) y))) ∧
    (t = 9 → bit p[0] 15 = true →
      (∀ o b, s.ops = [o] → o.queue = q.val → o.kind = .rejoin w (bits p[0] 14 12) b →
        exec (.rejoinWithdraw q) s = .next ((s.opDone o.id (statusWord 0x3b)).complete q p 0).restIslands.reuse) ∧
      ((∀ o ∈ s.ops, ∀ b, o.kind ≠ .rejoin w (bits p[0] 14 12) b) → exec (.rejoinWithdraw q) s = .next (done 0x31))) ∧
    (t = 1 → ∃ u : State, exec (.launch q) s = .next u ∧
      (s.launchRefusal p (s.imageOf p) x.bound = none → u.launches = s.launches ++ [s.launchInfo q p (s.imageOf p) x.bound] ∧
        (u.queues[q]).bound = []) ∧
      (∀ c m, s.launchRefusal p (s.imageOf p) x.bound = some c → x.bound = [] → pkPost p = some m → (∀ o ∈ s.ops, o.id < s.nextOp) →
        u.launches = s.launches.filter (fun i => i.op != s.nextOp) ∧ u.ops = s.ops ∧ u.mb m = ⟨completionWord c 0 0, true⟩)) ∧
    (x.chain = [] → ∀ c, ((s.complete q p c).queues[q]).head = x.head + 1 ∧ ((s.complete q p c).queues[q]).packet = none ∧
      ∀ m, pkPost p = some m → (s.complete q p c).mb m = ⟨BitVec.ofNat 64 (c.toNat * 2 ^ 56), true⟩) ∧
    (∀ k, (s.later q p k).ops = s.ops ++ [⟨s.nextOp, q.val, k, pkPost p⟩])) ∧
  (∀ (s : State) (id co : Nat) (o : PendOp) (c : Company) (l : WLoad) (rest : List WLoad),
    ((s.ops.find? fun o => o.id == id) = some o →
      (∀ src dst len imm moved, o.kind = .copy src dst len imm moved →
        (s.accepts = true → aperOf src = 0 → aperOf dst = 0 → (∀ i < len, s.hole (addrOf src + i) = false ∧ s.hole (addrOf dst + i) = false) →
          exec (.copyCompletion id) s = .next ((((List.range ((len + 63) / 64)).filter fun b => !moved.contains b).foldl
            (fun (u : State) b => u.copyPart src dst (64 * b) (min 64 (len - 64 * b))) s).opDone id (statusWord 0))) ∧
        (aperOf dst = 2 → exec (.retransmissionLimit id) s = .next (s.opDone id (statusWord 0x20)))) ∧
      (∀ src dst len imm moved b, o.kind = .copy src dst len imm moved → s.accepts = true → aperOf src = 0 → aperOf dst = 0 →
        64 * b < len → b ∉ moved →
        ((∃ j < 64, s.hole (addrOf src + 64 * b + j) = true ∨ s.hole (addrOf dst + 64 * b + j) = true) → s.copyBlock id b = s) ∧
        ((∀ j < 64, s.hole (addrOf src + 64 * b + j) = false ∧ s.hole (addrOf dst + 64 * b + j) = false) →
          let u := s.copyPart src dst (64 * b) 64
          let v := { u with ops := u.ops.map fun y => if y.id = id then { y with kind := .copy src dst len imm (b :: moved) } else y }
          s.copyBlock id b = if (∀ i < len / 64, i = b ∨ i ∈ moved) then v.opDone id (statusWord 0) else v)) ∧
      (∀ src dst off n, aperOf src = 0 → aperOf dst = 0 → (∀ i < n, s.hole (addrOf src + off + i) = false) →
        s.copyPart src dst off n = (s.freshRead none 0xffff (addrOf src + off) n).placeWrite .host (cellsAt (addrOf dst + off)
          ((List.range n).map fun i => memGet s.mem (addrOf src + off + i)))) ∧
      (s.accepts = true → s.unloaded o = true → exec (.unloadCompletion id) s = .next (s.opDone id (statusWord 0))) ∧
      (s.unloaded o = false → exec (.unloadCompletion id) s = .next s) ∧
      (∀ v, (s.opDone id v).ops = s.ops.filter (fun x => x.id != id)) ∧
      (∀ v m, o.done = some m → s.serviceUp = true → (s.opDone id v).mb m = ⟨v, true⟩)) ∧
    (∀ start, s.coAt co = some c → c.mode = .loading start → c.fatal = none → c.info.loads = l :: rest →
      let d : Company := { c with info := { c.info with loads := rest } }
      let a := s.applyLoad co l
      (a.2 = true → exec (.weightloadApply co) s = .next ((a.1.setCo d).opDone l.op (statusWord 0))) ∧
      (a.2 = false → exec (.weightloadApply co) s = .next (((a.1.setCo d).opDone l.op (statusWord 0x20)).freeCompany d 0x20)) ∧
      (∀ t, l.nr = 1 → l.nc = 1 → aperOf l.src = 0 → (∀ b < l.len / 64, s.hole (addrOf l.src + 64 * b) = false) →
        s.tileAt (l.tile co 0 0) = some t →
        a.2 = true ∧ a.1.weights = memPutAll s.weights (cellsAt (s.weightBase t + l.waddr) (s.wordBytes l.src 0 l.len)))) ∧
    (∀ i ps, s.accepts = true → s.launches = [i] → s.companies = [] → s.seek i [] = some ps →
      (∀ d, (s.placeAt i ps).companies = [d] → (s.placeAt i ps).circuitsFit d = true) →
      exec .placementPass s = .next ((s.placeAt i ps).reuse).placeRejoins ∧
      ∃ d start, (s.placeAt i ps).companies = [d] ∧ (s.placeAt i ps).launches = [] ∧ d.mode = .loading start ∧ s.cue + 4096 ≤ start ∧
        d.info = i ∧ d.placedAt = s.cue) ∧
    (∀ (g : Fin 8) x r rs w k b, s.coAt co = some c → c.gangAt g = some x → s.rejoinsOf c.info (some x.idx) = r :: rs →
      r.kind = .rejoin w k (.starts b) →
      (c.cue = b + 1 → c.carries s.cue = true → s.pastLoss x.site = false → s.pastLoss siteS = false → s.circuits = [] →
        ∃ u d, exec (.rejoinGangStart co g) s = .next u ∧ u.coAt co = some d ∧ (∀ o ∈ r :: rs, ∀ p ∈ u.ops, p.id ≠ o.id) ∧
          (∀ y ∈ d.gangs, y.idx = x.idx → y.detached = false ∧ y.base = b + 1) ∧
          (∀ t ∈ s.tilesOf co, t.key.gang = x.idx →
            { t.fresh x b with skew := ((s.sites[t.site]).regions[t.region]).offset } ∈ u.tiles) ∧
          ∀ t ∈ s.tilesOf co, t.key.gang ≠ x.idx → t ∈ u.tiles) ∧
      (s.pastLoss x.site = true ∨ s.pastLoss siteS = true → exec (.rejoinGangStart co g) s = .next s)) ∧
    (∀ (t : Tile) (g : Gang) b, let v := t.fresh g b
      v.lost = false ∧ v.st = { TState.launch g.bin.data with e := 0x100, marked := some b } ∧ v.imem = t.imem ∧ v.key = t.key))

/-- R269, R300, R332, R339 to R341, R360, R361: the host's accesses to deck memory, on each port through that port's own decoders, its registers, the
network's writes; in recovery the window of port 0 alone (14 R354). An access outside every window does nothing (log 45); the put of an immediate
waits for its word (log 67). The status word shows a site as site S's own counter does (13 R327).
An event where it is not enabled changes nothing: the model's choice (log 6). Widths and offsets of a register write: log 27. -/
def Obligations.HostEvents : Prop :=
  (∀ (s : State) (a : BitVec 48) (n : Nat) (bytes : List (BitVec 8)) (port dec : Fin 4) (size : BitVec 48) (i : Fin 64) (v : BitVec 64)
    (off : BitVec 25) (peer : Fin 16), s.accepts = true →
    let x := s.peers[peer]
    let o := off.toNat
    let inRange := x.base ≤ a.toNat ∧ a.toNat + bytes.length ≤ x.base + x.len
    (s.decoded port a.toNat n = true → ∃ t, exec (.hostCxlRead ⟨port, a⟩ n) s = .next t ∧ t.mem = s.mem ∧ t.hostRead = some
      ⟨(List.range n).map fun j => if s.hole (a.toNat + j) then 0 else memGet s.mem (a.toNat + j),
        s.poisoned a.toNat n || (List.range n).any fun j => s.hole (a.toNat + j)⟩ ∧
      ∀ b i, (∃ j < n, (a.toNat + j) / 64 = b) → winSite (64 * b) = some i → s.hole (64 * b) = false → b ∉ s.written →
        (t.sites[i]).freshRd = true ∧ (t.sites[i]).freshCo = if (s.sites[i]).freshRd then (s.sites[i]).freshCo else 0xffff) ∧
    (s.decoded port a.toNat bytes.length = true → exec (.hostCxlWrite ⟨port, a⟩ bytes) s = .next (s.placeWrite .host (cellsAt a.toNat bytes))) ∧
    (s.decoded port a.toNat n = false → exec (.hostCxlRead ⟨port, a⟩ n) s = .next s) ∧
    (s.decoded port a.toNat bytes.length = false → exec (.hostCxlWrite ⟨port, a⟩ bytes) s = .next s) ∧
    (∀ m, s.decoded port a.toNat m = true ↔ ∃ h ∈ s.hdm, h.port = port ∧ h.base ≤ a.toNat ∧ a.toNat + m ≤ h.base + h.size) ∧
    (s.MemInv → (∀ p ∈ s.memOrd, p.2.le (s.place0 .host 0) = true) → (∀ j < bytes.length, s.hole (a.toNat + j) = false) →
      let t := s.placeWrite .host (cellsAt a.toNat bytes)
      (∀ j < bytes.length, memGet t.mem (a.toNat + j) = bytes.getD j 0) ∧
      (∀ b, b < a.toNat ∨ a.toNat + bytes.length ≤ b → memGet t.mem b = memGet s.mem b)) ∧
    (size ≠ 0 → a.toNat % 0x10000000 = 0 → size.toNat % 0x10000000 = 0 → populatedRange a.toNat size.toNat = true → ∃ t,
      exec (.hdmDecoderCommit port dec a size) s = .next t ∧ ⟨port, dec, a.toNat, size.toNat⟩ ∈ t.hdm ∧
      ∀ h ∈ t.hdm, h.port = port → h.dec = dec → h.base = a.toNat) ∧
    (populatedRange a.toNat size.toNat = false → exec (.hdmDecoderCommit port dec a size) s = .next s) ∧
    (exec (.mailboxFullClear i 0) s = .next s) ∧
    (∀ b : Fin 64, exec (.mailboxFullClear i (BitVec.ofNat 64 (2 ^ b.val))) s = .next
      (if (s.mb (64 * i.val + b.val)).full then s.mbSet (64 * i.val + b.val) ⟨(s.mb (64 * i.val + b.val)).v, false⟩ else s)) ∧
    exec (.logdropClear v) s = .next { s with logDrop := s.logDrop &&& ~~~v } ∧
    (s.fw.mode ≠ .recovery → o % 8 = 0 →
      (o < 0x200 → exec (.registerWrite ⟨port, false⟩ off v) s = exec (.doorbell ⟨o / 8 % 64, Nat.mod_lt _ (by decide)⟩ (v.setWidth 32)) s) ∧
      (o = 0x2008 → exec (.registerWrite ⟨port, false⟩ off v) s = .next { s with logTail := v }) ∧
      (o = 0x2010 → exec (.registerWrite ⟨port, false⟩ off v) s = exec (.logdropClear v) s) ∧
      (o = 0x2028 → exec (.registerWrite ⟨port, false⟩ off v) s = exec (.pfack (v.setWidth 32)) s) ∧
      (o = 0x348 → exec (.registerWrite ⟨port, true⟩ off v) s = .next (s.startUpdate v))) ∧
    (o % 8 ≠ 0 → ∀ bar, exec (.registerWrite ⟨port, bar⟩ off v) s = .next s) ∧
    (x.up = true → inRange →
      exec (.networkWriteReceived peer a bytes none) s = .next (s.placeWrite .host (cellsAt a.toNat bytes)) ∧
      ∀ m : BitVec 32, ∃ t, exec (.networkWriteReceived peer a bytes (some m)) s = .next t ∧
        t.mem = (s.placeWrite .host (cellsAt a.toNat bytes)).mem ∧ (s.netPuts = [] →
          ((s.mb (m.toNat / 2 ^ 20)).full = false → t.mb (m.toNat / 2 ^ 20) = ⟨BitVec.ofNat 64 (m.toNat % 2 ^ 20), true⟩ ∧ t.netPuts = []) ∧
          ((s.mb (m.toNat / 2 ^ 20)).full = true → t.mb (m.toNat / 2 ^ 20) = s.mb (m.toNat / 2 ^ 20) ∧
            t.netPuts = [(m.toNat / 2 ^ 20, BitVec.ofNat 64 (m.toNat % 2 ^ 20))]))) ∧
    (x.up = true → ¬inRange → ∀ imm, ∃ t, exec (.networkWriteReceived peer a bytes imm) s = .next t ∧
      (t.peers[peer]).up = false ∧ t.mem = s.mem) ∧
    (x.up = true → exec (.congestionNotification peer) s = .next { s with peers := s.peers.set peer { x with halvings := x.halvings + 1 } })) ∧
  (∀ (s : State) (n : SiteId) (q : Fin 64) (m : Fin 4096) (k port : Fin 4) (i : Fin 32) (c : Fin 8) (j : Nat), s.accepts = true →
    let x := s.queues[q]
    let y := s.shown n
    let reads0 (o : Nat) (v : W64) : Prop := s.readBar0 port o = some v
    let reads2 (o : Nat) (v : W64) : Prop := s.readBar2 o = some v
    let queue := 0x1000 + 64 * q.val
    let block := 0x10000 + 0x10000 * c.val
    let region := (s.sites[(⟨c.val, by omega⟩ : SiteId)]).regions[k]
    let island := region.islands[i]
    (reads0 queue x.qbase ∧ reads0 (queue + 16) (x.head.setWidth 64) ∧ reads0 (queue + 24) (x.tail.setWidth 64)) ∧
    (∃ w, reads0 (queue + 32) w ∧ w.extractLsb' 56 8 = x.code ∧
      (w.extractLsb' 48 8).toNat = (if x.stopped then 3 else if x.enable = false then 4 else if x.blocked.isSome then 2
        else if x.packet.isSome then 1 else 0)) ∧
    reads0 0x2000 (s.logHead.setWidth 64) ∧ reads0 0x2008 s.logTail ∧ reads0 0x2010 s.logDrop ∧ reads0 0x2020 (s.pfHead.setWidth 64) ∧
    reads0 (0x20000 + 8 * m.val) (s.mb m.val).v ∧
    (∃ w, reads0 (0x28000 + 8 * (m.val / 64)) w ∧ w.getLsbD (m.val % 64) = (s.mb m.val).full) ∧
    (0x32000 ≤ j → reads0 j 0) ∧
    (∃ w, reads2 0 w ∧ w.extractLsb' 16 32 = s.fw.secVersion ∧ w.extractLsb' 0 16 = 0x0100#16) ∧
    (∃ w, reads2 (0x100 + 8 * n.val) w ∧ w.extractLsb' 48 16 = y.epoch ∧ w.extractLsb' 32 16 = y.freshCo ∧ w.extractLsb' 24 8 = y.lastCause ∧
      w.extractLsb' 20 4 = y.typ ∧ w.getLsbD 19 = y.present ∧ w.getLsbD 18 = y.clamp ∧ w.getLsbD 17 = y.freshRd ∧ w.getLsbD 16 = y.auto ∧
      w.getLsbD 15 = y.cmdErr ∧ (w.extractLsb' 0 4).toNat = y.state.code) ∧
    (∃ w, reads2 0x200 w ∧ w.extractLsb' 48 16 = s.deckWatts ∧ w.extractLsb' 32 16 = s.busCv) ∧
    (∃ w, reads2 (block + 0x1000 + 8 * (32 * k.val + i.val)) w ∧ w.extractLsb' 40 8 = island.temp ∧ w.extractLsb' 28 12 = island.vmeas ∧
      w.extractLsb' 16 12 = island.vset ∧ w.extractLsb' 0 2 = island.mode) ∧
    (∃ w, reads2 (block + 0x200 + 16 * k.val) w ∧ ∀ b : Fin 8, w.extractLsb' (8 * b.val) 8 = region.defects[b.val]) ∧
    (∀ b : Fin 16, reads2 (block + 0x100 + 8 * b.val) ((bandEntry b.val).word 0)) ∧
    (0x111000 ≤ j → reads2 j 0)) ∧
  (∀ (s : State) (port : Fin 4) (off : BitVec 25) (v : BitVec 64), s.fw.mode = .recovery → s.recovers = false →
    ∀ bar, exec (.registerWrite ⟨port, bar⟩ off v) s = .next s) ∧
  (∀ (s : State) (port : Fin 4) (off : BitVec 25) (v : BitVec 64), s.recovers = true → let o := off.toNat
    (o % 8 ≠ 0 ∨ port ≠ 0 → ∀ bar, exec (.registerWrite ⟨port, bar⟩ off v) s = .next s) ∧
    (o = 8 → exec (.registerWrite ⟨0, false⟩ off v) s = exec (.recoveryImageWrite v) s) ∧
    (o % 8 = 0 → 0x10 ≤ o → o < 0x100000 → exec (.registerWrite ⟨0, false⟩ off v) s =
      .next { s with fw := { s.fw with window := memPutAll s.fw.window (cellsAt (o - 0x10) (leBytes 8 v.toNat)) } })) ∧
  (∀ (s : State) (port : Fin 4) (o : Nat), s.serviceUp = false → (s.fw.mode = .running → s.readBar0 port o = none) ∧
    (s.recovers = true → s.readBar0 0 0 = some 0x7265636f76657279 ∧ (port ≠ 0 → s.readBar0 port o = none)) ∧
    (s.fw.mode = .recovery → s.recovers = false → s.readBar0 port o = none) ∧ s.readBar2 o = none)

/-- R353 to R358: cold start, recovery, an update in its steps (verified, written over the one flash image, the stage manager restarted), owner keys,
attestation, command links both ways; the service module runs nothing while it has no power and starts from its mask ROM when it has it (the records'
layouts and what lies inside a digest: log 9). A receiver that is there acts on every message and returns its permit; one that is away long is taken
for silent (log 48), the decision within the bound of log 40. An image verifies by the key that stands and its security version; an Owner record by
the key it contains, over the nonce.
An event where it is not enabled changes nothing: the model's choice (log 6). A message on a command link is acted on at once: log 26. -/
def Obligations.FirmwareEvents : Prop :=
  ∀ (s : State) (len v : BitVec 64) (rec : FlashRecord) (nonce : BitVec 512) (n : SiteId) (up : Bool) (strap : Bool),
    let img := memBytes s.fw.window 0 len.toNat
    let d : Fin 2 := if up then 1 else 0
    let x := s.sites[n]
    (∃ t, exec (.deckColdStart strap) s = .next t ∧ t.cue = 0 ∧ t.mem = [] ∧ t.weights = [] ∧ t.companies = [] ∧ t.tiles = [] ∧
      t.fw.strap = strap ∧ t.fw.flash = s.fw.flash ∧ t.fw.records = s.fw.records ∧ t.fw.updStat = 0 ∧
      ((s.sites[siteS]).present = true → (s.sites[siteS]).clamp = true → (t.fw.mode = .running ∨ t.fw.mode = .recovery) ∧
        (t.fw.mode = .running ↔ strap = false ∧ s.fw.torn = false ∧ s.fw.imageGood s.fw.flash = true)) ∧
      ((s.sites[siteS]).present = false ∨ (s.sites[siteS]).clamp = false → t.fw.mode = .off)) ∧
    (s.recovers = true ↔ s.fw.mode = .recovery ∧ (s.sites[siteS]).present = true ∧ (s.sites[siteS]).clamp = true ∧
      (s.sites[siteS]).lossCue = none ∧ s.stopped = false) ∧
    (s.recovers = true → if s.fw.imageGood img = true then (s.fw.strap = false → ∃ t, exec (.recoveryImageWrite len) s = .next t ∧
      t.fw.flash = img ∧ t.fw.mode = .running ∧ t.mem = s.mem) else exec (.recoveryImageWrite len) s = .next s) ∧
    (s.recovers = false → exec (.recoveryImageWrite len) s = .next s) ∧
    (s.accepts = true →
      (s.fw.updStat ≠ 1 → s.fw.updStat ≠ 2 → exec (.firmwareUpdate len) s = .next { s with fw := { s.fw with updStat := 1, update := img } }) ∧
      (s.fw.updStat = 1 → exec (.firmwareUpdate len) s = .next (if s.fw.imageGood s.fw.update = true
        then { s with fw := { s.fw with updStat := 2, torn := true } } else { s with fw := { s.fw with updStat := 3 } })) ∧
      (s.fw.updStat = 2 → exec (.firmwareUpdate len) s = .next { s with fw := { s.fw with
        flash := s.fw.update, torn := false, updStat := 4, mode := .restarting s.cue } }) ∧
      (s.fw.jumper = true → if s.fw.ownerOk rec = true then ∃ t, exec (.ownerKeyEnrolment rec) s = .next t ∧
        t.fw.records = s.fw.records ++ [rec] ∧ t.fw.flash = s.fw.flash ∧ t.mem = s.mem ∧
        (t.fw.record 3 ≠ s.fw.record 3 → t.peers = t.fw.peers) ∧ (t.fw.record 3 = s.fw.record 3 → t.peers = s.peers) else exec (.ownerKeyEnrolment rec) s = .next s) ∧
      (s.fw.jumper = false → exec (.ownerKeyEnrolment rec) s = .next s) ∧
      exec (.attestationReport nonce) s = .next { s with fw := { s.fw with
        report := s.attested nonce ++ Config.identitySign (s.sites[siteS]).chip s.fw.helper (Config.sha3 (s.attested nonce)) } }) ∧
    (∀ c, s.fw.mode = .restarting c → ∃ t, exec .firmwareRestart s = .next t ∧ t.fw.mode = .running ∧
      t.fw.secVersion = Config.imageVersion s.fw.flash ∧ t.fw.flash = s.fw.flash ∧ t.mem = s.mem ∧
      ((s.sites[siteS]).state.serving = true → (s.sites[siteS]).lossCue = none → ∀ m : SiteId,
        (t.sites[m]).waitingMsgs[(1 : Fin 2)] = 0 ∧ (t.sites[m]).permits[(1 : Fin 2)] = 16 ∧ (t.sites[m]).permitSince[(1 : Fin 2)] = none)) ∧
    (s.fw.imageGood img = true ↔ s.fw.signedBy (Config.sha3 img) (Config.imageSignature img) = true ∧
      s.fw.minVersion ≤ (Config.imageVersion img).toNat) ∧
    (rec.typ ≠ 2 → s.fw.ownerOk rec = false) ∧
    (∀ cue cause, ((s.sites[siteS]).state.powered = true → (s.transit ⟨cue, siteS, .lost, cause, false⟩).fw.mode = .off) ∧
      (transits (s.sites[siteS]).state .powering = true → s.fw.mode = .off → s.fw.torn = true →
        (s.transit ⟨cue, siteS, .powering, cause, false⟩).fw.mode = .recovery)) ∧
    (let there := x.state.powered && !x.mute
      let sends := if up then there else s.serviceThere
      let acts := if up then s.serviceThere else there
      (sends = true → acts = true → exec (.commandLinkMessage n up) s = .next (s.setSite n fun x => { x with
        permits := x.permits.set d 16, permitSince := x.permitSince.set d none, waitingMsgs := x.waitingMsgs.set d 0 })) ∧
      (sends = true → acts = false → 0 < x.permits[d] → exec (.commandLinkMessage n up) s =
        .next (s.setSite n fun x => { x with permits := x.permits.set d (x.permits[d] - 1) })) ∧
      (sends = true → acts = false → x.permits[d] = 0 → x.permitSince[d] = none → exec (.commandLinkMessage n up) s = .next (s.setSite n fun x =>
        { x with waitingMsgs := x.waitingMsgs.set d (x.waitingMsgs[d] + 1), permitSince := x.permitSince.set d (some s.cue) })) ∧
      (sends = false → exec (.commandLinkMessage n up) s = .next s)) ∧
    (∀ c, let m := if up then siteS else n
      (if up then (s.sites[m]).state.up = true ∧ s.fw.mode.restarts = false else (s.sites[m]).state.powered = true) → s.losing m 3 = false →
      0 < x.waitingMsgs[d] → x.permitSince[d] = some c → c + 2 ^ 20 ≤ s.cue → ∃ k : Nat, k ≤ 8192 ∧ exec (.commandLinkPermitTimeout n up) s = .next
        ({ s with free := s.free + 1 }.lose m .lost 3 ((s.sites[m]).keepAlive + 4096) (s.cue + k)))
end

