-- ==== Sys2Proof/Laws/Events.lean ====
section
/-! SUPPORT. An event done is exec of that event (95). -/
namespace Sys2Proof.Machine

theorem run_sequencerIssue (k : TileKey) (s : State) : Event.run (Event.sequencerIssue k) s = exec (Instr.sequencerIssue k) s := rfl
theorem run_resultLanding (k : TileKey) (s : State) : Event.run (Event.resultLanding k) s = exec (Instr.resultLanding k) s := rfl
theorem run_waitcueTargetReached (k : TileKey) (s : State) : Event.run (Event.waitcueTargetReached k) s = exec (Instr.waitcueTargetReached k) s := rfl
theorem run_waitrelExpiry (k : TileKey) (s : State) : Event.run (Event.waitrelExpiry k) s = exec (Instr.waitrelExpiry k) s := rfl
theorem run_waiteWake (k : TileKey) (s : State) : Event.run (Event.waiteWake k) s = exec (Instr.waiteWake k) s := rfl
theorem run_waiteDeadline (k : TileKey) (s : State) : Event.run (Event.waiteDeadline k) s = exec (Instr.waiteDeadline k) s := rfl
theorem run_waitownWake (k : TileKey) (s : State) : Event.run (Event.waitownWake k) s = exec (Instr.waitownWake k) s := rfl
theorem run_waitownDeadline (k : TileKey) (s : State) : Event.run (Event.waitownDeadline k) s = exec (Instr.waitownDeadline k) s := rfl
theorem run_localLimitDeadline (k : TileKey) (s : State) : Event.run (Event.localLimitDeadline k) s = exec (Instr.localLimitDeadline k) s := rfl
theorem run_missingMarkRb (k : TileKey) (s : State) : Event.run (Event.missingMarkRb k) s = exec (Instr.missingMarkRb k) s := rfl
theorem run_signalArrival (k : TileKey) (s : State) : Event.run (Event.signalArrival k) s = exec (Instr.signalArrival k) s := rfl
theorem run_hopBeatLanding (k : TileKey) (s : State) : Event.run (Event.hopBeatLanding k) s = exec (Instr.hopBeatLanding k) s := rfl
theorem run_crossingBeatArrival (k : TileKey) (s : State) : Event.run (Event.crossingBeatArrival k) s = exec (Instr.crossingBeatArrival k) s := rfl
theorem run_crossingWordLost (k : TileKey) (side : Side) (ch : Fin 8) (s : State) : Event.run (Event.crossingWordLost k side ch) s = exec (Instr.crossingWordLost k side ch) s := rfl
theorem run_gatedWriteRelease (co : Nat) (s : State) : Event.run (Event.gatedWriteRelease co) s = exec (Instr.gatedWriteRelease co) s := rfl
theorem run_flyMemoryPoint (k : TileKey) (s : State) : Event.run (Event.flyMemoryPoint k) s = exec (Instr.flyMemoryPoint k) s := rfl
theorem run_flyCompletion (k : TileKey) (s : State) : Event.run (Event.flyCompletion k) s = exec (Instr.flyCompletion k) s := rfl
theorem run_wheelMemoryPoint (k : TileKey) (s : State) : Event.run (Event.wheelMemoryPoint k) s = exec (Instr.wheelMemoryPoint k) s := rfl
theorem run_wheelResult (k : TileKey) (s : State) : Event.run (Event.wheelResult k) s = exec (Instr.wheelResult k) s := rfl
theorem run_acopyLoadCompletion (k : TileKey) (s : State) : Event.run (Event.acopyLoadCompletion k) s = exec (Instr.acopyLoadCompletion k) s := rfl
theorem run_acopyStoreCompletion (k : TileKey) (s : State) : Event.run (Event.acopyStoreCompletion k) s = exec (Instr.acopyStoreCompletion k) s := rfl
theorem run_acopyPageFault (k : TileKey) (store : Bool) (s : State) : Event.run (Event.acopyPageFault k store) s = exec (Instr.acopyPageFault k store) s := rfl
theorem run_qmarkCompletion (k : TileKey) (s : State) : Event.run (Event.qmarkCompletion k) s = exec (Instr.qmarkCompletion k) s := rfl
theorem run_tileCopyStart (k : TileKey) (s : State) : Event.run (Event.tileCopyStart k) s = exec (Instr.tileCopyStart k) s := rfl
theorem run_tileCopyCompletion (k : TileKey) (s : State) : Event.run (Event.tileCopyCompletion k) s = exec (Instr.tileCopyCompletion k) s := rfl
theorem run_mailboxPutPerformed (k : TileKey) (s : State) : Event.run (Event.mailboxPutPerformed k) s = exec (Instr.mailboxPutPerformed k) s := rfl
theorem run_mailboxGetPerformed (k : TileKey) (s : State) : Event.run (Event.mailboxGetPerformed k) s = exec (Instr.mailboxGetPerformed k) s := rfl
theorem run_chorusMemberCompletion (k : TileKey) (b : Fin 64) (s : State) : Event.run (Event.chorusMemberCompletion k b) s = exec (Instr.chorusMemberCompletion k b) s := rfl
theorem run_chorusStaleCompletion (k : TileKey) (s : State) : Event.run (Event.chorusStaleCompletion k) s = exec (Instr.chorusStaleCompletion k) s := rfl
theorem run_chorusTimeout (k : TileKey) (b : Fin 64) (s : State) : Event.run (Event.chorusTimeout k b) s = exec (Instr.chorusTimeout k b) s := rfl
theorem run_barCompletion (k : TileKey) (b : Fin 64) (s : State) : Event.run (Event.barCompletion k b) s = exec (Instr.barCompletion k b) s := rfl
theorem run_combineCompletion (k : TileKey) (s : State) : Event.run (Event.combineCompletion k) s = exec (Instr.combineCompletion k) s := rfl
theorem run_ringBoundary (co : Nat) (s : State) : Event.run (Event.ringBoundary co) s = exec (Instr.ringBoundary co) s := rfl
theorem run_overlayFetchCompletion (k : TileKey) (s : State) : Event.run (Event.overlayFetchCompletion k) s = exec (Instr.overlayFetchCompletion k) s := rfl
theorem run_holdAnnouncement (co : Nat) (h : Nat) (s : State) : Event.run (Event.holdAnnouncement co h) s = exec (Instr.holdAnnouncement co h) s := rfl
theorem run_holdBegin (co : Nat) (s : State) : Event.run (Event.holdBegin co) s = exec (Instr.holdBegin co) s := rfl
theorem run_holdEnd (co : Nat) (s : State) : Event.run (Event.holdEnd co) s = exec (Instr.holdEnd co) s := rfl
theorem run_companyStart (co : Nat) (s : State) : Event.run (Event.companyStart co) s = exec (Instr.companyStart co) s := rfl
theorem run_launchEnd (co : Nat) (s : State) : Event.run (Event.launchEnd co) s = exec (Instr.launchEnd co) s := rfl
theorem run_launchFaultEnd (co : Nat) (s : State) : Event.run (Event.launchFaultEnd co) s = exec (Instr.launchFaultEnd co) s := rfl
theorem run_uncorrectableError (w : ErrPlace) (s : State) : Event.run (Event.uncorrectableError w) s = exec (Instr.uncorrectableError w) s := rfl
theorem run_rollbackRestart (co : Nat) (s : State) : Event.run (Event.rollbackRestart co) s = exec (Instr.rollbackRestart co) s := rfl
theorem run_correctedError (w : ErrPlace) (s : State) : Event.run (Event.correctedError w) s = exec (Instr.correctedError w) s := rfl
theorem run_scrub (site : SiteId) (s : State) : Event.run (Event.scrub site) s = exec (Instr.scrub site) s := rfl
theorem run_freezeAnnouncement (co : Nat) (cue : Nat) (s : State) : Event.run (Event.freezeAnnouncement co cue) s = exec (Instr.freezeAnnouncement co cue) s := rfl
theorem run_freeze (co : Nat) (s : State) : Event.run (Event.freeze co) s = exec (Instr.freeze co) s := rfl
theorem run_freezeSaveComplete (co : Nat) (s : State) : Event.run (Event.freezeSaveComplete co) s = exec (Instr.freezeSaveComplete co) s := rfl
theorem run_instructionMemoryRewrite (co : Nat) (s : State) : Event.run (Event.instructionMemoryRewrite co) s = exec (Instr.instructionMemoryRewrite co) s := rfl
theorem run_resume (co : Nat) (s : State) : Event.run (Event.resume co) s = exec (Instr.resume co) s := rfl
theorem run_placementPass (s : State) : Event.run (Event.placementPass) s = exec (Instr.placementPass) s := rfl
theorem run_pfack (i : BitVec 32) (s : State) : Event.run (Event.pfack i) s = exec (Instr.pfack i) s := rfl
theorem run_pageFaultUnresolvable (i : BitVec 32) (s : State) : Event.run (Event.pageFaultUnresolvable i) s = exec (Instr.pageFaultUnresolvable i) s := rfl
theorem run_pageMigration (co : Nat) (seg : Fin 64) (va : BitVec 48) (frame : BitVec 48) (s : State) : Event.run (Event.pageMigration co seg va frame) s = exec (Instr.pageMigration co seg va frame) s := rfl
theorem run_hostCxlRead (at_ : PortAddr) (n : Nat) (s : State) : Event.run (Event.hostCxlRead at_ n) s = exec (Instr.hostCxlRead at_ n) s := rfl
theorem run_hostCxlWrite (at_ : PortAddr) (bytes : List (BitVec 8)) (s : State) : Event.run (Event.hostCxlWrite at_ bytes) s = exec (Instr.hostCxlWrite at_ bytes) s := rfl
theorem run_hdmDecoderCommit (port : Fin 4) (dec : Fin 4) (base : BitVec 48) (size : BitVec 48) (s : State) : Event.run (Event.hdmDecoderCommit port dec base size) s = exec (Instr.hdmDecoderCommit port dec base size) s := rfl
theorem run_periodicTrim (site : SiteId) (q : Fin 4) (s : State) : Event.run (Event.periodicTrim site q) s = exec (Instr.periodicTrim site q) s := rfl
theorem run_trimExchange (site : SiteId) (q : Fin 4) (t1 : BitVec 64) (t2 : BitVec 64) (t4 : BitVec 64) (s : State) : Event.run (Event.trimExchange site q t1 t2 t4) s = exec (Instr.trimExchange site q t1 t2 t4) s := rfl
theorem run_ofsMeasurement (k : TileKey) (side : Side) (t1 : BitVec 64) (t2 : BitVec 64) (t4 : BitVec 64) (s : State) : Event.run (Event.ofsMeasurement k side t1 t2 t4) s = exec (Instr.ofsMeasurement k side t1 t2 t4) s := rfl
theorem run_circuitTeardown (i : Nat) (s : State) : Event.run (Event.circuitTeardown i) s = exec (Instr.circuitTeardown i) s := rfl
theorem run_circuitSetup (i : Nat) (route : List DeckLink) (s : State) : Event.run (Event.circuitSetup i route) s = exec (Instr.circuitSetup i route) s := rfl
theorem run_linkCrcFailure (link : DeckLink) (second : Bool) (s : State) : Event.run (Event.linkCrcFailure link second) s = exec (Instr.linkCrcFailure link second) s := rfl
theorem run_islandRegulatorFailure (site : SiteId) (q : Fin 4) (i : Fin 32) (s : State) : Event.run (Event.islandRegulatorFailure site q i) s = exec (Instr.islandRegulatorFailure site q i) s := rfl
theorem run_regionRailFailure (site : SiteId) (q : Fin 4) (s : State) : Event.run (Event.regionRailFailure site q) s = exec (Instr.regionRailFailure site q) s := rfl
theorem run_busLow (s : State) : Event.run (Event.busLow) s = exec (Instr.busLow) s := rfl
theorem run_busCollapse (s : State) : Event.run (Event.busCollapse) s = exec (Instr.busCollapse) s := rfl
theorem run_powerStageTrip (site : SiteId) (s : State) : Event.run (Event.powerStageTrip site) s = exec (Instr.powerStageTrip site) s := rfl
theorem run_presenceClampClosed (site : SiteId) (s : State) : Event.run (Event.presenceClampClosed site) s = exec (Instr.presenceClampClosed site) s := rfl
theorem run_presenceOpen (site : SiteId) (s : State) : Event.run (Event.presenceOpen site) s = exec (Instr.presenceOpen site) s := rfl
theorem run_clampOpen (site : SiteId) (s : State) : Event.run (Event.clampOpen site) s = exec (Instr.clampOpen site) s := rfl
theorem run_powerGood (site : SiteId) (s : State) : Event.run (Event.powerGood site) s = exec (Instr.powerGood site) s := rfl
theorem run_phaseTimeLimit (site : SiteId) (s : State) : Event.run (Event.phaseTimeLimit site) s = exec (Instr.phaseTimeLimit site) s := rfl
theorem run_selfTest (site : SiteId) (o : TestOutcome) (s : State) : Event.run (Event.selfTest site o) s = exec (Instr.selfTest site o) s := rfl
theorem run_admission (site : SiteId) (o : TrainOutcome) (s : State) : Event.run (Event.admission site o) s = exec (Instr.admission site o) s := rfl
theorem run_siteTransitionEffect (s : State) : Event.run (Event.siteTransitionEffect) s = exec (Instr.siteTransitionEffect) s := rfl
theorem run_keepAliveSend (site : SiteId) (s : State) : Event.run (Event.keepAliveSend site) s = exec (Instr.keepAliveSend site) s := rfl
theorem run_keepAliveSilence (site : SiteId) (s : State) : Event.run (Event.keepAliveSilence site) s = exec (Instr.keepAliveSilence site) s := rfl
theorem run_cmdPower (site : SiteId) (s : State) : Event.run (Event.cmdPower site) s = exec (Instr.cmdPower site) s := rfl
theorem run_cmdDrain (site : SiteId) (s : State) : Event.run (Event.cmdDrain site) s = exec (Instr.cmdDrain site) s := rfl
theorem run_cmdUndrain (site : SiteId) (s : State) : Event.run (Event.cmdUndrain site) s = exec (Instr.cmdUndrain site) s := rfl
theorem run_cmdReset (site : SiteId) (s : State) : Event.run (Event.cmdReset site) s = exec (Instr.cmdReset site) s := rfl
theorem run_siteRequestButton (site : SiteId) (s : State) : Event.run (Event.siteRequestButton site) s = exec (Instr.siteRequestButton site) s := rfl
theorem run_freshrdClear (site : SiteId) (s : State) : Event.run (Event.freshrdClear site) s = exec (Instr.freshrdClear site) s := rfl
theorem run_rejoinGangStart (co : Nat) (g : Fin 8) (s : State) : Event.run (Event.rejoinGangStart co g) s = exec (Instr.rejoinGangStart co g) s := rfl
theorem run_doorbell (q : Fin 64) (v : BitVec 32) (s : State) : Event.run (Event.doorbell q v) s = exec (Instr.doorbell q v) s := rfl
theorem run_qcmdResume (q : Fin 64) (s : State) : Event.run (Event.qcmdResume q) s = exec (Instr.qcmdResume q) s := rfl
theorem run_qcmdSkip (q : Fin 64) (s : State) : Event.run (Event.qcmdSkip q) s = exec (Instr.qcmdSkip q) s := rfl
theorem run_qcmdReset (q : Fin 64) (s : State) : Event.run (Event.qcmdReset q) s = exec (Instr.qcmdReset q) s := rfl
theorem run_queueVisit (s : State) : Event.run (Event.queueVisit) s = exec (Instr.queueVisit) s := rfl
theorem run_packetUnblock (q : Fin 64) (s : State) : Event.run (Event.packetUnblock q) s = exec (Instr.packetUnblock q) s := rfl
theorem run_packetNop (q : Fin 64) (s : State) : Event.run (Event.packetNop q) s = exec (Instr.packetNop q) s := rfl
theorem run_launch (q : Fin 64) (s : State) : Event.run (Event.launch q) s = exec (Instr.launch q) s := rfl
theorem run_copy (q : Fin 64) (s : State) : Event.run (Event.copy q) s = exec (Instr.copy q) s := rfl
theorem run_copyCompletion (id : Nat) (s : State) : Event.run (Event.copyCompletion id) s = exec (Instr.copyCompletion id) s := rfl
theorem run_weightload (q : Fin 64) (s : State) : Event.run (Event.weightload q) s = exec (Instr.weightload q) s := rfl
theorem run_weightloadApply (co : Nat) (s : State) : Event.run (Event.weightloadApply co) s = exec (Instr.weightloadApply co) s := rfl
theorem run_putmb (q : Fin 64) (s : State) : Event.run (Event.putmb q) s = exec (Instr.putmb q) s := rfl
theorem run_waitmb (q : Fin 64) (s : State) : Event.run (Event.waitmb q) s = exec (Instr.waitmb q) s := rfl
theorem run_unloadCode (q : Fin 64) (s : State) : Event.run (Event.unloadCode q) s = exec (Instr.unloadCode q) s := rfl
theorem run_unloadData (q : Fin 64) (s : State) : Event.run (Event.unloadData q) s = exec (Instr.unloadData q) s := rfl
theorem run_unloadLaunch (q : Fin 64) (s : State) : Event.run (Event.unloadLaunch q) s = exec (Instr.unloadLaunch q) s := rfl
theorem run_unloadCompletion (id : Nat) (s : State) : Event.run (Event.unloadCompletion id) s = exec (Instr.unloadCompletion id) s := rfl
theorem run_indirect (q : Fin 64) (s : State) : Event.run (Event.indirect q) s = exec (Instr.indirect q) s := rfl
theorem run_fence (q : Fin 64) (s : State) : Event.run (Event.fence q) s = exec (Instr.fence q) s := rfl
theorem run_rejoin (q : Fin 64) (s : State) : Event.run (Event.rejoin q) s = exec (Instr.rejoin q) s := rfl
theorem run_rejoinWithdraw (q : Fin 64) (s : State) : Event.run (Event.rejoinWithdraw q) s = exec (Instr.rejoinWithdraw q) s := rfl
theorem run_mailboxFullClear (i : Fin 64) (mask : BitVec 64) (s : State) : Event.run (Event.mailboxFullClear i mask) s = exec (Instr.mailboxFullClear i mask) s := rfl
theorem run_logdropClear (v : BitVec 64) (s : State) : Event.run (Event.logdropClear v) s = exec (Instr.logdropClear v) s := rfl
theorem run_deckColdStart (strap : Bool) (s : State) : Event.run (Event.deckColdStart strap) s = exec (Instr.deckColdStart strap) s := rfl
theorem run_recoveryImageWrite (len : BitVec 64) (s : State) : Event.run (Event.recoveryImageWrite len) s = exec (Instr.recoveryImageWrite len) s := rfl
theorem run_firmwareUpdate (len : BitVec 64) (s : State) : Event.run (Event.firmwareUpdate len) s = exec (Instr.firmwareUpdate len) s := rfl
theorem run_firmwareRestart (s : State) : Event.run (Event.firmwareRestart) s = exec (Instr.firmwareRestart) s := rfl
theorem run_ownerKeyEnrolment (rec : FlashRecord) (s : State) : Event.run (Event.ownerKeyEnrolment rec) s = exec (Instr.ownerKeyEnrolment rec) s := rfl
theorem run_attestationReport (nonce : BitVec 512) (s : State) : Event.run (Event.attestationReport nonce) s = exec (Instr.attestationReport nonce) s := rfl
theorem run_commandLinkMessage (site : SiteId) (up : Bool) (s : State) : Event.run (Event.commandLinkMessage site up) s = exec (Instr.commandLinkMessage site up) s := rfl
theorem run_commandLinkPermitTimeout (site : SiteId) (up : Bool) (s : State) : Event.run (Event.commandLinkPermitTimeout site up) s = exec (Instr.commandLinkPermitTimeout site up) s := rfl
theorem run_networkWriteReceived (peer : Fin 16) (addr : BitVec 48) (bytes : List (BitVec 8)) (imm : Option (BitVec 32)) (s : State) : Event.run (Event.networkWriteReceived peer addr bytes imm) s = exec (Instr.networkWriteReceived peer addr bytes imm) s := rfl
theorem run_congestionNotification (peer : Fin 16) (s : State) : Event.run (Event.congestionNotification peer) s = exec (Instr.congestionNotification peer) s := rfl
theorem run_retransmissionLimit (id : Nat) (s : State) : Event.run (Event.retransmissionLimit id) s = exec (Instr.retransmissionLimit id) s := rfl
theorem run_sensorRead (site : SiteId) (q : Fin 4) (i : Fin 32) (temp : BitVec 8) (s : State) : Event.run (Event.sensorRead site q i temp) s = exec (Instr.sensorRead site q i temp) s := rfl
theorem run_reefTargetRaise (site : SiteId) (s : State) : Event.run (Event.reefTargetRaise site) s = exec (Instr.reefTargetRaise site) s := rfl
theorem run_reefTargetLower (site : SiteId) (s : State) : Event.run (Event.reefTargetLower site) s = exec (Instr.reefTargetLower site) s := rfl
theorem run_thermalTrip (site : SiteId) (s : State) : Event.run (Event.thermalTrip site) s = exec (Instr.thermalTrip site) s := rfl
theorem run_reefLevelChange (co : Nat) (s : State) : Event.run (Event.reefLevelChange co) s = exec (Instr.reefLevelChange co) s := rfl
theorem run_reefminWrite (site : SiteId) (v : BitVec 2) (s : State) : Event.run (Event.reefminWrite site v) s = exec (Instr.reefminWrite site v) s := rfl
theorem run_islandWake (site : SiteId) (q : Fin 4) (i : Fin 32) (s : State) : Event.run (Event.islandWake site q i) s = exec (Instr.islandWake site q i) s := rfl
theorem run_registerWrite (bar : PortBar) (off : BitVec 25) (v : BitVec 64) (s : State) : Event.run (Event.registerWrite bar off v) s = exec (Instr.registerWrite bar off v) s := rfl
theorem run_fatalModuleError (site : SiteId) (s : State) : Event.run (Event.fatalModuleError site) s = exec (Instr.fatalModuleError site) s := rfl
theorem run_presenceOpenFor222Cycles (site : SiteId) (s : State) : Event.run (Event.presenceOpenFor222Cycles site) s = exec (Instr.presenceOpenFor222Cycles site) s := rfl
theorem run_overlayFetchTranslationFault (k : TileKey) (s : State) : Event.run (Event.overlayFetchTranslationFault k) s = exec (Instr.overlayFetchTranslationFault k) s := rfl
theorem run_linkReturnToService (link : DeckLink) (s : State) : Event.run (Event.linkReturnToService link) s = exec (Instr.linkReturnToService link) s := rfl

end Sys2Proof.Machine
end

