-- ==== Sys2Proof/Laws/State.lean ====
section
/-! SUPPORT. What each update of the state leaves as it was: one lemma per field per update, true by rfl. -/
namespace Sys2Proof.Machine

@[simp] theorem State.setTile_phase (s : State) (t : Tile) : (s.setTile t).phase = s.phase := rfl
@[simp] theorem State.setTile_agenda (s : State) (t : Tile) : (s.setTile t).agenda = s.agenda := rfl
@[simp] theorem State.setTile_inputs (s : State) (t : Tile) : (s.setTile t).inputs = s.inputs := rfl
@[simp] theorem State.setTile_focus (s : State) (t : Tile) : (s.setTile t).focus = s.focus := rfl
@[simp] theorem State.setTile_slot (s : State) (t : Tile) : (s.setTile t).slot = s.slot := rfl
@[simp] theorem State.setTile_raised (s : State) (t : Tile) : (s.setTile t).raised = s.raised := rfl
@[simp] theorem State.setTile_free (s : State) (t : Tile) : (s.setTile t).free = s.free := rfl
@[simp] theorem State.setTile_cue (s : State) (t : Tile) : (s.setTile t).cue = s.cue := rfl
@[simp] theorem State.setTile_companies (s : State) (t : Tile) : (s.setTile t).companies = s.companies := rfl
@[simp] theorem State.setTile_launches (s : State) (t : Tile) : (s.setTile t).launches = s.launches := rfl
@[simp] theorem State.setTile_sites (s : State) (t : Tile) : (s.setTile t).sites = s.sites := rfl
@[simp] theorem State.setTile_decisions (s : State) (t : Tile) : (s.setTile t).decisions = s.decisions := rfl
@[simp] theorem State.setTile_linksOut (s : State) (t : Tile) : (s.setTile t).linksOut = s.linksOut := rfl
@[simp] theorem State.setTile_stitchesOut (s : State) (t : Tile) : (s.setTile t).stitchesOut = s.stitchesOut := rfl
@[simp] theorem State.setTile_circuits (s : State) (t : Tile) : (s.setTile t).circuits = s.circuits := rfl
@[simp] theorem State.setTile_mem (s : State) (t : Tile) : (s.setTile t).mem = s.mem := rfl
@[simp] theorem State.setTile_memOrd (s : State) (t : Tile) : (s.setTile t).memOrd = s.memOrd := rfl
@[simp] theorem State.setTile_nextOrd (s : State) (t : Tile) : (s.setTile t).nextOrd = s.nextOrd := rfl
@[simp] theorem State.setTile_written (s : State) (t : Tile) : (s.setTile t).written = s.written := rfl
@[simp] theorem State.setTile_poison (s : State) (t : Tile) : (s.setTile t).poison = s.poison := rfl
@[simp] theorem State.setTile_weights (s : State) (t : Tile) : (s.setTile t).weights = s.weights := rfl
@[simp] theorem State.setTile_weightBad (s : State) (t : Tile) : (s.setTile t).weightBad = s.weightBad := rfl
@[simp] theorem State.setTile_hostMem (s : State) (t : Tile) : (s.setTile t).hostMem = s.hostMem := rfl
@[simp] theorem State.setTile_hostRead (s : State) (t : Tile) : (s.setTile t).hostRead = s.hostRead := rfl
@[simp] theorem State.setTile_mbox (s : State) (t : Tile) : (s.setTile t).mbox = s.mbox := rfl
@[simp] theorem State.setTile_mirror (s : State) (t : Tile) : (s.setTile t).mirror = s.mirror := rfl
@[simp] theorem State.setTile_mirrorHolder (s : State) (t : Tile) : (s.setTile t).mirrorHolder = s.mirrorHolder := rfl
@[simp] theorem State.setTile_heldPosts (s : State) (t : Tile) : (s.setTile t).heldPosts = s.heldPosts := rfl
@[simp] theorem State.setTile_queues (s : State) (t : Tile) : (s.setTile t).queues = s.queues := rfl
@[simp] theorem State.setTile_nextQueue (s : State) (t : Tile) : (s.setTile t).nextQueue = s.nextQueue := rfl
@[simp] theorem State.setTile_ops (s : State) (t : Tile) : (s.setTile t).ops = s.ops := rfl
@[simp] theorem State.setTile_nextOp (s : State) (t : Tile) : (s.setTile t).nextOp = s.nextOp := rfl
@[simp] theorem State.setTile_nextBlock (s : State) (t : Tile) : (s.setTile t).nextBlock = s.nextBlock := rfl
@[simp] theorem State.setTile_logHead (s : State) (t : Tile) : (s.setTile t).logHead = s.logHead := rfl
@[simp] theorem State.setTile_logTail (s : State) (t : Tile) : (s.setTile t).logTail = s.logTail := rfl
@[simp] theorem State.setTile_logDrop (s : State) (t : Tile) : (s.setTile t).logDrop = s.logDrop := rfl
@[simp] theorem State.setTile_log (s : State) (t : Tile) : (s.setTile t).log = s.log := rfl
@[simp] theorem State.setTile_pfHead (s : State) (t : Tile) : (s.setTile t).pfHead = s.pfHead := rfl
@[simp] theorem State.setTile_pfNext (s : State) (t : Tile) : (s.setTile t).pfNext = s.pfNext := rfl
@[simp] theorem State.setTile_pfReqs (s : State) (t : Tile) : (s.setTile t).pfReqs = s.pfReqs := rfl
@[simp] theorem State.setTile_busCv (s : State) (t : Tile) : (s.setTile t).busCv = s.busCv := rfl
@[simp] theorem State.setTile_deckWatts (s : State) (t : Tile) : (s.setTile t).deckWatts = s.deckWatts := rfl
@[simp] theorem State.setTile_busLowSince (s : State) (t : Tile) : (s.setTile t).busLowSince = s.busLowSince := rfl
@[simp] theorem State.setTile_deckHotSince (s : State) (t : Tile) : (s.setTile t).deckHotSince = s.deckHotSince := rfl
@[simp] theorem State.setTile_outlet (s : State) (t : Tile) : (s.setTile t).outlet = s.outlet := rfl
@[simp] theorem State.setTile_fw (s : State) (t : Tile) : (s.setTile t).fw = s.fw := rfl
@[simp] theorem State.setTile_hdm (s : State) (t : Tile) : (s.setTile t).hdm = s.hdm := rfl
@[simp] theorem State.setTile_peers (s : State) (t : Tile) : (s.setTile t).peers = s.peers := rfl
@[simp] theorem State.setTile_stopped (s : State) (t : Tile) : (s.setTile t).stopped = s.stopped := rfl
@[simp] theorem State.setTile_xlate (s : State) (t : Tile) : (s.setTile t).xlate = s.xlate := rfl
@[simp] theorem State.setTile_netPuts (s : State) (t : Tile) : (s.setTile t).netPuts = s.netPuts := rfl
@[simp] theorem State.setTile_area (s : State) (t : Tile) : (s.setTile t).area = s.area := rfl
@[simp] theorem State.setTile_inlet (s : State) (t : Tile) : (s.setTile t).inlet = s.inlet := rfl
@[simp] theorem State.setTile_badWord (s : State) (t : Tile) : (s.setTile t).badWord = s.badWord := rfl
@[simp] theorem State.setTile_changes (s : State) (t : Tile) : (s.setTile t).changes = s.changes := rfl
@[simp] theorem State.setTile_cards (s : State) (t : Tile) : (s.setTile t).cards = s.cards := rfl

@[simp] theorem State.setCo_phase (s : State) (c : Company) : (s.setCo c).phase = s.phase := rfl
@[simp] theorem State.setCo_agenda (s : State) (c : Company) : (s.setCo c).agenda = s.agenda := rfl
@[simp] theorem State.setCo_inputs (s : State) (c : Company) : (s.setCo c).inputs = s.inputs := rfl
@[simp] theorem State.setCo_focus (s : State) (c : Company) : (s.setCo c).focus = s.focus := rfl
@[simp] theorem State.setCo_slot (s : State) (c : Company) : (s.setCo c).slot = s.slot := rfl
@[simp] theorem State.setCo_raised (s : State) (c : Company) : (s.setCo c).raised = s.raised := rfl
@[simp] theorem State.setCo_free (s : State) (c : Company) : (s.setCo c).free = s.free := rfl
@[simp] theorem State.setCo_cue (s : State) (c : Company) : (s.setCo c).cue = s.cue := rfl
@[simp] theorem State.setCo_tiles (s : State) (c : Company) : (s.setCo c).tiles = s.tiles := rfl
@[simp] theorem State.setCo_launches (s : State) (c : Company) : (s.setCo c).launches = s.launches := rfl
@[simp] theorem State.setCo_sites (s : State) (c : Company) : (s.setCo c).sites = s.sites := rfl
@[simp] theorem State.setCo_decisions (s : State) (c : Company) : (s.setCo c).decisions = s.decisions := rfl
@[simp] theorem State.setCo_linksOut (s : State) (c : Company) : (s.setCo c).linksOut = s.linksOut := rfl
@[simp] theorem State.setCo_stitchesOut (s : State) (c : Company) : (s.setCo c).stitchesOut = s.stitchesOut := rfl
@[simp] theorem State.setCo_circuits (s : State) (c : Company) : (s.setCo c).circuits = s.circuits := rfl
@[simp] theorem State.setCo_mem (s : State) (c : Company) : (s.setCo c).mem = s.mem := rfl
@[simp] theorem State.setCo_memOrd (s : State) (c : Company) : (s.setCo c).memOrd = s.memOrd := rfl
@[simp] theorem State.setCo_nextOrd (s : State) (c : Company) : (s.setCo c).nextOrd = s.nextOrd := rfl
@[simp] theorem State.setCo_written (s : State) (c : Company) : (s.setCo c).written = s.written := rfl
@[simp] theorem State.setCo_poison (s : State) (c : Company) : (s.setCo c).poison = s.poison := rfl
@[simp] theorem State.setCo_weights (s : State) (c : Company) : (s.setCo c).weights = s.weights := rfl
@[simp] theorem State.setCo_weightBad (s : State) (c : Company) : (s.setCo c).weightBad = s.weightBad := rfl
@[simp] theorem State.setCo_hostMem (s : State) (c : Company) : (s.setCo c).hostMem = s.hostMem := rfl
@[simp] theorem State.setCo_hostRead (s : State) (c : Company) : (s.setCo c).hostRead = s.hostRead := rfl
@[simp] theorem State.setCo_mbox (s : State) (c : Company) : (s.setCo c).mbox = s.mbox := rfl
@[simp] theorem State.setCo_mirror (s : State) (c : Company) : (s.setCo c).mirror = s.mirror := rfl
@[simp] theorem State.setCo_mirrorHolder (s : State) (c : Company) : (s.setCo c).mirrorHolder = s.mirrorHolder := rfl
@[simp] theorem State.setCo_heldPosts (s : State) (c : Company) : (s.setCo c).heldPosts = s.heldPosts := rfl
@[simp] theorem State.setCo_queues (s : State) (c : Company) : (s.setCo c).queues = s.queues := rfl
@[simp] theorem State.setCo_nextQueue (s : State) (c : Company) : (s.setCo c).nextQueue = s.nextQueue := rfl
@[simp] theorem State.setCo_ops (s : State) (c : Company) : (s.setCo c).ops = s.ops := rfl
@[simp] theorem State.setCo_nextOp (s : State) (c : Company) : (s.setCo c).nextOp = s.nextOp := rfl
@[simp] theorem State.setCo_nextBlock (s : State) (c : Company) : (s.setCo c).nextBlock = s.nextBlock := rfl
@[simp] theorem State.setCo_logHead (s : State) (c : Company) : (s.setCo c).logHead = s.logHead := rfl
@[simp] theorem State.setCo_logTail (s : State) (c : Company) : (s.setCo c).logTail = s.logTail := rfl
@[simp] theorem State.setCo_logDrop (s : State) (c : Company) : (s.setCo c).logDrop = s.logDrop := rfl
@[simp] theorem State.setCo_log (s : State) (c : Company) : (s.setCo c).log = s.log := rfl
@[simp] theorem State.setCo_pfHead (s : State) (c : Company) : (s.setCo c).pfHead = s.pfHead := rfl
@[simp] theorem State.setCo_pfNext (s : State) (c : Company) : (s.setCo c).pfNext = s.pfNext := rfl
@[simp] theorem State.setCo_pfReqs (s : State) (c : Company) : (s.setCo c).pfReqs = s.pfReqs := rfl
@[simp] theorem State.setCo_busCv (s : State) (c : Company) : (s.setCo c).busCv = s.busCv := rfl
@[simp] theorem State.setCo_deckWatts (s : State) (c : Company) : (s.setCo c).deckWatts = s.deckWatts := rfl
@[simp] theorem State.setCo_busLowSince (s : State) (c : Company) : (s.setCo c).busLowSince = s.busLowSince := rfl
@[simp] theorem State.setCo_deckHotSince (s : State) (c : Company) : (s.setCo c).deckHotSince = s.deckHotSince := rfl
@[simp] theorem State.setCo_outlet (s : State) (c : Company) : (s.setCo c).outlet = s.outlet := rfl
@[simp] theorem State.setCo_fw (s : State) (c : Company) : (s.setCo c).fw = s.fw := rfl
@[simp] theorem State.setCo_hdm (s : State) (c : Company) : (s.setCo c).hdm = s.hdm := rfl
@[simp] theorem State.setCo_peers (s : State) (c : Company) : (s.setCo c).peers = s.peers := rfl
@[simp] theorem State.setCo_stopped (s : State) (c : Company) : (s.setCo c).stopped = s.stopped := rfl
@[simp] theorem State.setCo_xlate (s : State) (c : Company) : (s.setCo c).xlate = s.xlate := rfl
@[simp] theorem State.setCo_netPuts (s : State) (c : Company) : (s.setCo c).netPuts = s.netPuts := rfl
@[simp] theorem State.setCo_area (s : State) (c : Company) : (s.setCo c).area = s.area := rfl
@[simp] theorem State.setCo_inlet (s : State) (c : Company) : (s.setCo c).inlet = s.inlet := rfl
@[simp] theorem State.setCo_badWord (s : State) (c : Company) : (s.setCo c).badWord = s.badWord := rfl
@[simp] theorem State.setCo_changes (s : State) (c : Company) : (s.setCo c).changes = s.changes := rfl
@[simp] theorem State.setCo_cards (s : State) (c : Company) : (s.setCo c).cards = s.cards := rfl

@[simp] theorem State.setSite_phase (s : State) (n : SiteId) (f : Site → Site) : (s.setSite n f).phase = s.phase := rfl
@[simp] theorem State.setSite_agenda (s : State) (n : SiteId) (f : Site → Site) : (s.setSite n f).agenda = s.agenda := rfl
@[simp] theorem State.setSite_inputs (s : State) (n : SiteId) (f : Site → Site) : (s.setSite n f).inputs = s.inputs := rfl
@[simp] theorem State.setSite_focus (s : State) (n : SiteId) (f : Site → Site) : (s.setSite n f).focus = s.focus := rfl
@[simp] theorem State.setSite_slot (s : State) (n : SiteId) (f : Site → Site) : (s.setSite n f).slot = s.slot := rfl
@[simp] theorem State.setSite_raised (s : State) (n : SiteId) (f : Site → Site) : (s.setSite n f).raised = s.raised := rfl
@[simp] theorem State.setSite_free (s : State) (n : SiteId) (f : Site → Site) : (s.setSite n f).free = s.free := rfl
@[simp] theorem State.setSite_cue (s : State) (n : SiteId) (f : Site → Site) : (s.setSite n f).cue = s.cue := rfl
@[simp] theorem State.setSite_tiles (s : State) (n : SiteId) (f : Site → Site) : (s.setSite n f).tiles = s.tiles := rfl
@[simp] theorem State.setSite_companies (s : State) (n : SiteId) (f : Site → Site) : (s.setSite n f).companies = s.companies := rfl
@[simp] theorem State.setSite_launches (s : State) (n : SiteId) (f : Site → Site) : (s.setSite n f).launches = s.launches := rfl
@[simp] theorem State.setSite_decisions (s : State) (n : SiteId) (f : Site → Site) : (s.setSite n f).decisions = s.decisions := rfl
@[simp] theorem State.setSite_linksOut (s : State) (n : SiteId) (f : Site → Site) : (s.setSite n f).linksOut = s.linksOut := rfl
@[simp] theorem State.setSite_stitchesOut (s : State) (n : SiteId) (f : Site → Site) : (s.setSite n f).stitchesOut = s.stitchesOut := rfl
@[simp] theorem State.setSite_circuits (s : State) (n : SiteId) (f : Site → Site) : (s.setSite n f).circuits = s.circuits := rfl
@[simp] theorem State.setSite_mem (s : State) (n : SiteId) (f : Site → Site) : (s.setSite n f).mem = s.mem := rfl
@[simp] theorem State.setSite_memOrd (s : State) (n : SiteId) (f : Site → Site) : (s.setSite n f).memOrd = s.memOrd := rfl
@[simp] theorem State.setSite_nextOrd (s : State) (n : SiteId) (f : Site → Site) : (s.setSite n f).nextOrd = s.nextOrd := rfl
@[simp] theorem State.setSite_written (s : State) (n : SiteId) (f : Site → Site) : (s.setSite n f).written = s.written := rfl
@[simp] theorem State.setSite_poison (s : State) (n : SiteId) (f : Site → Site) : (s.setSite n f).poison = s.poison := rfl
@[simp] theorem State.setSite_weights (s : State) (n : SiteId) (f : Site → Site) : (s.setSite n f).weights = s.weights := rfl
@[simp] theorem State.setSite_weightBad (s : State) (n : SiteId) (f : Site → Site) : (s.setSite n f).weightBad = s.weightBad := rfl
@[simp] theorem State.setSite_hostMem (s : State) (n : SiteId) (f : Site → Site) : (s.setSite n f).hostMem = s.hostMem := rfl
@[simp] theorem State.setSite_hostRead (s : State) (n : SiteId) (f : Site → Site) : (s.setSite n f).hostRead = s.hostRead := rfl
@[simp] theorem State.setSite_mbox (s : State) (n : SiteId) (f : Site → Site) : (s.setSite n f).mbox = s.mbox := rfl
@[simp] theorem State.setSite_mirror (s : State) (n : SiteId) (f : Site → Site) : (s.setSite n f).mirror = s.mirror := rfl
@[simp] theorem State.setSite_mirrorHolder (s : State) (n : SiteId) (f : Site → Site) : (s.setSite n f).mirrorHolder = s.mirrorHolder := rfl
@[simp] theorem State.setSite_heldPosts (s : State) (n : SiteId) (f : Site → Site) : (s.setSite n f).heldPosts = s.heldPosts := rfl
@[simp] theorem State.setSite_queues (s : State) (n : SiteId) (f : Site → Site) : (s.setSite n f).queues = s.queues := rfl
@[simp] theorem State.setSite_nextQueue (s : State) (n : SiteId) (f : Site → Site) : (s.setSite n f).nextQueue = s.nextQueue := rfl
@[simp] theorem State.setSite_ops (s : State) (n : SiteId) (f : Site → Site) : (s.setSite n f).ops = s.ops := rfl
@[simp] theorem State.setSite_nextOp (s : State) (n : SiteId) (f : Site → Site) : (s.setSite n f).nextOp = s.nextOp := rfl
@[simp] theorem State.setSite_nextBlock (s : State) (n : SiteId) (f : Site → Site) : (s.setSite n f).nextBlock = s.nextBlock := rfl
@[simp] theorem State.setSite_logHead (s : State) (n : SiteId) (f : Site → Site) : (s.setSite n f).logHead = s.logHead := rfl
@[simp] theorem State.setSite_logTail (s : State) (n : SiteId) (f : Site → Site) : (s.setSite n f).logTail = s.logTail := rfl
@[simp] theorem State.setSite_logDrop (s : State) (n : SiteId) (f : Site → Site) : (s.setSite n f).logDrop = s.logDrop := rfl
@[simp] theorem State.setSite_log (s : State) (n : SiteId) (f : Site → Site) : (s.setSite n f).log = s.log := rfl
@[simp] theorem State.setSite_pfHead (s : State) (n : SiteId) (f : Site → Site) : (s.setSite n f).pfHead = s.pfHead := rfl
@[simp] theorem State.setSite_pfNext (s : State) (n : SiteId) (f : Site → Site) : (s.setSite n f).pfNext = s.pfNext := rfl
@[simp] theorem State.setSite_pfReqs (s : State) (n : SiteId) (f : Site → Site) : (s.setSite n f).pfReqs = s.pfReqs := rfl
@[simp] theorem State.setSite_busCv (s : State) (n : SiteId) (f : Site → Site) : (s.setSite n f).busCv = s.busCv := rfl
@[simp] theorem State.setSite_deckWatts (s : State) (n : SiteId) (f : Site → Site) : (s.setSite n f).deckWatts = s.deckWatts := rfl
@[simp] theorem State.setSite_busLowSince (s : State) (n : SiteId) (f : Site → Site) : (s.setSite n f).busLowSince = s.busLowSince := rfl
@[simp] theorem State.setSite_deckHotSince (s : State) (n : SiteId) (f : Site → Site) : (s.setSite n f).deckHotSince = s.deckHotSince := rfl
@[simp] theorem State.setSite_outlet (s : State) (n : SiteId) (f : Site → Site) : (s.setSite n f).outlet = s.outlet := rfl
@[simp] theorem State.setSite_fw (s : State) (n : SiteId) (f : Site → Site) : (s.setSite n f).fw = s.fw := rfl
@[simp] theorem State.setSite_hdm (s : State) (n : SiteId) (f : Site → Site) : (s.setSite n f).hdm = s.hdm := rfl
@[simp] theorem State.setSite_peers (s : State) (n : SiteId) (f : Site → Site) : (s.setSite n f).peers = s.peers := rfl
@[simp] theorem State.setSite_stopped (s : State) (n : SiteId) (f : Site → Site) : (s.setSite n f).stopped = s.stopped := rfl
@[simp] theorem State.setSite_xlate (s : State) (n : SiteId) (f : Site → Site) : (s.setSite n f).xlate = s.xlate := rfl
@[simp] theorem State.setSite_netPuts (s : State) (n : SiteId) (f : Site → Site) : (s.setSite n f).netPuts = s.netPuts := rfl
@[simp] theorem State.setSite_area (s : State) (n : SiteId) (f : Site → Site) : (s.setSite n f).area = s.area := rfl
@[simp] theorem State.setSite_inlet (s : State) (n : SiteId) (f : Site → Site) : (s.setSite n f).inlet = s.inlet := rfl
@[simp] theorem State.setSite_badWord (s : State) (n : SiteId) (f : Site → Site) : (s.setSite n f).badWord = s.badWord := rfl
@[simp] theorem State.setSite_changes (s : State) (n : SiteId) (f : Site → Site) : (s.setSite n f).changes = s.changes := rfl
@[simp] theorem State.setSite_cards (s : State) (n : SiteId) (f : Site → Site) : (s.setSite n f).cards = s.cards := rfl

@[simp] theorem State.mapTiles_phase (s : State) (n : Nat) (f : Tile → Tile) : (s.mapTiles n f).phase = s.phase := rfl
@[simp] theorem State.mapTiles_agenda (s : State) (n : Nat) (f : Tile → Tile) : (s.mapTiles n f).agenda = s.agenda := rfl
@[simp] theorem State.mapTiles_inputs (s : State) (n : Nat) (f : Tile → Tile) : (s.mapTiles n f).inputs = s.inputs := rfl
@[simp] theorem State.mapTiles_focus (s : State) (n : Nat) (f : Tile → Tile) : (s.mapTiles n f).focus = s.focus := rfl
@[simp] theorem State.mapTiles_slot (s : State) (n : Nat) (f : Tile → Tile) : (s.mapTiles n f).slot = s.slot := rfl
@[simp] theorem State.mapTiles_raised (s : State) (n : Nat) (f : Tile → Tile) : (s.mapTiles n f).raised = s.raised := rfl
@[simp] theorem State.mapTiles_free (s : State) (n : Nat) (f : Tile → Tile) : (s.mapTiles n f).free = s.free := rfl
@[simp] theorem State.mapTiles_cue (s : State) (n : Nat) (f : Tile → Tile) : (s.mapTiles n f).cue = s.cue := rfl
@[simp] theorem State.mapTiles_companies (s : State) (n : Nat) (f : Tile → Tile) : (s.mapTiles n f).companies = s.companies := rfl
@[simp] theorem State.mapTiles_launches (s : State) (n : Nat) (f : Tile → Tile) : (s.mapTiles n f).launches = s.launches := rfl
@[simp] theorem State.mapTiles_sites (s : State) (n : Nat) (f : Tile → Tile) : (s.mapTiles n f).sites = s.sites := rfl
@[simp] theorem State.mapTiles_decisions (s : State) (n : Nat) (f : Tile → Tile) : (s.mapTiles n f).decisions = s.decisions := rfl
@[simp] theorem State.mapTiles_linksOut (s : State) (n : Nat) (f : Tile → Tile) : (s.mapTiles n f).linksOut = s.linksOut := rfl
@[simp] theorem State.mapTiles_stitchesOut (s : State) (n : Nat) (f : Tile → Tile) : (s.mapTiles n f).stitchesOut = s.stitchesOut := rfl
@[simp] theorem State.mapTiles_circuits (s : State) (n : Nat) (f : Tile → Tile) : (s.mapTiles n f).circuits = s.circuits := rfl
@[simp] theorem State.mapTiles_mem (s : State) (n : Nat) (f : Tile → Tile) : (s.mapTiles n f).mem = s.mem := rfl
@[simp] theorem State.mapTiles_memOrd (s : State) (n : Nat) (f : Tile → Tile) : (s.mapTiles n f).memOrd = s.memOrd := rfl
@[simp] theorem State.mapTiles_nextOrd (s : State) (n : Nat) (f : Tile → Tile) : (s.mapTiles n f).nextOrd = s.nextOrd := rfl
@[simp] theorem State.mapTiles_written (s : State) (n : Nat) (f : Tile → Tile) : (s.mapTiles n f).written = s.written := rfl
@[simp] theorem State.mapTiles_poison (s : State) (n : Nat) (f : Tile → Tile) : (s.mapTiles n f).poison = s.poison := rfl
@[simp] theorem State.mapTiles_weights (s : State) (n : Nat) (f : Tile → Tile) : (s.mapTiles n f).weights = s.weights := rfl
@[simp] theorem State.mapTiles_weightBad (s : State) (n : Nat) (f : Tile → Tile) : (s.mapTiles n f).weightBad = s.weightBad := rfl
@[simp] theorem State.mapTiles_hostMem (s : State) (n : Nat) (f : Tile → Tile) : (s.mapTiles n f).hostMem = s.hostMem := rfl
@[simp] theorem State.mapTiles_hostRead (s : State) (n : Nat) (f : Tile → Tile) : (s.mapTiles n f).hostRead = s.hostRead := rfl
@[simp] theorem State.mapTiles_mbox (s : State) (n : Nat) (f : Tile → Tile) : (s.mapTiles n f).mbox = s.mbox := rfl
@[simp] theorem State.mapTiles_mirror (s : State) (n : Nat) (f : Tile → Tile) : (s.mapTiles n f).mirror = s.mirror := rfl
@[simp] theorem State.mapTiles_mirrorHolder (s : State) (n : Nat) (f : Tile → Tile) : (s.mapTiles n f).mirrorHolder = s.mirrorHolder := rfl
@[simp] theorem State.mapTiles_heldPosts (s : State) (n : Nat) (f : Tile → Tile) : (s.mapTiles n f).heldPosts = s.heldPosts := rfl
@[simp] theorem State.mapTiles_queues (s : State) (n : Nat) (f : Tile → Tile) : (s.mapTiles n f).queues = s.queues := rfl
@[simp] theorem State.mapTiles_nextQueue (s : State) (n : Nat) (f : Tile → Tile) : (s.mapTiles n f).nextQueue = s.nextQueue := rfl
@[simp] theorem State.mapTiles_ops (s : State) (n : Nat) (f : Tile → Tile) : (s.mapTiles n f).ops = s.ops := rfl
@[simp] theorem State.mapTiles_nextOp (s : State) (n : Nat) (f : Tile → Tile) : (s.mapTiles n f).nextOp = s.nextOp := rfl
@[simp] theorem State.mapTiles_nextBlock (s : State) (n : Nat) (f : Tile → Tile) : (s.mapTiles n f).nextBlock = s.nextBlock := rfl
@[simp] theorem State.mapTiles_logHead (s : State) (n : Nat) (f : Tile → Tile) : (s.mapTiles n f).logHead = s.logHead := rfl
@[simp] theorem State.mapTiles_logTail (s : State) (n : Nat) (f : Tile → Tile) : (s.mapTiles n f).logTail = s.logTail := rfl
@[simp] theorem State.mapTiles_logDrop (s : State) (n : Nat) (f : Tile → Tile) : (s.mapTiles n f).logDrop = s.logDrop := rfl
@[simp] theorem State.mapTiles_log (s : State) (n : Nat) (f : Tile → Tile) : (s.mapTiles n f).log = s.log := rfl
@[simp] theorem State.mapTiles_pfHead (s : State) (n : Nat) (f : Tile → Tile) : (s.mapTiles n f).pfHead = s.pfHead := rfl
@[simp] theorem State.mapTiles_pfNext (s : State) (n : Nat) (f : Tile → Tile) : (s.mapTiles n f).pfNext = s.pfNext := rfl
@[simp] theorem State.mapTiles_pfReqs (s : State) (n : Nat) (f : Tile → Tile) : (s.mapTiles n f).pfReqs = s.pfReqs := rfl
@[simp] theorem State.mapTiles_busCv (s : State) (n : Nat) (f : Tile → Tile) : (s.mapTiles n f).busCv = s.busCv := rfl
@[simp] theorem State.mapTiles_deckWatts (s : State) (n : Nat) (f : Tile → Tile) : (s.mapTiles n f).deckWatts = s.deckWatts := rfl
@[simp] theorem State.mapTiles_busLowSince (s : State) (n : Nat) (f : Tile → Tile) : (s.mapTiles n f).busLowSince = s.busLowSince := rfl
@[simp] theorem State.mapTiles_deckHotSince (s : State) (n : Nat) (f : Tile → Tile) : (s.mapTiles n f).deckHotSince = s.deckHotSince := rfl
@[simp] theorem State.mapTiles_outlet (s : State) (n : Nat) (f : Tile → Tile) : (s.mapTiles n f).outlet = s.outlet := rfl
@[simp] theorem State.mapTiles_fw (s : State) (n : Nat) (f : Tile → Tile) : (s.mapTiles n f).fw = s.fw := rfl
@[simp] theorem State.mapTiles_hdm (s : State) (n : Nat) (f : Tile → Tile) : (s.mapTiles n f).hdm = s.hdm := rfl
@[simp] theorem State.mapTiles_peers (s : State) (n : Nat) (f : Tile → Tile) : (s.mapTiles n f).peers = s.peers := rfl
@[simp] theorem State.mapTiles_stopped (s : State) (n : Nat) (f : Tile → Tile) : (s.mapTiles n f).stopped = s.stopped := rfl
@[simp] theorem State.mapTiles_xlate (s : State) (n : Nat) (f : Tile → Tile) : (s.mapTiles n f).xlate = s.xlate := rfl
@[simp] theorem State.mapTiles_netPuts (s : State) (n : Nat) (f : Tile → Tile) : (s.mapTiles n f).netPuts = s.netPuts := rfl
@[simp] theorem State.mapTiles_area (s : State) (n : Nat) (f : Tile → Tile) : (s.mapTiles n f).area = s.area := rfl
@[simp] theorem State.mapTiles_inlet (s : State) (n : Nat) (f : Tile → Tile) : (s.mapTiles n f).inlet = s.inlet := rfl
@[simp] theorem State.mapTiles_badWord (s : State) (n : Nat) (f : Tile → Tile) : (s.mapTiles n f).badWord = s.badWord := rfl
@[simp] theorem State.mapTiles_changes (s : State) (n : Nat) (f : Tile → Tile) : (s.mapTiles n f).changes = s.changes := rfl
@[simp] theorem State.mapTiles_cards (s : State) (n : Nat) (f : Tile → Tile) : (s.mapTiles n f).cards = s.cards := rfl

@[simp] theorem State.onQueue_phase (s : State) (q : Fin 64) (f : Queue → Queue) : (s.onQueue q f).phase = s.phase := rfl
@[simp] theorem State.onQueue_agenda (s : State) (q : Fin 64) (f : Queue → Queue) : (s.onQueue q f).agenda = s.agenda := rfl
@[simp] theorem State.onQueue_inputs (s : State) (q : Fin 64) (f : Queue → Queue) : (s.onQueue q f).inputs = s.inputs := rfl
@[simp] theorem State.onQueue_focus (s : State) (q : Fin 64) (f : Queue → Queue) : (s.onQueue q f).focus = s.focus := rfl
@[simp] theorem State.onQueue_slot (s : State) (q : Fin 64) (f : Queue → Queue) : (s.onQueue q f).slot = s.slot := rfl
@[simp] theorem State.onQueue_raised (s : State) (q : Fin 64) (f : Queue → Queue) : (s.onQueue q f).raised = s.raised := rfl
@[simp] theorem State.onQueue_free (s : State) (q : Fin 64) (f : Queue → Queue) : (s.onQueue q f).free = s.free := rfl
@[simp] theorem State.onQueue_cue (s : State) (q : Fin 64) (f : Queue → Queue) : (s.onQueue q f).cue = s.cue := rfl
@[simp] theorem State.onQueue_tiles (s : State) (q : Fin 64) (f : Queue → Queue) : (s.onQueue q f).tiles = s.tiles := rfl
@[simp] theorem State.onQueue_companies (s : State) (q : Fin 64) (f : Queue → Queue) : (s.onQueue q f).companies = s.companies := rfl
@[simp] theorem State.onQueue_launches (s : State) (q : Fin 64) (f : Queue → Queue) : (s.onQueue q f).launches = s.launches := rfl
@[simp] theorem State.onQueue_sites (s : State) (q : Fin 64) (f : Queue → Queue) : (s.onQueue q f).sites = s.sites := rfl
@[simp] theorem State.onQueue_decisions (s : State) (q : Fin 64) (f : Queue → Queue) : (s.onQueue q f).decisions = s.decisions := rfl
@[simp] theorem State.onQueue_linksOut (s : State) (q : Fin 64) (f : Queue → Queue) : (s.onQueue q f).linksOut = s.linksOut := rfl
@[simp] theorem State.onQueue_stitchesOut (s : State) (q : Fin 64) (f : Queue → Queue) : (s.onQueue q f).stitchesOut = s.stitchesOut := rfl
@[simp] theorem State.onQueue_circuits (s : State) (q : Fin 64) (f : Queue → Queue) : (s.onQueue q f).circuits = s.circuits := rfl
@[simp] theorem State.onQueue_mem (s : State) (q : Fin 64) (f : Queue → Queue) : (s.onQueue q f).mem = s.mem := rfl
@[simp] theorem State.onQueue_memOrd (s : State) (q : Fin 64) (f : Queue → Queue) : (s.onQueue q f).memOrd = s.memOrd := rfl
@[simp] theorem State.onQueue_nextOrd (s : State) (q : Fin 64) (f : Queue → Queue) : (s.onQueue q f).nextOrd = s.nextOrd := rfl
@[simp] theorem State.onQueue_written (s : State) (q : Fin 64) (f : Queue → Queue) : (s.onQueue q f).written = s.written := rfl
@[simp] theorem State.onQueue_poison (s : State) (q : Fin 64) (f : Queue → Queue) : (s.onQueue q f).poison = s.poison := rfl
@[simp] theorem State.onQueue_weights (s : State) (q : Fin 64) (f : Queue → Queue) : (s.onQueue q f).weights = s.weights := rfl
@[simp] theorem State.onQueue_weightBad (s : State) (q : Fin 64) (f : Queue → Queue) : (s.onQueue q f).weightBad = s.weightBad := rfl
@[simp] theorem State.onQueue_hostMem (s : State) (q : Fin 64) (f : Queue → Queue) : (s.onQueue q f).hostMem = s.hostMem := rfl
@[simp] theorem State.onQueue_hostRead (s : State) (q : Fin 64) (f : Queue → Queue) : (s.onQueue q f).hostRead = s.hostRead := rfl
@[simp] theorem State.onQueue_mbox (s : State) (q : Fin 64) (f : Queue → Queue) : (s.onQueue q f).mbox = s.mbox := rfl
@[simp] theorem State.onQueue_mirror (s : State) (q : Fin 64) (f : Queue → Queue) : (s.onQueue q f).mirror = s.mirror := rfl
@[simp] theorem State.onQueue_mirrorHolder (s : State) (q : Fin 64) (f : Queue → Queue) : (s.onQueue q f).mirrorHolder = s.mirrorHolder := rfl
@[simp] theorem State.onQueue_heldPosts (s : State) (q : Fin 64) (f : Queue → Queue) : (s.onQueue q f).heldPosts = s.heldPosts := rfl
@[simp] theorem State.onQueue_nextQueue (s : State) (q : Fin 64) (f : Queue → Queue) : (s.onQueue q f).nextQueue = s.nextQueue := rfl
@[simp] theorem State.onQueue_ops (s : State) (q : Fin 64) (f : Queue → Queue) : (s.onQueue q f).ops = s.ops := rfl
@[simp] theorem State.onQueue_nextOp (s : State) (q : Fin 64) (f : Queue → Queue) : (s.onQueue q f).nextOp = s.nextOp := rfl
@[simp] theorem State.onQueue_nextBlock (s : State) (q : Fin 64) (f : Queue → Queue) : (s.onQueue q f).nextBlock = s.nextBlock := rfl
@[simp] theorem State.onQueue_logHead (s : State) (q : Fin 64) (f : Queue → Queue) : (s.onQueue q f).logHead = s.logHead := rfl
@[simp] theorem State.onQueue_logTail (s : State) (q : Fin 64) (f : Queue → Queue) : (s.onQueue q f).logTail = s.logTail := rfl
@[simp] theorem State.onQueue_logDrop (s : State) (q : Fin 64) (f : Queue → Queue) : (s.onQueue q f).logDrop = s.logDrop := rfl
@[simp] theorem State.onQueue_log (s : State) (q : Fin 64) (f : Queue → Queue) : (s.onQueue q f).log = s.log := rfl
@[simp] theorem State.onQueue_pfHead (s : State) (q : Fin 64) (f : Queue → Queue) : (s.onQueue q f).pfHead = s.pfHead := rfl
@[simp] theorem State.onQueue_pfNext (s : State) (q : Fin 64) (f : Queue → Queue) : (s.onQueue q f).pfNext = s.pfNext := rfl
@[simp] theorem State.onQueue_pfReqs (s : State) (q : Fin 64) (f : Queue → Queue) : (s.onQueue q f).pfReqs = s.pfReqs := rfl
@[simp] theorem State.onQueue_busCv (s : State) (q : Fin 64) (f : Queue → Queue) : (s.onQueue q f).busCv = s.busCv := rfl
@[simp] theorem State.onQueue_deckWatts (s : State) (q : Fin 64) (f : Queue → Queue) : (s.onQueue q f).deckWatts = s.deckWatts := rfl
@[simp] theorem State.onQueue_busLowSince (s : State) (q : Fin 64) (f : Queue → Queue) : (s.onQueue q f).busLowSince = s.busLowSince := rfl
@[simp] theorem State.onQueue_deckHotSince (s : State) (q : Fin 64) (f : Queue → Queue) : (s.onQueue q f).deckHotSince = s.deckHotSince := rfl
@[simp] theorem State.onQueue_outlet (s : State) (q : Fin 64) (f : Queue → Queue) : (s.onQueue q f).outlet = s.outlet := rfl
@[simp] theorem State.onQueue_fw (s : State) (q : Fin 64) (f : Queue → Queue) : (s.onQueue q f).fw = s.fw := rfl
@[simp] theorem State.onQueue_hdm (s : State) (q : Fin 64) (f : Queue → Queue) : (s.onQueue q f).hdm = s.hdm := rfl
@[simp] theorem State.onQueue_peers (s : State) (q : Fin 64) (f : Queue → Queue) : (s.onQueue q f).peers = s.peers := rfl
@[simp] theorem State.onQueue_stopped (s : State) (q : Fin 64) (f : Queue → Queue) : (s.onQueue q f).stopped = s.stopped := rfl
@[simp] theorem State.onQueue_xlate (s : State) (q : Fin 64) (f : Queue → Queue) : (s.onQueue q f).xlate = s.xlate := rfl
@[simp] theorem State.onQueue_netPuts (s : State) (q : Fin 64) (f : Queue → Queue) : (s.onQueue q f).netPuts = s.netPuts := rfl
@[simp] theorem State.onQueue_area (s : State) (q : Fin 64) (f : Queue → Queue) : (s.onQueue q f).area = s.area := rfl
@[simp] theorem State.onQueue_inlet (s : State) (q : Fin 64) (f : Queue → Queue) : (s.onQueue q f).inlet = s.inlet := rfl
@[simp] theorem State.onQueue_badWord (s : State) (q : Fin 64) (f : Queue → Queue) : (s.onQueue q f).badWord = s.badWord := rfl
@[simp] theorem State.onQueue_changes (s : State) (q : Fin 64) (f : Queue → Queue) : (s.onQueue q f).changes = s.changes := rfl
@[simp] theorem State.onQueue_cards (s : State) (q : Fin 64) (f : Queue → Queue) : (s.onQueue q f).cards = s.cards := rfl

@[simp] theorem Here.put_phase (h : Here) (st : TState) : (h.put st).phase = h.s.phase := rfl
@[simp] theorem Here.put_agenda (h : Here) (st : TState) : (h.put st).agenda = h.s.agenda := rfl
@[simp] theorem Here.put_inputs (h : Here) (st : TState) : (h.put st).inputs = h.s.inputs := rfl
@[simp] theorem Here.put_focus (h : Here) (st : TState) : (h.put st).focus = h.s.focus := rfl
@[simp] theorem Here.put_slot (h : Here) (st : TState) : (h.put st).slot = h.s.slot := rfl
@[simp] theorem Here.put_raised (h : Here) (st : TState) : (h.put st).raised = h.s.raised := rfl
@[simp] theorem Here.put_free (h : Here) (st : TState) : (h.put st).free = h.s.free := rfl
@[simp] theorem Here.put_cue (h : Here) (st : TState) : (h.put st).cue = h.s.cue := rfl
@[simp] theorem Here.put_companies (h : Here) (st : TState) : (h.put st).companies = h.s.companies := rfl
@[simp] theorem Here.put_launches (h : Here) (st : TState) : (h.put st).launches = h.s.launches := rfl
@[simp] theorem Here.put_sites (h : Here) (st : TState) : (h.put st).sites = h.s.sites := rfl
@[simp] theorem Here.put_decisions (h : Here) (st : TState) : (h.put st).decisions = h.s.decisions := rfl
@[simp] theorem Here.put_linksOut (h : Here) (st : TState) : (h.put st).linksOut = h.s.linksOut := rfl
@[simp] theorem Here.put_stitchesOut (h : Here) (st : TState) : (h.put st).stitchesOut = h.s.stitchesOut := rfl
@[simp] theorem Here.put_circuits (h : Here) (st : TState) : (h.put st).circuits = h.s.circuits := rfl
@[simp] theorem Here.put_mem (h : Here) (st : TState) : (h.put st).mem = h.s.mem := rfl
@[simp] theorem Here.put_memOrd (h : Here) (st : TState) : (h.put st).memOrd = h.s.memOrd := rfl
@[simp] theorem Here.put_nextOrd (h : Here) (st : TState) : (h.put st).nextOrd = h.s.nextOrd := rfl
@[simp] theorem Here.put_written (h : Here) (st : TState) : (h.put st).written = h.s.written := rfl
@[simp] theorem Here.put_poison (h : Here) (st : TState) : (h.put st).poison = h.s.poison := rfl
@[simp] theorem Here.put_weights (h : Here) (st : TState) : (h.put st).weights = h.s.weights := rfl
@[simp] theorem Here.put_weightBad (h : Here) (st : TState) : (h.put st).weightBad = h.s.weightBad := rfl
@[simp] theorem Here.put_hostMem (h : Here) (st : TState) : (h.put st).hostMem = h.s.hostMem := rfl
@[simp] theorem Here.put_hostRead (h : Here) (st : TState) : (h.put st).hostRead = h.s.hostRead := rfl
@[simp] theorem Here.put_mbox (h : Here) (st : TState) : (h.put st).mbox = h.s.mbox := rfl
@[simp] theorem Here.put_mirror (h : Here) (st : TState) : (h.put st).mirror = h.s.mirror := rfl
@[simp] theorem Here.put_mirrorHolder (h : Here) (st : TState) : (h.put st).mirrorHolder = h.s.mirrorHolder := rfl
@[simp] theorem Here.put_heldPosts (h : Here) (st : TState) : (h.put st).heldPosts = h.s.heldPosts := rfl
@[simp] theorem Here.put_queues (h : Here) (st : TState) : (h.put st).queues = h.s.queues := rfl
@[simp] theorem Here.put_nextQueue (h : Here) (st : TState) : (h.put st).nextQueue = h.s.nextQueue := rfl
@[simp] theorem Here.put_ops (h : Here) (st : TState) : (h.put st).ops = h.s.ops := rfl
@[simp] theorem Here.put_nextOp (h : Here) (st : TState) : (h.put st).nextOp = h.s.nextOp := rfl
@[simp] theorem Here.put_nextBlock (h : Here) (st : TState) : (h.put st).nextBlock = h.s.nextBlock := rfl
@[simp] theorem Here.put_logHead (h : Here) (st : TState) : (h.put st).logHead = h.s.logHead := rfl
@[simp] theorem Here.put_logTail (h : Here) (st : TState) : (h.put st).logTail = h.s.logTail := rfl
@[simp] theorem Here.put_logDrop (h : Here) (st : TState) : (h.put st).logDrop = h.s.logDrop := rfl
@[simp] theorem Here.put_log (h : Here) (st : TState) : (h.put st).log = h.s.log := rfl
@[simp] theorem Here.put_pfHead (h : Here) (st : TState) : (h.put st).pfHead = h.s.pfHead := rfl
@[simp] theorem Here.put_pfNext (h : Here) (st : TState) : (h.put st).pfNext = h.s.pfNext := rfl
@[simp] theorem Here.put_pfReqs (h : Here) (st : TState) : (h.put st).pfReqs = h.s.pfReqs := rfl
@[simp] theorem Here.put_busCv (h : Here) (st : TState) : (h.put st).busCv = h.s.busCv := rfl
@[simp] theorem Here.put_deckWatts (h : Here) (st : TState) : (h.put st).deckWatts = h.s.deckWatts := rfl
@[simp] theorem Here.put_busLowSince (h : Here) (st : TState) : (h.put st).busLowSince = h.s.busLowSince := rfl
@[simp] theorem Here.put_deckHotSince (h : Here) (st : TState) : (h.put st).deckHotSince = h.s.deckHotSince := rfl
@[simp] theorem Here.put_outlet (h : Here) (st : TState) : (h.put st).outlet = h.s.outlet := rfl
@[simp] theorem Here.put_fw (h : Here) (st : TState) : (h.put st).fw = h.s.fw := rfl
@[simp] theorem Here.put_hdm (h : Here) (st : TState) : (h.put st).hdm = h.s.hdm := rfl
@[simp] theorem Here.put_peers (h : Here) (st : TState) : (h.put st).peers = h.s.peers := rfl
@[simp] theorem Here.put_stopped (h : Here) (st : TState) : (h.put st).stopped = h.s.stopped := rfl
@[simp] theorem Here.put_xlate (h : Here) (st : TState) : (h.put st).xlate = h.s.xlate := rfl
@[simp] theorem Here.put_netPuts (h : Here) (st : TState) : (h.put st).netPuts = h.s.netPuts := rfl
@[simp] theorem Here.put_area (h : Here) (st : TState) : (h.put st).area = h.s.area := rfl
@[simp] theorem Here.put_inlet (h : Here) (st : TState) : (h.put st).inlet = h.s.inlet := rfl
@[simp] theorem Here.put_badWord (h : Here) (st : TState) : (h.put st).badWord = h.s.badWord := rfl
@[simp] theorem Here.put_changes (h : Here) (st : TState) : (h.put st).changes = h.s.changes := rfl
@[simp] theorem Here.put_cards (h : Here) (st : TState) : (h.put st).cards = h.s.cards := rfl

@[simp] theorem TState.fly1_s (st : TState) (c lat : Nat) (e : Eff) : (st.fly1 c lat e).s = st.s := rfl
@[simp] theorem TState.fly1_p (st : TState) (c lat : Nat) (e : Eff) : (st.fly1 c lat e).p = st.p := rfl
@[simp] theorem TState.fly1_v (st : TState) (c lat : Nat) (e : Eff) : (st.fly1 c lat e).v = st.v := rfl
@[simp] theorem TState.fly1_mask (st : TState) (c lat : Nat) (e : Eff) : (st.fly1 c lat e).mask = st.mask := rfl
@[simp] theorem TState.fly1_latS (st : TState) (c lat : Nat) (e : Eff) : (st.fly1 c lat e).latS = st.latS := rfl
@[simp] theorem TState.fly1_latV (st : TState) (c lat : Nat) (e : Eff) : (st.fly1 c lat e).latV = st.latV := rfl
@[simp] theorem TState.fly1_loops (st : TState) (c lat : Nat) (e : Eff) : (st.fly1 c lat e).loops = st.loops := rfl
@[simp] theorem TState.fly1_nest (st : TState) (c lat : Nat) (e : Eff) : (st.fly1 c lat e).nest = st.nest := rfl
@[simp] theorem TState.fly1_rstack (st : TState) (c lat : Nat) (e : Eff) : (st.fly1 c lat e).rstack = st.rstack := rfl
@[simp] theorem TState.fly1_a (st : TState) (c lat : Nat) (e : Eff) : (st.fly1 c lat e).a = st.a := rfl
@[simp] theorem TState.fly1_q (st : TState) (c lat : Nat) (e : Eff) : (st.fly1 c lat e).q = st.q := rfl
@[simp] theorem TState.fly1_k (st : TState) (c lat : Nat) (e : Eff) : (st.fly1 c lat e).k = st.k := rfl
@[simp] theorem TState.fly1_own (st : TState) (c lat : Nat) (e : Eff) : (st.fly1 c lat e).own = st.own := rfl
@[simp] theorem TState.fly1_e (st : TState) (c lat : Nat) (e : Eff) : (st.fly1 c lat e).e = st.e := rfl
@[simp] theorem TState.fly1_clre (st : TState) (c lat : Nat) (e : Eff) : (st.fly1 c lat e).clre = st.clre := rfl
@[simp] theorem TState.fly1_arrive (st : TState) (c lat : Nat) (e : Eff) : (st.fly1 c lat e).arrive = st.arrive := rfl
@[simp] theorem TState.fly1_arr (st : TState) (c lat : Nat) (e : Eff) : (st.fly1 c lat e).arr = st.arr := rfl
@[simp] theorem TState.fly1_cast (st : TState) (c lat : Nat) (e : Eff) : (st.fly1 c lat e).cast = st.cast := rfl
@[simp] theorem TState.fly1_spad (st : TState) (c lat : Nat) (e : Eff) : (st.fly1 c lat e).spad = st.spad := rfl
@[simp] theorem TState.fly1_ordinal (st : TState) (c lat : Nat) (e : Eff) : (st.fly1 c lat e).ordinal = st.ordinal := rfl
@[simp] theorem TState.fly1_pc (st : TState) (c lat : Nat) (e : Eff) : (st.fly1 c lat e).pc = st.pc := rfl
@[simp] theorem TState.fly1_lastAddr (st : TState) (c lat : Nat) (e : Eff) : (st.fly1 c lat e).lastAddr = st.lastAddr := rfl
@[simp] theorem TState.fly1_lastSeg (st : TState) (c lat : Nat) (e : Eff) : (st.fly1 c lat e).lastSeg = st.lastSeg := rfl
@[simp] theorem TState.fly1_lastBundle (st : TState) (c lat : Nat) (e : Eff) : (st.fly1 c lat e).lastBundle = st.lastBundle := rfl
@[simp] theorem TState.fly1_half (st : TState) (c lat : Nat) (e : Eff) : (st.fly1 c lat e).half = st.half := rfl
@[simp] theorem TState.fly1_segs (st : TState) (c lat : Nat) (e : Eff) : (st.fly1 c lat e).segs = st.segs := rfl
@[simp] theorem TState.fly1_wait (st : TState) (c lat : Nat) (e : Eff) : (st.fly1 c lat e).wait = st.wait := rfl
@[simp] theorem TState.fly1_skip (st : TState) (c lat : Nat) (e : Eff) : (st.fly1 c lat e).skip = st.skip := rfl
@[simp] theorem TState.fly1_halted (st : TState) (c lat : Nat) (e : Eff) : (st.fly1 c lat e).halted = st.halted := rfl
@[simp] theorem TState.fly1_localSince (st : TState) (c lat : Nat) (e : Eff) : (st.fly1 c lat e).localSince = st.localSince := rfl
@[simp] theorem TState.fly1_localNext (st : TState) (c lat : Nat) (e : Eff) : (st.fly1 c lat e).localNext = st.localNext := rfl
@[simp] theorem TState.fly1_handler (st : TState) (c lat : Nat) (e : Eff) : (st.fly1 c lat e).handler = st.handler := rfl
@[simp] theorem TState.fly1_retAddr (st : TState) (c lat : Nat) (e : Eff) : (st.fly1 c lat e).retAddr = st.retAddr := rfl
@[simp] theorem TState.fly1_lastGroup (st : TState) (c lat : Nat) (e : Eff) : (st.fly1 c lat e).lastGroup = st.lastGroup := rfl
@[simp] theorem TState.fly1_xfer (st : TState) (c lat : Nat) (e : Eff) : (st.fly1 c lat e).xfer = st.xfer := rfl
@[simp] theorem TState.fly1_marked (st : TState) (c lat : Nat) (e : Eff) : (st.fly1 c lat e).marked = st.marked := rfl
@[simp] theorem TState.fly1_bufS (st : TState) (c lat : Nat) (e : Eff) : (st.fly1 c lat e).bufS = st.bufS := rfl
@[simp] theorem TState.fly1_bufV (st : TState) (c lat : Nat) (e : Eff) : (st.fly1 c lat e).bufV = st.bufV := rfl
@[simp] theorem TState.fly1_hopBusy (st : TState) (c lat : Nat) (e : Eff) : (st.fly1 c lat e).hopBusy = st.hopBusy := rfl
@[simp] theorem TState.fly1_xBusy (st : TState) (c lat : Nat) (e : Eff) : (st.fly1 c lat e).xBusy = st.xBusy := rfl
@[simp] theorem TState.fly1_xLast (st : TState) (c lat : Nat) (e : Eff) : (st.fly1 c lat e).xLast = st.xLast := rfl
@[simp] theorem TState.fly1_wires (st : TState) (c lat : Nat) (e : Eff) : (st.fly1 c lat e).wires = st.wires := rfl
@[simp] theorem TState.fly1_xwords (st : TState) (c lat : Nat) (e : Eff) : (st.fly1 c lat e).xwords = st.xwords := rfl
@[simp] theorem TState.fly1_fifo (st : TState) (c lat : Nat) (e : Eff) : (st.fly1 c lat e).fifo = st.fifo := rfl
@[simp] theorem TState.fly1_signals (st : TState) (c lat : Nat) (e : Eff) : (st.fly1 c lat e).signals = st.signals := rfl
@[simp] theorem TState.fly1_ovl (st : TState) (c lat : Nat) (e : Eff) : (st.fly1 c lat e).ovl = st.ovl := rfl
@[simp] theorem TState.fly1_flyTaken (st : TState) (c lat : Nat) (e : Eff) : (st.fly1 c lat e).flyTaken = st.flyTaken := rfl
@[simp] theorem TState.fly1_fly (st : TState) (c lat : Nat) (e : Eff) : (st.fly1 c lat e).fly = st.fly := rfl
@[simp] theorem TState.fly1_wheel (st : TState) (c lat : Nat) (e : Eff) : (st.fly1 c lat e).wheel = st.wheel := rfl
@[simp] theorem TState.fly1_loadQ (st : TState) (c lat : Nat) (e : Eff) : (st.fly1 c lat e).loadQ = st.loadQ := rfl
@[simp] theorem TState.fly1_storeQ (st : TState) (c lat : Nat) (e : Eff) : (st.fly1 c lat e).storeQ = st.storeQ := rfl
@[simp] theorem TState.fly1_nextEntry (st : TState) (c lat : Nat) (e : Eff) : (st.fly1 c lat e).nextEntry = st.nextEntry := rfl
@[simp] theorem TState.fly1_copyQ (st : TState) (c lat : Nat) (e : Eff) : (st.fly1 c lat e).copyQ = st.copyQ := rfl
@[simp] theorem TState.fly1_mbQ (st : TState) (c lat : Nat) (e : Eff) : (st.fly1 c lat e).mbQ = st.mbQ := rfl
@[simp] theorem TState.fly1_chorus (st : TState) (c lat : Nat) (e : Eff) : (st.fly1 c lat e).chorus = st.chorus := rfl
@[simp] theorem TState.fly1_combine (st : TState) (c lat : Nat) (e : Eff) : (st.fly1 c lat e).combine = st.combine := rfl
@[simp] theorem TState.fly1_ringReq (st : TState) (c lat : Nat) (e : Eff) : (st.fly1 c lat e).ringReq = st.ringReq := rfl
@[simp] theorem TState.fly1_flight (st : TState) (c lat : Nat) (e : Eff) : (st.fly1 c lat e).flight = st.flight ++ [⟨c + lat, e⟩] := rfl
@[simp] theorem TState.fly1_popped (st : TState) (c lat : Nat) (e : Eff) : (st.fly1 c lat e).popped = st.popped := rfl
@[simp] theorem TState.fly1_back (st : TState) (c lat : Nat) (e : Eff) : (st.fly1 c lat e).back = st.back := rfl
@[simp] theorem TState.fly1_replay (st : TState) (c lat : Nat) (e : Eff) : (st.fly1 c lat e).replay = st.replay := rfl

@[simp] theorem TState.arrives_s (st : TState) (j : Nat) : (st.arrives j).s = st.s := rfl
@[simp] theorem TState.arrives_p (st : TState) (j : Nat) : (st.arrives j).p = st.p := rfl
@[simp] theorem TState.arrives_v (st : TState) (j : Nat) : (st.arrives j).v = st.v := rfl
@[simp] theorem TState.arrives_mask (st : TState) (j : Nat) : (st.arrives j).mask = st.mask := rfl
@[simp] theorem TState.arrives_latS (st : TState) (j : Nat) : (st.arrives j).latS = st.latS := rfl
@[simp] theorem TState.arrives_latV (st : TState) (j : Nat) : (st.arrives j).latV = st.latV := rfl
@[simp] theorem TState.arrives_loops (st : TState) (j : Nat) : (st.arrives j).loops = st.loops := rfl
@[simp] theorem TState.arrives_nest (st : TState) (j : Nat) : (st.arrives j).nest = st.nest := rfl
@[simp] theorem TState.arrives_rstack (st : TState) (j : Nat) : (st.arrives j).rstack = st.rstack := rfl
@[simp] theorem TState.arrives_a (st : TState) (j : Nat) : (st.arrives j).a = st.a := rfl
@[simp] theorem TState.arrives_q (st : TState) (j : Nat) : (st.arrives j).q = st.q := rfl
@[simp] theorem TState.arrives_k (st : TState) (j : Nat) : (st.arrives j).k = st.k := rfl
@[simp] theorem TState.arrives_own (st : TState) (j : Nat) : (st.arrives j).own = st.own := rfl
@[simp] theorem TState.arrives_e (st : TState) (j : Nat) : (st.arrives j).e = st.e := rfl
@[simp] theorem TState.arrives_clre (st : TState) (j : Nat) : (st.arrives j).clre = st.clre := rfl
@[simp] theorem TState.arrives_arr (st : TState) (j : Nat) : (st.arrives j).arr = st.arr := rfl
@[simp] theorem TState.arrives_cast (st : TState) (j : Nat) : (st.arrives j).cast = st.cast := rfl
@[simp] theorem TState.arrives_spad (st : TState) (j : Nat) : (st.arrives j).spad = st.spad := rfl
@[simp] theorem TState.arrives_ordinal (st : TState) (j : Nat) : (st.arrives j).ordinal = st.ordinal := rfl
@[simp] theorem TState.arrives_pc (st : TState) (j : Nat) : (st.arrives j).pc = st.pc := rfl
@[simp] theorem TState.arrives_lastAddr (st : TState) (j : Nat) : (st.arrives j).lastAddr = st.lastAddr := rfl
@[simp] theorem TState.arrives_lastSeg (st : TState) (j : Nat) : (st.arrives j).lastSeg = st.lastSeg := rfl
@[simp] theorem TState.arrives_lastBundle (st : TState) (j : Nat) : (st.arrives j).lastBundle = st.lastBundle := rfl
@[simp] theorem TState.arrives_half (st : TState) (j : Nat) : (st.arrives j).half = st.half := rfl
@[simp] theorem TState.arrives_segs (st : TState) (j : Nat) : (st.arrives j).segs = st.segs := rfl
@[simp] theorem TState.arrives_wait (st : TState) (j : Nat) : (st.arrives j).wait = st.wait := rfl
@[simp] theorem TState.arrives_skip (st : TState) (j : Nat) : (st.arrives j).skip = st.skip := rfl
@[simp] theorem TState.arrives_halted (st : TState) (j : Nat) : (st.arrives j).halted = st.halted := rfl
@[simp] theorem TState.arrives_localSince (st : TState) (j : Nat) : (st.arrives j).localSince = st.localSince := rfl
@[simp] theorem TState.arrives_localNext (st : TState) (j : Nat) : (st.arrives j).localNext = st.localNext := rfl
@[simp] theorem TState.arrives_handler (st : TState) (j : Nat) : (st.arrives j).handler = st.handler := rfl
@[simp] theorem TState.arrives_retAddr (st : TState) (j : Nat) : (st.arrives j).retAddr = st.retAddr := rfl
@[simp] theorem TState.arrives_lastGroup (st : TState) (j : Nat) : (st.arrives j).lastGroup = st.lastGroup := rfl
@[simp] theorem TState.arrives_xfer (st : TState) (j : Nat) : (st.arrives j).xfer = st.xfer := rfl
@[simp] theorem TState.arrives_marked (st : TState) (j : Nat) : (st.arrives j).marked = st.marked := rfl
@[simp] theorem TState.arrives_flight (st : TState) (j : Nat) : (st.arrives j).flight = st.flight := rfl
@[simp] theorem TState.arrives_bufS (st : TState) (j : Nat) : (st.arrives j).bufS = st.bufS := rfl
@[simp] theorem TState.arrives_bufV (st : TState) (j : Nat) : (st.arrives j).bufV = st.bufV := rfl
@[simp] theorem TState.arrives_hopBusy (st : TState) (j : Nat) : (st.arrives j).hopBusy = st.hopBusy := rfl
@[simp] theorem TState.arrives_xBusy (st : TState) (j : Nat) : (st.arrives j).xBusy = st.xBusy := rfl
@[simp] theorem TState.arrives_xLast (st : TState) (j : Nat) : (st.arrives j).xLast = st.xLast := rfl
@[simp] theorem TState.arrives_wires (st : TState) (j : Nat) : (st.arrives j).wires = st.wires := rfl
@[simp] theorem TState.arrives_xwords (st : TState) (j : Nat) : (st.arrives j).xwords = st.xwords := rfl
@[simp] theorem TState.arrives_fifo (st : TState) (j : Nat) : (st.arrives j).fifo = st.fifo := rfl
@[simp] theorem TState.arrives_signals (st : TState) (j : Nat) : (st.arrives j).signals = st.signals := rfl
@[simp] theorem TState.arrives_ovl (st : TState) (j : Nat) : (st.arrives j).ovl = st.ovl := rfl
@[simp] theorem TState.arrives_flyTaken (st : TState) (j : Nat) : (st.arrives j).flyTaken = st.flyTaken := rfl
@[simp] theorem TState.arrives_fly (st : TState) (j : Nat) : (st.arrives j).fly = st.fly := rfl
@[simp] theorem TState.arrives_wheel (st : TState) (j : Nat) : (st.arrives j).wheel = st.wheel := rfl
@[simp] theorem TState.arrives_loadQ (st : TState) (j : Nat) : (st.arrives j).loadQ = st.loadQ := rfl
@[simp] theorem TState.arrives_storeQ (st : TState) (j : Nat) : (st.arrives j).storeQ = st.storeQ := rfl
@[simp] theorem TState.arrives_nextEntry (st : TState) (j : Nat) : (st.arrives j).nextEntry = st.nextEntry := rfl
@[simp] theorem TState.arrives_copyQ (st : TState) (j : Nat) : (st.arrives j).copyQ = st.copyQ := rfl
@[simp] theorem TState.arrives_mbQ (st : TState) (j : Nat) : (st.arrives j).mbQ = st.mbQ := rfl
@[simp] theorem TState.arrives_chorus (st : TState) (j : Nat) : (st.arrives j).chorus = st.chorus := rfl
@[simp] theorem TState.arrives_combine (st : TState) (j : Nat) : (st.arrives j).combine = st.combine := rfl
@[simp] theorem TState.arrives_ringReq (st : TState) (j : Nat) : (st.arrives j).ringReq = st.ringReq := rfl
@[simp] theorem TState.arrives_arrive (st : TState) (j : Nat) : (st.arrives j).arrive = st.arrive ||| (1#16 <<< j) := rfl
@[simp] theorem TState.arrives_popped (st : TState) (j : Nat) : (st.arrives j).popped = st.popped := rfl
@[simp] theorem TState.arrives_back (st : TState) (j : Nat) : (st.arrives j).back = st.back := rfl
@[simp] theorem TState.arrives_replay (st : TState) (j : Nat) : (st.arrives j).replay = st.replay := rfl

end Sys2Proof.Machine
end

