-- ==== Sys2Proof/Laws/Memory.lean ====
section
/-! SUPPORT. A memory's canonical form and its reads after writes (10 R263, R267, R269). -/
namespace Sys2Proof.Machine

/-! ### The canonical form -/

theorem memWfFrom_mono {m : Memory} {lo hi : Nat} (h : hi ≤ lo) (w : memWfFrom lo m = true) : memWfFrom hi m = true := by
  cases m with
  | nil => rfl
  | cons c r => simp_all [memWfFrom]; omega

theorem memWfFrom_put {m : Memory} : ∀ {lo a : Nat} {v : Byte}, lo ≤ a → memWfFrom lo m = true → memWfFrom lo (memPut m a v) = true := by
  induction m with
  | nil => intro lo a v h _; unfold memPut; split <;> simp_all [memWfFrom]
  | cons c r ih =>
    obtain ⟨b, u⟩ := c
    intro lo a v h w
    simp only [memWfFrom, Bool.and_eq_true, decide_eq_true_eq, bne_iff_ne] at w
    simp only [memPut]
    split
    · split
      · simp_all [memWfFrom]
      · simp_all [memWfFrom]
    · split
      · subst_vars
        split
        · exact memWfFrom_mono (by omega) w.2
        · simp_all [memWfFrom]
      · have := ih (lo := b + 1) (a := a) (v := v) (by omega) w.2
        simp_all [memWfFrom]

/-- One byte written keeps the canonical form. -/
theorem memWf_put {m : Memory} (a : Nat) (v : Byte) (w : memWf m = true) : memWf (memPut m a v) = true := memWfFrom_put (Nat.zero_le a) w

/-- Cells written keep it. -/
theorem memWf_putAll (cs : List Host.Cell) : ∀ {m : Memory}, memWf m = true → memWf (memPutAll m cs) = true := by
  induction cs with
  | nil => intro m w; exact w
  | cons c r ih => intro m w; exact ih (memWf_put c.1 c.2 w)

theorem memWfFrom_filter (p : Host.Cell → Bool) {m : Memory} : ∀ {lo : Nat}, memWfFrom lo m = true → memWfFrom lo (m.filter p) = true := by
  induction m with
  | nil => intro lo _; rfl
  | cons c r ih =>
    intro lo w
    simp only [memWfFrom, Bool.and_eq_true, decide_eq_true_eq, bne_iff_ne] at w
    simp only [List.filter]
    split
    · simp_all [memWfFrom]
    · exact memWfFrom_mono (by omega) (ih w.2)

/-- A range cleared keeps it. -/
theorem memWf_clear {m : Memory} (a n : Nat) (w : memWf m = true) : memWf (memClear m a n) = true := memWfFrom_filter _ w

/-! ### Reads after writes -/

theorem memGet_above {m : Memory} : ∀ {lo a : Nat}, a < lo → memWfFrom lo m = true → memGet m a = 0 := by
  induction m with
  | nil => intros; rfl
  | cons c r ih =>
    intro lo a h w
    simp only [memWfFrom, Bool.and_eq_true, decide_eq_true_eq, bne_iff_ne] at w
    simp only [memGet]
    rw [if_neg (by omega), ih (lo := c.1 + 1) (by omega) w.2]

theorem memGet_putFrom {m : Memory} : ∀ {lo : Nat} (a b : Nat) (v : Byte), memWfFrom lo m = true →
    memGet (memPut m a v) b = if b = a then v else memGet m b := by
  induction m with
  | nil =>
    intro lo a b v _
    simp only [memPut]
    split
    · simp_all [memGet]
    · simp only [memGet]; split <;> split <;> simp_all
  | cons c r ih =>
    obtain ⟨d, u⟩ := c
    intro lo a b v w
    simp only [memWfFrom, Bool.and_eq_true, decide_eq_true_eq, bne_iff_ne] at w
    have hi := ih (lo := d + 1) a b v w.2
    simp only [memPut]
    split
    · rename_i hlt
      have above : memGet r a = 0 := memGet_above (lo := d + 1) (by omega) w.2
      split
      · rename_i hv
        by_cases e : b = a
        · subst e; simp only [memGet, if_neg (show ¬ d = b by omega), above, hv, if_true]
        · simp [memGet, e]
      · by_cases e : b = a
        · subst e; simp [memGet]
        · simp [memGet, e, Ne.symm e]
    · split
      · subst_vars
        have above : memGet r a = 0 := memGet_above (lo := a + 1) (by omega) w.2
        split
        · rename_i hv
          by_cases e : b = a
          · subst e; simp [hv, above]
          · simp [memGet, e, Ne.symm e]
        · by_cases e : b = a
          · subst e; simp [memGet]
          · simp [memGet, e, Ne.symm e]
      · rename_i h1 h2
        simp only [memGet, hi]
        by_cases e : d = b
        · subst e; simp [show ¬ d = a from fun x => h2 x.symm]
        · simp [e]

/-- A byte read after one byte was written. -/
theorem memGet_put {m : Memory} (w : memWf m = true) (a b : Nat) (v : Byte) : memGet (memPut m a v) b = if b = a then v else memGet m b :=
  memGet_putFrom a b v w

/-- A byte outside the cells written is unchanged. -/
theorem memGet_putAll_other (b : Nat) (cs : List Host.Cell) : ∀ {m : Memory}, memWf m = true → (∀ c ∈ cs, c.1 ≠ b) →
    memGet (memPutAll m cs) b = memGet m b := by
  induction cs with
  | nil => intros; rfl
  | cons c r ih =>
    intro m w h
    have h1 : b ≠ c.1 := fun e => h c (by simp) e.symm
    simp only [memPutAll]
    rw [ih (memWf_put c.1 c.2 w) fun x hx => h x (by simp [hx]), memGet_put w, if_neg h1]

/-! ### Deck memory (10 R269) -/

theorem State.performByte_mem_wf (s : State) (o : Coh) (c : Host.Cell) (w : memWf s.mem = true) : memWf (s.performByte o c).mem = true := by
  unfold State.performByte; split
  · exact memWf_put _ _ w
  · exact w

theorem State.performBytes_mem_wf (o : Coh) (cs : List Host.Cell) : ∀ (s : State), memWf s.mem = true →
    memWf (cs.foldl (fun (s : State) c => s.performByte o c) s).mem = true := by
  induction cs with
  | nil => intro s w; exact w
  | cons c r ih => intro s w; exact ih _ (s.performByte_mem_wf o c w)

/-- A write performed keeps the canonical form of deck memory. -/
theorem State.perform_mem_wf (s : State) (o : Coh) (cs : List Host.Cell) (w : memWf s.mem = true) : memWf (s.perform o cs).mem = true := by
  unfold State.perform; exact State.performBytes_mem_wf o _ s w

/-- A write placed and performed at once keeps it. -/
theorem State.placeWrite_mem_wf (s : State) (p : Placer) (cs : List Host.Cell) (w : memWf s.mem = true) : memWf (s.placeWrite p cs).mem = true :=
  State.perform_mem_wf _ _ cs w

end Sys2Proof.Machine
end

