-- ==== Sys2Proof/Laws/Ops.lean ====
section
/-! SUPPORT. What the shared operations do, said once: finding a tile and putting it back, a word's step, mailbox words, the raising of a
cause, results in flight. -/
namespace Sys2Proof.Machine

/-! ### Finding and replacing -/

theorem State.tileAt_key {s : State} {k : TileKey} {t : Tile} (e : s.tileAt k = some t) : t.key = k := by
  unfold State.tileAt at e; simpa using List.find?_some e

theorem State.coAt_num {s : State} {n : Nat} {c : Company} (e : s.coAt n = some c) : c.num = n := by
  unfold State.coAt at e; simpa using List.find?_some e

/-- A tile replaced by one of the same key: that key finds the new tile, every other key what it found before. -/
theorem State.tileAt_setTile (s : State) (u : Tile) (k : TileKey) :
    (s.setTile u).tileAt k = if u.key = k then (s.tileAt k).map (fun _ => u) else s.tileAt k := by
  unfold State.setTile State.tileAt
  simp only
  induction s.tiles with
  | nil => simp
  | cons a l ih =>
    simp only [List.map_cons, List.find?_cons]
    by_cases hu : u.key = k <;> by_cases ha : a.key = k <;> by_cases hau : a.key = u.key <;> simp_all

theorem State.coAt_setCo (s : State) (c : Company) (n : Nat) :
    (s.setCo c).coAt n = if c.num = n then (s.coAt n).map (fun _ => c) else s.coAt n := by
  unfold State.setCo State.coAt
  simp only
  induction s.companies with
  | nil => simp
  | cons a l ih =>
    simp only [List.map_cons, List.find?_cons]
    by_cases hu : c.num = n <;> by_cases ha : a.num = n <;> by_cases hau : a.num = c.num <;> simp_all

@[simp] theorem State.setCo_tileAt (s : State) (c : Company) (k : TileKey) : (s.setCo c).tileAt k = s.tileAt k := rfl
@[simp] theorem State.setTile_coAt (s : State) (t : Tile) (n : Nat) : (s.setTile t).coAt n = s.coAt n := rfl

theorem State.setTile_length (s : State) (t : Tile) : (s.setTile t).tiles.length = s.tiles.length := by simp [State.setTile]

@[simp] theorem State.setSite_self (s : State) (n : SiteId) (f : Site → Site) : (s.setSite n f).sites[n] = f (s.sites[n]) := by
  simp [State.setSite]

theorem State.setSite_other (s : State) (n m : SiteId) (f : Site → Site) (h : m ≠ n) : (s.setSite n f).sites[m] = s.sites[m] := by
  have : n.val ≠ m.val := fun e => h (Fin.ext e.symm)
  simp [State.setSite, this]

/-- What `hereAt` finds: the tile, its company and its gang, and the state itself. -/
theorem State.hereAt_parts {s : State} {k : TileKey} {h : Here} (e : s.hereAt k = some h) :
    h.s = s ∧ s.tileAt k = some h.t ∧ s.coAt k.co = some h.co ∧ h.co.gangAt k.gang = some h.gang := by
  unfold State.hereAt at e
  cases h1 : s.tileAt k with
  | none => simp [h1] at e
  | some t =>
    cases h2 : s.coAt k.co with
    | none => simp [h1, h2] at e
    | some c =>
      simp [h1, h2] at e
      obtain ⟨g, hg, rfl⟩ := e; exact ⟨rfl, rfl, rfl, hg⟩

theorem State.hereAt_intro {s : State} {k : TileKey} {t : Tile} {c : Company} {g : Gang} (ht : s.tileAt k = some t)
    (hc : s.coAt k.co = some c) (hg : c.gangAt k.gang = some g) : s.hereAt k = some ⟨s, c, g, t⟩ := by
  simp [State.hereAt, ht, hc, hg]

theorem State.here_s {s : State} {h : Here} (e : s.here = some h) : h.s = s := (State.hereAt_parts e).1

theorem State.here_key {s : State} {h : Here} (e : s.here = some h) : h.t.key = s.focus := State.tileAt_key (State.hereAt_parts e).2.1

/-! ### The step of a word -/

/-- A word at the tile in focus goes on to what its result makes of the machine. -/
theorem word_here {s : State} {h : Here} (e : s.here = some h) (f : Here → Res) : word f s = .next (h.finish (f h)) := by
  unfold word; rw [e]

theorem word_noTile {s : State} (e : s.here = none) (f : Here → Res) : word f s = .fault .noTile := by
  unfold word; rw [e]

theorem Here.finish_ok (h : Here) (st : TState) : Host.Outcome.next (h.finish (.ok st)) = h.becomes st := rfl

theorem Here.finish_trap (h : Here) (c : BitVec 8) (i : W64) : Host.Outcome.next (h.finish (.trap c i)) = h.traps c i := rfl

theorem Here.put_tileAt {s : State} {k : TileKey} {h : Here} (e : s.hereAt k = some h) (st : TState) (j : TileKey) :
    (h.put st).tileAt j = if h.t.key = j then some { h.t with st := st } else s.tileAt j := by
  obtain ⟨hs, ht, _, _⟩ := State.hereAt_parts e
  unfold Here.put
  rw [State.tileAt_setTile, hs]
  by_cases hj : h.t.key = j
  · subst hj; have := State.tileAt_key ht; subst this; simp [ht]
  · simp [hj]

/-! ### Results in flight -/


theorem TState.resS_flight (st : TState) (c lat : Nat) (r : Dst) (v : W64) : (st.resS c lat r v).flight =
    st.flight ++ (⟨c + lat, .latS .s r.l v⟩ :: if r.n then [] else [⟨c + lat, .sreg r.d v⟩]) := by
  unfold TState.resS; cases r.n <;> simp

theorem TState.resV_flight (st : TState) (u : Slot) (c lat : Nat) (r : Dst) (v : Vec) (m : W64) : (st.resV u c lat r v m).flight =
    st.flight ++ (⟨c + lat, .latV u r.l v m⟩ :: if r.n then [] else [⟨c + lat, .vreg r.d v m⟩]) := by
  unfold TState.resV; cases r.n <;> simp

theorem TState.resS_only (st : TState) (c lat : Nat) (r : Dst) (v : W64) : st.resS c lat r v = { st with flight :=
    st.flight ++ (⟨c + lat, .latS .s r.l v⟩ :: if r.n then [] else [⟨c + lat, .sreg r.d v⟩]) } := by
  unfold TState.resS TState.fly1; cases r.n <;> simp

theorem TState.resV_only (st : TState) (u : Slot) (c lat : Nat) (r : Dst) (v : Vec) (m : W64) : st.resV u c lat r v m = { st with flight :=
    st.flight ++ (⟨c + lat, .latV u r.l v m⟩ :: if r.n then [] else [⟨c + lat, .vreg r.d v m⟩]) } := by
  unfold TState.resV TState.fly1; cases r.n <;> simp

/-! ### Mailbox words -/

theorem mbInsert_self (l : List (Nat × MbWord)) (w : Nat) (x : MbWord) (hx : x ≠ ⟨0, false⟩) :
    ((mbInsert l w x).find? fun p => p.1 == w) = some (w, x) := by
  replace hx : x ≠ ⟨0#64, false⟩ := hx
  induction l with
  | nil => simp [mbInsert, hx]
  | cons p r ih =>
    unfold mbInsert
    by_cases h1 : w < p.1
    · simp [h1, hx]
    · by_cases h2 : w = p.1
      · simp [h2, hx]
      · have h3 : ¬p.1 = w := fun e => h2 e.symm
        simp [h1, h2, h3, ih]

/-- A word that is written something else than empty zero reads so. -/
theorem State.mb_mbSet_self (s : State) (w : Nat) (x : MbWord) (hx : x ≠ ⟨0, false⟩) : (s.mbSet w x).mb w = x := by
  simp [State.mb, State.mbSet, mbInsert_self _ _ _ hx]

theorem mbInsert_other (l : List (Nat × MbWord)) (w v : Nat) (x : MbWord) (h : v ≠ w) :
    ((mbInsert l w x).find? fun p => p.1 == v) = l.find? fun p => p.1 == v := by
  have hv : ¬w = v := fun e => h e.symm
  induction l with
  | nil => unfold mbInsert; split <;> simp [hv]
  | cons p r ih =>
    unfold mbInsert
    by_cases h1 : w < p.1
    · by_cases hx : x = ⟨0#64, false⟩ <;> simp [h1, hx, hv]
    · by_cases h2 : w = p.1
      · have : ¬p.1 = v := fun e => hv (h2.trans e)
        by_cases hx : x = ⟨0#64, false⟩ <;> simp [h2, hx, this]
      · simp [h1, h2, List.find?_cons, ih]

/-- Every other word reads as before. -/
theorem State.mb_mbSet_other (s : State) (w v : Nat) (x : MbWord) (h : v ≠ w) : (s.mbSet w x).mb v = s.mb v := by
  simp [State.mb, State.mbSet, mbInsert_other _ _ _ _ h]

end Sys2Proof.Machine
end

