-- ==== Sys2Proof/Laws/Tables.lean ====
section
/-! SUPPORT. The tables T, L and H of the special functions are the roundings that 05 R140 states. -/
namespace Sys2Proof.Machine

/-- A rounding to the nearest integer, halves upward, by its two bounds. -/
theorem rounded_of_bounds (n : Nat) (x : ℝ) (h1 : (2 * n : ℝ) - 1 ≤ 2 * x) (h2 : 2 * x < 2 * n + 1) : ((n : ℤ) = ⌊x + 1 / 2⌋) := by
  symm
  rw [Int.floor_eq_iff]
  constructor <;> push_cast <;> linarith

/-- A bound from that of a power. -/
theorem le_of_powers {a b : ℝ} (m : ℕ) (hm : 0 < m) (hb : 0 ≤ b) (h : a ^ m ≤ b ^ m) : a ≤ b :=
  le_of_pow_le_pow_left₀ hm.ne' hb h

theorem lt_of_powers {a b : ℝ} (m : ℕ) (hb : 0 ≤ b) (h : a ^ m < b ^ m) : a < b := lt_of_pow_lt_pow_left₀ m hb h

/-- A function of a number; the kernel reduces the number first. -/
def forced {α : Type} (n : Nat) (f : Nat → α) : α := match n with
  | 0 => f 0
  | k + 1 => f (k + 1)

@[simp] theorem forced_eq {α : Type} (n : Nat) (f : Nat → α) : forced n f = f n := by cases n <;> rfl

/-! ### T -/

/-- The bounds of an entry of T, raised to the power 256. -/
def tableTOk (j : Nat) : Bool :=
  forced (tableT.getD j 0) fun n => decide ((2 * n - 1) ^ 256 ≤ 2 ^ (31 * 256 + j)) && decide (2 ^ (31 * 256 + j) < (2 * n + 1) ^ 256)

theorem tableT_ok : (List.range 256).all tableTOk = true := by decide +kernel

/-- R140: the table T. -/
theorem tableT_rounds (j : Nat) (hj : j < 256) : (tableT.getD j 0 : ℤ) = ⌊2 ^ 30 * (2 : ℝ) ^ ((j : ℝ) / 256) + 1 / 2⌋ := by
  have h := List.all_eq_true.1 tableT_ok j (List.mem_range.2 hj)
  simp only [tableTOk, forced_eq, Bool.and_eq_true, decide_eq_true_eq] at h
  obtain ⟨h1, h2⟩ := h
  generalize tableT.getD j 0 = n at *
  have hx : (2 * (2 ^ 30 * (2 : ℝ) ^ ((j : ℝ) / 256))) ^ 256 = 2 ^ (31 * 256 + j) := by
    rw [← mul_assoc, mul_pow, ← Real.rpow_natCast ((2 : ℝ) ^ ((j : ℝ) / 256)), ← Real.rpow_mul (by norm_num)]
    rw [show ((j : ℝ) / 256 * ((256 : ℕ) : ℝ)) = j by push_cast; ring, Real.rpow_natCast, pow_add, pow_mul]
    norm_num
  have hp : (0 : ℝ) ≤ 2 * (2 ^ 30 * (2 : ℝ) ^ ((j : ℝ) / 256)) := by positivity
  generalize 31 * 256 + j = c at *
  apply rounded_of_bounds
  · by_cases hn : n = 0
    · subst hn; push_cast; linarith
    · have : (2 * (n : ℝ) - 1) = ((2 * n - 1 : ℕ) : ℝ) := by rw [Nat.cast_sub (by omega)]; push_cast; ring
      rw [this]
      have h1' : ((2 * n - 1 : ℕ) : ℝ) ^ 256 ≤ 2 ^ c := by exact_mod_cast h1
      exact le_of_powers 256 (by norm_num) hp (h1'.trans hx.ge)
  · have h2' : (2 : ℝ) ^ c < (2 * n + 1) ^ 256 := by exact_mod_cast h2
    exact lt_of_powers 256 (add_nonneg (mul_nonneg zero_le_two n.cast_nonneg) zero_le_one) (hx.trans_lt h2')

/-! ### H -/

/-- The bounds of an entry of H, squared. -/
def tableHOk (i : Nat) : Bool :=
  forced (tableH.getD i 0) fun n => decide (1 ≤ n) && decide ((2 * n - 1) ^ 2 * (2 ^ (i / 128) * (128 + i % 128)) ≤ 2 ^ 69) &&
    decide (2 ^ 69 < (2 * n + 1) ^ 2 * (2 ^ (i / 128) * (128 + i % 128)))

theorem tableH_ok : (List.range 256).all tableHOk = true := by decide +kernel

/-- R140: the table H. -/
theorem tableH_rounds (h k : Nat) (hh : h < 2) (hk : k < 128) :
    (tableH.getD (128 * h + k) 0 : ℤ) = ⌊2 ^ 30 / √(2 ^ h * ((128 + (k : ℝ)) / 128)) + 1 / 2⌋ := by
  have h0 := List.all_eq_true.1 tableH_ok (128 * h + k) (List.mem_range.2 (by omega))
  simp only [tableHOk, forced_eq, Bool.and_eq_true, decide_eq_true_eq, show (128 * h + k) / 128 = h by omega,
    show (128 * h + k) % 128 = k by omega] at h0
  obtain ⟨⟨hn, h1⟩, h2⟩ := h0
  generalize tableH.getD (128 * h + k) 0 = n at *
  have hd : (0 : ℝ) < 2 ^ h * ((128 + (k : ℝ)) / 128) := by positivity
  have hs := Real.sqrt_pos.2 hd
  have hq := Real.sq_sqrt hd.le
  have h1' : (2 * (n : ℝ) - 1) ^ 2 * (2 ^ h * (128 + k)) ≤ 2 ^ 69 := by
    have : (2 * (n : ℝ) - 1) = ((2 * n - 1 : ℕ) : ℝ) := by rw [Nat.cast_sub (by omega)]; push_cast; ring
    rw [this]; exact_mod_cast h1
  have h2' : (2 : ℝ) ^ 69 < (2 * (n : ℝ) + 1) ^ 2 * (2 ^ h * (128 + k)) := by exact_mod_cast h2
  have hn' : (1 : ℝ) ≤ n := by exact_mod_cast hn
  generalize √(2 ^ h * ((128 + (k : ℝ)) / 128)) = y at *
  have hy : (2 : ℝ) ^ h * (128 + k) = 128 * y ^ 2 := by rw [hq]; ring
  rw [hy] at h1' h2'
  have e : 2 * (2 ^ 30 / y) = 2 ^ 31 / y := by ring
  apply rounded_of_bounds
  · rw [e, le_div_iff₀ hs]
    refine le_of_pow_le_pow_left₀ two_ne_zero (by norm_num) ?_
    nlinarith
  · rw [e, div_lt_iff₀ hs]
    refine lt_of_pow_lt_pow_left₀ 2 (by positivity) ?_
    nlinarith

/-! ### L -/

/-- A bound `a` · 2^`e`, `a` of 96 bits, squared `n` times, each time cut to 96 bits: down where `u` is 0, up where it is 1. -/
def squares (u : Nat) : Nat → Nat → Nat → Nat × Nat
  | 0, a, e => (a, e)
  | n + 1, a, e => forced (a * a) fun b => forced (bif Nat.ble (2 ^ 191) b then 96 else 95) fun s => forced (b / 2 ^ s + u) fun a => forced (2 * e + s) fun e =>
      squares u n a e

theorem squares_low (n : Nat) : ∀ a e v : Nat, a * 2 ^ e ≤ v → (squares 0 n a e).1 * 2 ^ (squares 0 n a e).2 ≤ v ^ 2 ^ n := by
  induction n with
  | zero => intro a e v h; simpa [squares] using h
  | succ n ih =>
    intro a e v h
    simp only [squares, forced_eq, Nat.add_zero]
    generalize (bif Nat.ble (2 ^ 191) (a * a) then 96 else 95) = s
    rw [pow_succ', pow_mul]
    refine ih _ _ _ ?_
    calc a * a / 2 ^ s * 2 ^ (2 * e + s) = (a * a / 2 ^ s * 2 ^ s) * (2 ^ e) ^ 2 := by rw [pow_add, ← pow_mul, mul_comm e 2]; ring
      _ ≤ a * a * (2 ^ e) ^ 2 := Nat.mul_le_mul_right _ (Nat.div_mul_le_self _ _)
      _ = (a * 2 ^ e) ^ 2 := by ring
      _ ≤ v ^ 2 := Nat.pow_le_pow_left h 2

theorem squares_high (n : Nat) : ∀ a e v : Nat, v ≤ a * 2 ^ e → v ^ 2 ^ n ≤ (squares 1 n a e).1 * 2 ^ (squares 1 n a e).2 := by
  induction n with
  | zero => intro a e v h; simpa [squares] using h
  | succ n ih =>
    intro a e v h
    simp only [squares, forced_eq]
    generalize (bif Nat.ble (2 ^ 191) (a * a) then 96 else 95) = s
    rw [pow_succ', pow_mul]
    refine ih _ _ _ ?_
    have up : a * a ≤ (a * a / 2 ^ s + 1) * 2 ^ s := by
      rw [mul_comm _ (2 ^ s)]
      exact (Nat.lt_mul_div_succ (a * a) (Nat.two_pow_pos s)).le
    calc v ^ 2 ≤ (a * 2 ^ e) ^ 2 := Nat.pow_le_pow_left h 2
      _ = a * a * (2 ^ e) ^ 2 := by ring
      _ ≤ ((a * a / 2 ^ s + 1) * 2 ^ s) * (2 ^ e) ^ 2 := Nat.mul_le_mul_right _ up
      _ = (a * a / 2 ^ s + 1) * 2 ^ (2 * e + s) := by rw [pow_add 2 (2 * e), ← pow_mul, mul_comm e 2]; ring

/-- The bounds of an entry of L: (2^87 · (256 + j))^(2^31) between 2^(95 · 2^31 + 2L − 1) and 2^(95 · 2^31 + 2L + 1). -/
def tableLOk (j : Nat) : Bool :=
  forced (tableL.getD j 0) fun n =>
    forced (2 ^ 87 * (256 + j)) fun v =>
    let lo := squares 0 31 v 0
    let hi := squares 1 31 v 0
    decide (lo.2 ≤ 204010946560 + 2 * n - 1) && decide (2 ^ (204010946560 + 2 * n - 1 - lo.2) ≤ lo.1) &&
      decide (hi.2 ≤ 204010946560 + 2 * n + 1) && decide (hi.1 < 2 ^ (204010946560 + 2 * n + 1 - hi.2))

theorem tableL_ok : (List.range 256).all tableLOk = true := by decide +kernel

/-- Bounds of a base-2 logarithm from bounds of a power. -/
theorem logb_bounds {v k m : Nat} (hv : 0 < v) :
    (2 ^ m ≤ v ^ k → (m : ℝ) ≤ k * Real.logb 2 v) ∧ (v ^ k < 2 ^ m → k * Real.logb 2 v < (m : ℝ)) := by
  have hv' : (0 : ℝ) < v := by exact_mod_cast hv
  have e : (k : ℝ) * Real.logb 2 v = Real.logb 2 ((v : ℝ) ^ k) := by rw [Real.logb_pow]
  have e2 : (m : ℝ) = Real.logb 2 ((2 : ℝ) ^ m) := by rw [Real.logb_pow, Real.logb_self_eq_one (by norm_num), mul_one]
  constructor <;> intro h
  · rw [e, e2]
    exact Real.logb_le_logb_of_le (by norm_num) (by positivity) (by exact_mod_cast h)
  · rw [e, e2]
    exact Real.logb_lt_logb (by norm_num) (by positivity) (by exact_mod_cast h)

/-- R140: the table L. -/
theorem tableL_rounds (j : Nat) (hj : j < 256) : (tableL.getD j 0 : ℤ) = ⌊2 ^ 30 * Real.logb 2 (1 + (j : ℝ) / 256) + 1 / 2⌋ := by
  have h := List.all_eq_true.1 tableL_ok j (List.mem_range.2 hj)
  simp only [tableLOk, forced_eq, Bool.and_eq_true, decide_eq_true_eq] at h
  obtain ⟨⟨⟨a, b⟩, c⟩, d⟩ := h
  have lo := squares_low 31 (2 ^ 87 * (256 + j)) 0 (2 ^ 87 * (256 + j)) (by simp)
  have hi := squares_high 31 (2 ^ 87 * (256 + j)) 0 (2 ^ 87 * (256 + j)) (by simp)
  generalize squares 0 31 (2 ^ 87 * (256 + j)) 0 = x at *
  generalize squares 1 31 (2 ^ 87 * (256 + j)) 0 = y at *
  generalize tableL.getD j 0 = n at *
  have hk : (2 : ℝ) ^ 31 = ((2 ^ 31 : ℕ) : ℝ) := by push_cast; norm_num
  have hc : ((204010946560 : ℕ) : ℝ) = 2 ^ 31 * 95 := by norm_num
  have e : Real.logb 2 (1 + (j : ℝ) / 256) = Real.logb 2 ((2 ^ 87 * (256 + j) : ℕ) : ℝ) - 95 := by
    have : (1 + (j : ℝ) / 256) = ((2 ^ 87 * (256 + j) : ℕ) : ℝ) / 2 ^ 95 := by push_cast; ring
    rw [this, Real.logb_div (by positivity) (by positivity), Real.logb_pow, Real.logb_self_eq_one (by norm_num)]
    norm_num
  have hv : 0 < 2 ^ 87 * (256 + j) := by positivity
  generalize 2 ^ 87 * (256 + j) = v at *
  obtain ⟨p, hp⟩ : ∃ p : ℕ, p = 2 ^ 31 := ⟨_, rfl⟩
  rw [← hp] at lo hi hk
  obtain ⟨q, hq⟩ : ∃ q : ℕ, q = 204010946560 := ⟨_, rfl⟩
  rw [← hq] at a b c d hc
  have hq1 : 1 ≤ q := by omega
  clear hp hq
  have l1 : (2 : ℕ) ^ (q + 2 * n - 1) ≤ v ^ p := by
    calc 2 ^ (q + 2 * n - 1) = 2 ^ (q + 2 * n - 1 - x.2) * 2 ^ x.2 := by rw [← pow_add]; congr 1; omega
      _ ≤ x.1 * 2 ^ x.2 := Nat.mul_le_mul_right _ b
      _ ≤ _ := lo
  have l2 : v ^ p < (2 : ℕ) ^ (q + 2 * n + 1) := by
    calc v ^ p ≤ y.1 * 2 ^ y.2 := hi
      _ < 2 ^ (q + 2 * n + 1 - y.2) * 2 ^ y.2 := Nat.mul_lt_mul_of_pos_right d (by positivity)
      _ = 2 ^ (q + 2 * n + 1) := by rw [← pow_add]; congr 1; omega
  have r1 := (logb_bounds hv).1 l1
  have r2 := (logb_bounds hv).2 l2
  rw [Nat.cast_sub (by omega)] at r1
  push_cast at r1 r2 hc
  rw [e]
  generalize Real.logb 2 (v : ℝ) = z at *
  apply rounded_of_bounds <;> nlinarith
end Sys2Proof.Machine
end

