-- ==== Sys2Proof/Tests/Slice0.lean ====
section
/-! SUPPORT. Tests: ill-formed words refused, words written out from the encoding tables decoded, single steps whose results were worked
out by hand from the rules. -/
open Sys2Proof Sys2Proof.Machine

/-! ### Ill-formed words, one for each check (03 R75, R77; 04 R95; 05 R129; 06 R158; 07 R175, R176, R180, R182) -/

/-- A guard that could never pass. -/
theorem test_wf_guard : (Instr.brp ⟨0, true⟩ 3).wf = false ∧ (Instr.call ⟨0, true⟩ 3).wf = false ∧ (Instr.ret ⟨0, true⟩).wf = false ∧
    (Instr.flyRd ⟨0, true⟩ 1).wf = false ∧ (Instr.ownq 0 ⟨0, true⟩ 1).wf = false ∧ (Instr.chorusBar ⟨0, true⟩ 1 .gang).wf = false ∧
    (Instr.mbget 0 ⟨0, true⟩ 1).wf = false ∧ (Instr.wheelCas 0 ⟨0, true⟩ 1).wf = false ∧ (Instr.xfill ⟨0, true⟩ 1).wf = false := by decide

/-- A count, a wait and a skip of zero; a signal of a flag below e10. -/
theorem test_wf_control : (Instr.loop 0 0 5).wf = false ∧ (Instr.waitrel 0).wf = false ∧ (Instr.skipm 0).wf = false ∧
    (Instr.signal 9).wf = false ∧ (Instr.signal 10).wf = true := by decide

/-- Indices past RDID's six and between RDCFG's ranges. -/
theorem test_wf_index : (Instr.rdid ⟨false, 0, 1⟩ 7).wf = false ∧ (Instr.rdcfg ⟨false, 0, 1⟩ 0x17).wf = false ∧
    (Instr.rdcfg ⟨false, 0, 1⟩ 0x27).wf = false ∧ (Instr.rdcfg ⟨false, 0, 1⟩ 0x38).wf = false ∧ (Instr.rdcfg ⟨false, 0, 1⟩ 0x61).wf = false := by
  decide

/-- A conversion from a format to itself; blocks off a group of four. -/
theorem test_wf_vector : (Instr.vcvt ⟨false, 0, 1⟩ (.reg 2) .bf16 .bf16 .rne).wf = false ∧
    (Instr.vqblk ⟨false, 0, 5⟩ (.reg 8) .w8 .rne).wf = false ∧ (Instr.vdqblk ⟨false, 0, 4⟩ (.reg 9) .w8 .rne).wf = false ∧
    (Instr.vqblk ⟨false, 0, 4⟩ (.own 0) .w8 .rne).wf = false := by decide

/-- Two planes of width 16, a step past 6 or off width 8, a shift of 0 or 32, synthesised passes on planes of width 4 or 6. -/
theorem test_wf_matrix : (Instr.mpush 0 0 (.reg 1) .w16 .w16 false 0).wf = false ∧ (Instr.mpush 0 0 (.reg 1) .w8 .w8 false 7).wf = false ∧
    (Instr.mpush 0 0 (.reg 1) .w8 .w4 false 1).wf = false ∧ (Instr.mshift 0).wf = false ∧ (Instr.mshift 32).wf = false ∧
    (Instr.mmode true false .w6).wf = false := by decide

/-- A staging group past k31, owner codes outside 1 to 4, a site past S. -/
theorem test_wf_engine : (Instr.acopy2d ⟨0, false⟩ 7 .tile).wf = false ∧ (Instr.give ⟨0, false⟩ 0 0).wf = false ∧
    (Instr.give ⟨0, false⟩ 0 5).wf = false ∧ (Instr.siteq 0 ⟨0, false⟩ 17).wf = false := by decide

/-- The words of ill-formed terms are refused by the decoder: LOOP with X zero, SIGNAL of e9, VCVT BF16 to BF16, GIVE to owner 5, a
guard that never passes, a selector of 0x30, a register of 0x20, a direction of 4 (03 R77, R87). -/
theorem test_decode_refuses : decode .c (0x0c * 2 ^ 25 + 5) = none ∧ decode .c (0x1e * 2 ^ 25 + 9 * 2 ^ 21) = none ∧
    decode .va (0x0a * 2 ^ 25 + 1 * 2 ^ 16 + 2 * 2 ^ 10 + 1 * 2 ^ 7 + 1 * 2 ^ 4) = none ∧ decode .xa (0x10 * 2 ^ 25 + 5 * 2 ^ 4) = none ∧
    decode .c (0x05 * 2 ^ 25 + 1 * 2 ^ 21) = none ∧ decode .s (0x01 * 2 ^ 25 + 0x30 * 2 ^ 10) = none ∧
    decode .s (0x01 * 2 ^ 25 + 0x20 * 2 ^ 16) = none ∧ decode .f (0x01 * 2 ^ 25 + 4 * 2 ^ 7) = none := by decide

/-! ### Words written out field by field from R72 and R82 to R87 -/

/-- Control words: NOP, HALT, TRAP 0x1234, BR 7, CALL on not p2 to 0x40, LOOP l1 of 100 to 9, LOOPS l2 by s3 to 9, WAITCUE of s.b1, WAITE e4. -/
theorem test_decode_control : decode .c 0 = some .nop ∧ decode .c (0x01 * 2 ^ 25) = some .halt ∧
    decode .c (0x02 * 2 ^ 25 + 0x1234) = some (.trap 0x1234) ∧ decode .c (0x04 * 2 ^ 25 + 7) = some (.br 7) ∧
    decode .c (0x07 * 2 ^ 25 + 2 * 2 ^ 22 + 1 * 2 ^ 21 + 0x40) = some (.call ⟨2, true⟩ 0x40) ∧
    decode .c (0x0c * 2 ^ 25 + 1 * 2 ^ 23 + 100 * 2 ^ 11 + 9) = some (.loop 1 100 9) ∧
    decode .c (0x0d * 2 ^ 25 + 2 * 2 ^ 23 + 3 * 2 ^ 11 + 9) = some (.loops 2 3 9) ∧
    decode .c (0x10 * 2 ^ 25 + 0x25 * 2 ^ 16) = some (.waitcue (.partner 1)) ∧
    decode .c (0x14 * 2 ^ 25 + 4 * 2 ^ 21 + 16) = some (.waite 4 16) := by decide

/-- Scalar words: ADD s5 of s6 and f.b0 with N and L 3, CMP.GE into p6, BFI, SHLI by 63, LIH, LD.16 at s9 less one, ST.64 of b2 through a7. -/
theorem test_decode_scalar :
    decode .s (0x01 * 2 ^ 25 + 1 * 2 ^ 24 + 3 * 2 ^ 22 + 5 * 2 ^ 16 + 6 * 2 ^ 10 + 0x2e * 2 ^ 4 + 0) = some (.add ⟨true, 3, 5⟩ (.reg 6) (.cross 2)) ∧
    decode .s (0x03 * 2 ^ 25 + 6 * 2 ^ 16 + 1 * 2 ^ 10 + 2 * 2 ^ 4 + 4) = some (.cmpGe false 0 6 (.reg 1) (.reg 2)) ∧
    decode .s (0x05 * 2 ^ 25 + 7 * 2 ^ 16 + 1 * 2 ^ 10 + 2 * 2 ^ 4 + 1) = some (.bfi ⟨false, 0, 7⟩ (.reg 1) (.reg 2)) ∧
    decode .s (0x0c * 2 ^ 25 + 7 * 2 ^ 16 + 63) = some (.shli ⟨false, 0, 7⟩ 63) ∧
    decode .s (0x10 * 2 ^ 25 + 7 * 2 ^ 16 + 0xbeef) = some (.lih ⟨false, 0, 7⟩ 0xbeef) ∧
    decode .s (0x19 * 2 ^ 25 + 7 * 2 ^ 16 + 9 * 2 ^ 10 + 0x3ff) = some (.ld16 ⟨false, 0, 7⟩ 9 0x3ff) ∧
    decode .s (0x1f * 2 ^ 25 + 0x22 * 2 ^ 16 + 1 * 2 ^ 15 + 7 * 2 ^ 12) = some (.st64Stream (.own 2) 7) := by decide

/-- Vector words, alike in both slots: VFMA with SR, VCMP.FLT, VCVT E4M3 to n32 toward zero, VMXQ to MXFP4, VREDADD of FP32, VST, VSTX. -/
theorem test_decode_vector : ∀ u ∈ [Slot.va, .vb],
    decode u (0x08 * 2 ^ 25 + 2 * 2 ^ 22 + 5 * 2 ^ 16 + 7 * 2 ^ 10 + 0x29 * 2 ^ 4 + 4) = some (.vfma ⟨false, 2, 5⟩ (.reg 7) .lane .sr) ∧
    decode u (0x02 * 2 ^ 25 + 3 * 2 ^ 10 + 4 * 2 ^ 4 + 10) = some (.vcmpFlt (.reg 3) (.reg 4)) ∧
    decode u (0x0a * 2 ^ 25 + 1 * 2 ^ 16 + 2 * 2 ^ 10 + 3 * 2 ^ 7 + 6 * 2 ^ 4 + 1) = some (.vcvt ⟨false, 0, 1⟩ (.reg 2) .e4m3 .n32 .rz) ∧
    decode u (0x0d * 2 ^ 25 + 1 * 2 ^ 16 + 2 * 2 ^ 10 + 5 * 2 ^ 7) = some (.vmxq ⟨false, 0, 1⟩ (.reg 2) .e2m1 .rne) ∧
    decode u (0x11 * 2 ^ 25 + 1 * 2 ^ 16 + 2 * 2 ^ 10 + 2 * 2 ^ 2 + 0) = some (.vredadd ⟨false, 0, 1⟩ (.reg 2) .fp32) ∧
    decode u (0x19 * 2 ^ 25 + 0x23 * 2 ^ 16 + 4 * 2 ^ 10 + 1) = some (.vst (.own 3) 4 1) ∧
    decode u (0x1b * 2 ^ 25 + 31 * 2 ^ 16 + 4 * 2 ^ 10 + 5 * 2 ^ 4) = some (.vstx (.reg 31) (.reg 4) (.reg 5)) := by decide

/-- Matrix words: MPUSH of set 1, row 17, widths 16 and 8, sparse; MACC that folds; MDRAIN of set 1, row 3 to BF16; MMODE; MLOADB.S. -/
theorem test_decode_matrix :
    decode .m (0x03 * 2 ^ 25 + 1 * 2 ^ 21 + 17 * 2 ^ 16 + 6 * 2 ^ 10 + 3 * 2 ^ 8 + 2 * 2 ^ 6 + 8) =
      some (.mpush 1 17 (.reg 6) .w16 .w8 true 0) ∧
    decode .m (0x05 * 2 ^ 25 + 0 * 2 ^ 21 + 31 * 2 ^ 16 + 1) = some (.macc 0 31) ∧
    decode .m (0x05 * 2 ^ 25 + 1 * 2 ^ 21 + 31 * 2 ^ 16) = some (.maccDrop 1 31) ∧
    decode .m (0x08 * 2 ^ 25 + 2 * 2 ^ 22 + 9 * 2 ^ 16 + 1 * 2 ^ 15 + 3 * 2 ^ 10 + 1) = some (.mdrain ⟨false, 2, 9⟩ 1 3 .bf16) ∧
    decode .m (0x09 * 2 ^ 25 + 8 + 4 + 2) = some (.mmode true true .w8) ∧
    decode .m (0x02 * 2 ^ 25 + 31 * 2 ^ 16 + 0x24 * 2 ^ 10) = some (.mloadbS 31 (.partner 0)) := by decide

/-- Engine words, alike in both slots: FLY.RD, ACOPY.2D of deck scope, XCOPY rounding up, GIVE to the wheel, WHEEL.CAS, CHORUS.AR, SITEQ S. -/
theorem test_decode_engine : ∀ u ∈ [Slot.xa, .xb],
    decode u (0x01 * 2 ^ 25 + 2 * 2 ^ 15) = some (.flyRd ⟨0, false⟩ 2) ∧
    decode u (0x0a * 2 ^ 25 + 3 * 2 ^ 19 + 1 * 2 ^ 18 + 6 * 2 ^ 15 + 4 * 2 ^ 12) = some (.acopy2d ⟨3, true⟩ 6 .deck) ∧
    decode u (0x0c * 2 ^ 25 + 1 * 2 ^ 15 + 2) = some (.xcopy ⟨0, false⟩ 1 .ru) ∧
    decode u (0x10 * 2 ^ 25 + 4 * 2 ^ 4) = some (.give ⟨0, false⟩ 0 4) ∧
    decode u (0x18 * 2 ^ 25 + 3 * 2 ^ 22 + 1 * 2 ^ 15) = some (.wheelCas 3 ⟨0, false⟩ 1) ∧
    decode u (0x20 * 2 ^ 25 + 1 * 2 ^ 15 + 3 * 2 ^ 12 + 3) = some (.chorusAr ⟨0, false⟩ 1 .company .bf16) ∧
    decode u (0x2c * 2 ^ 25 + 1 * 2 ^ 22 + 16 * 2 ^ 4) = some (.siteq 1 ⟨0, false⟩ 16) := by decide

/-- Fabric and cast words: HOP west of a vector, a pass from south to north, XSEND on channel 5, RECV into v3, BANDQ, CAST.TOPK of both kinds. -/
theorem test_decode_fabric :
    decode .f (0x01 * 2 ^ 25 + 5 * 2 ^ 10 + 3 * 2 ^ 7 + 1 * 2 ^ 6) = some (.hop (.reg 5) .w true) ∧
    decode .f (0x01 * 2 ^ 25 + 0 * 2 ^ 7 + 8 + 2) = some (.hopPass .n false .s) ∧
    decode .f (0x03 * 2 ^ 25 + 5 * 2 ^ 10 + 1 * 2 ^ 7 + 5) = some (.xsend (.reg 5) .e false 5) ∧
    decode .f (0x02 * 2 ^ 25 + 1 * 2 ^ 22 + 3 * 2 ^ 16 + 2 * 2 ^ 7 + 1 * 2 ^ 6) = some (.recv ⟨false, 1, 3⟩ .s true) ∧
    decode .f (0x05 * 2 ^ 25 + 3 * 2 ^ 16 + 4 * 2 ^ 10) = some (.bandq ⟨false, 0, 3⟩ (.reg 4)) ∧
    decode .f (0x14 * 2 ^ 25 + 4 * 2 ^ 10 + 5 * 2 ^ 4) = some (.castTopkK (.reg 4) (.reg 5)) ∧
    decode .f (0x14 * 2 ^ 25 + 4 * 2 ^ 10 + 5 * 2 ^ 4 + 1) = some (.castTopkP (.reg 4) (.reg 5)) := by decide

/-- A word of the opcode table is read in the slot its row names (log 7); more than 32 bits are no slot word. -/
theorem test_decodeTableWord : decodeTableWord 32 (0x18 * 2 ^ 25 + 1 * 2 ^ 16 + 2 * 2 ^ 10 + 4) = some (.ld8 ⟨false, 0, 1⟩ 2 4) ∧
    decodeTableWord 40 0 = none ∧ decodeTableWord 32 (2 ^ 32) = none := by decide

/-! ### The spec's own encoded words (03, worked encoding; 04, 05, 06, encoded examples) -/

/-- The words of the worked bundle. -/
theorem test_worked_bundle : decode .c 0x1800801f = some (.loop 0 16 0x1f) ∧ decode .s 0x10040040 = some (.addi ⟨false, 0, 4⟩ 64) ∧
    decode .va 0x30028000 = some (.vldStream ⟨false, 0, 2⟩ 0) ∧ decode .m 0x06030a80 = some (.mpush 0 3 (.reg 2) .w8 .w8 false 0) ∧
    decode .xa 0x02010000 = some (.flyRd ⟨0, false⟩ 2) ∧ decode .xb 0 = some .nop := by decide

/-- The verdicts of the loader. -/
theorem test_loader_verdicts : decode .s 0x03431080 = some (.add ⟨true, 1, 3⟩ (.reg 4) (.reg 8)) ∧ decode .s 0x02200000 = none ∧
    decode .s 0x0200000e = none ∧ decode .va 0x14010b80 = none ∧ decode .c 0x22000000 = none ∧
    decode .xb 0x16144000 = some (.qmark ⟨2, true⟩ .deck) ∧ (∀ u ∈ slots, decode u 1 = none) := by decide

/-- Encoded examples of the vector and the matrix chapters. -/
theorem test_encoded_examples : decode .va 0x10070c40 = some (.vfma ⟨false, 0, 7⟩ (.reg 3) (.reg 4) .rne) ∧
    decode .vb 0x14450814 = some (.vcvt ⟨false, 1, 5⟩ (.reg 2) .fp32 .bf16 .sr) ∧ decode .va 0x0400046a = some (.vcmpFlt (.reg 1) (.reg 6)) ∧
    decode .vb 0x22090808 = some (.vredadd ⟨false, 0, 9⟩ (.reg 2) .fp32) ∧ decode .va 0x16080200 = some (.vqblk ⟨false, 0, 8⟩ (.reg 0) .w8 .rne) ∧
    decode .va 0x30040c02 = some (.vld ⟨false, 0, 4⟩ 3 2) ∧ decode .m 0x06000e81 = some (.mpush 0 0 (.reg 3) .w8 .w8 false 1) ∧
    decode .m 0x06299408 = some (.mpush 1 9 (.partner 1) .w4 .w4 true 0) ∧ decode .m 0x08000030 = some (.mshift 3) ∧
    decode .m 0x0a3f0000 = some (.maccDrop 1 31) ∧ decode .m 0x0e200000 = some (.mzero 1) ∧
    decode .m 0x10040000 = some (.mdrain ⟨false, 0, 4⟩ 0 0 .fp32) ∧ decode .m 0x16858000 = some (.mflags ⟨false, 2, 5⟩ 1) ∧
    decode .m 0x1200000b = some (.mmode true false .w16) ∧ decode .m 0x0200b000 = some (.mloadbW (.cross 0)) := by decide

/-! ### Numbers: the worked examples of 02, 05, 08, 10, 12 -/

/-- Rows 1 to 5 of the conversion examples of 02: ties of BF16, stochastic rounding with its two integers, saturation of E4M3. -/
theorem test_convert_narrow : cvtWrite false .bf16 .rne 0 (cvtRead false .fp32 0x3f808000) = 0x3f80 ∧
    cvtWrite false .bf16 .rne 0 (cvtRead false .fp32 0x3f818000) = 0x3f82 ∧
    cvtWrite false .bf16 .sr 0xd12345 (cvtRead false .fp32 0x3f804000) = 0x3f81 ∧
    cvtWrite false .bf16 .sr 0x123456 (cvtRead false .fp32 0x3f804000) = 0x3f80 ∧
    cvtWrite false .e4m3 .rne 0 (cvtRead false .fp32 0x43fa0000) = 0x7e ∧
    cvtWrite false .e4m3 .rz 0 (cvtRead false .fp32 0xff800000) = 0xfe := by decide +kernel

/-- Rows 6 to 9: subnormals with and without FTZ, −2.5 to an integer; of R136: −5 to n32, 0x80000000 read as n32 to i32, 100,000 to FP16. -/
theorem test_convert_corners : cvtWrite false .e5m2 .rne 0 (cvtRead false .fp32 0x37c00000) = 2 ∧
    cvtWrite true .e5m2 .rne 0 (cvtRead true .fp32 0x37c00000) = 2 ∧ cvtWrite false .fp16 .rne 0 (cvtRead false .e5m2 1) = 0x100 ∧
    cvtWrite true .fp16 .rne 0 (cvtRead true .e5m2 1) = 0 ∧ cvtWrite false .i32 .rne 0 (cvtRead false .fp32 0xc0200000) = -2 ∧
    cvtWrite false .i32 .rd 0 (cvtRead false .fp32 0xc0200000) = -3 ∧ cvtWrite false .i32 .rz 0 (cvtRead false .fp32 0xc0200000) = -2 ∧
    cvtWrite false .n32 .rne 0 (cvtRead false .i32 (-5)) = 0 ∧ cvtWrite false .i32 .rne 0 (cvtRead false .n32 0x80000000) = 0x7fffffff ∧
    cvtWrite false .fp16 .rne 0 (cvtRead false .i32 100000) = 0x7c00 ∧ cvtWrite false .fp16 .rz 0 (cvtRead false .i32 100000) = 0x7bff := by
  decide +kernel

/-- The worked block of 02: scale 122, sub-shifts 0 and 3, mantissas 96, −36, 32 and, at element 32, 77. -/
theorem test_block : let b := encodeBlock (((List.range 256).map fun i => if i = 0 then 0x40400000 else if i = 1 then 0xbf900000
      else if i = 2 then 0x3f820000 else if i = 32 then 0x3e99999a else 0).map (fpDecode fp32)) 8 .rne fun _ => 0
    b.e = 122 ∧ b.sh = [0, 3, 3, 3, 3, 3, 3, 3] ∧ b.m.getD 0 0 = 96 ∧ b.m.getD 1 0 = -36 ∧ b.m.getD 2 0 = 32 ∧ b.m.getD 32 0 = 77 := by
  decide +kernel

/-- The worked folds of 02. -/
theorem test_fold : foldAcc ⟨0x200000000001, 0⟩ (0x300000000001, -1) = ⟨0x380000000001, 0⟩ ∧
    foldAcc ⟨0x200000000001, 0⟩ (0x300000000003, -1) = ⟨0x380000000003, 0⟩ ∧
    foldAcc ⟨0x300000000001, 0⟩ (0x200000000000, 0) = ⟨0x280000000000, 1⟩ := by decide +kernel

/-- The worked special functions of 05: VEXP2 of 0.5, VRCP of 3. -/
theorem test_special : fpEncode fp32 .rne false 0 (vexp2 (fpDecode fp32 0x3f000000)) = 0x3fb504f3 ∧
    fpEncode fp32 .rne false 0 (vrcp (fpDecode fp32 0x40400000)) = 0x3eaaaaab := by decide +kernel

/-- The weights of the worked cast of 08, and their sum. -/
theorem test_cast_weights : castWeight 0 = 4294967295 ∧ castWeight 0xbeb17218 = 3037000500 ∧ castWeight 0xbf317218 = 2147483648 ∧
    castWeight 0xbfb17218 = 1073741824 ∧ castWeight 0xff800000 = 0 ∧
    sumWeights [(4294967295, 10), (3037000500, 11), (2147483648, 12), (1073741824, 13)] = 10553193267 := by decide +kernel

/-- The worked defect map of 12: retired column, retired row. -/
theorem test_defect_map : let d : Vector Byte 16 := ((Vector.replicate 16 (0x1f : Byte)).set 3 0x09).set 7 0x80
    physRow d 3 = 3 ∧ physCol d 3 8 = 8 ∧ physCol d 3 9 = 10 ∧ physCol d 3 15 = 16 ∧ physRow d 6 = 6 ∧ physRow d 7 = 8 ∧
    physRow d 14 = 15 := by decide

/-- A table entry's fields (10 R273): the leaf, the read-only leaf, the migrating leaf and the misaligned one of the worked walk. -/
theorem test_pte : (pteOf 0x080123400007).pa = 0x080123400000 ∧ (pteOf 0x080123400007).malformed false 2 21 = false ∧
    (pteOf 0x080123400003).w = false ∧ (pteOf 0x08012340000f).mig = true ∧ (pteOf 0x080123410007).malformed false 2 21 = true := by decide

/-- The indices of the worked walk (10 R273). -/
theorem test_walk : walkLevels.map (fun x => 0x8040603000 / 2 ^ x.2 % 512) = [1, 1, 3, 3] := by decide

/-- Deck memory with the tables of the worked walk, its leaf given; site M0 in service. -/
def walkState (leaf : Nat) : State :=
  { State.reset.setSite 8 (fun x => { x with state := .admitted }) with
    mem := memPutAll [] (cellsAt 0x080000001008 (leBytes 8 0x080000002001) ++ cellsAt 0x080000002008 (leBytes 8 0x080000003001) ++
      cellsAt 0x080000003018 (leBytes 8 leaf)) }

/-- The worked walk of 10: the write lands in M0; a read-only, a migrating and a misaligned leaf fault (R273). -/
theorem test_walk_write : ((walkState 0x080123400007).walk 0x080000001000 false true 0x8040603000).1 = .ok 0 0x080123403000 ∧
    ((walkState 0x080123400003).walk 0x080000001000 false true 0x8040603000).1 = .fault 4 ∧
    ((walkState 0x08012340000f).walk 0x080000001000 false true 0x8040603000).1 = .fault 3 ∧
    ((walkState 0x080123410007).walk 0x080000001000 false true 0x8040603000).1 = .fault 2 := by decide +kernel

/-! ### Single steps of one tile -/

/-- A machine with one tile about to issue, its tile, company and the rest changed. -/
def probeOf (ft : Tile → Tile) (fc : Company → Company) (fs : State → State) : State :=
  let s := State.reset.withBundle 0
  fs { s with tiles := s.tiles.map ft, companies := s.companies.map fc }

/-- The same with the tile's registers changed. -/
def probeSt (f : TState → TState) : State := probeOf (fun t => { t with st := f t.st }) id id

/-- The registers of the tile in focus after a step has answered. -/
def afterOf (o : Host.Outcome State Fault Refusal) : Option TState :=
  match o with
  | .next s => s.here.map fun h => h.st
  | _ => none

/-- The trap state of the tile in focus after a step has answered. -/
def trapOf (o : Host.Outcome State Fault Refusal) : Option TrapState :=
  match o with
  | .next s => s.here.map fun h => h.t.trap
  | _ => none

/-- A tile with two scalar registers set. -/
def regs2 (a b : W64) (st : TState) : TState := { st with s := (st.s.set 1 a).set 2 b }

/-- What flies after a scalar word with destination s3: the values of its latch and its register. -/
def flies3 (i : Instr) (a b : W64) : Option (List Flight) := (afterOf (exec i (probeSt (regs2 a b)))).map fun st => st.flight

/-- ADD wraps at 2^64 and lands one cycle on (04 R119). -/
theorem test_add : flies3 (.add ⟨false, 2, 3⟩ (.reg 1) (.reg 2)) 0xffffffffffffffff 3 = some [⟨1, .latS .s 2 2⟩, ⟨1, .sreg 3 2⟩] := by
  decide +kernel

/-- SHA keeps the sign; N suppresses the register (04 R119, 03 R73). -/
theorem test_sha : flies3 (.sha ⟨true, 2, 3⟩ (.reg 1) (.reg 2)) 0x8000000000000000 63 = some [⟨1, .latS .s 2 0xffffffffffffffff⟩] := by
  decide +kernel

/-- DIV truncates toward zero and lands after 34 cycles; DIV by zero gives all ones, REM by zero the dividend (04 R120). -/
theorem test_div : flies3 (.div ⟨false, 0, 3⟩ (.reg 1) (.reg 2)) (-7) 2 = some [⟨34, .latS .s 0 (-3)⟩, ⟨34, .sreg 3 (-3)⟩] ∧
    flies3 (.div ⟨true, 0, 3⟩ (.reg 1) (.reg 2)) 5 0 = some [⟨34, .latS .s 0 0xffffffffffffffff⟩] ∧
    flies3 (.rem ⟨true, 0, 3⟩ (.reg 1) (.reg 2)) 5 0 = some [⟨34, .latS .s 0 5⟩] := by decide +kernel

/-- BFX of eight bits at place 4: b = 0x0704 (04 R122). -/
theorem test_bfx : flies3 (.bfx ⟨true, 0, 3⟩ (.reg 1) (.reg 2)) 0xabcd 0x0704 = some [⟨1, .latS .s 0 0xbc⟩] := by decide +kernel

/-- A load off its width raises BOUNDS with the address; one of a unit of the fly engine raises OWNER with owner and unit (04 R123, R116). -/
theorem test_load_traps : trapOf (exec (.ld32 ⟨false, 0, 3⟩ 1 0) (probeSt (regs2 0x40002 0))) = some ⟨0x03, 0, 0x40002, 0⟩ ∧
    trapOf (exec (.ld32 ⟨false, 0, 3⟩ 1 0) (probeSt fun st => { regs2 0x40000 0 st with own := st.own.set 0x40 1 })) =
      some ⟨0x02, 0, 0x140, 0⟩ := by decide +kernel

/-- TRAP 0x1234 raises USER with its code (04 R115). -/
theorem test_trap : trapOf (exec (.trap 0x1234) (probeSt id)) = some ⟨0x09, 0, 0x1234, 0⟩ := by decide +kernel

/-- LOOP activates nothing before the bundle ends; the step after it leaves the level innermost, START after the word (04 R97). -/
theorem test_loop : (afterOf (exec (.sequencerIssue (State.probeKey .reset)) (probeOf (fun t => { t with
      imem := #v[[BitVec.ofNat 256 (0x0c * 2 ^ 25 + 1 * 2 ^ 23 + 5 * 2 ^ 11 + 1), 0], []] }) id id))).map
        (fun st => (st.pc, st.nest, (st.loops[(1 : Fin 4)]).count, (st.loops[(1 : Fin 4)]).start, (st.loops[(1 : Fin 4)]).stop)) =
      some (1, [1], 4, 1, 1) := by decide +kernel

/-- VADD adds lane by lane and lands two cycles on (05 R130). -/
theorem test_vadd : (afterOf (exec (.vadd ⟨true, 1, 3⟩ (.reg 1) .lane) ({ probeSt fun st => { st with v := st.v.set 1 (ofLanes fun i =>
      BitVec.ofNat 32 (0xfffffff0 + i)) } with slot := .va }))).map (fun st => st.flight.map fun f => match f.eff with
        | .latV .va 1 v m => (f.due, lane v 0, lane v 15, lane v 63, m)
        | _ => (0, 0, 0, 0, 0)) = some [(2, 0xfffffff0, 14, 110, BitVec.allOnes 64)] := by decide +kernel

/-- A step runs the word it fetches: TRAP 7 leaves its cause with the tile (11 R293). -/
theorem test_step_fetch : trapOf (step (State.reset.withFetchWord 32 (0x02 * 2 ^ 25 + 7))) =
    some ⟨0x09, 0, 7, BitVec.ofNat 256 (0x02 * 2 ^ 25 + 7)⟩ := by decide +kernel
end

