-- ==== Sys2Proof/Tests/Witness.lean ====
section
/-! SUPPORT. For each statement with hypotheses a concrete state and operands that meet them, clause by clause, at the ends of their ranges. -/
open Sys2Proof Sys2Proof.Machine

set_option Elab.async false

/-! ### The probe: one tile of one company about to issue -/

/-- The tile in focus of the probe with its registers changed. -/
def hereSt (f : TState → TState) : Option Here := (probeSt f).here

/-- The tile in focus of the probe with its tile, its company and the rest changed. -/
def hereOf (ft : Tile → Tile) (fc : Company → Company) (fs : State → State) : Option Here := (probeOf ft fc fs).here

/-- The probe's tile. -/
def key0 : TileKey := State.probeKey .reset

/-- A tile with two bundles of NOP. -/
def twoBundles (f : TState → TState) (t : Tile) : Tile := { t with imem := #v[[0, 0], []], st := f t.st }

/-- A level set active, ending at an address, with stages. -/
def withLevel (l : Fin 4) (stop : BitVec 11) (count : W32) (stages : Nat) (st : TState) : TState :=
  { st with loops := st.loops.set l ⟨true, 0, stop, count, 0, stages⟩, nest := l :: st.nest }

/-! ### The step, slot words of the scalar and control slots -/

/-- For every statement whose one hypothesis is a tile in focus: LogicAndShiftWords, MultiplyDivideAndFieldWords, CompareWords,
ScalarMemoryWords, VectorIntegerWords, VectorLaneWords, VectorFloatWords, VectorBlockAndReductionWords, CastWords, OtherControlWords (its second part). -/
theorem witness_here : (hereSt id).isSome = true := by decide +kernel

theorem witness_StepDoesTheNextEvent : (State.reset.withBundle 0).agenda = [Event.sequencerIssue key0] ∧
    (Event.sequencerIssue key0).means (Instr.sequencerIssue key0) ∧ State.reset.agenda = [] := ⟨rfl, rfl, rfl⟩

theorem witness_StepIssuesTheBundle : ((State.reset.withBundle 0).hereAt key0).any (fun h => h.issues && (h.t.bundleAt h.st.pc == some 0) &&
    (h.st.skip == 0) && (runWords (fun _ => .nop) slots { h.put h.st.beforeBundle with focus := h.t.key, raised := none }).isSome) = true ∧
    (∀ u ∈ slots, decode u (slotWord 0 u) = some .nop) ∧ (encode .nop).isSome = true := by decide +kernel

theorem witness_DecodeGivesOnlyLegalWords : decode .c 0 = some .nop ∧ decode .f (0x17 * 2 ^ 25) = some .castClr := by decide

theorem witness_StepKeepsMemoriesCanonical : State.reset.MemInv ∧ ∃ t, step State.reset = .next t :=
  ⟨by unfold State.MemInv; decide, _, rfl⟩

theorem witness_StepAlwaysGoesOn : exec .nop State.reset = .fault .noTile := rfl

/-- RegisterSettingWords: a level active, a level its bundle activates, a level neither. -/
theorem witness_RegisterSettingWords : (hereSt (withLevel 3 5 1 0)).any (fun h => (h.st.loops[(3 : Fin 4)]).active) = true ∧
    (hereSt fun st => { st with xfer := .loop 2 0 0 0 }).any (fun h => h.st.xfer.activates 2) = true ∧
    (hereSt id).any (fun h => !(h.st.loops[(0 : Fin 4)]).active && !h.st.xfer.activates 0) = true := by decide +kernel

/-- ReadWordsAndSelectors: the least index past RDID's; the last listed and the first unlisted of RDCFG. -/
theorem witness_ReadWordsAndSelectors : 6 < (7 : BitVec 16).toNat ∧ (hereSt id).any (fun h => (h.rdcfg 0).isSome && (h.rdcfg 0x60).isSome &&
    (h.rdcfg 0x61).isNone && (h.rdcfg 0x17).isNone) = true ∧ (1 : Fin 32) ≠ 0 := by decide +kernel

/-- ResultsLand and StoresAndLoads: registers at launch, nothing in flight, an empty scratchpad. -/
theorem witness_Results : (TState.launch []).flight = [] ∧ memWf (TState.launch []).spad = true ∧ memWf [] = true := ⟨rfl, rfl, rfl⟩

/-- TransferWords: a target on the last bundle and one past it; guards both ways; s0 zero and s1 not; return stacks of 0, 7 and 8. -/
theorem witness_TransferWords : (hereSt fun st => { regs2 1 0 st with rstack := List.replicate 7 0 }).any (fun h => (h.target 0 == some 0) &&
      (h.target 1 == none) && h.passes ⟨0, false⟩ && !h.passes ⟨1, false⟩ && decide (h.st.rstack.length < 8) && decide (h.st.rstack ≠ [])) = true ∧
    (hereSt (regs2 1 0)).any (fun h => decide ((h.st.sreg 0 = 0) ↔ false = false) && decide ((h.st.sreg 1 = 0) ↔ true = false) &&
      decide ((h.st.sreg 0 = 0) ↔ true = true) && decide ((h.st.sreg 1 = 0) ↔ false = true) && decide (h.st.rstack = [])) = true ∧
    (hereSt fun st => { st with rstack := List.replicate 8 0 }).any (fun h => decide (8 ≤ h.st.rstack.length)) = true := by decide +kernel

/-- LoopWords, first part: END on the next bundle; counts of one, of 2^32 and of 2^28, which read as zero. -/
theorem witness_LoopWords_go : (hereOf (twoBundles (regs2 1 0)) id id).any (fun h => (h.target 1 == some 1) && decide (h.st.pc < 1) &&
      !(h.st.loops[(0 : Fin 4)]).active && decide (∀ l ∈ h.st.nest, (h.st.loops[l]).stop.toNat ≠ h.st.pc) &&
      decide ((h.st.sreg 1).toNat % 2 ^ 32 ≠ 0 ∧ (h.st.sreg 1).toNat % 2 ^ 28 ≠ 0) &&
      decide (∀ l ∈ h.st.nest, (h.st.loops[l]).stages = 0)) = true ∧
    (hereOf (twoBundles fun st => withLevel 1 1 1 0 (regs2 0x100000000 0x10000000 st)) id id).any (fun h =>
      decide ((h.st.sreg 1).toNat % 2 ^ 32 = 0 ∧ (h.st.sreg 2).toNat % 2 ^ 28 = 0) &&
      decide (∀ l ∈ h.st.nest, (h.st.loops[l]).stop.toNat ≠ h.st.pc ∧ (h.st.loops[l]).stages = 0)) = true ∧ (4095 : BitVec 12) ≠ 0 := by
  decide +kernel

/-- LoopWords, second part: an active level; a REPLAY level around; a level that ends here. -/
theorem witness_LoopWords_traps : (hereOf (twoBundles (withLevel 0 1 1 0)) id id).any (fun h => (h.target 1 == some 1) &&
      (h.st.loops[(0 : Fin 4)]).active) = true ∧
    (hereOf (twoBundles (withLevel 1 1 1 8)) id id).any (fun h => !(h.st.loops[(0 : Fin 4)]).active &&
      decide (∃ l ∈ h.st.nest, (h.st.loops[l]).stages ≠ 0)) = true ∧
    (hereOf (twoBundles (withLevel 1 0 1 0)) id id).any (fun h => !(h.st.loops[(0 : Fin 4)]).active &&
      decide (∃ l ∈ h.st.nest, (h.st.loops[l]).stop.toNat = h.st.pc) && decide (∀ l ∈ h.st.nest, (h.st.loops[l]).stages = 0)) = true := by
  decide +kernel

/-- NextAddress: no END here; the END of a level with COUNT 1 and with COUNT 0; a level to activate; a return address. -/
theorem witness_NextAddress : let a := withLevel 0 5 1 0 (TState.launch [])
    let b := withLevel 0 0 1 0 (TState.launch [])
    let c := withLevel 0 0 0 0 (TState.launch [])
    (∀ l ∈ a.nest, (a.loops[l]).stop.toNat ≠ a.pc) ∧ (b.nest = [0] ∧ (b.loops[(0 : Fin 4)]).stop.toNat = b.pc ∧ (b.loops[(0 : Fin 4)]).count ≠ 0) ∧
    (c.nest = [0] ∧ (c.loops[(0 : Fin 4)]).stop.toNat = c.pc ∧ (c.loops[(0 : Fin 4)]).count = 0) ∧ ((1 : Fin 4) ∉ a.nest ∧
      (1 : BitVec 11).toNat ≠ a.pc) ∧ ({ a with rstack := [3] } : TState).rstack = 3 :: [] := by decide +kernel

/-- WaitWords: a target one ahead, and one at the cue; in the handler and out of it. -/
theorem witness_WaitWords : (hereSt (regs2 1 0)).any (fun h => decide (h.cue < (h.get64 .c (.reg 1)).toNat) && !h.st.handler &&
      decide ((h.get64 .c (.reg 2)).toNat ≤ h.cue)) = true ∧
    (hereSt fun st => { regs2 1 0 st with handler := true }).any (fun h => decide (h.cue < (h.get64 .c (.reg 1)).toNat) && h.st.handler) = true := by
  decide +kernel

/-- A company whose book has a boundary at its first cue. -/
def withBoundary (c : Company) : Company := { c with gangs := c.gangs.map fun g => { g with bin := { g.bin with book := [⟨.rb, 0, 0, 0, 0, 0, 0, 0⟩] } } }

/-- A company with an overlaid binary of one segment of two bundles. -/
def overlaidCo (c : Company) : Company :=
  { c with info := { c.info with overlaid := true, ovTab := [(0, 2)], gangs := c.info.gangs.map fun g => { g with segs := [(0, [0, 0])] } } }

/-- OtherControlWords: lanes active and none; at a boundary of the book, in the handler, in local state, off the book; overlaid binaries. -/
theorem witness_OtherControlWords : (hereOf id withBoundary id).any (fun h => decide (h.st.active ≠ 0) && !h.st.handler &&
      decide (h.st.localSince = none) && boundaryAt h.co h.cue && !h.overlaid) = true ∧
    (hereSt fun st => { st with mask := [0] }).any (fun h => decide (h.st.active = 0) && !boundaryAt h.co h.cue) = true ∧
    (hereOf id overlaidCo id).any (fun h => h.overlaid && !h.st.handler && h.co.info.hasSegment 0 && !h.co.info.hasSegment 1 &&
      decide (h.st.ovl = none)) = true ∧
    (hereOf (fun t => { t with st := { t.st with handler := true, localSince := some 0 } }) overlaidCo id).any (fun h => h.overlaid && h.st.handler &&
      decide (h.st.localSince ≠ none)) = true ∧
    (hereOf (fun t => { t with st := { t.st with ovl := some ⟨0, 0, true, false⟩ } }) overlaidCo id).any (fun h =>
      decide (h.st.ovl = some ⟨0, 0, true, false⟩) && decide (0 ≤ h.cue) && decide ((1023 : BitVec 11).toNat < 1024)) = true ∧
    (hereOf (fun t => { t with st := { t.st with ovl := some ⟨0, 1, true, false⟩ } }) overlaidCo id).any (fun h =>
      decide (h.st.ovl = some ⟨0, 1, true, false⟩) && decide (h.cue < 1)) = true ∧ 1024 ≤ (1024 : BitVec 11).toNat := by
  decide +kernel

/-- A company whose launch names a handler. -/
def handlerCo (c : Company) : Company := { c with info := { c.info with handler := some 0 } }

/-- TrapEntryAndReturn: a handler free to take USER; no handler; a final cause; a tile in its handler; DEADLINE of kinds 4 and 5. -/
theorem witness_TrapEntryAndReturn : (hereOf id handlerCo id).any (fun h => (h.co.info.handler == some 0) && !finalCause cUSER 0 && !h.st.handler &&
      !finalCause cDEADLINE (BitVec.ofNat 64 (4 * 2 ^ 60)) && finalCause cDEADLINE (BitVec.ofNat 64 (5 * 2 ^ 60))) = true ∧
    (hereSt id).any (fun h => ((h.s.tileAt h.t.key).isSome) && ((h.s.coAt h.co.num).isSome) && decide (h.co.fatal = none) &&
      decide (h.co.info.handler = none)) = true ∧
    (∀ l ∈ (TState.launch []).nest, ((TState.launch []).loops[l]).stop.toNat ≠ (TState.launch []).pc) := by decide +kernel

/-- CausePriority: an ILLEGAL among other causes; two causes of equal rank. -/
theorem witness_CausePriority : (∃ x ∈ [(⟨cUSER, 0, .c⟩ : Raise), ⟨cILLEGAL, 2, .s⟩], x.code = cILLEGAL) ∧
    (∀ x ∈ [(⟨cBOUNDS, 0, .c⟩ : Raise), ⟨cBOUNDS, 2, .s⟩], x.code ≠ cILLEGAL) := by decide

/-- BundleUndoneOrSuppressed: a bundle of TRAP that raises USER, and the last suppressed bundle. -/
theorem witness_BundleUndoneOrSuppressed :
    ((State.reset.withBundle (BitVec.ofNat 256 (0x02 * 2 ^ 25))).hereAt key0).any (fun h => h.issues && (h.t.bundleAt h.st.pc).isSome &&
      (h.st.skip == 0) && let s0 : State := { h.put h.st.beforeBundle with focus := h.t.key, raised := none }
      ((s0.hereAt h.t.key).isSome && (takenCause (issueSlots (BitVec.ofNat 256 (0x02 * 2 ^ 25)) slots s0 []).2 == some (cUSER, 0)))) = true ∧
    ((probeSt fun st => { st with skip := 1 }).hereAt key0).any (fun h => h.issues && (h.t.bundleAt h.st.pc == some 0) && decide (0 < h.st.skip)) =
      true := by decide +kernel

/-- WaitsAndDeadlines: each wait at the cue that ends it, and each deadline one cycle past. -/
theorem witness_WaitsAndDeadlines : (hereSt fun st => { st with wait := .until 0 false }).any (fun h => h.alive && decide (0 ≤ h.cue)) = true ∧
    (hereSt fun st => { st with wait := .event 3 0 0, e := 8 }).any (fun h => h.alive && decide (h.cue ≤ 0) && h.st.e.getLsbD 3) = true ∧
    (hereSt fun st => { st with wait := .owner 255 0 0 }).any (fun h => h.alive && decide (h.cue ≤ 0) && decide (h.st.owner 255 = ownCore)) = true ∧
    (hereOf (fun t => { t with st := { t.st with wait := .event 3 0 0 } }) (fun c => { c with cue := 1 }) id).any (fun h =>
      h.alive && decide (0 < h.cue)) = true ∧
    (hereOf (fun t => { t with st := { t.st with localSince := some 0 } }) (fun c => { c with cue := 1048561 }) id).any (fun h =>
      h.alive && decide (0 + h.gang.bin.localLimit < h.cue)) = true ∧
    (hereOf id (fun c => { withBoundary c with cue := 1 }) id).any (fun h => h.alive && decide (0 < h.cue) && boundaryAt h.co (h.cue - 1) &&
      decide (h.gang.base ≤ h.cue - 1) && decide (h.st.marked ≠ some (h.cue - 1))) = true := by decide +kernel

/-! ### Vector and matrix words -/

/-- MaskWords: seven and eight entries on the mask stack, two and one. -/
theorem witness_MaskWords : (hereSt fun st => { st with mask := List.replicate 7 1 }).any (fun h => decide (h.projDepth 2 < 8 ∧ h.projDepth 1 < 8)) =
      true ∧ (hereSt fun st => { st with mask := List.replicate 8 1 }).any (fun h => decide (8 ≤ h.projDepth 2 ∧ 8 ≤ h.projDepth 1)) = true ∧
    (hereSt fun st => { st with mask := [1, 3] }).any (fun h => decide (1 < h.projDepth 1)) = true ∧
    (hereSt id).any (fun h => decide (h.projDepth 1 ≤ 1)) = true ∧
    (∃ st : TState, st.mask = 1 :: [3, 7, 7, 7, 7, 7] ∧ [3, 7, 7, 7, 7, 7].length < 7) :=
  ⟨by decide +kernel, by decide +kernel, by decide +kernel, by decide +kernel, { TState.launch [] with mask := [1, 3, 7, 7, 7, 7, 7] }, rfl, by decide⟩

/-- VectorFloatWords: two values in order; a sum, a tie and an overflow that are rounded; the ends of the ranges of VEXP2 and VTANH; a table step of the least and of
the greatest mantissa. -/
theorem witness_VectorFloatWords : ((Val.fin false 1 0).rat < (Val.fin false 3 0).rat ∧ (0 < 0x1000001 ∧ 0xffffff < 2 ^ 24 ∧ fp32 = fp32)) ∧
    (128 ≤ (Val.fin false 1 7).rat ∧ (Val.fin true 161 0).rat < -160 ∧ -160 ≤ (Val.fin true 5 5).rat ∧ (Val.fin true 5 5).rat < 128 ∧
      (Val.fin true 1 0).rat < 0 ∧ |(Val.fin true 1 (-13)).rat| < 1 / 2 ^ 12 ∧ 16 ≤ |(Val.fin true 1 4).rat|) ∧
    (2 ^ 23 ≤ 2 ^ 23 ∧ (2 ^ 23 : Nat) < 2 ^ 24 ∧ ((2 ^ 23 : Nat) : ℚ) * 2 ^ ((0 : Int) - 23) = ((1 : Nat) : ℚ) * 2 ^ (0 : Int)) ∧
    (2 ^ 23 ≤ 2 ^ 24 - 1 ∧ 2 ^ 24 - 1 < 2 ^ 24 ∧ ((2 ^ 24 - 1 : Nat) : ℚ) * 2 ^ ((-1 : Int) - 23) = ((2 ^ 24 - 1 : Nat) : ℚ) * 2 ^ (-24 : Int)) ∧
    1 / 2 ^ 12 ≤ ((1 : Nat) : ℚ) * 2 ^ (0 : Int) ∧ ((1 : Nat) : ℚ) * 2 ^ (0 : Int) < 16 := by
  refine ⟨?_, ?_, ?_, ?_, ?_⟩ <;> norm_num [Val.rat]

theorem witness_IntegerReductions : (List.replicate 64 (0 : W32)).length = 64 := by decide

/-- Every unit that a range touches is the core's. -/
def coreUnits (h : Here) (a n : Nat) : Bool := decide (∀ u ≤ (a + n - 1) / 4096, a / 4096 ≤ u → h.st.owner u = 0)

/-- A tile with s1 set and every bank in one format. -/
def bankTile (a : W64) (f : W32) (t : Tile) : Tile := { t with fmts := Vector.replicate 16 f, st := regs2 a 0 t.st }

/-- VectorMemoryWords, accesses: the last place of a vector of words, and the last block of a bank of eight-bit blocks. -/
theorem witness_VectorMemoryWords_go : (hereOf (bankTile 0xfff00 0) id id).any (fun h => decide (h.st.baseAddr 1 0 64 = (0xfff00 : Int)) &&
      !(h.t.bankFmt 15).isBlock && decide (0xfff00 % (h.t.bankFmt 15).bytes = 0 ∧ 0xfff00 + 64 * (h.t.bankFmt 15).bytes ≤ 0x100000) &&
      decide (h.t.fmt ((0xfff00 + 64 * (h.t.bankFmt 15).bytes - 1) / 0x10000) = h.t.fmt (0xfff00 / 0x10000)) && coreUnits h 0xfff00 256) = true ∧
    (hereOf (bankTile 65260 0x12) id id).any (fun h => decide (h.st.baseAddr 1 0 64 = (65260 : Int)) && (h.t.bankFmt 0 == .block .w8) &&
      blockStart .w8 65260 && coreUnits h 65260 260 && decide (h.st.active = allLanes) && Sel.isGroup (.reg 28) &&
      decide ((28 : Fin 32).val % 4 = 0)) = true ∧
    (hereOf (fun t => { bankTile 0 0 t with st := { t.st with a := t.st.a.set 7 ⟨0xfff00, Vector.replicate 4 0⟩ } }) id id).any (fun h =>
      decide (h.st.streamAddr 7 = (0xfff00 : Int))) = true := by decide +kernel

/-- VectorMemoryWords, traps: one below the scratchpad and one past it, off a word, past the end by a word, off a block, no group, a lane masked. -/
theorem witness_VectorMemoryWords_traps : (hereOf (bankTile (-1) 0) id id).any (fun h => decide (h.st.baseAddr 1 0 64 < 0)) = true ∧
    (hereOf (bankTile 0x100000 0) id id).any (fun h => decide (0xfffff < h.st.baseAddr 1 0 64)) = true ∧
    (hereOf (bankTile 0xfffff 0) id id).any (fun h => decide (0 ≤ h.st.baseAddr 1 0 64 ∧ h.st.baseAddr 1 0 64 ≤ 0xfffff ∧
      h.st.baseAddr 1 0 64 % ((h.t.bankFmt 15).bytes : Int) ≠ 0) && !(h.t.bankFmt 15).isBlock) = true ∧
    (hereOf (bankTile 0xfff04 0) id id).any (fun h => decide (0x100000 < h.st.baseAddr 1 0 64 + 64 * ((h.t.bankFmt 15).bytes : Int))) = true ∧
    (hereOf (bankTile 65520 0x12) id id).any (fun h => (h.t.bankFmt 0 == .block .w8) && !blockStart .w8 (h.st.baseAddr 1 0 64).toNat) = true ∧
    (hereOf (fun t => { bankTile 65260 0x12 t with st := { regs2 65260 0 t.st with mask := [0x7fffffffffffffff] } }) id id).any (fun h =>
      (h.t.bankFmt 0 == .block .w8) && blockStart .w8 (h.st.baseAddr 1 0 64).toNat && decide (h.st.active ≠ allLanes) && Sel.isGroup (.reg 4) &&
      !Sel.isGroup (.reg 5) && decide ((5 : Fin 32).val % 4 ≠ 0)) = true := by decide +kernel

/-- A tile whose banks are raw, the last one of another format word, s1 set, one unit lent. -/
def lentTile (a : W64) (u : Fin 256) (t : Tile) : Tile :=
  { t with fmts := (Vector.replicate 16 (0 : W32)).set 15 0x10000, st := { regs2 a 0 t.st with own := t.st.own.set u 1 } }

/-- VectorMemoryWords, traps: a range that ends in a bank of another format word; the second of two units lent; the lowest of a block's units lent; streams off an
element and past the end. -/
theorem witness_VectorMemoryWords_more : (hereOf (lentTile 0xeff04 0) id id).any (fun h => decide (h.st.baseAddr 1 0 64 = 0xeff04) &&
      !(h.t.bankFmt 14).isBlock && decide (0xeff04 % (h.t.bankFmt 14).bytes = 0 ∧ 0xeff04 + 64 * (h.t.bankFmt 14).bytes ≤ 0x100000 ∧
        (0xeff04 + 64 * (h.t.bankFmt 14).bytes - 1) / 0x10000 = 15 ∧ h.t.fmt 15 ≠ h.t.fmt 14)) = true ∧
    (hereOf (lentTile 0xfc0 1) id id).any (fun h => decide (h.st.baseAddr 1 0 64 = 0xfc0) && decide (0xfc0 % (h.t.bankFmt 0).bytes = 0 ∧
      h.st.owner 1 ≠ 0 ∧ h.st.owner 0 = 0 ∧ (0xfc0 + 64 * (h.t.bankFmt 0).bytes - 1) / 4096 = 1)) = true ∧
    (hereOf (fun t => let t := bankTile 0 0x12 t; { t with st := { t.st with own := t.st.own.set 0 1 } }) id id).any (fun h =>
      (h.t.bankFmt 0 == .block .w8) && blockStart .w8 0 && decide (h.st.owner 0 ≠ 0)) = true ∧
    ([0xfff01, 0xfff04].all fun (a : Nat) => (hereOf (fun t => { bankTile 0 0 t with st := { t.st with a := t.st.a.set 7 ⟨BitVec.ofNat 20 a, Vector.replicate 4 0⟩ } }) id id).any (fun h =>
      decide (h.st.streamAddr 7 = (a : Int) ∧ (a % (h.t.bankFmt 15).bytes ≠ 0 ∨ 0x100000 < a + 64 * (h.t.bankFmt 15).bytes)))) = true := by decide +kernel

/-- VectorIndexedWords: lane i at the i-th last word of the scratchpad. -/
theorem witness_VectorIndexedWords : (hereOf (fun t => { t with st := { t.st with v := t.st.v.set 1 (ofLanes fun i => BitVec.ofNat 32 (0xffffc - 4 * i)) } }) id
    fun s => { s with slot := .va }).any
    (fun h => decide (∀ i < 64, h.st.active.getLsbD i = true →
      let a := (lane (h.getV h.s.slot (.reg 1)) i).toNat + (lane (h.getV h.s.slot .zero) i).toNat
      a < 0x100000 ∧ (h.t.bankFmt (a / 0x10000)).isBlock = false ∧ a % (h.t.bankFmt (a / 0x10000)).bytes = 0 ∧ h.st.owner (a / 4096) = 0)) = true := by
  decide +kernel

/-- VectorIndexedWords, traps: lane 2 past the scratchpad; off a word; in a block bank; at a unit lent; the lanes before it in place. -/
theorem witness_VectorIndexedWords_traps : ([(0x100000, 0, 0), (2, 0, 0), (0x10000, 0x12, 0), (0x2000, 0, 1)].all fun (y : Nat × Nat × Nat) =>
    (hereOf (fun t => { t with
        fmts := (Vector.replicate 16 (0 : W32)).set 1 (BitVec.ofNat 32 y.2.1)
        st := { t.st with v := t.st.v.set 1 (ofLanes fun i => if i = 2 then BitVec.ofNat 32 y.1 else 0), own := t.st.own.set 2 (BitVec.ofNat 8 y.2.2) } }) id fun s => { s with slot := .va }).any
      fun h =>
        let addr (i : Nat) : Nat := (lane (h.getV h.s.slot (.reg 1)) i).toNat + (lane (h.getV h.s.slot .zero) i).toNat
        let f (i : Nat) := h.t.bankFmt (addr i / 0x10000)
        h.st.active.getLsbD 2 && addr 2 == y.1 && addr 0 == 0 && addr 1 == 0 && !(f 0).isBlock && h.st.owner 0 == 0 &&
          ((y.1 == 0x100000) || (y.1 == 2 && !(f 2).isBlock && (2 % (f 2).bytes != 0)) || (y.1 == 0x10000 && (f 2).isBlock) ||
            (y.1 == 0x2000 && !(f 2).isBlock && decide (h.st.owner (addr 2 / 4096) ≠ 0)))) = true := by decide +kernel

/-- MatrixWords: the last offset of a plane at the first cue outside refresh, off and past it, the last cue of a refresh. -/
theorem witness_MatrixWords : (hereOf (fun t => { t with st := { t.st with v := t.st.v.set 1 (BitVec.ofNat 2048 0x1f000) } })
      (fun c => { c with cue := 64 }) id).any (fun h => let o := (lane (h.getV .m (.reg 1)) 0).toNat
      decide (o % 4096 = 0 ∧ o ≤ 0x1f000 ∧ 64 ≤ h.cue % 16384 % 512) && !h.s.weightBad.contains (h.s.weightBase h.t)) = true ∧
    (hereOf (fun t => { t with st := { t.st with v := (t.st.v.set 1 (BitVec.ofNat 2048 0x20000)).set 2 (BitVec.ofNat 2048 1) } })
      (fun c => { c with cue := 63 }) id).any (fun h => decide (0x1f000 < (lane (h.getV .m (.reg 1)) 0).toNat) &&
      decide ((lane (h.getV .m (.reg 2)) 0).toNat % 4096 ≠ 0) && decide ((lane (h.getV .m (.reg 3)) 0).toNat % 4096 = 0 ∧
        (lane (h.getV .m (.reg 3)) 0).toNat ≤ 0x1f000 ∧ h.cue % 16384 % 512 < 64)) = true ∧
    ArrayState.launch.oldest 1 31 = none ∧
    (let x : ArrayState := { ArrayState.launch with part := ArrayState.launch.part.set (partIdx 1 31 1) { Partial.launch with isOpen := true } };
      x.oldest 1 31 = some 1) ∧ (63 : Fin 64).val / 32 = (1 : Fin 2).val ∧ (31 : Fin 64).val / 32 ≠ (1 : Fin 2).val ∧
    (0 : Fin 64) ≠ rowIdx 1 31 := by decide +kernel

/-! ### Fabric and engine words -/

/-- A company whose gang spans two regions: sixteen columns in one, one in the next; the probe's tile placed at column 15. -/
def wideGang (c : Company) : Company := { c with gangs := c.gangs.map fun g => { g with col0 := 15, bin := { g.bin with cols := 2 } } }

/-- A deck circuit from the east side of the probe's tile to another company's tile, torn down at a deck cue. -/
def circuit0 (up : Bool) (torn : Option Nat) (s : State) : State := { s with circuits := [⟨0, (key0, .e), (⟨0, 1, 0, 0⟩, .w), [⟨0, 0⟩], up, torn⟩] }

/-- FabricWords: a link free at this cue and one claimed for one more; no crossing, a circuit down, one torn in this cycle, a stitch up; FIFOs with and
without a word; a region without a trim parent and one with, its counter on no hold. -/
theorem witness_FabricWords : (hereSt id).any (fun h => decide (h.st.hopBusy[sideNo .e] ≤ h.cue ∧ h.st.xBusy[sideNo .e] ≤ h.cue) &&
      decide (h.s.crossing h.gang h.t.key .e = none) && decide (h.st.fifo[fifoIdx .e 7] = [])) = true ∧
    (hereSt fun st => { st with
      hopBusy := st.hopBusy.set (sideNo .e) 1
      xBusy := st.xBusy.set (sideNo .e) 1
      fifo := st.fifo.set (fifoIdx .e 7) [⟨true, 5⟩] }).any (fun h => decide (h.cue < h.st.hopBusy[sideNo .e] ∧ h.cue < h.st.xBusy[sideNo .e]) &&
      decide (h.st.fifo[fifoIdx .e 7] = [⟨true, 5⟩])) = true ∧
    (hereOf id id (circuit0 false none)).any (fun h => (h.s.crossing h.gang h.t.key .e).any fun x => !x.up && !x.torn) = true ∧
    (hereOf id id (circuit0 false (some 0))).any (fun h => (h.s.crossing h.gang h.t.key .e).any fun x => !x.up && x.torn) = true ∧
    (hereOf id wideGang id).any (fun h => (h.s.crossing h.gang h.t.key .e).any fun x => x.up &&
      decide (h.st.xLast[sideNo .e] ≤ h.cue + 1 - 1 + x.band.hi) && decide (x.band.lo ≤ x.band.hi)) = true ∧
    (hereSt id).any (fun h => decide (h.s.parentOf h.t.site h.t.region = none)) = true ∧
    (hereOf (fun t => { t with region := 1 }) id fun s => s.setSite 0 fun x => { x with state := .admitted }).any (fun h =>
      decide (h.s.parentOf h.t.site h.t.region ≠ none ∧ ((h.s.sites[h.t.site]).regions[h.t.region]).heldTo ≤ h.s.cue)) = true := by decide +kernel

theorem witness_GuardedEngineWords : (hereSt id).any (fun h => !h.passes ⟨7, false⟩ && !h.passes ⟨0, true⟩) = true := by decide +kernel

/-- A company with one segment of 64 bytes of pinned deck memory, a calendar of reads and writes of its first tile, the wheel at its cue and a
mailbox word bound to slot 0. -/
def engineCo (c : Company) : Company :=
  { c with
    info := { c.info with segtab := [⟨0, false, true, true, 0, 0, 64, 0⟩], binds := [0x8fff] }
    gangs := c.gangs.map fun g => { g with bin := { g.bin with
      book := [⟨.flyRd, 0, 0, 0, 0, 0, 0, 0⟩, ⟨.flyWr, 0, 0, 0, 0, 0, 0, 0⟩], wheel := [0] } } }

/-- A tile with one unit handed to an engine and staging words. -/
def loan (o : Byte) (ks : List (Fin 32 × W64)) (t : Tile) : Tile :=
  { t with st := { t.st with own := t.st.own.set 0 o, k := ks.foldl (fun k p => k.set p.1 p.2) t.st.k } }

/-- TransferEngineWords: a FLY of 64 bytes and its occurrence; an ACOPY of 64 bytes, the limit of its segment, reported or not, in both directions
of ACOPY.2D; queues of 31 and 32 entries. -/
theorem witness_TransferEngineWords : (hereOf (loan 1 []) engineCo id).any (fun h => h.passes ⟨0, false⟩ && [(false, false), (false, true), (true, false),
      (true, true)].all fun y => let m := h.flyMove 0 y.1 y.2
      ((h.moveChecks m true [(decide (65536 < m.rows * m.len), boundsInfo 6 1 (m.len / 64 - 1))]).all fun c => !c.1) &&
      (h.segOf m.seg).any fun e => decide (h.st.localSince = none) && (h.flyEntry y.2 (siteOf (m.target e)) (m.rows * m.len)).isSome &&
        (h.st.notOwnedSpans ownFly (rowSpans (m.xrows e))).isNone) = true ∧
    ([false, true].all fun d => (hereOf (loan 2 [(1, 0x100000), (2, 64), (3, if d then 0x1000 else 0)]) engineCo id).any (fun h =>
      (bit (h.stage 0 3) 12 == d) && bit (h.stage 0 1) 20 && (h.co.bound (bits (h.stage 0 1) 28 21)).isSome && [(false, false), (false, true), (true, d)].all fun y =>
      let m := h.acopyMove 0 y.1 y.2
      ((h.moveChecks m false [(m.len % 64 != 0 || decide (m.len < 64) || decide (0x100000 < m.len), boundsInfo 6 2 m.len)]).all fun c => !c.1) &&
      (h.segOf m.seg).any fun e => (h.st.notOwnedSpans ownAcopy (rowSpans (m.xrows e))).isNone && decide (h.st.loadQ.length < 32 ∧
        h.st.storeQ.length < 32))) = true ∧
    (let x : AcEntry := ⟨0, true, .tile, 0, [], false, 0, .waiting, 0, []⟩;
      (hereSt fun st => { st with loadQ := List.replicate 31 x, storeQ := List.replicate 32 x }).any (fun h =>
        decide (h.st.loadQ.length < 32 ∧ 32 ≤ h.st.storeQ.length))) = true := by decide +kernel

/-- TransferEngineWords, traps: an offset off a block; a word in local state and one with no place in the calendar; a unit not lent; a full queue. -/
theorem witness_TransferEngineWords_traps : (hereOf (loan 1 [(0, 1)]) engineCo id).any (fun h => h.passes ⟨0, false⟩ &&
      decide ((h.moveChecks (h.flyMove 0 false false) true []).any (·.1) = true)) = true ∧
    (hereOf (fun t => let t := loan 1 [] t; { t with st := { t.st with localSince := some 0 } }) engineCo id).any (fun h =>
      ((h.moveChecks (h.flyMove 0 false false) true []).all fun c => !c.1) && (h.segOf 0).isSome && decide (h.st.localSince ≠ none)) = true ∧
    (hereOf (loan 1 []) (fun c => { engineCo c with cue := 1 }) id).any (fun h => (h.segOf 0).any fun e => let m := h.flyMove 0 false false
      decide (h.st.localSince = none ∧ h.flyEntry false (siteOf (m.target e)) (m.rows * m.len) = none)) = true ∧
    (hereOf (loan 0 []) engineCo id).any (fun h => (h.segOf 0).any fun e => let m := h.flyMove 0 false false
      decide (h.st.localSince = none) && (h.flyEntry false (siteOf (m.target e)) (m.rows * m.len)).isSome &&
        decide (h.st.notOwnedSpans ownFly (rowSpans (m.xrows e)) = some 0)) = true := by decide +kernel

/-- EngineUnitWords: units up to 255 and past it; a bound and an unbound slot, seven commands waiting; a wheel position and none; an aligned word
of a segment. -/
theorem witness_EngineUnitWords : (hereOf (loan 0 [(0, 0xfe01 - 0x100)]) id id).any (fun h => h.passes ⟨0, false⟩ &&
      decide (bits (h.stage 0 0) 7 0 + bits (h.stage 0 0) 15 8 ≤ 255) && (List.range 256).all fun v => decide (h.st.owner v = ownCore)) = true ∧
    (hereOf (loan 0 [(0, 0xff01)]) id id).any (fun h => decide (255 < bits (h.stage 0 0) 7 0 + bits (h.stage 0 0) 15 8)) = true ∧
    (hereOf (fun t => { t with st := { t.st with mbQ := List.replicate 7 ⟨true, 0, 0, none, 0⟩ } }) engineCo id).any (fun h =>
      decide (h.co.bound 0 = some 0xfff ∧ h.co.bound 1 = none ∧ h.st.mbQ.length < 8)) = true ∧
    (hereOf (loan 0 [(0, 60)]) engineCo id).any (fun h => (h.segOf (bits (h.stage 0 0) 53 48)).any fun e => h.gang.bin.wheel.contains (h.cue % 8192) &&
      !h.twoWheels && decide (bits (h.stage 0 0) 47 0 % 4 = 0) && !e.passes (bits (h.stage 0 0) 47 0) 4 && e.rd && e.wr && e.pinnedDeck) = true ∧
    (hereSt id).any (fun h => !h.gang.bin.wheel.contains (h.cue % 8192)) = true := by decide +kernel

/-- EngineUnitWords, the wheel: a position of the gang, with another wheel word beside it (07 R195). -/
theorem witness_EngineUnitWords_wheel : (wheelGuard (.wheelLd 0 ⟨0, false⟩ 0) = some ⟨0, false⟩) ∧
    (encode (.wheelLd 0 ⟨0, false⟩ 0)).any (fun w => (hereOf (fun t => { t with imem := #v[[BitVec.ofNat 256 (w * 2 ^ (32 * slotNo .xb))], []] }) engineCo
      (fun s => { s with slot := .xa })).any (fun h => h.gang.bin.wheel.contains (h.cue % 8192) && h.twoWheels)) = true := by decide +kernel

/-- EngineUnitWords, copies: a fill and a copy of one word each in units of the copy unit. -/
theorem witness_EngineUnitWords_copy : (hereOf (loan 3 [(0, 4 * 0x100000)]) id id).any (fun h => let w := h.stage 0 0
      h.passes ⟨0, false⟩ && !h.copyFull && decide (bits w 19 0 % 4 = 0 ∧ bits w 40 20 % 4 = 0 ∧ 4 ≤ bits w 40 20 ∧ bits w 40 20 ≤ 0x100000 ∧
        bits w 19 0 + bits w 40 20 ≤ 0x100000) && (h.st.notOwnedSpans ownCopy [(bits w 19 0, bits w 40 20)]).isNone) = true ∧
    (hereOf (loan 3 [(1, 4), (2, 1)]) id id).any (fun h => !h.copyFull && !bit (h.stage 0 1) 43 && !bit (h.stage 0 0) 43 && !bit (h.stage 0 0) 22 &&
      let src := bits (h.stage 0 0) 19 0
      let dst := bits (h.stage 0 1) 19 0
      let n := bits (h.stage 0 2) 20 0
      decide (1 ≤ n ∧ n ≤ 0x100000 ∧ src % 4 = 0 ∧ dst % 4 = 0 ∧ src + 4 * n ≤ 0x100000 ∧ dst + 4 * n ≤ 0x100000) &&
      (List.range 16).all (fun b => decide (h.t.fmt b = 0)) && (h.st.notOwnedSpans ownCopy [(src, 4 * n), (dst, 4 * n)]).isNone) = true := by
  decide +kernel

/-- ChorusWords: a reduction of 32 elements over a ring of one, current and stale; a descriptor not handed over; a fold of one slot. -/
theorem witness_ChorusWords : (hereOf (loan 4 [(0, 0xffff000000000000), (1, 0x400), (2, 0x0001000000000020)]) id id).any (fun h =>
      let d := h.chorusDesc 0 .ar .i32 .gang
      let n := d.nel * opBytes .i32
      h.passes ⟨0, false⟩ && decide (d.buf % 64 = 0 ∧ 1 ≤ d.nel ∧ d.nel ≤ 0x100000 ∧ d.nel % (32 * h.co.ring.length) = 0 ∧ d.buf + n ≤ 0x100000 ∧
        d.slots % 64 = 0 ∧ d.slots + n ≤ 0x100000 ∧ d.root < h.co.ring.length ∧ d.tmo ≠ 0 ∧ d.stale = false) &&
      (h.st.notOwnedSpans ownChorus [(d.slots, n)]).isNone && decide (∀ x ∈ h.st.chorus, x.bucket ≠ d.bucket)) = true ∧
    (hereOf (loan 4 [(0, 0x0001000000000000), (1, 0x400), (2, 0x0001000000000020)]) id id).any (fun h => (h.chorusDesc 0 .ar .i32 .gang).stale) = true ∧
    (let d : CDesc := ⟨5, .ar, .i32, .gang, 0, false, 0, 0, 0x400, 0, 32, 1, 0, false, false⟩;
      (hereOf (fun t => { loan 4 [(0, 5 * 0x1000000000)] t with st := { (loan 4 [(0, 5 * 0x1000000000)] t).st with chorus := [d] } }) id id).any (fun h =>
        decide (h.st.chorus = [d] ∧ d.bucket.val = bits (h.stage 0 0) 41 36 ∧ d.stale = false ∧ d.ready = false ∧ d.kind ≠ .bar) &&
        (h.st.notOwnedSpans ownChorus [(d.buf, d.nel * opBytes d.op)]).isNone)) = true ∧
    (hereOf (loan 4 [(1, 0x400), (2, 1)]) id id).any (fun h => decide (h.st.chorus = []) &&
      let c : CombineCmd := ⟨bucketOf (h.stage 0 0), .i32, .gang, bits (h.stage 0 0) 19 0, bits (h.stage 0 1) 19 0, bits (h.stage 0 2) 26 24,
        bits (h.stage 0 2) 20 0, bit (h.stage 0 0) 27, bits (h.stage 0 0) 35 28, h.cue⟩
      decide (c.buf % 64 = 0 ∧ c.slots % 64 = 0 ∧ bits (h.stage 0 2) 63 48 = 0 ∧ 1 ≤ c.nel ∧ c.nel ≤ 0x100000 ∧ c.buf + c.nel * opBytes .i32 ≤ 0x100000 ∧
        c.slots + (c.ns + 1) * (c.nel * opBytes .i32) ≤ 0x100000) && (h.st.notOwnedSpans ownChorus c.spans).isNone) = true := by decide +kernel

/-- Whether an outcome is a next state in which no cause is raised. -/
def calm (o : Host.Outcome State Fault Refusal) : Bool :=
  match o with
  | .next t => t.raised.isNone
  | _ => false

/-- SlotWordFrame and ScalarComputeFrame: words that go on and raise no cause, from a state with none raised. -/
theorem witness_Frames : (encode (.add ⟨false, 0, 1⟩ (.reg 1) (.reg 2))).isSome = true ∧ (hereSt id).isSome = true ∧
    calm (exec (.add ⟨false, 0, 1⟩ (.reg 1) (.reg 2)) (probeSt id)) = true ∧ (probeSt id).raised.isNone = true ∧
    calm (exec (.cmpEq false 0 1 (.reg 1) (.reg 2)) (probeSt id)) = true := by decide +kernel

/-- CastListStaysRanked: a list of two entries in rank order. -/
theorem witness_CastListStaysRanked : let l : List (W32 × W32) := [(7, 1), (7, 2), (3, 0)];
    l.Pairwise (fun u v => v.1.toNat < u.1.toNat ∨ (u.1 = v.1 ∧ u.2.toNat < v.2.toNat)) ∧ (l.map (·.2)).Nodup ∧ ∀ u ∈ l, u.1 ≠ 0 := by simp

/-! ### Events of a tile -/

/-- Two tiles of one gang side by side, the left one changed, at company cue 1; `col0` is where the gang stands. -/
def pairOf (col0 : Nat) (f : TState → TState) : State :=
  probeOf (fun t => { t with st := f t.st }) (fun c => { c with cue := 1, gangs := c.gangs.map fun g => { g with col0 := col0, bin := { g.bin with cols := 2 } } })
    fun s => { s with tiles := s.tiles ++ s.tiles.map fun t => { t with key := { t.key with col := 1 }, st := TState.launch [] } }

/-- The key of the right one. -/
def key1 : TileKey := { key0 with col := 1 }

/-- FabricEvents: a beat sent a cycle ago to the next tile, and past the edge; a word whose band has run out, over a stitch. -/
theorem witness_FabricEvents : ((pairOf 0 fun st => { st with wires := [⟨0, .e, false, 0, .val 5⟩] }).hereAt key0).any (fun h =>
      decide (h.st.wires = [⟨0, .e, false, 0, .val 5⟩] ∧ 0 < h.cue) && decide (hopNext h.gang key0 .e = some key1 ∧ key1 ≠ key0) &&
      (h.s.tileAt key1).isSome && decide (hopNext h.gang key0 .w = none)) = true ∧
    ((pairOf 15 fun st => { st with xwords := [⟨.e, 7, false, 5, 0, 1, 0⟩] }).hereAt key0).any (fun h =>
      decide (h.st.xwords = [⟨.e, 7, false, 5, 0, 1, 0⟩] ∧ 1 ≤ h.cue) && ((h.put { h.st with xwords := [] }).crossing h.gang key0 .e).any (fun c =>
        decide (c.peer ≠ key0) && (h.s.tileAt c.peer).isSome) && (h.s.crossing h.gang key0 .e).any fun c => decide (c.peer ≠ key0)) = true ∧
    (hereSt fun st => { st with fifo := st.fifo.set (fifoIdx .n 0) (List.replicate 15 ⟨false, 0⟩) }).any (fun h =>
      decide ((h.st.fifo[fifoIdx .n 0]).length < 16)) = true ∧
    (hereSt fun st => { st with fifo := st.fifo.set (fifoIdx .n 0) (List.replicate 16 ⟨false, 0⟩) }).any (fun h =>
      decide (16 ≤ (h.st.fifo[fifoIdx .n 0]).length)) = true ∧ 7 < 8 := by decide +kernel

/-- FabricEvents: a stitch whose rail has failed, with a word on it. -/
theorem witness_FabricEvents_rail : (((pairOf 15 fun st => { st with xwords := [⟨.e, 7, false, 5, 0, 1, 0⟩] }).setRegion 0 1 fun r => { r with rail := false }).hereAt
      key0).any (fun h => decide (h.st.xwords = [⟨.e, 7, false, 5, 0, 1, 0⟩] ∧ 1 ≤ h.cue) && ((h.put { h.st with xwords := [] }).crossing h.gang key0 .e).isNone &&
        decide (stitchNext h.gang key0 .e = some (key1, .w) ∧ key1 ≠ key0) && (h.s.tileAt key1).isSome) = true := by decide +kernel

/-- A site in a state. -/
def inState (x : SiteState) (n : SiteId) (s : State) : State := s.setSite n fun y => { y with state := x }

/-- Site S and site 0 in service, the stage manager running. -/
def deckUp (s : State) : State :=
  let s := inState .admitted 0 (inState .admitted 16 s)
  { s with fw := { s.fw with mode := .running } }

/-- A fly command of 64 bytes at deck address 0. -/
def fly0 (wr : Bool) : FlyCmd := ⟨wr, 0, 0, 0, [⟨0, 0, 64⟩], [], false, false, .xa⟩

/-- FlyAndWheelEvents: a read and a write outstanding on a site in service; the wheel on one in service and on a hole; a result due. -/
theorem witness_FlyAndWheelEvents : (hereOf (fun t => { t with st := { t.st with fly := [fly0 false, fly0 true] } }) id deckUp).any (fun h => h.works &&
      decide (h.st.fly = [fly0 false, fly0 true]) && !h.s.siteHole 0 && !h.s.poisoned 0 64) = true ∧
    (hereOf id id deckUp).any (fun h => h.works && !h.s.siteHole 0 && h.s.siteHole 1 && !h.s.poisoned 60 4 && memWf h.s.mem &&
      decide (h.s.memOrd = []) && (List.range 4).all fun i => !h.s.hole (60 + i)) = true ∧
    (let c : WheelCmd := ⟨.add, 60, 0, 5, 0, 0, 0, some (.xb, 3), some 7, .xb⟩;
      (hereOf (fun t => { t with st := { t.st with wheel := [c] } }) id deckUp).any (fun h => decide (h.st.wheel = [c] ∧ c.issued + c.w ≤ h.cue) &&
        !h.s.siteHole c.site)) = true := by decide +kernel

/-- FlyAndWheelEvents, the wheel's order: an operation not due that another tile's on the same word brings forward, and one on another word that it does not. -/
theorem witness_FlyAndWheelEvents_order : ([60, 64].all fun a => let c : WheelCmd := ⟨.add, a, 0, 5, 0, 1, 4000, none, none, .xa⟩
    let d : WheelCmd := ⟨.add, 60, 0, 5, 0, 1, 0, none, none, .xb⟩
    let s := pairOf 0 fun st => { st with wheel := [c] }
    let s : State := { s with tiles := s.tiles.map fun t => if t.key = key1 then { t with st := { t.st with wheel := [d] } } else t }
    (s.hereAt key0).any fun h => h.works && (s.wheelNow h.co key0 c == (a == 60)) && decide (h.cue < c.issued + c.w / 2 ∧ d.issued + d.w / 2 ≤ h.cue)) = true := by
  decide +kernel

/-- An entry of a copy queue: 64 bytes of segment 0. -/
def entry0 (id : Nat) (st : AcStage) : AcEntry := ⟨id, false, .tile, 0, [⟨0, 0, 64⟩], false, 0, st, 0, []⟩

/-- A company with one paged segment whose root stands at 0x1000. -/
def pagedCo (c : Company) : Company := { engineCo c with info := { (engineCo c).info with segtab := [⟨0, true, true, true, 0, 0, 64, 0x1000⟩] } }

/-- CopyAndMailboxEvents, copies and mailboxes: a start and a completion at their cues; a put into an empty and a full word; a get of a full word
512 cycles after its issue, and of an empty one. -/
theorem witness_CopyAndMailboxEvents_units : (let c : CopyCmd := ⟨.xfill 0 4 5, 0, 20, none⟩;
      (hereSt fun st => { st with copyQ := [c] }).any (fun h => decide (h.st.copyQ = [c] ∧ c.start ≤ h.cue ∧ c.out = none ∧ c.kind.readsWeights = false))) =
      true ∧
    (let c : CopyCmd := ⟨.xfill 0 4 5, 0, 0, some [(0, 5)]⟩;
      (hereSt fun st => { st with copyQ := [c] }).any (fun h => decide (h.st.copyQ = [c] ∧ c.out = some [(0, 5)] ∧ c.finish ≤ h.cue))) = true ∧
    (let c : MbCmd := ⟨true, 4095, 5, none, 0⟩;
      (hereOf (fun t => { t with st := { t.st with mbQ := [c] } }) id deckUp).any (fun h => h.works && h.s.serviceUp && decide (h.st.mbQ = [c]) &&
        !(h.s.mb 4095).full) && (hereOf (fun t => { t with st := { t.st with mbQ := [c] } }) id (fun s => (deckUp s).mbSet 4095 ⟨0, true⟩)).any (fun h =>
        h.works && h.s.serviceUp && (h.s.mb 4095).full)) = true ∧
    (let c : MbCmd := ⟨false, 4095, 5, some (.xa, 0), 0⟩;
      (hereOf (fun t => { t with st := { t.st with mbQ := [c] } }) (fun c => { c with cue := 512 }) (fun s => (deckUp s).mbSet 4095 ⟨7, true⟩)).any (fun h =>
        h.works && h.s.serviceUp && decide (h.st.mbQ = [c] ∧ c.issued + 512 ≤ h.cue) && (h.s.mb 4095).full)) = true := by decide +kernel

/-- CopyAndMailboxEvents, copy queues: a load and a store of mapped memory, an entry at a page without a mapping, a mark with no store before it. -/
theorem witness_CopyAndMailboxEvents_queues : (hereOf (fun t => { t with st := { t.st with loadQ := [entry0 0 .waiting], storeQ := [entry0 1 .waiting] } })
      engineCo deckUp).any (fun h => h.works && (h.segOf 0).any fun e => decide (h.st.loadQ = [entry0 0 .waiting] ∧ h.st.storeNow = some (entry0 1 .waiting)) &&
      !h.st.storesTo (unitsOf (rowSpans (entry0 0 .waiting).rows)) &&
      [(false, (entry0 0 .waiting).toRead), (true, (entry0 1 .waiting).toWrite)].all fun y =>
        let r := h.reachOf e y.1 (if y.1 then entry0 1 .waiting else entry0 0 .waiting) y.2
        r.bad.isNone && !usesHost r.good && (r.walks.length == 0) && !r.good.isEmpty && r.good.all fun p => decide (p.1.pos + p.1.len ≤ 64 ∧ 0 < p.1.len) &&
          match p.2 with
          | .deck pa => !h.s.poisoned pa p.1.len
          | _ => false) = true ∧
    (hereOf (fun t => { t with st := { t.st with loadQ := [entry0 0 .waiting] } }) pagedCo deckUp).any (fun h =>
      (h.segOf 0).any fun e => let r := h.reachOf e false (entry0 0 .waiting) (entry0 0 .waiting).toRead
        r.bad.any (fun x => decide (x.2 = .fault 1)) && (h.readTables r).2) = true ∧
    (let m : AcEntry := { entry0 0 .waiting with mark := true };
      (hereOf (fun t => { t with st := { t.st with loadQ := [m], storeQ := [m] } }) id deckUp).any (fun h => h.works &&
        decide (h.st.loadQ = [m] ∧ ∀ y ∈ h.st.storeQ, m.id ≤ y.id) && !wide m.scope)) = true := by decide +kernel

/-- CopyAndMailboxEvents: a load of a hole; an entry of which the first of two blocks has been read, its other block in deck memory. -/
theorem witness_CopyAndMailboxEvents_loads : (hereOf (fun t => { t with st := { t.st with loadQ := [entry0 0 .waiting] } }) engineCo id).any (fun h =>
      h.works && (h.segOf 0).any fun e => (h.reachOf e false (entry0 0 .waiting) (entry0 0 .waiting).toRead).bad.any fun x => decide (x.2 = .hole)) = true ∧
    (let x : AcEntry := { entry0 0 .waiting with rows := [⟨0, 0, 128⟩], got := [(0, List.replicate 64 7)] };
      (hereOf (fun t => { t with st := { t.st with loadQ := [x] } }) (fun c => { engineCo c with info := { (engineCo c).info with
          segtab := [⟨0, false, true, true, 0, 0, 128, 0⟩] } }) deckUp).any (fun h => (h.segOf 0).any fun e =>
        let r := h.reachOf e false x x.toRead
        decide (h.st.loadQ = [x] ∧ r.walks = [] ∧ x.rep = false ∧ r.bad = none ∧ h.s.poison = []) && (r.good.all fun p => match p.2 with
          | .deck _ => true
          | _ => false) && x.accesses.any fun p => decide (p.pos = 64 ∧ p.pos + p.len ≤ x.total ∧ 0 < p.len ∧ ∀ g ∈ x.got, g.1 ≠ p.pos))) = true := by decide +kernel

/-- A sealed interval of one fly write of one byte at deck address 0. -/
def sealed0 (c : Company) : Company := { c with gateSealed := [⟨0, false, [⟨⟨0, 1, 0, 1⟩, 0, 0, none, [(0, 5)], key0, none⟩]⟩] }

/-- A descriptor of bucket 5. -/
def desc0 (kind : CKind) (ready stale : Bool) : CDesc := ⟨5, kind, .i32, .gang, 0, false, 0, 0, 0x400, 0, 32, 1, 0, ready, stale⟩

/-- Its round, with the buffer of the one member handed over or not. -/
def round0 (c : List (Nat × List Byte)) : Round := ⟨5, 0, 0, [0], [0], c, [], []⟩

/-- ReleaseAndChorusEvents: a write of a module in service, mute, and past its loss; rounds that a reduction, a broadcast and a barrier need; a stale
descriptor one cycle on; one at its time's end; a fold; ring requests none, with and without a leave and a round. -/
theorem witness_ReleaseAndChorusEvents : (hereOf id sealed0 deckUp).any (fun h => decide (h.co.gateSealed = [⟨0, false, [⟨⟨0, 1, 0, 1⟩, 0, 0, none, [(0, 5)], key0, none⟩]⟩]) &&
      !(h.s.sites[(0 : SiteId)]).mute && decide ((h.s.sites[(0 : SiteId)]).lossCue = none) && memWf h.s.mem && decide (h.s.memOrd = []) && !h.s.hole 0) = true ∧
    (hereOf id sealed0 (fun s => (deckUp s).setSite 0 fun x => { x with mute := true, lossCue := some 0 })).any (fun h =>
      (h.s.sites[(0 : SiteId)]).mute && decide ((h.s.sites[(0 : SiteId)]).lossCue ≠ none)) = true ∧
    (([.ar, .bc].all fun k => (hereOf (fun t => { t with st := { t.st with chorus := [desc0 k true false] } }) (fun c => { c with
        rounds := [round0 [(0, [])]] }) id).any (fun h => (h.chorusReady 5).any fun x => decide (x.1.kind ≠ .bar) && x.1.ready &&
        (if x.1.kind = .bc then x.2.contrib.any (fun y => y.1 == x.2.members.getD x.1.root 0) else x.2.members.all fun m => x.2.contrib.any fun y => y.1 == m)))) =
      true ∧
    (hereOf (fun t => { t with st := { t.st with chorus := [desc0 .bar false false] } }) (fun c => { c with rounds := [round0 []] }) id).any (fun h =>
      (h.chorusReady 5).any fun x => decide (x.1.kind = .bar)) = true ∧
    (hereOf (fun t => { t with st := { t.st with chorus := [desc0 .ar false true] } }) (fun c => { c with cue := 1 }) id).any (fun h =>
      decide (h.st.chorus = [desc0 .ar false true] ∧ (desc0 .ar false true).issued < h.cue)) = true ∧
    (hereOf (fun t => { t with st := { t.st with chorus := [desc0 .ar false false] } }) (fun c => { c with cue := 4096 }) id).any (fun h =>
      decide (h.st.chorus = [desc0 .ar false false] ∧ (desc0 .ar false false).issued + 4096 * (desc0 .ar false false).tmo ≤ h.cue)) = true ∧
    (let c : CombineCmd := ⟨5, .i32, .gang, 0, 0x400, 0, 1, false, 0, 0⟩;
      (hereSt fun st => { st with combine := [c] }).any (fun h => h.moving && decide (h.st.combine = [c] ∧ c.rep = false) && !h.st.storesTo (unitsOf c.spans))) =
      true ∧
    (hereOf id (fun c => { c with leaves := [0] }) id).any (fun h => decide ((∀ t ∈ h.s.tiles, t.st.ringReq = []) ∧ h.co.leaves ≠ [] ∧ h.co.rounds = [])) = true ∧
    (hereOf id (fun c => { c with leaves := [0], rounds := [round0 []] }) id).any (fun h => decide (h.co.rounds ≠ [])) = true ∧
    (hereSt id).any (fun h => decide (h.co.leaves = [])) = true := by decide +kernel

/-- ReleaseAndChorusEvents, releases: a write of a lost module before one of a module in service; a write to the host with the service site and without. -/
theorem witness_ReleaseAndChorusEvents_release : (let w (n : SiteId) (x : Option Nat) : GWrite := ⟨⟨0, 1, 0, 1⟩, n, 0, x, [(0, 5)], key0, none⟩;
    (hereOf id (fun c => { c with gateSealed := [⟨0, false, [w 1 none, w 0 none]⟩] }) (fun s => (deckUp s).setSite 1 fun x => { x with lossCue := some 0 })).any (fun h =>
      h.s.pastLoss 1 && !h.s.pastLoss 0 && !(h.s.sites[(0 : SiteId)]).mute && decide (h.co.gateSealed.flatMap (·.writes) = [w 1 none, w 0 none])) &&
    [true, false].all fun up => (hereOf id (fun c => { c with gateSealed := [⟨0, false, [w 0 (some 0)]⟩] }) (if up then deckUp else id)).any fun h =>
      (h.s.serviceUp == up) && decide ((w 0 (some 0)).host ≠ none) && !h.s.pastLoss 0) = true := by decide +kernel

/-- ReleaseAndChorusEvents: a round past a member's loss whose data was sent in time and whose was not; one join and one leave that wait for a boundary; a round that
is not over. -/
theorem witness_ReleaseAndChorusEvents_ring : ([(0, 100, true), (61, 200, false), (121, 200, false)].all fun y => (hereOf id (fun c => { c with cue := y.2.1 })
      (fun s => { s.setSite 0 fun x => { x with lossCue := some 100 } with cue := y.2.1 })).any fun h =>
        let r : Round := { round0 [] with members := [0, 1], handed := [(0, y.1)] }
        h.s.inTime h.co 0 (desc0 .ar true false) r == y.2.2) = true ∧
    ([true, false].all fun j => let q : RingReq := ⟨5, j, false, 0, 0, false⟩
      (hereOf (fun t => { t with st := { t.st with ringReq := [q] } }) (fun c => { c with cue := 1, ring := if j then [] else [0] }) id).any fun h =>
        decide (h.co.rounds = [] ∧ h.co.leaves = [] ∧ h.t.lost = false ∧ h.st.ringReq = [q] ∧ q.now = false ∧ q.rep = false ∧ q.issued < h.co.cue ∧
          h.co.ring.contains 0 = !j)) = true ∧
    (hereOf id (fun c => { c with rounds := [round0 []] }) id).any (fun h => !h.s.roundOver h.co (round0 [])) = true := by decide +kernel

/-! ### Overlays, pages, walks -/

/-- Deck memory with a walk of address 0 from a root at 0x1000 to a 2 MiB leaf. -/
def tables (leaf : Nat) (s : State) : State :=
  { s with mem := memPutAll [] (cellsAt 0x1000 (leBytes 8 0x2001) ++ cellsAt 0x2000 (leBytes 8 0x3001) ++ cellsAt 0x3000 (leBytes 8 leaf)) }

/-- An overlaid company whose one segment of two bundles stands at address 0 of its instruction space. -/
def ovlCo (c : Company) : Company := { c with info := { c.info with overlaid := true, ovTab := [(0, 2)], ovRoot := 0x1000 } }

/-- A tile that waits for a segment. -/
def fetching (t : Tile) : Tile := { t with st := { t.st with ovl := some ⟨0, 4096, false, false⟩ } }

/-- OverlayAndPageEvents, fetches: one mapped and alone, one whose root has no table. -/
theorem witness_OverlayAndPageEvents_fetch : (hereOf fetching ovlCo (fun s => tables 0x3 (deckUp s))).any (fun h => h.fetches &&
      decide (h.st.ovl = some ⟨0, 4096, false, false⟩) && decide ((h.s.fetch h.co h.t.site h.t.region 0).bad = none) &&
      decide (h.s.poison = []) && decide ((h.s.sharers key0).map (·.key) = [key0])) = true ∧
    (hereOf fetching ovlCo deckUp).any (fun h => h.fetches && decide ((h.s.fetch h.co h.t.site h.t.region 0).bad = some (1, 0))) = true := by decide +kernel

/-- A page-fault request 2^26 cycles old. -/
def req0 (cause : Nat) (kind : PfKind) (t : TileKey) : PfReq := ⟨9, 0, 0, cause, 0, 0, 0, t, kind, true⟩

/-- OverlayAndPageEvents, faults: a request in the ring, old and young, of an overlay whose tile is gone, of a suspended load, of a migration. -/
theorem witness_OverlayAndPageEvents_faults : (let s : State := { deckUp State.reset with pfReqs := [req0 1 .overlay ⟨7, 0, 0, 0⟩], pfHead := 10, cue := 2 ^ 26 };
      ((s.pfReqs.find? fun r => r.idx == 9 && r.live).any fun r => s.serviceUp && decide ((s.pfHead - 9 - 1).toNat < 2 ^ 31 ∧ r.cause ≠ 3 ∧
        r.first + 2 ^ 26 ≤ s.cue ∧ r.kind = .overlay) && (s.tileAt r.tile).isNone) = true) ∧
    State.reset.serviceUp = false ∧
    (hereOf (fun t => { t with st := { t.st with loadQ := [entry0 0 (.suspended 1 0 9)] } }) engineCo (fun s => { deckUp s with
        pfReqs := [req0 1 .load key0], cue := 2 ^ 26 })).any (fun h => decide ((req0 1 .load key0).first + 2 ^ 26 ≤ h.s.cue) &&
      ((h.s.closeReq 9).suspendedBy (req0 1 .load key0)).any fun y => decide (y.2.stage = .suspended 1 0 9) && (y.1.segOf y.2.seg).isSome) = true ∧
    (req0 3 .store key0).cause = 3 ∧ (2 ^ 26 - 1 : Nat) < (req0 1 .store key0).first + 2 ^ 26 := by decide +kernel

/-- OverlayAndPageEvents, migration: a 2 MiB page of a paged segment to a free frame: not marked yet; marked, with an entry that has read part of it; marked and
free. -/
theorem witness_OverlayAndPageEvents_migration : ([(0x200003, false), (0x20000b, true), (0x20000b, false)].all fun y =>
    let x : AcEntry := { entry0 0 .waiting with rows := [⟨0, 0, 128⟩], got := if y.2 then [(0, List.replicate 64 7)] else [] }
    (hereOf (fun t => { t with st := { t.st with loadQ := [x] } }) pagedCo (fun s => tables y.1 (deckUp s))).any (fun h =>
      (h.co.info.segtab[0]?).any fun e => e.paged && ((h.s.leafOf 0 walkLevels e.root).any fun z => decide (z.1 = 0x3000 ∧ z.2.1.aper = 0 ∧ z.2.2 = 21 ∧
          z.2.1.mig = (y.1 == 0x20000b) ∧ 0x400000 % 2 ^ z.2.2 = 0) && populatedRange 0x400000 (2 ^ z.2.2) && !h.s.hole z.2.1.pa &&
          (h.s.referenced 0 0 0 (2 ^ z.2.2) == y.2) && h.s.companies.all (fun d => d.gated.all fun w => !w.touches z.2.1.pa (2 ^ z.2.2))) && !h.s.hole 0x400000 &&
        h.s.pfReqs.all fun r => decide (r.cause ≠ 3))) = true := by
  decide +kernel

/-- TranslationWalk: a buffered translation that serves, and one that a changed entry has made void. -/
theorem witness_TranslationWalk_buffer : (let k : XlateKey := ⟨0, 0, 0, some 0⟩; let x : XlateEntry := ⟨k, 0, 21, 0, 0x200000, true, [(0x3000, 0x200007)]⟩;
    (let s : State := { tables 0x200007 (deckUp State.reset) with xlate := [x] }; (s.xlate.find? fun x => x.serves s k true 5) = some x) ∧
    (let s : State := { tables 0x400007 (deckUp State.reset) with xlate := [x] }; (s.xlate.find? fun x => x.serves s k true 5) = none)) := by decide +kernel

/-- TranslationWalk: the table a hole; an entry not valid, malformed, migrating, read-only, a leaf, a table (at level 2, va 0). -/
theorem witness_TranslationWalk : State.reset.hole 0 = true ∧ (deckUp State.reset).hole 0 = false ∧ (pteOf 0x2).v = false ∧
    ((pteOf 0x11).v = true ∧ (pteOf 0x11).malformed false 2 21 = true) ∧
    [(0xb, true, true, false), (0x3, true, false, false), (0x7, true, false, true), (0x1001, false, false, false)].all (fun y =>
      (pteOf y.1).v && !(pteOf y.1).malformed false 2 21 && ((pteOf y.1).leaf == y.2.1) && ((pteOf y.1).mig == y.2.2.1) && ((pteOf y.1).w == y.2.2.2)) = true ∧
    (let s := { deckUp State.reset with mem := memPutAll [] (cellsAt 0 (leBytes 8 0x200003)) }; memNat s.mem 0 8 = 0x200003) := by
  decide +kernel

/-! ### Companies, links, sites, power -/

/-- A tile whose overlay comes in at company cue 256, and has not come. -/
def late256 (t : Tile) : Tile := { t with st := { t.st with ovl := some ⟨0, 256, false, false⟩ } }

/-- HoldAndFreezeEvents, holds: announced for an overlay and for a level; begun, for a level wanted still and no longer; ended; not yet ended; a level 4,096
cycles on. -/
theorem witness_HoldAndFreezeEvents_holds : (hereOf late256 id id).any (fun h => decide (h.co.mode = .running ∧ h.co.fatal = none ∧ h.co.holds = [] ∧
      h.co.reefCue = none) && (h.s.tilesOf 0).any fun t => t.lateAt (h.co.cue + 256)) = true ∧
    (hereOf id (fun c => { c with wanted := 1, cue := 45, gangs := c.gangs.map fun g => { g with bin := { g.bin with book := [⟨.rb, 0, 0, 0, 300, 0, 0, 0⟩] } } })
      id).any (fun h => decide (h.co.mode = .running ∧ h.co.fatal = none ∧ h.co.holds = [] ∧ h.co.reefCue = some (h.co.cue + 256)) &&
        !(h.s.tilesOf 0).any fun t => t.lateAt (h.co.cue + 256)) = true ∧
    (hereOf late256 (fun c => { c with holds := [⟨256, .overlay⟩], cue := 256 }) id).any (fun h => h.co.carries h.s.cue &&
      decide (h.co.holds = [⟨256, .overlay⟩] ∧ 256 ≤ h.co.cue)) = true ∧
    ([0, 3].all fun w => (hereOf id (fun c => { c with holds := [⟨256, .reef 3⟩], cue := 256, wanted := w }) id).any fun h => h.co.carries h.s.cue &&
      decide (h.co.holds = [⟨256, .reef 3⟩] ∧ 256 ≤ h.co.cue ∧ (h.co.wanted = h.co.level ↔ w = 0))) = true ∧
    (hereOf late256 (fun c => { c with holds := [⟨256, .overlay⟩], cue := 256, mode := .held 0 }) id).any (fun h => decide (h.co.mode = .held 0 ∧
      256 ≤ h.co.cue) && (h.s.tilesOf h.co.num).any fun t => t.lateAt 256) = true ∧
    (hereOf id (fun c => { c with holds := [⟨256, .overlay⟩], cue := 256, mode := .held 0 }) id).any (fun h => decide (h.co.mode = .held 0) &&
      !(h.s.tilesOf h.co.num).any fun t => t.lateAt 256) = true ∧
    (hereOf id (fun c => { c with holds := [⟨256, .reef 3⟩], cue := 256, mode := .held 0 }) (fun s => { s with cue := 4096 })).any (fun h =>
      decide (h.co.mode = .held 0 ∧ h.co.holds = [⟨256, .reef 3⟩] ∧ 256 ≤ h.co.cue ∧ 0 + 4096 ≤ h.s.cue)) = true := by decide +kernel

/-- The islands of site 0 woken at deck cue 0. -/
def wokenAt0 (s : State) : State :=
  s.setSite 0 fun x => { x with regions := x.regions.map fun r => { r with islands := r.islands.map fun i => { i with woken := some 0 } } }

/-- A tile of region 1, whose trim parent is region 0. -/
def inRegion1 (t : Tile) : Tile := { t with region := 1, frz := some t.st }

/-- HoldAndFreezeEvents, freezes: announced at 2,048 cycles and at one less; taken while it runs and in a hold; saved; not rewritten without the service site;
rewritten; waiting for a trim; resumed 256 cycles after, the islands awake. -/
theorem witness_HoldAndFreezeEvents_freezes : (hereOf id id deckUp).any (fun h => decide (h.co.mode = .running ∧ h.co.freezeAt = none ∧ h.co.covering = false ∧
      h.co.fatal = none ∧ h.co.cue + 2048 ≤ 2048 ∧ 2047 < h.co.cue + 2048) && h.s.serviceUp) = true ∧
    ([.running, .held 0].all fun m => (hereOf id (fun c => { c with freezeAt := some 0, mode := m }) id).any (fun h => decide (h.co.mode = m ∧
      h.co.freezeAt = some 0 ∧ 0 ≤ h.co.cue) && (h.s.tilesOf 0).all fun u => u.st.fly.isEmpty)) = true ∧
    (hereOf id (fun c => { c with mode := .frozen false 0 }) id).any (fun h => decide (h.co.mode = .frozen false 0 ∧ h.co.fatal = none) &&
      (h.s.tileAt key0).any fun t => !t.lost) = true ∧
    (hereOf id (fun c => { c with mode := .resuming false 0 }) id).any (fun h => decide (h.co.mode = .resuming false 0) && !h.s.serviceUp) = true ∧
    (hereOf inRegion1 (fun c => { c with mode := .resuming false 0 }) deckUp).any (fun h => decide (h.co.mode = .resuming false 0) && !h.co.info.overlaid &&
      h.s.serviceUp && (h.s.tilesOf 0).all fun t => !t.lost && (h.s.parentOf t.site t.region).isSome && (h.co.gangAt t.key.gang).isSome) = true ∧
    (hereOf inRegion1 (fun c => { c with mode := .resuming true 0 }) (fun s => (deckUp s).setRegion 0 1 fun r => { r with trimFrom := some 5 })).any (fun h =>
      decide (h.co.mode = .resuming true 0 ∧ ∃ t ∈ h.s.tilesOf 0, t.lost = false ∧
        (((h.s.sites[t.site]).regions[t.region]).trimFrom).isSome = true)) = true ∧
    (hereOf (fun t => { t with frz := some t.st }) (fun c => { c with mode := .resuming true 65280 }) (fun s => wokenAt0 { s with cue := 65536 })).any (fun h =>
      decide (h.co.mode = .resuming true 65280 ∧ 65280 + 256 ≤ h.s.cue) && h.s.awake 0 0 && (h.s.tilesOf 0).all fun t => !t.lost &&
        decide (((h.s.sites[t.site]).regions[t.region]).trimFrom = none) && t.frz.isSome) = true := by decide +kernel

/-- A cause that ended a launch at deck cue 0. -/
def fatal0 : FatalCause := ⟨0x09, 0, 0, 0, none, 0, 0, false, Vector.replicate 4 0⟩

/-- LaunchAndRollbackEvents, launches: placed and awake; ended with nothing gated and with something; ended by a cause 257 cycles ago, its engines stopped and not, and
256 cycles ago; a rollback count and a hold of the greatest value. -/
theorem witness_LaunchAndRollbackEvents_launch : (hereOf id (fun c => { c with mode := .loading 69632 }) (fun s => wokenAt0 { s with cue := 69632 })).any (fun h =>
      decide (h.co.mode = .loading 69632 ∧ 69632 ≤ h.s.cue ∧ h.co.fatal = none) && h.co.info.loads.isEmpty && h.s.awake 0 4096) = true ∧
    (hereOf (fun t => { t with st := { t.st with halted := true } }) id id).any (fun h => decide (h.co.mode = .running ∧ h.co.fatal = none ∧ h.co.gateOpen = [] ∧
      h.co.gateSealed = []) && (h.s.tilesOf 0).all fun t => t.finished && t.st.loadQ.isEmpty && t.st.storeQ.isEmpty) = true ∧
    (hereOf (fun t => { t with st := { t.st with halted := true } }) (fun c => { c with gateOpen := [⟨⟨0, 1, 0, 1⟩, 0, 0, none, [(0, 5)], key0, none⟩] }) id).any (fun h =>
      decide (h.co.gateOpen ≠ []) && (h.s.tilesOf 0).all fun t => t.finished) = true ∧
    ([false, true].all fun b => (hereOf id (fun c => { c with fatal := some { fatal0 with stopped := b } }) (fun s => { s with cue := 257 })).any (fun h =>
      decide (h.co.fatal = some { fatal0 with stopped := b } ∧ fatal0.since + 257 ≤ h.s.cue) && (h.s.tileAt key0).any fun t => !t.lost)) = true ∧
    (hereOf id (fun c => { c with fatal := some fatal0 }) (fun s => { s with cue := 256 })).any (fun h => decide (h.s.cue < fatal0.since + 257)) = true ∧
    (255 ≤ 255 ∧ 2 ^ 48 - 1 < 2 ^ 48) := by decide +kernel

/-- LaunchAndRollbackEvents, errors: a second and a third rollback to one boundary, the second in a hold too, and a first with a bad image; the restart; places
of errors; a count at its top. -/
theorem witness_LaunchAndRollbackEvents_errors : ([.running, .held 0].all fun m => (hereOf id (fun c => { c with sameB := 1, mode := m }) deckUp).any (fun h =>
      decide (h.co.sameB < 2 ∧ h.co.mode = m ∧ h.co.imgRounds = [] ∧ h.co.fatal = none) && ((h.s.tilesOf 0).all fun t => !t.imgBad && t.imgTrap.isNone))) = true ∧
    (hereOf (fun t => { t with imgBad := true }) id id).any (fun h => (h.s.tilesOf 0).any fun t => t.imgBad && !t.lost) = true ∧
    (hereOf id id deckUp).any (fun h => decide (h.co.fatal = none) && !h.s.hole 0 && h.s.serviceUp && decide (winSite 0 = some 0) &&
      decide (((h.s.sites[(0 : SiteId)]).modCounts[(3 : Fin 4)]) ≠ 0xffff)) = true ∧
    ([none, some 0, some 1].all fun a => (hereOf id (fun c => { c with sameB := 2, mode := .rolling a }) id).any fun h => decide (2 ≤ h.co.sameB ∧ h.co.mode = .rolling a ∧
      h.s.cue = 0) && !h.co.info.overlaid && (h.s.tilesOf 0).all fun t => !t.lost && (h.co.gangAt t.key.gang).isSome) = true ∧
    ((State.reset.setSite 0 fun x => { x with modCounts := x.modCounts.set 3 0xffff }).sites[(0 : SiteId)]).modCounts[(3 : Fin 4)] = 0xffff := by
  decide +kernel

/-- Sites 0 and 1 in service with the two links between them trained. -/
def linked (s : State) : State :=
  let s := inState .admitted 1 (deckUp s)
  (s.setSite 0 fun x => { x with links := [2, 3] }).setSite 1 fun x => { x with links := [6, 7] }

/-- The probe's tile at the east edge of site 0 with a circuit to a tile of site 1. -/
def circuitPair (up : Bool) (lost : Bool) (s : State) : State :=
  let s := linked s
  { s with
    tiles := (s.tiles.map fun t => { t with region := 1, lost := lost }) ++ s.tiles.map fun t =>
      { t with key := { t.key with gang := 1 }, site := 1, region := 0, lost := lost }
    circuits := [⟨0, (key0, .e), ({ key0 with gang := 1 }, .w), [⟨0, 2⟩], up, none⟩] }

/-- A region that asked for an exchange at deck cue 512 with a site in a state, the region's training count at `loads` and `zeros`. -/
def trimming (n : SiteId) (q : Fin 4) (x : SiteState) (loads zeros : Nat) (s : State) : State :=
  (inState x n { linked s with cue := 512 }).setRegion n q fun r => { r with trimFrom := some 512, loads := loads, zeros := zeros }

/-- What a follower's clauses of LinkAndTrimEvents ask for, stamps apart. -/
def trims (s : State) (n : SiteId) (q : Fin 4) (t1 t2 t4 : W64) : Bool :=
  (s.parentOf n q).any fun p => (s.parentAt n p).any fun y => !s.pastLoss n && !s.pastLoss y.1 && stampsFit (s.counter n q) (s.counter y.1 y.2) t1 t2 t4

/-- LinkAndTrimEvents, trims: the root's anchor without a parent; a stitch, a link and a command link; corrections of 2 and 3 in service; the first and the second
exchange in TRAINING, the last of them; stamps that fit over the longest exchange and not; counters forward, back by 2 held and past. -/
theorem witness_LinkAndTrimEvents_trims : (linked State.reset).parentOf 0 0 = none ∧
    (let s := trimming 0 1 .admitted 0 0 State.reset; s.parentOf 0 1 = some (.stitch 0) ∧ (s.sites[(0 : SiteId)]).state ≠ .training ∧
      trims s 0 1 0 250 512 = true ∧ (trimD 0 250 512).natAbs = 2 ∧ trims s 0 1 0 251 512 = true ∧ (trimD 0 251 512).natAbs = 3 ∧
      trims s 0 1 511 0 512 = false ∧
      ((s.sites[(0 : SiteId)]).regions[(1 : Fin 4)]).trimFrom = some 512 ∧ 512 ≤ s.cue) ∧
    (let s := trimming 1 0 .training 0 0 State.reset; s.parentOf 1 0 = some (.link ⟨1, 7⟩) ∧ (s.sites[(1 : SiteId)]).state = .training ∧
      trims s 1 0 0 450 512 = true ∧ 2 < (trimD 0 450 512).natAbs ∧ ((s.sites[(1 : SiteId)]).regions[(0 : Fin 4)]).loads = 0) ∧
    (let s := trimming 1 0 .training 7 1 State.reset; trims s 1 0 0 248 512 = true ∧ trimD 0 248 512 = 0 ∧
      0 < ((s.sites[(1 : SiteId)]).regions[(0 : Fin 4)]).loads ∧ ((s.sites[(1 : SiteId)]).regions[(0 : Fin 4)]).loads < 8 ∧
      ((s.sites[(1 : SiteId)]).regions[(0 : Fin 4)]).zeros < 2) ∧
    (linked State.reset).parentOf siteS 0 = some .command ∧
    ((0 : Int) ≤ 1 ∧ (Region.reset).heldTo ≤ 0) ∧ ((-2 : Int) < 0 ∧ (5 : Nat) < 4 + (-2 : Int).natAbs ∧ ¬(6 : Nat) < 4 + (-2 : Int).natAbs) := by decide +kernel

/-- A tile with a measurement of its east side due. -/
def dueEast (s : State) : State := { s with tiles := s.tiles.map fun t => { t with ofsDue := t.ofsDue.set (sideNo .e) true } }

/-- LinkAndTrimEvents, the rest: a tile's crossing with a measurement due; circuits that stand and do not; one down whose own route fits, and a route that is not
the one chosen; a link that serves and one that does not. -/
theorem witness_LinkAndTrimEvents : ((dueEast { pairOf 15 id with cue := 512 }).hereAt key0).any (fun h => (h.s.crossing h.gang key0 .e).any (fun x => x.up &&
      (h.s.tileAt x.peer).any fun u => h.t.ofsDue[sideNo .e] && stampsFit (h.s.counter h.t.site h.t.region) (h.s.counter u.site u.region) 0 256 512)) = true ∧
    (let s := circuitPair true false (State.reset.withBundle 0);
      (s.circuits[0]?).any fun c => s.circuitStands c && c.up) = true ∧
    (let s : State := { circuitPair true false (State.reset.withBundle 0) with linksOut := [⟨0, 2⟩] }; (s.circuits[0]?).any fun c => !s.circuitStands c) = true ∧
    (let s := circuitPair false false (State.reset.withBundle 0);
      (s.circuits[0]?).any fun c => !c.up && (s.circuitEnds c).any fun e => !e.1.1.lost && !e.2.1.lost && s.routeFits e.1 e.2 c.route &&
        s.routeRoom 0 c.route && decide (s.chosenRoute 0 c = some [⟨0, 2⟩]) && decide (s.chosenRoute 0 c ≠ some [])) = true ∧
    (linked State.reset).linkUp ⟨0, 2⟩ = true ∧ State.reset.linkUp ⟨0, 2⟩ = false ∧ (linked State.reset).linksOut.contains ⟨0, 2⟩ = false := by
  decide +kernel

/-- A site changed. -/
def siteIs (n : SiteId) (f : Site → Site) (s : State) : State := s.setSite n f

/-- SiteEvents, contacts and phases, each at the cue its time runs out. -/
theorem witness_SiteEvents_phases : (let s := siteIs 3 (fun x => { x with closedSince := some 0 }) { State.reset with cue := 2 ^ 22 };
      (s.sites[(3 : SiteId)]).state = .empty ∧ s.awaits 3 .seated = false ∧ (s.sites[(3 : SiteId)]).closedSince = some 0 ∧ 0 + 2 ^ 22 ≤ s.cue) ∧
    ([SiteState.lost, .faulted].all fun y => let s := siteIs 3 (fun x => { x with state := y, openSince := some 0 }) { State.reset with cue := 2 ^ 22 };
      decide ((s.sites[(3 : SiteId)]).state = y ∧ s.awaits 3 .empty = false ∧ (s.sites[(3 : SiteId)]).openSince = some 0)) = true ∧
    (let s := siteIs 3 (fun x => { x with state := .powering, present := true, clamp := true }) { State.reset with cue := 2 ^ 26 - 1 };
      (s.sites[(3 : SiteId)]).present = true ∧ (s.sites[(3 : SiteId)]).clamp = true ∧ s.inPhase 3 .powering = true ∧
        (s.sites[(3 : SiteId)]).state.powered = true ∧ s.cue < (s.sites[(3 : SiteId)]).phaseSince + 2 ^ 26) ∧
    ([(SiteState.powering, 2 ^ 26, 5), (.testing, 2 ^ 34, 13), (.training, 2 ^ 30, 13)].all fun y =>
      let s := siteIs 3 (fun x => { x with state := y.1 }) { State.reset with cue := y.2.1 }
      decide (phaseLimit (s.sites[(3 : SiteId)]).state = some (y.2.1, y.2.2)) && s.inPhase 3 (s.sites[(3 : SiteId)]).state &&
        decide ((s.sites[(3 : SiteId)]).phaseSince + y.2.1 ≤ s.cue)) = true ∧
    (let s := siteIs 3 (fun x => { x with state := .admitted, stage := true, keepAlive := 0 }) (deckUp { State.reset with cue := 256000 });
      (s.sites[(3 : SiteId)]).stage = true ∧ (s.sites[(3 : SiteId)]).openAt = none ∧ (s.sites[(3 : SiteId)]).state.up = true ∧
        (s.sites[(3 : SiteId)]).state.powered = true ∧ (s.sites[(3 : SiteId)]).keepAlive + 256000 ≤ s.cue ∧ (s.sites[(3 : SiteId)]).mute = false ∧
        s.losing 3 3 = false ∧ s.kept = true ∧ ∀ d ∈ s.decisions, d.site ≠ 3) ∧
    (let s := siteIs 3 (fun x => { x with stage := true, openAt := some 5 }) { State.reset with cue := 5 }; (s.sites[(3 : SiteId)]).stage = true ∧
      (s.sites[(3 : SiteId)]).openAt = some 5 ∧ 5 ≤ s.cue) ∧
    (let s := siteIs 3 (fun x => { x with state := .admitted, mute := true, keepAlive := 0 }) { State.reset with cue := 4096 };
      (s.sites[(3 : SiteId)]).state.powered = true ∧ (s.sites[(3 : SiteId)]).mute = true ∧ (s.sites[(3 : SiteId)]).keepAlive + 4096 ≤ s.cue) := by
  decide +kernel

/-- A site in TRAINING whose links have trained, its counters' exchanges at `loads` and `zeros`. -/
def trainedSite (loads zeros : Nat) (s : State) : State :=
  siteIs 1 (fun x => { x with state := .training, trained := true, regions := x.regions.map fun r => { r with loads := loads, zeros := zeros } }) (linked s)

/-- SiteEvents, tests, training, commands, transitions: a site under test; one whose links train, whose trim goes on, is done, has failed; a site in each state
that a command asks for, and in another; decisions due and not, void and not. -/
theorem witness_SiteEvents_commands : (inState .testing 3 State.reset).inPhase 3 .testing = true ∧ testFails ⟨[], true, true⟩ = false ∧
    (let s := inState .training 1 (deckUp State.reset); s.inPhase 1 .training = true ∧ s.trainable 1 6 = true ∧ (s.sites[(1 : SiteId)]).trained = false ∧
      (linkPeer ⟨1, 6⟩).isSome = true) ∧
    (let s := trainedSite 7 1 State.reset; s.inPhase 1 .training = true ∧ (s.sites[(1 : SiteId)]).trained = true ∧ s.trimFailed 1 = false ∧ s.trimDone 1 = false) ∧
    (let s := trainedSite 8 2 State.reset; s.trimFailed 1 = false ∧ s.trimDone 1 = true ∧ (1 : SiteId) ≠ siteS ∧ isCompute 1 = true ∧ s.railLive 1 0 = true ∧
      (s.parentOf 1 0).isSome = true) ∧
    (trainedSite 8 1 State.reset).trimFailed 1 = true ∧
    (let s := inState .seated 3 (deckUp State.reset); s.serviceUp = true ∧ (s.sites[(3 : SiteId)]).state = .seated ∧
      (s.sites[(3 : SiteId)]).state.serving = false ∧ s.openedNow 3 = false ∧ (3 : SiteId) ≠ siteS) ∧
    (let s := inState .draining 3 (inState .admitted 4 (deckUp State.reset)); (s.sites[(3 : SiteId)]).state = .draining ∧
      (s.sites[(4 : SiteId)]).state.serving = true ∧ s.openedNow 4 = false) ∧
    ([SiteState.released, .lost, .faulted].all fun y => let s := siteIs 3 (fun x => { x with state := y, present := true, clamp := true }) (deckUp State.reset);
      s.serviceUp && decide ((s.sites[(3 : SiteId)]).state = y ∧ (s.sites[(3 : SiteId)]).present = true ∧ (s.sites[(3 : SiteId)]).clamp = true)) = true ∧
    transits .training .empty = false ∧ transits .training .admitted = true ∧
    (let s := inState .seated 3 State.reset; let d : Decision := ⟨4096, 3, .lost, 1, true⟩; d.opening = true ∧ (s.sites[d.site]).state = .seated) ∧
    (let s : State := { State.reset with cue := 4096, decisions := [⟨4096, 3, .seated, 0, false⟩] }; (∃ x ∈ s.decisions, x.effect ≤ s.firstCue) ∧
      ((s.transit ⟨4096, 3, .seated, 0, false⟩).sites[(3 : SiteId)]).state ≠ (s.sites[(3 : SiteId)]).state) ∧
    (let s : State := { State.reset with cue := 4096, decisions := [⟨4096, 3, .admitted, 0, false⟩] }; (∃ x ∈ s.decisions, x.effect ≤ s.firstCue) ∧
      (∀ x ∈ s.decisions, x.effect ≤ s.firstCue → transits (s.sites[x.site]).state (x.resolve s.sites[x.site]).to_ = false) ∧ s.changes = [] ∧
      s.circuits = [] ∧ s.ops = []) ∧
    (∀ x ∈ State.reset.decisions, State.reset.firstCue < x.effect) ∧ State.reset.changes = [] := by decide +kernel

/-- SiteEvents, the copies of the site table: a transition of site 3 that region 0 of site 0 has reached, by its own counter two ahead of the reference,
and one that it has not. -/
theorem witness_SiteEvents_copies :
    [(4098, true), (4099, false)].all (fun y =>
      let s := inState .admitted 0 (pairOf 0 id)
      let s : State := { s with cue := 4096, changes := [⟨y.1, 3, .empty, 0, 0, 0, [(0, 0)], []⟩], sites := s.sites.set 0 { s.sites[(0 : SiteId)] with
        regions := (s.sites[(0 : SiteId)]).regions.map fun r => { r with offset := 2 } } }
      (s.tileAt key0).any (fun (u : Tile) => decide (u.lost = false ∧ u.site = 0 ∧ u.region = 0)) && !s.notStarted key0.co && (s.sites[(0 : SiteId)]).state.up &&
        decide ((∃ c ∈ s.changes, ((0 : SiteId), (0 : Fin 4)) ∈ c.ahead ∧ (c.effect : Int) ≤ s.counter 0 0) ↔ y.2 = true)) = true := by decide +kernel

/-- An island with a temperature, failed or not, woken or not. -/
def islandOf0 (temp : BitVec 8) (failed : Bool) (woken : Option Nat) : Island := ⟨temp, 0, 0, 0, failed, woken⟩

/-- PowerEvents: an island not failed with a tile of the gang on it and one off it; a region with a tile of the gang in it and one outside; the bus a hundredth of
a volt below 45 V and at it; low for 4,096 cycles; a site hot, hot and over its power, cool for 2^26; a sensor at 110 degrees; a sensor's multiple of 4,096
and not, of a module with islands and of one without; islands failed, awake under a company, and without one. -/
theorem witness_PowerEvents : (let s := pairOf 0 id;
      let s : State := { s with tiles := s.tiles.map fun t => if t.key = key1 then { t with row := 1 } else t };
      (((s.sites[(0 : SiteId)]).regions[(0 : Fin 4)]).islands[(0 : Fin 32)]).failed = false ∧ s.railLive 0 0 = true ∧
      (s.tileAt key0).any (fun u => decide (u.site = 0 ∧ u.region = 0 ∧ s.islandOf u = 0 ∧ u.lost = false)) = true ∧
      (s.tileAt key1).any (fun u => decide (u.site = 0 ∧ u.region = 0 ∧ s.islandOf u ≠ 0 ∧ u.lost = false)) = true ∧ key1.gang = key0.gang ∧
      s.islandLevel 0 0 0 = some 0 ∧ (((s.sites[(0 : SiteId)]).regions[(0 : Fin 4)]).islands[(0 : Fin 32)]).woken = none) ∧
    (let s := pairOf 0 id; let s : State := { s with tiles := s.tiles.map fun t => if t.key = key1 then { t with region := 1 } else t };
      s.railLive 0 0 = true ∧ (s.tileAt key0).any (fun u => decide (u.site = 0 ∧ u.region = 0 ∧ u.lost = false)) = true ∧
      (s.tileAt key1).any (fun u => decide (u.region = 1 ∧ u.lost = false)) = true) ∧
    (4499#16).toNat < 4500 ∧ 4500 ≤ (4500#16).toNat ∧
    (let s : State := { deckUp State.reset with busLowSince := some 0, cue := 4096 }; s.busLowSince = some 0 ∧ 0 + 4096 ≤ s.cue ∧ s.serviceUp = true) ∧
    ([none, some (2 ^ 26)].all fun w => let s := siteIs 3 (fun x => { x with hotNext := some 0, warmNext := w, coolSince := some 0 }) ({ deckUp State.reset with cue := 2 ^ 26 } : State)
      decide (s.serviceUp = true ∧ (3 : SiteId).val < 8 ∧ s.deckHotSince = none ∧ (s.sites[(3 : SiteId)]).hotNext = some 0 ∧ (s.sites[(3 : SiteId)]).warmNext = w ∧
        (∀ c ∈ w, c ≤ s.cue) ∧ (s.sites[(3 : SiteId)]).coolSince = some 0 ∧ 0 + 2 ^ 26 ≤ s.cue)) = true ∧
    (let s := siteIs 3 (fun x => { x with stage := true, state := .admitted, tmax := 110 }) State.reset;
      (s.sites[(3 : SiteId)]).stage = true ∧ (s.sites[(3 : SiteId)]).state.up = true ∧ 110 ≤ ((s.sites[(3 : SiteId)]).tmax).toNat ∧ s.cue % 4096 = 0 ∧
      (s.sites[(3 : SiteId)]).state.powered = true) ∧
    (let s := inState .admitted 8 State.reset; 8 ≤ (8 : SiteId).val ∧ s.cue % 4096 = 0 ∧ (s.sites[(8 : SiteId)]).state.powered = true) ∧ 4097 % 4096 ≠ 0 ∧
    (islandOf0 0 true none).failed = true ∧ (islandOf0 0 false none).woken = none ∧ (islandOf0 0 false (some 0)).woken.isSome = true := by decide +kernel

/-! ### Events of the host interface -/

/-- A packet of type `t` with its argument, its completion word posted to mailbox word 5 where `done`, and the words after the first. -/
def packetOf (t : Nat) (done : Bool) (arg : Nat) (ws : List Nat) : Packet :=
  Vector.ofFn fun i => BitVec.ofNat 64 (if i.val = 0 then t * 2 ^ 56 + (if done then 2 ^ 52 + 5 * 2 ^ 32 else 0) + arg else ws.getD (i.val - 1) 0)

/-- Queue 3 changed, the deck in service. -/
def queue3 (f : Queue → Queue) (s : State) : State := let s := deckUp s; { s with queues := s.queues.set 3 (f (s.queues[(3 : Fin 64)])) }

/-- Queue 3 with a packet in hand. -/
def inHand (p : Packet) (s : State) : State := queue3 (fun x => { x with packet := some p }) s

/-- QueueEvents: a doorbell that fills a queue of sixteen and one more; a queue that runs, one stopped; a stage manager that answers and none; a ready queue with
packets of each kind and with one that is not well formed. -/
theorem witness_QueueEvents : (let s := deckUp State.reset; s.hostReaches = true ∧ s.accepts = true ∧ (s.queues[(3 : Fin 64)]).stopped = false ∧
      ¬2 ^ (s.queues[(3 : Fin 64)]).log2n < ((16 : W32) - (s.queues[(3 : Fin 64)]).head).toNat ∧
      2 ^ (s.queues[(3 : Fin 64)]).log2n < ((17 : W32) - (s.queues[(3 : Fin 64)]).head).toNat ∧ s.nextQueue = 0 ∧
      (s.queues[s.nextQueue]).ready = false) ∧
    State.reset.hostReaches = false ∧
    (let s := queue3 (fun x => { x with stopped := true }) State.reset; (s.queues[(3 : Fin 64)]).stopped = true ∧ (s.queues[(3 : Fin 64)]).chain = []) ∧
    (let s := queue3 (fun x => { x with enable := true, tail := 1 }) { State.reset with nextQueue := 3 }; (s.queues[s.nextQueue]).ready = true) ∧
    packetOk (packetOf 0 false 1 []) = false ∧
    [packetOf 0 false 0 [], packetOf 1 true 0 [0, 16 * 2 ^ 32, 64, 256, 0, 0, 0], packetOf 2 true 0 [0, 64, 64], packetOf 3 true 0 [0, 0, 0, 64], packetOf 4 true 0xfff [7],
      packetOf 5 true 0x1fff [], packetOf 6 true (0 * 2 ^ 30) [], packetOf 6 true (1 * 2 ^ 30) [0, 64], packetOf 6 true (2 * 2 ^ 30) [], packetOf 7 false 0 [0, 0],
      packetOf 8 true 0 [], packetOf 9 true 0x7fff [], packetOf 9 true 0xffff []].all packetOk = true := by decide +kernel

/-- PacketEvents, in hand: each packet that completes at issue, one that completes later, those that block, and what frees them. -/
theorem witness_PacketEvents_hand : (let s := inHand (packetOf 0 true 0 []) State.reset; s.accepts = true ∧ (s.queues[(3 : Fin 64)]).packet = some (packetOf 0 true 0 []) ∧
      (s.queues[(3 : Fin 64)]).chain = [] ∧ (s.queues[(3 : Fin 64)]).live = [] ∧ pkPost (packetOf 0 true 0 []) = some 5 ∧ s.launches = [] ∧ s.companies = []) ∧
    (let p := packetOf 4 true 0xfff [7]; let s := inHand p State.reset; (s.mb (pkWord p)).full = false ∧ s.behind 3 p = false ∧
      ((s.mbSet 0xfff ⟨0, true⟩).mb (pkWord p)).full = true) ∧
    (let p := packetOf 5 true 0x1fff []; let s := (inHand p State.reset).mbSet 0xfff ⟨0, true⟩; (s.mb (pkWord p)).full = true ∧ s.behind 3 p = false ∧ bit p[0] 12 = true ∧
      bit (packetOf 5 true 0xfff [])[0] 12 = false ∧ (State.reset.mb (pkWord p)).full = false) ∧
    (let s : State := { inHand (packetOf 8 true 0 []) State.reset with ops := [⟨0, 3, .unloadData, none⟩] }; (∃ o ∈ s.ops, o.queue = (3 : Fin 64).val) ∧
      s.free? 3 (packetOf 8 true 0 []) = false) ∧
    (let s := queue3 (fun x => { x with packet := some (packetOf 8 true 0 []), blocked := some 0 }) State.reset; (s.queues[(3 : Fin 64)]).blocked ≠ none ∧
      s.free? 3 (packetOf 8 true 0 []) = true ∧ ∀ o ∈ s.ops, o.queue ≠ (3 : Fin 64).val) ∧
    (let s := inHand (packetOf 7 false 0 [2 ^ 62, 0]) State.reset; aperOf (packetOf 7 false 0 [2 ^ 62, 0])[1] ≠ aperOf (s.queues[(3 : Fin 64)]).qbase) ∧
    (let s := queue3 (fun x => { x with packet := some (packetOf 7 false 0 [0, 0]), chain := List.replicate 4 ⟨0, 1, 0⟩ }) State.reset;
      4 ≤ (s.queues[(3 : Fin 64)]).live.length) := by decide +kernel

/-- A launch of queue 3 with completion word 5, its one gang detached or not. -/
def company3 (detached : Bool) (c : Company) : Company :=
  { c with info := { c.info with queue := 3, cmb := 5 }, gangs := c.gangs.map fun g => { g with detached := detached } }

/-- PacketEvents, rejoins: no such launch, a gang in place, one detached; a request to withdraw and none. -/
theorem witness_PacketEvents_rejoin : (let p := packetOf 9 true 5 []; pkType p = 9 ∧ bit p[0] 15 = false ∧ pkWord p = 5 ∧ bits p[0] 14 12 = 0 ∧
      (inHand p State.reset).companies.find? (fun c => c.info.queue == (3 : Fin 64).val && c.info.cmb == pkWord p) = none) ∧
    ([true, false].all fun d => (hereOf id (company3 d) (inHand (packetOf 9 true 5 []))).any fun h => (h.s.companies.find? fun c => c.info.queue == (3 : Fin 64).val &&
      c.info.cmb == 5).any fun c => (c.gangAt 0).any fun y => y.detached == d) = true ∧
    (let s : State := { inHand (packetOf 9 true 0x8005 []) State.reset with ops := [⟨0, 3, .rejoin 5 0 .waiting, none⟩] }; bit (packetOf 9 true 0x8005 [])[0] 15 = true ∧
      s.ops = [⟨0, 3, .rejoin 5 0 .waiting, none⟩] ∧ pkWord (packetOf 9 true 0x8005 []) = 5 ∧ bits (packetOf 9 true 0x8005 [])[0] 14 12 = 0) ∧
    State.reset.ops = [] := by decide +kernel

/-- A binary of one gang with no section, at deck address 0, a segment of 64 bytes that may be read at 64, no binding at 256 (03 R93, 10 R270). -/
def launchMemory (s : State) : State :=
  { s with mem := memPutAll [] (cellsAt 0 (leBytes 4 0x6c756866 ++ [0, 1, 16, 0] ++ leBytes 2 1) ++ cellsAt 64 (leBytes 8 (2 ^ 60)) ++ cellsAt 80 (leBytes 8 64)) }

/-- The LAUNCH of that binary. -/
def launch0 : Packet := packetOf 1 true 0 [0, 16 * 2 ^ 32, 64, 256, 0, 0, 0]

/-- PacketEvents, LAUNCH: a binary that every check passes, and one refused with IMAGE. -/
theorem witness_PacketEvents_launch : (let s := inHand launch0 (launchMemory State.reset); packetOk launch0 = true ∧
      s.launchRefusal launch0 (s.imageOf launch0) [] = none ∧ (s.queues[(3 : Fin 64)]).bound = [] ∧ pkPost launch0 = some 5 ∧ ∀ o ∈ s.ops, o.id < s.nextOp) ∧
    (let s := inHand launch0 State.reset; s.launchRefusal launch0 (s.imageOf launch0) [] = some 0x35) := by decide +kernel

/-- A pending copy of 65 bytes, its first block moved or not. -/
def copyOp (dst : W64) (moved : List Nat) : PendOp := ⟨7, 3, .copy 0 dst 65 none moved, some 5⟩

/-- A launch of one tile pinned to site 0. -/
def pinnedLaunch : LaunchInfo := { probeLaunch 0 (probeGang [0]) with pins := [2 ^ 63] }

/-- A company whose code crosses no side lays out no circuit. -/
theorem layouts_nil (s : State) (c : Company) (t : Tile) (d : Side) (h : ∀ g ∈ c.gangs, ∀ d, g.bin.crosses d = false) : s.layouts c t d = [] := by
  have no : c.ends t d = false := by
    unfold Company.ends
    cases hg : c.gangAt t.key.gang with
    | none => simp
    | some g => simp [h g (List.mem_of_find?_eq_some hg)]
  unfold State.layouts
  cases t.endLink d <;> simp [no]

theorem circuitsFit_of_no_crossing (s : State) (c : Company) (h : ∀ g ∈ c.gangs, ∀ d, g.bin.crosses d = false) : s.circuitsFit c = true := by
  simp [State.circuitsFit, layouts_nil s c _ _ h]

/-- A fold whose steps change nothing. -/
theorem foldl_same {α β : Type} (f : β → α → β) (b : β) (l : List α) (h : ∀ a, f b a = b) : l.foldl f b = b := by
  induction l with
  | nil => rfl
  | cons a r ih => simpa [h a] using ih

theorem addCircuits_of_no_crossing (s : State) (c : Company) (h : ∀ g ∈ c.gangs, ∀ d, g.bin.crosses d = false) : s.addCircuits c = s :=
  foldl_same _ _ _ fun _ => foldl_same _ _ _ fun _ => foldl_same _ _ _ fun _ => by
    simp [State.circuitFrom, layouts_nil _ c _ _ h]

/-- The gangs of a new company are those of its launch. -/
theorem mkCompany_bins (n : Nat) (i : LaunchInfo) (ps : List Spot) (a b : Nat) (v : Bool) (g : Gang) (h : g ∈ (mkCompany n i ps a b v).gangs) :
    g.bin ∈ i.gangs := by
  simp only [mkCompany, List.mem_map] at h
  obtain ⟨x, hx, rfl⟩ := h
  exact (List.of_mem_zip (List.mem_zipIdx hx |>.2.2 ▸ List.getElem_mem _)).1

/-- A launch that crosses no side is placed with every circuit it asks for. -/
theorem circuitsFit_pinned (s : State) (ps : List Spot) (d : Company) (hs : s.companies = []) (h : (s.placeAt pinnedLaunch ps).companies = [d]) :
    (s.placeAt pinnedLaunch ps).circuitsFit d = true := by
  have nc : ∀ b ∈ pinnedLaunch.gangs, ∀ d, b.crosses d = false := by
    intro b hb d
    have : b = probeGang [0] := by simpa [pinnedLaunch, probeLaunch] using hb
    subst this
    cases d <;> decide +kernel
  have no (n a b : Nat) (v : Bool) : ∀ g ∈ (mkCompany n pinnedLaunch ps a b v).gangs, ∀ d, g.bin.crosses d = false :=
    fun g hg => nc _ (mkCompany_bins _ _ _ _ _ _ g hg)
  have ov : pinnedLaunch.overlaid = false := rfl
  apply circuitsFit_of_no_crossing
  simp [State.placeAt, addCircuits_of_no_crossing _ _ (no _ _ _ _), State.loadSegments, ov, hs] at h
  exact h ▸ no _ _ _ _

/-- PacketEvents, completions: a copy within the deck, of which nothing or one block has moved, and one to the network; an unload done and one with its launch
present; a weight load of 64 bytes with its memory there and not; a launch placed by its pin (its circuits: `circuitsFit_pinned`). -/
theorem witness_PacketEvents_completions : ([[], [0]].all fun m => let s : State := { deckUp State.reset with ops := [copyOp 128 m] };
      decide ((s.ops.find? fun o => o.id == 7) = some (copyOp 128 m) ∧ s.accepts = true ∧ aperOf 0 = 0 ∧ aperOf 128 = 0 ∧
        s.serviceUp = true ∧ (copyOp 128 m).done = some 5) && (List.range 65).all fun i => !s.hole (addrOf 0 + i) && !s.hole (addrOf 128 + i)) = true ∧
    aperOf (2 ^ 63) = 2 ∧
    (let o : PendOp := ⟨7, 3, .unloadLaunch 5, none⟩; (deckUp State.reset).unloaded o = true ∧
      (hereOf id (company3 false) deckUp).any (fun h => !h.s.unloaded o) = true) ∧
    (let l : WLoad := ⟨7, 0, 0, 0, 0, 1, 1, 0, 0, 64⟩;
      (hereOf id (fun c => { c with mode := .loading 5000, info := { c.info with loads := [l] } }) deckUp).any (fun h => decide (h.co.mode = .loading 5000 ∧
        h.co.fatal = none ∧ h.co.info.loads = [l]) && (h.s.applyLoad 0 l).2 && !h.s.hole 0 && (h.s.tileAt (l.tile 0 0 0)).isSome) &&
      (hereOf id (fun c => { c with mode := .loading 5000, info := { c.info with loads := [l] } }) id).any (fun h => !(h.s.applyLoad 0 l).2)) = true ∧
    (let s : State := { deckUp State.reset with launches := [pinnedLaunch] }; s.accepts = true ∧ s.launches = [pinnedLaunch] ∧ s.companies = [] ∧
      (s.seek pinnedLaunch []).isSome = true) := by decide +kernel

/-- PacketEvents, REJOIN_GANG_START: one past the boundary a request was given, its site there and past its loss. -/
theorem witness_PacketEvents_rejoinGang : ([none, some 0].all fun l => (hereOf id (fun c => { company3 true c with cue := 1 }) (fun s =>
      siteIs 0 (fun x => { x with lossCue := l }) { s with ops := [⟨7, 3, .rejoin 5 0 (.starts 0), none⟩] })).any
    (fun h => (h.co.gangAt 0).any fun x => decide (h.s.rejoinsOf h.co.info (some x.idx) = [⟨7, 3, .rejoin 5 0 (.starts 0), none⟩] ∧ h.co.cue = 0 + 1) &&
      h.co.carries h.s.cue && (h.s.pastLoss x.site == l.isSome) && !h.s.pastLoss siteS && h.s.circuits.isEmpty)) = true := by decide +kernel

/-- Peer 15 with a range of four bytes at 0. -/
def withPeer (s : State) : State := { deckUp s with peers := s.peers.set 15 ⟨0, 0, 0, 0, 4, true, 0⟩ }

/-- HostEvents: memory in service, a decoder over it and none; a decoder of the least size, one past the module's memory; offsets of each register; a peer whose
range holds four bytes and not, a mailbox word empty and full. -/
theorem witness_HostEvents : (let s : State := { deckUp State.reset with hdm := [⟨0, 0, 0, 0x10000000⟩] }; s.accepts = true ∧ s.memOrd = [] ∧ memWf s.mem = true ∧
      memWf s.weights = true ∧ (∀ j < 4, s.hole (0 + j) = false) ∧ s.fw.mode ≠ .recovery ∧ s.decoded 0 0x0ffffffc 4 = true ∧ s.decoded 0 0x0ffffffc 5 = false ∧
      s.decoded 1 0 4 = false) ∧
    (0x10000000#48 ≠ 0 ∧ (0x10000000#48).toNat % 0x10000000 = 0 ∧ populatedRange 0 0x10000000 = true ∧ populatedRange 0x100000000000 0x10000000 = false) ∧
    ((0x1f8#25).toNat % 8 = 0 ∧ (0x1f8#25).toNat < 0x200 ∧ (0x2008#25).toNat = 0x2008 ∧ (0x2010#25).toNat = 0x2010 ∧ (0x2028#25).toNat = 0x2028 ∧
      (0x348#25).toNat = 0x348 ∧ (1#25).toNat % 8 ≠ 0) ∧
    (let s := withPeer State.reset; (s.peers[(15 : Fin 16)]).up = true ∧ s.accepts = true ∧ s.netPuts = [] ∧ (s.mb 4095).full = false ∧
      ((s.mbSet 4095 ⟨0, true⟩).mb 4095).full = true ∧ (0xfffabcde#32).toNat / 2 ^ 20 = 4095 ∧
      ((s.peers[(15 : Fin 16)]).base ≤ 0 ∧ 0 + 4 ≤ (s.peers[(15 : Fin 16)]).base + (s.peers[(15 : Fin 16)]).len) ∧
      ¬((s.peers[(15 : Fin 16)]).base ≤ 0 ∧ 0 + 5 ≤ (s.peers[(15 : Fin 16)]).base + (s.peers[(15 : Fin 16)]).len)) := by decide +kernel

/-- FirmwareEvents: each mode, strap and jumper both ways; an update begun, verified and written; command links both ways: a receiver that is there and one that is not,
with sixteen permits, none, and none for 2^20 cycles. (Which images and records verify is the opaque functions' to say, log 9: those clauses split on the answer.) -/
theorem witness_FirmwareEvents : (let s : State := { State.reset with fw := { Firmware.reset with mode := .recovery } }; s.fw.mode = .recovery ∧ s.fw.strap = false) ∧
    State.reset.fw.mode ≠ .recovery ∧ (deckUp State.reset).accepts = true ∧ State.reset.fw.jumper = false ∧
    (let s : State := { deckUp State.reset with fw := { (deckUp State.reset).fw with jumper := true } }; s.accepts = true ∧ s.fw.jumper = true) ∧
    ([0, 1, 2].all fun u => let s : State := { deckUp State.reset with fw := { (deckUp State.reset).fw with updStat := u } }; s.accepts && s.fw.updStat == u) = true ∧
    (let s : State := { State.reset with fw := { Firmware.reset with mode := .restarting 5 } }; s.fw.mode = .restarting 5) ∧
    (let s := siteIs 3 (fun x => { x with state := .admitted, mute := true, permits := #v[1, 0] }) (deckUp State.reset); (s.sites[(3 : SiteId)]).state.powered = true ∧
      (s.sites[(3 : SiteId)]).mute = true ∧ s.serviceThere = true ∧ 0 < (s.sites[(3 : SiteId)]).permits[(0 : Fin 2)] ∧
      (s.sites[(3 : SiteId)]).permits[(1 : Fin 2)] = 0 ∧ (s.sites[(3 : SiteId)]).permitSince[(1 : Fin 2)] = none) ∧
    (let s := inState .admitted 3 (deckUp State.reset); s.serviceThere = true ∧ (s.sites[(3 : SiteId)]).state.powered = true ∧ (s.sites[(3 : SiteId)]).mute = false) ∧
    (let s := inState .admitted 3 State.reset; s.serviceThere = false ∧ (s.sites[(3 : SiteId)]).state.powered = true ∧
      (s.sites[(3 : SiteId)]).permits[(1 : Fin 2)] = 16) ∧
    (let s := siteIs 3 (fun x => { x with waitingMsgs := #v[1, 1], permitSince := #v[some 0, some 0] })
        (inState .admitted 3 (deckUp { State.reset with cue := 2 ^ 20 }));
      [(false, (3 : SiteId)), (true, siteS)].all fun y => (s.sites[y.2]).state.powered && !s.losing y.2 3 && decide (s.fw.mode = .running) &&
        [(0 : Fin 2), 1].all fun d => decide (0 < (s.sites[(3 : SiteId)]).waitingMsgs[d] ∧ (s.sites[(3 : SiteId)]).permitSince[d] = some 0 ∧ 0 + 2 ^ 20 ≤ s.cue)) := by
  decide +kernel

/-! ### Clauses that ask for more of a state -/

/-- ResultsLand, two results: destinations that are registers, latencies that differ. NextAddress: two levels that end at one bundle, the outer running again,
and both left; no level around a word; LoopWords' END past the segment. -/
theorem witness_TwoResultsAndNestedLevels : ((⟨false, 0, 1⟩ : Dst).n = false ∧ (1 : Nat) < 34) ∧
    (let at_ (n : W32) : TState := withLevel 0 0 0 0 (withLevel 1 0 n 0 (TState.launch []))
      let a := at_ 1
      let b := at_ 0
      (a.nest = [0] ++ [1] ∧ a.nest.Nodup ∧ (∀ l ∈ [(0 : Fin 4)], (a.loops[l]).stop.toNat = a.pc ∧ (a.loops[l]).count = 0) ∧
        (a.loops[(1 : Fin 4)]).stop.toNat = a.pc ∧ (a.loops[(1 : Fin 4)]).count ≠ 0) ∧
      (b.nest = [0, 1] ++ [] ∧ b.nest.Nodup ∧ ∀ l ∈ [(0 : Fin 4), 1], (b.loops[l]).stop.toNat = b.pc ∧ (b.loops[l]).count = 0)) ∧
    (hereOf (twoBundles id) id id).any (fun h => (h.target 1 == some 1) && decide (h.st.base + h.t.segLen ≤ 2)) = true := by decide +kernel

/-- TrapEntryAndReturn: a company that has its cause already. BundleUndoneOrSuppressed: a bundle of RET on an empty stack, at a boundary missed the cycle before, past the
local limit, and neither. -/
theorem witness_TrapsOfOneCycle : (hereOf id (fun c => { c with fatal := some fatal0 }) id).any (fun h => decide (h.co.fatal = some fatal0 ∧
      h.co.info.handler = none) && (h.s.tileAt h.t.key == some h.t) && (h.s.coAt h.co.num == some h.co)) = true ∧
    priority cDEADLINE < priority cSTACK ∧ priority cILLEGAL ≤ priority cDEADLINE ∧
    ([(1, true, none), (1048561, false, some 0), (1, false, none)].all fun (y : Nat × Bool × Option Nat) =>
      let s := State.reset.withBundle (BitVec.ofNat 256 (0x08 * 2 ^ 25))
      let s : State := { s with
        tiles := s.tiles.map fun t => { t with st := { t.st with localSince := y.2.2 } }
        companies := s.companies.map fun c => { (if y.2.1 then withBoundary c else c) with cue := y.1 } }
      (s.hereAt key0).any fun h₀ => h₀.issues && let h := h₀.enterPopped
        (h.t.bundleAt h.st.pc).isSome && (h.st.skip == 0) && let s0 : State := { h.put h.st.beforeBundle with focus := h.t.key, raised := none }
        (s0.hereAt h.t.key).any fun h0 => (takenCause (issueSlots (BitVec.ofNat 256 (0x08 * 2 ^ 25)) slots s0 []).2 == some (cSTACK, 2)) &&
          decide ((0 < h0.cue ∧ boundaryAt h0.co (h0.cue - 1) = true ∧ h0.gang.base ≤ h0.cue - 1 ∧ h0.st.marked ≠ some (h0.cue - 1)) ↔ y.2.1 = true) &&
          (h0.st.localSince == y.2.2) && decide ((∃ e ∈ y.2.2, e + h0.gang.bin.localLimit < h0.cue) ↔ y.2.2.isSome = true)) = true := by decide +kernel

/-- 256 values of which the first is given and the others are -1. -/
def valsOf (x : Val) : List Val := x :: List.replicate 255 (.fin true 1 0)

theorem valsOf_mem (x y : Val) (h : y ∈ valsOf x) : y = x ∨ y = .fin true 1 0 := by
  simp only [valsOf, List.mem_cons, List.mem_replicate] at h
  tauto

/-- VectorBlockAndReductionWords, the codec and the export: lists with a NaN, with values whose largest is 6, all zero; formats of floats and int8; a NaN block and
one that is none. -/
theorem witness_VectorBlockWords : ((valsOf .nan).length = 256 ∧ ∃ x ∈ valsOf .nan, x.special = true) ∧
    (let x := Val.fin false 6 0; (∀ y ∈ valsOf x, y.special = false) ∧ (∀ y ∈ valsOf x, |y.rat| ≤ |x.rat|) ∧ (2 : ℚ) ^ (2 : Int) ≤ |x.rat| ∧
      |x.rat| < (2 : ℚ) ^ ((2 : Int) + 1) ∧ (valsOf x)[0]? = some x) ∧
    (∀ x ∈ List.replicate 256 (Val.fin false 0 0), x.rat = 0 ∧ x.special = false) ∧
    ((List.replicate 32 (Val.fin false 6 0)).length = 32 ∧ (mxFp .e4m3).isSome = true ∧ (mxFp .int8).isNone = true) ∧
    (⟨0xff, [], []⟩ : Blk).e = 0xff ∧ (⟨127, [], []⟩ : Blk).e ≠ 0xff := by
  refine ⟨⟨by simp only [valsOf, List.length_cons, List.length_replicate], .nan, List.mem_cons_self, rfl⟩, ⟨?_, ?_, ?_, ?_, rfl⟩, ?_, by decide, rfl, by decide⟩
  · intro y hy
    obtain rfl | rfl := valsOf_mem _ _ hy <;> rfl
  · intro y hy
    obtain rfl | rfl := valsOf_mem _ _ hy <;> norm_num [Val.rat]
  · norm_num [Val.rat]
  · norm_num [Val.rat]
  · intro x hx
    simp only [List.mem_replicate] at hx
    obtain ⟨-, rfl⟩ := hx
    exact ⟨by norm_num [Val.rat], rfl⟩

/-- Three tiles of one gang side by side, at company cue 1, the middle one changed. -/
def threeOf (f : TState → TState) : State :=
  probeOf id (fun c => { c with cue := 1, gangs := c.gangs.map fun g => { g with bin := { g.bin with cols := 3 } } })
    fun s => { s with tiles := ([0, 1, 2] : List (Fin 16)).flatMap fun i => s.tiles.map fun t =>
      { t with key := { t.key with col := i.val }, col := i, st := if i = 1 then f (TState.launch []) else TState.launch [] } }

/-- FabricEvents: two beats to one neighbour and to two; a captured word with none before it; two words in one crossing that land together. -/
theorem witness_FabricEvents_together : ([Side.e, .w].all fun d => let a : HopBeat := ⟨0, .e, false, 0, .val 5⟩
      let b : HopBeat := ⟨0, d, true, 3, .val 6⟩
      ((threeOf fun st => { st with wires := [a, b] }).hereAt key1).any fun h => decide (h.st.wires = [a, b] ∧ a.sent < h.cue ∧ b.sent < h.cue) &&
        (hopNext h.gang key1 a.side).any fun n => (hopNext h.gang key1 b.side).any fun m => decide (n ≠ key1 ∧ m ≠ key1) &&
          (h.s.tileAt n).isSome && (h.s.tileAt m).isSome && decide (n = m ↔ d = .e)) = true ∧
    (let x : XWord := ⟨.e, 7, false, 5, 0, 1, 0⟩;
      (hereOf (fun t => { t with st := { t.st with replay := [(.w, x)] } }) (fun c => { c with cue := 1 }) id).any (fun h =>
        decide (h.st.replay = [(.w, x)] ∧ x.arrive ≤ h.cue))) = true ∧
    (let x : XWord := ⟨.e, 7, false, 5, 0, 1, 0⟩; let y : XWord := ⟨.e, 6, true, 5, 0, 1, 0⟩;
      ((pairOf 15 fun st => { st with xwords := [x, y] }).hereAt key0).any (fun h => decide (h.st.replay = [] ∧ h.st.xwords = [x, y] ∧ x.arrive ≤ h.cue ∧
        y.arrive ≤ h.cue) && let s0 := h.put { h.st with xwords := [] }
        (s0.crossing h.gang key0 x.side).any fun c => decide (c.peer ≠ key0) && (h.s.tileAt c.peer).any fun u =>
          ((s0.setTile (u.xEnter c.peerSide x)).crossing h.gang key0 y.side).any fun e => decide (e.peer = c.peer))) = true := by decide +kernel

/-- CopyAndMailboxEvents: a store of a segment of deck memory, and of one of host memory, that the quota has room for; a page-fault entry of a paged segment without
a table. -/
theorem witness_CopyAndMailboxEvents_stores : ([0, 1].all fun ap => (hereOf (fun t => { t with st := { t.st with storeQ := [entry0 1 .waiting] } })
      (fun c => { engineCo c with info := { (engineCo c).info with segtab := [⟨ap, false, true, true, 0, 0, 64, 0⟩] } }) deckUp).any fun h =>
        (h.segOf 0).any fun e => let x := entry0 1 .waiting
          let r := h.reachOf e true x x.toWrite
          decide (r.walks = [] ∧ x.pos ≤ x.total ∧ (x.total - x.pos) + h.co.gateBytes h.t.site h.t.region ≤ h.co.quota h.t.site) && !r.good.isEmpty &&
            r.good.all fun p => match p.2 with
              | .deck _ => ap == 0
              | .host .. => ap == 1
              | _ => false) = true := by decide +kernel

/-- ReleaseAndChorusEvents: the release of a store's bytes; an entry that is done, one that is not, one whose wider scope waits for its release. -/
theorem witness_ReleaseAndChorusEvents_stores : (let w : GWrite := ⟨⟨0, 1, 0, 1⟩, 0, 0, none, [(0, 5)], key0, some 1⟩;
      (hereOf id (fun c => { c with gateSealed := [⟨0, false, [w]⟩] }) deckUp).any (fun h => decide (h.co.gateSealed.flatMap (·.writes) = [w] ∧ w.entry.isSome = true) &&
        !(h.s.sites[(0 : SiteId)]).mute && !h.s.pastLoss 0)) = true ∧
    ([(AcStage.gated, Scope.tile, true), (.failed 2 0, .tile, true), (.waiting, .tile, false), (.gated, .deck, true)].all fun y =>
      let x : AcEntry := { entry0 1 y.1 with scope := y.2.1 }
      (hereOf (fun t => { t with st := { t.st with storeQ := [x] } }) engineCo deckUp).any fun h => decide (h.st.storeQ = [x] ∧ x.mark = false) &&
        (x.storeDone h.co key0 == y.2.2)) = true ∧
    (let x : AcEntry := { entry0 1 .gated with scope := .deck };
      (hereOf (fun t => { t with st := { t.st with storeQ := [x] } }) (fun c => { engineCo c with gateSealed :=
        [⟨0, false, [⟨⟨0, 1, 0, 1⟩, 0, 0, none, [(0, 5)], key0, some 1⟩]⟩] }) deckUp).any (fun h => !x.storeDone h.co key0)) = true := by decide +kernel

/-- OverlayAndPageEvents, a walk done again: a load that waits for a page that is there now, and that is not; an overlay of each kind. -/
theorem witness_OverlayAndPageEvents_again : ([true, false].all fun there => let s := fun (s : State) => (if there then tables 0x7 else id) (deckUp { s with pfReqs := [req0 1 .load key0] })
      (hereOf (fun t => { t with st := { t.st with loadQ := [entry0 0 (.suspended 1 0 9)] } }) pagedCo s).any fun h =>
        (h.s.suspendedBy (req0 1 .load key0)).any fun y => let reach := y.1.reachLeft false y.2
          (y.1.readTables reach).2 && (reach.fault.isNone == there)) = true ∧
    ([true, false].all fun there => let s := fun (s : State) => (if there then tables 0x3 else id) (deckUp { s with pfReqs := [req0 1 .overlay key0] })
      (hereOf fetching ovlCo s).any fun h => (h.s.hereAt key0).any fun h => decide (h.st.ovl = some ⟨0, 4096, false, false⟩) && decide (h.s.poison = []) &&
        ((h.s.fetch h.co h.t.site h.t.region 0).bad.isNone == there)) = true := by decide +kernel

/-- HoldAndFreezeEvents: a level wanted anew while its hold is ahead; a freeze in its second part with no fly command left; words in a crossing that a freeze
captures, and one that stays. -/
theorem witness_HoldAndFreezeEvents_more : (hereOf id (fun c => { c with holds := [⟨256, .reef 3⟩], wanted := 3 }) id).any (fun h => decide ((1 : Fin 4) ≠ h.co.wanted ∧
      h.co.holds ≠ [] ∧ ∀ y ∈ h.co.holds, y.cause = .reef 3 ∧ h.co.cue + 1 < y.at_)) = true ∧
    (hereOf id (fun c => { c with mode := .frozen false 0 }) id).any (fun h => decide (h.co.mode = .frozen false h.s.cue) &&
      (h.s.tilesOf 0).all fun u => u.st.fly.isEmpty) = true ∧
    (([15, 0].all fun col0 => ((pairOf col0 fun st => { st with xwords := [⟨.e, 7, false, 5, 0, 9, 0⟩] }).hereAt key0).any fun h =>
      ((h.s.wordsIn h.co h.t).isEmpty == (col0 == 0)))) = true ∧
    (hereOf id (fun c => { c with holds := [⟨256, .reef 3⟩], cue := 256, mode := .held 0 }) id).any (fun h => decide (h.co.holds = [⟨256, .reef 3⟩] ∧
      256 ≤ h.co.cue)) = true := by decide +kernel

/-- LaunchAndRollbackEvents: a cause 257 cycles ago whose engines have stopped, with a sealed write to the host, PCIe there and not; a gate's interval with a write of
a module past its loss and none; a held company; a memory module powered and not lost. -/
theorem witness_LaunchAndRollbackEvents_more : (let w (x : Option Nat) : GWrite := ⟨⟨0, 1, 0, 1⟩, 0, 0, x, [(0, 5)], key0, none⟩;
      ([true, false].all fun up => (hereOf id (fun c => { c with fatal := some { fatal0 with stopped := true }, gateSealed := [⟨0, false, [w (some 0)]⟩] })
        (fun s => { (if up then deckUp s else s) with cue := 257 })).any fun h => (h.s.serviceUp == up) && decide (h.co.gateSealed ≠ [] ∧
          h.co.fatal = some { fatal0 with stopped := true } ∧ fatal0.since + 257 ≤ h.s.cue)) = true ∧
      ([none, some 0].all fun l => (hereOf id (fun c => { c with gateOpen := [w none] }) (fun s => (deckUp s).setSite 0 fun x => { x with lossCue := l })).any fun h =>
        decide (h.co.gateOpen ≠ []) && h.co.gateOpen.all fun y => h.s.pastLoss y.site == l.isSome) = true) ∧
    (hereOf id (fun c => { c with mode := .held 0 }) id).any (fun h => decide (h.co.mode = .held 0)) = true ∧
    (let s := deckUp State.reset; (s.sites[siteS]).state.powered = true ∧ s.pastLoss siteS = false) := by decide +kernel

/-- A site in TRAINING whose counter stands 50 below the deck's. -/
def behind50 (loads : Nat) (s : State) : State :=
  (trimming 1 0 .training loads 0 s).setRegion 1 0 fun r => { r with offset := -50 }

/-- LinkAndTrimEvents, the conditions of an exchange: in service begun at its cue, with room to move and without; a load of 50 that brings a counter to the others; a
region across a stitch whose parent has come to an end and has not; counters that a correction keeps near and not. -/
theorem witness_LinkAndTrimEvents_exchange : (let s := (trimming 0 1 .admitted 0 0 State.reset).setRegion 0 1 fun r => { r with trimFrom := some 0 };
      trims s 0 1 0 250 496 = true ∧ ((s.sites[(0 : SiteId)]).regions[(1 : Fin 4)]).trimStart = some 0 ∧ 0 ≤ s.cue ∧ s.cue ≤ 0 + 512 ∧
      (0 : W64) = BitVec.ofInt 64 (s.counter 0 1 - ((s.cue - 0 : Nat) : Int)) ∧ ((s.sites[(0 : SiteId)]).regions[(1 : Fin 4)]).heldTo ≤ s.cue ∧
      (trimD 0 242 496).natAbs = 2 ∧ s.nearAll 0 1 (trimD 0 242 496).sign = true ∧ trims s 0 1 0 242 496 = true ∧ 2 < (trimD 0 250 496).natAbs ∧
      (let t := s.setRegion 0 2 fun r => { r with offset := if 0 < trimD 0 242 496 then -2 else 2 };
        t.nearAll 0 1 (trimD 0 242 496).sign = false ∧ trims t 0 1 0 242 496 = true)) ∧
    (let s := behind50 0 State.reset; (s.sites[(1 : SiteId)]).state = .training ∧ s.parentOf 1 0 = some (.link ⟨1, 7⟩) ∧ s.trains 1 0 (.link ⟨1, 7⟩) = true ∧
      trims s 1 0 0 265 446 = true ∧ s.nearAll 1 0 (trimD 0 265 446) = true ∧ (trimD 0 265 446).natAbs = 50 ∧ s.pastLoss 1 = false) ∧
    ([0, 2].all fun z => let s := ((trimming 1 1 .training 0 0 State.reset).setRegion 1 0 fun r => { r with zeros := z, loads := 2 });
      decide (s.parentOf 1 1 = some (.stitch 0)) && (s.trains 1 1 (.stitch 0) == (z == 2))) = true := by decide +kernel

/-- SiteEvents, power and admission: a module whose power good comes with its stage closed and open; tests passed, failed, a bad record; an admission whose links are
measured and not; a measurement that fits; POWER where FAULTED is on its way; a phase limit past. -/
theorem witness_SiteEvents_more : ([true, false].all fun st => let s := siteIs 3 (fun x => { x with state := .powering, stage := st }) State.reset
      s.inPhase 3 .powering && ((s.sites[(3 : SiteId)]).stage == st) && decide (s.cue < (s.sites[(3 : SiteId)]).phaseSince + 2 ^ 26)) = true ∧
    ([(⟨[], true, true⟩, false), (⟨[], false, true⟩, true), (⟨[], true, false⟩, true)].all fun (y : TestOutcome × Bool) =>
      decide ((testFails y.1 ∨ y.1.recordOk = false ∨ y.1.firmwareOk = false) ↔ y.2 = true)) = true ∧
    ([true, false].all fun m => let s := siteIs 1 (fun x => { x with linkOfs := if m then Vector.replicate 8 (some 0) else Vector.replicate 8 none }) (trainedSite 8 2 State.reset)
      s.inPhase 1 .training && !s.trimFailed 1 && s.trimDone 1 && (s.linksMeasured 1 == m)) = true ∧
    (let s := { trainedSite 8 2 State.reset with cue := 512 }; s.inPhase 1 .training = true ∧ (s.sites[(1 : SiteId)]).trained = true ∧ s.trimDone 1 = true ∧
      s.linkUp ⟨1, 7⟩ = true ∧ (s.parentAt 1 (.link ⟨1, 7⟩)).any (fun y => ofsFits (s.counter 1 (if isCompute 1 then linkRegion 7 else 0)) (s.counter y.1 y.2) 0 242 496) = true) ∧
    (let s : State := { inState .seated 3 (deckUp State.reset) with decisions := [⟨4096, 3, .faulted, 4, false⟩] };
      s.serviceUp = true ∧ (s.sites[(3 : SiteId)]).state = .seated ∧ s.awaits 3 .faulted = true) := by decide +kernel

/-- SiteEvents, transitions: one that loses a site to a company, of which a region's counter has come to the cue and of which it has not; a site that comes in from
TRAINING and one that does not; an opening; openings that change nothing. -/
theorem witness_SiteEvents_losses : ([(4098, true), (4099, false)].all fun y =>
      let s := inState .admitted 0 (pairOf 0 id)
      let c : SiteChange := ⟨y.1, 3, .admitted, 0, 1, 0, [(0, 0), (0, 1)], [key0.co]⟩
      let s : State := { s with cue := 4096, changes := [c], sites := s.sites.set 0 { s.sites[(0 : SiteId)] with
        regions := (s.sites[(0 : SiteId)]).regions.map fun r => { r with offset := 2 } } }
      (s.tileAt key0).any (fun (u : Tile) => decide (u.lost = false ∧ u.key.co ∈ c.loses)) && !s.notStarted key0.co && (s.sites[(0 : SiteId)]).state.up &&
        decide (((0 : SiteId), (0 : Fin 4)) ∈ c.ahead ∧ (c.effect : Int) ≤ s.counter 0 0 ↔ y.2 = true)) = true ∧
    (let s := inState .training 3 (deckUp State.reset); let d : Decision := ⟨4096, 3, .admitted, 0, false⟩;
      d.opening = false ∧ (s.sites[d.site]).state = .training ∧ (s.transit d).sites[d.site].state ≠ (s.sites[d.site]).state) ∧
    (let s := siteIs 16 (fun x => { x with state := .admitted }) { State.reset with fw := { Firmware.reset with torn := true } };
      (s.sites[siteS]).state.powered = true ∧ s.fw.torn = true ∧ (s.sites[siteS]).state.up = true) := by decide +kernel

/-- PowerEvents: a site above 3.3 kW for 2^24 cycles; an island's regulator that serves, rests, is off; a rail that has failed. -/
theorem witness_PowerEvents_more : (let s := siteIs 3 (fun x => { x with stage := true, state := .testing, tripSince := some 0 }) { State.reset with cue := 2 ^ 24 };
      (s.sites[(3 : SiteId)]).stage = true ∧ (s.sites[(3 : SiteId)]).state.powered = true ∧ (s.sites[(3 : SiteId)]).tripSince = some 0 ∧ 0 + 2 ^ 24 ≤ s.cue) ∧
    (islandOf0 0 false none).failed = false ∧ ([none, some (1 : Fin 4)].all fun l => decide (l = none ∨ (islandOf0 0 false none).woken = none)) = true := by
  decide +kernel

/-- The words of packets in memory at address 0, where queue 3 reads its next. -/
def packetAt (p : Packet) (s : State) : State :=
  let s := queue3 (fun x => { x with enable := true, tail := 1 }) { s with nextQueue := 3 }
  { s with mem := memPutAll [] (cellsAt 0 (p.toList.flatMap fun w => leBytes 8 w.toNat)) }

/-- QueueEvents: a visit that meets each packet; one through a hole, which reads zeros. -/
theorem witness_QueueEvents_visits : ([packetOf 0 true 0 [], packetOf 1 true 0 [0, 16 * 2 ^ 32, 64, 256, 0, 0, 0], packetOf 2 true 0 [0, 64, 64], packetOf 3 true 0 [0, 0, 0, 64],
      packetOf 4 true 0xfff [7], packetOf 5 true 0x1fff [], packetOf 6 true (0 * 2 ^ 30) [], packetOf 6 true (1 * 2 ^ 30) [0, 64], packetOf 6 true (2 * 2 ^ 30) [],
      packetOf 7 false 0 [0, 0], packetOf 8 true 0 [], packetOf 9 true 0x7fff [], packetOf 9 true 0xffff [], packetOf 0 false 1 []].all fun p =>
        let s := packetAt p State.reset
        let x := s.queues[s.nextQueue]
        s.accepts && x.ready && decide (s.nextQueue = 3) &&
          decide ((Vector.ofFn fun (i : Fin 8) => BitVec.ofNat 64 (s.wordNat x.next.1 (x.next.2 + 8 * i.val) 8)) = p) && (packetOk p == !decide (p = packetOf 0 false 1 []))) =
      true := by decide +kernel

/-- HostEvents, the recovery window: port 0 and another, the length, the first and the last word of the image; CXL decoders of two ports. -/
theorem witness_HostEvents_recovery : (let s : State := { State.reset with fw := { Firmware.reset with mode := .recovery } }; s.fw.mode = .recovery ∧ s.serviceUp = false ∧
      (3 : Fin 4) ≠ 0 ∧ (8#25).toNat = 8 ∧ ((0x10#25).toNat % 8 = 0 ∧ 0x10 ≤ (0x10#25).toNat) ∧ ((0xffff8#25).toNat % 8 = 0 ∧ (0xffff8#25).toNat < 0x100000)) ∧
    (let s : State := { deckUp State.reset with hdm := [⟨0, 0, 0, 0x10000000⟩, ⟨1, 0, 0x10000000, 0x10000000⟩] }; s.accepts = true ∧
      s.decoded 0 0x0fffffff 1 = true ∧ s.decoded 1 0x0fffffff 1 = false ∧ s.decoded 1 0x10000000 1 = true) := by decide +kernel

/-- FirmwareEvents: an image and an Owner record of which every check but the signature's holds, so that the opaque signature alone decides both ways (log 9); a record of
another type. -/
theorem witness_FirmwareEvents_signatures (img sig : List Byte) :
    Firmware.reset.imageGood img = Config.verifies Config.vendorKey (Config.sha3 img) (Config.imageSignature img) ∧
    (let r : FlashRecord := ⟨2, 0, List.replicate 2593 0 ++ leBytes 64 0, sig⟩;
      Firmware.reset.ownerOk r = Config.verifies (ownerKey r) (Config.sha3 (signedPart r)) r.sig) ∧
    Firmware.reset.ownerOk ⟨3, 0, [], sig⟩ = false := by
  refine ⟨?_, ?_, rfl⟩
  · simp [Firmware.imageGood, Firmware.signedBy, Firmware.owner, Firmware.minVersion, Firmware.record, Firmware.reset, latest]
  · have h : (leBytes 64 0).length = 64 := by decide +kernel
    have hn : leBytes 64 (Firmware.reset.nonce).toNat = leBytes 64 0 := by decide +kernel
    have hd : (List.replicate 2593 (0 : Byte) ++ leBytes 64 0).drop ((List.replicate 2593 (0 : Byte) ++ leBytes 64 0).length - 64) = leBytes 64 0 :=
      List.drop_left' (by simp only [List.length_append, h, List.length_replicate])
    have hl : 2592 ≤ (List.replicate 2593 (0 : Byte) ++ leBytes 64 0).length := by
      rw [List.length_append, List.length_replicate, h]; decide
    simp only [Firmware.ownerOk, hn, hd, hl, if_true, decide_true, beq_self_eq_true, Bool.true_and]

/-- EngineUnitWords, traps: a count past the units, and a unit not the core's; an eighth mailbox command, on a slot that is bound and on one that is not. -/
theorem witness_EngineUnitWords_traps : (hereOf (loan 1 [(0, 0x0100)]) id id).any (fun h => decide (bits (h.stage 0 0) 7 0 + bits (h.stage 0 0) 15 8 ≤ 255) &&
      (h.st.notOwned ownCore 0 (2 * 4096) == some 0)) = true ∧
    ([0, 1].all fun (u : Nat) => (hereOf (fun t => let t := loan 0 [(0, BitVec.ofNat 64 u)] t
        { t with st := { t.st with mbQ := List.replicate 8 ⟨true, 0, 0, none, 0⟩ } }) engineCo id).any (fun h =>
      (h.co.bound (bits (h.stage 0 0) 7 0)).isSome == decide (u = 0) && decide (8 ≤ h.st.mbQ.length))) = true := by decide +kernel

/-- The checks of an XFILL, in order (07 R178). -/
def fillChecks (h : Here) : List Bool :=
  let a := bits (h.stage 0 0) 19 0
  let n := bits (h.stage 0 0) 40 20
  [a % 4 != 0, n % 4 != 0 || decide (n < 4) || decide (0x100000 < n), decide (0x100000 < a + n), h.copyFull]

/-- EngineUnitWords, the checks of a fill: each fails first once; a unit that is not lent. -/
theorem witness_EngineUnitWords_fills : ([(2, 4, 0, 0), (0, 2, 0, 1), (0xffffc, 8, 0, 2), (0, 4, 8, 3)].all fun (y : Nat × Nat × Nat × Nat) =>
      (hereOf (fun t => let t := loan 3 [(0, BitVec.ofNat 64 (y.2.1 * 0x100000 + y.1))] t
        { t with st := { t.st with copyQ := List.replicate y.2.2.1 ⟨.xfill 0 4 0, 0, 9, none⟩ } }) id id).any (fun h =>
      (fillChecks h).take y.2.2.2 == List.replicate y.2.2.2 false && (fillChecks h).drop y.2.2.2 == true :: ((fillChecks h).drop (y.2.2.2 + 1)))) = true ∧
    (hereOf (loan 0 [(0, 4 * 0x100000)]) id id).any (fun h => (fillChecks h).all (!·) && (h.st.notOwnedSpans ownCopy [(0, 4)] == some 0)) = true := by decide +kernel

/-- A tile lent to the copy unit, the words of an XCOPY staged, its banks of a format but for the last. -/
def copyTile (o : Byte) (f : W32) (w0 w1 w2 : Nat) (t : Tile) : Tile :=
  { loan o [(0, BitVec.ofNat 64 w0), (1, BitVec.ofNat 64 w1), (2, BitVec.ofNat 64 w2)] t with fmts := (Vector.replicate 16 f).set 15 0x10000 }

/-- The formats of an XCOPY's two sides, and the checks in order (07 R178, R193). -/
def copySides (h : Here) : ElFmt × ElFmt :=
  let w0 := h.stage 0 0
  let w1 := h.stage 0 1
  (if bit w0 22 then .code (BitVec.ofNat 8 (bits w0 39 32)) else if bit w0 43 then .mx ((mxFmtOf (bits w0 42 40)).getD .int8)
    else .code ((h.t.fmt (bits w0 19 0 / 0x10000)).setWidth 8),
    if bit w1 43 then .mx ((mxFmtOf (bits w1 42 40)).getD .int8) else .code ((h.t.fmt (bits w1 19 0 / 0x10000)).setWidth 8))

def copyChecks (h : Here) : List Bool :=
  let w0 := h.stage 0 0
  let w1 := h.stage 0 1
  let w2 := h.stage 0 2
  let sw := bit w0 22
  let smx := bit w0 43
  let dmx := bit w1 43
  let src := if sw then bits w0 21 0 else bits w0 19 0
  let dst := bits w1 19 0
  let scl := bits w2 51 32
  let nel := bits w2 20 0
  let (fs, fd) := copySides h
  let ss := if sw then [] else fs.spans src nel scl
  let ds := fd.spans dst nel scl
  [fs.misaligned sw src, fd.misaligned false dst, smx && dmx || sw && smx, sw && !isFmtCode (bits w0 39 32),
    smx && (mxFmtOf (bits w0 42 40)).isNone, dmx && (mxFmtOf (bits w1 42 40)).isNone,
    nel == 0 || decide (0x100000 < nel) || (fs.block?.isSome || fd.block?.isSome) && nel % 256 != 0 || (smx || dmx) && nel % 32 != 0,
    if sw then decide (0x400000 < src + fs.bytes nel) else pastEnd (ss.take 1) || !fs.isMx && pastEnd ss,
    pastEnd (ds.take 1) || !fd.isMx && pastEnd ds, (fs.isMx || fd.isMx) && decide (0x100000 < scl + nel / 32), h.copyFull]

/-- EngineUnitWords, the checks of a copy: each fails first once, on raw banks and on banks of eight-bit blocks. -/
theorem witness_EngineUnitWords_copies : ([(0x12, 1, 0, 256, 0, 0), (0x12, 0, 1, 256, 0, 1), (0, 2 ^ 43, 2 ^ 43, 32, 0, 2), (0, 2 ^ 22 + 0xff * 2 ^ 32, 0, 32, 0, 3),
      (0, 2 ^ 43 + 7 * 2 ^ 40, 0, 32, 0, 4), (0, 0, 2 ^ 43 + 7 * 2 ^ 40, 32, 0, 5), (0, 0, 2 ^ 43, 33, 0, 6), (0, 0xffffc, 0, 2, 0, 7), (0, 0, 0xffffc, 2, 0, 8),
      (0, 0, 2 ^ 43, 64 + 0xfffff * 2 ^ 32, 0, 9), (0, 0, 0, 1, 8, 10)].all fun (y : Nat × Nat × Nat × Nat × Nat × Nat) =>
      (hereOf (fun t => let t := copyTile 3 (BitVec.ofNat 32 y.1) y.2.1 y.2.2.1 y.2.2.2.1 t
        { t with st := { t.st with copyQ := List.replicate y.2.2.2.2.1 ⟨.xfill 0 4 0, 0, 9, none⟩ } }) id id).any (fun h =>
      (copyChecks h).take y.2.2.2.2.2 == List.replicate y.2.2.2.2.2 false && (copyChecks h)[y.2.2.2.2.2]? == some true)) = true := by decide +kernel

/-- EngineUnitWords, a copy whose checks pass: its source and its destination run into a bank of another format; a raw side beside halves; a unit that is not lent; a
read of the weight store that meets a refresh and one that does not; an MX source, in place. -/
theorem witness_EngineUnitWords_copies_end : ([(0, 0xefffc, 0, 2, true, false), (0, 0, 0xefffc, 2, false, true)].all fun (y : Nat × Nat × Nat × Nat × Bool × Bool) =>
      (hereOf (copyTile 3 (BitVec.ofNat 32 y.1) y.2.1 y.2.2.1 y.2.2.2.1) id id).any (fun h => (copyChecks h).all (!·) &&
        let f := copySides h
        !f.1.isMx && !f.2.isMx && ((h.otherBank (f.1.spans y.2.1 y.2.2.2.1 0)).isSome == y.2.2.2.2.1) &&
          ((h.otherBank (f.2.spans y.2.2.1 y.2.2.2.1 0)).isSome == y.2.2.2.2.2))) = true ∧
    (hereOf (fun t => { copyTile 3 0 0 0x10000 2 t with fmts := (Vector.replicate 16 (0 : W32)).set 1 4 }) id id).any (fun h => (copyChecks h).all (!·) &&
      let f := copySides h
      f.1.isRaw && !f.2.fourBytes && (h.otherBank (f.1.spans 0 2 0)).isNone && (h.otherBank (f.2.spans 0x10000 2 0)).isNone) = true ∧
    (hereOf (copyTile 0 0 0 4 1) id id).any (fun h => (copyChecks h).all (!·) && (copySides h).1.isRaw && (copySides h).2.fourBytes &&
      (h.st.notOwnedSpans ownCopy ((copySides h).1.spans 0 1 0 ++ (copySides h).2.spans 4 1 0) == some 0)) = true ∧
    ([(0, 64, true), (64, 64, false)].all fun (y : Nat × Nat × Bool) => (hereOf (copyTile 3 0 (2 ^ 22) 0 64) (fun c => { c with cue := y.1 }) id).any (fun h =>
      (copyChecks h).all (!·) && (h.st.notOwnedSpans ownCopy ((copySides h).2.spans 0 64 0)).isNone &&
        ((refreshClash h.copyStart 1 0 ((copySides h).1.bytes 64)).isSome == y.2.2))) = true ∧
    (hereOf (copyTile 3 0 (2 ^ 43) 0x400 (32 + 0x800 * 2 ^ 32)) id id).any (fun h => (copyChecks h).all (!·) && (copySides h).1.isMx && (copySides h).2.fourBytes &&
      (h.st.notOwnedSpans ownCopy ((copySides h).1.spans 0 32 0x800 ++ (copySides h).2.spans 0x400 32 0x800)).isNone) = true := by decide +kernel

/-- TransferEngineWords, the checks of a move in order: each check of a FLY and of an ACOPY fails first once: off a block, a stride off a block, the length, no
segment, past the segment, a segment not to be read, one not pinned, past the scratchpad. -/
theorem witness_TransferEngineWords_checks : ([(true, [(0, 1)], 5), (true, [(2, 1 * 2 ^ 16)], 5), (false, [(2, 0)], 6), (true, [(1, 0x3ff * 2 ^ 32), (2, 1)], 6),
      (true, [(0, 5 * 2 ^ 48)], 1), (true, [(0, 64)], 3), (true, [(0, 1 * 2 ^ 48)], 11), (true, [(0, 2 * 2 ^ 48)], 2), (true, [(1, 0xfffc0), (2, 1), (3, 64)], 4)].all
      fun (y : Bool × List (Fin 32 × W64) × Nat) => (hereOf (loan 1 y.2.1) (fun c => let c := engineCo c
        { c with info := { c.info with segtab := c.info.segtab.flatMap fun e => [e, { e with rd := false }, { e with aper := 1 }] } }) id).any (fun h =>
        let m := if y.1 then h.flyMove 0 true false else h.acopyMove 0 false false
        (((h.moveChecks m y.1 [if y.1 then (decide (65536 < m.rows * m.len), boundsInfo 6 1 (m.len / 64 - 1))
          else (m.len % 64 != 0 || decide (m.len < 64) || decide (0x100000 < m.len), boundsInfo 6 2 m.len)]).find? (·.1)).map fun c =>
            bits c.2 47 40) == some y.2.2)) = true := by decide +kernel

/-- WordsComplete: the scratchpad and the registers in place for the vector words, an island of weight rows outside refresh, a free link, a region with a trim
parent; a fill, a mailbox word and a
copy at addresses off a word (log 30). -/
theorem witness_WordsComplete : (hereOf (fun t => { bankTile 0xfff00 0 t with st := { (bankTile 0xfff00 0 t).st with
        v := t.st.v.set 1 (ofLanes fun i => BitVec.ofNat 32 (0xffffc - 4 * i)), mask := [], k := t.st.k.set 0 (4 * 0x100000) } })
      (fun c => { c with cue := 64 }) (fun s => { s with slot := .va })).any (fun h => h.passes ⟨0, false⟩ && decide (h.st.baseAddr 1 0 64 = (0xfff00 : Int)) &&
      coreUnits h 0xfff00 256 && !(h.t.bankFmt 15).isBlock && decide (64 ≤ h.cue % 512) && !h.s.weightBad.contains (h.s.weightBase h.t) &&
      decide (∀ i < 64, let a := (lane (h.getV h.s.slot (.reg 1)) i).toNat + (lane (h.getV h.s.slot .zero) i).toNat
        a < 0x100000 ∧ (h.t.bankFmt (a / 0x10000)).isBlock = false ∧ a % (h.t.bankFmt (a / 0x10000)).bytes = 0 ∧ h.st.owner (a / 4096) = 0) &&
      decide (h.st.hopBusy[sideNo .e] ≤ h.cue ∧ h.st.xBusy[sideNo .e] ≤ h.cue ∧ h.st.loadQ.length < 32 ∧ h.st.storeQ.length < 32 ∧ h.copyFull = false)) = true ∧
    (hereOf (loan 3 [(0, 4 * 0x100000)]) engineCo id).any (fun h => fillChecks h == [false, false, false, false] &&
      (h.st.notOwnedSpans ownCopy [(0, 4)]).isNone && (h.co.bound (bits (h.stage 0 0) 7 0)).isSome && decide (h.st.mbQ.length < 8)) = true ∧
    (hereOf (loan 3 [(0, 2), (1, 6), (2, 1)]) id id).any (fun h => !h.copyFull && (List.range 16).all (fun b => decide (h.t.fmt b = 0)) && !bit (h.stage 0 0) 43 && !bit (h.stage 0 1) 43 &&
      !bit (h.stage 0 0) 22 && decide (bits (h.stage 0 0) 19 0 = 2 ∧ bits (h.stage 0 1) 19 0 = 6 ∧ bits (h.stage 0 2) 20 0 = 1) &&
      (h.st.notOwnedSpans ownCopy [(2, 4), (6, 4)]).isNone) = true := by decide +kernel

/-- ResultsLand: a bundle of the group issued before, and of another; a level that covers it inside one that does not. -/
theorem witness_ResultsLand_groups : (let st := withLevel 0 5 1 0 (TState.launch []);
      ({ st with lastGroup := some st.groupOf } : TState).lastGroup = some ({ st with lastGroup := some st.groupOf } : TState).groupOf ∧
      ({ st with lastGroup := none } : TState).lastGroup ≠ some st.groupOf ∧ (st.groupOf).level = some 0) ∧
    (let st := { withLevel 1 0 1 0 (withLevel 0 5 1 0 (TState.launch [])) with pc := 1 };
      st.nest = [1] ++ 0 :: [] ∧ (st.loops[(0 : Fin 4)]).covers st.pc = true ∧ (st.loops[(1 : Fin 4)]).covers st.pc = false ∧
      (st.groupOf).level = some 0) := by decide +kernel

/-- NextAddress: a halted tile; the END step of a REPLAY level in its first and in its last pass, and out of it; a branch out of the level; replay mode and not. -/
theorem witness_NextAddress_stages : (hereSt fun st => { st with halted := true }).any (fun h => h.st.halted) = true ∧
    (let at_ (count : W32) (q : BitVec 8) : TState := { withLevel 0 0 count 2 (TState.launch []) with q := q };
      let a := at_ 2 1
      let b := at_ 1 3
      let c := at_ 0 2
      (a.nest = 0 :: [] ∧ (a.loops[(0 : Fin 4)]).stop.toNat = a.pc ∧ (a.loops[(0 : Fin 4)]).stages = 2 ∧ 0 + 2 < 2 + 2 ∧
        (a.loops[(0 : Fin 4)]).count.toNat = 2 + 2 - 2 - 0 ∧ ∀ j < 8, a.q.getLsbD j = true ↔ j ≤ 0 ∧ 0 < 2 + j) ∧
      ((b.loops[(0 : Fin 4)]).count.toNat = 2 + 2 - 2 - 1 ∧ 1 + 2 < 2 + 2 ∧ ∀ j < 8, b.q.getLsbD j = true ↔ j ≤ 1 ∧ 1 < 2 + j) ∧
      ((c.loops[(0 : Fin 4)]).count = 0 ∧ (c.loops[(0 : Fin 4)]).covers c.pc = true ∧ (c.loops[(0 : Fin 4)]).covers 1 = false)) ∧
    ([0, 8].all fun n => (hereSt (withLevel 0 5 1 n)).any fun h => h.st.replayMode == (n == 8)) = true := by decide +kernel

/-- WaitsAndDeadlines: the two deadlines of a tile that stands at its handler, its bundle issued and not; flags that settle in a cycle. -/
theorem witness_WaitsAndDeadlines_more : ([none, some (⟨0, none⟩ : Group)].all fun g =>
      (hereOf (fun t => { t with st := { t.st with handler := true, localSince := some 0, lastGroup := g } }) (fun c => { withBoundary c with cue := 1048561 }) id).any
        fun h => h.alive && h.st.handler && (h.st.lastGroup == g) && decide (0 + h.gang.bin.localLimit < h.cue)) = true ∧
    ([none, some (⟨0, none⟩ : Group)].all fun g =>
      (hereOf (fun t => { t with st := { t.st with handler := true, lastGroup := g } }) (fun c => { withBoundary c with cue := 1 }) id).any
        fun h => h.alive && h.st.handler && (h.st.lastGroup == g) && boundaryAt h.co (h.cue - 1) && decide (h.st.marked ≠ some (h.cue - 1))) = true ∧
    (let s : State := { probeSt (fun st => { st with arrive := 8, clre := 8, e := 8 }) with agenda := [], phase := .work };
      s.agenda = [] ∧ s.stopped = false ∧ s.phase = .work ∧ s.inputs = []) ∧
    priority cUSER < priority cDEADLINE := by decide +kernel

/-- Causes pending at a boundary. -/
def pendOf (i : Nat) : Pending := ⟨i == 0, i ≤ 1, i ≤ 2, i ≤ 3, true, 5, 3, 7, if i = 5 then some 9 else none⟩

/-- TrapEntryAndReturn, boundaries: a tile at its MARK.RB; a gate of writes of a module past its loss and of one in service; a company with nothing pending; each
cause pending without those before it, with a handler and none pending. -/
theorem witness_TrapEntryAndReturn_boundary : (∀ l ∈ (TState.launch []).nest, ((TState.launch []).loops[l]).stop.toNat ≠ (TState.launch []).pc) ∧
    (TState.launch []).localNext = none ∧
    (let w (n : SiteId) : GWrite := ⟨⟨0, 1, 0, 1⟩, n, 0, none, [(0, 5)], key0, none⟩;
      let s := siteIs 1 (fun x => { x with lossCue := some 0 }) (deckUp State.reset);
      s.pastLoss (w 1).site = true ∧ s.pastLoss (w 0).site = false) ∧
    (hereSt id).any (fun h => decide (h.s.coAt h.co.num = some h.co) && (h.s.tilesOf h.co.num).all (fun t => !t.pend.any) && !h.t.lost) = true ∧
    ([0, 1, 2, 3, 4, 5].all fun i => let p := pendOf i
      (p.siteLost == (i == 0)) && (i == 0 || i == 1 || !p.regionLost) && (i ≤ 2 || !p.islandLost) && (i ≤ 3 || !p.routeLost) && p.hole && (p.holeAddr.isSome == (i == 5)) &&
        (hereOf (fun t => { t with pend := p }) handlerCo id).any fun h => h.t.pend.any && (h.co.info.handler == some 0) && !h.st.handler) = true ∧
    (hereOf id handlerCo id).any (fun h => !h.t.pend.any) = true := by decide +kernel

/-- MaskWords: a va word beside a vb word that pushes, one that pops and one that does neither. -/
theorem witness_MaskWords_beside : ([(Instr.vpushm (.reg 1), true, false), (.vpopm, false, true), (.vinvm, false, false)].all fun (y : Instr × Bool × Bool) =>
      (encode y.1).any fun w => (hereOf (fun t => { t with imem := #v[[BitVec.ofNat 256 (w * 2 ^ (32 * slotNo .vb))], []] }) id fun s => { s with slot := .va }).any fun h =>
        (h.t.bundleAt h.st.pc).any fun b => (decode .vb (b.extractLsb' 96 32).toNat == some y.1) && decide (h.s.slot = .va)) = true := by decide +kernel

/-- An array whose partial of a row and a parity is open. -/
def openAt (par : Fin 2) (nan : Bool) (x : ArrayState) : ArrayState :=
  { x with part := x.part.set (partIdx 1 31 par) { Partial.launch with isOpen := true, pnan := nan } }

/-- MatrixWords, the arithmetic: shifts below 48 and from it; sums out of the range of an accumulator, in it and below; the operands of a fold either way; a fold of an
open partial with its NAN flag and without; a push that opens the younger of two; a dense push of int8; accumulators that are zero, that round and that saturate. -/
theorem witness_MatrixWords_arithmetic : (|(2 : Int) ^ 46| < 2 ^ 63 ∧ (2 : Int) ^ 46 ≤ |(2 : Int) ^ 46| ∧ (2 : Int) ^ 45 ≤ |(2 : Int) ^ 45| ∧ |(2 : Int) ^ 45| < 2 ^ 46 ∧
      (1 : Int) ≠ 0 ∧ |(1 : Int)| < 2 ^ 45 ∧ (47 : Nat) < 48) ∧
    normal (2 ^ 45, 3) = (2 ^ 45, 3) ∧ ((2 : Int) ^ 45 ≠ 0 ∧ (3 : Int) ≤ 3 ∧ (2 : Int) < 3) ∧
    ([true, false].all fun n => let x := openAt 1 n ArrayState.launch; (x.oldest 1 31 == some 1) && ((x.part[partIdx 1 31 1]).pnan == n)) = true ∧
    (let x := openAt 1 false ArrayState.launch; let d : PushDelta := ⟨0, Vector.replicate 32 0, 0, Vector.replicate 32 0, 0⟩;
      (1 : Fin 2) ≠ d.par ∧ (x.part[partIdx 1 31 d.par]).isOpen = false ∧ (x.part[partIdx 1 31 1]).isOpen = true) ∧
    (let v : PushView := ⟨ArrayState.launch, [], 0, 8, 8, 0, false⟩; v.sparse = false ∧ v.step = 0) ∧
    ((⟨0, 0⟩ : Acc).a = 0 ∧ (⟨2 ^ 45, 200⟩ : Acc).a ≠ 0 ∧ fpEncode fp32 .rne false 0 (Val.fin false (2 ^ 45) 200) % 2 ^ 31 = 0x7f800000 ∧
      fpEncode fp32 .rne false 0 (Val.fin false (2 ^ 45) 0) % 2 ^ 31 ≠ 0x7f800000 ∧ DrainFmt.fp16 ≠ .fp32) := by decide +kernel

/-- CastWords: weights of a NaN, of infinities, of a value not below zero, below -40, between; lists without mass and with; entries that a choice finds and not. -/
theorem witness_CastWords : let y (x : W32) := fpDecode fp32 (rne32 (Val.mul (fpDecode fp32 x.toNat) (fpDecode fp32 0x3fb8aa3b)))
    fpDecode fp32 (0x7fc00000#32).toNat = .nan ∧ y 0x7f800000 = .inf false ∧ y 0xff800000 = .inf true ∧ 0 ≤ (y 0).rat ∧ (y 0xc2c80000).rat < -40 ∧
      -40 ≤ (y 0xbf800000).rat ∧ (y 0xbf800000).rat < 0 ∧
    (let l : List (W32 × W32) := [(7, 1), (7, 2), (3, 0)]; sumWeights [] = 0 ∧ sumWeights l ≠ 0 ∧ l.length ≤ 64 ∧ l[2]?.isSome = true ∧ l[3]? = none ∧
      [(3, 0), (7, 1), (7, 2)].Perm l ∧ ([(3, 0), (7, 1), (7, 2)] : List (W32 × W32)).Pairwise fun x y => x.2.toNat < y.2.toNat) ∧
    ((lane 0 1).getLsbD 0 = false ∧ (lane (BitVec.ofNat 2048 (2 ^ 32)) 1).getLsbD 0 = true) := by decide +kernel

/-- TransferEngineWords: an ACOPY whose unit the core has not lent. -/
theorem witness_TransferEngineWords_owner : (hereOf (loan 0 [(1, 0x100000), (2, 64), (3, 0)]) engineCo id).any (fun h => let m := h.acopyMove 0 false false
      ((h.moveChecks m false [(m.len % 64 != 0 || decide (m.len < 64) || decide (0x100000 < m.len), boundsInfo 6 2 m.len)]).all fun c => !c.1) &&
      (h.segOf m.seg).any fun e => (h.st.notOwnedSpans ownAcopy (rowSpans (m.xrows e))) == some 0) = true := by decide +kernel

/-- FabricEvents: a beat of a pass sent in the cycle and one sent before, a vector's and a scalar's, one that has its value; the only company carried. -/
theorem witness_FabricEvents_passes : ([(1, true), (0, false)].all fun (y : Nat × Bool) => let b : HopBeat := ⟨y.1, .e, y.2, 3, .pass .w⟩
      let s := pairOf 0 fun st => { st with wires := [b, ⟨1, .w, false, 0, .val 5⟩] }
      (s.hereAt key0).any fun h => (h.st.wires[0]? == some b) && (decide (b.sent = h.cue) == y.2) && decide (s.carrying = [h.co]) && !h.t.lost) = true := by decide +kernel

/-- FlyAndWheelEvents, units: one of an engine's that another of its commands names and one that none does; one that is not its own; returns after a cycle's issue. -/
theorem witness_FlyAndWheelEvents_units : ([[fly0 false], []].all fun (cs : List FlyCmd) => (hereOf (fun t => let t := loan 1 [] t; { t with st := { t.st with fly := cs } }) id id).any
      fun h => (unitsOf (rowSpans (fly0 false).rows) == [0]) && decide (h.st.owner 0 = ownFly ∧ h.st.owner 1 ≠ ownFly) &&
        ((h.st.unitsHeld ownFly).contains 0 == !cs.isEmpty)) = true ∧
    (let s : State := { probeSt (fun st => { st with back := [⟨ownCopy, [0], true⟩] }) with agenda := [], phase := .issue };
      s.agenda = [] ∧ s.stopped = false ∧ s.phase = .issue ∧ (s.tileAt key0).any (fun t => t.st.back == [⟨ownCopy, [0], true⟩]) = true) := by decide +kernel

/-- FlyAndWheelEvents: a read and a write whose site is a hole. -/
theorem witness_FlyAndWheelEvents_hole : (hereOf (fun t => { t with st := { t.st with fly := [fly0 false, fly0 true] } }) id id).any (fun h =>
      decide (h.st.fly = [fly0 false, fly0 true]) && h.s.siteHole 0 && decide (h.t.key.co = key0.co)) = true := by decide +kernel

/-- CopyAndMailboxEvents: a load and a store of host memory, the service site there and not; which access meets an error, if any, is the opaque draw's to say. -/
theorem witness_CopyAndMailboxEvents_host : ([true, false].all fun up => (hereOf (fun t => { t with st := { t.st with loadQ := [entry0 0 .waiting], storeQ := [entry0 1 .waiting] } })
      (fun c => { engineCo c with info := { (engineCo c).info with segtab := [⟨1, false, true, true, 0, 0, 64, 0⟩] } })
      (if up then deckUp else id)).any fun h => (h.segOf 0).any fun e => let x := entry0 0 .waiting
        decide (h.st.storeNow = some (entry0 1 .waiting)) && (h.s.serviceUp == up) && usesHost (h.reachOf e false x x.toRead).good &&
        usesHost (h.reachOf e true (entry0 1 .waiting) (entry0 1 .waiting).toWrite).good && (h.reachOf e false x x.toRead).bad.isNone) = true ∧
    (let p : Piece := ⟨64, 0, 0, 64⟩; (hostError [(p, .host 0 0)] 0).all (fun x => x == 0) = true ∧ usesHost [(p, .host 0 0)] = true) :=
  ⟨by decide +kernel, by
    refine ⟨?_, by decide⟩
    unfold hostError
    split
    · simp [usesHost, pageStart, List.filter, Nat.mod_one]
    · rfl⟩

/-- A company with one paged segment of 4 MiB. -/
def bigCo (c : Company) : Company := { pagedCo c with info := { (pagedCo c).info with segtab := [⟨0, true, true, true, 0, 0, 0x400000, 0x1000⟩] } }

/-- OverlayAndPageEvents: a load acknowledged whose page is mapped, the next not; an overlay of which another page fails; a load given up whose earlier access was to
host memory. -/
theorem witness_OverlayAndPageEvents_pages : (let x : AcEntry := { entry0 0 (.suspended 1 0 9) with rows := [⟨0x1fffc0, 0, 128⟩] };
      let r : PfReq := { req0 1 .load key0 with va := 0x1ff000 };
      (hereOf (fun t => { t with st := { t.st with loadQ := [x] } }) bigCo (fun s => tables 0x7 (deckUp { s with pfReqs := [r] }))).any fun h =>
        (h.s.suspendedBy r).any fun y => let reach := y.1.reachLeft false y.2
          (y.1.readTables reach).2 && reach.fault.any fun p => decide (p.1.mem / 4096 ≠ r.va / 4096)) = true ∧
    (let r : PfReq := { req0 1 .overlay key0 with va := 0x200000 };
      (hereOf fetching ovlCo (fun s => deckUp { s with pfReqs := [r] })).any fun h => (h.s.fetch h.co h.t.site h.t.region 0).bad.any fun b =>
        decide (b.2 / 4096 ≠ r.va / 4096)) = true ∧
    (let x : AcEntry := { entry0 0 (.suspended 1 1 9) with rows := [⟨0x1fffc0, 0, 4160⟩] };
      ([true, false].all fun up => (hereOf (fun t => { t with st := { t.st with loadQ := [x] } }) bigCo
          (fun s => let s := { tables (2 ^ 62 + 3) s with pfReqs := [req0 1 .load key0], cue := 2 ^ 26 }; if up then deckUp s else inState .admitted 0 s)).any fun h =>
        (h.s.serviceUp == up) && (h.segOf 0).any fun e => usesHost (x.unread (h.reachOf e false x x.toRead) 4096))) = true := by decide +kernel

/-- HoldAndFreezeEvents: a company whose reef level is taken, its hold the only one; the level still to come. -/
theorem witness_HoldAndFreezeEvents_end : (hereOf id (fun c => { c with mode := .held 0, holds := [], d0 := 4096 }) (fun s => { s with cue := 4100 })).any (fun h =>
      decide (h.co.mode = .held 0 ∧ h.co.holds = [] ∧ 0 < h.co.d0)) = true ∧
    (hereOf id (fun c => { c with mode := .held 0, holds := [⟨256, .reef 3⟩], cue := 256 }) id).any (fun h =>
      decide (h.co.mode = .held 0 ∧ h.co.holds = [⟨256, .reef 3⟩] ∧ 256 ≤ h.co.cue)) = true := by decide +kernel

/-- LaunchAndRollbackEvents, ends: a cause not stopped yet, the log with room; a company without a cause, its tile there; a launch whose packet asked for a completion
word; a weight store of a tile that is in place and of one that is lost. -/
theorem witness_LaunchAndRollbackEvents_ends : (hereOf id (fun c => { c with fatal := some fatal0 }) (fun s => { deckUp s with cue := 257 })).any (fun h =>
      decide (h.co.fatal = some fatal0 ∧ fatal0.since + 257 ≤ h.s.cue ∧ fatal0.stopped = false ∧ (h.s.logHead - h.s.logTail.setWidth 32).toNat < 1024) && h.s.serviceUp) = true ∧
    (hereSt id).any (fun h => decide (h.co.fatal = none) && (h.s.tileAt key0 == some h.t) && decide (cECC ≠ cROUTE)) = true ∧
    (hereOf id id (fun s => { deckUp s with ops := [⟨0, 0, .launch, some 5⟩] })).any (fun h => decide (h.s.ops = [⟨0, 0, .launch, some 5⟩] ∧ h.co.info.op = 0 ∧
      h.co.info.loads = []) && h.s.serviceUp) = true ∧
    ([true, false].all fun l => (hereOf (fun t => { t with lost := l }) id id).any fun h => (h.s.tileAt key0).any (fun t => t.lost == l) && h.s.tiles.all (fun t =>
      decide (t.site = 0 ∧ t.region = 0 ∧ t.row = 0 ∧ t.col = 0) && (t.lost == l)) && decide ((h.s.coAt key0.co).map (·.fatal) = some none)) = true := by decide +kernel

/-- LinkAndTrimEvents: an anchor loaded anew by 50, its module's other regions back at their beginning; a stitch whose parent has no path in a deck without a root. -/
theorem witness_LinkAndTrimEvents_anew : (let s := behind50 0 State.reset; isCompute 1 = true ∧ s.anchor 1 = 0 ∧ trimD 0 265 446 ≠ 0 ∧
      (s.retrain 1 0).nearAll 1 0 (trimD 0 265 446) = true) ∧
    (let s := (inState .training 1 State.reset).setSite 1 fun x => { x with regions := x.regions.map fun r => { r with rail := true } };
      s.rootSite = none ∧ s.parentOf 1 0 = none ∧ s.parentOf 1 1 = some (.stitch 0) ∧ s.trains 1 1 (.stitch 0) = true) := by decide +kernel

/-- LinkAndTrimEvents: the end tiles of a circuit, in place and lost; a company that has started. -/
theorem witness_LinkAndTrimEvents_ends : ([true, false].all fun lost => let s := circuitPair true lost (State.reset.withBundle 0)
      (s.circuits[0]?).any fun c => c.up && (s.tileAt c.a.1).any (fun t => t.lost == lost) && (s.tileAt c.b.1).any (fun t => t.lost == lost) &&
        !s.notStarted c.a.1.co) = true := by decide +kernel

/-- SiteEvents, trips: a stage closed that has not tripped, that has and opens later, whose opening has come; CMD RESET with its contacts open. -/
theorem witness_SiteEvents_trips : ([(false, none), (true, some 9), (false, some 9)].all fun (y : Bool × Option Nat) =>
      let x := { (State.reset.sites[(3 : SiteId)]) with stage := true, tripped := y.1, openAt := y.2 }
      x.stage && (x.tripped == y.1) && decide (∀ c ∈ x.openAt, State.reset.cue < c)) = true ∧
    ([SiteState.released, .lost, .faulted].all fun y => ([(true, false), (false, true)].all fun (p : Bool × Bool) =>
      let s := siteIs 3 (fun x => { x with state := y, present := p.1, clamp := p.2 }) (deckUp State.reset)
      s.serviceUp && decide ((s.sites[(3 : SiteId)]).state = y ∧ ((s.sites[(3 : SiteId)]).present = false ∨ (s.sites[(3 : SiteId)]).clamp = false)))) = true := by decide +kernel

/-- SiteEvents, openings: decisions filed at a site that stood open, as they find it LOST, FAULTED, RELEASED by either contact, powered with its contacts closed and open;
decisions of a loss filed before. -/
theorem witness_SiteEvents_openings : ([(SiteState.lost, 1, true), (.faulted, 2, true), (.released, 1, false), (.released, 2, true), (.powering, 1, true), (.powering, 2, false)].all
      fun (y : SiteState × BitVec 8 × Bool) => let s := siteIs 3 (fun x => { x with state := y.1, present := y.2.2, clamp := y.2.2 }) State.reset
        let d : Decision := ⟨4096, 3, .empty, y.2.1, true⟩
        d.opening && (d.to_ == .empty) && decide ((s.sites[d.site]).state = y.1) &&
          ((s.sites[d.site]).state.powered == (y.1 == .powering))) = true ∧
    (let s : State := { inState .powering 3 State.reset with decisions := [⟨9000, 3, .seated, 0, false⟩] }; ∃ y ∈ (s.renewed 3 .lost).decisions, y.site = 3) := by decide +kernel

/-- PacketEvents: a block that its engine moves, the last and not the last, and one through a hole; two requests of one detached gang at their boundary. -/
theorem witness_PacketEvents_blocks : ([(0, false), (0x10000000000, true)].all fun (y : W64 × Bool) =>
      let o : PendOp := ⟨7, 3, .copy y.1 4096 128 none [0], some 5⟩
      let s : State := { deckUp State.reset with ops := [o] }
      (s.ops.find? (fun o => o.id == 7) == some o) && s.accepts && decide (aperOf y.1 = 0 ∧ aperOf 4096 = 0 ∧ 64 * 1 < 128 ∧ 1 ∉ [0]) &&
        ((List.range 64).any (fun j => s.hole (addrOf y.1 + 64 + j)) == y.2) && (List.range 64).all fun j => !s.hole (addrOf 4096 + 64 + j)) = true ∧
    ((∀ i < 128 / 64, i = 1 ∨ i ∈ [0]) ∧ ¬∀ i < 192 / 64, i = 1 ∨ i ∈ [0]) ∧
    (let r : PendOp := ⟨7, 3, .rejoin 5 0 (.starts 0), none⟩; let q : PendOp := ⟨8, 3, .rejoin 5 0 .waiting, some 6⟩;
      (hereOf id (fun c => { company3 true c with cue := 1 }) (fun s => { s with ops := [r, q] })).any fun h => (h.co.gangAt 0).any fun x =>
        decide (h.s.rejoinsOf h.co.info (some x.idx) = r :: [q] ∧ h.co.cue = 0 + 1) && h.co.carries h.s.cue && !h.s.pastLoss x.site && !h.s.pastLoss siteS) = true := by
  decide +kernel

/-- HostEvents: a read across two fresh blocks, FRESHRD clear and set. -/
theorem witness_HostEvents_fresh : ([true, false].all fun f => let s : State := { (deckUp State.reset).setSite 0 (fun x => { x with freshRd := f }) with
        hdm := [⟨0, 0, 0, 0x10000000⟩] }
      s.accepts && s.decoded 0 60 8 && (List.range 2).all fun b => ((List.range 8).any fun j => (60 + j) / 64 == b) && (winSite (64 * b) == some 0) && !s.hole (64 * b) &&
        !s.written.contains b && ((s.sites[(0 : SiteId)]).freshRd == f)) = true := by decide +kernel

/-- Site S in its contacts. -/
def seatedS (s : State) : State := siteIs 16 (fun x => { x with present := true, clamp := true }) s

/-- HostEvents and FirmwareEvents, recovery: a service module that answers in recovery, and one that is not in its contacts. FirmwareEvents: a module that is powered and one
that takes power, its image torn; the stage manager silent, its module up. -/
theorem witness_recovery : (let s := seatedS { State.reset with fw := { Firmware.reset with mode := .recovery } }; s.recovers = true ∧ s.serviceUp = false ∧ s.fw.strap = false) ∧
    (let s : State := { State.reset with fw := { Firmware.reset with mode := .recovery } }; s.fw.mode = .recovery ∧ s.recovers = false) ∧
    (let s := siteIs 16 (fun x => { x with state := .seated }) { State.reset with fw := { Firmware.reset with mode := .off, torn := true } };
      transits (s.sites[siteS]).state .powering = true ∧ s.fw.mode = .off ∧ s.fw.torn = true) ∧
    (let s := siteIs 16 (fun x => { x with state := .admitted }) State.reset; (s.sites[siteS]).state.powered = true) ∧
    (let s := siteIs 3 (fun x => { x with waitingMsgs := #v[0, 1], permitSince := #v[none, some 0] })
        (deckUp { State.reset with cue := 2 ^ 20 });
      ([FwMode.running, .recovery].all fun m => let s : State := { s with fw := { s.fw with mode := m } }
        (s.sites[siteS]).state.up && !s.fw.mode.restarts && !s.losing siteS 3 && decide (0 < (s.sites[(3 : SiteId)]).waitingMsgs[(1 : Fin 2)] ∧
          (s.sites[(3 : SiteId)]).permitSince[(1 : Fin 2)] = some 0 ∧ 0 + 2 ^ 20 ≤ s.cue)) = true) := by decide +kernel
end

/-! SUPPORT. What cold start and a launch start leave (00 R11, 01 R42, 13 R325, 14 R341): one lemma per reader of the state, then O9. -/
namespace Sys2Proof.Machine

/-! ### Cold start -/

/-- Every site starts alike (13 R325, 14 R354). -/
theorem State.reset_sites_get (n : SiteId) : State.reset.sites[n] = Site.reset :=
  Vector.getElem_replicate n.isLt

/-- Every queue starts alike (14 R341). -/
theorem State.reset_queues_get (q : Fin 64) : State.reset.queues[q] = Queue.reset :=
  Vector.getElem_replicate q.isLt

@[simp] theorem memGet_nil (a : Nat) : memGet [] a = 0 := rfl

/-! ### Launch start (01 R42) -/

@[simp] theorem TState.launch_sreg (data : Memory) (r : Fin 32) : (TState.launch data).sreg r = 0 := by
  have hs : (TState.launch data).s[r] = 0 := Vector.getElem_replicate r.isLt
  simp only [TState.sreg, hs, ite_self]

theorem TState.launch_v_get (data : Memory) (r : Fin 32) : (TState.launch data).v[r] = 0 :=
  Vector.getElem_replicate r.isLt

theorem TState.launch_k_get (data : Memory) (r : Fin 32) : (TState.launch data).k[r] = 0 :=
  Vector.getElem_replicate r.isLt

/-- p0 reads one whatever is stored; the stored word is 1, so every other predicate reads zero. -/
@[simp] theorem TState.launch_pred (data : Memory) (p : Fin 8) : (TState.launch data).pred p = decide (p = 0) := by
  have bits_of_one : ∀ p : Fin 8, (p == 0 || (1#8).getLsbD p) = decide (p = 0) := by decide
  exact bits_of_one p

theorem TState.launch_latS_get (data : Memory) (l : Fin 16) : (TState.launch data).latS[l] = 0 :=
  Vector.getElem_replicate l.isLt

theorem TState.launch_latV_get (data : Memory) (l : Fin 16) : (TState.launch data).latV[l] = 0 :=
  Vector.getElem_replicate l.isLt

theorem TState.launch_loops_get (data : Memory) (j : Fin 4) : (TState.launch data).loops[j] = LoopLevel.launch :=
  Vector.getElem_replicate j.isLt

/-- Inside the vector every unit's word is zero, past its end it reads as zero: CORE either way. -/
@[simp] theorem TState.launch_owner (data : Memory) (u : Nat) : (TState.launch data).owner u = ownCore := by
  have hown : (TState.launch data).own.getD u 0 = 0 := by
    by_cases hu : u < 256 <;> simp [TState.launch, Vector.getD, hu]
  simp only [TState.owner, hown]
  rfl

end Sys2Proof.Machine

section
open Sys2Proof Sys2Proof.Machine

/-- Settles O9. Cold start: memories are empty lists, sites and queues replicas of one value. Launch start: register files are
replicas of zero, read through their accessors. -/
theorem resetAndLaunchStart : Obligations.ResetAndLaunchStart := by
  unfold Obligations.ResetAndLaunchStart
  constructor
  · have sites (n : SiteId) : (State.reset.sites[n]).state = .empty ∧ (State.reset.sites[n]).epoch = 0 ∧
        (State.reset.sites[n]).auto = true ∧ (State.reset.sites[n]).lastCause = 0 ∧ (State.reset.sites[n]).links = [] := by
      rw [State.reset_sites_get]; exact ⟨rfl, rfl, rfl, rfl, rfl⟩
    have queues (q : Fin 64) : (State.reset.queues[q]).log2n = 4 ∧ (State.reset.queues[q]).enable = false ∧
        (State.reset.queues[q]).head = 0 ∧ (State.reset.queues[q]).tail = 0 ∧ (State.reset.queues[q]).qbase = 0 := by
      rw [State.reset_queues_get]; exact ⟨rfl, rfl, rfl, rfl, rfl⟩
    exact ⟨rfl, memGet_nil, memGet_nil, sites, rfl, queues, rfl, rfl⟩
  · intro data st
    have regs (r : Fin 32) : st.sreg r = 0 ∧ st.v[r] = 0 ∧ st.k[r] = 0 :=
      ⟨TState.launch_sreg data r, TState.launch_v_get data r, TState.launch_k_get data r⟩
    have latches (l : Fin 16) : st.latS[l] = 0 ∧ st.latV[l] = 0 :=
      ⟨TState.launch_latS_get data l, TState.launch_latV_get data l⟩
    have loops (j : Fin 4) : (st.loops[j]).active = false := by
      rw [TState.launch_loops_get]; rfl
    exact ⟨regs, TState.launch_pred data, rfl, latches, loops, rfl, rfl, rfl, rfl, TState.launch_owner data, rfl, rfl, rfl⟩

end

section
namespace Sys2Proof.Machine

/-- An event run is exec of the instruction it stands for. -/
theorem Event.run_of_means {e : Event} {i : Instr} (hm : e.means i) (s : State) : e.run s = exec i s := by
  cases e <;> cases hm <;> rfl

theorem step_of_agenda_cons {s : State} {e : Event} {r : List Event} (ha : s.agenda = e :: r) :
    step s = e.run { s with agenda := r } := by
  unfold step; rw [ha]

theorem step_of_agenda_nil {s : State} (ha : s.agenda = []) : step s = .next s.advance := by
  unfold step; rw [ha]

end Sys2Proof.Machine

open Sys2Proof Sys2Proof.Machine

/-- Settles O1: the event's constructor is the instruction's. -/
theorem stepDoesTheNextEvent : Obligations.StepDoesTheNextEvent := by
  unfold Obligations.StepDoesTheNextEvent
  refine ⟨fun s e r i ha hm => ?_, fun s ha => step_of_agenda_nil ha⟩
  rw [step_of_agenda_cons ha, Event.run_of_means hm]

end

section
/-! SUPPORT. The scalar words that only compute (04 R118): each ends in its result in flight or in a trap; then O44. -/
namespace Sys2Proof.Machine

/-- What a scalar word that computes gives: its result in flight, or a cause. -/
def ScalarResult (h : Here) (r : Dst) (x : Res) : Prop :=
  (∃ lat v, x = .ok (h.st.resS h.cue lat r v)) ∨ ∃ code info, x = .trap code info

/-- An instruction whose meaning is a word that computes a scalar result. -/
def ComputesScalar (r : Dst) (i : Instr) : Prop :=
  ∃ f : Here → Res, exec i = word f ∧ ∀ h, ScalarResult h r (f h)

theorem ComputesScalar.of_scalar {i : Instr} {r : Dst} {lat : Nat} {f : Here → W64} (e : exec i = scalar lat r f) :
    ComputesScalar r i :=
  ⟨_, e, fun h => .inl ⟨lat, f h, rfl⟩⟩

theorem ComputesScalar.of_readIndex {i : Instr} {r : Dst} {f : Here → Option W64} (e : exec i = readIndex r f) :
    ComputesScalar r i := by
  refine ⟨_, e, fun h => ?_⟩
  cases hf : f h with
  | some v => exact .inl ⟨1, v, rfl⟩
  | none => exact .inr ⟨_, _, rfl⟩

theorem scalarResult_loadScalar (h : Here) (w : Nat) (r : Dst) (a : Int) : ScalarResult h r (h.loadScalar w r a) := by
  unfold Here.loadScalar Here.scalarCheck
  split
  · split
    · exact .inr ⟨_, _, rfl⟩
    · exact .inl ⟨4, _, rfl⟩
  · exact .inr ⟨_, _, rfl⟩

theorem ComputesScalar.of_load {i : Instr} {r : Dst} {w : Nat} {a : Here → Int}
    (e : exec i = word fun h => h.loadScalar w r (a h)) : ComputesScalar r i :=
  ⟨_, e, fun h => scalarResult_loadScalar h w r (a h)⟩

/-- Where no cause is raised, a word that computes leaves its result in flight and nothing else. -/
theorem ComputesScalar.onlyFlies {r : Dst} {i : Instr} (hc : ComputesScalar r i) {s t : State} {h : Here} (hs : s.here = some h)
    (ht : exec i s = .next t) (hr : t.raised = none) :
    ∃ c v, h.onlyFlies t (⟨c, .latS .s r.l v⟩ :: if r.n then [] else [⟨c, .sreg r.d v⟩]) := by
  obtain ⟨f, hf, hres⟩ := hc
  rw [hf, word_here hs] at ht
  cases ht
  rcases hres h with ⟨lat, v, hx⟩ | ⟨code, info, hx⟩
  · refine ⟨h.cue + lat, v, ?_⟩
    rw [hx, Here.onlyFlies, ← TState.resS_only]
    rfl
  · rw [hx] at hr
    cases hr

theorem compare_onlyFlies {s t : State} {h : Here} (hs : s.here = some h) {i : Instr} {n : Bool} {l : Fin 4} {p : Fin 8} {a b : Sel}
    (f : W64 → W64 → Bool) (e : exec i = compare n l p a b f) (ht : exec i s = .next t) :
    ∃ v, h.onlyFlies t (⟨h.cue + 1, .latS .s l (if v then 1 else 0)⟩ :: if n then [] else [⟨h.cue + 1, .pred p v⟩]) := by
  refine ⟨f (h.getS a) (h.getS b), ?_⟩
  rw [e, compare, word_here hs] at ht
  cases ht
  cases n <;> simp [Here.onlyFlies, Here.finish, TState.fly1, truth]

end Sys2Proof.Machine

open Sys2Proof Sys2Proof.Machine

/-- Settles O44: every word of the first list computes a scalar result, every word of the second is a compare. -/
theorem scalarComputeFrame : Obligations.ScalarComputeFrame := by
  unfold Obligations.ScalarComputeFrame
  intro s t h r a b imm n6 n l p inv base off st hs
  constructor
  · intro i hi ht hraised hnone
    refine ComputesScalar.onlyFlies ?_ hs ht (hraised.trans hnone)
    clear ht
    revert i
    simp only [List.forall_mem_cons, List.not_mem_nil, false_implies, implies_true, and_true]
    exact ⟨.of_scalar rfl, .of_scalar rfl, .of_scalar rfl, .of_scalar rfl, .of_scalar rfl, .of_scalar rfl, .of_scalar rfl,
      .of_scalar rfl, .of_scalar rfl, .of_scalar rfl, .of_scalar rfl, .of_scalar rfl, .of_scalar rfl, .of_scalar rfl,
      .of_scalar rfl, .of_scalar rfl, .of_scalar rfl, .of_scalar rfl, .of_scalar rfl, .of_scalar rfl, .of_scalar rfl,
      .of_scalar rfl, .of_scalar rfl, .of_scalar rfl, .of_scalar rfl, .of_scalar rfl, .of_scalar rfl, .of_scalar rfl,
      .of_scalar rfl, .of_scalar rfl, .of_scalar rfl, .of_scalar rfl, .of_scalar rfl, .of_load rfl, .of_load rfl, .of_load rfl,
      .of_load rfl, .of_load rfl, .of_load rfl, .of_load rfl, .of_load rfl, .of_readIndex rfl, .of_readIndex rfl,
      .of_scalar rfl, .of_scalar rfl⟩
  · intro i hi ht
    revert i
    simp only [List.forall_mem_cons, List.not_mem_nil, false_implies, implies_true, and_true]
    exact ⟨compare_onlyFlies hs (· == ·) rfl, compare_onlyFlies hs (· != ·) rfl, compare_onlyFlies hs ltS rfl,
      compare_onlyFlies hs ltU rfl, compare_onlyFlies hs (fun x y => !ltS x y) rfl, compare_onlyFlies hs (fun x y => !ltU x y) rfl⟩

end

section
/-! SUPPORT. Lanes and masks read back (01 R17 to R19), entries of a vector written at one place. -/
namespace Sys2Proof.Machine

theorem getElem_set_fin {α : Type} {n : Nat} (xs : Vector α n) (i j : Fin n) (x : α) :
    (xs.set i x)[j] = if j = i then x else xs[j] := by
  simp only [Fin.getElem_fin, Vector.getElem_set, Fin.ext_iff, eq_comm]

theorem lanesNat_lt (f : Nat → W32) (n : Nat) : lanesNat f n < 2 ^ (32 * n) := by
  induction n with
  | zero => exact Nat.one_pos
  | succ n ih =>
    have hf : (f n).toNat + 1 ≤ 2 ^ 32 := (f n).isLt
    calc lanesNat f n + (f n).toNat * 2 ^ (32 * n) < 2 ^ (32 * n) + (f n).toNat * 2 ^ (32 * n) := by omega
      _ = ((f n).toNat + 1) * 2 ^ (32 * n) := by ring
      _ ≤ 2 ^ 32 * 2 ^ (32 * n) := Nat.mul_le_mul_right _ hf
      _ = 2 ^ (32 * (n + 1)) := by rw [← Nat.pow_add]; congr 1; omega

theorem lanesNat_digit (f : Nat → W32) {n i : Nat} (hi : i < n) : lanesNat f n / 2 ^ (32 * i) % 2 ^ 32 = (f i).toNat := by
  induction n with
  | zero => omega
  | succ n ih =>
    rw [lanesNat]
    by_cases hn : i = n
    · subst hn
      rw [Nat.add_mul_div_right _ _ (Nat.two_pow_pos _), Nat.div_eq_of_lt (lanesNat_lt f i), Nat.zero_add,
        Nat.mod_eq_of_lt (f i).isLt]
    · have hpow : (f n).toNat * 2 ^ (32 * n) = ((f n).toNat * 2 ^ (32 * (n - i - 1))) * 2 ^ 32 * 2 ^ (32 * i) := by
        rw [Nat.mul_assoc, Nat.mul_assoc, ← Nat.pow_add, ← Nat.pow_add]; congr 2; omega
      rw [hpow, Nat.add_mul_div_right _ _ (Nat.two_pow_pos _), Nat.add_mul_mod_self_right, ih (by omega)]

theorem extractLsb'_lanesNat (f : Nat → W32) {n i : Nat} (hi : i < n) :
    (BitVec.ofNat (32 * n) (lanesNat f n)).extractLsb' (32 * i) 32 = f i := by
  apply BitVec.eq_of_toNat_eq
  rw [BitVec.extractLsb'_toNat, BitVec.toNat_ofNat, Nat.mod_eq_of_lt (lanesNat_lt f n), Nat.shiftRight_eq_div_pow]
  exact lanesNat_digit f hi

/-- A lane of an image made from lanes. -/
theorem lane_ofLanes (f : Nat → W32) {i : Nat} (hi : i < 64) : lane (ofLanes f) i = f i :=
  extractLsb'_lanesNat f (n := 64) hi

theorem lane_blend (m : W64) (old new : Vec) {i : Nat} (hi : i < 64) :
    lane (blend m old new) i = if m.getLsbD i then lane new i else lane old i := lane_ofLanes _ hi

theorem getLsbD_maskOf (f : Nat → Bool) (n i : Nat) : (maskOf f n).getLsbD i = (decide (i < n) && decide (i < 64) && f i) := by
  induction n with
  | zero => simp [maskOf]
  | succ n ih =>
    rw [maskOf, BitVec.getLsbD_or, ih]
    by_cases hi : i = n
    · subst hi; cases f i <;> simp
    · cases f n <;> simp [show i < n + 1 ↔ i < n by omega]; omega

end Sys2Proof.Machine
end

section
/-! SUPPORT. Results in flight as they land (01 R13, R14); then O16. -/
namespace Sys2Proof.Machine

/-! ### Landing -/

/-- With nothing else in flight, results all due land in their order. -/
theorem TState.landDue_of_all_due {st : TState} {c : Nat} (h0 : st.flight = []) {fs : List Flight} (hd : ∀ f ∈ fs, f.due ≤ c) :
    ({ st with flight := st.flight ++ fs } : TState).landDue c = fs.foldl (fun st f => st.landEff f.eff) st := by
  have due : fs.filter (fun f => decide (f.due ≤ c)) = fs := by simpa using hd
  have later : fs.filter (fun f => decide (c < f.due)) = [] := by simpa using hd
  have st_eq : ({ st with flight := [] } : TState) = st := by rw [← h0]
  simp only [TState.landDue, h0, List.nil_append, due, later, st_eq]

/-- Results none of which is due stay in flight. -/
theorem TState.landDue_of_none_due {st : TState} {c : Nat} (hd : ∀ f ∈ st.flight, c < f.due) : st.landDue c = st := by
  have due : st.flight.filter (fun f => decide (f.due ≤ c)) = [] := by simpa using hd
  have later : st.flight.filter (fun f => decide (c < f.due)) = st.flight := by simpa using hd
  simp only [TState.landDue, due, later, List.foldl_nil]

/-- One result in flight, landed in its cycle. -/
theorem TState.landDue_fly1 {st : TState} (h0 : st.flight = []) (c lat : Nat) (e : Eff) :
    (st.fly1 c lat e).landDue (c + lat) = st.landEff e :=
  TState.landDue_of_all_due h0 (fs := [⟨c + lat, e⟩]) (by simp)

/-- A scalar result in its cycle: its latch, then its register unless N. -/
theorem TState.landDue_resS {st : TState} (h0 : st.flight = []) (c lat : Nat) (r : Dst) (v : W64) :
    (st.resS c lat r v).landDue (c + lat) =
      if r.n then st.landEff (.latS .s r.l v) else (st.landEff (.latS .s r.l v)).landEff (.sreg r.d v) := by
  rw [TState.resS_only, TState.landDue_of_all_due h0 (by cases r.n <;> simp)]
  cases r.n <;> rfl

theorem TState.landDue_resV {st : TState} (h0 : st.flight = []) (u : Slot) (c lat : Nat) (r : Dst) (v : Vec) (m : W64) :
    (st.resV u c lat r v m).landDue (c + lat) =
      if r.n then st.landEff (.latV u r.l v m) else (st.landEff (.latV u r.l v m)).landEff (.vreg r.d v m) := by
  rw [TState.resV_only, TState.landDue_of_all_due h0 (by cases r.n <;> simp)]
  cases r.n <;> rfl

/-! ### What each result changes -/

theorem TState.landEff_sreg (st : TState) (r : Fin 32) (v : W64) :
    st.landEff (.sreg r v) = { st with s := if r = 0 then st.s else st.s.set r v } := by
  show (if r = 0 then st else { st with s := st.s.set r v }) = _
  split <;> rfl

theorem TState.sreg_landEff_sreg (st : TState) (r q : Fin 32) (v : W64) :
    (st.landEff (.sreg r v)).sreg q = if q = r ∧ r ≠ 0 then v else st.sreg q := by
  rw [TState.landEff_sreg]
  unfold TState.sreg
  by_cases hr : r = 0
  · simp [hr]
  · by_cases hq : q = r
    · subst hq; simp [hr]
    · simp only [hr, if_false, getElem_set_fin, hq, false_and]

@[simp] theorem TState.sreg_landEff_latS (st : TState) (u : Slot) (b : Fin 4) (v : W64) (q : Fin 32) :
    (st.landEff (.latS u b v)).sreg q = st.sreg q := rfl

theorem TState.latS_landEff_latS (st : TState) (u : Slot) (b : Fin 4) (v : W64) (x : Fin 16) :
    (st.landEff (.latS u b v)).latS[x] = if x = latSIdx u b then v else st.latS[x] := getElem_set_fin _ _ _ _

@[simp] theorem TState.latS_landEff_sreg (st : TState) (r : Fin 32) (v : W64) : (st.landEff (.sreg r v)).latS = st.latS := by
  rw [TState.landEff_sreg]

theorem TState.lane_landEff_vreg (st : TState) (r q : Fin 32) (v : Vec) (m : W64) {i : Nat} (hi : i < 64) :
    lane ((st.landEff (.vreg r v m)).v[q]) i = if q = r ∧ m.getLsbD i = true then lane v i else lane st.v[q] i := by
  show lane ((st.v.set r (blend m st.v[r] v))[q]) i = _
  rw [getElem_set_fin]
  by_cases hq : q = r
  · subst hq; simp [lane_blend _ _ _ hi]
  · simp [hq]

theorem TState.lane_landEff_latV (st : TState) (u : Slot) (b : Fin 4) (v : Vec) (m : W64) (x : Fin 16) {i : Nat} (hi : i < 64) :
    lane ((st.landEff (.latV u b v m)).latV[x]) i =
      if x = latVIdx u b ∧ m.getLsbD i = true then lane v i else lane st.latV[x] i := by
  show lane ((st.latV.set (latVIdx u b) (blend m st.latV[latVIdx u b] v))[x]) i = _
  rw [getElem_set_fin]
  by_cases hx : x = latVIdx u b
  · subst hx; simp [lane_blend _ _ _ hi]
  · simp [hx]

@[simp] theorem TState.v_landEff_latV (st : TState) (u : Slot) (b : Fin 4) (v : Vec) (m : W64) :
    (st.landEff (.latV u b v m)).v = st.v := rfl

@[simp] theorem TState.latV_landEff_vreg (st : TState) (r : Fin 32) (v : Vec) (m : W64) :
    (st.landEff (.vreg r v m)).latV = st.latV := rfl

theorem TState.landEff_pred (st : TState) (p : Fin 8) (t : Bool) : st.landEff (.pred p t) =
    { st with p := if p = 0 then st.p else (st.p &&& ~~~(1#8 <<< p.val)) ||| (if t then 1#8 <<< p.val else 0) } := by
  show (if p = 0 then st else { st with p := (st.p &&& ~~~(1#8 <<< p.val)) ||| (if t then 1#8 <<< p.val else 0) }) = _
  split <;> rfl

/-- One bit of a predicate register written. -/
theorem getLsbD_writeBit (x : BitVec 8) (p q : Fin 8) (t : Bool) :
    ((x &&& ~~~(1#8 <<< p.val)) ||| (if t then 1#8 <<< p.val else 0)).getLsbD q = if q = p then t else x.getLsbD q := by
  have one_shift : (1#8 <<< p.val).getLsbD q = decide (q = p) := by revert p q; decide
  have ite_bit : ((if t then 1#8 <<< p.val else 0) : BitVec 8).getLsbD q = (t && decide (q = p)) := by
    cases t
    · simp
    · exact one_shift
  rw [BitVec.getLsbD_or, BitVec.getLsbD_and, BitVec.getLsbD_not, one_shift, ite_bit]
  by_cases hq : q = p
  · simp only [hq, decide_true, Bool.and_true, if_true]; simp
  · simp only [hq, decide_false, Bool.and_false, Bool.or_false, if_false]; simp

theorem TState.pred_landEff_pred (st : TState) (p q : Fin 8) (t : Bool) :
    (st.landEff (.pred p t)).pred q = if q = 0 then true else if q = p then t else st.pred q := by
  rw [TState.landEff_pred]
  unfold TState.pred
  by_cases hq : q = 0
  · simp [hq]
  · by_cases hp : p = 0
    · simp [hp, hq]
    · simp only [hp, if_false, getLsbD_writeBit, hq, beq_eq_false_iff_ne.mpr hq, Bool.false_or]

/-! ### Two results (01 R14) -/

/-- Of the results in flight, those due land and those later stay. -/
theorem TState.landDue_append {st : TState} {c : Nat} (h0 : st.flight = []) {fs gs : List Flight} (hd : ∀ f ∈ fs, f.due ≤ c)
    (hl : ∀ f ∈ gs, c < f.due) :
    ({ st with flight := st.flight ++ (fs ++ gs) } : TState).landDue c =
      fs.foldl (fun st f => st.landEff f.eff) { st with flight := gs } := by
  have due : fs.filter (fun f => decide (f.due ≤ c)) = fs := by simpa using hd
  have notDue : gs.filter (fun f => decide (f.due ≤ c)) = [] := by simpa using hl
  have later : fs.filter (fun f => decide (c < f.due)) = [] := by simpa using hd
  have stay : gs.filter (fun f => decide (c < f.due)) = gs := by simpa using hl
  simp only [TState.landDue, h0, List.nil_append, List.filter_append, due, notDue, later, stay, List.append_nil]

theorem TState.landDue_resS_resS {st : TState} (h0 : st.flight = []) (c lat : Nat) {r r' : Dst} (v v' : W64) (hr : r.n = false)
    (hr' : r'.n = false) : ((st.resS c lat r v).resS (c + lat) 0 r' v').landDue (c + lat) =
      (((st.landEff (.latS .s r.l v)).landEff (.sreg r.d v)).landEff (.latS .s r'.l v')).landEff (.sreg r'.d v') := by
  rw [TState.resS_only, TState.resS_only]
  simp only [hr, hr', Bool.false_eq_true, if_false, List.append_assoc, List.cons_append, List.nil_append]
  exact TState.landDue_of_all_due h0 (by simp)

theorem TState.landDue_resV_resV {st : TState} (h0 : st.flight = []) (u : Slot) (c lat : Nat) {r r' : Dst} (x y : Vec) (m m' : W64)
    (hr : r.n = false) (hr' : r'.n = false) : ((st.resV u c lat r x m).resV u (c + lat) 0 r' y m').landDue (c + lat) =
      (((st.landEff (.latV u r.l x m)).landEff (.vreg r.d x m)).landEff (.latV u r'.l y m')).landEff (.vreg r'.d y m') := by
  rw [TState.resV_only, TState.resV_only]
  simp only [hr, hr', Bool.false_eq_true, if_false, List.append_assoc, List.cons_append, List.nil_append]
  exact TState.landDue_of_all_due h0 (by simp)

/-- Of two results the earlier lands, the later stays in flight. -/
theorem TState.landDue_resS_later {st : TState} (h0 : st.flight = []) (c : Nat) {lat lat' : Nat} {r r' : Dst} (v v' : W64)
    (hr : r.n = false) (hr' : r'.n = false) (hlat : lat < lat') : ((st.resS c lat r v).resS c lat' r' v').landDue (c + lat) =
      (({ st with flight := [⟨c + lat', .latS .s r'.l v'⟩, ⟨c + lat', .sreg r'.d v'⟩] } : TState).landEff (.latS .s r.l v)).landEff
        (.sreg r.d v) := by
  rw [TState.resS_only, TState.resS_only]
  simp only [hr, hr', Bool.false_eq_true, if_false, List.append_assoc, List.cons_append, List.nil_append]
  exact TState.landDue_append h0 (fs := [⟨c + lat, .latS .s r.l v⟩, ⟨c + lat, .sreg r.d v⟩]) (by simp) (by simp [hlat])

@[simp] theorem TState.flight_landEff_sreg (st : TState) (r : Fin 32) (v : W64) : (st.landEff (.sreg r v)).flight = st.flight := by
  rw [TState.landEff_sreg]

@[simp] theorem TState.flight_landEff_latS (st : TState) (u : Slot) (b : Fin 4) (v : W64) :
    (st.landEff (.latS u b v)).flight = st.flight := rfl

/-- The result that stayed in flight lands in its own cycle. -/
theorem TState.sreg_landDue_later {st : TState} (c lat : Nat) (r : Dst) (v : W64)
    (h0 : st.flight = [⟨c + lat, .latS .s r.l v⟩, ⟨c + lat, .sreg r.d v⟩]) :
    (st.landDue (c + lat)).sreg r.d = if r.d = 0 then 0 else v := by
  have split : st = { ({ st with flight := [] } : TState) with flight := ({ st with flight := [] } : TState).flight ++ st.flight } := rfl
  rw [split, h0, TState.landDue_of_all_due rfl (by simp)]
  simp only [List.foldl_cons, List.foldl_nil, TState.sreg_landEff_sreg]
  by_cases hd : r.d = 0 <;> simp [hd, TState.sreg]

/-! ### Groups (01 R22) -/

theorem TState.groupOf_level_iff (st : TState) (l : Fin 4) : (st.groupOf).level = some l ↔
    ∃ a b, st.nest = a ++ l :: b ∧ (st.loops[l]).covers st.pc = true ∧ ∀ m ∈ a, (st.loops[m]).covers st.pc = false := by
  unfold TState.groupOf
  simp only [List.find?_eq_some_iff_append, Bool.not_eq_true']
  constructor
  · rintro ⟨hc, a, b, hn, ha⟩; exact ⟨a, b, hn, hc, ha⟩
  · rintro ⟨a, b, hn, hc, ha⟩; exact ⟨hc, a, b, hn, ha⟩

/-- What a group switch keeps in flight: everything but latch writes. -/
theorem TState.mem_flight_groupSwitch (st : TState) (f : Flight) : f ∈ st.groupSwitch.flight ↔
    f ∈ st.flight ∧ (∀ x b v, f.eff ≠ .latS x b v) ∧ ∀ x b v m, f.eff ≠ .latV x b v m := by
  obtain ⟨due, eff⟩ := f
  simp only [TState.groupSwitch, List.mem_filter]
  cases eff <;> simp

theorem TState.streamAddr_eq (st : TState) (n : Fin 8) :
    let part (l : Fin 4) : Int := if (st.loops[l]).active then ((st.loops[l]).idx.toNat : Int) * ((st.a[n]).d[l]).toInt else 0
    st.streamAddr n = ((st.a[n]).base.toNat : Int) + part 0 + part 1 + part 2 + part 3 := by
  have add_if (b : Bool) (x y : Int) : (if b = true then x + y else x) = x + if b = true then y else 0 := by cases b <;> simp
  have levels : List.finRange 4 = [0, 1, 2, 3] := by decide
  simp only [TState.streamAddr, levels, List.foldl_cons, List.foldl_nil, add_if]

end Sys2Proof.Machine

open Sys2Proof Sys2Proof.Machine

/-- Settles O16: what is due lands as a fold of single results, and each single result changes one field. -/
theorem resultsLand : Obligations.ResultsLand := by
  unfold Obligations.ResultsLand
  refine ⟨?_, ?_, ?_, ?_, ?_, ?_⟩
  · intro st c lat r v h0
    rw [TState.landDue_resS h0]
    refine ⟨fun q => ?_, fun x => ?_, fun c' hc => ?_, ?_⟩
    · cases hn : r.n <;> simp [TState.sreg_landEff_sreg]
    · cases hn : r.n <;> simp only [Bool.false_eq_true, if_true, if_false, TState.latS_landEff_sreg, TState.latS_landEff_latS]
    · exact TState.landDue_of_none_due (by cases hn : r.n <;> simp [TState.resS_flight, h0, hn, hc])
    · cases hn : r.n
      · simp only [Bool.false_eq_true, if_false, TState.landEff_sreg]; rfl
      · rfl
  · intro st u c lat r v m h0
    rw [TState.landDue_resV h0]
    refine ⟨fun q i hi => ?_, fun x i hi => ?_, ?_⟩
    · cases hn : r.n <;> simp only [Bool.false_eq_true, if_true, if_false, TState.lane_landEff_vreg _ _ _ _ _ hi,
        TState.v_landEff_latV, true_and, Bool.true_eq_false, false_and, and_false]
    · cases hn : r.n <;> simp only [Bool.false_eq_true, if_true, if_false, TState.latV_landEff_vreg,
        TState.lane_landEff_latV _ _ _ _ _ _ hi]
    · cases hn : r.n <;> rfl
  · intro st c p q t h0
    rw [TState.landDue_fly1 h0]
    exact ⟨TState.pred_landEff_pred st p q t, by simp [TState.landEff_pred]⟩
  · intro st c lat lat' r r' v v' u m m' x y h0 hr hr'
    refine ⟨?_, ?_, fun hlat => ?_⟩
    · rw [TState.landDue_resS_resS h0 c lat v v' hr hr']
      refine ⟨fun q hq => ?_, fun l => ?_, by simpa using h0⟩
      · simp only [TState.sreg_landEff_sreg, TState.sreg_landEff_latS]
        by_cases hd' : q = r'.d
        · simp [← hd', hq]
        · by_cases hd : q = r.d
          · simp [← hd, hd', hq]
          · simp only [hd, hd', false_and, if_false]
      · simp only [TState.latS_landEff_latS, TState.latS_landEff_sreg]
    · rw [TState.landDue_resV_resV h0 u c lat x y m m' hr hr']
      refine ⟨fun q i hi => ?_, h0⟩
      simp only [TState.lane_landEff_vreg _ _ _ _ _ hi, TState.v_landEff_latV]
    · rw [TState.landDue_resS_later h0 c v v' hr hr' hlat]
      refine ⟨fun q hq => ?_, TState.sreg_landDue_later c lat' r' v' (TState.flight_landEff_sreg _ _ _)⟩
      simp only [TState.sreg_landEff_sreg, TState.sreg_landEff_latS]
      by_cases hd : q = r.d
      · simp [← hd, hq]
      · simp only [hd, false_and, if_false]; rfl
  · intro st c k n j x a w lo hi h0 lands
    have lands_eq : lands = st.landEff := funext fun e => TState.landDue_fly1 h0 c 1 e
    clear_value lands
    subst lands_eq
    refine ⟨⟨fun i => getElem_set_fin _ _ _ _, rfl⟩, ⟨fun i => getElem_set_fin _ _ _ _, rfl⟩, ⟨fun i => ?_, rfl⟩,
      ⟨fun l => getElem_set_fin _ _ _ _, rfl⟩, ⟨fun l => getElem_set_fin _ _ _ _, rfl⟩, st.streamAddr_eq n⟩
    have stream : (st.landEff (.streamDelta n j w)).a[i] =
        if i = n then { st.a[n] with d := (st.a[n]).d.set j w } else st.a[i] := getElem_set_fin _ _ _ _
    rw [stream]
    by_cases hi : i = n
    · subst hi; simp only [if_true, true_and, getElem_set_fin, implies_true]
    · simp only [hi, false_and, if_false, implies_true, true_and]
  · intro st
    refine ⟨rfl, st.groupOf_level_iff, fun hg => if_pos hg, fun hg => ?_⟩
    rw [show st.beforeBundle = st.groupSwitch from if_neg hg]
    refine ⟨fun l => ⟨Vector.getElem_replicate l.isLt, Vector.getElem_replicate l.isLt⟩, st.mem_flight_groupSwitch,
      List.filter_sublist, rfl, rfl, rfl⟩

end

section
/-! SUPPORT. Loop levels and the next address (04 R96 to R98); then O20. -/
namespace Sys2Proof.Machine

/-! ### Levels left -/

/-- A loop level no longer active where `off` holds. -/
def LoopLevel.leftIf (v : LoopLevel) (off : Bool) : LoopLevel := { v with active := v.active && !off }

@[simp] theorem LoopLevel.leftIf_false (v : LoopLevel) : v.leftIf false = v := by simp [LoopLevel.leftIf]
@[simp] theorem LoopLevel.leftIf_stop (v : LoopLevel) (b : Bool) : (v.leftIf b).stop = v.stop := rfl
@[simp] theorem LoopLevel.leftIf_start (v : LoopLevel) (b : Bool) : (v.leftIf b).start = v.start := rfl
@[simp] theorem LoopLevel.leftIf_stages (v : LoopLevel) (b : Bool) : (v.leftIf b).stages = v.stages := rfl
@[simp] theorem LoopLevel.leftIf_covers (v : LoopLevel) (b : Bool) (a : Nat) : (v.leftIf b).covers a = v.covers a := rfl
@[simp] theorem LoopLevel.leftIf_leftIf (v : LoopLevel) (b c : Bool) : (v.leftIf b).leftIf c = v.leftIf (b || c) := by
  simp [LoopLevel.leftIf, Bool.and_assoc]

theorem TState.loops_deact (st : TState) (l j : Fin 4) : (st.deact l).loops[j] = (st.loops[j]).leftIf (decide (j = l)) := by
  show (st.loops.set l _)[j] = _
  rw [getElem_set_fin]
  by_cases hj : j = l
  · subst hj; simp [LoopLevel.leftIf]
  · simp only [hj, if_false, decide_false, LoopLevel.leftIf_false]

theorem TState.loops_foldl_deact (ls : List (Fin 4)) : ∀ (st : TState) (j : Fin 4),
    (ls.foldl TState.deact st).loops[j] = (st.loops[j]).leftIf (decide (j ∈ ls)) := by
  induction ls with
  | nil => intro st j; simp only [List.foldl_nil, List.not_mem_nil, decide_false, LoopLevel.leftIf_false]
  | cons l r ih =>
    intro st j
    rw [List.foldl_cons, ih, TState.loops_deact, LoopLevel.leftIf_leftIf]
    simp only [List.mem_cons, Bool.decide_or]

theorem TState.nest_foldl_deact (ls : List (Fin 4)) : ∀ st : TState,
    (ls.foldl TState.deact st).nest = st.nest.filter fun x => !decide (x ∈ ls) := by
  induction ls with
  | nil => intro st; simp
  | cons l r ih =>
    intro st
    rw [List.foldl_cons, ih]
    show (st.nest.filter fun x => x != l).filter _ = _
    rw [List.filter_filter]
    congr 1; funext x
    by_cases hx : x = l <;> simp [hx]

@[simp] theorem TState.pc_foldl_deact (ls : List (Fin 4)) : ∀ st : TState, (ls.foldl TState.deact st).pc = st.pc := by
  induction ls with
  | nil => intro st; rfl
  | cons l r ih => intro st; exact ih (st.deact l)

/-! ### The step past a bundle -/

theorem TState.endSteps_none_ends (a : Nat) (ls : List (Fin 4)) (st : TState) (h : ∀ l ∈ ls, (st.loops[l]).stop.toNat ≠ a) :
    TState.endSteps a ls st = { st with pc := a + 1 } := by
  induction ls with
  | nil => rfl
  | cons l r ih =>
    rw [TState.endSteps, if_neg (h l List.mem_cons_self), ih fun m hm => h m (List.mem_cons_of_mem l hm)]

theorem TState.endSteps_again (a : Nat) (l : Fin 4) (r : List (Fin 4)) (st : TState) (he : (st.loops[l]).stop.toNat = a)
    (hc : (st.loops[l]).count ≠ 0) : TState.endSteps a (l :: r) st = { st with
      pc := (st.loops[l]).start.toNat
      loops := st.loops.set l { st.loops[l] with count := (st.loops[l]).count - 1, idx := (st.loops[l]).idx + 1 }
      q := if (st.loops[l]).stages ≠ 0 then
        (st.q <<< 1) ||| (if decide ((st.loops[l]).stages - 1 ≤ ((st.loops[l]).count - 1).toNat) then 1 else 0) else st.q } := by
  rw [TState.endSteps, if_pos he, if_pos hc]

theorem TState.endSteps_leave (a : Nat) (l : Fin 4) (r : List (Fin 4)) (st : TState) (he : (st.loops[l]).stop.toNat = a)
    (hc : (st.loops[l]).count = 0) : TState.endSteps a (l :: r) st = TState.endSteps a r (st.deact l) := by
  rw [TState.endSteps, if_pos he, if_neg (not_not.mpr hc)]

/-- Levels that end at a bundle with COUNT zero are left one after another. -/
theorem TState.endSteps_leave_all (a : Nat) (ls r : List (Fin 4)) : ∀ st : TState, (ls ++ r).Nodup →
    (∀ l ∈ ls, (st.loops[l]).stop.toNat = a ∧ (st.loops[l]).count = 0) →
    TState.endSteps a (ls ++ r) st = TState.endSteps a r (ls.foldl TState.deact st) := by
  induction ls with
  | nil => intro st _ _; rfl
  | cons l ls ih =>
    intro st hn he
    obtain ⟨hl, hn⟩ := List.nodup_cons.mp hn
    obtain ⟨hstop, hcount⟩ := he l List.mem_cons_self
    rw [List.cons_append, TState.endSteps_leave a l _ st hstop hcount, List.foldl_cons]
    refine ih _ hn fun m hm => ?_
    rw [TState.loops_deact]
    exact he m (List.mem_cons_of_mem l hm)

/-! ### The end of a bundle's issue -/

/-- Local state as it stands once the bundle has issued, the transfer taken up (09 R240, R241). -/
def TState.settleLocal (st : TState) : TState :=
  { st with localSince := st.localNext.getD st.localSince, localNext := none, xfer := .none }

@[simp] theorem TState.loops_settleLocal (st : TState) : st.settleLocal.loops = st.loops := rfl

theorem TState.leaveBundle_none (st : TState) (c : Nat) :
    st.leaveBundle c .none = TState.endSteps st.pc st.nest st.settleLocal := rfl

/-- Past a bundle that ends no level. -/
theorem TState.leaveBundle_of_none_ends (st : TState) (c : Nat) (hn : ∀ l ∈ st.nest, (st.loops[l]).stop.toNat ≠ st.pc) :
    st.leaveBundle c .none = { st.settleLocal with pc := st.pc + 1 } :=
  TState.endSteps_none_ends st.pc st.nest st.settleLocal hn

/-- Past a bundle at which some levels with COUNT zero end first: these are left, and the step goes on with the levels outside them. -/
theorem TState.leaveBundle_of_left (st : TState) (c : Nat) {ls r : List (Fin 4)} (hnest : st.nest = ls ++ r) (hnd : st.nest.Nodup)
    (hls : ∀ l ∈ ls, (st.loops[l]).stop.toNat = st.pc ∧ (st.loops[l]).count = 0) :
    st.leaveBundle c .none = TState.endSteps st.pc r (ls.foldl TState.deact st.settleLocal) := by
  rw [TState.leaveBundle_none, hnest]
  exact TState.endSteps_leave_all st.pc ls r st.settleLocal (hnest ▸ hnd) hls

/-- The levels left are gone from the nest. -/
theorem TState.nest_of_left {st : TState} {ls r : List (Fin 4)} (hnest : st.nest = ls ++ r) (hnd : st.nest.Nodup) :
    (ls.foldl TState.deact st).nest = r := by
  have hdis := List.disjoint_of_nodup_append (hnest ▸ hnd)
  rw [TState.nest_foldl_deact, hnest, List.filter_append, List.filter_eq_nil_iff.mpr (by simp), List.nil_append,
    List.filter_eq_self.mpr fun x hx => by simpa using fun hl => hdis hl hx]

theorem TState.leaveBundle_branch (st : TState) (c t : Nat) : st.leaveBundle c (.branch t) = st.settleLocal.transfer t := rfl

theorem TState.leaveBundle_loop (st : TState) (c : Nat) (lv : Fin 4) (n : W32) (stop : BitVec 11) (stages : Nat) :
    st.leaveBundle c (.loop lv n stop stages) =
      TState.endSteps st.pc (lv :: st.nest) (st.settleLocal.activate lv n stop stages) := rfl

theorem TState.loops_activate (st : TState) (lv j : Fin 4) (n : W32) (stop : BitVec 11) (stages : Nat) :
    (st.activate lv n stop stages).loops[j] =
      if j = lv then ⟨true, BitVec.ofNat 11 (st.pc + 1), stop, n, 0, stages⟩ else st.loops[j] := getElem_set_fin _ _ _ _

/-- A loop word in a bundle that ends no level: the level is activated and issue goes on. -/
theorem TState.leaveBundle_loop_of_none_ends (st : TState) (c : Nat) (lv : Fin 4) (n : W32) (stop : BitVec 11) (stages : Nat)
    (hn : ∀ l ∈ st.nest, (st.loops[l]).stop.toNat ≠ st.pc) (hs : stop.toNat ≠ st.pc) :
    st.leaveBundle c (.loop lv n stop stages) = { st.settleLocal.activate lv n stop stages with pc := st.pc + 1 } := by
  rw [TState.leaveBundle_loop]
  refine TState.endSteps_none_ends _ _ _ fun l hl => ?_
  rw [TState.loops_activate]
  split
  · exact hs
  · next hne => exact hn l ((List.mem_cons.mp hl).resolve_left hne)

/-! ### Transfers -/

/-- The levels of a list that an address is in and another is not, left. -/
def TState.leaveLevels (st : TState) (a t : Nat) (ls : List (Fin 4)) : TState :=
  ls.foldl (fun u l => if u.loops[l].covers a && !u.loops[l].covers t then u.deact l else u) st

theorem TState.loops_leaveLevels (a t : Nat) (ls : List (Fin 4)) : ∀ (st : TState) (j : Fin 4),
    (st.leaveLevels a t ls).loops[j] =
      (st.loops[j]).leftIf (decide (j ∈ ls) && (st.loops[j]).covers a && !(st.loops[j]).covers t) := by
  induction ls with
  | nil => intro st j; simp [TState.leaveLevels]
  | cons l r ih =>
    intro st j
    show ((if st.loops[l].covers a && !st.loops[l].covers t then st.deact l else st).leaveLevels a t r).loops[j] = _
    rw [ih]
    by_cases hl : st.loops[l].covers a && !st.loops[l].covers t
    · simp only [hl, if_true, TState.loops_deact, LoopLevel.leftIf_covers, LoopLevel.leftIf_leftIf]
      congr 1
      by_cases hj : j = l
      · subst hj; simp only [decide_true, Bool.true_or, List.mem_cons, true_or, Bool.true_and]; exact hl.symm
      · simp [hj]
    · simp only [hl, if_false, Bool.false_eq_true]
      congr 1
      by_cases hj : j = l
      · subst hj
        rw [Bool.not_eq_true] at hl
        simp only [Bool.and_assoc, hl, Bool.and_false]
      · simp [hj]

theorem TState.transfer_eq (st : TState) (t : Nat) : st.transfer t = { st.leaveLevels st.pc t st.nest with pc := t } := rfl

/-- q stays zero, and is zero once a REPLAY level is among those left. -/
theorem TState.q_leaveLevels (a t : Nat) (ls : List (Fin 4)) : ∀ st : TState,
    (st.q = 0 ∨ ∃ l ∈ ls, (st.loops[l]).stages ≠ 0 ∧ (st.loops[l]).covers a = true ∧ (st.loops[l]).covers t = false) →
    (st.leaveLevels a t ls).q = 0 := by
  induction ls with
  | nil => intro st h; simpa [TState.leaveLevels] using h
  | cons l r ih =>
    intro st h
    show ((if st.loops[l].covers a && !st.loops[l].covers t then st.deact l else st).leaveLevels a t r).q = 0
    apply ih
    have q_deact : (st.deact l).q = if (st.loops[l]).stages ≠ 0 then 0 else st.q := rfl
    rcases h with hq | ⟨m, hm, hst, ha, ht⟩
    · left; split
      · rw [q_deact, hq, ite_self]
      · exact hq
    · rcases List.mem_cons.mp hm with rfl | hm
      · left; rw [ha, ht]; simp only [Bool.not_false, Bool.and_true, if_true]; rw [q_deact, if_pos hst]
      · right; refine ⟨m, hm, ?_⟩
        split
        · rw [TState.loops_deact]; exact ⟨hst, ha, ht⟩
        · exact ⟨hst, ha, ht⟩

/-! ### Entry into the other half (04 R113) -/

theorem TState.half_enterHalf_ne (st : TState) (t : BitVec 11) : (st.enterHalf t).half ≠ st.half := by
  have flips : ∀ x : Fin 2, (if x = 0 then 1 else 0 : Fin 2) ≠ x := by decide
  exact flips st.half

theorem TState.loops_enterHalf (st : TState) (t : BitVec 11) (l : Fin 4) :
    (st.enterHalf t).loops[l] = { st.loops[l] with active := false } := Vector.getElem_map _ _

/-! ### REPLAY (04 R98, R99; 01 R26) -/

/-- The stage predicates move on by one: stage j works in pass i + 1 just where it or the stage before it worked on an iteration that is left. -/
theorem replay_stages_step {q : BitVec 8} {n S i : Nat} (hS : 0 < S) (hi : i + 2 < n + S)
    (hq : ∀ j < 8, q.getLsbD j = true ↔ j ≤ i ∧ i < n + j) :
    ∀ j < 8, ((q <<< 1) ||| (if decide (S - 1 ≤ n + S - 2 - (i + 1)) then 1 else 0)).getLsbD j = true ↔ j ≤ i + 1 ∧ i + 1 < n + j := by
  intro j hj
  have fresh_bit : ((if decide (S - 1 ≤ n + S - 2 - (i + 1)) then 1 else 0) : BitVec 8).getLsbD j = (decide (i + 1 < n) && decide (j = 0)) := by
    have hfresh : S - 1 ≤ n + S - 2 - (i + 1) ↔ i + 1 < n := by omega
    by_cases hlt : i + 1 < n
    · simp [hfresh, hlt, BitVec.getLsbD_one]
    · simp [hfresh, hlt]
  rw [BitVec.getLsbD_or, BitVec.getLsbD_shiftLeft, fresh_bit]
  cases j with
  | zero => simp
  | succ j =>
    have hprev := hq j (by omega)
    simp only [Nat.add_sub_cancel, hj, decide_true, Bool.true_and, Nat.succ_ne_zero, decide_false, Bool.and_false, Bool.or_false,
      show decide (j + 1 < 1) = false from decide_eq_false (by omega), Bool.not_false]
    rw [hprev]
    omega

/-- The COUNT of a REPLAY in its next pass. -/
theorem replay_count_step {count : W32} {n S i : Nat} (hi : i + 2 < n + S) (hc : count.toNat = n + S - 2 - i) :
    count ≠ 0 ∧ (count - 1).toNat = n + S - 2 - (i + 1) := by
  have pos : count ≠ 0 := by
    intro h
    rw [h] at hc
    have : (0 : W32).toNat = 0 := rfl
    omega
  exact ⟨pos, by bv_omega⟩

theorem TState.replayMode_iff (st : TState) :
    st.replayMode = true ↔ ∃ l ∈ st.nest, (st.loops[l]).stages ≠ 0 ∧ (st.loops[l]).covers st.pc = true := by
  simp only [TState.replayMode, List.any_eq_true, Bool.and_eq_true, bne_iff_ne]

/-- A halted tile issues nothing. -/
theorem Here.issues_of_halted {h : Here} (hh : h.st.halted = true) : h.issues = false := by
  simp [Here.issues, Here.alive, hh]

end Sys2Proof.Machine

open Sys2Proof Sys2Proof.Machine

/-- Settles O20: the levels a bundle ends are left one after another, a transfer leaves the levels it goes out of. -/
theorem nextAddress : Obligations.NextAddress := by
  unfold Obligations.NextAddress
  refine ⟨fun st c => ⟨fun hn => ?_, fun l r hnest he hc => ?_, fun l hnest he hc => ?_, fun ls r hnest hnd hls => ⟨?_, ?_⟩,
    fun t => ⟨rfl, fun j => ?_⟩, fun lv n stop stages hn hlv hs => ?_, fun t => ⟨rfl, rfl⟩, fun a r hr => ?_⟩,
    ⟨fun st c t => ?_, fun st c hn => ?_, fun s k h hk hh => ?_⟩,
    fun st c lv r n S i => ⟨fun x stop hS hn hs => ?_, fun hnest he hst hS hn hlt => ⟨fun hi hc hq => ?_, fun hc hr => ?_⟩,
      fun t hmem hst ha ht => ?_, fun h g => ⟨h.st.replayMode_iff, fun hm => ?_, fun hm => ?_⟩⟩⟩
  · rw [st.leaveBundle_of_none_ends c hn]
    exact ⟨rfl, rfl⟩
  · rw [TState.leaveBundle_none, hnest, TState.endSteps_again _ _ _ st.settleLocal he hc]
    exact ⟨rfl, hnest, rfl⟩
  · rw [TState.leaveBundle_none, hnest, TState.endSteps_leave _ _ _ st.settleLocal he hc]
    refine ⟨rfl, ?_, rfl⟩
    show st.nest.filter (fun x => x != l) = []
    simp [hnest]
  · rintro l r' rfl he hc
    have outer : (ls.foldl TState.deact st.settleLocal).loops[l] = st.loops[l] := by
      rw [TState.loops_foldl_deact, decide_eq_false, LoopLevel.leftIf_false]
      · rfl
      · exact fun hl => List.disjoint_of_nodup_append (hnest ▸ hnd) hl List.mem_cons_self
    rw [st.leaveBundle_of_left c hnest hnd hls, TState.endSteps_again _ _ _ _ (outer ▸ he) (outer ▸ hc)]
    refine ⟨by simp only [outer], TState.nest_of_left (st := st.settleLocal) hnest hnd, fun j => ?_⟩
    simp only [getElem_set_fin, outer]
    split
    · rfl
    · exact TState.loops_foldl_deact ls st.settleLocal j
  · intro hr
    rw [st.leaveBundle_of_left c hnest hnd hls, TState.endSteps_none_ends]
    · exact ⟨rfl, TState.nest_of_left (st := st.settleLocal) hnest hnd, TState.loops_foldl_deact ls st.settleLocal⟩
    · intro l hl
      rw [TState.loops_foldl_deact]
      exact hr l hl
  · rw [TState.leaveBundle_branch, TState.transfer_eq]
    exact TState.loops_leaveLevels _ _ _ _ _
  · rw [TState.leaveBundle_loop_of_none_ends st c lv n stop stages hn hs]
    exact ⟨rfl, rfl, rfl⟩
  · simp only [TState.leaveBundle, hr, and_self]
  · refine ⟨?_, rfl, fun l => ?_, rfl, rfl, rfl, rfl, rfl, rfl⟩
    · exact TState.half_enterHalf_ne _ t
    · exact TState.loops_enterHalf _ t l
  · show { (TState.endSteps st.pc st.nest st.settleLocal) with halted := true, wait := .none } = _
    rw [TState.endSteps_none_ends st.pc st.nest st.settleLocal hn]
    rfl
  · show atTile k _ s = _
    rw [atTile, hk]
    simp only [Here.issues_of_halted hh, Bool.false_eq_true, if_false]
  · rw [TState.leaveBundle_loop_of_none_ends st c lv x stop S hn hs]
    exact if_pos hS
  · obtain ⟨hpos, hstep⟩ := replay_count_step hi hc
    rw [TState.leaveBundle_none, hnest, TState.endSteps_again _ _ _ st.settleLocal he hpos]
    have stages : (st.loops[lv]).stages ≠ 0 := by omega
    show ((st.loops.set lv _)[lv]).count.toNat = _ ∧ ((st.loops.set lv _)[lv]).stages = S ∧
      ∀ j < 8, (if (st.loops[lv]).stages ≠ 0 then _ else _ : BitVec 8).getLsbD j = true ↔ _
    rw [getElem_set_fin, if_pos rfl, if_pos stages]
    refine ⟨hstep, hst, ?_⟩
    simp only [TState.loops_settleLocal, hst, hstep]
    exact replay_stages_step hS hi hq
  · rw [TState.leaveBundle_none, hnest, TState.endSteps_leave _ _ _ st.settleLocal he hc, TState.endSteps_none_ends]
    · have stages : (st.loops[lv]).stages ≠ 0 := by omega
      exact if_pos stages
    · intro l hl
      rw [TState.loops_deact]
      exact hr l hl
  · rw [TState.leaveBundle_branch, TState.transfer_eq]
    exact TState.q_leaveLevels _ _ _ _ (.inr ⟨lv, hmem, hst, ha, ht⟩)
  · simp [Here.passes, hm]
  · simp [Here.passes, hm]

end

section
/-! SUPPORT. The mask stack and the order of values (05 R128, R131, R132); then O29. -/
namespace Sys2Proof.Machine

/-! ### Mask words -/

theorem exec_pushWord {s : State} {h : Here} (hs : s.here = some h) {i : Instr} {lat : Nat} {t : Here → W64} {rel : Nat → Bool}
    (e : exec i = pushWord lat t) (hrel : ∀ j < 64, (t h).getLsbD j = rel j) :
    (h.projDepth lat < 8 → ∃ m : W64, exec i s = h.becomes (h.st.fly1 h.cue lat (.push m)) ∧ ∀ j < 64, m.getLsbD j = rel j) ∧
    (8 ≤ h.projDepth lat → exec i s = h.traps cSTACK 1) := by
  rw [e, pushWord, word_here hs]
  constructor
  · intro hd
    rw [if_neg (by omega)]
    exact ⟨t h, rfl, hrel⟩
  · intro hd
    rw [if_pos hd]
    rfl

theorem exec_vcompare {s : State} {h : Here} (hs : s.here = some h) {i : Instr} {a b : Sel} {f : Here → W32 → W32 → Bool} {rel : Nat → Bool}
    (e : exec i = vcompare a b f)
    (hrel : ∀ j, f h (lane (h.getV h.s.slot a) j) (lane (h.getV h.s.slot b) j) = rel j) :
    (h.projDepth 2 < 8 → ∃ m : W64, exec i s = h.becomes (h.st.fly1 h.cue 2 (.push m)) ∧ ∀ j < 64, m.getLsbD j = rel j) ∧
    (8 ≤ h.projDepth 2 → exec i s = h.traps cSTACK 1) := by
  refine exec_pushWord hs e fun j hj => ?_
  rw [getLsbD_maskOf]
  simp only [hj, decide_true, Bool.true_and]
  exact hrel j

theorem exec_popWord {s : State} {h : Here} (hs : s.here = some h) {i : Instr} {x : Eff} (e : exec i = popWord x) :
    (1 < h.projDepth 1 → exec i s = h.becomes (h.st.fly1 h.cue 1 x)) ∧ (h.projDepth 1 ≤ 1 → exec i s = h.traps cSTACK 3) := by
  rw [e, popWord, word_here hs]
  exact ⟨fun hd => by rw [if_neg (by omega)]; rfl, fun hd => by rw [if_pos hd]; rfl⟩

/-! ### The projected depth (05 R128) -/

/-- Whether an effect is a push. -/
def Eff.isPush (e : Eff) : Bool := match e with
  | .push _ => true
  | _ => false

theorem Eff.depth_eq (e : Eff) : e.depth = (if e.isPush then 1 else 0) - (if e == .popm then 1 else 0) := by
  cases e <;> rfl

/-- The depth that the changes due add to a depth: their pushes less their pops. -/
theorem foldl_depth_due (c : Nat) (fs : List Flight) : ∀ d : Int,
    fs.foldl (fun d f => if f.due ≤ c then d + f.eff.depth else d) d =
      d + ((fs.countP fun f => decide (f.due ≤ c) && f.eff.isPush : Nat) : Int) -
        ((fs.countP fun f => decide (f.due ≤ c) && f.eff == .popm : Nat) : Int) := by
  induction fs with
  | nil => simp
  | cons f fs ih =>
    intro d
    rw [List.foldl_cons, ih, List.countP_cons, List.countP_cons, Eff.depth_eq]
    by_cases hd : f.due ≤ c
    · simp only [hd, if_true, decide_true, Bool.true_and]
      push_cast
      split <;> split <;> omega
    · simp only [hd, if_false, decide_false, Bool.false_and, Bool.false_eq_true, Nat.add_zero]

theorem Here.vbChange_eq {h : Here} {b : Bundle} {i : Instr} (hb : h.t.bundleAt h.st.pc = some b)
    (hi : decode .vb (b.extractLsb' 96 32).toNat = some i) :
    ((∃ a, i = .vpushm a) → h.vbChange = 1) ∧ (i = .vpopm → h.vbChange = -1) ∧
      ((∀ a, i ≠ .vpushm a) → i ≠ .vpopm → h.vbChange = 0) := by
  simp only [Here.vbChange, hb, hi]
  refine ⟨fun ⟨a, ha⟩ => by rw [ha], fun hp => by rw [hp], fun hpush hpop => ?_⟩
  split
  · next a ha => exact absurd (Option.some.inj ha) (hpush a)
  · next hp => exact absurd (Option.some.inj hp) hpop
  · rfl

/-! ### The order of values (05 R131) -/

/-- A finite value on a grid no coarser than its own. -/
theorem scaled_cast (s : Bool) (m : Nat) (e q : Int) (hq : q ≤ e) : ((scaled s m e q : Int) : ℚ) * 2 ^ q = (Val.fin s m e).rat := by
  have split : (2 : ℚ) ^ e = 2 ^ (e - q).toNat * 2 ^ q := by
    rw [← zpow_natCast, Int.toNat_of_nonneg (by omega), ← zpow_add₀ two_ne_zero]
    congr 1; omega
  show ((scaled s m e q : Int) : ℚ) * 2 ^ q = (if s then -1 else 1) * m * 2 ^ e
  rw [split, scaled]
  cases s <;> push_cast <;> ring

theorem Val.lt_fin (s t : Bool) (m n : Nat) (e f : Int) :
    (Val.fin s m e).lt (.fin t n f) = true ↔ (Val.fin s m e).rat < (Val.fin t n f).rat := by
  have hpos : (0 : ℚ) < 2 ^ min e f := by positivity
  rw [← scaled_cast s m e (min e f) (min_le_left e f), ← scaled_cast t n f (min e f) (min_le_right e f),
    mul_lt_mul_iff_left₀ hpos, Int.cast_lt]
  simp only [Val.lt, decide_eq_true_eq]

theorem Val.eq_fin (s t : Bool) (m n : Nat) (e f : Int) :
    (Val.fin s m e).eq (.fin t n f) = true ↔ (Val.fin s m e).rat = (Val.fin t n f).rat := by
  simp only [Val.eq, Bool.and_eq_true, Bool.not_eq_true', ← Bool.not_eq_true, Val.lt_fin]
  constructor
  · rintro ⟨h1, h2⟩; exact le_antisymm (not_lt.mp h2) (not_lt.mp h1)
  · intro h; rw [h]; simp

end Sys2Proof.Machine

open Sys2Proof Sys2Proof.Machine

/-- Settles O29: every compare is one push of a lane vector; the depth projected counts pushes less pops; finite values compare as
the rationals they are. -/
theorem maskWords : Obligations.MaskWords := by
  unfold Obligations.MaskWords
  refine ⟨fun s h a b hs => ?_, fun st m x y r => ⟨fun hm hr => ?_, fun hm => ⟨?_, ?_, ?_⟩⟩, fun h lat => ⟨fun hslot => ?_, ?_⟩, ?_, ?_⟩
  · refine ⟨exec_vcompare hs (f := fun _ x y => x == y) rfl fun j => ?_, exec_vcompare hs (f := fun _ x y => x != y) rfl fun j => ?_,
      exec_vcompare hs (f := fun _ x y => ltS x y) rfl fun j => rfl, exec_vcompare hs (f := fun _ x y => ltU x y) rfl fun j => rfl,
      exec_vcompare hs (f := fun _ x y => !ltS x y) rfl fun j => ?_, exec_vcompare hs (f := fun _ x y => !ltU x y) rfl fun j => ?_,
      exec_vcompare hs (f := fun h x y => (f32 h x).eq (f32 h y)) rfl fun j => rfl,
      exec_vcompare hs (f := fun h x y => !(f32 h x).eq (f32 h y)) rfl fun j => rfl,
      exec_vcompare hs (f := fun h x y => (f32 h x).lt (f32 h y)) rfl fun j => rfl,
      exec_vcompare hs (f := fun h x y => fge (f32 h x) (f32 h y)) rfl fun j => rfl,
      exec_pushWord hs rfl fun j hj => ?_, fun hd => ⟨(exec_popWord hs rfl).1 hd, (exec_popWord hs rfl).1 hd⟩,
      fun hd => ⟨(exec_popWord hs rfl).2 hd, (exec_popWord hs rfl).2 hd⟩⟩
    · exact beq_eq_decide _ _
    · exact (congrArg (!·) (beq_eq_decide _ _)).trans (decide_not (p := _ = _)).symm
    · exact (decide_not (p := _ < _)).symm.trans (decide_eq_decide.mpr Int.not_lt)
    · exact (decide_not (p := _ < _)).symm.trans (decide_eq_decide.mpr Nat.not_lt)
    · rw [getLsbD_maskOf]
      simp only [hj, decide_true, Bool.true_and]
      exact (congrArg (!·) (beq_eq_decide _ _)).trans (decide_not (p := _ = _)).symm
  · have room : st.mask.length < 8 := by rw [hm, List.length_cons]; omega
    rw [TState.landEff, if_pos room]
    simp only [TState.active, hm, List.head?_cons, Option.getD_some]
  · simp [TState.landEff, hm]
  · simp [TState.landEff, hm]
  · simp [TState.landEff, TState.active, hm]
  · rw [Here.projDepth, if_neg (by tauto), foldl_depth_due, add_zero]
    rfl
  · intro hva hlat b i hb hi
    obtain ⟨hpush, hpop, hother⟩ := h.vbChange_eq hb hi
    rw [Here.projDepth, if_pos ⟨hva, hlat⟩, foldl_depth_due]
    exact ⟨fun hx => by rw [hpush hx]; rfl, fun hx => by rw [hpop hx]; rfl, fun h1 h2 => by rw [hother h1 h2, add_zero]; rfl⟩
  · intro x
    exact ⟨rfl, by cases x <;> rfl, rfl, by cases x <;> rfl⟩
  · intro s t m n e f
    exact ⟨Val.lt_fin s t m n e f, Val.eq_fin s t m n e f, rfl, rfl, by cases s <;> rfl, by cases t <;> rfl, rfl,
      by cases s <;> cases t <;> rfl⟩

end

section
/-! SUPPORT. The rules the engine words share: guards, the order of checks, units on loan (07 R175 to R178). -/
namespace Sys2Proof.Machine

/-- An engine word whose guard passes does what its meaning gives. -/
theorem exec_engine {s : State} {h : Here} (hs : s.here = some h) {g : Guard} (hp : h.passes g = true) {i : Instr} {f : Here → Res}
    (e : exec i = engine g f) : exec i s = .next (h.finish (f h)) := by
  rw [e, engine, word_here hs, if_pos hp]

theorem exec_engine_ok {s : State} {h : Here} (hs : s.here = some h) {g : Guard} (hp : h.passes g = true) {i : Instr} {f : Here → Res}
    {st : TState} (e : exec i = engine g f) (hf : f h = .ok st) : exec i s = h.becomes st := by
  rw [exec_engine hs hp e, hf, Here.finish_ok]

theorem exec_engine_trap {s : State} {h : Here} (hs : s.here = some h) {g : Guard} (hp : h.passes g = true) {i : Instr} {f : Here → Res}
    {code : BitVec 8} {info : W64} (e : exec i = engine g f) (hf : f h = .trap code info) : exec i s = h.traps code info := by
  rw [exec_engine hs hp e, hf, Here.finish_trap]

/-! ### Checks -/

/-- The first check that fails is raised. -/
theorem bounds_of_first {cs p q : List Check} {c : Check} (k : Res) (hcs : cs = p ++ c :: q) (hp : ∀ x ∈ p, x.1 = false)
    (hc : c.1 = true) : bounds cs k = .trap cBOUNDS c.2 := by
  have first : cs.find? (·.1) = some c := by
    rw [hcs, List.find?_append, List.find?_eq_none.mpr fun x hx => by simp [hp x hx], List.find?_cons_of_pos hc]
    rfl
  simp only [bounds, first]

theorem bounds_of_pass {cs : List Check} (k : Res) (h : ∀ c ∈ cs, c.1 = false) : bounds cs k = k := by
  have none_fails : cs.find? (·.1) = none := List.find?_eq_none.mpr fun c hc => by simp [h c hc]
  simp only [bounds, none_fails]

theorem bounds_cons_fail {c : Check} (cs : List Check) (k : Res) (h : c.1 = true) : bounds (c :: cs) k = .trap cBOUNDS c.2 :=
  bounds_of_first k (p := []) rfl (by simp) h

theorem bounds_cons_pass {c : Check} (cs : List Check) (k : Res) (h : c.1 = false) : bounds (c :: cs) k = bounds cs k := by
  simp only [bounds, List.find?_cons, h]

/-! ### Owners of ranges (01 R31, R32) -/

theorem TState.notOwned_eq_none_iff (st : TState) (o a n : Nat) :
    st.notOwned o a n = none ↔ ∀ u, a / 4096 ≤ u → u ≤ (a + n - 1) / 4096 → st.owner u = o := by
  simp only [TState.notOwned, List.find?_eq_none, List.mem_map, List.mem_range, bne_iff_ne, not_not]
  constructor
  · intro h u hlo hhi
    exact h u ⟨u - a / 4096, by omega, by omega⟩
  · rintro h u ⟨j, hj, rfl⟩
    exact h _ (by omega) (by omega)

theorem TState.notOwnedSpans_eq_none_iff (st : TState) (o : Nat) (ps : List Span) :
    st.notOwnedSpans o ps = none ↔ ∀ p ∈ ps, p.2 ≠ 0 → st.notOwned o p.1 p.2 = none := by
  simp only [TState.notOwnedSpans, List.min?_eq_none_iff, List.filterMap_eq_nil_iff, ite_eq_left_iff, ne_eq]

theorem TState.notOwnedSpans_singleton (st : TState) (o a n : Nat) (hn : n ≠ 0) :
    st.notOwnedSpans o [(a, n)] = st.notOwned o a n := by
  simp only [TState.notOwnedSpans, List.filterMap_cons, List.filterMap_nil, hn, if_false]
  cases st.notOwned o a n <;> rfl

theorem Here.owned_of_none {h : Here} {code : Nat} {ps : List Span} (k : Res) (hn : h.st.notOwnedSpans code ps = none) :
    h.owned code ps k = k := by
  simp only [Here.owned, hn]

theorem Here.owned_of_some {h : Here} {code u : Nat} {ps : List Span} (k : Res) (hu : h.st.notOwnedSpans code ps = some u) :
    h.owned code ps k = .trap cOWNER (ownerInfo 0 (h.st.owner u) u) := by
  simp only [Here.owned, hu]

end Sys2Proof.Machine
end

section
/-! SUPPORT. GIVE, SITEQ, mailbox, wheel and copy words (07 R180 to R197); then O41. -/
namespace Sys2Proof.Machine

/-! ### GIVE lands (01 R31, 07 R180) -/

theorem getElem_foldl_give (first n : Nat) (x : Byte) (w : Vector Byte 256) (u : Fin 256) :
    ((List.range n).foldl (fun w i => if h : first + i < 256 then w.set (first + i) x else w) w)[u] =
      if first ≤ u.val ∧ u.val < first + n then x else w[u] := by
  induction n with
  | zero => rw [if_neg (by omega)]; rfl
  | succ n ih =>
    rw [List.range_succ, List.foldl_append, List.foldl_cons, List.foldl_nil]
    by_cases hlt : first + n < 256
    · rw [dif_pos hlt, getElem_set_fin _ ⟨first + n, hlt⟩ u, ih]
      by_cases hu : u.val = first + n
      · rw [if_pos (Fin.ext hu), if_pos (by omega)]
      · rw [if_neg (fun h => hu (congrArg Fin.val h))]
        congr 1
        exact propext (by omega)
    · rw [dif_neg hlt, ih]
      congr 1
      have := u.isLt
      exact propext (by omega)

/-- Every unit of the range given has the owner given, POISON clear; the others keep theirs. -/
theorem TState.own_giveUnits (st : TState) (first n : Nat) (o : BitVec 4) (u : Fin 256) :
    (st.giveUnits first n o).own[u] = if first ≤ u.val ∧ u.val < first + n then o.setWidth 8 else st.own[u] :=
  getElem_foldl_give first n (o.setWidth 8) st.own u

theorem TState.owner_of_getElem {st : TState} {u : Fin 256} : st.owner u.val = (st.own[u]).toNat % 16 := by
  simp [TState.owner, Vector.getD]

/-! ### Fields of staging words -/

theorem bits_lt (w : W64) (hi lo : Nat) : bits w hi lo < 2 ^ (hi + 1 - lo) := Nat.mod_lt _ (Nat.two_pow_pos _)

theorem boundsInfo_zero (reason field : Nat) : boundsInfo reason 0 field = BitVec.ofNat 64 (reason * 2 ^ 40 + field % 2 ^ 32) := by
  simp only [boundsInfo, Nat.zero_mul, Nat.add_zero]

/-! ### GIVE, SITEQ and the mailbox words (07 R180 to R182, R197) -/

theorem State.siteView_eq (s : State) (n : SiteId) (q : Fin 4) (m : SiteId) : s.siteView n q m.val =
    ((s.changes.find? fun c => c.site == m && c.ahead.contains (n, q)).map fun c => (c.was, c.epoch)).getD
      ((s.sites[m]).state, (s.sites[m]).epoch) := by
  have entry : s.sites.toList.getD m.val Site.reset = s.sites[m] := by simp
  have same (c : SiteChange) : (c.site.val == m.val) = (c.site == m) := by
    rw [beq_eq_decide, beq_eq_decide, decide_eq_decide, Fin.ext_iff]
  simp only [State.siteView, entry, same]

/-- A range of whole units lies in CORE just where each of its units does. -/
theorem TState.notOwned_units {st : TState} {first n : Nat} (h : ∀ u, first ≤ u → u ≤ first + n → st.owner u = ownCore) :
    st.notOwnedSpans ownCore [(first * 4096, (n + 1) * 4096)] = none := by
  rw [TState.notOwnedSpans_singleton _ _ _ _ (by omega), TState.notOwned_eq_none_iff]
  exact fun u hlo hhi => h u (by omega) (by omega)

/-- A mailbox command whose word is bound joins the queue where there is room. -/
theorem Here.mbEnter_of_room {h : Here} {kg : Fin 8} {m : Nat} (hb : h.co.bound (bits (h.stage kg 0) 7 0) = some m)
    (hroom : h.st.mbQ.length < 8) (put : Bool) (v : W64) (lat : Option (Slot × Fin 4)) :
    h.mbEnter kg put v lat = .ok { h.st with mbQ := h.st.mbQ ++ [⟨put, m, v, lat, h.cue⟩] } := by
  rw [Here.mbEnter, bounds_of_pass, hb, Option.getD_some]
  simp [hb, hroom]

theorem Here.mbEnter_of_unbound {h : Here} {kg : Fin 8} (hb : h.co.bound (bits (h.stage kg 0) 7 0) = none)
    (put : Bool) (v : W64) (lat : Option (Slot × Fin 4)) :
    h.mbEnter kg put v lat = .trap cBOUNDS (boundsInfo 9 0 (h.stage kg 0).toNat) := by
  exact bounds_cons_fail _ _ (by rw [hb]; rfl)

theorem Here.mbEnter_of_full {h : Here} {kg : Fin 8} (hb : (h.co.bound (bits (h.stage kg 0) 7 0)).isSome = true)
    (hfull : 8 ≤ h.st.mbQ.length) (put : Bool) (v : W64) (lat : Option (Slot × Fin 4)) :
    h.mbEnter kg put v lat = .trap cBOUNDS (boundsInfo 8 0 (h.stage kg 0).toNat) := by
  rw [Here.mbEnter, bounds_cons_pass _ _ (by simpa using hb)]
  exact bounds_cons_fail _ _ (by simpa using hfull)

/-! ### The wheel (07 R195, R196) -/

theorem Here.wheel_off_position {h : Here} (op : WheelOp) (kg : Fin 8) (lat : Option (Slot × Fin 4))
    (hp : h.gang.bin.wheel.contains (h.cue % 8192) = false) :
    h.wheel op kg lat = .trap cWHEELPOS (wheelInfo 1 (h.cue % 8192)) := by
  rw [Here.wheel, if_pos (by rw [Config.wheelPositions, hp]; rfl)]
  rfl

theorem Here.wheel_beside_other {h : Here} (op : WheelOp) (kg : Fin 8) (lat : Option (Slot × Fin 4))
    (hp : h.gang.bin.wheel.contains (h.cue % 8192) = true) (h2 : h.twoWheels = true) :
    h.wheel op kg lat = .trap cWHEELPOS (wheelInfo 2 (h.cue % 8192)) := by
  rw [Here.wheel, if_neg (by rw [Config.wheelPositions, hp]; decide), if_pos h2]
  rfl

/-- A wheel word all of whose checks pass is outstanding. -/
theorem Here.wheel_of_pass {h : Here} (op : WheelOp) (kg : Fin 8) (lat : Option (Slot × Fin 4)) {e : SegEntry}
    (hp : h.gang.bin.wheel.contains (h.cue % 8192) = true) (h2 : h.twoWheels = false)
    (he : h.segOf (bits (h.stage kg 0) 53 48) = some e) (halign : bits (h.stage kg 0) 47 0 % 4 = 0)
    (hpass : e.passes (bits (h.stage kg 0) 47 0) 4 = false) (hrd : op ≠ .st → e.rd = true) (hwr : op ≠ .ld → e.wr = true)
    (hpin : e.pinnedDeck = true) :
    let a := e.base + bits (h.stage kg 0) 47 0
    let v := if op = .ld then 0 else h.stage kg 1
    h.wheel op kg lat = .ok { h.st with wheel := h.st.wheel ++ [⟨op, a, siteOf a, v.extractLsb' 0 32, v.extractLsb' 32 32, h.cue,
      flyWindow h.t.site (siteOf a), lat, none, h.s.slot⟩] } := by
  intro a v
  have low (x : W64) : x.setWidth 32 = x.extractLsb' 0 32 := by
    ext i hi; simp
  rw [Here.wheel, if_neg (by rw [Config.wheelPositions, hp]; decide), if_neg (by rw [h2]; decide), bounds_of_pass]
  · simp only [segField, offField, he, low]
    rfl
  · have access : ((op != .st && !e.rd) || (op != .ld && !e.wr)) = false := by
      cases op <;> simp_all
    simp [segField, offField, he, halign, hpass, access, hpin]

/-! ### The copy unit (07 R192 to R194) -/

theorem Here.copyFull_iff (h : Here) :
    h.copyFull = true ↔ 8 ≤ (h.st.copyQ.filter fun c => decide (h.cue < c.finish)).length := decide_eq_true_iff

theorem Here.copyStart_of_nil {h : Here} (hq : h.st.copyQ = []) : h.copyStart = h.cue + 1 := by
  simp [Here.copyStart, hq]

theorem Here.copyStart_of_last {h : Here} {q : List CopyCmd} {c : CopyCmd} (hq : h.st.copyQ = q ++ [c]) :
    h.copyStart = max c.finish (h.cue + 1) := by
  simp [Here.copyStart, hq, max_comm]

/-- The BANKFMT checks of a copy, then OWNER, then what is left (07 R193): the source's bank is asked where it is in the scratchpad. -/
def Here.copyBanks (h : Here) (sw : Bool) (fs fd : ElFmt) (dst : Nat) (ss ds : List Span) (k : Res) : Res :=
  (if sw then id else h.bankSame fs ss) <| h.bankSame fd ds <|
    if (fs.isRaw && !fd.fourBytes) || (fd.isRaw && !fs.fourBytes) then .trap cBANKFMT (bankInfo 0 (dst / 0x10000) 5)
    else h.owned ownCopy (ss ++ ds) k

/-- The refresh check of a copy from the weight store, then what is left (07 R193, 10 R266). -/
def refreshOr (clash : Option (Nat × Nat)) (k : Res) : Res :=
  match clash with
  | some c => .trap cWREFRESH (BitVec.ofNat 64 (c.1 * 2 ^ 16 + c.2))
  | none => k

theorem Here.bankSame_of_same {h : Here} {f : ElFmt} {ps : List Span} (k : Res) (hs : f.isMx = true ∨ h.otherBank ps = none) :
    h.bankSame f ps k = k := by
  rcases hs with hm | hb
  · rw [Here.bankSame, if_pos hm]
  · simp only [Here.bankSame, hb, ite_self]

theorem Here.bankSame_of_other {h : Here} {f : ElFmt} {ps : List Span} {b : Nat} (k : Res) (hm : f.isMx = false)
    (hb : h.otherBank ps = some b) : h.bankSame f ps k = .trap cBANKFMT (bankInfo 0 b 3) := by
  simp only [Here.bankSame, hm, hb, Bool.false_eq_true, if_false]

variable {h : Here} {sw : Bool} {fs fd : ElFmt} {ss ds : List Span}

theorem Here.copyBanks_source_other (dst : Nat) (k : Res) {b : Nat} (hsw : sw = false) (hm : fs.isMx = false)
    (hb : h.otherBank ss = some b) : h.copyBanks sw fs fd dst ss ds k = .trap cBANKFMT (bankInfo 0 b 3) := by
  subst hsw
  exact Here.bankSame_of_other _ hm hb

/-- Where the source's banks agree, the destination's are asked. -/
theorem Here.copyBanks_source_same (dst : Nat) (k : Res) (hs : sw = true ∨ fs.isMx = true ∨ h.otherBank ss = none) :
    h.copyBanks sw fs fd dst ss ds k = h.bankSame fd ds
      (if (fs.isRaw && !fd.fourBytes) || (fd.isRaw && !fs.fourBytes) then .trap cBANKFMT (bankInfo 0 (dst / 0x10000) 5)
      else h.owned ownCopy (ss ++ ds) k) := by
  cases sw with
  | true => rfl
  | false => exact Here.bankSame_of_same _ (by simpa using hs)

theorem raw_clash_eq_false_iff : ((fs.isRaw && !fd.fourBytes) || (fd.isRaw && !fs.fourBytes)) = false ↔
    (fs.isRaw = true → fd.fourBytes = true) ∧ (fd.isRaw = true → fs.fourBytes = true) := by
  cases fs.isRaw <;> cases fd.isRaw <;> simp

theorem Here.copyBanks_unpaired (dst : Nat) (k : Res) (hs : sw = true ∨ fs.isMx = true ∨ h.otherBank ss = none)
    (hd : fd.isMx = true ∨ h.otherBank ds = none)
    (hp : ¬((fs.isRaw = true → fd.fourBytes = true) ∧ (fd.isRaw = true → fs.fourBytes = true))) :
    h.copyBanks sw fs fd dst ss ds k = .trap cBANKFMT (bankInfo 0 (dst / 0x10000) 5) := by
  rw [Here.copyBanks_source_same dst k hs, Here.bankSame_of_same _ hd, if_pos]
  rwa [← raw_clash_eq_false_iff, Bool.not_eq_false] at hp

theorem Here.copyBanks_paired (dst : Nat) (k : Res) (hs : sw = true ∨ fs.isMx = true ∨ h.otherBank ss = none)
    (hd : fd.isMx = true ∨ h.otherBank ds = none)
    (hp : (fs.isRaw = true → fd.fourBytes = true) ∧ (fd.isRaw = true → fs.fourBytes = true)) :
    h.copyBanks sw fs fd dst ss ds k = h.owned ownCopy (ss ++ ds) k := by
  rw [Here.copyBanks_source_same dst k hs, Here.bankSame_of_same _ hd, if_neg]
  rw [raw_clash_eq_false_iff.mpr hp]
  exact Bool.false_ne_true

end Sys2Proof.Machine

open Sys2Proof Sys2Proof.Machine

/-- Settles O41: each word's checks are taken in their order, and where all pass the word's command is what is left. -/
theorem engineUnitWords : Obligations.EngineUnitWords := by
  unfold Obligations.EngineUnitWords
  refine ⟨fun st first n o => ⟨st.own_giveUnits first n o, rfl, fun u hlo hhi => ?_⟩, fun s h g kg l o st m hs hp => ?_,
    fun s h g kg l hs hp => ?_, fun s h g kg rm hs hp => ?_⟩
  · rw [TState.owner_of_getElem, TState.landEff, TState.own_giveUnits, if_pos ⟨hlo, hhi⟩, BitVec.toNat_setWidth]
    have := o.isLt
    omega
  · intro w u cnt
    have count_lt : cnt < 2 ^ 8 := bits_lt w 15 8
    refine ⟨fun hle hown => exec_engine_ok hs hp rfl ?_, fun hlt => exec_engine_trap hs hp rfl ?_, exec_engine_ok hs hp rfl rfl,
      fun old epoch hview => exec_engine_ok hs hp rfl ?_, fun hb hroom => ⟨exec_engine_ok hs hp rfl (Here.mbEnter_of_room hb hroom _ _ _),
      exec_engine_ok hs hp rfl (Here.mbEnter_of_room hb hroom _ _ _)⟩, fun hb => ⟨exec_engine_trap hs hp rfl ?_, exec_engine_trap hs hp rfl ?_⟩,
      fun hb hfull => ⟨exec_engine_trap hs hp rfl ?_, exec_engine_trap hs hp rfl ?_⟩, fun v hle hv => exec_engine_trap hs hp rfl ?_⟩
    · rw [bounds_cons_pass _ _ (by simpa using hle), bounds_of_pass _ (by simp), Here.owned_of_none _ (TState.notOwned_units hown)]
    · rw [bounds_cons_fail _ _ (by simpa using hlt), boundsInfo_zero, Nat.mod_eq_of_lt (show cnt < 2 ^ 32 by omega)]
    · rw [State.siteView_eq, hview]
    · rw [Here.mbEnter_of_unbound hb, boundsInfo_zero]
    · rw [Here.mbEnter_of_unbound hb, boundsInfo_zero]
    · rw [Here.mbEnter_of_full hb hfull, boundsInfo_zero]
    · rw [Here.mbEnter_of_full hb hfull, boundsInfo_zero]
    · rw [bounds_cons_pass _ _ (by simpa using hle), bounds_of_pass _ (by simp),
        Here.owned_of_some _ ((TState.notOwnedSpans_singleton _ _ _ _ (by omega)).trans hv)]
  · intro p w0 w1 off runs here
    have runs_of (i : Instr) (op : WheelOp) (lat : Option (Slot × Fin 4)) {f : Here → Res} (e : exec i = engine g f)
        (hf : f h = h.wheel op kg lat) : runs i op lat :=
      fun en he hpos h2 halign hpass hrd hwr hpin =>
        exec_engine_ok hs hp e (hf.trans (Here.wheel_of_pass op kg lat hpos h2 he halign hpass hrd hwr hpin))
    have traps_of (i : Instr) (op : WheelOp) (lat : Option (Slot × Fin 4)) {f : Here → Res} (e : exec i = engine g f)
        (hf : f h = h.wheel op kg lat) :
        (h.gang.bin.wheel.contains p = false → exec i s = h.traps cWHEELPOS (BitVec.ofNat 64 (1 * 2 ^ 14 + p))) ∧
        (h.gang.bin.wheel.contains p = true → h.twoWheels = true → exec i s = h.traps cWHEELPOS (BitVec.ofNat 64 (2 * 2 ^ 14 + p))) :=
      ⟨fun hpos => exec_engine_trap hs hp e (hf.trans (Here.wheel_off_position op kg lat hpos)),
        fun hpos h2 => exec_engine_trap hs hp e (hf.trans (Here.wheel_beside_other op kg lat hpos h2))⟩
    refine ⟨runs_of _ .ld here rfl rfl, runs_of _ .st none rfl rfl, runs_of _ .add here rfl rfl, runs_of _ .xchg here rfl rfl,
      runs_of _ .cas here rfl rfl, ?_⟩
    simp only [List.forall_mem_cons, List.not_mem_nil, false_implies, implies_true, and_true]
    exact ⟨traps_of _ .ld here rfl rfl, traps_of _ .st none rfl rfl, traps_of _ .add here rfl rfl, traps_of _ .xchg here rfl rfl,
      traps_of _ .cas here rfl rfl⟩
  · intro w0 w1 w2 enters
    refine ⟨h.copyFull_iff, Here.copyStart_of_nil, fun q c => Here.copyStart_of_last, ?_, ?_⟩
    · intro a n cs
      refine ⟨fun p c q hcs hpre hc => exec_engine_trap hs hp rfl (bounds_of_first _ hcs hpre hc), fun hcs => ⟨fun u hu => ?_, fun hn => ?_⟩⟩
      · exact exec_engine_trap hs hp rfl ((bounds_of_pass _ hcs).trans (Here.owned_of_some _ hu))
      · exact exec_engine_ok hs hp rfl ((bounds_of_pass _ hcs).trans (Here.owned_of_none _ hn))
    · intro smx dmx sw src dst scl nel code fs fd ss ds cs same paired cost
      refine ⟨fun p c q hcs hpre hc => exec_engine_trap hs hp rfl (bounds_of_first _ hcs hpre hc), fun hcs => ?_⟩
      have trap_of {code : BitVec 8} {info : W64} (hk : ∀ k, h.copyBanks sw fs fd dst ss ds k = .trap code info) :
          exec (.xcopy g kg rm) s = h.traps code info := exec_engine_trap hs hp rfl ((bounds_of_pass _ hcs).trans (hk _))
      refine ⟨fun b hsw hm hb => trap_of fun k => Here.copyBanks_source_other dst k hsw hm hb,
        fun hsame b hm hb => trap_of fun k => ?_, fun hsame hd hpair => trap_of fun k => Here.copyBanks_unpaired dst k hsame hd hpair,
        fun hsame hd hpair => ⟨fun u hu => trap_of fun k => ?_, fun hn => ?_⟩⟩
      · rw [Here.copyBanks_source_same dst k hsame]
        exact Here.bankSame_of_other _ hm hb
      · rw [Here.copyBanks_paired dst k hsame hd hpair]
        exact Here.owned_of_some _ hu
      · have reached (k : Res) : h.copyBanks sw fs fd dst ss ds k = k :=
          (Here.copyBanks_paired dst k hsame hd hpair).trans (Here.owned_of_none _ hn)
        refine ⟨fun c hsw hcl => exec_engine_trap hs hp rfl ((bounds_of_pass _ hcs).trans ((reached _).trans ?_)),
          fun hcl => exec_engine_ok hs hp rfl ((bounds_of_pass _ hcs).trans ((reached _).trans ?_))⟩
        · show refreshOr (if sw then refreshClash h.copyStart cost src (fs.bytes nel) else none) _ = _
          rw [if_pos hsw, hcl]
          rfl
        · have clear : (if sw then refreshClash h.copyStart cost src (fs.bytes nel) else none) = none := by
            split
            · next hsw => exact hcl hsw
            · rfl
          show refreshOr (if sw then refreshClash h.copyStart cost src (fs.bytes nel) else none) _ = _
          rw [clear]
          rfl
end

section
/-! SUPPORT. Words that run with their own effect (01 R13; 03 R80): what puts results in flight, what makes a queue grow; then O45. -/
namespace Sys2Proof.Machine

/-! ### Results put in flight -/

/-- A tile's state with results more in flight, each due from `lo` to `hi` cycles after cue `c`, and nothing else changed. -/
def TState.Sends (st st' : TState) (c lo hi : Nat) : Prop :=
  ∃ es : List Flight, es ≠ [] ∧ (∀ e ∈ es, c + lo ≤ e.due ∧ e.due ≤ c + hi) ∧ st' = { st with flight := st.flight ++ es }

theorem TState.sends_fly1 (st : TState) {c lat lo hi : Nat} (e : Eff) (hlo : lo ≤ lat) (hhi : lat ≤ hi) :
    st.Sends (st.fly1 c lat e) c lo hi :=
  ⟨[⟨c + lat, e⟩], by simp, by simp only [List.mem_singleton, forall_eq]; omega, rfl⟩

theorem TState.Sends.trans {st st' st'' : TState} {c lo hi : Nat} (h : st.Sends st' c lo hi) (h' : st'.Sends st'' c lo hi) :
    st.Sends st'' c lo hi := by
  obtain ⟨es, hne, hdue, rfl⟩ := h
  obtain ⟨fs, _, hdue', rfl⟩ := h'
  refine ⟨es ++ fs, by simp [hne], fun e he => ?_, by simp only [List.append_assoc]⟩
  exact (List.mem_append.mp he).elim (hdue e) (hdue' e)

theorem TState.Sends.mono {st st' : TState} {c lo hi lo' hi' : Nat} (h : st.Sends st' c lo hi) (hlo : lo' ≤ lo) (hhi : hi ≤ hi') :
    st.Sends st' c lo' hi' := by
  obtain ⟨es, hne, hdue, he⟩ := h
  exact ⟨es, hne, fun e hm => by have := hdue e hm; omega, he⟩

theorem TState.sends_resV (st : TState) (u : Slot) (c lat : Nat) (r : Dst) (v : Vec) (m : W64) :
    st.Sends (st.resV u c lat r v m) c lat lat := by
  unfold TState.resV
  split
  · exact st.sends_fly1 _ le_rfl le_rfl
  · exact (st.sends_fly1 _ le_rfl le_rfl).trans (TState.sends_fly1 _ _ le_rfl le_rfl)

theorem TState.sends_resF (st : TState) (c lat : Nat) (r : Dst) (v : W64) : st.Sends (st.resF c lat r v) c lat lat := by
  unfold TState.resF
  split
  · exact st.sends_fly1 _ le_rfl le_rfl
  · exact (st.sends_fly1 _ le_rfl le_rfl).trans (TState.sends_fly1 _ _ le_rfl le_rfl)

theorem TState.sends_receive (st : TState) (c : Nat) (r : Dst) (w : Bool) (v : Vec) : st.Sends (st.receive c r w v) c 1 1 := by
  unfold TState.receive
  split
  · exact st.sends_resV _ _ _ _ _ _
  · exact st.sends_resF _ _ _ _

theorem TState.sends_resGroup (st : TState) (u : Slot) (c lat : Nat) (r : Dst) (img : Nat) (m : W64) :
    st.Sends (st.resGroup u c lat r img m) c lat lat := by
  have group (f : Nat → Eff) (js : List Nat) : ∀ x : TState, st.Sends x c lat lat →
      st.Sends (js.foldl (fun st j => st.fly1 c lat (f j)) x) c lat lat := by
    induction js with
    | nil => exact fun x h => h
    | cons j js ih => exact fun x h => ih _ (h.trans (x.sends_fly1 _ le_rfl le_rfl))
  unfold TState.resGroup
  split
  · exact st.sends_fly1 _ le_rfl le_rfl
  · exact group _ _ _ (st.sends_fly1 _ le_rfl le_rfl)

/-- A word that puts results in flight, due from `lo` to `hi` cycles on, and does nothing else. -/
def Here.Lands (h : Here) (s : State) (lo hi : Nat) (i : Instr) : Prop :=
  ∃ es : List Flight, es ≠ [] ∧ (∀ e ∈ es, h.cue + lo ≤ e.due ∧ e.due ≤ h.cue + hi) ∧
    exec i s = .next (h.put { h.st with flight := h.st.flight ++ es })

/-- A word that raises nothing and leaves the tile's registers in a state of which `p` holds. -/
def Here.Runs (h : Here) (s : State) (i : Instr) (p : TState → Prop) : Prop :=
  ∃ t u, exec i s = .next t ∧ t.raised = s.raised ∧ t.tileAt h.t.key = some u ∧ p u.st

/-- A word that raises nothing and makes a quantity of the tile grow. -/
def Here.Grows (h : Here) (s : State) (i : Instr) (q : TState → Nat) : Prop := h.Runs s i fun st => q h.st < q st

section
variable {s : State} {h : Here} {i : Instr} {lo hi lat : Nat} (hs : s.here = some h)
include hs

theorem Here.Lands.of_word {f : Here → Res} {st : TState} (e : exec i = word f) (hf : f h = .ok st) (hsend : h.st.Sends st h.cue lo hi) :
    h.Lands s lo hi i := by
  obtain ⟨es, hne, hdue, hst⟩ := hsend
  exact ⟨es, hne, hdue, by rw [e, word_here hs, hf, hst]; rfl⟩

theorem Here.Lands.of_engine {g : Guard} {f : Here → Res} {st : TState} (hp : h.passes g = true) (e : exec i = engine g f)
    (hf : f h = .ok st) (hsend : h.st.Sends st h.cue lo hi) : h.Lands s lo hi i :=
  Here.Lands.of_word hs e ((if_pos hp).trans hf) hsend

theorem Here.Lands.of_vword {r : Dst} {f : Here → Vec} (e : exec i = vword lat r f) : h.Lands s lat lat i :=
  Here.Lands.of_word hs e rfl (h.st.sends_resV _ _ _ _ _ _)

theorem Here.Lands.of_gword {r : Dst} {f : Here → Nat} (e : exec i = gword r f) : h.Lands s 8 8 i :=
  Here.Lands.of_word hs e rfl (h.st.sends_resGroup _ _ _ _ _ _)

theorem Here.Lands.of_marray {f : Here → Eff} (e : exec i = marray lat f) : h.Lands s lat lat i :=
  Here.Lands.of_word hs e rfl (h.st.sends_fly1 _ le_rfl le_rfl)

theorem Here.Lands.of_fly1 {f : Here → Eff} (e : exec i = word fun h => .ok (h.st.fly1 h.cue lat (f h))) : h.Lands s lat lat i :=
  Here.Lands.of_word hs e rfl (h.st.sends_fly1 _ le_rfl le_rfl)

theorem Here.Runs.of_becomes {p : TState → Prop} {st : TState} (e : exec i s = h.becomes st) (hst : p st) : h.Runs s i p := by
  refine ⟨h.put st, { h.t with st := st }, e, ?_, ?_, hst⟩
  · show h.s.raised = s.raised
    rw [State.here_s hs]
  · rw [Here.put_tileAt hs, if_pos rfl]

theorem Here.Runs.of_word {p : TState → Prop} {f : Here → Res} {st : TState} (e : exec i = word f) (hf : f h = .ok st) (hst : p st) :
    h.Runs s i p :=
  Here.Runs.of_becomes hs (by rw [e, word_here hs, hf]; rfl) hst

/-- The tile in focus replaced by one of the same key is found. -/
theorem Here.tileAt_setTile_self {u : Tile} (hu : u.key = h.t.key) : (h.s.setTile u).tileAt h.t.key = some u := by
  obtain ⟨hss, ht, _, _⟩ := State.hereAt_parts hs
  rw [State.tileAt_setTile, if_pos hu, hss, State.here_key hs, ht]
  rfl

theorem Here.Runs.of_word_tile {p : TState → Prop} {f : Here → Res} {u : Tile} {n : Nat} (e : exec i = word f) (hf : f h = .tile u n)
    (hu : u.key = h.t.key) (hst : p u.st) : h.Runs s i p := by
  refine ⟨{ h.s.setTile u with free := h.s.free + n }, u, by rw [e, word_here hs, hf]; rfl, ?_, Here.tileAt_setTile_self hs hu, hst⟩
  show h.s.raised = s.raised
  rw [State.here_s hs]

theorem Here.Runs.of_word_all {p : TState → Prop} {f : Here → Res} {t : State} {u : Tile} (e : exec i = word f) (hf : f h = .all t)
    (hr : t.raised = h.s.raised) (hu : t.tileAt h.t.key = some u) (hst : p u.st) : h.Runs s i p :=
  ⟨t, u, by rw [e, word_here hs, hf]; rfl, hr.trans (by rw [State.here_s hs]), hu, hst⟩

theorem Here.Runs.of_engine {p : TState → Prop} {g : Guard} {f : Here → Res} {st : TState} (hp : h.passes g = true)
    (e : exec i = engine g f) (hf : f h = .ok st) (hst : p st) : h.Runs s i p :=
  Here.Runs.of_word hs e ((if_pos hp).trans hf) hst

/-- An engine word that replaces the machine, the tile in focus standing in it as `u`. -/
theorem Here.Runs.of_engine_all {p : TState → Prop} {g : Guard} {f : Here → Res} {u : Tile} (hp : h.passes g = true)
    (e : exec i = engine g f) (hf : ∃ t, f h = .all t ∧ t.raised = h.s.raised ∧ t.tileAt h.t.key = some u) (hst : p u.st) : h.Runs s i p := by
  obtain ⟨t, hft, hr, hu⟩ := hf
  exact Here.Runs.of_word_all hs e ((if_pos hp).trans hft) hr hu hst

end

/-! ### Vector loads and stores (05 R149 to R152) -/

theorem bankFmtOf_bytes (c : Nat) : 0 < (bankFmtOf c).bytes ∧ 4096 % (bankFmtOf c).bytes = 0 := by
  unfold bankFmtOf
  split <;> decide

/-- An aligned access no wider than a unit lies in one unit. -/
theorem div_eq_of_aligned {x b : Nat} (hpos : 0 < b) (hdvd : 4096 % b = 0) (halign : x % b = 0) : (x + b - 1) / 4096 = x / 4096 := by
  obtain ⟨q, hq⟩ := Nat.dvd_of_mod_eq_zero hdvd
  obtain ⟨y, rfl⟩ := Nat.dvd_of_mod_eq_zero halign
  have last : (b * y + b - 1) / b = y := by
    rw [show b * y + b - 1 = (b - 1) + b * y by omega, Nat.add_mul_div_left _ _ hpos, Nat.div_eq_of_lt (by omega), Nat.zero_add]
  rw [hq, ← Nat.div_div_eq_div_mul, ← Nat.div_div_eq_div_mul, last, Nat.mul_div_cancel_left _ hpos]

theorem addrOk_one {x : Nat} (hx : x < 0x100000) : addrOk (x : Int) 1 = true := by
  have hlt : ((x : Nat) : Int) < spadSize := by exact_mod_cast hx
  simp [addrOk, hlt]

section
variable {h : Here} {x : Nat}

theorem Here.ownerCheck_of_core {n : Nat} (k : Res) (hown : ∀ u, x / 4096 ≤ u → u ≤ (x + n - 1) / 4096 → h.st.owner u = 0) :
    h.ownerCheck x n k = k := by
  have core : h.st.notOwned ownCore x n = none := (TState.notOwned_eq_none_iff _ _ _ _).mpr hown
  simp only [Here.ownerCheck, core]

/-- A plain access that passes its checks: aligned, in the scratchpad, in one bank format, on units of the core. -/
theorem Here.vecCheck_plain (blk : Width → Nat → Res) (k : BankFmt → Nat → Res) (hb : (h.t.bankFmt (x / 0x10000)).isBlock = false)
    (halign : x % (h.t.bankFmt (x / 0x10000)).bytes = 0) (hend : x + 64 * (h.t.bankFmt (x / 0x10000)).bytes ≤ 0x100000)
    (hfmt : h.t.fmt ((x + 64 * (h.t.bankFmt (x / 0x10000)).bytes - 1) / 0x10000) = h.t.fmt (x / 0x10000))
    (hown : ∀ u, x / 4096 ≤ u → u ≤ (x + 64 * (h.t.bankFmt (x / 0x10000)).bytes - 1) / 4096 → h.st.owner u = 0) :
    h.vecCheck (x : Int) blk k = k (h.t.bankFmt (x / 0x10000)) x := by
  have hpos := (bankFmtOf_bytes ((h.t.fmt (x / 0x10000)).toNat % 256)).1
  have hx : x < 0x100000 := by simp only [Tile.bankFmt] at hend; omega
  rw [Here.vecCheck, if_neg (by rw [addrOk_one hx]; decide)]
  simp only [Int.toNat_natCast]
  split
  · next w hw => rw [hw] at hb; exact Bool.noConfusion (hb : true = false)
  · rw [if_neg (by simp only [halign, spadSize]; omega), if_neg (by simp only [hfmt]; tauto)]
    exact Here.ownerCheck_of_core _ hown

theorem Here.vecCheck_block {w : Width} (blk : Width → Nat → Res) (k : BankFmt → Nat → Res) (hb : h.t.bankFmt (x / 0x10000) = .block w)
    (hx : x < 0x100000) (hstart : blockStart w x = true) : h.vecCheck (x : Int) blk k = blk w x := by
  rw [Here.vecCheck, if_neg (by rw [addrOk_one hx]; decide)]
  simp only [Int.toNat_natCast, hb, hstart, if_true]

/-- An indexed access all of whose active lanes pass. -/
theorem Here.laneFault_eq_none {ls : List (Nat × Nat)} (hls : ∀ p ∈ ls, p.2 < 0x100000 ∧ (h.t.bankFmt (p.2 / 0x10000)).isBlock = false ∧
    p.2 % (h.t.bankFmt (p.2 / 0x10000)).bytes = 0 ∧ h.st.owner (p.2 / 4096) = 0) : h.laneFault ls = none := by
  have bounds_ok : ls.find? (fun p => decide (spadSize ≤ p.2) || (!(h.t.fmtAt p.2).isBlock && p.2 % (h.t.fmtAt p.2).bytes != 0)) = none := by
    refine List.find?_eq_none.mpr fun p hp => ?_
    obtain ⟨hlt, hb, halign, _⟩ := hls p hp
    have inside : decide (spadSize ≤ p.2) = false := decide_eq_false (by simpa [spadSize] using hlt)
    simp [Tile.fmtAt, hb, halign, inside]
  have plain : ls.find? (fun p => (h.t.fmtAt p.2).isBlock) = none := by
    refine List.find?_eq_none.mpr fun p hp => ?_
    obtain ⟨_, hb, _, _⟩ := hls p hp
    simp [Tile.fmtAt, hb]
  have core : ls.find? (fun p => (h.st.notOwned ownCore p.2 (h.t.fmtAt p.2).bytes).isSome) = none := by
    refine List.find?_eq_none.mpr fun p hp => ?_
    obtain ⟨_, _, halign, hown⟩ := hls p hp
    obtain ⟨hpos, hdvd⟩ := bankFmtOf_bytes ((h.t.fmt (p.2 / 0x10000)).toNat % 256)
    have one_unit : h.st.notOwned ownCore p.2 (h.t.fmtAt p.2).bytes = none := by
      refine (TState.notOwned_eq_none_iff _ _ _ _).mpr fun u hlo hhi => ?_
      have same : (p.2 + (h.t.fmtAt p.2).bytes - 1) / 4096 = p.2 / 4096 :=
        div_eq_of_aligned hpos hdvd halign
      rw [show u = p.2 / 4096 by omega]
      exact hown
    simp [one_unit]
  simp only [Here.laneFault, bounds_ok, plain, core]

theorem Here.vload_plain (r : Dst) (hb : (h.t.bankFmt (x / 0x10000)).isBlock = false)
    (halign : x % (h.t.bankFmt (x / 0x10000)).bytes = 0) (hend : x + 64 * (h.t.bankFmt (x / 0x10000)).bytes ≤ 0x100000)
    (hfmt : h.t.fmt ((x + 64 * (h.t.bankFmt (x / 0x10000)).bytes - 1) / 0x10000) = h.t.fmt (x / 0x10000))
    (hown : ∀ u, x / 4096 ≤ u → u ≤ (x + 64 * (h.t.bankFmt (x / 0x10000)).bytes - 1) / 4096 → h.st.owner u = 0) :
    ∃ st, h.vload r (x : Int) = .ok st ∧ h.st.Sends st h.cue 5 5 :=
  ⟨_, Here.vecCheck_plain _ _ hb halign hend hfmt hown, h.st.sends_resV _ _ _ _ _ _⟩

theorem Here.vstore_plain (d : Sel) (hb : (h.t.bankFmt (x / 0x10000)).isBlock = false)
    (halign : x % (h.t.bankFmt (x / 0x10000)).bytes = 0) (hend : x + 64 * (h.t.bankFmt (x / 0x10000)).bytes ≤ 0x100000)
    (hfmt : h.t.fmt ((x + 64 * (h.t.bankFmt (x / 0x10000)).bytes - 1) / 0x10000) = h.t.fmt (x / 0x10000))
    (hown : ∀ u, x / 4096 ≤ u → u ≤ (x + 64 * (h.t.bankFmt (x / 0x10000)).bytes - 1) / 4096 → h.st.owner u = 0) :
    ∃ st, h.vstore d (x : Int) = .ok st ∧ h.st.Sends st h.cue 2 2 :=
  ⟨_, Here.vecCheck_plain _ _ hb halign hend hfmt hown, h.st.sends_fly1 _ le_rfl le_rfl⟩

theorem Here.vload_block {w : Width} {r : Dst} (hb : h.t.bankFmt (x / 0x10000) = .block w) (hx : x < 0x100000)
    (hstart : blockStart w x = true) (hown : ∀ u, x / 4096 ≤ u → u ≤ (x + blkBytes (widthBits w) - 1) / 4096 → h.st.owner u = 0)
    (hr : r.d.val % 4 = 0) : ∃ st, h.vload r (x : Int) = .ok st ∧ h.st.Sends st h.cue 5 5 :=
  ⟨_, (Here.vecCheck_block _ _ hb hx hstart).trans ((if_neg (not_not.mpr hr)).trans (Here.ownerCheck_of_core _ hown)),
    h.st.sends_resGroup _ _ _ _ _ _⟩

theorem Here.vstore_block {w : Width} {d : Sel} (hb : h.t.bankFmt (x / 0x10000) = .block w) (hx : x < 0x100000)
    (hstart : blockStart w x = true) (hown : ∀ u, x / 4096 ≤ u → u ≤ (x + blkBytes (widthBits w) - 1) / 4096 → h.st.owner u = 0)
    (hd : d.isGroup = true) (hact : h.st.active = allLanes) : ∃ st, h.vstore d (x : Int) = .ok st ∧ h.st.Sends st h.cue 2 2 :=
  ⟨_, (Here.vecCheck_block _ _ hb hx hstart).trans ((if_neg (by rw [hd]; decide)).trans ((if_neg (not_not.mpr hact)).trans
    (Here.ownerCheck_of_core _ hown))), h.st.sends_fly1 _ le_rfl le_rfl⟩

/-- The lanes of an indexed access are the active ones, each at the sum of its two words. -/
theorem Here.mem_laneAddrs {a b : Sel} {p : Nat × Nat} (hp : p ∈ h.laneAddrs a b) :
    p.1 < 64 ∧ h.st.active.getLsbD p.1 = true ∧ p.2 = (lane (h.getV h.s.slot a) p.1).toNat + (lane (h.getV h.s.slot b) p.1).toNat := by
  obtain ⟨i, hi, rfl⟩ := List.mem_map.mp hp
  obtain ⟨hlt, hact⟩ := List.mem_filter.mp hi
  exact ⟨List.mem_range.mp hlt, hact, rfl⟩

end

/-! ### Engine words (07 R175 to R205) -/

theorem check_guarded {g b : Bool} (h : g = true → b = false) : (g && b) = false := by
  cases g with
  | false => rfl
  | true => exact h rfl

/-- CUETRIM asks for an exchange of the region where its counter has a parent (12 R315). -/
theorem Here.cuetrim_of_parent {s : State} {h : Here} (hs : s.here = some h) (hparent : s.parentOf h.t.site h.t.region ≠ none) :
    ∃ t, exec .cuetrim s = .next t ∧ t.raised = s.raised ∧ (((t.sites[h.t.site]).regions[h.t.region]).trimFrom).isSome = true := by
  have asked : exec .cuetrim s = .next (s.askTrim h.t.site h.t.region (s.nextMultiple h.t.site h.t.region 4096)) := by
    show execCuetrim s = _
    simp only [execCuetrim, hs]
  refine ⟨_, asked, ?_, ?_⟩
  · unfold State.askTrim
    split <;> rfl
  · rw [State.askTrim, if_neg (by simpa using hparent), State.setRegion, State.setSite_self]
    simp only [getElem_set_fin, if_true, Option.isSome_some]

/-- A FLY word all of whose checks pass takes its occurrence of the calendar and is outstanding. -/
theorem Here.fly_of_pass {h : Here} {kg : Fin 8} {two wr : Bool} {e : SegEntry} {k : Nat}
    (hcs : ∀ c ∈ h.moveChecks (h.flyMove kg two wr) true
      [(decide (65536 < (h.flyMove kg two wr).rows * (h.flyMove kg two wr).len), boundsInfo 6 1 ((h.flyMove kg two wr).len / 64 - 1))], c.1 = false)
    (he : h.segOf (h.flyMove kg two wr).seg = some e) (hlocal : h.st.localSince = none)
    (hk : h.flyEntry wr (siteOf ((h.flyMove kg two wr).target e)) ((h.flyMove kg two wr).rows * (h.flyMove kg two wr).len) = some k)
    (hown : h.st.notOwnedSpans ownFly (rowSpans ((h.flyMove kg two wr).xrows e)) = none) :
    ∃ st, h.fly kg two wr = .ok st ∧ h.st.fly.length < st.fly.length := by
  rw [Here.fly, bounds_of_pass _ hcs]
  simp only [he, hlocal, Option.isSome_none, Bool.false_eq_true, if_false, hk]
  rw [Here.owned_of_none _ hown]
  exact ⟨_, rfl, by simp only [List.length_append, List.length_singleton, Nat.lt_succ_self]⟩

/-- An ACOPY word all of whose checks pass joins its queue. -/
theorem Here.acopy_of_pass {h : Here} {kg : Fin 8} {sc : Scope} {six wr : Bool} {e : SegEntry}
    (hcs : ∀ c ∈ h.moveChecks (h.acopyMove kg six wr) false [((h.acopyMove kg six wr).len % 64 != 0 ||
      decide ((h.acopyMove kg six wr).len < 64) || decide (0x100000 < (h.acopyMove kg six wr).len), boundsInfo 6 2 (h.acopyMove kg six wr).len)], c.1 = false)
    (hrep : bit (h.stage kg 1) 20 = true → (h.co.bound (bits (h.stage kg 1) 28 21)).isSome = true)
    (hst : h.st.storeQ.length < 32) (hld : h.st.loadQ.length < 32) (he : h.segOf (h.acopyMove kg six wr).seg = some e)
    (hown : h.st.notOwnedSpans ownAcopy (rowSpans ((h.acopyMove kg six wr).xrows e)) = none) :
    ∃ st, h.acopy kg sc six wr = .ok st ∧ h.st.loadQ.length + h.st.storeQ.length < st.loadQ.length + st.storeQ.length := by
  have room : (if wr then h.st.storeQ else h.st.loadQ).length < queueDepth := by
    split
    · exact hst
    · exact hld
  have all : ∀ c ∈ h.moveChecks (h.acopyMove kg six wr) false [((h.acopyMove kg six wr).len % 64 != 0 ||
      decide ((h.acopyMove kg six wr).len < 64) || decide (0x100000 < (h.acopyMove kg six wr).len), boundsInfo 6 2 (h.acopyMove kg six wr).len)] ++
      [(bit (h.stage kg 1) 20 && (h.co.bound (bits (h.stage kg 1) 28 21)).isNone, boundsInfo 9 0 (h.stage kg 0).toNat),
        (decide (queueDepth ≤ (if wr then h.st.storeQ else h.st.loadQ).length), boundsInfo 8 0 (h.stage kg 0).toNat)], c.1 = false := by
    simp only [List.forall_mem_append, List.forall_mem_cons, List.not_mem_nil, false_implies, implies_true, and_true]
    refine ⟨hcs, ?_, decide_eq_false (Nat.not_le.mpr room)⟩
    cases hr : bit (h.stage kg 1) 20 with
    | false => rfl
    | true =>
      rw [Bool.true_and, ← Option.not_isSome, hrep hr]
      rfl
  rw [Here.acopy, bounds_of_pass _ all]
  simp only [he]
  rw [Here.owned_of_none _ hown]
  cases wr with
  | false =>
    refine ⟨_, rfl, ?_⟩
    simp only [Bool.false_eq_true, if_false, List.length_append, List.length_singleton]
    omega
  | true =>
    refine ⟨_, rfl, ?_⟩
    simp only [if_true, List.length_append, List.length_singleton]
    omega

/-- QMARK enters both queues where both have room. -/
theorem Here.runs_qmark {s : State} {h : Here} (hs : s.here = some h) {g : Guard} (hp : h.passes g = true) {sc : Scope} {p : TState → Prop}
    (hld : h.st.loadQ.length < 32) (hst : h.st.storeQ.length < 32)
    (hq : let x : AcEntry := ⟨h.st.nextEntry, true, sc, 0, [], false, 0, .waiting, 0, []⟩
      p { h.st with loadQ := h.st.loadQ ++ [x], storeQ := h.st.storeQ ++ [x], nextEntry := h.st.nextEntry + 1 }) :
    h.Runs s (.qmark g sc) p := by
  refine Here.Runs.of_engine hs hp rfl (bounds_of_pass _ ?_) hq
  simp only [List.forall_mem_cons, List.not_mem_nil, false_implies, implies_true, and_true]
  exact Bool.or_eq_false_iff.mpr ⟨decide_eq_false (Nat.not_le.mpr hld), decide_eq_false (Nat.not_le.mpr hst)⟩

/-- XFILL on whole words inside the scratchpad joins the copy unit. -/
theorem Here.grows_xfill {s : State} {h : Here} (hs : s.here = some h) {g : Guard} (hp : h.passes g = true) {kg : Fin 8}
    (hroom : h.copyFull = false) (ha : bits (h.stage kg 0) 19 0 % 4 = 0) (hn : bits (h.stage kg 0) 40 20 % 4 = 0)
    (hpos : 4 ≤ bits (h.stage kg 0) 40 20) (hle : bits (h.stage kg 0) 40 20 ≤ 0x100000)
    (hend : bits (h.stage kg 0) 19 0 + bits (h.stage kg 0) 40 20 ≤ 0x100000)
    (hown : h.st.notOwnedSpans ownCopy [(bits (h.stage kg 0) 19 0, bits (h.stage kg 0) 40 20)] = none) :
    h.Grows s (.xfill g kg) (·.copyQ.length) := by
  refine Here.Runs.of_engine hs hp rfl ((bounds_of_pass _ ?_).trans (Here.owned_of_none _ hown)) ?_
  · simp only [List.forall_mem_cons, List.not_mem_nil, false_implies, implies_true, and_true]
    refine ⟨?_, ?_, decide_eq_false (Nat.not_lt.mpr hend), hroom⟩
    · rw [ha]; rfl
    · rw [hn, decide_eq_false (Nat.not_lt.mpr hpos), decide_eq_false (Nat.not_lt.mpr hle)]; rfl
  · simp only [List.length_append, List.length_singleton, Nat.lt_succ_self]

/-- In a scratchpad all of whose banks are raw, no range reaches a bank of another format. -/
theorem Here.otherBank_raw {h : Here} (hfmt : ∀ b < 16, h.t.fmt b = 0) {a n : Nat} (hn : 0 < n) (hend : a + n ≤ 0x100000) :
    h.otherBank [(a, n)] = none := by
  refine List.find?_eq_none.mpr fun b hb => ?_
  simp only [List.map_cons, List.map_nil, List.flatten_cons, List.flatten_nil, List.append_nil, List.mem_map, List.mem_range] at hb
  obtain ⟨j, hj, rfl⟩ := hb
  rw [hfmt _ (by omega), hfmt _ (by omega)]
  decide

theorem rawSpans (a nel scl : Nat) : (ElFmt.code 0).spans a nel scl = [(a, 4 * nel)] := by
  have words : nel * 32 / 8 = 4 * nel := by omega
  show [(a, nel * 32 / 8)] = _
  rw [words]

/-- XCOPY between raw ranges of the scratchpad joins the copy unit. -/
theorem Here.grows_xcopy_raw {s : State} {h : Here} (hs : s.here = some h) {g : Guard} (hp : h.passes g = true) {kg : Fin 8} (rm : Rnd)
    (hroom : h.copyFull = false) {x y nel : Nat} (hx : bits (h.stage kg 0) 19 0 = x) (hy : bits (h.stage kg 1) 19 0 = y)
    (hnel : bits (h.stage kg 2) 20 0 = nel) (hsm : bit (h.stage kg 0) 43 = false) (hdm : bit (h.stage kg 1) 43 = false)
    (hsw : bit (h.stage kg 0) 22 = false) (hpos : 1 ≤ nel) (hle : nel ≤ 0x100000) (hfmt : ∀ b < 16, h.t.fmt b = 0)
    (hxend : x + 4 * nel ≤ 0x100000) (hyend : y + 4 * nel ≤ 0x100000)
    (hown : h.st.notOwnedSpans ownCopy [(x, 4 * nel), (y, 4 * nel)] = none) : h.Grows s (.xcopy g kg rm) (·.copyQ.length) := by
  obtain ⟨_, _, _, hcopy⟩ := engineUnitWords
  obtain ⟨_, _, _, _, _, hcopy⟩ := hcopy s h g kg rm hs hp
  have source : h.t.fmt (x / 0x10000) = 0 := hfmt _ (by omega)
  have target : h.t.fmt (y / 0x10000) = 0 := hfmt _ (by omega)
  have raw : ElFmt.code (BitVec.setWidth 8 (0 : W32)) = .code 0 := rfl
  simp only [hx, hy, hnel, hsm, hdm, hsw, Bool.false_eq_true, if_false, source, target, raw, rawSpans] at hcopy
  have inside (z : Nat) (hz : z + 4 * nel ≤ 0x100000) : pastEnd [(z, 4 * nel)] = false := by
    simp only [pastEnd, List.any_cons, List.any_nil, Bool.or_false]
    exact decide_eq_false (Nat.not_lt.mpr hz)
  obtain ⟨_, _, _, hpair⟩ := hcopy (by
    simp only [List.forall_mem_cons, List.not_mem_nil, false_implies, implies_true, and_true]
    refine ⟨rfl, rfl, rfl, rfl, rfl, rfl, ?_, ?_, ?_, rfl, hroom⟩
    · rw [beq_eq_false_iff_ne.mpr (Nat.one_le_iff_ne_zero.mp hpos), decide_eq_false (Nat.not_lt.mpr hle)]
      rfl
    · simp only [List.take_succ_cons, List.take_zero, inside x hxend, Bool.false_or, Bool.and_false]
    · simp only [List.take_succ_cons, List.take_zero, inside y hyend, Bool.false_or, Bool.and_false])
  obtain ⟨_, hrun⟩ := hpair (.inr (.inr (Here.otherBank_raw hfmt (by omega) hxend))) (.inr (Here.otherBank_raw hfmt (by omega) hyend))
    ⟨fun _ => rfl, fun _ => rfl⟩
  obtain ⟨_, hrun⟩ := hrun hown
  exact Here.Runs.of_becomes hs (hrun False.elim)
    (by simp only [List.length_append, List.length_singleton, Nat.lt_succ_self])

/-- A collective all of whose checks pass leaves its descriptor with the tile. -/
theorem Here.grows_chorusPost {s : State} {h : Here} (hs : s.here = some h) {g : Guard} (hp : h.passes g = true) {kg : Fin 8} {kind : CKind}
    {cop : COp} {sc : Scope} {i : Instr} (e : exec i = engine g fun h => h.chorusPost kg kind cop sc)
    (hdata : kind ≠ .bar → let c := h.chorusDesc kg kind cop sc
      c.buf % 64 = 0 ∧ 1 ≤ c.nel ∧ c.nel ≤ 0x100000 ∧
      c.nel % (32 * (if kind = .bc then 1 else (h.co.bucketRing h.t.key.row h.t.key.col).length)) = 0 ∧ c.buf + c.nel * opBytes cop ≤ 0x100000)
    (hred : kind = .ar ∨ kind = .rs → let c := h.chorusDesc kg kind cop sc
      c.slots % 64 = 0 ∧ c.slots + c.nel * opBytes cop ≤ 0x100000 ∧ h.st.notOwnedSpans ownChorus [(c.slots, c.nel * opBytes cop)] = none)
    (hroot : kind = .bc → (h.chorusDesc kg kind cop sc).root < (h.co.bucketRing h.t.key.row h.t.key.col).length)
    (htmo : (h.chorusDesc kg kind cop sc).tmo ≠ 0) (hfree : ∀ x ∈ h.st.chorus, x.bucket ≠ (h.chorusDesc kg kind cop sc).bucket) :
    h.Grows s i (·.chorus.length) := by
  have data (hk : decide (kind ≠ .bar) = true) := hdata (of_decide_eq_true hk)
  have red (hk : (decide (kind = .ar) || decide (kind = .rs)) = true) := hred (by simpa using hk)
  have owned : h.st.notOwnedSpans ownChorus (if (decide (kind = .ar) || decide (kind = .rs)) = true then
      [((h.chorusDesc kg kind cop sc).slots, (h.chorusDesc kg kind cop sc).nel * opBytes cop)] else []) = none := by
    split
    · next hk =>
      obtain ⟨_, _, hown⟩ := red hk
      exact hown
    · rfl
  refine Here.Runs.of_engine_all hs hp e (u := { h.t with st := { h.st with chorus := h.st.chorus ++ [h.chorusDesc kg kind cop sc] } })
    ⟨_, (bounds_of_pass _ ?_).trans (Here.owned_of_none _ owned), ?_, ?_⟩ ?_
  · simp only [List.forall_mem_cons, List.not_mem_nil, false_implies, implies_true, and_true]
    refine ⟨check_guarded fun hk => ?_, check_guarded fun hk => ?_, check_guarded fun hk => ?_, ?_, check_guarded fun hk => ?_,
      check_guarded fun hk => ?_, check_guarded fun hk => ?_, ?_⟩
    · obtain ⟨halign, _⟩ := data hk
      rw [halign]; rfl
    · obtain ⟨halign, _⟩ := red hk
      rw [halign]; rfl
    · exact decide_eq_false (Nat.not_le.mpr (hroot (of_decide_eq_true hk)))
    · exact beq_eq_false_iff_ne.mpr htmo
    · obtain ⟨_, hpos, hle, hunit, _⟩ := data hk
      simp only [beq_eq_false_iff_ne.mpr (Nat.one_le_iff_ne_zero.mp hpos), decide_eq_false (Nat.not_lt.mpr hle), hunit]
      rfl
    · obtain ⟨_, _, _, _, hend⟩ := data hk
      exact decide_eq_false (Nat.not_lt.mpr hend)
    · obtain ⟨_, hend, _⟩ := red hk
      exact decide_eq_false (Nat.not_lt.mpr hend)
    · exact List.any_eq_false.mpr fun x hx => by simpa using hfree x hx
  · split <;> rfl
  · split <;> exact Here.tileAt_setTile_self hs rfl
  · simp only [List.length_append, List.length_singleton, Nat.lt_succ_self]

/-- The one descriptor that waits for its buffer is ready. -/
theorem Here.grows_chorusReady {s : State} {h : Here} (hs : s.here = some h) {g : Guard} (hp : h.passes g = true) {kg : Fin 8} {sc : Scope}
    {c : CDesc} (hc : h.st.chorus = [c]) (hb : c.bucket.val = bits (h.stage kg 0) 41 36) (hstale : c.stale = false)
    (hready : c.ready = false) (hkind : c.kind ≠ .bar) (hown : h.st.notOwnedSpans ownChorus [(c.buf, c.nel * opBytes c.op)] = none) :
    h.Grows s (.chorusReady g kg sc) fun t => (t.chorus.filter (·.ready)).length := by
  have found : (h.st.chorus.find? fun d => d.bucket.val == bits (h.stage kg 0) 41 36 && !d.stale && !d.ready && d.kind != .bar) = some c := by
    rw [hc, List.find?_cons_of_pos]
    simp [hb, hstale, hready, hkind]
  refine Here.Runs.of_engine_all hs hp rfl
    (u := { h.t with st := { h.st with chorus := h.st.chorus.map fun x => if x = c then { c with ready := true } else x } }) ?_ ?_
  · simp only [found]
    rw [Here.owned_of_none _ hown]
    refine ⟨_, rfl, ?_, ?_⟩
    · split
      · split <;> rfl
      · rfl
    · split
      · split <;> exact Here.tileAt_setTile_self hs rfl
      · exact Here.tileAt_setTile_self hs rfl
  · simp [hc, hready]


/-! ### Hops and crossings (08 R210 to R217) -/

theorem beatsOf_pos (w : Bool) : 0 < beatsOf w := by cases w <;> decide

theorem TState.Sends.flight_lt {st st' : TState} {c lo hi : Nat} (h : st.Sends st' c lo hi) : st.flight.length < st'.flight.length := by
  obtain ⟨es, hne, _, rfl⟩ := h
  have := List.length_pos_iff.mpr hne
  simp only [List.length_append]
  omega

/-- The word that a crossing torn down in this cycle loses is marked at the far end too (12 R319). -/
def State.tornAt (s : State) (x : Crossing) (ch : Fin 8) : State :=
  (s.tileAt x.peer).elim s fun u => s.setTile (u.addTorn x.peerSide ch)

theorem State.tornAt_raised (s : State) (x : Crossing) (ch : Fin 8) : (s.tornAt x ch).raised = s.raised := by
  unfold State.tornAt
  cases s.tileAt x.peer <;> rfl

section
variable {s : State} {h : Here} (hs : s.here = some h)
include hs

/-- A hop on a link that is free puts its beats on the wire. -/
theorem Here.grows_hop {i : Instr} {side : Side} {w : Bool} {beat : Here → Nat → HopBeat}
    (e : exec i = word fun h => h.claimHop side (beatsOf w) fun st => .ok { st with wires := st.wires ++ (List.range (beatsOf w)).map (beat h) })
    (hfree : h.st.hopBusy[sideNo side] ≤ h.cue) : h.Grows s i (·.wires.length) := by
  refine Here.Runs.of_word hs e (if_neg (Nat.not_lt.mpr hfree)) ?_
  have := beatsOf_pos w
  simp only [List.length_append, List.length_map, List.length_range]
  omega

theorem Here.grows_xrecv (r : Dst) (side : Side) (w : Bool) (ch : Fin 8) : h.Grows s (.xrecv r side w ch) (·.flight.length) := by
  cases hf : h.st.fifo[fifoIdx side ch] with
  | nil =>
    exact Here.Runs.of_word_tile hs (u := ({ h.t with st := h.st.receive h.cue r w 0 } : Tile).addUnder side ch) (n := 0) rfl
      (by simp only [hf]) rfl (h.st.sends_receive _ _ _ _).flight_lt
  | cons x rest =>
    exact Here.Runs.of_word hs rfl
      (st := TState.receive { h.st with fifo := h.st.fifo.set (fifoIdx side ch) rest } h.cue r w (if x.vec then x.v else inLow (low64 x.v)))
      (by simp only [hf]) (TState.sends_receive { h.st with fifo := h.st.fifo.set (fifoIdx side ch) rest } _ _ _ _).flight_lt

/-- The tile in focus, replaced by one of the same key, stands in that one's state whatever is marked at the far end of the crossing. -/
theorem Here.tileAt_tornAt {u : Tile} (hu : u.key = h.t.key) (x : Crossing) (ch : Fin 8) :
    ∃ v, ((h.s.setTile u).tornAt x ch).tileAt h.t.key = some v ∧ v.st = u.st := by
  have self := Here.tileAt_setTile_self hs hu
  unfold State.tornAt
  cases hp : (h.s.setTile u).tileAt x.peer with
  | none => exact ⟨u, self, rfl⟩
  | some w =>
    refine (em (w.key = h.t.key)).elim (fun hw => ⟨w.addTorn x.peerSide ch, ?_, ?_⟩) fun hw => ⟨u, ?_, rfl⟩
    · show ((h.s.setTile u).setTile (w.addTorn x.peerSide ch)).tileAt h.t.key = _
      rw [State.tileAt_setTile, if_pos (show (w.addTorn x.peerSide ch).key = _ from hw), self]
      rfl
    · have peer : x.peer = h.t.key := (State.tileAt_key hp).symm.trans hw
      rw [peer, self, Option.some.injEq] at hp
      rw [hp]
      rfl
    · show ((h.s.setTile u).setTile (w.addTorn x.peerSide ch)).tileAt h.t.key = _
      rw [State.tileAt_setTile, if_neg (show ¬ (w.addTorn x.peerSide ch).key = _ from hw), self]

/-- A crossing word on a side that is free claims it, whatever becomes of the word. -/
theorem Here.runs_xsend (a : Sel) (side : Side) (w : Bool) (ch : Fin 8) (hfree : h.st.xBusy[sideNo side] ≤ h.cue) :
    h.Runs s (.xsend a side w ch) fun st => h.cue < st.xBusy[sideNo side] := by
  have free : ¬ h.cue < h.st.xBusy[sideNo side] := Nat.not_lt.mpr hfree
  have busy : h.cue < (h.st.xBusy.set (sideNo side) (h.cue + beatsOf w))[sideNo side] := by
    rw [getElem_set_fin, if_pos rfl]
    exact Nat.lt_add_of_pos_right (beatsOf_pos w)
  obtain ⟨st, hst⟩ : ∃ st : TState, st = { h.st with xBusy := h.st.xBusy.set (sideNo side) (h.cue + beatsOf w) } := ⟨_, rfl⟩
  have busy : h.cue < st.xBusy[sideNo side] := by
    rw [hst, getElem_set_fin, if_pos rfl]
    exact Nat.lt_add_of_pos_right (beatsOf_pos w)
  cases hx : h.s.crossing h.gang h.t.key side with
  | none =>
    refine Here.Runs.of_word hs rfl ((if_neg free).trans ?_) busy
    simp only [hx, ← hst]
  | some x =>
    cases hup : x.up with
    | true =>
      let v := if w then h.getV .f a else inLow (h.get64 .f a)
      let last := h.cue + beatsOf w - 1
      let lo := max (last + x.band.lo) st.xLast[sideNo side]
      let arrive := lo + Config.freeNat h.s.free % (last + x.band.hi - lo + 1)
      refine Here.Runs.of_word_tile hs rfl (n := 1) (u := { h.t with st := { st with
        xLast := st.xLast.set (sideNo side) arrive
        xwords := st.xwords ++ [⟨side, ch, w, v, h.cue, arrive, last + x.band.lo⟩] } }) ((if_neg free).trans ?_) rfl busy
      simp only [hx, hup, Bool.not_true, Bool.false_eq_true, if_false]
      subst hst
      rfl
    | false =>
      cases htorn : x.torn with
      | false =>
        refine Here.Runs.of_word_tile hs rfl (u := ({ h.t with st := st } : Tile).addLost side 1) (n := 0) ((if_neg free).trans ?_) rfl busy
        simp only [hx, hup, htorn, ← hst, Bool.not_false, Bool.false_eq_true, if_false, if_true]
      | true =>
        obtain ⟨u, hu, hust⟩ := Here.tileAt_tornAt hs (u := ({ h.t with st := st } : Tile).addTorn side ch) rfl x ch
        refine Here.Runs.of_word_all hs rfl ((if_neg free).trans ?_) ?_ hu (hust ▸ busy)
        · simp only [hx, hup, htorn, ← hst, Bool.not_false, if_true]
          rfl
        · exact State.tornAt_raised _ _ _

end

end Sys2Proof.Machine

open Sys2Proof Sys2Proof.Machine
/-- Settles O45: each word's result is put in flight, or, its checks passing, its command stands in its queue. -/
theorem wordsComplete : Obligations.WordsComplete := by
  unfold Obligations.WordsComplete
  intro s h r a b d base off n rm fr tf w mx ty set row n6 syn sp wa wb df side from_ vec g kg l o st sc op hs lands runs grows
  have lands_eq : lands = h.Lands s := rfl
  have runs_eq : runs = h.Runs s := rfl
  have grows_eq : grows = h.Grows s := rfl
  clear_value lands runs grows
  subst lands_eq runs_eq grows_eq
  refine ⟨?_, ?_, ?_, ?_, ?_, ?_, ?_, ?_, ?_, ?_, ?_, ?_, ?_, ?_, ?_, ?_, ?_, ?_⟩
  · simp only [List.forall_mem_cons, List.not_mem_nil, false_implies, implies_true, and_true]
    exact ⟨.of_vword hs rfl, .of_vword hs rfl, .of_vword hs rfl, .of_vword hs rfl, .of_word hs rfl rfl (h.st.sends_resF _ _ _ _)⟩
  · simp only [List.forall_mem_cons, List.not_mem_nil, false_implies, implies_true, and_true]
    exact ⟨.of_vword hs rfl, .of_vword hs rfl, .of_vword hs rfl, .of_vword hs rfl, .of_vword hs rfl, .of_fly1 hs rfl, .of_fly1 hs rfl⟩
  · simp only [List.forall_mem_cons, List.not_mem_nil, false_implies, implies_true, and_true]
    exact ⟨.of_vword hs rfl, .of_vword hs rfl, .of_vword hs rfl, .of_vword hs rfl, .of_vword hs rfl, .of_gword hs rfl, .of_gword hs rfl,
      .of_vword hs rfl, .of_vword hs rfl⟩
  · simp only [List.forall_mem_cons, List.not_mem_nil, false_implies, implies_true, and_true]
    exact ⟨.of_vword hs rfl, .of_vword hs rfl, .of_vword hs rfl, .of_vword hs rfl, .of_marray hs rfl,
      .of_word hs rfl rfl ((h.st.sends_resV _ _ _ _ _ _).trans (TState.sends_fly1 _ _ le_rfl le_rfl))⟩
  · simp only [List.forall_mem_cons, List.not_mem_nil, false_implies, implies_true, and_true]
    exact ⟨.of_marray hs rfl, .of_marray hs rfl, .of_marray hs rfl, .of_marray hs rfl, .of_marray hs rfl,
      .of_word hs rfl rfl (h.st.sends_receive _ _ _ _), .of_fly1 hs rfl, .of_fly1 hs rfl⟩
  · simp only [List.forall_mem_cons, List.not_mem_nil, false_implies, implies_true, and_true]
    exact ⟨.of_marray hs rfl, .of_marray hs rfl, .of_marray hs rfl⟩
  · simp only [List.forall_mem_cons, List.not_mem_nil, false_implies, implies_true, and_true]
    refine ⟨.of_word hs rfl rfl ?_, .of_word hs rfl rfl (h.st.sends_resV _ _ _ _ _ _)⟩
    split
    · exact (h.st.sends_resV _ _ _ _ _ _).trans (TState.sends_fly1 _ _ le_rfl le_rfl)
    · exact h.st.sends_resV _ _ _ _ _ _
  · exact .of_word hs rfl rfl (h.st.sends_resV _ _ _ _ _ _)
  · simp only [List.forall_mem_cons, List.not_mem_nil, false_implies, implies_true, and_true]
    exact ⟨.of_word hs rfl rfl (h.st.sends_resV _ _ _ _ _ _),
      .of_word hs rfl rfl ((h.st.sends_resV _ _ _ _ _ _).trans (TState.sends_fly1 _ _ le_rfl le_rfl))⟩
  · exact .of_word hs rfl rfl (((h.st.sends_fly1 _ (by omega) (by omega)).trans (TState.sends_fly1 _ _ (by omega) le_rfl)).trans
      ((TState.sends_resV _ _ _ _ _ _ _).mono (by omega) le_rfl))
  · intro x hx hle hcue hbad
    have slice : h.cue % Config.refreshPeriod % 512 = h.cue % 512 := Nat.mod_mod_of_dvd _ (by decide)
    exact .of_word hs rfl ((if_neg (not_or.mpr ⟨not_not.mpr hx, Nat.not_lt.mpr hle⟩)).trans ((if_neg (by rw [slice]; omega)).trans (if_neg (by rw [hbad]; decide))))
      (h.st.sends_fly1 (.plane x) le_rfl le_rfl)
  · intro x ld sto hld f len hown
    have load_of {st : TState} (h5 : h.vload r (x : Int) = .ok st) (hsend : h.st.Sends st h.cue 5 5) : h.Lands s 5 5 ld := by
      obtain ⟨rfl, _, ha⟩ | ⟨rfl, _, ha⟩ := hld
      · exact .of_word hs rfl (by rw [ha, h5]) hsend
      · exact .of_word hs rfl (by rw [ha, h5]) hsend
    have store_of {st : TState} (h2 : h.vstore d (x : Int) = .ok st) (hsend : h.st.Sends st h.cue 2 2) : h.Lands s 2 2 sto := by
      obtain ⟨_, rfl, ha⟩ | ⟨_, rfl, ha⟩ := hld
      · exact .of_word hs rfl (by rw [ha, h2]) hsend
      · exact .of_word hs rfl (by rw [ha, h2]) hsend
    refine ⟨fun hb halign hend hfmt => ?_, fun v hv hx hstart => ?_⟩
    · have plain : len = 64 * f.bytes := by
        cases hf : f with
        | block v => rw [hf] at hb; exact Bool.noConfusion (hb : true = false)
        | plain _ | int _ _ | fp _ => simp only [len, hf]
      rw [plain] at hown hend hfmt
      obtain ⟨_, h5, hsend5⟩ := Here.vload_plain r hb halign hend hfmt hown
      obtain ⟨_, h2, hsend2⟩ := Here.vstore_plain d hb halign hend hfmt hown
      exact ⟨load_of h5 hsend5, store_of h2 hsend2⟩
    · have block : len = blkBytes (widthBits v) := by
        simp only [len, hv]
        rfl
      rw [block] at hown
      refine ⟨fun hr => ?_, fun hd hact => ?_⟩
      · obtain ⟨_, h5, hsend⟩ := Here.vload_block hv hx hstart hown hr
        exact load_of h5 hsend
      · obtain ⟨_, h2, hsend⟩ := Here.vstore_block hv hx hstart hown hd hact
        exact store_of h2 hsend
  · intro x f hlanes
    have pass : h.laneFault (h.laneAddrs a b) = none := Here.laneFault_eq_none fun p hp => by
      obtain ⟨hlt, hact, hx⟩ := Here.mem_laneAddrs hp
      rw [hx]
      exact hlanes p.1 hlt hact
    exact ⟨.of_word hs rfl (by simp only [pass]; rfl) (h.st.sends_resV _ _ _ _ _ _),
      .of_word hs rfl (by simp only [pass]; rfl) (h.st.sends_fly1 _ le_rfl le_rfl)⟩
  · intro hfree
    exact ⟨Here.grows_hop hs rfl hfree, Here.grows_hop hs rfl hfree⟩
  · exact Here.grows_xrecv hs r side vec n
  · exact Here.runs_xsend hs a side vec n
  · intro hparent
    exact Here.cuetrim_of_parent hs hparent
  · intro hp w0 w1 w2
    refine ⟨?_, ?_, ?_, ?_, ?_, ?_, ?_, ?_, ?_, ?_, ?_, ?_⟩
    · intro wr two i hi m e k hcs he hlocal hk hown
      obtain ⟨_, hfly, hlen⟩ := Here.fly_of_pass hcs he hlocal hk hown
      simp only [List.mem_cons, Prod.mk.injEq, List.not_mem_nil, or_false] at hi
      obtain ⟨rfl, rfl, rfl⟩ | ⟨rfl, rfl, rfl⟩ | ⟨rfl, rfl, rfl⟩ | ⟨rfl, rfl, rfl⟩ := hi <;>
        exact .of_engine hs hp rfl hfly hlen
    · intro wr six i hi m e hcs hrep hst hld he hown
      obtain ⟨_, hcopy, hlen⟩ := Here.acopy_of_pass (sc := sc) hcs hrep hst hld he hown
      simp only [List.mem_cons, Prod.mk.injEq, List.not_mem_nil, or_false] at hi
      obtain ⟨rfl, rfl, rfl⟩ | ⟨rfl, rfl, rfl⟩ | ⟨rfl, rfl, rfl⟩ := hi <;>
        exact .of_engine hs hp rfl hcopy hlen
    · intro hld hst
      exact ⟨Here.runs_qmark hs hp hld hst (by simp only [List.length_append, List.length_singleton, Nat.lt_succ_self]),
        Here.runs_qmark hs hp hld hst (by simp only [List.length_append, List.length_singleton, Nat.lt_succ_self])⟩
    · intro hroom
      refine ⟨?_, ?_⟩
      · intro x len hx hlen hpos hle hend hown
        exact Here.grows_xfill hs hp hroom hx hlen hpos hle hend hown
      · intro x y nel hsm hdm hsw hpos hle hfmt hxend hyend hown
        exact Here.grows_xcopy_raw hs hp rm hroom rfl rfl rfl hsm hdm hsw hpos hle hfmt hxend hyend hown
    · intro u cnt hle hown
      refine .of_engine hs hp rfl ((bounds_of_pass _ ?_).trans (Here.owned_of_none _ (TState.notOwned_units hown)))
        (h.st.sends_fly1 _ le_rfl le_rfl)
      simpa using hle
    · simp only [List.forall_mem_cons, List.not_mem_nil, false_implies, implies_true, and_true]
      exact ⟨.of_engine hs hp rfl rfl (h.st.sends_fly1 _ le_rfl le_rfl), .of_engine hs hp rfl rfl (h.st.sends_fly1 _ le_rfl le_rfl)⟩
    · intro hb hroom
      obtain ⟨m, hm⟩ := Option.isSome_iff_exists.mp hb
      have longer (x : MbCmd) : h.st.mbQ.length < (h.st.mbQ ++ [x]).length := by
        simp only [List.length_append, List.length_singleton, Nat.lt_succ_self]
      simp only [List.forall_mem_cons, List.not_mem_nil, false_implies, implies_true, and_true]
      exact ⟨.of_engine hs hp rfl (Here.mbEnter_of_room hm hroom _ _ _) (longer _),
        .of_engine hs hp rfl (Here.mbEnter_of_room hm hroom _ _ _) (longer _)⟩
    · intro e he hpos h2 halign hpass hrd hwr hpin
      have wheel_grows (i : Instr) (op : WheelOp) (lat : Option (Slot × Fin 4)) {f : Here → Res} (ei : exec i = engine g f)
          (hf : f h = h.wheel op kg lat) : h.Grows s i (·.wheel.length) :=
        .of_engine hs hp ei (hf.trans (Here.wheel_of_pass op kg lat hpos h2 he halign hpass (fun _ => hrd) (fun _ => hwr) hpin))
          (by simp only [List.length_append, List.length_singleton, Nat.lt_succ_self])
      simp only [List.forall_mem_cons, List.not_mem_nil, false_implies, implies_true, and_true]
      exact ⟨wheel_grows _ .ld _ rfl rfl, wheel_grows _ .st none rfl rfl, wheel_grows _ .add _ rfl rfl, wheel_grows _ .xchg _ rfl rfl,
        wheel_grows _ .cas _ rfl rfl⟩
    · intro i kind cop hi c len hdata hred hroot htmo hfree
      simp only [List.mem_cons, Prod.mk.injEq, List.not_mem_nil, or_false] at hi
      obtain ⟨rfl, rfl, rfl⟩ | ⟨rfl, rfl, rfl⟩ | ⟨rfl, rfl, rfl⟩ | ⟨rfl, rfl, rfl⟩ | ⟨rfl, rfl, rfl⟩ := hi <;>
        exact Here.grows_chorusPost hs hp rfl hdata hred hroot htmo hfree
    · intro c hc hb hstale hready hkind hown
      exact Here.grows_chorusReady hs hp hc hb hstale hready hkind hown
    · intro c hbuf hslots htmo hpos hle hend hsend hown
      refine .of_engine hs hp rfl ((bounds_of_pass _ ?_).trans (Here.owned_of_none _ hown)) ?_
      · simp only [List.forall_mem_cons, List.not_mem_nil, false_implies, implies_true, and_true]
        refine ⟨?_, ?_, ?_, ?_, decide_eq_false (Nat.not_lt.mpr hend), decide_eq_false (Nat.not_lt.mpr hsend)⟩
        · exact bne_eq_false_iff_eq.mpr hbuf
        · exact bne_eq_false_iff_eq.mpr hslots
        · exact bne_eq_false_iff_eq.mpr htmo
        · exact Bool.or_eq_false_iff.mpr ⟨beq_eq_false_iff_ne.mpr (Nat.one_le_iff_ne_zero.mp hpos), decide_eq_false (Nat.not_lt.mpr hle)⟩
      · simp only [List.length_append, List.length_singleton, Nat.lt_succ_self]
    · simp only [List.forall_mem_cons, List.not_mem_nil, false_implies, implies_true, and_true]
      exact ⟨.of_engine hs hp rfl rfl (by simp only [List.length_append, List.length_singleton, Nat.lt_succ_self]),
        .of_engine hs hp rfl rfl (by simp only [List.length_append, List.length_singleton, Nat.lt_succ_self])⟩
end

section
/-! SUPPORT. Tiles found after tiles are replaced, and flags set one after another; what hop beats and crossing words leave (08 R209 to R217). -/
namespace Sys2Proof.Machine

theorem atTile_here {s : State} {k : TileKey} {h : Here} (hs : s.hereAt k = some h) (f : Here → State) : atTile k f s = .next (f h) := by
  simp only [atTile, hs]

/-- Every tile replaced by one of its own key. -/
theorem State.tileAt_map {f : Tile → Tile} (hf : ∀ t, (f t).key = t.key) (s : State) (k : TileKey) :
    ({ s with tiles := s.tiles.map f } : State).tileAt k = (s.tileAt k).map f := by
  simp only [State.tileAt, List.find?_map, Function.comp_def, hf]

theorem State.tileAt_mapTiles {f : Tile → Tile} (hf : ∀ t, (f t).key = t.key) (s : State) (n : Nat) (k : TileKey) :
    (s.mapTiles n f).tileAt k = (s.tileAt k).map fun t => if t.key.co = n then f t else t :=
  State.tileAt_map (fun t => by split <;> simp only [hf]) s k

/-- A tile that was found and another key's tile replaced. -/
theorem State.tileAt_setTile_other {s : State} {u : Tile} {k : TileKey} (hk : u.key ≠ k) : (s.setTile u).tileAt k = s.tileAt k := by
  rw [State.tileAt_setTile, if_neg hk]

theorem State.tileAt_setTile_self {s : State} {u t : Tile} {k : TileKey} (hu : u.key = k) (ht : s.tileAt k = some t) :
    (s.setTile u).tileAt k = some u := by
  rw [State.tileAt_setTile, if_pos hu, ht]
  rfl

theorem Here.put_tileAt_self {s : State} {k : TileKey} {h : Here} (hs : s.hereAt k = some h) (st : TState) :
    (h.put st).tileAt k = some { h.t with st := st } := by
  obtain ⟨_, ht, _, _⟩ := State.hereAt_parts hs
  rw [Here.put_tileAt hs, if_pos (State.tileAt_key ht)]

theorem Here.put_tileAt_other {s : State} {k g : TileKey} {h : Here} (hs : s.hereAt k = some h) (st : TState) (hg : g ≠ k) :
    (h.put st).tileAt g = s.tileAt g := by
  obtain ⟨_, ht, _, _⟩ := State.hereAt_parts hs
  rw [Here.put_tileAt hs, if_neg (fun e => hg (e.symm.trans (State.tileAt_key ht)))]

/-! ### Signals (04 R109) -/

theorem TState.getLsbD_arrives (st : TState) (i j : Fin 16) :
    (st.arrives i.val).arrive.getLsbD j.val = (st.arrive.getLsbD j.val || i == j) := by
  have bit : (1#16 <<< i.val).getLsbD j.val = (i == j) := by
    rw [← BitVec.twoPow_eq, BitVec.getLsbD_twoPow, beq_eq_decide]
    simp [Fin.ext_iff]
  rw [TState.arrives, BitVec.getLsbD_or, bit]

/-- A tile of the gang takes every flag that is signalled; another stays. -/
def Tile.heard (k : TileKey) (js : List (Nat × Fin 16)) (t : Tile) : Tile :=
  if t.key.co = k.co ∧ t.key.gang = k.gang then { t with st := js.foldl (fun st x => st.arrives x.2) t.st } else t

theorem Tile.heard_key (k : TileKey) (js : List (Nat × Fin 16)) (t : Tile) : (t.heard k js).key = t.key := by
  unfold Tile.heard
  split <;> rfl

theorem foldl_arrives_only (js : List (Nat × Fin 16)) : ∀ st : TState,
    js.foldl (fun st x => st.arrives x.2) st = { st with arrive := (js.foldl (fun st x => st.arrives x.2) st).arrive } := by
  induction js with
  | nil => exact fun _ => rfl
  | cons j js ih => exact fun st => ih (st.arrives j.2)

theorem getLsbD_foldl_arrives (js : List (Nat × Fin 16)) (j : Fin 16) : ∀ st : TState,
    (js.foldl (fun st x => st.arrives x.2) st).arrive.getLsbD j.val = (st.arrive.getLsbD j.val || js.any fun x => x.2 == j) := by
  induction js with
  | nil => simp
  | cons x js ih =>
    intro st
    rw [List.foldl_cons, ih, TState.getLsbD_arrives, List.any_cons, Bool.or_assoc]

theorem Tile.getLsbD_heard (k : TileKey) (js : List (Nat × Fin 16)) (t : Tile) (j : Fin 16) :
    (t.heard k js).st.arrive.getLsbD j.val =
      (t.st.arrive.getLsbD j.val || (decide (t.key.co = k.co ∧ t.key.gang = k.gang) && js.any fun x => x.2 == j)) := by
  unfold Tile.heard
  by_cases hk : t.key.co = k.co ∧ t.key.gang = k.gang
  · rw [if_pos hk, getLsbD_foldl_arrives, decide_eq_true hk, Bool.true_and]
  · rw [if_neg hk, decide_eq_false hk, Bool.false_and, Bool.or_false]

theorem Tile.heard_signals (k : TileKey) (js : List (Nat × Fin 16)) (t : Tile) : (t.heard k js).st.signals = t.st.signals := by
  unfold Tile.heard
  split
  · rw [foldl_arrives_only]
  · rfl

/-- Signals heard one after another are heard by each tile for itself. -/
theorem State.tileAt_foldl_signals (k g : TileKey) (js : List (Nat × Fin 16)) : ∀ s : State,
    (js.foldl (fun s x => { s with tiles := s.tiles.map fun t =>
      if t.key.co = k.co ∧ t.key.gang = k.gang then { t with st := t.st.arrives x.2 } else t }) s).tileAt g = (s.tileAt g).map (Tile.heard k js) := by
  induction js with
  | nil =>
    intro s
    have nothing : Tile.heard k [] = id := funext fun t => by
      unfold Tile.heard
      split <;> rfl
    rw [nothing, Option.map_id]
    rfl
  | cons x js ih =>
    intro s
    rw [List.foldl_cons, ih, State.tileAt_map (fun t => by split <;> rfl), Option.map_map]
    congr 1
    funext t
    unfold Tile.heard
    by_cases hk : t.key.co = k.co ∧ t.key.gang = k.gang
    · simp only [Function.comp, if_pos hk, List.foldl_cons]
    · simp only [Function.comp, if_neg hk]

/-! ### Hop beats (08 R210, R212) -/

/-- A beat that a tile sent lands in the buffer that faces it, or nowhere. -/
def State.beatLands (g : Gang) (k : TileKey) (s : State) (b : HopBeat) : State :=
  match (hopNext g k b.side).bind s.tileAt with
  | some t => s.setTile { t with st := t.st.landBeat (facing b.side) b }
  | none => s

theorem State.beatLands_of_tile {g : Gang} {k n : TileKey} {s : State} {b : HopBeat} {t : Tile} (hn : hopNext g k b.side = some n)
    (ht : s.tileAt n = some t) : s.beatLands g k b = s.setTile { t with st := t.st.landBeat (facing b.side) b } := by
  simp only [State.beatLands, hn, Option.bind_some, ht]

theorem State.beatLands_off {g : Gang} {k : TileKey} {s : State} {b : HopBeat} (hn : hopNext g k b.side = none) : s.beatLands g k b = s := by
  simp only [State.beatLands, hn, Option.bind_none]

/-- The beats sent before this cue land, one after another. -/
theorem exec_hopBeatLanding {s : State} {k : TileKey} {h : Here} (hs : s.hereAt k = some h) : exec (.hopBeatLanding k) s = .next
    ((h.st.wires.filter fun b => decide (b.sent < h.cue)).foldl (State.beatLands h.gang k)
      (h.put { h.st with wires := h.st.wires.filter fun b => decide (h.cue ≤ b.sent) })) := atTile_here hs _

/-- Where every beat was sent before this cue, all of them land and none is left. -/
theorem exec_hopBeatLanding_all {s : State} {k : TileKey} {h : Here} (hs : s.hereAt k = some h) (hall : ∀ b ∈ h.st.wires, b.sent < h.cue) :
    exec (.hopBeatLanding k) s = .next (h.st.wires.foldl (State.beatLands h.gang k) (h.put { h.st with wires := [] })) := by
  rw [exec_hopBeatLanding hs, List.filter_eq_self.mpr fun b hb => decide_eq_true (hall b hb),
    List.filter_eq_nil_iff.mpr fun b hb => by simpa using hall b hb]

/-! ### Crossing words (08 R215 to R217) -/

/-- A word enters the FIFO at the far side of its crossing; over a failed stitch it is lost there. -/
def State.wordArrives (g : Gang) (k : TileKey) (s : State) (x : XWord) : State :=
  match s.crossing g k x.side, stitchNext g k x.side with
  | some c, _ => (s.tileAt c.peer).elim s fun t => s.setTile (t.xEnter c.peerSide x)
  | none, some n => (s.tileAt n.1).elim s fun t => s.setTile (t.addLost n.2 1)
  | none, none => s

theorem State.wordArrives_of_crossing {g : Gang} {k : TileKey} {s : State} {x : XWord} {c : Crossing} {t : Tile}
    (hc : s.crossing g k x.side = some c) (ht : s.tileAt c.peer = some t) : s.wordArrives g k x = s.setTile (t.xEnter c.peerSide x) := by
  simp only [State.wordArrives, hc, ht, Option.elim_some]

theorem State.wordArrives_of_stitch {g : Gang} {k : TileKey} {s : State} {x : XWord} {n : TileKey × Side} {t : Tile}
    (hc : s.crossing g k x.side = none) (hn : stitchNext g k x.side = some n) (ht : s.tileAt n.1 = some t) :
    s.wordArrives g k x = s.setTile (t.addLost n.2 1) := by
  simp only [State.wordArrives, hc, hn, ht, Option.elim_some]

/-- With no word in the replay buffer, the words that have arrived enter their FIFOs, one after another. -/
theorem exec_crossingBeatArrival_all {s : State} {k : TileKey} {h : Here} (hs : s.hereAt k = some h) (hr : h.st.replay = [])
    (hall : ∀ x ∈ h.st.xwords, x.arrive ≤ h.cue) : exec (.crossingBeatArrival k) s = .next
      (h.st.xwords.foldl (State.wordArrives h.gang k) (h.put { h.st with xwords := [] })) := by
  have here : exec (.crossingBeatArrival k) s = .next ((h.st.xwords.filter fun x => decide (x.arrive ≤ h.cue)).foldl (State.wordArrives h.gang k)
      (h.put { h.st with xwords := h.st.xwords.filter fun x => decide (h.cue < x.arrive) })) :=
    (atTile_here hs _).trans (by rw [if_neg (by simp [hr])]; rfl)
  rw [here, List.filter_eq_self.mpr fun x hx => decide_eq_true (hall x hx), List.filter_eq_nil_iff.mpr fun x hx => by simpa using hall x hx]

/-- A word captured in the replay buffer enters the tile's own FIFO. -/
theorem exec_crossingBeatArrival_replay {s : State} {k : TileKey} {h : Here} (hs : s.hereAt k = some h) {y : Side} {x : XWord}
    (hr : h.st.replay = [(y, x)]) (hx : x.arrive ≤ h.cue) : exec (.crossingBeatArrival k) s = .next
      (s.setTile (({ h.t with st := { h.st with replay := [] } } : Tile).xEnter y x)) := by
  refine (atTile_here hs _).trans ?_
  have due : h.st.replay.filter (fun x => decide (x.2.arrive ≤ h.cue)) = [(y, x)] := by
    rw [hr]
    exact List.filter_eq_self.mpr (by simpa using hx)
  have left : h.st.replay.filter (fun x => decide (h.cue < x.2.arrive)) = [] := by
    rw [hr]
    exact List.filter_eq_nil_iff.mpr (by simpa using hx)
  rw [due, left]
  rfl

/-- The oldest word of a channel is lost, and counted at its far side. -/
theorem exec_crossingWordLost {s : State} {k : TileKey} {h : Here} (hs : s.hereAt k = some h) {x : XWord} (hw : h.st.xwords = [x])
    {e : TileKey × Side} {u : Tile} (he : ((s.crossing h.gang k x.side).map fun c => (c.peer, c.peerSide)).orElse (fun _ => stitchNext h.gang k x.side) = some e)
    (hek : e.1 ≠ k) (hu : s.tileAt e.1 = some u) : exec (.crossingWordLost k x.side x.ch) s = .next
      ((h.put { h.st with xwords := [] }).setTile (u.addLost e.2 1)) := by
  refine (atTile_here hs _).trans ?_
  have oldest : h.st.xwords.find? (fun y => y.side == x.side && y.ch == x.ch) = some x := by
    rw [hw, List.find?_cons_of_pos (by simp)]
  have left : h.st.xwords.erase x = [] := by
    rw [hw, List.erase_cons_head]
  simp only [oldest, left, he]
  rw [Here.put_tileAt_other hs _ hek, hu]
  rfl

/-- A word that finds its channel's FIFO full marks the overrun and counts as lost. -/
theorem Tile.xEnter_of_full {t : Tile} {d : Side} {x : XWord} (hfull : 16 ≤ (t.st.fifo[fifoIdx d x.ch]).length) :
    t.xEnter d x = t.addOver d x.ch := if_pos hfull

theorem Tile.xEnter_key (t : Tile) (d : Side) (x : XWord) : (t.xEnter d x).key = t.key := by
  by_cases hfull : 16 ≤ (t.st.fifo[fifoIdx d x.ch]).length
  · rw [Tile.xEnter_of_full hfull]
    rfl
  · rw [Tile.xEnter, if_neg hfull]

theorem Tile.overrun_addOver (t : Tile) (d : Side) (ch : Fin 8) : ((t.addOver d ch).status[sideNo d]).overrun.getLsbD ch.val = true := by
  simp only [Tile.addOver, Tile.addLost, getElem_set_fin, if_true, BitVec.getLsbD_or]
  rw [← BitVec.twoPow_eq, BitVec.getLsbD_twoPow]
  simp

theorem Tile.lost_addOver (t : Tile) (d : Side) (ch : Fin 8) :
    ((t.addOver d ch).status[sideNo d]).lost.toNat = min 0xffff ((t.status[sideNo d]).lost.toNat + 1) := by
  simp only [Tile.addOver, Tile.addLost, getElem_set_fin, if_true, BitVec.toNat_ofNat]
  omega

/-! ### Passes (08 R211) -/

/-- A beat as the passes sent in cue c leave it. -/
def HopBeat.latched (st : TState) (c : Nat) (b : HopBeat) : HopBeat :=
  match b.src with
  | .pass f =>
    if b.sent = c then
      { b with src := .val (if b.vec then (st.bufV[sideNo f]).extractLsb' (256 * b.beat) 256 else (st.bufS[sideNo f]).setWidth 256) }
    else b
  | .val _ => b

theorem TState.latchPasses_eq (st : TState) (c : Nat) : st.latchPasses c = { st with wires := st.wires.map (HopBeat.latched st c) } := rfl

/-- A tile as a cycle of its company ends. -/
def Tile.cycleEnded (c : Company) (t : Tile) : Tile :=
  { t with st := (if t.lost then t.st else t.st.flyReads c.cue).latchPasses c.cue }

theorem State.endCycle_of_one {s : State} {c : Company} (hc : s.carrying = [c]) : s.endCycle = s.mapTiles c.num (Tile.cycleEnded c) := by
  rw [State.endCycle, hc]
  rfl

end Sys2Proof.Machine

open Sys2Proof Sys2Proof.Machine
/-- Settles O46: beats and words land one after another, each where its side leads. -/
theorem fabricEvents : Obligations.FabricEvents := by
  unfold Obligations.FabricEvents
  refine ⟨fun s k h d ch hs => ⟨atTile_here hs _, ?_, ?_, ?_, ?_, ?_⟩, fun st t d b v x => ⟨?_, ?_, ?_, ?_⟩, fun st c i b hb => ?_, fun s c k t hc ht hk => ?_⟩
  · refine ⟨_, atTile_here hs _, fun g u hu hg => ?_⟩
    rw [State.tileAt_foldl_signals, Here.put_tileAt_other hs _ hg, hu]
    refine ⟨_, rfl, fun j => ?_⟩
    rw [Tile.getLsbD_heard, State.tileAt_key hu, List.any_filter]
  · obtain ⟨_, ht, _, _⟩ := State.hereAt_parts hs
    refine ⟨_, _, atTile_here hs _, (State.tileAt_foldl_signals k k _ _).trans (by rw [Here.put_tileAt_self hs]; rfl), ?_, fun j => ?_⟩
    · rw [Tile.heard_signals]
    · rw [Tile.getLsbD_heard, List.any_filter, State.tileAt_key ht]
      simp
  · obtain ⟨t, ht⟩ : ∃ t, exec (.hopBeatLanding k) s = .next t := ⟨_, exec_hopBeatLanding hs⟩
    have all (hall : ∀ b ∈ h.st.wires, b.sent < h.cue) := Host.Outcome.next.inj (ht.symm.trans (exec_hopBeatLanding_all hs hall))
    refine ⟨t, ht, ?_, ?_, ?_⟩
    · intro a b n m u w hw ha hb hn hm hnk hmk hu hwm s0
      have ku : u.key = n := State.tileAt_key hu
      have first : State.beatLands h.gang k (h.put { h.st with wires := [] }) a = s0 :=
        State.beatLands_of_tile hn (by rw [Here.put_tileAt_other hs _ hnk, hu])
      rw [all (by simp [hw, ha, hb]), hw, List.foldl_cons, List.foldl_cons, List.foldl_nil, first]
      refine ⟨fun hnm => ?_, fun hnm => ?_⟩
      · subst hnm
        exact State.beatLands_of_tile hm (State.tileAt_setTile_self (u := { u with st := u.st.landBeat (facing a.side) a })
          ku (by rw [Here.put_tileAt_other hs _ hnk, hu]))
      · exact State.beatLands_of_tile hm ((State.tileAt_setTile_other (u := { u with st := u.st.landBeat (facing a.side) a })
          (ku.trans_ne hnm)).trans ((Here.put_tileAt_other hs _ hmk).trans hwm))
    · intro b n u hw hb hn hnk hu
      rw [all (by simp [hw, hb]), hw]
      exact State.beatLands_of_tile hn (by rw [Here.put_tileAt_other hs _ hnk, hu])
    · intro b hw hb hn
      rw [all (by simp [hw, hb]), hw]
      exact State.beatLands_off hn
  · obtain ⟨t, ht⟩ : ∃ t, exec (.crossingBeatArrival k) s = .next t := ⟨_, atTile_here hs _⟩
    have all (hr : h.st.replay = []) (hall : ∀ x ∈ h.st.xwords, x.arrive ≤ h.cue) :=
      Host.Outcome.next.inj (ht.symm.trans (exec_crossingBeatArrival_all hs hr hall))
    refine ⟨t, ht, ?_, ?_, ?_, ?_⟩
    · intro y x hr hx
      exact Host.Outcome.next.inj (ht.symm.trans (exec_crossingBeatArrival_replay hs hr hx))
    · intro x y c e u hr hw hx hy s0 hc hck hu s1 he hep
      have first : State.wordArrives h.gang k s0 x = s1 :=
        State.wordArrives_of_crossing hc (by rw [Here.put_tileAt_other hs _ hck, hu])
      rw [all hr (by simp [hw, hx, hy]), hw, List.foldl_cons, List.foldl_cons, List.foldl_nil, first]
      refine State.wordArrives_of_crossing he ?_
      rw [hep]
      exact State.tileAt_setTile_self (t := u) ((Tile.xEnter_key _ _ _).trans (State.tileAt_key hu)) (by rw [Here.put_tileAt_other hs _ hck, hu])
    · intro x c u hr hw hx hc hck hu
      rw [all hr (by simp [hw, hx]), hw]
      exact State.wordArrives_of_crossing hc (by rw [Here.put_tileAt_other hs _ hck, hu])
    · intro x n u hr hw hx hc hn hnk hu
      rw [all hr (by simp [hw, hx]), hw]
      exact State.wordArrives_of_stitch hc hn (by rw [Here.put_tileAt_other hs _ hnk, hu])
  · obtain ⟨t, ht⟩ : ∃ t, exec (.crossingWordLost k d ch) s = .next t := ⟨_, atTile_here hs _⟩
    refine ⟨t, ht, ?_, ?_⟩
    · rintro x c u hw rfl rfl hc hck hu
      exact Host.Outcome.next.inj (ht.symm.trans (exec_crossingWordLost hs hw (by rw [hc]; rfl) hck hu))
    · rintro x n u hw rfl rfl hc hn hnk hu
      exact Host.Outcome.next.inj (ht.symm.trans (exec_crossingWordLost hs hw (by rw [hc, hn]; rfl) hnk hu))
  · intro hb hvec
    simp only [TState.landBeat, hb, hvec]
    rfl
  · intro hb hvec hbeat i hi
    simp only [TState.landBeat, hb, hvec, if_true, getElem_set_fin, lane_ofLanes _ hi]
  · intro hlt
    rw [Tile.xEnter, if_neg (Nat.not_le.mpr hlt)]
    exact ⟨rfl, rfl⟩
  · intro hle
    rw [Tile.xEnter_of_full hle]
    refine ⟨rfl, ?_, ?_, rfl⟩
    · exact Tile.overrun_addOver _ _ _
    · exact Tile.lost_addOver _ _ _
  · intro u
    have here : u.wires[i]? = some (b.latched st c) := by
      show (st.latchPasses c).wires[i]? = _
      rw [TState.latchPasses_eq, List.getElem?_map, hb]
      rfl
    refine ⟨rfl, List.length_map _, ?_, fun hstay => here.trans (congrArg some ?_)⟩
    · intro f hf hc v
      rw [here, HopBeat.latched, hf]
      simp only [hc, if_true]
      rfl
    · rcases hstay with ⟨v, hv⟩ | hne
      · rw [HopBeat.latched, hv]
      · cases hsrc : b.src with
        | val v => rw [HopBeat.latched, hsrc]
        | pass f => rw [HopBeat.latched, hsrc]; exact if_neg hne
  · rw [State.endCycle_of_one hc, State.tileAt_mapTiles (f := Tile.cycleEnded c) (fun _ => rfl), ht]
    have mine : t.key.co = c.num := by rw [State.tileAt_key ht, hk]
    exact ⟨_, rfl, by simp only [mine, if_true]; rfl⟩
end

section
/-! SUPPORT. Deck memory: what a performed write leaves, what a read of it marks (10 R267, R269; 13 R332). -/
namespace Sys2Proof.Machine

/-! ### Bytes written and read back -/

theorem length_leBytes (n x : Nat) : (leBytes n x).length = n := by
  induction n generalizing x with
  | zero => rfl
  | succ n ih => rw [leBytes, List.length_cons, ih]

theorem leNat_leBytes (n x : Nat) : leNat (leBytes n x) = x % 256 ^ n := by
  induction n generalizing x with
  | zero => rw [Nat.pow_zero, Nat.mod_one]; rfl
  | succ n ih =>
    have digits : x % 256 ^ (n + 1) = x % 256 + 256 * (x / 256 % 256 ^ n) := by rw [Nat.pow_succ', Nat.mod_mul]
    rw [leBytes, leNat, ih, BitVec.toNat_ofNat, digits]

theorem mem_cellsAt {c : Host.Cell} {bs : List Byte} : ∀ {a : Nat}, c ∈ cellsAt a bs → a ≤ c.1 ∧ c.1 < a + bs.length := by
  induction bs with
  | nil => intro a h; exact absurd h List.not_mem_nil
  | cons b bs ih =>
    intro a h
    rw [cellsAt, List.mem_cons] at h
    rw [List.length_cons]
    rcases h with rfl | h
    · exact ⟨le_rfl, by omega⟩
    · have := ih h
      omega

/-- Bytes written from an address upward are read back there. -/
theorem memBytes_putAll_cellsAt (bs : List Byte) : ∀ {m : Memory} {a : Nat}, memWf m = true →
    memBytes (memPutAll m (cellsAt a bs)) a bs.length = bs := by
  induction bs with
  | nil => exact fun _ => rfl
  | cons b bs ih =>
    intro m a hm
    have wf := memWf_put a b hm
    have first : memGet (memPutAll (memPut m a b) (cellsAt (a + 1) bs)) a = b := by
      rw [memGet_putAll_other a _ wf (fun c hc => by have := mem_cellsAt hc; omega), memGet_put hm, if_pos rfl]
    rw [cellsAt, memPutAll, List.length_cons, memBytes, first, ih wf]

theorem memNat_putAll_leBytes {m : Memory} (hm : memWf m = true) (a n x : Nat) :
    memNat (memPutAll m (cellsAt a (leBytes n x))) a n = x % 256 ^ n := by
  have read := memBytes_putAll_cellsAt (leBytes n x) (a := a) hm
  rw [length_leBytes] at read
  rw [memNat, read, leNat_leBytes]

/-! ### A write performed (10 R269) -/

theorem Coh.le_refl (a : Coh) : a.le a = true := by simp [Coh.le]

theorem Coh.zero_le (a : Coh) : (⟨0, 0, 0, 0⟩ : Coh).le a = true := by
  have split (n : Nat) : decide (0 < n) = false → n = 0 := by simp
  simp only [Coh.le, Bool.or_eq_true, Bool.and_eq_true, decide_eq_true_eq, beq_iff_eq, Nat.zero_le, and_true]
  omega

theorem State.ordOf_le {s : State} {ord : Coh} (h : ∀ p ∈ s.memOrd, p.2.le ord = true) (a : Nat) : (s.ordOf a).le ord = true := by
  unfold State.ordOf
  cases hf : s.memOrd.find? fun p => p.1 == a with
  | none => exact Coh.zero_le ord
  | some p => exact h p (List.mem_of_find?_eq_some hf)

/-- Bytes of the latest place all stand, in their order. -/
theorem State.performBytes_mem {ord : Coh} (cs : List Host.Cell) : ∀ s : State, (∀ p ∈ s.memOrd, p.2.le ord = true) →
    (cs.foldl (fun s c => s.performByte ord c) s).mem = memPutAll s.mem cs := by
  induction cs with
  | nil => exact fun _ _ => rfl
  | cons c cs ih =>
    intro s h
    have stands : s.performByte ord c =
        { s with mem := memPut s.mem c.1 c.2, memOrd := (c.1, ord) :: s.memOrd.filter fun p => p.1 != c.1 } := if_pos (State.ordOf_le h c.1)
    rw [List.foldl_cons, stands, ih]
    · rfl
    · simp only [List.forall_mem_cons]
      exact ⟨Coh.le_refl ord, fun p hp => h p (List.mem_of_mem_filter hp)⟩

theorem State.perform_mem {s : State} {ord : Coh} {cs : List Host.Cell} (hord : ∀ p ∈ s.memOrd, p.2.le ord = true)
    (hhole : ∀ c ∈ cs, s.hole c.1 = false) : (s.perform ord cs).mem = memPutAll s.mem cs := by
  have all : cs.filter (fun c => !s.hole c.1) = cs := List.filter_eq_self.mpr fun c hc => by rw [hhole c hc]; rfl
  rw [State.perform, all]
  exact State.performBytes_mem cs s hord

/-- The machine with deck memory, its places and its blocks' marks another. -/
def State.MemoryOf (s t : State) : Prop :=
  ∃ mem memOrd written poison, t = { s with mem := mem, memOrd := memOrd, written := written, poison := poison }

theorem State.performBytes_memoryOf (ord : Coh) (cs : List Host.Cell) : ∀ s : State,
    s.MemoryOf (cs.foldl (fun s c => s.performByte ord c) s) := by
  induction cs with
  | nil => exact fun s => ⟨_, _, _, _, rfl⟩
  | cons c cs ih =>
    intro s
    obtain ⟨m, o, w, p, h⟩ := ih (s.performByte ord c)
    rw [List.foldl_cons, h]
    unfold State.performByte
    split <;> exact ⟨_, _, _, _, rfl⟩

/-- A write performed leaves the rest of the machine as it was. -/
theorem State.perform_memoryOf (s : State) (ord : Coh) (cs : List Host.Cell) : s.MemoryOf (s.perform ord cs) := by
  obtain ⟨m, o, w, p, h⟩ := State.performBytes_memoryOf ord (cs.filter fun c => !s.hole c.1) s
  exact ⟨m, o, _, _, by rw [State.perform, h]⟩

theorem State.MemoryOf.tileAt {s t : State} (h : s.MemoryOf t) (k : TileKey) : t.tileAt k = s.tileAt k := by
  obtain ⟨m, o, w, p, rfl⟩ := h
  rfl

/-! ### A read marked (13 R332) -/

/-- The machine with the status words of some sites marked by reads of fresh blocks. -/
def State.Marked (s t : State) : Prop :=
  t = { s with sites := t.sites } ∧ ∀ n : SiteId, ∃ b c, t.sites[n] = { s.sites[n] with freshRd := b, freshCo := c }

theorem State.Marked.refl (s : State) : s.Marked s := ⟨rfl, fun _ => ⟨_, _, rfl⟩⟩

theorem State.Marked.trans {s t u : State} (h : s.Marked t) (h' : t.Marked u) : s.Marked u := by
  obtain ⟨e, hs⟩ := h
  obtain ⟨e', hs'⟩ := h'
  refine ⟨?_, fun n => ?_⟩
  · rw [e', e]
  · obtain ⟨b, c, hn⟩ := hs n
    obtain ⟨b', c', hn'⟩ := hs' n
    exact ⟨b', c', by rw [hn', hn]⟩

theorem State.setSite_marked (s : State) (i : SiteId) (b : Bool) (f : Site → BitVec 16) :
    s.Marked (s.setSite i fun x => { x with freshRd := b, freshCo := f x }) := by
  refine ⟨rfl, fun n => ?_⟩
  by_cases hn : n = i
  · subst hn
    exact ⟨_, _, State.setSite_self _ _ _⟩
  · exact ⟨_, _, State.setSite_other _ _ _ _ hn⟩

/-- A read of fresh blocks marks their sites, and does nothing else. -/
theorem State.freshRead_marked (s : State) (c : Option Company) (who : BitVec 16) (a n : Nat) : s.Marked (s.freshRead c who a n) := by
  unfold State.freshRead
  induction blockRange a n generalizing s with
  | nil => exact State.Marked.refl s
  | cons b bs ih =>
    rw [List.foldl_cons]
    refine State.Marked.trans ?_ (ih _)
    cases winSite (64 * b) with
    | none => exact State.Marked.refl s
    | some i =>
      simp only
      split
      · exact State.setSite_marked s i true _
      · exact State.Marked.refl s

theorem State.Marked.tileAt {s t : State} (h : s.Marked t) (k : TileKey) : t.tileAt k = s.tileAt k := by
  obtain ⟨e, _⟩ := h
  rw [e]
  rfl

theorem State.Marked.mem {s t : State} (h : s.Marked t) : t.mem = s.mem := by
  obtain ⟨e, _⟩ := h
  rw [e]

theorem State.Marked.poisoned {s t : State} (h : s.Marked t) (a n : Nat) : t.poisoned a n = s.poisoned a n := by
  obtain ⟨e, _⟩ := h
  rw [e]
  rfl

/-- What is marked as read is no hole for it, nor the less one. -/
theorem State.Marked.siteHole {s t : State} (h : s.Marked t) (n : SiteId) : t.siteHole n = s.siteHole n := by
  obtain ⟨e, hs⟩ := h
  have shown (m : SiteId) : (t.sites[m]).state = (s.sites[m]).state ∧ (t.sites[m]).epoch = (s.sites[m]).epoch ∧
      (t.sites[m]).regions = (s.sites[m]).regions ∧ (t.sites[m]).lossAt = (s.sites[m]).lossAt := by
    obtain ⟨b, c, hm⟩ := hs m
    rw [hm]
    exact ⟨rfl, rfl, rfl, rfl⟩
  obtain ⟨hstate, hepoch, hregions, hloss⟩ := shown n
  have anchor : t.anchor n = s.anchor n := by simp only [State.anchor, State.railLive, hregions]
  have changes : t.changes = s.changes := by rw [e]
  have cue : t.cue = s.cue := by rw [e]
  simp only [State.siteHole, State.ownView, State.siteView_eq, anchor, changes, hstate, hepoch, State.pastLoss, State.lossOf, hloss, cue]

theorem State.Marked.hole {s t : State} (h : s.Marked t) (a : Nat) : t.hole a = s.hole a := by
  simp only [State.hole, h.siteHole]

end Sys2Proof.Machine
end

section
/-! SUPPORT. Units on loan given back (01 R31, 07 R177): which units ranges touch, what a return leaves. -/
namespace Sys2Proof.Machine

/-! ### Units of ranges and of commands -/

theorem mem_spanUnits {p : Span} {u : Nat} : u ∈ spanUnits p ↔ p.2 ≠ 0 ∧ p.1 / 4096 ≤ u ∧ u ≤ (p.1 + p.2 - 1) / 4096 := by
  unfold spanUnits
  by_cases hn : p.2 = 0
  · simp [hn]
  · simp only [hn, if_false, List.mem_map, List.mem_range, ne_eq, not_false_eq_true, true_and]
    constructor
    · rintro ⟨j, hj, rfl⟩
      have : p.1 / 4096 ≤ (p.1 + p.2 - 1) / 4096 := Nat.div_le_div_right (by omega)
      omega
    · rintro ⟨hlo, hhi⟩
      exact ⟨u - p.1 / 4096, by omega, by omega⟩

theorem mem_unitsOf {ps : List Span} {u : Nat} : u ∈ unitsOf ps ↔ ∃ p ∈ ps, u ∈ spanUnits p := by
  simp only [unitsOf, List.mem_eraseDups, List.mem_flatten, List.mem_map, exists_exists_and_eq_and]

/-- The units that some commands name are those that one of them names. -/
theorem mem_unitsOf_flatten {α : Type} {l : List α} {f : α → List Span} {u : Nat} :
    u ∈ unitsOf (l.map f).flatten ↔ ∃ x ∈ l, u ∈ unitsOf (f x) := by
  simp only [mem_unitsOf, List.mem_flatten, List.mem_map, exists_exists_and_eq_and]
  constructor
  · rintro ⟨p, ⟨x, hx, hp⟩, hu⟩
    exact ⟨x, hx, p, hp, hu⟩
  · rintro ⟨x, hx, p, hp, hu⟩
    exact ⟨p, ⟨x, hx, hp⟩, hu⟩

theorem unitsOf_append {ps qs : List Span} {u : Nat} : u ∈ unitsOf (ps ++ qs) ↔ u ∈ unitsOf ps ∨ u ∈ unitsOf qs := by
  simp only [mem_unitsOf, List.mem_append, or_and_right, exists_or]

/-! ### What a return leaves -/

/-- Entries of a vector replaced one after another by what a function makes of each: done once or more, `f` being idempotent, it is as done once. -/
theorem getElem_foldl_set {f : Byte → Byte} (hf : ∀ b, f (f b) = f b) (us : List Nat) (o : Vector Byte 256) (u : Fin 256) :
    (us.foldl (fun o u => if h : u < 256 then o.set u (f o[u]) else o) o)[u] = if u.val ∈ us then f o[u] else o[u] := by
  induction us generalizing o with
  | nil => simp
  | cons x us ih =>
    rw [List.foldl_cons, ih]
    by_cases hx : x < 256
    · rw [dif_pos hx]
      have entry : (o.set x (f o[x]) hx)[u] = if u.val = x then f o[u] else o[u] := by
        rw [getElem_set_fin o ⟨x, hx⟩ u]
        by_cases hu : u.val = x
        · rw [if_pos (Fin.ext hu), if_pos hu]
          subst hu
          rfl
        · rw [if_neg (fun e => hu (congrArg Fin.val e)), if_neg hu]
      rw [entry]
      by_cases hu : u.val = x
      · simp [hu, hf]
      · simp [hu]
    · have hu : u.val ≠ x := by have := u.isLt; omega
      rw [dif_neg hx]
      simp [hu]

theorem TState.own_returnUnits (st : TState) (us : List Nat) (poison : Bool) (u : Fin 256) :
    (st.returnUnits us poison).own[u] = if u.val ∈ us then (if poison then 0x10 else st.own[u] &&& 0x10) else st.own[u] :=
  getElem_foldl_set (f := fun b => if poison then 0x10 else b &&& 0x10) (fun b => by cases poison <;> simp [BitVec.and_assoc]) us st.own u

/-- Units marked POISON (01 R31). -/
def TState.poisonUnits (st : TState) (us : List Nat) : TState :=
  { st with own := us.foldl (fun o u => if h : u < 256 then o.set u (o[u] ||| 0x10) else o) st.own }

theorem TState.own_poisonUnits (st : TState) (us : List Nat) (u : Fin 256) :
    (st.poisonUnits us).own[u] = if u.val ∈ us then st.own[u] ||| 0x10 else st.own[u] :=
  getElem_foldl_set (f := fun b => b ||| 0x10) (fun b => by simp [BitVec.or_assoc]) us st.own u

/-- The units of a command that its engine still owns. -/
def TState.mine (st : TState) (code : Nat) (us : List Nat) : List Nat := us.filter fun u => st.owner u == code

theorem TState.mem_mine {st : TState} {code u : Nat} {us : List Nat} : u ∈ st.mine code us ↔ u ∈ us ∧ st.owner u = code := by
  simp only [TState.mine, List.mem_filter, beq_iff_eq]

theorem TState.giveBack_eq (st : TState) (code : Nat) (us : List Nat) (poison : Bool) : st.giveBack code us poison =
    (if poison then st.poisonUnits (st.mine code us) else st).returnUnits
      ((st.mine code us).filter fun u => !(st.unitsHeld code).contains u) false := by
  cases poison <;> rfl

theorem TState.giveBack_only (st : TState) (code : Nat) (us : List Nat) (poison : Bool) :
    st.giveBack code us poison = { st with own := (st.giveBack code us poison).own } := by
  cases poison <;> rfl

theorem or_and_poison : ∀ b : Byte, (b ||| 0x10) &&& 0x10 = 0x10 := by decide

/-- What a return leaves in a unit's owner byte. -/
theorem TState.own_giveBack (st : TState) (code : Nat) (us : List Nat) (poison : Bool) (u : Fin 256) :
    (st.giveBack code us poison).own[u] =
      if u.val ∈ us ∧ st.owner u.val = code then
        if u.val ∈ st.unitsHeld code then st.own[u] ||| (if poison then 0x10 else 0)
        else if poison then 0x10 else st.own[u] &&& 0x10
      else st.own[u] := by
  have named : u.val ∈ (st.mine code us).filter (fun u => !(st.unitsHeld code).contains u) ↔
      (u.val ∈ us ∧ st.owner u.val = code) ∧ u.val ∉ st.unitsHeld code := by
    simp [TState.mem_mine]
  have marked : (if poison then st.poisonUnits (st.mine code us) else st).own[u] =
      if u.val ∈ us ∧ st.owner u.val = code then st.own[u] ||| (if poison then 0x10 else 0) else st.own[u] := by
    cases poison with
    | false => simp
    | true => simp only [if_true, TState.own_poisonUnits, TState.mem_mine]
  rw [TState.giveBack_eq, TState.own_returnUnits, marked]
  simp only [named, Bool.false_eq_true, if_false]
  by_cases hmine : u.val ∈ us ∧ st.owner u.val = code
  · by_cases hheld : u.val ∈ st.unitsHeld code
    · rw [if_neg (fun h => h.2 hheld), if_pos hmine, if_pos hmine, if_pos hheld]
    · rw [if_pos ⟨hmine, hheld⟩, if_pos hmine, if_pos hmine, if_neg hheld]
      cases poison with
      | false => simp
      | true => exact or_and_poison _
  · rw [if_neg (fun h => hmine h.1), if_neg hmine, if_neg hmine]

/-- A return asks of a tile's state only its commands and its owners. -/
theorem TState.own_giveBack_congr {st st' : TState} {code : Nat} (us : List Nat) (poison : Bool) (hown : st.own = st'.own)
    (hheld : st.unitsHeld code = st'.unitsHeld code) : (st.giveBack code us poison).own = (st'.giveBack code us poison).own := by
  have owner (u : Nat) : st.owner u = st'.owner u := by rw [TState.owner, hown]; rfl
  have mine : st.mine code us = st'.mine code us := by simp only [TState.mine, owner]
  rw [TState.giveBack_eq, TState.giveBack_eq, mine, hheld]
  cases poison <;> simp only [TState.returnUnits, TState.poisonUnits, hown, if_true, if_false, Bool.false_eq_true]

theorem TState.settleBack_of_one {st : TState} {r : UnitReturn} (h : st.back = [r]) :
    st.settleBack = ({ st with back := [] } : TState).giveBack r.code r.units r.poison := by
  rw [TState.settleBack, h]
  rfl

theorem TState.settleBack_of_nil {st : TState} (h : st.back = []) : st.settleBack = st := by
  rw [TState.settleBack, h, List.foldl_nil, ← h]

end Sys2Proof.Machine
end

section
/-! SUPPORT. The memory side and the completion of fly and wheel commands (07 R185, R186, R196, R206); then O47. -/
namespace Sys2Proof.Machine

theorem atEngine_works {s : State} {k : TileKey} {h : Here} (hs : s.hereAt k = some h) (hw : h.works = true) (f : Here → State) :
    atEngine k f s = .next (f h) := by
  rw [atEngine, atTile_here hs, if_pos hw]

theorem Here.key_of_hereAt {s : State} {k : TileKey} {h : Here} (hs : s.hereAt k = some h) : h.t.key = k := by
  obtain ⟨_, ht, _, _⟩ := State.hereAt_parts hs
  exact State.tileAt_key ht

theorem Here.num_of_hereAt {s : State} {k : TileKey} {h : Here} (hs : s.hereAt k = some h) : h.co.num = k.co := by
  obtain ⟨_, _, hco, _⟩ := State.hereAt_parts hs
  exact State.coAt_num hco

/-- The first command of a list for which a test holds. -/
theorem find?_of_first {α : Type} {p : α → Bool} {l a b : List α} {c : α} (hl : l = a ++ c :: b) (ha : ∀ x ∈ a, p x = false)
    (hc : p c = true) : l.find? p = some c :=
  List.find?_eq_some_iff_append.mpr ⟨hc, a, b, hl, fun x hx => by rw [ha x hx]; rfl⟩

theorem find?_of_none {α : Type} {p : α → Bool} {l : List α} (h : ∀ x ∈ l, p x = false) : l.find? p = none :=
  List.find?_eq_none.mpr fun x hx => by rw [h x hx]; exact Bool.false_ne_true

theorem State.tileAt_setTile_some {s : State} {u : Tile} {g : TileKey} (w : Tile) (hu : s.tileAt g = some u) :
    ∃ v, (s.setTile w).tileAt g = some v := by
  rw [State.tileAt_setTile, hu]
  split <;> exact ⟨_, rfl⟩

/-! ### Reads of a company (11 R300, 13 R332) -/

theorem State.companyRead_marked {s : State} (c : Company) (p : RecPlace) {a n : Nat} (h : s.poisoned a n = false) :
    ∃ t, s.companyRead c p a n = (t, true) ∧ s.Marked t :=
  ⟨_, if_neg (by rw [h]; exact Bool.false_ne_true), s.freshRead_marked _ _ _ _⟩

/-- Rows none of which meets poison are read, one after another. -/
theorem State.readRows_marked (c : Company) (p : RecPlace) (rows : List XRow) : ∀ s : State, (∀ r ∈ rows, s.poisoned r.mem r.len = false) →
    ∃ t, rows.foldl (fun (x : State × Bool) r => if x.2 then x.1.companyRead c p r.mem r.len else x) (s, true) = (t, true) ∧ s.Marked t := by
  induction rows with
  | nil => exact fun s _ => ⟨s, rfl, State.Marked.refl s⟩
  | cons r rows ih =>
    intro s h
    rw [List.forall_mem_cons] at h
    obtain ⟨t, ht, hm⟩ := State.companyRead_marked c p h.1
    obtain ⟨u, hu, hm'⟩ := ih t fun x hx => by rw [hm.poisoned, h.2 x hx]
    refine ⟨u, ?_, hm.trans hm'⟩
    rw [List.foldl_cons, if_pos rfl, ht, hu]

/-! ### Fly (07 R185, R186) -/

theorem FlyCmd.due_iff {c : FlyCmd} {cue : Nat} : c.due cue = true ↔ c.point = false ∧ c.issued + c.w / 2 ≤ cue := by
  simp [FlyCmd.due]

theorem FlyCmd.due_eq_false_iff {c : FlyCmd} {cue : Nat} : c.due cue = false ↔ c.point = true ∨ cue < c.issued + c.w / 2 := by
  simp only [FlyCmd.due, Bool.and_eq_false_iff, Bool.not_eq_false', decide_eq_false_iff_not, Nat.not_le]

/-- The gated write of a fly command: the bytes of the scratchpad as the engine sees it (10 R281). -/
def State.flyWrite (s : State) (k : TileKey) (h : Here) (c : FlyCmd) : GWrite :=
  ⟨s.place0 (.company h.co.num) 0, h.t.site, h.t.region, none, (c.readTo h.st.engineSpad c.total).data, k, none⟩

/-- A tile whose fly command is another, or gone. -/
def Here.flown (h : Here) (c : FlyCmd) (x : Option FlyCmd) : Tile :=
  { h.t with st := { h.st with fly := x.elim (h.st.fly.erase c) fun x => h.st.fly.map fun y => if y = c then x else y } }

/-- The command that takes another's place stands in the tile. -/
theorem Here.mem_flown {h : Here} {c x : FlyCmd} (hc : c ∈ h.st.fly) : x ∈ (h.flown c (some x)).st.fly :=
  List.mem_map.mpr ⟨c, hc, if_pos rfl⟩

/-- The commands left as a write has read its rows: it goes with its memory point done, else it waits for it. -/
def FlyCmd.landedIn (c : FlyCmd) (st : TState) : List FlyCmd :=
  if c.point then st.fly.erase c else st.fly.map fun y => if y = c then { c.readTo st.spad c.total with landed := true } else y

section
variable {s : State} {k : TileKey} {h : Here} (hs : s.hereAt k = some h) {c : FlyCmd}
include hs

theorem State.flyPoint_write (hhole : s.siteHole c.site = false) (hwr : c.wr = true) : s.flyPoint k c =
    ({ s with nextOrd := s.nextOrd + 1 }.setCo { h.co with gateOpen := h.co.gateOpen ++
      [s.flyWrite k h c] }).setTile
      (h.flown c c.afterPoint) := by
  simp only [State.flyPoint, hs, hhole, hwr, Bool.false_eq_true, if_false, if_true, Here.flown]
  cases c.afterPoint <;> rfl

theorem State.flyPoint_read (hhole : s.siteHole c.site = false) (hwr : c.wr = false) : s.flyPoint k c =
    (c.rows.foldl (fun (x : State × Bool) r => if x.2 then x.1.companyRead h.co (h.s.placeOf h.t) r.mem r.len else x)
      (s.setTile (h.flown c (some { c with point := true, data := (c.rows.map fun r => cellsAt r.spad (s.companyBytes h.co r.mem r.len)).flatten })),
        true)).1 := by
  simp only [State.flyPoint, hs, hhole, hwr, Bool.false_eq_true, if_false]
  rfl

theorem State.flyPoint_hole (hhole : s.siteHole c.site = true) : s.flyPoint k c =
    (s.setTile (h.flown c (if c.wr then c.afterPoint else
      some { c with point := true, data := (c.rows.map fun r => cellsAt r.spad (List.replicate r.len 0)).flatten }))).noteHole h.co.num k c.addr := by
  simp only [State.flyPoint, hs, hhole, if_true, Here.flown]
  cases c.wr with
  | false => rfl
  | true => simp only [if_true]; cases c.afterPoint <;> rfl

theorem State.flyFinish_write (hwr : c.wr = true) : s.flyFinish k c =
    h.put (({ h.st with fly := c.landedIn h.st } : TState).giveBack ownFly (unitsOf (rowSpans c.rows)) false) := by
  simp only [State.flyFinish, hs, hwr, if_true]
  rfl

/-- A fly command's tile as its read completes. -/
def Here.flyRead (h : Here) (c : FlyCmd) (cells : List Host.Cell) : TState :=
  ({ h.st with fly := h.st.fly.erase c, spad := memPutAll h.st.spad cells } : TState).giveBack ownFly (unitsOf (rowSpans c.rows)) false

theorem State.flyFinish_read (hwr : c.wr = false) (hhole : s.siteHole c.site = false) : s.flyFinish k c = h.put (h.flyRead c c.data) := by
  simp only [State.flyFinish, hs, hwr, hhole, Bool.false_eq_true, if_false]
  rfl

theorem State.flyFinish_read_hole (hwr : c.wr = false) (hhole : s.siteHole c.site = true) :
    s.flyFinish k c = (h.put (h.flyRead c (c.data.map fun x => (x.1, 0)))).noteHole h.co.num k c.addr := by
  simp only [State.flyFinish, hs, hwr, hhole, Bool.false_eq_true, if_false, if_true]
  rfl

end

theorem Here.flyRead_only (h : Here) (c : FlyCmd) (cells : List Host.Cell) : h.flyRead c cells =
    { h.st with fly := h.st.fly.erase c, spad := memPutAll h.st.spad cells, own := (h.flyRead c cells).own } := by
  unfold Here.flyRead
  rw [TState.giveBack_only]

/-! ### The wheel (07 R196, R206) -/

theorem WheelCmd.due_iff {c : WheelCmd} {cue : Nat} : c.due cue = true ↔ c.res = none ∧ c.issued + c.w / 2 ≤ cue := by
  simp only [WheelCmd.due, Bool.and_eq_true, Option.isNone_iff_eq_none, decide_eq_true_eq]

theorem pointBefore_iff {a b : PointKey} : pointBefore a b = true ↔ a.1 < b.1 ∨ a.1 = b.1 ∧ (a.2.1 < b.2.1 ∨ a.2.1 = b.2.1 ∧ a.2.2 < b.2.2) := by
  simp only [pointBefore, Bool.or_eq_true, Bool.and_eq_true, decide_eq_true_eq, beq_iff_eq]

/-- A wheel command is performed now: its memory point has come, or that of one behind it on the same word. -/
theorem State.wheelNow_iff {s : State} {co : Company} {k : TileKey} {c : WheelCmd} : s.wheelNow co k c = true ↔
    c.res = none ∧ (c.issued + c.w / 2 ≤ co.cue ∨ ∃ t ∈ s.tiles, t.key.co = co.num ∧ t.lost = false ∧ ∃ d ∈ t.st.wheel,
      d.due co.cue = true ∧ d.addr = c.addr ∧ pointBefore (c.key k) (d.key t.key) = true) := by
  simp only [State.wheelNow, Bool.and_eq_true, Bool.or_eq_true, Option.isNone_iff_eq_none, WheelCmd.due_iff, List.any_eq_true,
    State.tilesOf, List.mem_filter, decide_eq_true_eq, Bool.not_eq_true', beq_iff_eq, and_assoc]
  constructor
  · rintro ⟨hres, ⟨_, hdue⟩ | hbehind⟩
    · exact ⟨hres, .inl hdue⟩
    · exact ⟨hres, .inr hbehind⟩
  · rintro ⟨hres, hdue | hbehind⟩
    · exact ⟨hres, .inl ⟨hres, hdue⟩⟩
    · exact ⟨hres, .inr hbehind⟩

/-- The word a wheel operation takes, as its company sees it. -/
def State.wheelWord (s : State) (h : Here) (c : WheelCmd) : W32 := BitVec.ofNat 32 (leNat (s.companyBytes h.co c.addr 4))

section
variable {s : State} {k : TileKey} {h : Here} (hs : s.hereAt k = some h) {c : WheelCmd}
include hs

theorem State.wheelPoint_hole (hhole : s.siteHole c.site = true) : s.wheelPoint k c = s.setTile (h.t.wheelDone c wheelNack) := by
  simp only [State.wheelPoint, hs, hhole, if_true]

/-- What an operation that is performed leaves: its word marked as read, its result in the tile, the new word written. -/
theorem State.wheelPoint_performed (hhole : s.siteHole c.site = false) (hread : c.op = .st ∨ s.poisoned c.addr 4 = false) :
    ∃ t, s.Marked t ∧ let u := t.setTile (h.t.wheelDone c ((s.wheelWord h c).setWidth 64))
      s.wheelPoint k c = (c.newWord (s.wheelWord h c)).elim u fun y => u.placeWrite (.company h.co.num) (cellsAt c.addr (leBytes 4 y.toNat)) := by
  obtain ⟨t, ht, hm⟩ : ∃ t, (if c.op = .st then (s, true) else s.companyRead h.co (s.placeOf h.t) c.addr 4) = (t, true) ∧ s.Marked t := by
    by_cases hst : c.op = .st
    · exact ⟨s, if_pos hst, State.Marked.refl s⟩
    · obtain ⟨t, ht, hm⟩ := State.companyRead_marked h.co (s.placeOf h.t) (hread.resolve_left hst)
      exact ⟨t, (if_neg hst).trans ht, hm⟩
  refine ⟨t, hm, ?_⟩
  simp only [State.wheelPoint, hs, hhole, Bool.false_eq_true, if_false, ht, if_true, State.wheelWord]
  cases c.newWord (BitVec.ofNat 32 (leNat (s.companyBytes h.co c.addr 4))) <;> rfl

theorem State.wheelPoint_tileAt (hhole : s.siteHole c.site = false) (hread : c.op = .st ∨ s.poisoned c.addr 4 = false) :
    (s.wheelPoint k c).tileAt k = some (h.t.wheelDone c ((s.wheelWord h c).setWidth 64)) := by
  obtain ⟨hss, ht, _, _⟩ := State.hereAt_parts hs
  obtain ⟨t, hm, hpoint⟩ := State.wheelPoint_performed hs hhole hread
  have done : (t.setTile (h.t.wheelDone c ((s.wheelWord h c).setWidth 64))).tileAt k = some (h.t.wheelDone c ((s.wheelWord h c).setWidth 64)) :=
    State.tileAt_setTile_self (Here.key_of_hereAt hs) ((hm.tileAt k).trans ht)
  rw [hpoint]
  cases c.newWord (s.wheelWord h c) with
  | none => exact done
  | some y => exact ((State.perform_memoryOf _ _ _).tileAt k).trans done

/-- An operation that writes nothing leaves memory. -/
theorem State.wheelPoint_mem_of_none (hhole : s.siteHole c.site = false) (hread : c.op = .st ∨ s.poisoned c.addr 4 = false)
    (hnew : c.newWord (s.wheelWord h c) = none) : (s.wheelPoint k c).mem = s.mem := by
  obtain ⟨t, hm, hpoint⟩ := State.wheelPoint_performed hs hhole hread
  rw [hpoint, hnew]
  exact hm.mem

/-- An operation whose place is the latest leaves its new word. -/
theorem State.wheelPoint_mem_of_some (hhole : s.siteHole c.site = false) (hread : c.op = .st ∨ s.poisoned c.addr 4 = false) {y : W32}
    (hnew : c.newWord (s.wheelWord h c) = some y) (hwf : memWf s.mem = true)
    (hord : ∀ p ∈ s.memOrd, p.2.le (s.place0 (.company h.co.num) 0) = true) (hpop : ∀ i < 4, s.hole (c.addr + i) = false) :
    memNat (s.wheelPoint k c).mem c.addr 4 = y.toNat := by
  obtain ⟨t, hm, hpoint⟩ := State.wheelPoint_performed hs hhole hread
  obtain ⟨e, _⟩ := id hm
  have written : (s.wheelPoint k c).mem = memPutAll s.mem (cellsAt c.addr (leBytes 4 y.toNat)) := by
    rw [hpoint, hnew, Option.elim_some, State.placeWrite, State.perform_mem]
    · show memPutAll t.mem _ = _
      rw [hm.mem]
    · show ∀ p ∈ t.memOrd, p.2.le (t.place0 (.company h.co.num) 0) = true
      rw [e]
      exact hord
    · intro x hx
      show t.hole x.1 = false
      obtain ⟨hlo, hhi⟩ := mem_cellsAt hx
      rw [length_leBytes] at hhi
      rw [hm.hole, show x.1 = c.addr + (x.1 - c.addr) by omega]
      exact hpop _ (by omega)
  rw [written, memNat_putAll_leBytes hwf, Nat.mod_eq_of_lt (show y.toNat < 256 ^ 4 from y.isLt)]

end

/-! ### Holes (07 R186) -/

/-- A tile of a company in which HOLE is pending. -/
def Tile.holed (k : TileKey) (a : Nat) (t : Tile) : Tile :=
  { t with pend := { t.pend with
      hole := true
      holeAddr := if t.key = k then some (t.pend.holeAddr.getD (BitVec.ofNat 48 a)) else t.pend.holeAddr } }

/-- A hole is noted in every tile of the company. -/
theorem State.tileAt_noteHole (s : State) (co : Nat) (k g : TileKey) (a : Nat) :
    (s.noteHole co k a).tileAt g = (s.tileAt g).map fun t => if t.key.co = co then t.holed k a else t :=
  State.tileAt_mapTiles (f := Tile.holed k a) (fun _ => rfl) s co g

theorem State.tileAt_noteHole_mine {s : State} {co : Nat} {k g : TileKey} {a : Nat} {t : Tile} (ht : s.tileAt g = some t) (hco : g.co = co) :
    (s.noteHole co k a).tileAt g = some (t.holed k a) := by
  rw [State.tileAt_noteHole, ht, Option.map_some, if_pos (by rw [State.tileAt_key ht, hco])]

end Sys2Proof.Machine
end

section
open Sys2Proof Sys2Proof.Machine
/-- Settles O47: the memory side and the completion of each command, and the units that go back. -/
theorem flyAndWheelEvents : Obligations.FlyAndWheelEvents := by
  unfold Obligations.FlyAndWheelEvents
  refine ⟨fun s k h hs hw => ?_, fun s k h hs hw => ?_, fun ps u => ?_, fun st code us poison => ?_, fun st u => ?_, fun st => ?_, fun s t ha hstop hp hstep => ?_⟩
  · have co_key := Here.num_of_hereAt hs
    have t_key := Here.key_of_hereAt hs
    obtain ⟨hss, ht, hco, _⟩ := State.hereAt_parts hs
    refine ⟨fun a c b hl ha hc hdue => ?_, fun hl => ?_, atEngine_works hs hw _, fun c hc hhole => ⟨fun hwr => ?_, fun hwr hpois => ?_, fun hwr => ?_⟩,
      fun c hc => ?_, fun c hc hhole => ?_⟩
    · have found : h.st.fly.find? (fun c => c.due h.cue) = some c :=
        find?_of_first hl (fun x hx => FlyCmd.due_eq_false_iff.mpr (ha x hx)) (FlyCmd.due_iff.mpr ⟨hc, hdue⟩)
      refine (atEngine_works hs hw _).trans ?_
      simp only [found]
    · have none_due : h.st.fly.find? (fun c => c.due h.cue) = none := find?_of_none fun x hx => FlyCmd.due_eq_false_iff.mpr (hl x hx)
      refine (atEngine_works hs hw _).trans ?_
      simp only [none_due]
    · rw [State.flyPoint_write hs hhole hwr]
      refine ⟨rfl, { h.co with gateOpen := h.co.gateOpen ++ [s.flyWrite k h c] }, s.flyWrite k h c, ?_, rfl, rfl, rfl, rfl⟩
      rw [State.setTile_coAt, State.coAt_setCo, if_pos co_key]
      show Option.map _ (s.coAt k.co) = _
      rw [hco]
      rfl
    · obtain ⟨t, hrows, hm⟩ := State.readRows_marked h.co (h.s.placeOf h.t) c.rows
        (s.setTile (h.flown c (some { c with point := true, data := (c.rows.map fun r => cellsAt r.spad (s.companyBytes h.co r.mem r.len)).flatten })))
        hpois
      rw [State.flyPoint_read hs hhole hwr, hrows]
      exact ⟨hm.mem, _, (hm.tileAt k).trans (State.tileAt_setTile_self t_key ht), Here.mem_flown hc⟩
    · rw [State.flyFinish_read hs hwr hhole, Here.put_tileAt_self hs]
      exact ⟨_, rfl, by rw [Here.flyRead_only], by rw [Here.flyRead_only]⟩
    · cases hwr : c.wr with
      | true =>
        rw [State.flyFinish_write hs hwr, Here.put_tileAt_self hs]
        exact ⟨_, rfl, rfl⟩
      | false =>
        cases hhole : s.siteHole c.site with
        | false =>
          rw [State.flyFinish_read hs hwr hhole, Here.put_tileAt_self hs]
          exact ⟨_, rfl, rfl⟩
        | true =>
          rw [State.flyFinish_read_hole hs hwr hhole, State.tileAt_noteHole_mine (Here.put_tileAt_self hs _) co_key.symm]
          exact ⟨_, rfl, rfl⟩
    · intro t
      have point : t = _ := State.flyPoint_hole hs hhole
      refine ⟨by rw [point]; rfl, by rw [point]; rfl, fun g u hu hg => ?_, ?_, fun hwr => ?_⟩
      · obtain ⟨v, hv⟩ := State.tileAt_setTile_some (h.flown c _) hu
        rw [point]
        exact ⟨_, State.tileAt_noteHole_mine hv (hg.trans co_key.symm), rfl⟩
      · rw [point]
        refine ⟨_, State.tileAt_noteHole_mine (State.tileAt_setTile_self t_key ht) co_key.symm, if_pos t_key, fun hwr => ?_⟩
        simp only [hwr, Bool.false_eq_true, if_false]
        exact Here.mem_flown hc
      · rw [State.flyFinish_read_hole hs hwr hhole, State.tileAt_noteHole_mine (Here.put_tileAt_self hs _) co_key.symm]
        exact ⟨_, rfl, by rw [Tile.holed, Here.flyRead_only]⟩
  · refine ⟨fun a c b hl ha hc => ?_, fun hl => ?_, fun c => ?_, fun c => ?_, ?_⟩
    · have found : h.st.wheel.find? (fun c => s.wheelNow h.co k c) = some c := find?_of_first hl ha hc
      refine (atEngine_works hs hw _).trans ?_
      simp only [found]
    · have none_now : h.st.wheel.find? (fun c => s.wheelNow h.co k c) = none := find?_of_none hl
      refine (atEngine_works hs hw _).trans ?_
      simp only [none_now]
    · simp only [State.wheelNow_iff, WheelCmd.due_iff, pointBefore_iff, WheelCmd.key, and_assoc]
    · intro x
      refine ⟨fun hhole => ?_, fun hhole hread => ⟨State.wheelPoint_tileAt hs hhole hread, fun hop => ?_, fun hop hx => ?_, fun hwf hord hpop => ⟨fun hop => ?_, fun hop => ?_, fun hop hx => ?_⟩⟩⟩
      · obtain ⟨_, ht, _, _⟩ := State.hereAt_parts hs
        rw [State.wheelPoint_hole hs hhole]
        exact ⟨rfl, State.tileAt_setTile_self (Here.key_of_hereAt hs) ht⟩
      · exact State.wheelPoint_mem_of_none hs hhole hread (by simp only [WheelCmd.newWord, hop])
      · refine State.wheelPoint_mem_of_none hs hhole hread ?_
        simp only [WheelCmd.newWord, hop]
        exact if_neg hx
      · refine State.wheelPoint_mem_of_some hs hhole hread ?_ hwf hord hpop
        rcases hop with hop | hop <;> simp only [WheelCmd.newWord, hop]
      · refine State.wheelPoint_mem_of_some hs hhole hread ?_ hwf hord hpop
        simp only [WheelCmd.newWord, hop]
        rfl
      · refine State.wheelPoint_mem_of_some hs hhole hread ?_ hwf hord hpop
        simp only [WheelCmd.newWord, hop]
        exact if_pos hx
    · refine ⟨_, atEngine_works hs hw _, fun c u b r hl hres hlat hdue hhole => ?_⟩
      simp only [hl, List.filter_cons, Option.isSome_some, Bool.true_and, decide_eq_true hdue, Bool.not_true, Bool.false_eq_true, if_true, if_false, List.filter_nil, List.foldl_cons,
        List.foldl_nil, hhole, hlat, hres, Option.getD_some]
      refine ⟨rfl, ?_, rfl, rfl⟩
      show (h.st.latS.set (latSIdx u b) r)[latSIdx u b] = r
      rw [getElem_set_fin, if_pos rfl]
  · simp only [mem_unitsOf, mem_spanUnits]
  · refine ⟨TState.giveBack_only _ _ _ _, fun u => ?_⟩
    show (_ → (st.giveBack code us poison).own[u] = _) ∧ (_ → _ → _ → (st.giveBack code us poison).own[u] = _) ∧
      (_ → _ → _ → (st.giveBack code us poison).own[u] = _)
    rw [TState.own_giveBack]
    refine ⟨fun hnot => if_neg fun h => ?_, fun hu hown hheld => ?_, fun hu hown hheld => ?_⟩
    · exact hnot.elim (fun hu => hu h.1) fun hown => hown h.2
    · rw [if_pos ⟨hu, hown⟩, if_pos hheld]
    · rw [if_pos ⟨hu, hown⟩, if_neg hheld]
  · refine ⟨?_, ?_, ?_, ?_⟩
    · simp only [TState.unitsHeld, if_true, mem_unitsOf_flatten, List.mem_filter, Bool.not_eq_true', and_assoc]
    · exact mem_unitsOf_flatten
    · exact mem_unitsOf_flatten
    · exact unitsOf_append.trans (or_congr mem_unitsOf_flatten mem_unitsOf_flatten)
  · exact ⟨TState.settleBack_of_nil, fun r => TState.settleBack_of_one⟩
  · have next : step s = .next s.advance := by simp only [step, ha]
    rw [Host.Outcome.next.inj (hstep.symm.trans next), State.advance, if_neg (by rw [hstop]; exact Bool.false_ne_true)]
    simp only [hp]
    exact ⟨trivial, rfl⟩
end

section
/-! SUPPORT. Copy entries (07 R188 to R191): what reads of memory leave, what an entry that completes leaves, accesses cut to a range. -/
namespace Sys2Proof.Machine

/-! ### Cells moved -/

theorem mem_cellsAt_memBytes {m : Memory} {n : Nat} {c : Host.Cell} : ∀ {a b : Nat},
    c ∈ cellsAt b (memBytes m a n) ↔ ∃ i < n, c = (b + i, memGet m (a + i)) := by
  induction n with
  | zero => intro a b; simp [memBytes, cellsAt]
  | succ n ih =>
    intro a b
    rw [memBytes, cellsAt, List.mem_cons, ih]
    constructor
    · rintro (rfl | ⟨i, hi, rfl⟩)
      · exact ⟨0, by omega, rfl⟩
      · exact ⟨i + 1, by omega, by rw [Nat.add_right_comm b 1 i, Nat.add_right_comm a 1 i]; rfl⟩
    · rintro ⟨i, hi, rfl⟩
      cases i with
      | zero => exact .inl rfl
      | succ i => exact .inr ⟨i, by omega, by rw [Nat.add_right_comm b 1 i, Nat.add_right_comm a 1 i]; rfl⟩

theorem mem_moveCells {m : Memory} {a b n : Nat} {c : Host.Cell} : c ∈ moveCells m a b n ↔ ∃ i < n, c = (b + i, memGet m (a + i)) :=
  mem_cellsAt_memBytes

/-! ### Reads of tables and of memory (10 R274, 11 R300, 13 R332) -/

/-- The machine with translations more in its buffers, and blocks marked as read. -/
def State.ReadOf (s t : State) : Prop := t = { s with xlate := t.xlate, sites := t.sites }

theorem State.ReadOf.trans {s t u : State} (h : s.ReadOf t) (h' : t.ReadOf u) : s.ReadOf u := by
  unfold State.ReadOf at *
  rw [h', h]

theorem State.Marked.readOf {s t : State} (h : s.Marked t) : s.ReadOf t := by
  obtain ⟨e, _⟩ := h
  unfold State.ReadOf
  rw [e]

theorem State.fill_readOf (xs : List XlateEntry) : ∀ s : State, s.ReadOf (s.fill xs) := by
  induction xs with
  | nil => exact fun _ => rfl
  | cons x xs ih => exact fun s => State.ReadOf.trans (t := s.fill1 x) rfl (ih _)

/-- Table entries all read: none met poison. -/
theorem State.walkerRead_readOf (c : Company) (p : RecPlace) (ws : List Nat) : ∀ s : State, (s.walkerRead c p ws).2 = true →
    s.ReadOf (s.walkerRead c p ws).1 := by
  induction ws with
  | nil => exact fun _ _ => rfl
  | cons a ws ih =>
    intro s h
    unfold State.walkerRead at h ⊢
    split at h
    · exact absurd h Bool.false_ne_true
    · next hp => rw [if_neg hp]; exact (s.freshRead_marked _ _ _ _).readOf.trans (ih _ h)

theorem Here.readTables_readOf {h : Here} {r : Reach} (hr : (h.readTables r).2 = true) : h.s.ReadOf (h.readTables r).1 :=
  (State.fill_readOf _ _).trans (State.walkerRead_readOf _ _ _ _ hr)

/-- A reach that read no table. -/
theorem Here.readTables_of_nil {h : Here} {r : Reach} (hw : r.walks = []) : h.readTables r = (h.s.fill r.fills, true) := by
  rw [Here.readTables, hw, State.walkerRead]

theorem State.ReadOf.tileAt {s t : State} (h : s.ReadOf t) (k : TileKey) : t.tileAt k = s.tileAt k := by rw [h]; rfl

theorem State.ReadOf.coAt {s t : State} (h : s.ReadOf t) (n : Nat) : t.coAt n = s.coAt n := by rw [h]; rfl

theorem State.ReadOf.poisoned {s t : State} (h : s.ReadOf t) (a n : Nat) : t.poisoned a n = s.poisoned a n := by rw [h]; rfl

/-- Pieces none of which meets poison are read, one after another. -/
theorem State.readPieces_readOf (h : Here) (ps : List (Piece × Place)) (s : State) (hp : ∀ a n, s.poisoned a n = false) :
    ∃ t, s.readPieces h ps = (t, true) ∧ s.ReadOf t := by
  unfold State.readPieces
  induction ps generalizing s with
  | nil => exact ⟨s, rfl, rfl⟩
  | cons p ps ih =>
    rw [List.foldl_cons]
    cases hq : p.2 with
    | deck pa =>
      obtain ⟨t, ht, hm⟩ := State.companyRead_marked h.co (h.s.placeOf h.t) (hp pa p.1.len)
      obtain ⟨u, hu, hr⟩ := ih t fun a n => by rw [hm.poisoned, hp]
      exact ⟨u, by simp only [if_true, ht, hu], hm.readOf.trans hr⟩
    | host port bus => exact ih s hp
    | fault c => exact ih s hp
    | hole => exact ih s hp

/-! ### An entry completes (07 R188, R189, R191) -/

/-- A report leaves all but the mailboxes. -/
theorem State.report_only (s : State) (c : Company) (rep : Bool) (slot : Nat) (w : W64) : s.report c rep slot w =
    { s with mbox := (s.report c rep slot w).mbox, mirror := (s.report c rep slot w).mirror, heldPosts := (s.report c rep slot w).heldPosts } := by
  unfold State.report
  split
  · split
    · unfold State.mbPost
      split <;> rfl
    · rfl
  · rfl

theorem State.report_tileAt (s : State) (c : Company) (rep : Bool) (slot : Nat) (w : W64) (k : TileKey) :
    (s.report c rep slot w).tileAt k = s.tileAt k := by
  rw [State.report_only]
  rfl

/-- A tile's state as an entry completes: its units to return, its flag. -/
def TState.acopyEnded (st : TState) (x : AcEntry) (store : Bool) (fault : Option (Nat × Nat)) : TState :=
  (st.giveBackLate ownAcopy (unitsOf (rowSpans x.rows)) fault.isSome).arrives (if fault.isSome then 9 else if store then 1 else 0)

theorem TState.acopyEnded_arrive (st : TState) (x : AcEntry) (store : Bool) (fault : Option (Nat × Nat)) :
    (st.acopyEnded x store fault).arrive = st.arrive ||| (if fault.isSome then 512#16 else if store then 2#16 else 1#16) := by
  cases fault <;> cases store <;> rfl

/-- A report leaves what it is about. -/
theorem Here.acopyEnd_eq (h : Here) (st : TState) (x : AcEntry) (store : Bool) (fault : Option (Nat × Nat)) :
    ∃ w, h.acopyEnd st x store fault = (h.put (st.acopyEnded x store fault)).report h.co x.rep x.rslot w := ⟨_, rfl⟩

theorem Here.acopyEnd_tileAt {h : Here} {k : TileKey} {t : Tile} (ht : h.s.tileAt k = some t) (hk : h.t.key = k) (st : TState) (x : AcEntry)
    (store : Bool) (fault : Option (Nat × Nat)) :
    (h.acopyEnd st x store fault).tileAt k = some { h.t with st := st.acopyEnded x store fault } := by
  obtain ⟨w, hw⟩ := h.acopyEnd_eq st x store fault
  rw [hw, State.report_tileAt]
  exact State.tileAt_setTile_self hk ht

theorem Here.acopyEnd_coAt (h : Here) (st : TState) (x : AcEntry) (store : Bool) (fault : Option (Nat × Nat)) (n : Nat) :
    (h.acopyEnd st x store fault).coAt n = h.s.coAt n := by
  obtain ⟨w, hw⟩ := h.acopyEnd_eq st x store fault
  rw [hw, State.report_only]
  rfl

theorem Here.acopyEnd_mem (h : Here) (st : TState) (x : AcEntry) (store : Bool) (fault : Option (Nat × Nat)) :
    (h.acopyEnd st x store fault).mem = h.s.mem := by
  obtain ⟨w, hw⟩ := h.acopyEnd_eq st x store fault
  rw [hw, State.report_only]
  rfl

/-- Store entries that complete leave the companies and deck memory. -/
theorem drainStores_keeps (k : TileKey) (fuel : Nat) : ∀ s : State,
    (∀ n, (drainStores k fuel s).coAt n = s.coAt n) ∧ (drainStores k fuel s).mem = s.mem := by
  induction fuel with
  | zero => exact fun s => ⟨fun _ => rfl, rfl⟩
  | succ fuel ih =>
    intro s
    unfold drainStores
    split
    · exact ⟨fun _ => rfl, rfl⟩
    · next h hs =>
      obtain ⟨hss, _, _, _⟩ := State.hereAt_parts hs
      split
      · exact ⟨fun _ => rfl, rfl⟩
      · split
        · refine ⟨fun n => ?_, ?_⟩
          · rw [(ih _).1, Here.acopyEnd_coAt, hss]
          · rw [(ih _).2, Here.acopyEnd_mem, hss]
        · exact ⟨fun _ => rfl, rfl⟩

/-! ### Pieces cut to a range of the stream -/

/-- A place some bytes on. -/
def Place.shift (d : Nat) : Place → Place
  | .deck pa => .deck (pa + d)
  | .host p u => .host p (u + d)
  | y => y

/-- What of a piece lies in a range of the stream. -/
def cutPiece (lo hi : Nat) (x : Piece × Place) : Piece × Place :=
  (⟨max lo x.1.pos, x.1.mem + (max lo x.1.pos - x.1.pos), x.1.spad + (max lo x.1.pos - x.1.pos),
    min hi (x.1.pos + x.1.len) - max lo x.1.pos⟩, x.2.shift (max lo x.1.pos - x.1.pos))

theorem mem_cutPieces {lo hi : Nat} {ps : List (Piece × Place)} {y : Piece × Place} : y ∈ cutPieces lo hi ps ↔
    ∃ x ∈ ps, max lo x.1.pos < min hi (x.1.pos + x.1.len) ∧ y = cutPiece lo hi x := by
  unfold cutPieces
  rw [List.mem_filterMap]
  refine exists_congr fun x => and_congr_right fun _ => ?_
  by_cases hlt : max lo x.1.pos < min hi (x.1.pos + x.1.len)
  · simp only [hlt, if_true, true_and, Option.some.injEq, eq_comm (b := y)]
    obtain ⟨q, place⟩ := x
    cases place <;> rfl
  · simp only [hlt, if_false, false_and, reduceCtorEq]

/-! ### The copy unit and the mailbox (07 R194, R197) -/

theorem exec_tileCopyStart {s : State} {k : TileKey} {h : Here} {c : CopyCmd} {r : List CopyCmd} (hs : s.hereAt k = some h)
    (hq : h.st.copyQ = c :: r) (hstart : c.start ≤ h.cue) (hout : c.out = none)
    (hbad : c.kind.readsWeights = true → s.weightBad.contains (s.weightBase h.t) = false) :
    exec (.tileCopyStart k) s = .next (h.put { h.st with copyQ := { c with out := some (h.copyCells c.kind) } :: r }) := by
  have clean : (c.kind.readsWeights && s.weightBad.contains (s.weightBase h.t)) = false := check_guarded hbad
  show execTileCopyStart k s = _
  simp only [execTileCopyStart, hs, hq, hstart, hout, clean, Option.isNone_none, and_self, if_true, Bool.false_eq_true, if_false]

theorem exec_tileCopyCompletion {s : State} {k : TileKey} {h : Here} {c : CopyCmd} {r : List CopyCmd} {cells : List Host.Cell}
    (hs : s.hereAt k = some h) (hq : h.st.copyQ = c :: r) (hout : c.out = some cells) (hfin : c.finish ≤ h.cue) :
    exec (.tileCopyCompletion k) s = .next (h.put ((({ h.st with copyQ := r, spad := memPutAll h.st.spad cells } : TState).giveBackLate ownCopy
      (unitsOf c.kind.spans) false).arrives 2)) := by
  show execTileCopyCompletion k s = _
  simp only [execTileCopyCompletion, hs, hq, hout, hfin, if_true]

theorem Tile.mbDone_st {t : Tile} {c : MbCmd} {r : List MbCmd} (hq : t.st.mbQ = c :: r) (cue : Nat) (v : Option W64) : (t.mbDone c cue v).st = { t.st with mbQ := r } := by
  show ({ t.st with mbQ := t.st.mbQ.erase c } : TState) = _
  rw [hq, List.erase_cons_head]

section
variable {s : State} {k : TileKey} {h : Here} {c : MbCmd} {r : List MbCmd} (hs : s.hereAt k = some h) (hw : h.works = true)
  (hq : h.st.mbQ = c :: r)
include hs hw hq

theorem exec_mailboxPut (hup : s.serviceUp = true) (hput : c.put = true) (hempty : (s.mb c.word).full = false) :
    exec (.mailboxPutPerformed k) s = .next ((s.setTile (h.t.mbDone c h.cue none)).mbSet c.word ⟨c.val, true⟩) := by
  refine (atEngine_works hs hw _).trans ?_
  simp only [hq, hput, hup, hempty, Bool.not_false, Bool.and_self, if_true]

theorem exec_mailboxPut_waits (hfull : (s.mb c.word).full = true) : exec (.mailboxPutPerformed k) s = .next s := by
  refine (atEngine_works hs hw _).trans ?_
  simp only [hq, hfull, Bool.not_true, Bool.and_false, Bool.false_eq_true, if_false]

/-- A tile whose get is done: the value in its latch, the wheel results issued before it gone from that latch, e4. -/
def Tile.mbGot (t : Tile) (c : MbCmd) (cue : Nat) (u : Slot) (b : Fin 4) (v : W64) : Tile :=
  let d := t.mbDone c cue (some v)
  { d with st := (({ d.st with latS := d.st.latS.set (latSIdx u b) v } : TState).yieldLatch cue c).arrives 4 }

theorem exec_mailboxGet {u : Slot} {b : Fin 4} (hup : s.serviceUp = true) (hget : c.put = false) (hlat : c.lat = some (u, b))
    (hfull : (s.mb c.word).full = true) (hdue : c.issued + 512 ≤ h.cue) : exec (.mailboxGetPerformed k) s = .next
      ((s.setTile (h.t.mbGot c h.cue u b (s.mb c.word).v)).mbSet c.word ⟨(s.mb c.word).v, false⟩) := by
  refine (atEngine_works hs hw _).trans ?_
  simp only [hq, hget, hup, hfull, hlat, decide_eq_true hdue, Bool.not_false, Bool.and_self, if_true]
  rfl

theorem exec_mailboxGet_waits (hempty : (s.mb c.word).full = false) : exec (.mailboxGetPerformed k) s = .next s := by
  refine (atEngine_works hs hw _).trans ?_
  simp only [hq, hempty, Bool.and_false, Bool.false_and, Bool.false_eq_true, if_false]

end

/-! ### Copy entries at their completion (07 R188, R191; 10 R275) -/

theorem usesHost_eq_true_iff {ps : List (Piece × Place)} : usesHost ps = true ↔ ∃ x ∈ ps, usesHost [x] = true := by
  simp only [usesHost, List.any_eq_true, List.mem_singleton, exists_eq_left]

theorem hostError_of_not_usesHost {ps : List (Piece × Place)} (h : usesHost ps = false) (f : Nat) : hostError ps f = none := by
  have nothing : ps.filter (fun x => usesHost [x]) = [] := List.filter_eq_nil_iff.mpr fun x hx hx' =>
    Bool.false_ne_true (h.symm.trans (usesHost_eq_true_iff.mpr ⟨x, hx, hx'⟩))
  simp only [hostError, nothing, List.getElem?_nil, Option.map_none, ite_self]

theorem mem_of_hostError {ps : List (Piece × Place)} {f p : Nat} (h : hostError ps f = some p) :
    ∃ q ∈ ps, usesHost [q] = true ∧ p = pageStart q.1.pos := by
  unfold hostError at h
  split at h
  · obtain ⟨q, hq, rfl⟩ := Option.map_eq_some_iff.mp h
    obtain ⟨hmem, hhost⟩ := List.mem_filter.mp (List.mem_of_getElem? hq)
    exact ⟨q, hmem, hhost, rfl⟩
  · exact absurd h (by simp)

theorem Here.hostDrawn_of_not_usesHost {h : Here} {ps : List (Piece × Place)} (hp : usesHost ps = false) : h.hostDrawn ps = h :=
  if_neg (by rw [hp]; exact Bool.false_ne_true)

/-- What the oldest load does, the draws of a host error made from `f` on: it ends at the error, at a hole, or with all its bytes; a page without a
mapping keeps it. -/
def Here.loadFrom (h : Here) (f : Nat) (x : AcEntry) (rest : List AcEntry) (r : Reach) : State :=
  match hostError r.good f with
  | some p => h.loadDo x rest r (some (3, p))
  | none => match r.bad with
    | some (p, .hole) => h.loadDo x rest r (some (2, pageStart p.pos))
    | some (_, .fault _) => h.s
    | _ => h.loadDo x rest r none

/-- What the oldest store does, likewise. -/
def Here.storeFrom (h : Here) (f : Nat) (x : AcEntry) (r : Reach) : State :=
  match hostError r.good f with
  | some p => h.storeDo x r (some (max x.pos p)) (.failed 3 (max x.pos p / 4096))
  | none => match r.bad with
    | some (p, .hole) => h.storeDo x r (some (pageStart p.pos)) (.failed 2 (max x.pos (pageStart p.pos) / 4096))
    | some (p, _) => h.storeDo x r (some (pageStart p.pos)) .waiting
    | none => h.storeDo x r none .gated

section
variable {h : Here} {f p : Nat} {x : AcEntry} {rest : List AcEntry} {r : Reach} {q : Piece}

theorem Here.loadFrom_error (he : hostError r.good f = some p) : h.loadFrom f x rest r = h.loadDo x rest r (some (3, p)) := by
  simp only [Here.loadFrom, he]

theorem Here.loadFrom_all (he : hostError r.good f = none) (hb : r.bad = none) : h.loadFrom f x rest r = h.loadDo x rest r none := by
  simp only [Here.loadFrom, he, hb]

theorem Here.loadFrom_hole (he : hostError r.good f = none) (hb : r.bad = some (q, .hole)) :
    h.loadFrom f x rest r = h.loadDo x rest r (some (2, pageStart q.pos)) := by
  simp only [Here.loadFrom, he, hb]

theorem Here.storeFrom_error (he : hostError r.good f = some p) :
    h.storeFrom f x r = h.storeDo x r (some (max x.pos p)) (.failed 3 (max x.pos p / 4096)) := by
  simp only [Here.storeFrom, he]

theorem Here.storeFrom_all (he : hostError r.good f = none) (hb : r.bad = none) : h.storeFrom f x r = h.storeDo x r none .gated := by
  simp only [Here.storeFrom, he, hb]

theorem Here.storeFrom_hole (he : hostError r.good f = none) (hb : r.bad = some (q, .hole)) :
    h.storeFrom f x r = h.storeDo x r (some (pageStart q.pos)) (.failed 2 (max x.pos (pageStart q.pos) / 4096)) := by
  simp only [Here.storeFrom, he, hb]

end

section
variable {s : State} {k : TileKey} {h : Here} {x : AcEntry} {e : SegEntry} (hs : s.hereAt k = some h) (hw : h.works = true)
  (he : h.segOf x.seg = some e) (hmark : x.mark = false) (hstage : x.stage = .waiting) (hland : h.st.storesTo (unitsOf (rowSpans x.rows)) = false)
include hs hw he hstage hland

theorem exec_acopyLoadCompletion {rest : List AcEntry} (hmark : x.mark = false) (hq : h.st.loadQ = x :: rest) :
    exec (.acopyLoadCompletion k) s = .next (if usesHost (h.reachOf e false x x.toRead).good && !s.serviceUp then s
      else (h.hostDrawn (h.reachOf e false x x.toRead).good).loadFrom s.free x rest (h.reachOf e false x x.toRead)) := by
  refine (atEngine_works hs hw _).trans ?_
  simp only [hq, he, hmark, hstage, hland, bne_self_eq_false, Bool.or_false, Bool.false_eq_true, if_false]
  rfl

theorem exec_acopyStoreCompletion (hq : h.st.storeNow = some x) :
    exec (.acopyStoreCompletion k) s = .next (if usesHost (h.reachOf e true x x.toWrite).good && !s.serviceUp then s
      else (h.hostDrawn (h.reachOf e true x x.toWrite).good).storeFrom s.free x (h.reachOf e true x x.toWrite)) := by
  refine (atEngine_works hs hw _).trans ?_
  simp only [hq, he, hstage, hland, bne_self_eq_false, Bool.or_false, Bool.false_eq_true, if_false]
  rfl

/-- A load at a page without a mapping is suspended there, the fault reported (10 R275). -/
theorem exec_acopyPageFault {rest : List AcEntry} {p : Piece} {c : Nat} (hmark : x.mark = false) (hq : h.st.loadQ = x :: rest)
    (hb : (h.reachOf e false x x.toRead).bad = some (p, .fault c)) (hr : (h.readTables (h.reachOf e false x x.toRead)).2 = true) :
    exec (.acopyPageFault k false) s = .next (({ h with s := (h.readTables (h.reachOf e false x x.toRead)).1 } : Here).put
      (h.st.restage false x.id (.suspended c (p.pos / 4096) s.pfNext)) |>.reportFault
        ⟨0, h.co.num, x.seg, c, p.page, 0, s.cue, k, .load, true⟩) := by
  have reach : h.reachLeft false x = h.reachOf e false x x.toRead := by
    simp only [Here.reachLeft, he, Option.map_some, Option.getD_some]
    rfl
  have fault : (h.reachLeft false x).fault = some (p, c) := by simp only [reach, Reach.fault, hb]
  have now : h.st.entryNow false = some x := by
    simp only [TState.entryNow, hq, hmark, Bool.false_eq_true, if_false]
  refine (atEngine_works hs hw _).trans ?_
  simp only [now, hstage, hland, fault, bne_self_eq_false, Bool.or_false, Bool.false_and, Bool.false_eq_true, if_false]
  rw [reach, hr]
  rfl

end

/-! ### What a load that is done leaves (07 R188, 10 R280) -/

/-- What a load has read once it is done. -/
def Here.gotAll (h : Here) (x : AcEntry) (r : Reach) : List (Nat × List Byte) :=
  x.got ++ (x.unread r x.total).map fun p => (p.1.pos, h.pieceBytes p)

/-- A tile's state with the bytes of a load in its scratchpad, the entry out of its queue. -/
def Here.loaded (h : Here) (x : AcEntry) (rest : List AcEntry) (r : Reach) : TState :=
  { h.st with loadQ := rest, spad := memPutAll h.st.spad (x.landing (h.gotAll x r) x.total) }

/-- A load that reads no table, and meets no poison, lands all it has read and completes. -/
theorem Here.loadDo_all {s : State} {k : TileKey} {h : Here} (hs : s.hereAt k = some h) {x : AcEntry} {rest : List AcEntry} {r : Reach}
    (hwalks : r.walks = []) (hpois : ∀ a n, s.poisoned a n = false) :
    ∃ t, s.ReadOf t ∧ h.loadDo x rest r none = ({ h with s := t } : Here).acopyEnd (h.loaded x rest r) x false none := by
  obtain ⟨hss, _, _, _⟩ := State.hereAt_parts hs
  have filled : s.ReadOf (h.s.fill r.fills) := by rw [hss]; exact State.fill_readOf _ _
  obtain ⟨t, ht, hr⟩ := State.readPieces_readOf h (x.unread r x.total) (h.s.fill r.fills) fun a n => by rw [filled.poisoned, hpois]
  refine ⟨t, filled.trans hr, ?_⟩
  simp only [Here.loadDo, Here.readTables_of_nil hwalks, Option.map_none, Option.getD_none, Bool.not_true, Bool.false_eq_true, if_false, ht]
  rfl

/-- An access not made yet that lies in a piece of deck memory is read there. -/
theorem Here.mem_gotAll {h : Here} {x : AcEntry} {r : Reach} {p q : Piece} {pa : Nat} (hp : p ∈ x.accesses) (hnew : ∀ g ∈ x.got, g.1 ≠ p.pos)
    (hend : p.pos + p.len ≤ x.total) (hlen : 0 < p.len) (hq : (q, .deck pa) ∈ r.good) (hlo : q.pos ≤ p.pos) (hhi : p.pos + p.len ≤ q.pos + q.len) :
    (p.pos, h.s.companyBytes h.co (pa + (p.pos - q.pos)) p.len) ∈ h.gotAll x r := by
  have unmade : p ∈ x.toRead := List.mem_filter.mpr ⟨hp, by
    simp only [AcEntry.made, Bool.false_eq_true, if_false, Bool.not_eq_true', List.any_eq_false, beq_iff_eq]
    exact hnew⟩
  have cut : cutPiece p.pos (min x.total (p.pos + p.len)) (q, .deck pa) =
      (⟨p.pos, q.mem + (p.pos - q.pos), q.spad + (p.pos - q.pos), p.len⟩, .deck (pa + (p.pos - q.pos))) := by
    simp only [cutPiece, Place.shift, max_eq_left hlo, min_eq_right hend, min_eq_left hhi, Nat.add_sub_cancel_left]
  have read : cutPiece p.pos (min x.total (p.pos + p.len)) (q, .deck pa) ∈ x.unread r x.total :=
    List.mem_flatMap.mpr ⟨p, unmade, mem_cutPieces.mpr ⟨_, hq, by
      simp only [max_eq_left hlo, min_eq_right hend, min_eq_left hhi]
      omega, rfl⟩⟩
  rw [cut] at read
  exact List.mem_append_right _ (List.mem_map.mpr ⟨_, read, rfl⟩)

/-! ### What a store leaves in the gate (07 R188, 09 R248, 10 R269) -/

/-- The port of host memory that a place lies on, and its address there or in deck memory. -/
def Place.port : Place → Option Nat
  | .host port _ => some port
  | _ => none

def Place.addr : Place → Nat
  | .deck pa => pa
  | .host _ bus => bus
  | _ => 0

/-- The gated write of a piece, some others of the same moment before it. -/
def Here.gateWrite (h : Here) (s : State) (x : AcEntry) (p : (Piece × Place) × Nat) : GWrite where
  ord := s.place0 (.company h.co.num) p.2
  site := h.t.site
  region := h.t.region
  host := p.1.2.port
  bytes := moveCells h.st.spad p.1.1.spad p.1.2.addr p.1.1.len
  tile := h.t.key
  entry := some x.id

def Here.gateWrites (h : Here) (s : State) (x : AcEntry) (r : Reach) (upto : Nat) : List GWrite :=
  (cutPieces x.pos upto r.good).zipIdx.map (h.gateWrite s x)

theorem Here.mem_gateWrites {h : Here} {s : State} {x : AcEntry} {r : Reach} {upto : Nat} {w : GWrite} : w ∈ h.gateWrites s x r upto →
    ∃ p ∈ r.good, max x.pos p.1.pos < min upto (p.1.pos + p.1.len) ∧ ∃ i, w = h.gateWrite s x (cutPiece x.pos upto p, i) := by
  intro hw
  obtain ⟨⟨y, i⟩, hy, rfl⟩ := List.mem_map.mp hw
  obtain ⟨p, hp, hlt, rfl⟩ := mem_cutPieces.mp (List.fst_mem_of_mem_zipIdx hy)
  exact ⟨p, hp, hlt, i, rfl⟩

theorem Here.exists_gateWrite {h : Here} {s : State} {x : AcEntry} {r : Reach} {upto : Nat} {p : Piece × Place} (hp : p ∈ r.good)
    (hlt : max x.pos p.1.pos < min upto (p.1.pos + p.1.len)) : ∃ i, h.gateWrite s x (cutPiece x.pos upto p, i) ∈ h.gateWrites s x r upto := by
  obtain ⟨i, hi⟩ := List.mem_iff_getElem?.mp (mem_cutPieces.mpr ⟨p, hp, hlt, rfl⟩)
  exact ⟨i, List.mem_map.mpr ⟨_, List.mem_zipIdx_iff_getElem?.mpr hi, rfl⟩⟩

/-- A byte of a piece within the range is among the bytes of its write. -/
theorem Here.mem_gateWrite_bytes {h : Here} {s : State} {x : AcEntry} {upto i j : Nat} {q : Piece} {place : Place}
    (hj : j < q.len) (hlo : x.pos ≤ q.pos + j) (hhi : q.pos + j < upto) (hplace : ∀ d, (place.shift d).addr = place.addr + d) :
    (place.addr + j, memGet h.st.spad (q.spad + j)) ∈ (h.gateWrite s x (cutPiece x.pos upto (q, place), i)).bytes := by
  refine mem_moveCells.mpr ⟨q.pos + j - max x.pos q.pos, ?_, ?_⟩
  · simp only [cutPiece]
    omega
  · simp only [cutPiece, hplace, Prod.mk.injEq]
    exact ⟨by omega, congrArg _ (by omega)⟩

/-- The bytes of a piece's write are bytes of the piece within the range. -/
theorem Here.of_mem_gateWrite_bytes {h : Here} {s : State} {x : AcEntry} {upto i : Nat} {q : Piece} {place : Place} {c : Host.Cell}
    (hc : c ∈ (h.gateWrite s x (cutPiece x.pos upto (q, place), i)).bytes) (hplace : ∀ d, (place.shift d).addr = place.addr + d) :
    ∃ j, j < q.len ∧ x.pos ≤ q.pos + j ∧ q.pos + j < upto ∧ c = (place.addr + j, memGet h.st.spad (q.spad + j)) := by
  obtain ⟨i', hi, rfl⟩ := mem_moveCells.mp hc
  simp only [cutPiece] at hi
  refine ⟨max x.pos q.pos - q.pos + i', by omega, by omega, by omega, ?_⟩
  simp only [cutPiece, hplace, Prod.mk.injEq]
  exact ⟨by omega, congrArg _ (by omega)⟩

/-- A tile one of whose stores is in the gate to its end. -/
def Here.stored (h : Here) (x : AcEntry) : Tile :=
  { h.t with st := { h.st with storeQ := h.st.storeQ.map fun y => if y.id = x.id then { x with pos := x.total, stage := .gated } else y } }

/-- A store that reads no table, and for all of which the quota has room, is in the gate to its end. -/
theorem Here.storeDo_all {s : State} {k : TileKey} {h : Here} (hs : s.hereAt k = some h) {x : AcEntry} {r : Reach} (hwalks : r.walks = [])
    (hpos : x.pos ≤ x.total) (hroom : (x.total - x.pos) + h.co.gateBytes h.t.site h.t.region ≤ h.co.quota h.t.site) :
    ∃ t, s.ReadOf t ∧ h.storeDo x r none .gated = drainStores h.t.key 32
      ((({ t with nextOrd := t.nextOrd + (h.gateWrites t x r x.total).length } : State).setCo
        { h.co with gateOpen := h.co.gateOpen ++ h.gateWrites t x r x.total }).setTile (h.stored x)) := by
  obtain ⟨hss, _, _, _⟩ := State.hereAt_parts hs
  have filled : s.ReadOf (h.s.fill r.fills) := by rw [hss]; exact State.fill_readOf _ _
  have fits : x.total ≤ x.pos + (h.co.quota h.t.site - h.co.gateBytes h.t.site h.t.region) := by omega
  refine ⟨_, filled, ?_⟩
  simp only [Here.storeDo, Here.readTables_of_nil hwalks, Option.getD_none, max_eq_right hpos, if_pos fits, Bool.not_true, Bool.false_eq_true,
    if_false, if_true]
  rfl

/-- A fault reported stands in the ring, with the next index. -/
theorem State.mem_reportFault (s : State) (r : PfReq) : { r with idx := s.pfNext, cue := s.cue, live := true } ∈ (s.reportFault r).pfReqs :=
  List.mem_filter.mpr ⟨List.mem_append_right _ (List.mem_singleton_self _), rfl⟩

/-- A mark that no older store waits behind leaves both queues. -/
theorem exec_qmarkCompletion {s : State} {k : TileKey} {h : Here} {m : AcEntry} {q : List AcEntry} (hs : s.hereAt k = some h) (hw : h.works = true)
    (hq : h.st.loadQ = m :: q) (hmark : m.mark = true) (holder : ∀ y ∈ h.st.storeQ, m.id ≤ y.id) (hscope : wide m.scope = false) :
    exec (.qmarkCompletion k) s = .next (drainStores k 32 (h.put { h.st with loadQ := q, storeQ := h.st.storeQ.filter fun y => y.id != m.id })) := by
  have none_older : h.st.storeQ.filter (fun x => decide (x.id < m.id)) = [] :=
    List.filter_eq_nil_iff.mpr fun y hy => by simpa using holder y hy
  refine (atEngine_works hs hw _).trans ?_
  simp only [hq, none_older, hmark, hscope, List.all_nil, Bool.not_false, Bool.true_or, Bool.and_self, if_true]

end Sys2Proof.Machine
end

section
open Sys2Proof Sys2Proof.Machine
/-- Settles O48: what each completion leaves, and what an entry that waits does. -/
theorem copyAndMailboxEvents : Obligations.CopyAndMailboxEvents := by
  unfold Obligations.CopyAndMailboxEvents
  refine ⟨fun s k h c r cells hs hq => ⟨fun hstart hout hbad => ?_, fun hout hfin => ?_⟩, fun s k h c r hs hw hq hup => ?_,
    fun s k h x rest e hs hw he hmark hstage hland => ⟨?_, ?_, ?_, ?_, ?_, ?_⟩, fun s k h x rest r hs hq hwalks hrep hdeck hpois => ?_,
    fun s k h x r hs hwalks hpos hroom hplaces => ?_⟩
  · exact exec_tileCopyStart hs hq hstart hout hbad
  · exact ⟨_, exec_tileCopyCompletion hs hq hout hfin, rfl, rfl, rfl, rfl⟩
  · refine ⟨fun hput hempty => ?_, fun _ hfull => exec_mailboxPut_waits hs hw hq hfull, fun u b hget hlat hfull hdue => ?_,
      fun _ hempty => exec_mailboxGet_waits hs hw hq hempty⟩
    · exact ⟨_, _, exec_mailboxPut hs hw hq hup hput hempty, rfl, rfl, Tile.mbDone_st hq _ _⟩
    · refine ⟨_, _, exec_mailboxGet hs hw hq hup hget hlat hfull hdue, rfl, rfl, ?_, rfl, ?_⟩
      · show (h.st.latS.set (latSIdx u b) (s.mb c.word).v)[latSIdx u b] = _
        rw [getElem_set_fin, if_pos rfl]
      · show h.st.mbQ.erase c = r
        rw [hq, List.erase_cons_head]
  · rintro r rfl hq ends goes
    have done := exec_acopyLoadCompletion hs hw he hstage hland hmark hq
    have goes_of (g : Here) (hg : exec (.acopyLoadCompletion k) s = .next (g.loadFrom s.free x rest (h.reachOf e false x x.toRead)))
        (hnone : hostError (h.reachOf e false x x.toRead).good s.free = none) : goes g :=
      ⟨fun hb => hg.trans (congrArg _ (Here.loadFrom_all hnone hb)), fun p hb => hg.trans (congrArg _ (Here.loadFrom_hole hnone hb))⟩
    refine ⟨fun hno => ?_, fun hhost hdown => ?_, fun hhost hup => ?_⟩
    · rw [hno, Bool.false_and, if_neg Bool.false_ne_true, Here.hostDrawn_of_not_usesHost hno] at done
      exact goes_of h done (hostError_of_not_usesHost hno _)
    · rwa [hhost, hdown, Bool.not_false, Bool.and_self, if_pos rfl] at done
    · rw [hhost, hup, Bool.not_true, Bool.and_false, if_neg Bool.false_ne_true] at done
      exact ⟨fun p hp => done.trans (congrArg _ (Here.loadFrom_error hp)), goes_of _ done⟩
  · rintro r rfl hq ends fails goes
    have done := exec_acopyStoreCompletion hs hw he hstage hland hq
    have goes_of (g : Here) (hg : exec (.acopyStoreCompletion k) s = .next (g.storeFrom s.free x (h.reachOf e true x x.toWrite)))
        (hnone : hostError (h.reachOf e true x x.toWrite).good s.free = none) : goes g :=
      ⟨fun hb => hg.trans (congrArg _ (Here.storeFrom_all hnone hb)),
        fun p hb => ⟨_, rfl, hg.trans (congrArg _ (Here.storeFrom_hole hnone hb))⟩⟩
    refine ⟨fun hno => ?_, fun hhost hdown => ?_, fun hhost hup => ?_⟩
    · rw [hno, Bool.false_and, if_neg Bool.false_ne_true, Here.hostDrawn_of_not_usesHost hno] at done
      exact goes_of h done (hostError_of_not_usesHost hno _)
    · rwa [hhost, hdown, Bool.not_false, Bool.and_self, if_pos rfl] at done
    · rw [hhost, hup, Bool.not_true, Bool.and_false, if_neg Bool.false_ne_true] at done
      exact ⟨fun p hp => ⟨_, by rw [← max_assoc, max_self], done.trans (congrArg _ (Here.storeFrom_error hp))⟩, goes_of _ done⟩
  · intro ps f p hp
    exact mem_of_hostError hp
  · intro st y store fault
    obtain ⟨hss, ht, _, _⟩ := State.hereAt_parts hs
    exact ⟨_, Here.acopyEnd_tileAt (by rw [hss]; exact ht) (Here.key_of_hereAt hs) st y store fault, rfl, st.acopyEnded_arrive y store fault⟩
  · intro p c hq hb hr
    obtain ⟨hss, _, _, _⟩ := State.hereAt_parts hs
    have read : s.ReadOf (h.readTables (h.reachOf e false x x.toRead)).1 := by
      rw [← hss]
      exact Here.readTables_readOf hr
    refine ⟨_, { h.t with st := h.st.restage false x.id (.suspended c (p.pos / 4096) s.pfNext) }, exec_acopyPageFault hs hw he hstage hland hmark hq hb hr, ?_, rfl, rfl, ?_,
      _, State.mem_reportFault _ _, ?_, rfl, rfl, rfl, rfl⟩
    · show (State.setTile _ _).tiles = _
      rw [read]
      rfl
    · show (h.readTables _).1.pfNext + 1 = _
      rw [read]
    · show (h.readTables _).1.pfNext = _
      rw [read]
  · intro m q hq hm holder hscope
    exact exec_qmarkCompletion hs hw hq hm holder hscope
  · obtain ⟨hss, ht, _, _⟩ := State.hereAt_parts hs
    obtain ⟨t, hread, hdo⟩ := Here.loadDo_all (x := x) (rest := rest) hs hwalks hpois
    have hk := Here.key_of_hereAt hs
    have ended := Here.acopyEnd_tileAt (h := { h with s := t }) ((hread.tileAt k).trans ht) hk (h.loaded x rest r) x false none
    rw [hdo]
    refine ⟨_, h.gotAll x r, ended, rfl,
      TState.acopyEnded_arrive _ _ _ _, ?_, fun g hg => List.mem_append_left _ hg, fun p hp hnew hend hlen q pa hq hlo hhi => ?_, ?_⟩
    · rw [Here.acopyEnd_mem]
      show t.mem = s.mem
      rw [hread]
    · have read := Here.mem_gotAll (h := h) hp hnew hend hlen hq hlo hhi
      rwa [hss] at read
    · show memPutAll h.st.spad (x.landing (h.gotAll x r) x.total) = _
      rw [AcEntry.landing]
  · obtain ⟨t, hread, hdo⟩ := Here.storeDo_all hs hwalks hpos hroom
    obtain ⟨hss, _, hco, _⟩ := State.hereAt_parts hs
    obtain ⟨keepsCo, keepsMem⟩ := drainStores_keeps h.t.key 32 ((({ t with nextOrd := t.nextOrd + (h.gateWrites t x r x.total).length } : State).setCo
      { h.co with gateOpen := h.co.gateOpen ++ h.gateWrites t x r x.total }).setTile (h.stored x))
    rw [hdo]
    refine ⟨{ h.co with gateOpen := h.co.gateOpen ++ h.gateWrites t x r x.total }, h.gateWrites t x r x.total, ?_, rfl, rfl, ?_, fun w hw => ?_,
      fun q pa j hq hj hlo hhi => ?_, fun q port bus j hq hj hlo hhi => ?_, fun w hw c hc => ?_⟩
    · rw [keepsCo, State.setTile_coAt, State.coAt_setCo, if_pos (Here.num_of_hereAt hs)]
      show Option.map _ (t.coAt k.co) = _
      rw [hread.coAt, hco]
      rfl
    · rw [keepsMem]
      show t.mem = s.mem
      rw [hread]
    · obtain ⟨p, _, _, i, rfl⟩ := Here.mem_gateWrites hw
      refine ⟨rfl, rfl, Here.key_of_hereAt hs, rfl, ?_, rfl, rfl⟩
      show t.cue = s.cue
      rw [hread]
    · obtain ⟨i, hi⟩ := Here.exists_gateWrite (h := h) (s := t) (x := x) (upto := x.total) hq (by simp only; omega)
      exact ⟨_, hi, rfl, Here.mem_gateWrite_bytes hj hlo hhi fun _ => rfl⟩
    · obtain ⟨i, hi⟩ := Here.exists_gateWrite (h := h) (s := t) (x := x) (upto := x.total) hq (by simp only; omega)
      exact ⟨_, hi, rfl, Here.mem_gateWrite_bytes hj hlo hhi fun _ => rfl⟩
    · obtain ⟨⟨q, place⟩, hq, _, i, rfl⟩ := Here.mem_gateWrites hw
      rcases hplaces _ hq with ⟨pa, rfl⟩ | ⟨port, bus, rfl⟩
      · obtain ⟨j, hj, hlo, hhi, rfl⟩ := Here.of_mem_gateWrite_bytes hc fun _ => rfl
        exact ⟨q, j, hj, hlo, hhi, rfl, .inl ⟨pa, rfl, hq, rfl⟩⟩
      · obtain ⟨j, hj, hlo, hhi, rfl⟩ := Here.of_mem_gateWrite_bytes hc fun _ => rfl
        exact ⟨q, j, hj, hlo, hhi, rfl, .inr ⟨port, bus, rfl, hq, rfl⟩⟩
end

section
/-! SUPPORT. The release of gated writes (09 R248), collectives and the ring (07 R198 to R205); then O49. -/
namespace Sys2Proof.Machine

/-! ### Gated writes released -/

/-- A write taken out of the gate leaves the others, in their order. -/
theorem takeWrite_flatMap (w : GWrite) (l : List GInterval) : (takeWrite w l).flatMap (·.writes) = (l.flatMap (·.writes)).erase w := by
  induction l with
  | nil => rfl
  | cons i rest ih =>
    rw [takeWrite, List.flatMap_cons]
    by_cases hw : i.writes.contains w = true
    · have here : (i.writes ++ rest.flatMap (·.writes)).erase w = i.writes.erase w ++ rest.flatMap (·.writes) :=
        List.erase_append_left _ (List.contains_iff_mem.mp hw)
      rw [if_pos hw, here]
      by_cases he : (i.writes.erase w).isEmpty = true
      · simp only [he, if_true]
        rw [List.isEmpty_iff.mp he, List.nil_append]
      · simp only [he, Bool.false_eq_true, if_false, List.flatMap_cons]
    · have there : (i.writes ++ rest.flatMap (·.writes)).erase w = i.writes ++ (rest.flatMap (·.writes)).erase w :=
        List.erase_append_right _ (fun h => hw (List.contains_iff_mem.mpr h))
      rw [if_neg hw, there, ← ih]
      by_cases he : i.writes.isEmpty = true
      · rw [if_pos he, List.isEmpty_iff.mp he, List.nil_append]
      · rw [if_neg he, List.flatMap_cons]

/-- Whether a write's module is silent or past its loss cue (13 R330, R338). -/
def State.stuck (s : State) (w : GWrite) : Bool := (s.sites[w.site]).mute || s.pastLoss w.site

theorem State.stuck_iff {s : State} {w : GWrite} : s.stuck w = true ↔ (s.sites[w.site]).mute = true ∨ s.pastLoss w.site = true := by
  simp only [State.stuck, Bool.or_eq_true]

section
variable {s : State} {co : Nat} {c : Company} (hc : s.coAt co = some c)
include hc

theorem exec_release {w : GWrite} (hw : (c.gateSealed.flatMap (·.writes)).find? (fun w => !s.stuck w) = some w) :
    exec (.gatedWriteRelease co) s = .next (if w.host.isSome && !s.serviceUp then s
      else if w.entry.isSome then drainStores w.tile 32 ((s.performGated w).setCo { c with gateSealed := takeWrite w c.gateSealed })
      else (s.performGated w).setCo { c with gateSealed := takeWrite w c.gateSealed }) := by
  have oldest : (c.gateSealed.flatMap (·.writes)).find? (fun w => !((s.sites[w.site]).mute || s.pastLoss w.site)) = some w := hw
  show execGatedWriteRelease co s = _
  simp only [execGatedWriteRelease, hc, oldest]
  split <;> rfl

theorem exec_release_none (hw : (c.gateSealed.flatMap (·.writes)).find? (fun w => !s.stuck w) = none) :
    exec (.gatedWriteRelease co) s = .next (s.setCo { c with gateSealed := c.gateSealed.filter fun i => !i.writes.isEmpty }) := by
  have none_free : (c.gateSealed.flatMap (·.writes)).find? (fun w => !((s.sites[w.site]).mute || s.pastLoss w.site)) = none := hw
  show execGatedWriteRelease co s = _
  simp only [execGatedWriteRelease, hc, none_free]

end

/-- A store entry is done: wholly in the gate or failed, and visible at its scope. -/
theorem AcEntry.storeDone_iff {x : AcEntry} {c : Company} {k : TileKey} : x.storeDone c k = true ↔
    (x.stage = .gated ∨ ∃ i j, x.stage = .failed i j) ∧ (wide x.scope = false ∨ c.released k (· == x.id) = true) := by
  unfold AcEntry.storeDone
  cases x.stage <;> simp

/-- Where a store entry failed, if it did: its sub-code and its page. -/
def AcEntry.failedAt (x : AcEntry) : Option (Nat × Nat) :=
  match x.stage with
  | .failed i j => some (i, j)
  | _ => none

/-- The oldest store entry of a tile, not a mark: done, it completes and the next is looked at; else it stands. -/
theorem drainStores_succ {s : State} {k : TileKey} {h : Here} {x : AcEntry} {rest : List AcEntry} (hs : s.hereAt k = some h)
    (hq : h.st.storeQ = x :: rest) (hmark : x.mark = false) (n : Nat) : drainStores k (n + 1) s =
    if x.storeDone h.co k then drainStores k n (h.acopyEnd { h.st with storeQ := rest } x true x.failedAt) else s := by
  rw [drainStores]
  simp only [hs, hq, hmark, Bool.not_false, Bool.true_and]
  rfl

/-! ### A descriptor ends (07 R200, R204) -/

/-- What every step of a fold keeps, the fold keeps. -/
theorem foldl_keeps {α β γ : Type} {f : α → β → α} {g : α → γ} (hf : ∀ a b, g (f a b) = g a) (l : List β) :
    ∀ a, g (l.foldl f a) = g a := by
  induction l with
  | nil => exact fun _ => rfl
  | cons b l ih => exact fun a => (ih (f a b)).trans (hf a b)

theorem State.resend_tileAt (s : State) (k j : TileKey) : (s.resend k).tileAt j = s.tileAt j := by
  unfold State.resend
  split
  · rfl
  · refine foldl_keeps (g := fun t : State => t.tileAt j) (fun t r => ?_) _ s
    split
    · rfl
    · split
      · split
        · dsimp only
          split <;> rfl
        · rfl
      · rfl

theorem State.closeRound_tileAt (s : State) (c : Company) (r : Round) (j : TileKey) : (s.closeRound c r).tileAt j = s.tileAt j := by
  unfold State.closeRound
  split <;> rfl

/-- A tile's state as a descriptor ends: its areas written, its units to return, its flag. -/
def TState.chorusEnded (st : TState) (d : CDesc) (cells : List Host.Cell) (poison : Bool) (flag : Nat) : TState :=
  (({ st with chorus := st.chorus.erase d, spad := memPutAll st.spad cells } : TState).giveBackLate ownChorus (unitsOf d.spans) poison).arrives flag

theorem Here.chorusEnd_tileAt {s : State} {k : TileKey} {h : Here} (hs : s.hereAt k = some h) (d : CDesc) (cells : List Host.Cell) (poison : Bool)
    (flag code sub : Nat) : (h.chorusEnd d cells poison flag code sub).tileAt k = some { h.t with st := h.st.chorusEnded d cells poison flag } := by
  have ended (w : W64) : (((h.put (h.st.chorusEnded d cells poison flag)).resend h.t.key).report h.co d.rep d.rslot w).tileAt k =
      some { h.t with st := h.st.chorusEnded d cells poison flag } := by
    rw [State.report_tileAt, State.resend_tileAt, Here.put_tileAt_self hs]
  rw [← ended]
  unfold Here.chorusEnd
  dsimp only
  split
  · rfl
  · split
    · rfl
    · split
      · split
        · rw [State.closeRound_tileAt]
          rfl
        · rfl
      · rfl

/-- The blocks of a collective's areas that a member which stands in a round may still take (07 R204). -/
def Here.blocksLeft (h : Here) (s : State) (d : CDesc) (b : Fin 64) : List (Nat × List Byte) :=
  match h.co.roundOf b h.t.key.row h.t.key.col with
  | some r => if r.posted.contains h.t.key.gang && !r.done.contains h.t.key.gang then blocks64 (s.chorusWrites h.co.num r h.t.key.gang d) else []
  | none => []

/-- The blocks a draw keeps of some (log 5). -/
def keptBlocks (f : Nat) (ws : List (Nat × List Byte)) : List (Nat × List Byte) := (ws.zipIdx.filter fun w => Config.freeBool (f + w.2)).map (·.1)

theorem keptBlocks_sublist (f : Nat) (ws : List (Nat × List Byte)) : (keptBlocks f ws).Sublist ws := by
  have fst : ws.zipIdx.map (·.1) = ws := List.zipIdx_map_fst 0 ws
  have kept : (keptBlocks f ws).Sublist (ws.zipIdx.map (·.1)) := List.filter_sublist.map _
  rwa [fst] at kept

theorem mem_runCells {ws : List (Nat × List Byte)} {c : Host.Cell} : c ∈ runCells ws ↔ ∃ w ∈ ws, c ∈ cellsAt w.1 w.2 := by
  simp only [runCells, List.mem_flatten, List.mem_map, exists_exists_and_eq_and]

theorem Here.mem_blocksLeft {h : Here} {s : State} {d : CDesc} {b : Fin 64} {w : Nat × List Byte} (hw : w ∈ h.blocksLeft s d b) :
    ∃ r, h.co.roundOf b h.t.key.row h.t.key.col = some r ∧ w ∈ blocks64 (s.chorusWrites h.co.num r h.t.key.gang d) := by
  unfold Here.blocksLeft at hw
  split at hw
  · next r hr =>
    split at hw
    · exact ⟨r, hr, hw⟩
    · simp only [List.not_mem_nil] at hw
  · simp only [List.not_mem_nil] at hw

section
variable {s : State} {k : TileKey} {h : Here} (hs : s.hereAt k = some h) {b : Fin 64} {d : CDesc}
include hs

theorem exec_chorusMember {r : Round} (hr : h.chorusReady b = some (d, r)) (hbar : d.kind ≠ .bar) (hready : d.ready = true)
    (henough : (if d.kind = .bc then r.contrib.any (fun y => y.1 == r.members.getD d.root 0)
      else r.members.all fun x => r.contrib.any fun y => y.1 == x) = true)
    (htime : s.inTime h.co k.gang d r = true) (hstore : h.st.storesTo (unitsOf d.spans) = false) :
    exec (.chorusMemberCompletion k b) s = .next (h.chorusEnd d (runCells (s.chorusWrites h.co.num r h.t.key.gang d)) false 5 0 0) := by
  show execChorusMemberCompletion k b s = _
  rw [execChorusMemberCompletion, atTile_here hs]
  simp only [hr, hbar, hready, henough, htime, hstore, ne_eq, not_false_eq_true, decide_true, Bool.not_false, Bool.and_self, if_true]

theorem exec_chorusBar {r : Round} (hr : h.chorusReady b = some (d, r)) (hbar : d.kind = .bar) (htime : s.inTime h.co k.gang d r = true) :
    exec (.barCompletion k b) s = .next (h.chorusEnd d [] false 5 0 0) := by
  show execBarCompletion k b s = _
  rw [execBarCompletion, atTile_here hs]
  simp only [hr, hbar, htime, decide_true, Bool.and_self, if_true]

theorem exec_chorusStale (hq : h.st.chorus = [d]) (hstale : d.stale = true) (hdue : d.issued < h.cue) :
    exec (.chorusStaleCompletion k) s = .next (h.chorusEnd d [] false 6 0x21 2) := by
  have due : (h.st.chorus.filter fun d => d.stale && decide (d.issued < h.cue)) = [d] := by
    simp only [hq, hstale, hdue, decide_true, Bool.and_self, List.filter_cons_of_pos, List.filter_nil]
  show execChorusStaleCompletion k s = _
  rw [execChorusStaleCompletion, atTile_here hs, due, List.foldl_cons, hs]
  rfl

theorem exec_chorusTimeout (hq : h.st.chorus = [d]) (hb : d.bucket = b) (hstale : d.stale = false) (hdue : d.issued + 4096 * d.tmo ≤ h.cue) :
    exec (.chorusTimeout k b) s = .next (({ h with s := { s with free := s.free + (h.blocksLeft s d b).length } } : Here).chorusEnd d
      (runCells (keptBlocks s.free (h.blocksLeft s d b))) true 6 0x21 1) := by
  have past : (h.st.chorus.find? fun d => d.bucket == b && !d.stale && decide (d.issued + 4096 * d.tmo ≤ h.cue)) = some d := by
    simp only [hq, hb, hstale, hdue, BEq.rfl, decide_true, Bool.not_false, Bool.and_self, List.find?_cons_of_pos]
  show execChorusTimeout k b s = _
  rw [execChorusTimeout, atTile_here hs]
  simp only [past]
  rfl

end

/-! ### COMBINE and the ring (07 R198, R203, R205) -/

/-- A tile's state as its oldest COMBINE completes: the slots folded into the buffer. -/
def Here.combined (h : Here) (c : CombineCmd) (rest : List CombineCmd) : TState :=
  let n := c.nel * opBytes c.op
  let slots := (List.range (c.ns + 1)).map fun i => memBytes h.st.spad (c.slots + i * n) n
  let st := { h.st with combine := rest, spad := memPutAll h.st.spad (cellsAt c.buf (foldArrays h.ftz c.op c.nel slots)) }
  (st.giveBackLate ownChorus (unitsOf c.spans) false).arrives 5

theorem exec_combineCompletion {s : State} {k : TileKey} {h : Here} (hs : s.hereAt k = some h) {c : CombineCmd} {rest : List CombineCmd}
    (hq : h.st.combine = c :: rest) (hmoving : h.moving = true) (hstore : h.st.storesTo (unitsOf c.spans) = false) (hrep : c.rep = false) :
    exec (.combineCompletion k) s = .next ((h.put (h.combined c rest)).resend k) := by
  show execCombineCompletion k s = _
  rw [execCombineCompletion, atTile_here hs]
  simp only [hq, hmoving, hstore, hrep, State.report, Bool.not_true, Bool.or_self, Bool.false_eq_true, if_false]
  rfl

/-- The requests of the tiles of a company that take effect in a cycle, by tile. -/
def State.ringAsks (s : State) (c : Company) : List (TileKey × List RingReq) :=
  ((s.tilesOf c.num).filter fun t => !t.lost).map fun t => (t.key, t.st.ringReq.filter fun r => r.dueAt c.cue c.rounds.isEmpty)

/-- The gangs that some requests put into the ring, or out of it. -/
def ringMoves (asks : List (TileKey × List RingReq)) (join : Bool) : List Nat :=
  (asks.filter fun a => a.2.any fun r => !r.now && r.join == join).map (·.1.gang)

/-- The ring as some requests and leaves change it, those that leave first. -/
def Company.ringChanged (c : Company) (asks : List (TileKey × List RingReq)) : List Nat :=
  (ringMoves asks true).foldl (fun r g => if r.contains g then r else c.ringInsert g r)
    (c.ring.filter fun g => !(ringMoves asks false).contains g && !c.leaves.contains g)

/-- A company past a ring boundary. -/
def Company.pastBoundary (c : Company) (asks : List (TileKey × List RingReq)) : Company :=
  if c.rounds.isEmpty && (asks.any (fun a => a.2.any fun r => !r.now) || !c.leaves.isEmpty) then
    { c with ring := c.ringChanged asks, gen := c.gen + 1, leaves := [] }
  else c

theorem Company.pastBoundary_num (c : Company) (asks : List (TileKey × List RingReq)) : (c.pastBoundary asks).num = c.num := by
  unfold Company.pastBoundary
  split <;> rfl

/-- A tile past a ring boundary of its company. -/
def Tile.pastBoundary (c : Company) (t : Tile) : Tile := if t.lost then t else t.ringAnswer c.cue c.rounds.isEmpty

theorem Tile.pastBoundary_key (c : Company) (t : Tile) : (t.pastBoundary c).key = t.key := by
  unfold Tile.pastBoundary Tile.ringAnswer
  dsimp only
  split
  · rfl
  · split <;> rfl

theorem State.closeRounds_of_none {s : State} {n : Nat} {c : Company} (hc : s.coAt n = some c) (hover : ∀ r ∈ c.rounds, s.roundOver c r = false) :
    s.closeRounds n = s := by
  have none_over : c.rounds.filter (fun r => s.roundOver c r) = [] :=
    List.filter_eq_nil_iff.mpr fun r hr => by rw [hover r hr]; exact Bool.false_ne_true
  simp only [State.closeRounds, hc, none_over, List.foldl_nil]

/-- The answers of a tile's requests reported. -/
def State.ringReports (c : Company) (s : State) (a : TileKey × List RingReq) : State :=
  a.2.foldl (fun s r => s.report c r.rep r.rslot (reportWord 0 0 c.gen.toNat a.1 r.bucket.val)) s

theorem State.ringReports_coAt (c : Company) (s : State) (a : TileKey × List RingReq) (n : Nat) : (s.ringReports c a).coAt n = s.coAt n :=
  foldl_keeps (g := fun t : State => t.coAt n) (fun t r => by rw [State.report_only]; rfl) a.2 s

theorem State.ringReports_tileAt (c : Company) (s : State) (a : TileKey × List RingReq) (k : TileKey) : (s.ringReports c a).tileAt k = s.tileAt k :=
  foldl_keeps (g := fun t : State => t.tileAt k) (fun _ _ => State.report_tileAt ..) a.2 s

/-- The company and its tiles past a ring boundary. -/
def State.pastBoundary (s : State) (c : Company) (n : Nat) : State :=
  (s.setCo (c.pastBoundary (s.ringAsks c))).mapTiles n (Tile.pastBoundary c)

/-- A ring boundary: the company and its tiles past it; besides them only reports are posted. -/
theorem exec_ringBoundary {s : State} {n : Nat} {c : Company} (hc : s.coAt n = some c) (hover : ∀ r ∈ c.rounds, s.roundOver c r = false) :
    ∃ t, exec (.ringBoundary n) s = .next t ∧ t.coAt n = some (c.pastBoundary (s.ringAsks c)) ∧
      ∀ k : TileKey, k.co = n → t.tileAt k = (s.tileAt k).map (Tile.pastBoundary c) := by
  have hn : c.num = n := State.coAt_num hc
  have run : exec (.ringBoundary n) s =
      .next ((s.ringAsks c).foldl (State.ringReports (c.pastBoundary (s.ringAsks c))) (s.pastBoundary c n)) := by
    show execRingBoundary n s = _
    unfold execRingBoundary
    simp only [State.closeRounds_of_none hc hover, hc]
    subst hn
    rfl
  refine ⟨_, run, ?_, fun k hk => ?_⟩
  · have kept := foldl_keeps (g := fun t : State => t.coAt n) (fun t a => State.ringReports_coAt (c.pastBoundary (s.ringAsks c)) t a n)
      (s.ringAsks c) (s.pastBoundary c n)
    have set : (s.pastBoundary c n).coAt n = (s.setCo (c.pastBoundary (s.ringAsks c))).coAt n := rfl
    rw [kept, set, State.coAt_setCo, Company.pastBoundary_num, if_pos hn, hc]
    rfl
  · have kept := foldl_keeps (g := fun t : State => t.tileAt k) (fun t a => State.ringReports_tileAt (c.pastBoundary (s.ringAsks c)) t a k)
      (s.ringAsks c) (s.pastBoundary c n)
    rw [kept, State.pastBoundary, State.tileAt_mapTiles (Tile.pastBoundary_key c), State.setCo_tileAt]
    cases ht : s.tileAt k with
    | none => rfl
    | some t => rw [Option.map_some, Option.map_some, if_pos (by rw [State.tileAt_key ht, hk])]

theorem State.mem_ringAsks {s : State} {c : Company} {a : TileKey × List RingReq} : a ∈ s.ringAsks c ↔
    ∃ t ∈ s.tiles, t.key.co = c.num ∧ t.lost = false ∧ (t.key, t.st.ringReq.filter fun r => r.dueAt c.cue c.rounds.isEmpty) = a := by
  simp only [State.ringAsks, State.tilesOf, List.mem_map, List.mem_filter, decide_eq_true_eq, Bool.not_eq_true', and_assoc]

/-- A fold that puts one gang in its place, be it named once or more often. -/
theorem Company.foldl_ringInsert {c : Company} {g : Nat} {ring : List Nat} (hg : ring.contains g = false) {gs : List Nat} (hgs : ∀ x ∈ gs, x = g)
    (hne : gs ≠ []) : gs.foldl (fun r g => if r.contains g then r else c.ringInsert g r) ring = c.ringInsert g ring := by
  have inserted : (c.ringInsert g ring).contains g = true := by
    simp only [Company.ringInsert, List.contains_iff_mem, List.mem_append, List.mem_cons, true_or, or_true]
  have stays : ∀ xs : List Nat, (∀ x ∈ xs, x = g) → xs.foldl (fun r g => if r.contains g then r else c.ringInsert g r) (c.ringInsert g ring) = c.ringInsert g ring := by
    intro xs
    induction xs with
    | nil => exact fun _ => rfl
    | cons x xs ih =>
      intro hx
      rw [List.foldl_cons, hx x (List.mem_cons_self ..), if_pos inserted]
      exact ih fun y hy => hx y (List.mem_cons_of_mem _ hy)
  obtain ⟨x, xs, rfl⟩ := List.exists_cons_of_ne_nil hne
  rw [List.foldl_cons, hgs x (List.mem_cons_self ..), hg]
  exact stays xs fun y hy => hgs y (List.mem_cons_of_mem _ hy)

/-- With no request waiting the ring changes only by the leaves. -/
theorem Company.pastBoundary_of_no_asks {c : Company} {asks : List (TileKey × List RingReq)} (h : ∀ a ∈ asks, a.2 = []) :
    c.pastBoundary asks = if c.rounds.isEmpty && !c.leaves.isEmpty then
      { c with ring := c.ring.filter fun g => !c.leaves.contains g, gen := c.gen + 1, leaves := [] } else c := by
  have no_moves (join : Bool) : ringMoves asks join = [] := by
    rw [ringMoves, List.filter_eq_nil_iff.mpr fun a ha => by rw [h a ha]; exact Bool.false_ne_true]
    rfl
  have none_waits : (asks.any fun a => a.2.any fun r => !r.now) = false := List.any_eq_false.mpr fun a ha => by rw [h a ha]; exact Bool.false_ne_true
  simp only [Company.pastBoundary, Company.ringChanged, no_moves, none_waits, List.foldl_nil, List.contains_nil, Bool.not_false, Bool.true_and,
    Bool.false_or]

section
variable {s : State} {k : TileKey} {h : Here} (hs : s.hereAt k = some h) {q : RingReq} (hq : h.st.ringReq = [q])
  (hdue : q.dueAt h.co.cue h.co.rounds.isEmpty = true)
include hs hq hdue

/-- The one tile that asks is among the company's. -/
theorem State.mem_ringAsks_of_one (hlost : h.t.lost = false) : (k, [q]) ∈ s.ringAsks h.co := by
  obtain ⟨_, ht, _, _⟩ := State.hereAt_parts hs
  have due : h.st.ringReq.filter (fun r => r.dueAt h.co.cue h.co.rounds.isEmpty) = [q] := by
    rw [hq, List.filter_singleton, hdue]
    rfl
  refine State.mem_ringAsks.mpr ⟨h.t, List.mem_of_find?_eq_some ht, ?_, hlost, ?_⟩
  · rw [Here.key_of_hereAt hs, Here.num_of_hereAt hs]
  · rw [due, Here.key_of_hereAt hs]

theorem State.ringAsks_of_one (hothers : ∀ t ∈ s.tiles, t ≠ h.t → t.st.ringReq = []) {a : TileKey × List RingReq} (ha : a ∈ s.ringAsks h.co) :
    a = (k, [q]) ∨ a.2 = [] := by
  obtain ⟨t, ht, _, _, rfl⟩ := State.mem_ringAsks.mp ha
  by_cases he : t = h.t
  · left
    rw [he, Here.key_of_hereAt hs, hq, List.filter_singleton, hdue]
    rfl
  · right
    rw [hothers t ht he, List.filter_nil]

/-- One tile asks: the ring is changed as it asks, and the generation is one on. -/
theorem Company.pastBoundary_of_one (hlost : h.t.lost = false) (hrounds : h.co.rounds = []) (hnow : q.now = false) :
    h.co.pastBoundary (s.ringAsks h.co) = { h.co with ring := h.co.ringChanged (s.ringAsks h.co), gen := h.co.gen + 1, leaves := [] } := by
  have waits : ((s.ringAsks h.co).any fun a => a.2.any fun r => !r.now) = true :=
    List.any_eq_true.mpr ⟨_, State.mem_ringAsks_of_one hs hq hdue hlost, by simp only [List.any_cons, hnow, Bool.not_false, Bool.true_or]⟩
  have empty : h.co.rounds.isEmpty = true := List.isEmpty_iff.mpr hrounds
  rw [Company.pastBoundary, waits, empty]
  rfl

variable (hlost : h.t.lost = false) (hothers : ∀ t ∈ s.tiles, t ≠ h.t → t.st.ringReq = [])
include hlost hothers

/-- The gang that one request moves, and the way it moves it. -/
theorem State.ringMoves_of_one {x : Nat} {join : Bool} : x ∈ ringMoves (s.ringAsks h.co) join ↔ x = k.gang ∧ (!q.now && q.join == join) = true := by
  have asked := State.mem_ringAsks_of_one hs hq hdue hlost
  simp only [ringMoves, List.mem_map, List.mem_filter]
  constructor
  · rintro ⟨a, ⟨ha, hany⟩, rfl⟩
    obtain rfl | hnone := State.ringAsks_of_one hs hq hdue hothers ha
    · simpa only [List.any_cons, List.any_nil, Bool.or_false, true_and] using hany
    · rw [hnone] at hany
      exact absurd hany Bool.false_ne_true
  · rintro ⟨rfl, hmove⟩
    exact ⟨_, ⟨asked, by simpa only [List.any_cons, List.any_nil, Bool.or_false] using hmove⟩, rfl⟩

theorem State.ringMoves_of_other {join : Bool} (hother : (q.join == join) = false) : ringMoves (s.ringAsks h.co) join = [] :=
  List.eq_nil_iff_forall_not_mem.mpr fun x hx => by
    obtain ⟨_, hmove⟩ := (State.ringMoves_of_one hs hq hdue hlost hothers).mp hx
    rw [hother, Bool.and_false] at hmove
    exact Bool.false_ne_true hmove

theorem Company.ringChanged_of_join (hleaves : h.co.leaves = []) (hnow : q.now = false) (hjoin : q.join = true)
    (hnot : h.co.ring.contains k.gang = false) : h.co.ringChanged (s.ringAsks h.co) = h.co.ringInsert k.gang h.co.ring := by
  have moves {x : Nat} {join : Bool} := State.ringMoves_of_one hs hq hdue hlost hothers (x := x) (join := join)
  have none_leaves : ringMoves (s.ringAsks h.co) false = [] := State.ringMoves_of_other hs hq hdue hlost hothers (by rw [hjoin]; rfl)
  have stay : (h.co.ring.filter fun g => !(ringMoves (s.ringAsks h.co) false).contains g && !h.co.leaves.contains g) = h.co.ring :=
    List.filter_eq_self.mpr fun g _ => by rw [none_leaves, hleaves]; rfl
  have joins : k.gang ∈ ringMoves (s.ringAsks h.co) true := moves.mpr ⟨rfl, by rw [hnow, hjoin]; rfl⟩
  rw [Company.ringChanged, stay]
  exact Company.foldl_ringInsert hnot (fun x hx => (moves.mp hx).1) (List.ne_nil_of_mem joins)

theorem Company.ringChanged_of_leave (hleaves : h.co.leaves = []) (hnow : q.now = false) (hjoin : q.join = false) :
    h.co.ringChanged (s.ringAsks h.co) = h.co.ring.filter fun g => g != k.gang := by
  have moves {x : Nat} {join : Bool} := State.ringMoves_of_one hs hq hdue hlost hothers (x := x) (join := join)
  have none_joins : ringMoves (s.ringAsks h.co) true = [] := State.ringMoves_of_other hs hq hdue hlost hothers (by rw [hjoin]; rfl)
  have leaves (g : Nat) : (ringMoves (s.ringAsks h.co) false).contains g = (g == k.gang) := by
    rw [Bool.eq_iff_iff, List.contains_iff_mem, moves, hnow, hjoin]
    simp
  rw [Company.ringChanged, none_joins, List.foldl_nil]
  refine List.filter_congr fun g _ => ?_
  rw [leaves, hleaves]
  exact Bool.and_true _

end

/-- A tile whose one request takes effect is answered with e5. -/
theorem Tile.pastBoundary_of_one {c : Company} {t : Tile} {q : RingReq} (hlost : t.lost = false) (hq : t.st.ringReq = [q])
    (hdue : q.dueAt c.cue c.rounds.isEmpty = true) : (t.pastBoundary c).st = ({ t.st with ringReq := [] } : TState).arrives 5 := by
  have due : t.st.ringReq.filter (fun r => r.dueAt c.cue c.rounds.isEmpty) = [q] := by
    rw [hq, List.filter_singleton, hdue]
    rfl
  have left : t.st.ringReq.filter (fun r => !r.dueAt c.cue c.rounds.isEmpty) = [] := by
    rw [hq, List.filter_singleton, hdue]
    rfl
  rw [Tile.pastBoundary, if_neg (by rw [hlost]; exact Bool.false_ne_true), Tile.ringAnswer]
  simp only [due, left, List.isEmpty_cons, Bool.false_eq_true, if_false]

end Sys2Proof.Machine
open Sys2Proof Sys2Proof.Machine

/-- Settles O49: the three parts are the gate (`exec_release`, `drainStores_succ`, `takeWrite_flatMap`), the collectives, each by the lemma of
its event and `Here.chorusEnd_tileAt`, and the ring, by what `exec_ringBoundary` leaves. -/
theorem releaseAndChorusEvents : Obligations.ReleaseAndChorusEvents := by
  unfold Obligations.ReleaseAndChorusEvents
  refine ⟨?_, ?_, ?_⟩
  · intro s co c a b w hc stuck
    have stuck_of {x : GWrite} : stuck x ↔ s.stuck x = true := State.stuck_iff.symm
    refine ⟨fun hall hbefore hfree => ?_, fun hall => ?_, fun k n h x rest hs hq hmark => ?_, takeWrite_flatMap w c.gateSealed, ?_⟩
    · have oldest : (c.gateSealed.flatMap (·.writes)).find? (fun w => !s.stuck w) = some w :=
        find?_of_first hall (fun x hx => by rw [stuck_of.mp (hbefore x hx)]; rfl) (by rw [Bool.eq_false_iff.mpr (mt stuck_of.mpr hfree)]; rfl)
      refine ⟨fun hup => ?_, fun hhost hdown => ?_⟩
      · intro t
        have goes : (w.host.isSome && !s.serviceUp) = false := by
          obtain hno | hup := hup
          · rw [hno]; rfl
          · rw [hup]; exact Bool.and_false _
        rw [exec_release hc oldest, goes]
        rfl
      · have waits : (w.host.isSome && !s.serviceUp) = true := by rw [Option.isSome_iff_ne_none.mpr hhost, hdown]; rfl
        rw [exec_release hc oldest, waits]
        rfl
    · refine ⟨_, exec_release_none hc (find?_of_none fun x hx => ?_), rfl, rfl, rfl⟩
      rw [stuck_of.mp (hall x hx)]
      rfl
    · refine ⟨AcEntry.storeDone_iff, fun hnot => ?_, fun hdone => ?_⟩
      · rw [drainStores_succ hs hq hmark, hnot]
        rfl
      · rw [drainStores_succ hs hq hmark, hdone]
        rfl
    · intro hhost _ hord hhole
      rw [State.performGated, hhost]
      exact State.perform_mem hord hhole
  · intro s k h b d r hs has
    refine ⟨exec_chorusMember hs, exec_chorusBar hs, exec_chorusStale hs, fun hq hb hstale hdue => ?_, fun _ cells poison flag code sub hflag => ?_⟩
    · refine ⟨_, _, exec_chorusTimeout hs hq hb hstale hdue, fun c hc => ?_⟩
      obtain ⟨w, hw, hcw⟩ := mem_runCells.mp hc
      obtain ⟨r', hr', hblocks⟩ := Here.mem_blocksLeft ((keptBlocks_sublist _ _).subset hw)
      exact ⟨r', hr', mem_runCells.mpr ⟨w, hblocks, hcw⟩⟩
    · refine ⟨_, Here.chorusEnd_tileAt hs d cells poison flag code sub, rfl, rfl, ?_, rfl⟩
      have set := TState.getLsbD_arrives (({ h.st with chorus := h.st.chorus.erase d, spad := memPutAll h.st.spad cells } : TState).giveBackLate
        ownChorus (unitsOf d.spans) poison) ⟨flag, hflag⟩ ⟨flag, hflag⟩
      exact set.trans (by rw [BEq.rfl, Bool.or_true])
  · intro s k h c rest co hs
    refine ⟨fun hq hmoving hstore hrep => ?_, fun hc hover hnone => ?_, fun q hc hrounds hleaves hlost hq hnow _ hissued hothers => ?_⟩
    · exact ⟨_, exec_combineCompletion hs hq hmoving hstore hrep, rfl, rfl, rfl, rfl⟩
    · obtain ⟨t, run, past, _⟩ := exec_ringBoundary hc hover
      have no_asks : ∀ a ∈ s.ringAsks co, a.2 = [] := fun a ha => by
        obtain ⟨t, ht, _, _, rfl⟩ := State.mem_ringAsks.mp ha
        rw [hnone t ht, List.filter_nil]
      rw [Company.pastBoundary_of_no_asks no_asks] at past
      refine ⟨t, run, _, past, fun hstay => ?_, fun hleaves hrounds => ?_⟩
      · have stays : (co.rounds.isEmpty && !co.leaves.isEmpty) = false := by
          obtain hl | hr := hstay
          · rw [hl]; exact Bool.and_false _
          · rw [List.isEmpty_eq_false_iff.mpr hr]; rfl
        rw [stays]
        exact ⟨rfl, rfl, rfl⟩
      · rw [hrounds, List.isEmpty_eq_false_iff.mpr hleaves]
        exact ⟨rfl, rfl, rfl⟩
    · obtain ⟨_, ht, hco, _⟩ := State.hereAt_parts hs
      obtain rfl : h.co = co := Option.some.inj (hco.symm.trans hc)
      obtain ⟨t, run, past, tiles⟩ := exec_ringBoundary hc (fun r hr => by rw [hrounds] at hr; exact absurd hr List.not_mem_nil)
      have hdue : q.dueAt h.co.cue h.co.rounds.isEmpty = true := by
        rw [RingReq.dueAt, hrounds, decide_eq_true hissued, List.isEmpty_nil, Bool.or_true]; rfl
      have tile : t.tileAt k = some (h.t.pastBoundary h.co) := by rw [tiles k rfl, ht]; rfl
      have answered := Tile.pastBoundary_of_one hlost hq hdue
      rw [Company.pastBoundary_of_one hs hq hdue hlost hrounds hnow] at past
      refine ⟨t, _, _, run, past, tile, rfl, ?_, ?_, Company.ringChanged_of_join hs hq hdue hlost hothers hleaves hnow,
        Company.ringChanged_of_leave hs hq hdue hlost hothers hleaves hnow⟩
      · rw [answered]; rfl
      · rw [answered]; rfl

end

section
/-! SUPPORT. What a store leaves in the scratchpad, byte by byte (02 R44); then O17. -/
namespace Sys2Proof.Machine

/-- A number written little-endian at `a`: its bytes stand in `[a, a + w)`, every other byte is as before. -/
theorem memGet_putAll_leBytes (w : Nat) : ∀ {m : Memory} (a n x : Nat), memWf m = true →
    memGet (memPutAll m (cellsAt a (leBytes w n))) x =
      if a ≤ x ∧ x < a + w then BitVec.ofNat 8 (n / 256 ^ (x - a)) else memGet m x := by
  induction w with
  | zero => intro m a n x _; rw [if_neg (by omega)]; rfl
  | succ w ih =>
    intro m a n x hm
    show memGet (memPutAll (memPut m a (BitVec.ofNat 8 n)) (cellsAt (a + 1) (leBytes w (n / 256)))) x = _
    rw [ih (a + 1) (n / 256) x (memWf_put a _ hm), memGet_put hm]
    by_cases hxa : x = a
    · subst hxa; simp
    · by_cases hx : a + 1 ≤ x ∧ x < a + 1 + w
      · have digit : n / 256 / 256 ^ (x - (a + 1)) = n / 256 ^ (x - a) := by
          rw [Nat.div_div_eq_div_mul, ← Nat.pow_succ']; congr 2; omega
        rw [if_pos hx, if_pos (by omega), digit]
      · rw [if_neg hx, if_neg hxa, if_neg (by omega)]

end Sys2Proof.Machine

open Sys2Proof Sys2Proof.Machine

/-- Settles O17: a store in flight lands as its cells written (`memGet_putAll_leBytes`), which read back as the value (`memNat_putAll_leBytes`). -/
theorem storesAndLoads : Obligations.StoresAndLoads := by
  unfold Obligations.StoresAndLoads
  refine ⟨fun st c lat w a n x h0 hm => ?_, fun m a w n hm => memNat_putAll_leBytes hm a w n⟩
  intro st'
  have landed : st' = { st with spad := memPutAll st.spad (cellsAt a (leBytes w n)) } := TState.landDue_fly1 h0 c lat _
  rw [landed]
  exact ⟨memGet_putAll_leBytes w a n x hm, memWf_putAll _ hm, rfl⟩

end

section
/-! SUPPORT. The step of a word whose result is known. -/
namespace Sys2Proof.Machine

/-- What a word does at the tile in focus, where it gives a new state of the tile. -/
theorem exec_word_ok {s : State} {h : Here} (hs : s.here = some h) {i : Instr} {f : Here → Res} {st : TState} (e : exec i = word f)
    (hf : f h = .ok st) : exec i s = h.becomes st := by
  rw [e, word_here hs, hf]
  rfl

/-- What a word does at the tile in focus, where it raises a cause. -/
theorem exec_word_trap {s : State} {h : Here} (hs : s.here = some h) {i : Instr} {f : Here → Res} {code : BitVec 8} {info : W64}
    (e : exec i = word f) (hf : f h = .trap code info) : exec i s = h.traps code info := by
  rw [e, word_here hs, hf]
  rfl

end Sys2Proof.Machine
end

section
/-! SUPPORT. The arithmetic of the cast words (08 R226 to R230, 02 R52); then O37. -/
namespace Sys2Proof.Machine

/-! ### Philox (02 R52) -/

/-- The counter before round `i`: `i` rounds, each with the keys stepped so often. -/
def philoxAt (k0 k1 : Nat) (c : Nat × Nat × Nat × Nat) : Nat → Nat × Nat × Nat × Nat
  | 0 => c
  | i + 1 => philoxRound ((k0 + i * 0x9e3779b9) % 2 ^ 32) ((k1 + i * 0xbb67ae85) % 2 ^ 32) (philoxAt k0 k1 c i)

theorem stepped_key (k i d : Nat) : ((k + i * d) % 2 ^ 32 + d) % 2 ^ 32 = (k + (i + 1) * d) % 2 ^ 32 := by
  rw [Nat.mod_add_mod, Nat.succ_mul, Nat.add_assoc]

theorem philoxRounds_philoxAt (k0 k1 : Nat) (c : Nat × Nat × Nat × Nat) (n : Nat) : ∀ i : Nat,
    philoxRounds n ((k0 + i * 0x9e3779b9) % 2 ^ 32) ((k1 + i * 0xbb67ae85) % 2 ^ 32) (philoxAt k0 k1 c i) = philoxAt k0 k1 c (i + n) := by
  induction n with
  | zero => exact fun _ => rfl
  | succ n ih =>
    intro i
    rw [philoxRounds, stepped_key, stepped_key, Nat.add_comm n 1, ← Nat.add_assoc]
    exact ih (i + 1)

theorem philox_eq_philoxAt (key : W64) (c : Nat × Nat × Nat × Nat) :
    philox key c = philoxAt (key.toNat % 2 ^ 32) (key.toNat / 2 ^ 32) c 10 := by
  have high : key.toNat / 2 ^ 32 < 2 ^ 32 := by have := key.isLt; omega
  have run := philoxRounds_philoxAt (key.toNat % 2 ^ 32) (key.toNat / 2 ^ 32) c 10 0
  simp only [Nat.zero_mul, Nat.add_zero, Nat.zero_add, Nat.mod_mod, Nat.mod_eq_of_lt high] at run
  exact run

/-- Four words of 32 bits. -/
def Words32 (c : Nat × Nat × Nat × Nat) : Prop := c.1 < 2 ^ 32 ∧ c.2.1 < 2 ^ 32 ∧ c.2.2.1 < 2 ^ 32 ∧ c.2.2.2 < 2 ^ 32

theorem words32_philoxRound {k0 k1 : Nat} {c : Nat × Nat × Nat × Nat} (h0 : k0 < 2 ^ 32) (h1 : k1 < 2 ^ 32) (hc : Words32 c) :
    Words32 (philoxRound k0 k1 c) := by
  obtain ⟨ha, hb, hd, he⟩ := hc
  refine ⟨Nat.xor_lt_two_pow (Nat.xor_lt_two_pow ?_ hb) h0, Nat.mod_lt _ (by decide),
    Nat.xor_lt_two_pow (Nat.xor_lt_two_pow ?_ he) h1, Nat.mod_lt _ (by decide)⟩ <;> omega

theorem words32_philoxAt (k0 k1 : Nat) {c : Nat × Nat × Nat × Nat} (hc : Words32 c) (i : Nat) : Words32 (philoxAt k0 k1 c i) := by
  induction i with
  | zero => exact hc
  | succ i ih => exact words32_philoxRound (Nat.mod_lt _ (by decide)) (Nat.mod_lt _ (by decide)) ih

theorem CastState.words32_draw (c : CastState) (d : W32) : Words32 (c.draw d) := by
  rw [CastState.draw, philox_eq_philoxAt]
  exact words32_philoxAt _ _ ⟨c.seq.isLt, c.pos.isLt, d.isLt, c.stream.isLt.trans (by decide)⟩ 10

/-! ### Weights (08 R227) -/

/-- A floor of a rational on a power of two, by its division. -/
theorem floor_mul_zpow (v k : Int) : (if 0 ≤ k then v * 2 ^ k.toNat else v / 2 ^ (-k).toNat) = ⌊(v : ℚ) * 2 ^ k⌋ := by
  split
  · next hk =>
    obtain ⟨n, rfl⟩ := Int.eq_ofNat_of_zero_le hk
    have cast : (v : ℚ) * 2 ^ ((n : ℤ)) = ((v * 2 ^ n : ℤ) : ℚ) := by push_cast; rw [zpow_natCast]
    rw [cast, Int.floor_intCast]; rfl
  · next hk =>
    obtain ⟨n, hn⟩ := Int.eq_ofNat_of_zero_le (a := -k) (by omega)
    obtain rfl : k = -n := by omega
    rw [neg_neg, zpow_neg, zpow_natCast, ← div_eq_mul_inv, Int.toNat_natCast]
    exact_mod_cast (Rat.floor_intCast_div_natCast v (2 ^ n)).symm

/-- The floor of a value times a power of two, as the special functions take it. -/
theorem floorScaled_eq (s : Bool) (m : Nat) (e k : Int) : floorScaled s m e k = ⌊(Val.fin s m e).rat * 2 ^ k⌋ := by
  have value : (Val.fin s m e).rat * 2 ^ k = ((if s then -(m : Int) else m : Int) : ℚ) * 2 ^ (e + k) := by
    rw [zpow_add₀ two_ne_zero]
    cases s <;> simp [Val.rat] <;> ring
  rw [value, ← floor_mul_zpow]
  rfl

theorem rnd32_nan : rnd32 .nan = .nan := by decide

theorem Val.rat_nonneg_iff (s : Bool) (m : Nat) (e : Int) : 0 ≤ (Val.fin s m e).rat ↔ (!s || m == 0) = true := by
  have hpow : (0 : ℚ) < 2 ^ e := by positivity
  cases s
  · simp [Val.rat]; positivity
  · rw [show (Val.fin true m e).rat = -(m * 2 ^ e) by simp [Val.rat], neg_nonneg]
    simp only [Bool.not_true, Bool.false_or, beq_iff_eq]
    constructor
    · intro h
      by_contra hm
      have : (0 : ℚ) < m := by exact_mod_cast Nat.pos_of_ne_zero hm
      nlinarith
    · rintro rfl; simp

/-- The power of two of a weight: a candidate times log2 e, rounded (08 R227). -/
def castPower (x : W32) : Val := rnd32 (Val.mul (fpDecode fp32 x.toNat) (fpDecode fp32 0x3fb8aa3b))

theorem castWeight_of_nan {x : W32} (hx : fpDecode fp32 x.toNat = .nan) : castWeight x = 0 := by
  simp only [castWeight, hx, Val.mul, rnd32_nan]

theorem castWeight_of_inf {x : W32} {s : Bool} (h : castPower x = .inf s) : castWeight x = if s then 0 else 0xffffffff := by
  unfold castPower at h
  simp only [castWeight, h]

/-- The bound of 08 R227 as the model compares it. -/
theorem lt_neg_forty_iff (s : Bool) (m : Nat) (e : Int) : (Val.fin s m e).lt (.fin true 40 0) = true ↔ (Val.fin s m e).rat < -40 := by
  rw [Val.lt_fin, show (Val.fin true 40 0).rat = -40 by norm_num [Val.rat]]

section
variable {x : W32} {s : Bool} {m : Nat} {e : Int} (h : castPower x = .fin s m e)
include h

theorem castWeight_of_nonneg (h0 : 0 ≤ (castPower x).rat) : castWeight x = 0xffffffff := by
  rw [h, Val.rat_nonneg_iff] at h0
  unfold castPower at h
  simp only [castWeight, h, h0, if_true]

theorem castWeight_of_low (hlow : (castPower x).rat < -40) : castWeight x = 0 := by
  rw [h] at hlow
  have neg : ¬(!s || m == 0) = true := by rw [← Val.rat_nonneg_iff s m e]; linarith
  unfold castPower at h
  simp only [castWeight, h, if_neg neg, (lt_neg_forty_iff s m e).mpr hlow, if_true]

theorem castWeight_of_mid (hge : -40 ≤ (castPower x).rat) (hneg : (castPower x).rat < 0) :
    let z : Int := ⌊(castPower x).rat * 2 ^ 22⌋
    let k : Int := z / 2 ^ 22 + 2
    let f := (z % 2 ^ 22).toNat
    let r := f % 2 ^ 14
    let p := 2 ^ 30 + 744261118 * r / 2 ^ 22 + 257941248 * r * r / 2 ^ 44
    let q : Nat := tableT.getD (f / 2 ^ 14) 0 * p / 2 ^ 30
    ((castWeight x).toNat : ℤ) = min 0xffffffff ⌊(q : ℚ) * 2 ^ k⌋ := by
  intro z k f r p q
  have neg : ¬(!s || m == 0) = true := by rw [← Val.rat_nonneg_iff s m e, ← h]; linarith
  have notLow : ¬(Val.fin s m e).lt (.fin true 40 0) = true := by rw [lt_neg_forty_iff, ← h]; linarith
  have floor : floorScaled s m e 22 = z := by rw [floorScaled_eq, ← h]; rfl
  have weight : castWeight x = BitVec.ofNat 32 (min 0xffffffff (if 0 ≤ k then q * 2 ^ k.toNat else q / 2 ^ (-k).toNat)) := by
    have h' := h
    unfold castPower at h'
    simp only [castWeight, h', if_neg neg, if_neg notLow, floor]
    rfl
  have value : ((if 0 ≤ k then q * 2 ^ k.toNat else q / 2 ^ (-k).toNat : Nat) : ℤ) = ⌊(q : ℚ) * 2 ^ k⌋ := by
    have := floor_mul_zpow q k
    push_cast at this ⊢
    exact this
  rw [weight, BitVec.toNat_ofNat, Nat.mod_eq_of_lt (lt_of_le_of_lt (Nat.min_le_left _ _) (by decide)), ← value]
  exact Nat.cast_min ..

end

/-! ### Sums of weights, draws (08 R223, R230) -/

theorem sumWeights_eq (l : List (W32 × W32)) : sumWeights l = (l.map fun u => u.1.toNat).sum := by
  rw [sumWeights, List.sum_eq_foldl, List.foldl_map]

theorem sumWeights_cons (x : W32 × W32) (l : List (W32 × W32)) : sumWeights (x :: l) = x.1.toNat + sumWeights l := by
  simp only [sumWeights_eq, List.map_cons, List.sum_cons]

theorem sumWeights_perm {l l' : List (W32 × W32)} (h : l.Perm l') : sumWeights l = sumWeights l' := by
  rw [sumWeights_eq, sumWeights_eq]
  exact (h.map _).sum_eq

theorem sumWeights_le (l : List (W32 × W32)) : sumWeights l ≤ l.length * (2 ^ 32 - 1) := by
  induction l with
  | nil => exact Nat.zero_le _
  | cons x l ih =>
    have hx := x.1.isLt
    rw [sumWeights_cons, List.length_cons]
    omega

/-- The order of ids. -/
def idBelow (x y : W32 × W32) : Prop := x.2.toNat < y.2.toNat

/-- An entry put among those in ascending id, where its id is new. -/
theorem insertId_spec {l : List (W32 × W32)} {u : W32 × W32} (hl : l.Pairwise idBelow) (hu : ∀ v ∈ l, v.2 ≠ u.2) :
    let l' := l.takeWhile (fun v => ltU v.2 u.2) ++ u :: l.dropWhile (fun v => ltU v.2 u.2)
    l'.Perm (u :: l) ∧ l'.Pairwise idBelow := by
  induction l with
  | nil => exact ⟨.refl _, List.pairwise_singleton _ _⟩
  | cons v l ih =>
    obtain ⟨hv, hl'⟩ := List.pairwise_cons.mp hl
    obtain ⟨perm, sorted⟩ := ih hl' fun w hw => hu w (List.mem_cons_of_mem _ hw)
    have hne : v.2.toNat ≠ u.2.toNat := fun e => hu v List.mem_cons_self (BitVec.eq_of_toNat_eq e)
    by_cases hlt : ltU v.2 u.2 = true
    · simp only [List.takeWhile_cons, List.dropWhile_cons, hlt, if_true, List.cons_append]
      refine ⟨(perm.cons v).trans (.swap u v l), List.pairwise_cons.mpr ⟨fun w hw => ?_, sorted⟩⟩
      rcases List.mem_cons.mp (perm.mem_iff.mp hw) with rfl | hw
      · exact (of_decide_eq_true hlt : v.2.toNat < w.2.toNat)
      · exact hv w hw
    · simp only [List.takeWhile_cons, List.dropWhile_cons, hlt, if_false, List.nil_append, Bool.false_eq_true]
      have below : idBelow u v := by have := of_decide_eq_false (Bool.eq_false_iff.mpr hlt); unfold idBelow; omega
      refine ⟨.refl _, List.pairwise_cons.mpr ⟨fun w hw => ?_, hl⟩⟩
      rcases List.mem_cons.mp hw with rfl | hw
      · exact below
      · exact Nat.lt_trans below (hv w hw)

theorem foldl_insertId (l : List (W32 × W32)) : ∀ acc : List (W32 × W32), acc.Pairwise idBelow →
    ((l.map (·.2)).Nodup ∧ ∀ u ∈ l, ∀ v ∈ acc, v.2 ≠ u.2) →
    let r := l.foldl (fun acc u => acc.takeWhile (fun v => ltU v.2 u.2) ++ u :: acc.dropWhile (fun v => ltU v.2 u.2)) acc
    r.Perm (acc ++ l) ∧ r.Pairwise idBelow := by
  induction l with
  | nil => exact fun acc h _ => ⟨by simp, h⟩
  | cons u l ih =>
    rintro acc hacc ⟨hnd, hnew⟩
    obtain ⟨hu, hnd'⟩ := List.nodup_cons.mp hnd
    obtain ⟨perm, sorted⟩ := insertId_spec hacc (hnew u List.mem_cons_self)
    obtain ⟨perm', sorted'⟩ := ih _ sorted ⟨hnd', fun w hw v hv => by
      rcases List.mem_cons.mp (perm.mem_iff.mp hv) with rfl | hv
      · exact fun e => hu (List.mem_map.mpr ⟨w, hw, e.symm⟩)
      · exact hnew w (List.mem_cons_of_mem _ hw) v hv⟩
    exact ⟨perm'.trans ((perm.append_right l).trans List.perm_middle.symm), sorted'⟩

/-- A list of distinct ids has one order by id. -/
theorem byId_eq {l c : List (W32 × W32)} (hp : l.Perm c) (hs : l.Pairwise idBelow) : byId c = l := by
  have distinct : (l.map (·.2)).Nodup := List.pairwise_map.mpr (hs.imp fun h e => by rw [idBelow, e] at h; omega)
  obtain ⟨perm, sorted⟩ := foldl_insertId c [] .nil ⟨(hp.map _).nodup_iff.mp distinct, fun _ _ _ h => absurd h List.not_mem_nil⟩
  exact (perm.trans hp.symm).eq_of_pairwise (fun a b _ _ h h' => absurd h (Nat.lt_asymm h')) sorted hs

/-- The walk of a draw stops in the list where the draw is below its sum. -/
theorem walkPick_spec (u : Nat) (l : List (W32 × W32)) : ∀ sum k : Nat, sum ≤ u → u < sum + sumWeights l →
    ∃ (i : Nat) (x : W32 × W32), l[i]? = some x ∧ sum + sumWeights (l.take i) ≤ u ∧ u < sum + sumWeights (l.take (i + 1)) ∧
      walkPick u l sum k = (x.2, BitVec.ofNat 32 (k + i)) := by
  induction l with
  | nil => intro sum k h1 h2; exact absurd h2 (Nat.not_lt.mpr h1)
  | cons x l ih =>
    intro sum k h1 h2
    rw [walkPick]
    by_cases hx : u < sum + x.1.toNat
    · exact ⟨0, x, rfl, h1, by simpa [sumWeights_cons] using Nat.lt_of_lt_of_le hx (by omega), by rw [if_pos hx]; rfl⟩
    · obtain ⟨i, y, hy, low, high, pick⟩ := ih (sum + x.1.toNat) (k + 1) (by omega) (by rw [sumWeights_cons] at h2; omega)
      refine ⟨i + 1, y, hy, ?_, ?_, by rw [if_neg hx, pick, Nat.add_assoc, Nat.add_comm 1 i]⟩
      · rw [List.take_succ_cons, sumWeights_cons]; omega
      · rw [List.take_succ_cons, sumWeights_cons]; omega

theorem CastState.pick_position (c : CastState) {a : Vec} (hbit : (lane a 1).getLsbD 0 = true) :
    c.pick a = (c.list[(lane a 0).toNat % 64]?).getD (0, 0xffffffff) := by
  rw [CastState.pick, if_pos hbit]
  cases c.list[(lane a 0).toNat % 64]? <;> rfl

theorem CastState.pick_empty (c : CastState) {a : Vec} (hbit : (lane a 1).getLsbD 0 = false) (hM : sumWeights c.list = 0) :
    c.pick a = (0xffffffff, 64) := by
  simp only [CastState.pick, hbit, hM, if_true, Bool.false_eq_true, if_false]

/-- A draw of 64 bits takes less than the whole sum. -/
theorem draw_lt {M hi lo : Nat} (hM : M ≠ 0) (hhi : hi < 2 ^ 32) (hlo : lo < 2 ^ 32) : M * (hi * 2 ^ 32 + lo) / 2 ^ 64 < M := by
  have word : hi * 2 ^ 32 + lo < 2 ^ 64 := by omega
  rw [Nat.div_lt_iff_lt_mul (Nat.two_pow_pos 64)]
  exact Nat.mul_lt_mul_of_pos_left word (Nat.pos_of_ne_zero hM)

theorem CastState.pick_draw (c : CastState) {a : Vec} (hbit : (lane a 1).getLsbD 0 = false) (hM : sumWeights c.list ≠ 0)
    {l : List (W32 × W32)} (hp : l.Perm c.list) (hl : l.Pairwise idBelow) :
    let o := c.draw (lane a 0)
    let u := sumWeights c.list * (o.2.1 * 2 ^ 32 + o.1) / 2 ^ 64
    ∃ (k : Nat) (x : W32 × W32), l[k]? = some x ∧ sumWeights (l.take k) ≤ u ∧ u < sumWeights (l.take (k + 1)) ∧
      c.pick a = (x.2, BitVec.ofNat 32 k) := by
  intro o u
  obtain ⟨h0, h1, -⟩ := c.words32_draw (lane a 0)
  have below : u < 0 + sumWeights l := by rw [Nat.zero_add, sumWeights_perm hp]; exact draw_lt hM h1 h0
  obtain ⟨k, x, hx, low, high, walk⟩ := walkPick_spec u l 0 0 (Nat.zero_le u) below
  rw [Nat.zero_add] at low high walk
  refine ⟨k, x, hx, low, high, ?_⟩
  rw [← walk, ← byId_eq hp hl]
  simp only [CastState.pick, hbit, hM, Bool.false_eq_true, if_false]
  rfl

/-! ### TOPK.p (08 R228) -/

theorem zipIdx_eq_map_range {α : Type} (l : List α) (d : α) : l.zipIdx = (List.range l.length).map fun j => (l.getD j d, j) := by
  refine List.ext_getElem (by simp) fun i h _ => ?_
  simp only [List.length_zipIdx] at h
  simp [h]

theorem CastState.topp_eq (c : CastState) (p : W32) (kmin : Nat) : c.topp p kmin = { c with list :=
    (((List.range c.list.length).filter fun j => decide (j < kmin ∨ sumWeights (c.list.take j) * 2 ^ 32 < p.toNat * sumWeights c.list)).map
      fun j => c.list.getD j (0, 0)) } := by
  rw [CastState.topp, zipIdx_eq_map_range c.list (0, 0), List.filter_map, List.map_map]
  simp only [Bool.decide_or]
  rfl

end Sys2Proof.Machine

open Sys2Proof Sys2Proof.Machine

/-- Settles O37: each word is `exec_word_ok`; the arithmetic is `philox_eq_philoxAt`, `floorScaled_eq`, the order by id (`byId_eq`) and the walk
of a draw (`walkPick_spec`). -/
theorem castWords : Obligations.CastWords := by
  unfold Obligations.CastWords
  refine ⟨fun s h r a b hs => ?_, ?_, fun x => ?_, fun l => ⟨sumWeights_eq l, fun hl => ?_⟩, fun c a => ?_, CastState.topp_eq⟩
  · refine ⟨exec_word_ok hs rfl rfl, exec_word_ok hs rfl rfl, exec_word_ok hs rfl rfl, exec_word_ok hs rfl rfl, exec_word_ok hs rfl rfl,
      ?_, exec_word_ok hs rfl rfl, exec_word_ok hs rfl rfl, exec_word_ok hs rfl rfl⟩
    have kmin (k : Nat) : (if k = 0 ∨ 64 < k then 1 else k) = if 1 ≤ k ∧ k ≤ 64 then k else 1 := by
      split <;> split <;> omega
    rw [← kmin]
    exact exec_word_ok hs rfl rfl
  · intro key c
    exact ⟨philoxAt (key.toNat % 2 ^ 32) (key.toNat / 2 ^ 32) c, rfl, philox_eq_philoxAt key c, fun i _ => rfl⟩
  · exact ⟨castWeight_of_nan, fun sg hy => castWeight_of_inf hy, fun sg m e hy =>
      ⟨castWeight_of_nonneg hy, castWeight_of_low hy, castWeight_of_mid hy⟩⟩
  · have := sumWeights_le l
    omega
  · intro j o M u
    refine ⟨fun hbit => ?_, fun hbit hM => ?_, fun hbit hM l hp hl => ?_⟩
    · rw [c.pick_position hbit]
      constructor
      · intro x hx; rw [hx]; rfl
      · intro hx; rw [hx]; rfl
    · exact c.pick_empty hbit hM
    · exact c.pick_draw hbit hM hp hl

end

section
/-! SUPPORT. The accumulator (02 R65, R67): rounding to even, normal form, the fold, the drain. -/
namespace Sys2Proof.Machine

/-! ### A shift rounded to nearest, ties to even -/

/-- Whether `m / 2^k` rounds up to nearest, ties to even. -/
def rneUp (m k : Nat) : Bool := decide (2 ^ k < 2 * (m % 2 ^ k)) || (decide (2 * (m % 2 ^ k) = 2 ^ k) && m / 2 ^ k % 2 == 1)

theorem roundQuantum_rne_zero (m k : Nat) : roundQuantum .rne false m 0 k 0 = m / 2 ^ k + (rneUp m k).toNat := by
  cases k with
  | zero => simp [roundQuantum, rneUp, Nat.mod_one]
  | succ k =>
    have above : ¬((k + 1 : Nat) : Int) ≤ 0 := by omega
    have shift : (((k + 1 : Nat) : Int) - 0).toNat = k + 1 := by omega
    rw [roundQuantum, if_neg above]
    simp only [shift]
    split
    · next hrem =>
      have rem : m % 2 ^ (k + 1) = 0 := by simpa using hrem
      have hne := (Nat.two_pow_pos (k + 1)).ne
      simp [rneUp, rem, hne]
    · rfl

/-- To nearest: at most half a unit off; at half a unit, even. -/
theorem rneUp_near (m k : Nat) : let n := m / 2 ^ k + (rneUp m k).toNat
    |(m : ℚ) / 2 ^ k - n| ≤ 1 / 2 ∧ (|(m : ℚ) / 2 ^ k - n| = 1 / 2 → n % 2 = 0) := by
  intro n
  have hD : (0 : ℚ) < 2 ^ k := by positivity
  have div : (2 : ℚ) ^ k * (m / 2 ^ k : Nat) + (m % 2 ^ k : Nat) = m := by exact_mod_cast Nat.div_add_mod m (2 ^ k)
  have err : (m : ℚ) / 2 ^ k - n = ((m % 2 ^ k : Nat) - 2 ^ k * (rneUp m k).toNat) / 2 ^ k := by
    rw [eq_div_iff hD.ne', sub_mul, div_mul_cancel₀ _ hD.ne', ← div]
    push_cast [n]; ring
  have hr : ((m % 2 ^ k : Nat) : ℚ) < 2 ^ k := by exact_mod_cast Nat.mod_lt m (Nat.two_pow_pos k)
  have hr0 : (0 : ℚ) ≤ ((m % 2 ^ k : Nat) : ℚ) := Nat.cast_nonneg _
  rw [err, abs_div, abs_of_pos hD, div_le_iff₀ hD, div_eq_iff hD.ne']
  cases hup : rneUp m k
  · have low : 2 * (m % 2 ^ k) ≤ 2 ^ k ∧ (2 * (m % 2 ^ k) = 2 ^ k → m / 2 ^ k % 2 = 0) := by
      simp [rneUp] at hup; exact ⟨hup.1, fun h => by have := hup.2 h; omega⟩
    obtain ⟨hle, heven⟩ := low
    have hle' : 2 * ((m % 2 ^ k : Nat) : ℚ) ≤ 2 ^ k := by exact_mod_cast hle
    simp only [Bool.toNat_false, Nat.cast_zero, mul_zero, sub_zero, abs_of_nonneg hr0]
    refine ⟨by linarith, fun h => ?_⟩
    have tie' : 2 * ((m % 2 ^ k : Nat) : ℚ) = 2 ^ k := by linarith
    have tie : 2 * (m % 2 ^ k) = 2 ^ k := by exact_mod_cast tie'
    simp only [n, hup, Bool.toNat_false, Nat.add_zero]
    exact heven tie
  · have high : 2 ^ k < 2 * (m % 2 ^ k) ∨ (2 * (m % 2 ^ k) = 2 ^ k ∧ m / 2 ^ k % 2 = 1) := by simpa [rneUp] using hup
    have hge : 2 ^ k ≤ 2 * (m % 2 ^ k) := high.elim le_of_lt fun h => h.1.ge
    have hge' : (2 : ℚ) ^ k ≤ 2 * ((m % 2 ^ k : Nat) : ℚ) := by exact_mod_cast hge
    simp only [Bool.toNat_true, Nat.cast_one, mul_one]
    rw [abs_of_nonpos (by linarith)]
    refine ⟨by linarith, fun h => ?_⟩
    have tie' : 2 * ((m % 2 ^ k : Nat) : ℚ) = 2 ^ k := by linarith
    have tie : 2 * (m % 2 ^ k) = 2 ^ k := by exact_mod_cast tie'
    have odd := (high.resolve_left (by omega)).2
    simp only [n, hup, Bool.toNat_true]
    omega

theorem rneShift_of_lt (v : Int) {k : Nat} (hk : k < 48) :
    rneShift v k =
      if v < 0 then -((v.natAbs / 2 ^ k + (rneUp v.natAbs k).toNat : Nat) : Int) else (v.natAbs / 2 ^ k + (rneUp v.natAbs k).toNat : Nat) := by
  rw [rneShift, if_neg (by omega)]
  simp only [roundQuantum_rne_zero]

theorem rneShift_near (v : Int) {k : Nat} (hk : k < 48) :
    |(v : ℚ) / 2 ^ k - rneShift v k| ≤ 1 / 2 ∧ (|(v : ℚ) / 2 ^ k - rneShift v k| = 1 / 2 → rneShift v k % 2 = 0) := by
  obtain ⟨near, even⟩ := rneUp_near v.natAbs k
  rw [rneShift_of_lt v hk]
  generalize v.natAbs / 2 ^ k + (rneUp v.natAbs k).toNat = n at *
  have mag : (v.natAbs : ℚ) = |(v : ℚ)| := by rw [Nat.cast_natAbs, Int.cast_abs]
  by_cases hv : v < 0
  · have neg : (v : ℚ) < 0 := by exact_mod_cast hv
    rw [abs_of_neg neg] at mag
    have err : |(v : ℚ) / 2 ^ k - (-(n : Int) : Int)| = |(v.natAbs : ℚ) / 2 ^ k - n| := by
      rw [mag, ← abs_neg]; push_cast; congr 1; ring
    rw [if_pos hv, err]
    exact ⟨near, fun h => by have := even h; omega⟩
  · have nonneg : (0 : ℚ) ≤ v := by exact_mod_cast Int.not_lt.mp hv
    rw [if_neg hv, ← abs_of_nonneg nonneg, ← mag]
    exact ⟨near, fun h => by have := even h; omega⟩

/-- One halving, to even. -/
theorem natAbs_rneShift_one (s : Int) : s.natAbs ≤ 2 * (rneShift s 1).natAbs + 1 ∧ 2 * (rneShift s 1).natAbs ≤ s.natAbs + 1 := by
  have abs : (rneShift s 1).natAbs = s.natAbs / 2 + (rneUp s.natAbs 1).toNat := by
    rw [rneShift_of_lt s (by decide), pow_one]; split <;> omega
  rw [abs]
  cases hup : rneUp s.natAbs 1
  · simp only [Bool.toNat_false]; omega
  · have odd : s.natAbs % 2 = 1 := by
      simp only [rneUp, Bool.or_eq_true, Bool.and_eq_true, decide_eq_true_eq, pow_one] at hup; omega
    simp only [Bool.toNat_true]; omega

/-! ### The normal form (02 R65) -/

theorem normDown_of_lt {s : Int} (hs : s.natAbs < 2 ^ 46) (n : Nat) (z : Int) : normDown n (s, z) = (s, z) := by
  cases n with
  | zero => rfl
  | succ n => rw [normDown, if_pos hs]

theorem normUp_of_le {s : Int} (hs : 2 ^ 45 ≤ s.natAbs) (n : Nat) (z : Int) : normUp n (s, z) = (s, z) := by
  cases n with
  | zero => rfl
  | succ n => rw [normUp, if_pos hs]

theorem normDown_of_le {s : Int} (hs : 2 ^ 46 ≤ s.natAbs) (n : Nat) (z : Int) :
    normDown (n + 1) (s, z) = normDown n (rneShift s 1, z + 1) := by rw [normDown, if_neg (by omega)]

theorem normUp_of_lt {s : Int} (hs : s.natAbs < 2 ^ 45) (n : Nat) (z : Int) : normUp (n + 1) (s, z) = normUp n (s * 2, z - 1) := by
  rw [normUp, if_neg (by omega)]

/-- More fuel than halvings needed changes nothing. -/
theorem normDown_succ (n : Nat) : ∀ {s : Int} (z : Int), s.natAbs ≤ 2 ^ (45 + n) → normDown (n + 1) (s, z) = normDown n (s, z) := by
  induction n with
  | zero => intro s z hs; exact normDown_of_lt (lt_of_le_of_lt hs (by decide)) 1 z
  | succ n ih =>
    intro s z hs
    by_cases h : s.natAbs < 2 ^ 46
    · rw [normDown_of_lt h, normDown_of_lt h]
    · have half := (natAbs_rneShift_one s).2
      rw [normDown_of_le (Nat.not_lt.mp h), normDown_of_le (Nat.not_lt.mp h)]
      refine ih _ ?_
      have : 2 ^ (45 + (n + 1)) = 2 * 2 ^ (45 + n) := by rw [← Nat.add_assoc, Nat.pow_succ']
      omega

theorem normUp_succ (n : Nat) : ∀ {s : Int} (z : Int), 2 ^ 45 ≤ s.natAbs * 2 ^ n → normUp (n + 1) (s, z) = normUp n (s, z) := by
  induction n with
  | zero => intro s z hs; exact normUp_of_le (by simpa using hs) 1 z
  | succ n ih =>
    intro s z hs
    by_cases h : 2 ^ 45 ≤ s.natAbs
    · rw [normUp_of_le h, normUp_of_le h]
    · rw [normUp_of_lt (Nat.not_le.mp h), normUp_of_lt (Nat.not_le.mp h)]
      refine ih _ ?_
      rwa [Int.natAbs_mul, show (2 : Int).natAbs = 2 from rfl, Nat.mul_assoc, ← Nat.pow_succ']

theorem normal_of_ne {S : Int} (hS : S ≠ 0) (Z : Int) : normal (S, Z) = normUp 64 (normDown 64 (S, Z)) := by
  have : (S == 0) = false := beq_false_of_ne hS
  simp only [normal, this, Bool.false_eq_true, if_false]

theorem normal_zero (Z : Int) : normal (0, Z) = (0, 0) := rfl

theorem normal_of_normal {S : Int} (hlow : 2 ^ 45 ≤ S.natAbs) (hhigh : S.natAbs < 2 ^ 46) (Z : Int) : normal (S, Z) = (S, Z) := by
  rw [normal_of_ne (by omega), normDown_of_lt hhigh, normUp_of_le hlow]

theorem normal_of_large {S : Int} (hlow : 2 ^ 46 ≤ S.natAbs) (hhigh : S.natAbs < 2 ^ 63) (Z : Int) :
    normal (S, Z) = normal (rneShift S 1, Z + 1) := by
  obtain ⟨low, high⟩ := natAbs_rneShift_one S
  rw [normal_of_ne (by omega), normal_of_ne (by omega), normDown_of_le hlow, normDown_succ 63 _ (by omega)]

theorem normal_of_small {S : Int} (h0 : S ≠ 0) (hhigh : S.natAbs < 2 ^ 45) (Z : Int) : normal (S, Z) = normal (S * 2, Z - 1) := by
  have dbl : (S * 2).natAbs = S.natAbs * 2 := Int.natAbs_mul S 2
  rw [normal_of_ne h0, normal_of_ne (by omega), normDown_of_lt (by omega), normDown_of_lt (by omega), normUp_of_lt hhigh, normUp_succ 63 _ (by omega)]

/-! ### The fold (02 R65) -/

theorem foldAcc_zero (c : Acc) (Y : Int) : foldAcc c (0, Y) = c := rfl

theorem foldAcc_first {P : Int} (hP : P ≠ 0) (X Y : Int) : foldAcc ⟨0, X⟩ (P, Y) = ⟨(normal (P, Y)).1, (normal (P, Y)).2⟩ := by
  simp [foldAcc, hP]

theorem foldAcc_of_le {A X P Y : Int} (hP : P ≠ 0) (hA : A ≠ 0) (hy : (normal (P, Y)).2 ≤ X) :
    let r := normal (A + rneShift (normal (P, Y)).1 (X - (normal (P, Y)).2).toNat, X)
    foldAcc ⟨A, X⟩ (P, Y) = ⟨r.1, r.2⟩ := by
  simp [foldAcc, hP, hA, hy]

theorem foldAcc_of_lt {A X P Y : Int} (hP : P ≠ 0) (hA : A ≠ 0) (hy : X < (normal (P, Y)).2) :
    let r := normal (rneShift A ((normal (P, Y)).2 - X).toNat + (normal (P, Y)).1, (normal (P, Y)).2)
    foldAcc ⟨A, X⟩ (P, Y) = ⟨r.1, r.2⟩ := by
  simp [foldAcc, hP, hA, Int.not_le.mpr hy]

/-! ### The drain (02 R67, 06 R170) -/

theorem fpDecode_eq_inf_iff {t : FpFmt} (ht : t.top = .ieee) (w : Nat) (s : Bool) :
    fpDecode t w = .inf s ↔ w % 2 ^ (t.f + t.x) = t.infEnc ∧ (w / 2 ^ (t.f + t.x) % 2 == 1) = s := by
  have fields : w % 2 ^ (t.f + t.x) = w % 2 ^ t.f + 2 ^ t.f * (w / 2 ^ t.f % 2 ^ t.x) := by rw [pow_add, Nat.mod_mul]
  have hx : 0 < 2 ^ t.x := Nat.two_pow_pos _
  have hf : w % 2 ^ t.f < 2 ^ t.f := Nat.mod_lt _ (Nat.two_pow_pos _)
  have inf_iff : w % 2 ^ (t.f + t.x) = t.infEnc ↔ w / 2 ^ t.f % 2 ^ t.x = 2 ^ t.x - 1 ∧ w % 2 ^ t.f = 0 := by
    rw [fields, FpFmt.infEnc, Nat.mul_comm (2 ^ t.x - 1)]
    constructor
    · intro h
      have hq := congrArg (· / 2 ^ t.f) h
      have hm := congrArg (· % 2 ^ t.f) h
      simp only [Nat.add_mul_div_left _ _ (Nat.two_pow_pos t.f), Nat.div_eq_of_lt hf, Nat.zero_add, Nat.mul_div_cancel_left _ (Nat.two_pow_pos t.f),
        Nat.add_mul_mod_self_left, Nat.mul_mod_right, Nat.mod_mod] at hq hm
      exact ⟨hq, hm⟩
    · rintro ⟨he, h0⟩; rw [he, h0, Nat.zero_add]
  have ieee : (t.top == Top.ieee) = true := by rw [ht]; rfl
  have not_e4m3 : (t.top == Top.e4m3) = false := by rw [ht]; rfl
  rw [inf_iff]
  simp only [fpDecode, ieee, not_e4m3, Bool.true_and, Bool.false_and, Bool.false_eq_true, if_false, beq_iff_eq]
  by_cases he : w / 2 ^ t.f % 2 ^ t.x = 2 ^ t.x - 1
  · by_cases h0 : w % 2 ^ t.f = 0 <;> simp [he, h0]
  · simp only [he, if_false, false_and, iff_false]
    split <;> exact Val.noConfusion

theorem fpEncode_of_ne_zero (t : FpFmt) (mode : Rnd) (ftz : Bool) (rb : Nat) (neg : Bool) {m : Nat} (hm : m ≠ 0) (e : Int) :
    let enc := t.encMag (roundQuantum mode neg m e (t.quantum m e) rb) (t.quantum m e)
    fpEncode t mode ftz rb (.fin neg m e) = t.signBit neg + t.flushMag ftz (if t.maxEnc < enc then t.overflow mode neg else enc) := by
  simp [fpEncode, hm]

/-- Whether a magnitude rounds beyond the finite values of FP32. -/
def beyond32 (neg : Bool) (m : Nat) (e : Int) : Prop :=
  fp32.maxEnc < fp32.encMag (roundQuantum .rne neg m e (fp32.quantum m e) 0) (fp32.quantum m e)

theorem overflow_rne {t : FpFmt} (hl : t = fp32 ∨ t = bf16 ∨ t = fp16) (neg : Bool) : t.overflow .rne neg = t.infEnc := by
  rcases hl with rfl | rfl | rfl <;> simp [FpFmt.overflow]

theorem fp32_signBit (neg : Bool) : fp32.signBit neg = neg.toNat * 2 ^ 31 := by cases neg <;> decide
theorem fp32_infEnc : fp32.infEnc = 0x7f800000 := by decide
theorem fp32_maxEnc : fp32.maxEnc = 0x7f7fffff := by decide
theorem fp32_nanEnc : fp32.nanEnc = 0x7fc00000 := by decide

theorem flushMag_false (t : FpFmt) (w : Nat) : t.flushMag false w = w := by simp [FpFmt.flushMag]

theorem flushMag_le (t : FpFmt) (ftz : Bool) (w : Nat) : t.flushMag ftz w ≤ w := by unfold FpFmt.flushMag; split <;> omega

/-- Rounded to nearest, an infinity comes of a magnitude beyond the finite values and of no other. -/
theorem fpEncode_inf_iff (neg : Bool) {m : Nat} (hm : m ≠ 0) (e : Int) :
    fpEncode fp32 .rne false 0 (.fin neg m e) % 2 ^ 31 = 0x7f800000 ↔ beyond32 neg m e := by
  rw [fpEncode_of_ne_zero fp32 .rne false 0 neg hm, flushMag_false, overflow_rne (.inl rfl), fp32_signBit, Nat.mul_add_mod', beyond32]
  generalize fp32.encMag (roundQuantum .rne neg m e (fp32.quantum m e) 0) (fp32.quantum m e) = enc
  rw [fp32_infEnc, fp32_maxEnc]
  split <;> omega

section
variable (ftz : Bool) (c : Acc)

theorem drain32_nan : drain32 ftz true c = (0x7fc00000, false) := by
  simp only [drain32, if_true, fp32_nanEnc]

theorem drain32_zero (h : c.a = 0) : drain32 ftz false c = (0, false) := by simp [drain32, h]

theorem drain32_beyond (h : c.a ≠ 0) (hb : beyond32 (decide (c.a < 0)) c.a.natAbs c.x) :
    drain32 ftz false c = (if c.a < 0 then 0xff7fffff else 0x7f7fffff, true) := by
  have max (neg : Bool) : fp32.signBit neg + fp32.maxEnc = if neg then 0xff7fffff else 0x7f7fffff := by
    rw [fp32_signBit, fp32_maxEnc]; cases neg <;> rfl
  unfold beyond32 at hb
  simp only [drain32, beq_false_of_ne h, Bool.false_eq_true, if_false, hb, if_true, max, decide_eq_true_eq]

theorem drain32_within (h : c.a ≠ 0) (hb : ¬beyond32 (decide (c.a < 0)) c.a.natAbs c.x) :
    drain32 ftz false c = (fpEncode fp32 .rne ftz 0 (.fin (decide (c.a < 0)) c.a.natAbs c.x), false) := by
  unfold beyond32 at hb
  simp only [drain32, beq_false_of_ne h, Bool.false_eq_true, if_false, hb]

/-- A word of BF16 or FP16 has 16 bits. -/
theorem fpEncode_lt_of_16 {t : FpFmt} (ht : t = bf16 ∨ t = fp16) (v : Val) : fpEncode t .rne ftz 0 v < 2 ^ 16 := by
  have consts : (∀ neg, t.signBit neg ≤ 2 ^ 15) ∧ t.nanEnc < 2 ^ 15 ∧ t.infEnc < 2 ^ 15 ∧ t.maxEnc < 2 ^ 15 ∧
      t.top = .ieee := by
    rcases ht with rfl | rfl <;> decide
  obtain ⟨sign, nan, inf, max, ieee⟩ := consts
  cases v with
  | nan => exact nan.trans (by decide)
  | inf neg =>
    have := sign neg
    simp only [fpEncode, ieee, beq_self_eq_true, if_true]
    omega
  | fin neg m e =>
    have hs := sign neg
    by_cases hm : m = 0
    · simp only [fpEncode, hm, beq_self_eq_true, if_true]; omega
    · rw [fpEncode_of_ne_zero t .rne ftz 0 neg hm, overflow_rne (.inr ht)]
      generalize t.encMag (roundQuantum .rne neg m e (t.quantum m e) 0) (t.quantum m e) = enc
      have small : (if t.maxEnc < enc then t.infEnc else enc) < 2 ^ 15 := by split <;> omega
      have := flushMag_le t ftz (if t.maxEnc < enc then t.infEnc else enc)
      omega

theorem drainLane_fp32 (nan : Bool) : drainLane ftz nan .fp32 c = drain32 ftz nan c := by simp only [drainLane, if_true]

theorem drainLane_nan {f : DrainFmt} (hf : f ≠ .fp32) : drainLane ftz true f c = ((drainFp f).nanEnc, false) := by
  simp only [drainLane, hf, if_false, if_true, drain32_nan]

/-- A drain to BF16 or FP16 takes an infinity back to the largest finite value. -/
theorem drainLane_narrow {f : DrainFmt} (hf : f ≠ .fp32) :
    let d := drain32 ftz false c
    let t := fpEncode (drainFp f) .rne ftz 0 (fpRead fp32 ftz d.1)
    drainLane ftz false f c = if t % 2 ^ 15 = (drainFp f).infEnc then (t - 1, true) else (t, d.2) := by
  intro d t
  have ht : drainFp f = bf16 ∨ drainFp f = fp16 := by cases f <;> simp [drainFp] at hf ⊢
  have consts : (∀ neg, (drainFp f).signBit neg = neg.toNat * 2 ^ 15) ∧ (drainFp f).maxEnc + 1 = (drainFp f).infEnc ∧ (drainFp f).infEnc < 2 ^ 15 ∧
      (drainFp f).f + (drainFp f).x = 15 ∧ (drainFp f).top = .ieee := by
    rcases ht with h | h <;> rw [h] <;> decide
  obtain ⟨sign, max, inf, width, ieee⟩ := consts
  have word : t < 2 ^ 16 := fpEncode_lt_of_16 ftz ht _
  have inf_iff := fpDecode_eq_inf_iff ieee t
  rw [width] at inf_iff
  have lane : drainLane ftz false f c = match fpDecode (drainFp f) t with
    | .inf neg => ((drainFp f).signBit neg + (drainFp f).maxEnc, true)
    | _ => (t, d.2) := by
    simp only [drainLane, hf, Bool.false_eq_true, if_false]
    rfl
  rw [lane]
  split
  · next neg hdec =>
    obtain ⟨hmag, hsign⟩ := (inf_iff neg).mp hdec
    rw [if_pos hmag, sign, ← hsign]
    congr 1
    have bit : (t / 2 ^ 15 % 2 == 1).toNat = t / 2 ^ 15 := by
      have : t / 2 ^ 15 < 2 := by omega
      interval_cases t / 2 ^ 15 <;> rfl
    rw [bit]
    omega
  · next hdec =>
    rw [if_neg fun hmag => hdec _ ((inf_iff _).mpr ⟨hmag, rfl⟩)]

end

end Sys2Proof.Machine
end

section
/-! SUPPORT. What the changes of the array leave (06 R156 to R169). -/
namespace Sys2Proof.Machine

/-! ### Places of partials -/

theorem partIdx_ne {set : Fin 2} {row : Fin 32} {p q : Fin 2} (h : p ≠ q) : partIdx set row p ≠ partIdx set row q := by
  intro e
  have := congrArg Fin.val e
  simp only [partIdx] at this
  exact h (Fin.ext (by omega))

/-- The other parity. -/
def otherPar (p : Fin 2) : Fin 2 := if p = 0 then 1 else 0

theorem otherPar_ne : ∀ p : Fin 2, otherPar p ≠ p := by decide

theorem eq_otherPar : ∀ {p q : Fin 2}, q ≠ p → q = otherPar p := by decide

/-! ### MZERO (06 R169) -/

section
variable (x : ArrayState) (set : Fin 2) (i : Fin 64)

theorem getLsbD_kept (w : W64) : (w &&& maskOf (fun i => i / 32 != set.val) 64).getLsbD i.val = (w.getLsbD i.val && i.val / 32 != set.val) := by
  rw [BitVec.getLsbD_and, getLsbD_maskOf]
  simp only [i.isLt, decide_true, Bool.true_and]

theorem ArrayState.applyMzero_acc : (x.applyMzero set).acc[i] = if i.val / 32 = set.val then Vector.replicate 32 ⟨0, 0⟩ else x.acc[i] := by
  simp only [applyMzero, Fin.getElem_fin, Vector.getElem_ofFn, bne_iff_ne, ne_eq, ite_not]

theorem ArrayState.applyMzero_sat : (x.applyMzero set).sat.getLsbD i.val = (x.sat.getLsbD i.val && i.val / 32 != set.val) := getLsbD_kept set i x.sat

theorem ArrayState.applyMzero_nan : (x.applyMzero set).nan.getLsbD i.val = (x.nan.getLsbD i.val && i.val / 32 != set.val) := getLsbD_kept set i x.nan

end

/-! ### MACC (06 R168) -/

/-- A closed partial. -/
def Partial.closed (p : Partial) : Partial := { p with isOpen := false, pnan := false, p := Vector.replicate 32 0, age := false }

/-- The partials after the older of a row is closed. -/
def ArrayState.closePart (x : ArrayState) (set : Fin 2) (row : Fin 32) (par : Fin 2) : Vector Partial 128 :=
  let j := partIdx set row (otherPar par)
  (x.part.set (partIdx set row par) (x.part[partIdx set row par]).closed).set j { x.part[j] with age := false }

/-- The row's accumulators with a partial folded in. -/
def ArrayState.folded (x : ArrayState) (r : Fin 64) (p : Partial) : Vector Acc 32 :=
  Vector.ofFn fun cn => foldAcc (x.acc[r])[cn] (p.p[cn], (p.ea.toNat : Int) + (p.eb[cn]).toNat - 260 + p.w)

section
variable {x : ArrayState} {set : Fin 2} {row : Fin 32}

theorem ArrayState.applyMacc_none (h : x.oldest set row = none) (fold : Bool) : x.applyMacc set row fold = x := by
  simp only [applyMacc, h]

variable {par : Fin 2} (h : x.oldest set row = some par)
include h

theorem ArrayState.applyMacc_drop : x.applyMacc set row false = { x with part := x.closePart set row par } := by
  simp only [applyMacc, h]
  rfl

theorem ArrayState.applyMacc_nan (hp : (x.part[partIdx set row par]).pnan = true) :
    x.applyMacc set row true = { x with nan := x.nan ||| (1#64 <<< (rowIdx set row).val), part := x.closePart set row par } := by
  simp only [applyMacc, h, hp, if_true, Bool.not_true, Bool.false_eq_true, if_false]
  rfl

theorem ArrayState.applyMacc_fold (hp : (x.part[partIdx set row par]).pnan = false) :
    x.applyMacc set row true =
      { x with acc := x.acc.set (rowIdx set row) (x.folded (rowIdx set row) x.part[partIdx set row par]), part := x.closePart set row par } := by
  simp only [applyMacc, h, hp, Bool.not_true, Bool.false_eq_true, if_false]
  rfl

omit h in
theorem ArrayState.closePart_self : (x.closePart set row par)[partIdx set row par] = (x.part[partIdx set row par]).closed := by
  rw [closePart, getElem_set_fin, if_neg (partIdx_ne (otherPar_ne par)).symm, getElem_set_fin, if_pos rfl]

theorem ArrayState.applyMacc_part (fold : Bool) : (x.applyMacc set row fold).part = x.closePart set row par := by
  cases fold
  · rw [applyMacc_drop h]
  · cases hp : (x.part[partIdx set row par]).pnan
    · rw [applyMacc_fold h hp]
    · rw [applyMacc_nan h hp]

theorem ArrayState.applyMacc_acc_other (fold : Bool) {j : Fin 64} (hj : j ≠ rowIdx set row) : (x.applyMacc set row fold).acc[j] = x.acc[j] := by
  cases fold
  · rw [applyMacc_drop h]
  · cases hp : (x.part[partIdx set row par]).pnan
    · rw [applyMacc_fold h hp, getElem_set_fin, if_neg hj]
    · rw [applyMacc_nan h hp]

end

/-- One flag of a row raised. -/
theorem getLsbD_or_one (w : W64) (r : Fin 64) {i : Nat} (hi : i < 64) :
    (w ||| (1#64 <<< r.val)).getLsbD i = true ↔ i = r.val ∨ w.getLsbD i = true := by
  have one : (1#64 <<< r.val).getLsbD i = decide (i = r.val) := by
    rw [BitVec.getLsbD_shiftLeft, BitVec.getLsbD_one]
    by_cases hr : i = r.val
    · subst hr; simp
    · simp [hi, hr]; omega
  rw [BitVec.getLsbD_or, one, Bool.or_eq_true, decide_eq_true_eq, or_comm]

/-! ### A push landed (06 R166) -/

theorem wrap48_spec (z : Int) : -2 ^ 47 ≤ wrap48 z ∧ wrap48 z < 2 ^ 47 ∧ (2 : Int) ^ 48 ∣ wrap48 z - z := by
  unfold wrap48 sextNat
  have h0 := Int.emod_nonneg z (show (2 : Int) ^ 48 ≠ 0 by decide)
  have h1 := Int.emod_lt_of_pos z (show (0 : Int) < 2 ^ 48 by decide)
  split <;> refine ⟨by omega, by omega, ?_⟩ <;> omega

/-- A partial with the change of a push. -/
def Partial.pushed (p : Partial) (d : PushDelta) : Partial where
  p := p.p.zipWith (fun a b => wrap48 (a + b)) d.dp
  ea := d.ea
  eb := d.eb
  w := d.w
  pnan := p.pnan || d.ea == 0xff || d.eb.toList.any (· == 0xff)
  isOpen := true
  age := if p.isOpen then p.age else false

theorem Partial.pushed_pnan (p : Partial) (d : PushDelta) :
    (p.pushed d).pnan = true ↔ p.pnan = true ∨ d.ea = 0xff ∨ ∃ cn : Fin 32, d.eb[cn] = 0xff := by
  have any : d.eb.toList.any (· == 0xff) = true ↔ ∃ cn : Fin 32, d.eb[cn] = 0xff := by
    rw [List.any_eq_true]
    constructor
    · rintro ⟨b, hb, he⟩
      obtain ⟨i, hi, rfl⟩ := Vector.mem_iff_getElem.mp (Vector.mem_toList_iff.mp hb)
      exact ⟨⟨i, hi⟩, by simpa using he⟩
    · rintro ⟨cn, he⟩
      exact ⟨_, Vector.mem_toList_iff.mpr (Vector.getElem_mem cn.isLt), by simpa using he⟩
  simp only [pushed, Bool.or_eq_true, any, beq_iff_eq, or_assoc]

section
variable (x : ArrayState) (set : Fin 2) (row : Fin 32) (d : PushDelta)

/-- The partials after a push: its own changed; the other of the row marked the older where this one opens beside it. -/
def ArrayState.pushPart : Vector Partial 128 :=
  let i := partIdx set row d.par
  let j := partIdx set row (otherPar d.par)
  let ps := x.part.set i ((x.part[i]).pushed d)
  if !(x.part[i]).isOpen && (x.part[j]).isOpen then ps.set j { x.part[j] with age := true } else ps

theorem ArrayState.applyDelta_eq : x.applyDelta set row d = { x with part := x.pushPart set row d } := rfl

theorem ArrayState.applyDelta_self : (x.applyDelta set row d).part[partIdx set row d.par] = (x.part[partIdx set row d.par]).pushed d := by
  rw [applyDelta_eq, pushPart]
  dsimp only
  split
  · rw [getElem_set_fin, if_neg (partIdx_ne (otherPar_ne d.par)).symm, getElem_set_fin, if_pos rfl]
  · rw [getElem_set_fin, if_pos rfl]

theorem ArrayState.applyDelta_opens {par : Fin 2} (hpar : par ≠ d.par) (hnew : (x.part[partIdx set row d.par]).isOpen = false)
    (hopen : (x.part[partIdx set row par]).isOpen = true) : ((x.applyDelta set row d).part[partIdx set row par]).age = true := by
  obtain rfl := eq_otherPar hpar
  rw [applyDelta_eq, pushPart]
  dsimp only
  rw [hnew, hopen, if_pos (by rfl), getElem_set_fin, if_pos rfl]

theorem ArrayState.applyDelta_other {i : Fin 128} (h0 : i ≠ partIdx set row 0) (h1 : i ≠ partIdx set row 1) :
    (x.applyDelta set row d).part[i] = x.part[i] := by
  have ne (p : Fin 2) : i ≠ partIdx set row p := by
    rcases (by revert p; decide : ∀ p : Fin 2, p = 0 ∨ p = 1) p with rfl | rfl
    · exact h0
    · exact h1
  rw [applyDelta_eq, pushPart]
  dsimp only
  split
  · rw [getElem_set_fin, if_neg (ne _), getElem_set_fin, if_neg (ne _)]
  · rw [getElem_set_fin, if_neg (ne _)]

end

/-! ### What a push adds (06 R166, R167) -/

theorem foldl_add_eq_sum (g : Nat → Int) (n : Nat) : (List.range n).foldl (fun s k => s + g k) 0 = ∑ k ∈ Finset.range n, g k := by
  induction n with
  | zero => rfl
  | succ n ih => rw [List.range_succ, List.foldl_append, ih, Finset.sum_range_succ]; rfl

theorem PushView.delta_dp (v : PushView) (n par : Nat) (cn : Fin 32) :
    (v.delta n par).dp[cn] = ∑ i ∈ Finset.range n, if v.par i = par then v.term i cn.val else 0 := by
  have step : (fun (s : Int) q => if v.par q = par then s + v.term q cn.val else s) = fun s q => s + if v.par q = par then v.term q cn.val else 0 := by
    funext s q
    split
    · rfl
    · exact (Int.add_zero s).symm
  simp only [PushView.delta, Fin.getElem_fin, Vector.getElem_ofFn, step, foldl_add_eq_sum]

theorem PushView.term_eq (v : PushView) (q cn : Nat) :
    let y (k : Nat) := columnElem (v.cols.getD cn 0) (32 * v.arr.planeWidth * v.g q + v.eb * k) v.eb
    v.term q cn = (∑ k ∈ Finset.range 32, (v.slices (v.aElem q k) (y k)).1 * (v.slices (v.aElem q k) (y k)).2.1) *
      2 ^ (6 - hdrShift (v.ha (v.par q)) (v.g q % 8) - hdrShift (v.hb (v.par q) cn) (v.g q % 8)) := by
  simp only [PushView.term, foldl_add_eq_sum]

theorem synSlices_sum (x y : Int) :
    let part (i : Nat) : Int := (synSlices false i x y).1 * (synSlices false i x y).2.1 * 2 ^ (synSlices false i x y).2.2
    part 1 + part 2 + part 3 + part 4 = x * y := by
  simp only [synSlices, Bool.false_eq_true, if_false]
  have hx := Int.mul_ediv_add_emod x 256
  have hy := Int.mul_ediv_add_emod y 256
  rw [show (2 : Int) ^ 8 = 256 by norm_num]
  calc _ = (256 * (x / 256) + x % 256) * (256 * (y / 256) + y % 256) := by ring
    _ = x * y := by rw [hx, hy]

end Sys2Proof.Machine
end

section
/-! SUPPORT. The matrix words at issue (06 R159, R170, R171); then O35. -/
namespace Sys2Proof.Machine

section
variable {s : State} {h : Here} (hs : s.here = some h)
include hs

/-! ### MLOADB.W (06 R159) -/

theorem exec_mloadbW {a : Sel} {o : Nat} (ho : (lane (h.getV .m a) 0).toNat = o) (halign : o % 4096 = 0) (hend : o ≤ 0x1f000)
    (hfree : 64 ≤ h.cue % 16384 % 512) (hgood : h.s.weightBad.contains (h.s.weightBase h.t) = false) :
    exec (.mloadbW a) s = h.becomes (h.st.fly1 h.cue 6 (.plane o)) := by
  refine exec_word_ok hs rfl ?_
  subst ho
  have bounds : ¬((lane (h.getV .m a) 0).toNat % 4096 ≠ 0 ∨ 0x1f000 < (lane (h.getV .m a) 0).toNat) := by omega
  exact (if_neg bounds).trans ((if_neg (Nat.not_lt.mpr hfree)).trans (if_neg (Bool.eq_false_iff.mp hgood)))

theorem exec_mloadbW_bounds {a : Sel} {o : Nat} (ho : (lane (h.getV .m a) 0).toNat = o) (hbad : o % 4096 ≠ 0 ∨ 0x1f000 < o) :
    exec (.mloadbW a) s = h.traps cBOUNDS (BitVec.ofNat 64 o) := by
  refine exec_word_trap hs rfl ?_
  subst ho
  exact if_pos hbad

theorem exec_mloadbW_refresh {a : Sel} {o : Nat} (ho : (lane (h.getV .m a) 0).toNat = o) (halign : o % 4096 = 0) (hend : o ≤ 0x1f000)
    (hrefresh : h.cue % 16384 % 512 < 64) :
    exec (.mloadbW a) s = h.traps cWREFRESH (BitVec.ofNat 64 (h.cue % 16384 / 512 * 2 ^ 16 + h.cue % 16384)) := by
  refine exec_word_trap hs rfl ?_
  subst ho
  have bounds : ¬((lane (h.getV .m a) 0).toNat % 4096 ≠ 0 ∨ 0x1f000 < (lane (h.getV .m a) 0).toNat) := by omega
  exact (if_neg bounds).trans (if_pos hrefresh)

/-! ### MDRAIN (06 R170) -/

omit hs in
/-- The columns of a drain. -/
def Here.drainCols (h : Here) (set : Fin 2) (row : Fin 32) (f : DrainFmt) : List (Nat × Bool) :=
  (h.st.arr.acc[rowIdx set row]).toList.map (drainLane h.ftz (h.st.arr.nan.getLsbD (rowIdx set row).val) f)

omit hs in
/-- The lanes of a drain: the columns, the flags of the row, zeros. -/
def Here.drainVec (h : Here) (set : Fin 2) (row : Fin 32) (f : DrainFmt) : Vec := ofLanes fun k =>
  if k < 32 then BitVec.ofNat 32 (((h.drainCols set row f).getD k (0, false)).1)
  else if k = 32 then BitVec.ofNat 32 ((h.st.arr.nan.getLsbD (rowIdx set row).val).toNat * 2 +
    (h.st.arr.sat.getLsbD (rowIdx set row).val || (h.drainCols set row f).any (·.2)).toNat)
  else 0

omit hs in
theorem Here.drainCols_any (h : Here) (set : Fin 2) (row : Fin 32) (f : DrainFmt) : (h.drainCols set row f).any (·.2) = true ↔
    ∃ k : Fin 32, (drainLane h.ftz (h.st.arr.nan.getLsbD (rowIdx set row).val) f (h.st.arr.acc[rowIdx set row])[k]).2 = true := by
  simp only [drainCols, List.any_map, List.any_eq_true, Function.comp]
  constructor
  · rintro ⟨c, hc, hsat⟩
    obtain ⟨i, hi, rfl⟩ := Vector.mem_iff_getElem.mp (Vector.mem_toList_iff.mp hc)
    exact ⟨⟨i, hi⟩, hsat⟩
  · rintro ⟨k, hsat⟩
    exact ⟨_, Vector.mem_toList_iff.mpr (Vector.getElem_mem k.isLt), hsat⟩

omit hs in
theorem Here.lane_drainVec (h : Here) (set : Fin 2) (row : Fin 32) (f : DrainFmt) (k : Fin 32) : lane (h.drainVec set row f) k.val =
    BitVec.ofNat 32 (drainLane h.ftz (h.st.arr.nan.getLsbD (rowIdx set row).val) f (h.st.arr.acc[rowIdx set row])[k]).1 := by
  rw [drainVec, lane_ofLanes _ (by omega), if_pos k.isLt]
  simp [drainCols]

theorem exec_mdrain (r : Dst) (set : Fin 2) (row : Fin 32) (f : DrainFmt) : exec (.mdrain r set row f) s =
    h.becomes (if (h.drainCols set row f).any (·.2) then (h.st.resV .m h.cue 3 r (h.drainVec set row f) allLanes).fly1 h.cue 3 (.satSet set row)
      else h.st.resV .m h.cue 3 r (h.drainVec set row f) allLanes) :=
  exec_word_ok hs rfl rfl

/-! ### MFLAGS (06 R171) -/

omit hs in
/-- The flags of a set, a row a bit. -/
def Here.flagsVec (h : Here) (set : Fin 2) : Vec :=
  ofLanes fun k => if k = 0 then ((h.st.arr.sat ||| h.st.arr.nan) >>> (32 * set.val)).setWidth 32 else 0

omit hs in
theorem Here.getLsbD_flagsVec (h : Here) (set : Fin 2) {i : Nat} (hi : i < 32) :
    (lane (h.flagsVec set) 0).getLsbD i = (h.st.arr.sat ||| h.st.arr.nan).getLsbD (32 * set.val + i) := by
  rw [flagsVec, lane_ofLanes _ (by decide), if_pos rfl, BitVec.getLsbD_setWidth, BitVec.getLsbD_ushiftRight, decide_eq_true hi, Bool.true_and]

theorem exec_mflags (r : Dst) (set : Fin 2) : exec (.mflags r set) s = h.becomes (h.st.resV .m h.cue 3 r (h.flagsVec set) allLanes) :=
  exec_word_ok hs rfl rfl

end
end Sys2Proof.Machine

open Sys2Proof Sys2Proof.Machine

/-- Settles O35: each word is its result in flight (`exec_word_ok`); what lands is one of the named forms of the array; the arithmetic is the
rounding to even (`rneShift_near`), the normal form, and the drain by the one comparison `fpEncode_inf_iff`. -/
theorem matrixWords : Obligations.MatrixWords := by
  unfold Obligations.MatrixWords
  refine ⟨fun s h r a set row b syn sp pw wa wb st f hs => ?_, fun x set row off i => ?_, fun v k => ⟨fun hk => if_pos hk, fun hk => rneShift_near v hk⟩,
    fun S Z hS => ?_, fun A X P Y p y hn => ?_, fun x set row par hp => ?_, fun x set row d => ?_, fun v n par cn q => ?_, synSlices_sum,
    fun ftz c f => ?_⟩
  · refine ⟨exec_mloadbW hs rfl, exec_mloadbW_bounds hs rfl, exec_mloadbW_refresh hs rfl, exec_word_ok hs rfl rfl, exec_word_ok hs rfl rfl,
      exec_word_ok hs rfl rfl, exec_word_ok hs rfl rfl, exec_word_ok hs rfl rfl, exec_word_ok hs rfl rfl, exec_word_ok hs rfl rfl,
      exec_word_ok hs rfl rfl, exec_word_ok hs rfl rfl,
      ⟨h.drainVec set row f, (h.drainCols set row f).any (·.2), h.drainCols_any set row f, h.lane_drainVec set row f, ?_, fun k hk hk' => ?_,
        exec_mdrain hs r set row f⟩,
      ⟨h.flagsVec set, exec_mflags hs r set, fun i hi => h.getLsbD_flagsVec set hi, fun k hk hk' => ?_⟩⟩
    · exact lane_ofLanes _ (by decide)
    · rw [Here.drainVec, lane_ofLanes _ hk', if_neg (by omega), if_neg (by omega)]
    · rw [Here.flagsVec, lane_ofLanes _ hk', if_neg (by omega)]
  · have sat := x.applyMzero_sat set i
    have nan := x.applyMzero_nan set i
    have acc := x.applyMzero_acc set i
    refine ⟨⟨rfl, rfl, rfl, rfl⟩, fun hi => ?_, fun hi => ?_, fun fold hnone => ArrayState.applyMacc_none hnone fold, fun par fold hpar => ?_,
      fun st v n hx => ?_⟩
    · rw [sat, nan, acc, hi]
      simp
    · rw [sat, nan, acc, if_neg hi, bne_iff_ne.mpr hi, Bool.and_true, Bool.and_true]
      exact ⟨rfl, rfl, rfl⟩
    · have self : (x.applyMacc set row fold).part[partIdx set row par] = (x.part[partIdx set row par]).closed := by
        rw [ArrayState.applyMacc_part hpar, ArrayState.closePart_self]
      refine ⟨by rw [self]; exact ⟨rfl, rfl⟩, fun j hj => ArrayState.applyMacc_acc_other hpar fold hj, fun hf => ?_⟩
      rw [hf, ArrayState.applyMacc_drop hpar]
      exact ⟨rfl, rfl⟩
    · subst hx
      exact ⟨rfl, rfl, rfl, rfl, rfl, rfl⟩
  · rw [Int.abs_eq_natAbs] at hS ⊢
    refine ⟨normal_zero Z, fun h1 h2 => normal_of_normal ?_ ?_ Z, fun h1 => normal_of_large ?_ ?_ Z, fun h1 h2 => normal_of_small h1 ?_ Z⟩ <;> omega
  · have hp : (normal (P, Y)).1 = p := by rw [hn]
    have hy : (normal (P, Y)).2 = y := by rw [hn]
    refine ⟨foldAcc_zero _ Y, fun hP => ?_, fun hP hA hle => ?_, fun hP hA hlt => ?_⟩
    · rw [foldAcc_first hP, hn]
    · subst hp hy; exact foldAcc_of_le hP hA hle
    · subst hp hy; exact foldAcc_of_lt hP hA hlt
  · refine ⟨fun hnan => ?_, fun hnan => ?_⟩
    · rw [ArrayState.applyMacc_nan hp hnan]
      exact ⟨rfl, fun i hi => getLsbD_or_one x.nan _ hi⟩
    · rw [ArrayState.applyMacc_fold hp hnan]
      refine ⟨rfl, fun cn => ?_⟩
      rw [getElem_set_fin, if_pos rfl]
      exact Vector.getElem_ofFn cn.isLt
  · intro p y q
    have hq : q = p.pushed d := x.applyDelta_self set row d
    refine ⟨by rw [hq]; rfl, by rw [hq]; rfl, by rw [hq]; rfl, by rw [hq]; rfl, by rw [hq]; exact p.pushed_pnan d, fun cn => ?_,
      fun par hpar hnew hopen => ⟨x.applyDelta_opens set row d hpar hnew hopen, ?_⟩, rfl, fun i h0 h1 => x.applyDelta_other set row d h0 h1⟩
    · have sum : q.p[cn] = wrap48 (p.p[cn] + d.dp[cn]) := by
        rw [hq]
        simp only [Partial.pushed, Fin.getElem_fin, Vector.getElem_zipWith]
      rw [sum]
      exact wrap48_spec _
    · rw [hq, Partial.pushed, hnew]
      rfl
  · refine ⟨v.delta_dp n par cn, rfl, ?_, rfl, rfl, v.term_eq q cn.val, fun hdense k => ?_, fun hstep a b => if_pos hstep⟩
    · simp only [PushView.delta, Fin.getElem_fin, Vector.getElem_ofFn]
    · simp only [PushView.aElem, hdense, Bool.not_false, if_true]
  · refine ⟨drain32_nan ftz c, drain32_zero ftz c, fun h0 hinf => ?_, fun h0 hfin => ?_, fun nan => drainLane_fp32 ftz c nan, ?_, ?_,
      drainLane_narrow ftz c⟩
    · rw [fpEncode_inf_iff _ (Int.natAbs_ne_zero.mpr h0)] at hinf
      simp only [drain32_beyond ftz c h0 hinf, decide_eq_true_eq]
    · exact drain32_within ftz c h0 (mt (fpEncode_inf_iff _ (Int.natAbs_ne_zero.mpr h0) _).mpr hfin)
    · rw [drainLane_nan ftz c (by decide), show (drainFp .bf16).nanEnc = 0x7fc0 by decide]
    · rw [drainLane_nan ftz c (by decide), show (drainFp .fp16).nanEnc = 0x7e00 by decide]

end

section
/-! SUPPORT. Magnitudes of values and their logarithm (02 R57, R62). -/
namespace Sys2Proof.Machine

/-! ### Magnitudes -/

/-- The rational a magnitude stands for. -/
def magRat (p : Nat × Int) : ℚ := p.1 * 2 ^ p.2

theorem magRat_nonneg (p : Nat × Int) : 0 ≤ magRat p := by unfold magRat; positivity

theorem magRat_eq_zero_iff (p : Nat × Int) : magRat p = 0 ↔ p.1 = 0 := by
  rw [magRat, mul_eq_zero, Nat.cast_eq_zero, or_iff_left (by positivity)]

theorem abs_rat (x : Val) : |x.rat| = magRat x.mag := by
  cases x with
  | nan => simp [Val.rat, Val.mag, magRat]
  | inf s => simp [Val.rat, Val.mag, magRat]
  | fin s m e =>
    have hpow : (0 : ℚ) ≤ m * 2 ^ e := by positivity
    cases s <;> simp [Val.rat, Val.mag, magRat, abs_of_nonneg hpow]

/-- A magnitude on a grid no coarser than its own. -/
theorem magRat_scaled (m : Nat) (e q : Int) (hq : q ≤ e) : magRat (m, e) = ((m * 2 ^ (e - q).toNat : Nat) : ℚ) * 2 ^ q := by
  have := scaled_cast false m e q hq
  simpa [scaled, Val.rat, magRat] using this.symm

theorem magRat_magMax (a b : Nat × Int) : magRat (magMax a b) = max (magRat a) (magRat b) := by
  obtain ⟨m, e⟩ := a
  obtain ⟨n, f⟩ := b
  have hpos : (0 : ℚ) < 2 ^ min e f := by positivity
  have lt_iff : m * 2 ^ (e - min e f).toNat < n * 2 ^ (f - min e f).toNat ↔ magRat (m, e) < magRat (n, f) := by
    rw [magRat_scaled m e _ (min_le_left e f), magRat_scaled n f _ (min_le_right e f), mul_lt_mul_iff_left₀ hpos, Nat.cast_lt]
  simp only [magMax, lt_iff]
  split
  · next h => exact (max_eq_right h.le).symm
  · next h => exact (max_eq_left (not_lt.mp h)).symm

/-- One value taken into the largest magnitude so far. -/
def maxStep (a : Nat × Int) (x : Val) : Nat × Int := if x.isZero then a else if a.1 == 0 then x.mag else magMax a x.mag

theorem maxMag_eq_foldl (xs : List Val) : maxMag xs = xs.foldl maxStep (0, 0) := rfl

theorem magRat_maxStep (a : Nat × Int) (x : Val) : magRat (maxStep a x) = max (magRat a) |x.rat| := by
  rw [abs_rat, maxStep]
  split
  · next hz =>
    have zero : magRat x.mag = 0 := by
      rw [magRat_eq_zero_iff]
      cases x <;> simp [Val.isZero, Val.mag] at hz ⊢
      exact hz
    rw [zero, max_eq_left (magRat_nonneg a)]
  · split
    · next ha =>
      rw [(magRat_eq_zero_iff a).mpr (by simpa using ha), max_eq_right (magRat_nonneg x.mag)]
    · exact magRat_magMax a x.mag

theorem magRat_foldl_le {b : ℚ} (xs : List Val) : ∀ a : Nat × Int, magRat a ≤ b → (∀ y ∈ xs, |y.rat| ≤ b) → magRat (xs.foldl maxStep a) ≤ b := by
  induction xs with
  | nil => exact fun a ha _ => ha
  | cons x xs ih =>
    intro a ha hxs
    refine ih _ ?_ fun y hy => hxs y (List.mem_cons_of_mem _ hy)
    rw [magRat_maxStep]
    exact max_le ha (hxs x List.mem_cons_self)

theorem le_magRat_foldl (xs : List Val) : ∀ a : Nat × Int,
    magRat a ≤ magRat (xs.foldl maxStep a) ∧ ∀ y ∈ xs, |y.rat| ≤ magRat (xs.foldl maxStep a) := by
  induction xs with
  | nil => exact fun a => ⟨le_rfl, fun y hy => absurd hy List.not_mem_nil⟩
  | cons x xs ih =>
    intro a
    obtain ⟨start, rest⟩ := ih (maxStep a x)
    rw [magRat_maxStep] at start
    refine ⟨(le_max_left _ _).trans start, fun y hy => ?_⟩
    rcases List.mem_cons.mp hy with rfl | hy
    · exact (le_max_right _ _).trans start
    · exact rest y hy

/-- The largest magnitude of a list is that of a value no other exceeds. -/
theorem magRat_maxMag {xs : List Val} {x : Val} (hx : x ∈ xs) (hmax : ∀ y ∈ xs, |y.rat| ≤ |x.rat|) : magRat (maxMag xs) = |x.rat| := by
  rw [maxMag_eq_foldl]
  exact le_antisymm (magRat_foldl_le xs (0, 0) (by simp [magRat]) hmax) ((le_magRat_foldl xs (0, 0)).2 x hx)

theorem maxMag_eq_zero {xs : List Val} (h : ∀ x ∈ xs, x.rat = 0) : (maxMag xs).1 = 0 := by
  have le : magRat (maxMag xs) ≤ 0 := magRat_foldl_le xs (0, 0) (by simp [magRat]) fun y hy => by rw [h y hy, abs_zero]
  exact (magRat_eq_zero_iff _).mp (le_antisymm le (magRat_nonneg _))

/-! ### The logarithm of a magnitude -/

theorem floorLog2_bounds {m : Nat} (hm : m ≠ 0) (e : Int) : (2 : ℚ) ^ floorLog2 m e ≤ magRat (m, e) ∧ magRat (m, e) < 2 ^ (floorLog2 m e + 1) := by
  have hpos : (0 : ℚ) < 2 ^ e := by positivity
  have low : ((2 ^ m.log2 : Nat) : ℚ) ≤ m := Nat.cast_le.mpr (Nat.log2_self_le hm)
  have high : (m : ℚ) < ((2 ^ (m.log2 + 1) : Nat) : ℚ) := Nat.cast_lt.mpr Nat.lt_log2_self
  push_cast at low high
  constructor
  · rw [floorLog2, ilog2, zpow_add₀ two_ne_zero, zpow_natCast]
    exact mul_le_mul_of_nonneg_right low hpos.le
  · rw [floorLog2, ilog2, show ((m.log2 : Int) + e + 1) = ((m.log2 + 1 : Nat) : Int) + e by push_cast; ring, zpow_add₀ two_ne_zero, zpow_natCast]
    exact mul_lt_mul_of_pos_right high hpos

theorem magRat_lt_zpow_iff {m : Nat} (hm : m ≠ 0) (e k : Int) : magRat (m, e) < 2 ^ k ↔ floorLog2 m e < k := by
  obtain ⟨low, high⟩ := floorLog2_bounds hm e
  constructor
  · intro h
    exact (zpow_lt_zpow_iff_right₀ one_lt_two).mp (low.trans_lt h)
  · intro h
    exact high.trans_le (zpow_le_zpow_right₀ one_le_two (by omega))

theorem floorLog2_eq {m : Nat} {e k : Int} (hlow : (2 : ℚ) ^ k ≤ magRat (m, e)) (hhigh : magRat (m, e) < 2 ^ (k + 1)) : floorLog2 m e = k := by
  have hm : m ≠ 0 := by
    rintro rfl
    have : (0 : ℚ) < 2 ^ k := by positivity
    simp [magRat] at hlow
    linarith
  have h1 := (magRat_lt_zpow_iff hm e (k + 1)).mp hhigh
  have h2 := mt (magRat_lt_zpow_iff hm e k).mpr (not_lt.mpr hlow)
  omega

theorem magBelow_iff (m : Nat) (e k : Int) : magBelow m e k = true ↔ magRat (m, e) < 2 ^ k := by
  by_cases hm : m = 0
  · subst hm
    have : (0 : ℚ) < 2 ^ k := by positivity
    simp [magBelow, magRat, this]
  · rw [magRat_lt_zpow_iff hm, magBelow, beq_false_of_ne hm, Bool.false_or, decide_eq_true_eq]

end Sys2Proof.Machine
end

section
/-! SUPPORT. What the block codec gives (02 R55 to R58). -/
namespace Sys2Proof.Machine

/-! ### The scale and the sub-shifts (02 R57) -/

/-- The biased scale that takes the largest magnitude of a list to exponent `top`, within 0 and 254; 0 for zeros. -/
def scaleOf (xs : List Val) (top : Int) : Nat :=
  if (maxMag xs).1 == 0 then 0 else (min 254 (max 0 (floorLog2 (maxMag xs).1 (maxMag xs).2 - top + 127))).toNat

theorem scaleOf_le (xs : List Val) (top : Int) : scaleOf xs top ≤ 254 := by unfold scaleOf; split <;> omega

theorem scaleOf_zeros {xs : List Val} (h : ∀ x ∈ xs, x.rat = 0) (top : Int) : scaleOf xs top = 0 := by
  rw [scaleOf, maxMag_eq_zero h]; rfl

theorem scaleOf_eq {xs : List Val} {x : Val} {k : Int} (hx : x ∈ xs) (hmax : ∀ y ∈ xs, |y.rat| ≤ |x.rat|) (hlow : (2 : ℚ) ^ k ≤ |x.rat|)
    (hhigh : |x.rat| < 2 ^ (k + 1)) (top : Int) : (scaleOf xs top : Int) = min 254 (max 0 (k - top + 127)) := by
  rw [← magRat_maxMag hx hmax] at hlow hhigh
  have log : floorLog2 (maxMag xs).1 (maxMag xs).2 = k := floorLog2_eq hlow hhigh
  have hpos : (0 : ℚ) < 2 ^ k := by positivity
  have ne : (maxMag xs).1 ≠ 0 := fun h => by rw [(magRat_eq_zero_iff _).mpr h] at hlow; linarith
  rw [scaleOf, beq_false_of_ne ne, log]
  simp only [Bool.false_eq_true, if_false]
  omega

theorem subShift_ok_iff (w e s : Nat) (hw : 1 ≤ w) (mx : Nat × Int) :
    magBelow mx.1 (mx.2 + 127 - e + s) (w - 1) = true ↔ magRat mx * 2 ^ (127 - (e : Int) + s) < 2 ^ (w - 1) := by
  have pow : (2 : ℚ) ^ ((w : Int) - 1) = 2 ^ (w - 1) := by rw [← zpow_natCast]; congr 1; omega
  have split : magRat (mx.1, mx.2 + 127 - e + s) = magRat mx * 2 ^ (127 - (e : Int) + s) := by
    rw [magRat, magRat, mul_assoc, ← zpow_add₀ two_ne_zero]; congr 2; ring
  rw [magBelow_iff, pow, split]

/-- The sub-shift is the largest of 0 to 3 that keeps the sub-block in range. -/
theorem subShift_spec (w e : Nat) (hw : 1 ≤ w) (mx : Nat × Int) :
    let s := subShift w e mx
    s ≤ 3 ∧ (s ≠ 0 → magRat mx * 2 ^ (127 - (e : Int) + s) < 2 ^ (w - 1)) ∧
      ∀ t, s < t → t ≤ 3 → (2 : ℚ) ^ (w - 1) ≤ magRat mx * 2 ^ (127 - (e : Int) + t) := by
  simp only [← not_lt, ← subShift_ok_iff w e _ hw]
  unfold subShift
  simp only
  split
  · next h3 => exact ⟨by omega, fun _ => h3, fun t ht ht' => by omega⟩
  · next h3 =>
    split
    · next h2 => exact ⟨by omega, fun _ => h2, fun t ht ht' => by obtain rfl : t = 3 := (by omega); exact h3⟩
    · next h2 =>
      split
      · next h1 =>
        refine ⟨by omega, fun _ => h1, fun t ht ht' => ?_⟩
        obtain rfl | rfl : t = 2 ∨ t = 3 := by omega
        · exact h2
        · exact h3
      · next h1 =>
        refine ⟨by omega, fun h => absurd rfl h, fun t ht ht' => ?_⟩
        obtain rfl | rfl | rfl : t = 1 ∨ t = 2 ∨ t = 3 := by omega
        · exact h1
        · exact h2
        · exact h3

/-! ### The block of a list of values (02 R57) -/

section
variable {xs : List Val} {w : Nat} {rm : Rnd} {rb : Nat → Nat}

theorem encodeBlock_special (h : ∃ x ∈ xs, x.special = true) : encodeBlock xs w rm rb = ⟨0xff, List.replicate 8 0, List.replicate 256 0⟩ :=
  if_pos (List.any_eq_true.mpr h)

/-- The sub-shifts of a block whose scale is `e`. -/
def subShifts (xs : List Val) (w e : Nat) : List Nat := (List.range 8).map fun j => subShift w e (maxMag ((xs.drop (32 * j)).take 32))

theorem encodeBlock_fin (h : ∀ x ∈ xs, x.special = false) : encodeBlock xs w rm rb =
    let e := scaleOf xs ((w : Int) - 2)
    let sh := subShifts xs w e
    ⟨e, sh, xs.zipIdx.map fun x => roundScaled rm (rb x.2) (127 - (e : Int) + sh.getD (x.2 / 32) 0) (2 ^ (w - 1) - 1) x.1⟩ :=
  if_neg (by rw [List.any_eq_true]; rintro ⟨x, hx, hs⟩; rw [h x hx] at hs; cases hs)

theorem subShifts_getD {j : Nat} (hj : j < 8) (e : Nat) : (subShifts xs w e).getD j 0 = subShift w e (maxMag ((xs.drop (32 * j)).take 32)) := by
  simp [subShifts, hj]

end

theorem roundScaled_fin (rm : Rnd) (rb : Nat) (k lim : Int) (s : Bool) (m : Nat) (e : Int) : roundScaled rm rb k lim (.fin s m e) =
    max (-lim) (min lim ((if s then -1 else 1) * (roundQuantum rm s m (e + k) 0 rb : Int))) := by
  simp only [roundScaled, toInt]
  cases s <;> simp

theorem abs_roundScaled_le (rm : Rnd) (rb : Nat) (k : Int) {lim : Int} (hl : 0 ≤ lim) (v : Val) :
    -lim ≤ roundScaled rm rb k lim v ∧ roundScaled rm rb k lim v ≤ lim := by
  cases v with
  | nan => simp only [roundScaled]; omega
  | inf s => simp only [roundScaled]; omega
  | fin s m e => rw [roundScaled_fin]; omega

/-! ### The fields of the block -/

theorem widthBits_pos (w : Width) : 1 ≤ widthBits w := by cases w <;> decide

theorem encodeBlock_mant {xs : List Val} {w : Nat} {rm : Rnd} {rb : Nat → Nat} (h : ∀ x ∈ xs, x.special = false) {i : Nat} {s : Bool} {m : Nat}
    {e : Int} (hi : xs[i]? = some (.fin s m e)) :
    let b := encodeBlock xs w rm rb
    let lim : Int := 2 ^ (w - 1) - 1
    b.m[i]? = some (max (-lim) (min lim
      ((if s then -1 else 1) * (roundQuantum rm s m (e + (127 - (b.e : Int) + b.sh.getD (i / 32) 0)) 0 (rb i) : Int)))) := by
  rw [encodeBlock_fin h]
  simp only [List.getElem?_map, List.getElem?_zipIdx, hi, Option.map_some, Nat.zero_add, roundScaled_fin]

theorem encodeBlock_shift {xs : List Val} {w : Nat} (hw : 1 ≤ w) {rm : Rnd} {rb : Nat → Nat} (h : ∀ x ∈ xs, x.special = false) {j : Nat} (hj : j < 8)
    {x : Val} (hx : x ∈ (xs.drop (32 * j)).take 32) (hmax : ∀ y ∈ (xs.drop (32 * j)).take 32, |y.rat| ≤ |x.rat|) :
    let b := encodeBlock xs w rm rb
    let s := b.sh.getD j 0
    s ≤ 3 ∧ (s ≠ 0 → |x.rat| * 2 ^ (127 - (b.e : Int) + s) < 2 ^ (w - 1)) ∧
      ∀ t, s < t → t ≤ 3 → (2 : ℚ) ^ (w - 1) ≤ |x.rat| * 2 ^ (127 - (b.e : Int) + t) := by
  rw [encodeBlock_fin h]
  simp only [subShifts_getD hj, ← magRat_maxMag hx hmax]
  exact subShift_spec w _ hw _

end Sys2Proof.Machine
end

section
/-! SUPPORT. The image of a block (02 R55, R56). -/
namespace Sys2Proof.Machine

/-! ### Fields of an image -/

theorem unpackInts_getD (w n : Nat) : ∀ {x i : Nat}, i < n → (unpackInts w n x).getD i 0 = sextNat w (x / 2 ^ (w * i)) := by
  induction n with
  | zero => exact fun h => absurd h (Nat.not_lt_zero _)
  | succ n ih =>
    intro x i hi
    cases i with
    | zero => simp [unpackInts]
    | succ i =>
      rw [unpackInts, List.getD_cons_succ, ih (Nat.lt_of_succ_lt_succ hi), Nat.div_div_eq_div_mul, ← pow_add, Nat.mul_succ, Nat.add_comm w]

/-- A signed field is the two's complement value of its bits. -/
theorem sextNat_eq_toInt (w x : Nat) : sextNat w x = (BitVec.ofNat w x).toInt := by
  rw [sextNat, BitVec.toInt_eq_toNat_cond, BitVec.toNat_ofNat]

/-- A number in the range of a width is read back from its field, whatever stands above it. -/
theorem sextNat_field {w : Nat} (hw : 1 ≤ w) {m : Int} (hlow : -2 ^ (w - 1) ≤ m) (hhigh : m < 2 ^ (w - 1)) (r : Nat) :
    sextNat w ((m % (2 ^ w : Nat)).toNat + 2 ^ w * r) = m := by
  obtain ⟨v, rfl⟩ := Nat.exists_eq_add_of_le' hw
  rw [Nat.add_sub_cancel] at hlow hhigh
  have pow : 2 ^ (v + 1) = 2 * 2 ^ v := Nat.pow_succ'
  have hpos := Nat.two_pow_pos v
  have hlow' : -((2 ^ v : Nat) : Int) ≤ m := by push_cast; exact hlow
  have hhigh' : m < ((2 ^ v : Nat) : Int) := by push_cast; exact hhigh
  have lt : (m % (2 ^ (v + 1) : Nat)).toNat < 2 ^ (v + 1) := by
    have := Int.emod_lt_of_pos m (b := (2 ^ (v + 1) : Nat)) (by positivity)
    omega
  rw [sextNat, Nat.add_mul_mod_self_left, Nat.mod_eq_of_lt lt]
  clear lt hlow hhigh
  rw [pow]
  generalize 2 ^ v = B at *
  by_cases hm : 0 ≤ m
  · have mod : m % ((2 * B : Nat) : Int) = m := Int.emod_eq_of_lt hm (by omega)
    rw [mod, if_pos (by omega)]
    omega
  · have mod : m % ((2 * B : Nat) : Int) = m + (2 * B : Nat) := by
      rw [← Int.add_emod_right, Int.emod_eq_of_lt (by omega) (by omega)]
    rw [mod, if_neg (by omega)]
    omega

theorem unpackInts_packInts {w : Nat} (hw : 1 ≤ w) (ms : List Int) (h : ∀ m ∈ ms, -2 ^ (w - 1) ≤ m ∧ m < 2 ^ (w - 1)) :
    unpackInts w ms.length (packInts w ms) = ms := by
  induction ms with
  | nil => rfl
  | cons m ms ih =>
    obtain ⟨hlow, hhigh⟩ := h m List.mem_cons_self
    have lt : (m % (2 ^ w : Nat)).toNat < 2 ^ w := by
      have := Int.emod_lt_of_pos m (b := (2 ^ w : Nat)) (by positivity)
      omega
    have rest : packInts w (m :: ms) / 2 ^ w = packInts w ms := by
      rw [packInts, Nat.add_mul_div_left _ _ (Nat.two_pow_pos w), Nat.div_eq_of_lt lt, Nat.zero_add]
    rw [List.length_cons, unpackInts, rest, ih fun x hx => h x (List.mem_cons_of_mem _ hx), packInts, sextNat_field hw hlow hhigh]

/-! ### The header (02 R55) -/

/-- Sub-shifts as one number, two bits each. -/
def packShifts (sh : List Nat) : Nat := sh.foldr (fun s a => s % 4 + 4 * a) 0

theorem packShifts_lt (sh : List Nat) : packShifts sh < 4 ^ sh.length := by
  induction sh with
  | nil => exact Nat.one_pos
  | cons s sh ih =>
    have hs : s % 4 < 4 := Nat.mod_lt _ (by decide)
    rw [List.length_cons, Nat.pow_succ']
    show s % 4 + 4 * packShifts sh < 4 * 4 ^ sh.length
    omega

theorem packShifts_digit (sh : List Nat) (r : Nat) : ∀ j < sh.length, (packShifts sh + 4 ^ sh.length * r) / 4 ^ j % 4 = sh.getD j 0 % 4 := by
  induction sh with
  | nil => exact fun j hj => absurd hj (Nat.not_lt_zero _)
  | cons s sh ih =>
    intro j hj
    have cons : packShifts (s :: sh) + 4 ^ (s :: sh).length * r = s % 4 + 4 * (packShifts sh + 4 ^ sh.length * r) := by
      rw [List.length_cons, Nat.pow_succ']
      show s % 4 + 4 * packShifts sh + 4 * 4 ^ sh.length * r = _
      ring
    cases j with
    | zero => rw [cons, List.getD_cons_zero, Nat.pow_zero, Nat.div_one]; omega
    | succ j =>
      have shift : (s % 4 + 4 * (packShifts sh + 4 ^ sh.length * r)) / 4 = packShifts sh + 4 ^ sh.length * r := by omega
      rw [cons, Nat.pow_succ', ← Nat.div_div_eq_div_mul, shift, List.getD_cons_succ]
      exact ih j (Nat.lt_of_succ_lt_succ hj)

/-- A block whose fields fit a width. -/
structure Blk.Fits (b : Blk) (w : Nat) : Prop where
  e : b.e < 256
  sh_length : b.sh.length = 8
  sh : ∀ s ∈ b.sh, s < 4
  m_length : b.m.length = 256
  m : ∀ x ∈ b.m, -2 ^ (w - 1) ≤ x ∧ x < 2 ^ (w - 1)

/-- A block is read back from its image. -/
theorem Blk.Fits.blkOf_image {b : Blk} {w : Nat} (hw : 1 ≤ w) (h : b.Fits w) : blkOf w (b.image w) = b := by
  obtain ⟨he, hsl, hs, hml, hm⟩ := h
  have image : b.image w = b.e + 256 * (packShifts b.sh + 4 ^ b.sh.length * (256 * packInts w b.m)) := by
    rw [hsl]
    show b.e + 2 ^ 8 * packShifts b.sh + 2 ^ 32 * packInts w b.m = _
    ring
  have payload : b.image w / 2 ^ 32 = packInts w b.m := by
    have lt := packShifts_lt b.sh
    rw [hsl] at lt
    rw [image, hsl]
    omega
  have scale : b.image w % 256 = b.e := by rw [image]; omega
  have shifts : (List.range 8).map (hdrShift (b.image w)) = b.sh := by
    refine List.ext_getElem (by rw [List.length_map, List.length_range, hsl]) fun j h1 h2 => ?_
    have high : b.image w / 256 = packShifts b.sh + 4 ^ b.sh.length * (256 * packInts w b.m) := by rw [image]; omega
    have pow : 2 ^ (8 + 2 * j) = 256 * 4 ^ j := by rw [pow_add, pow_mul]; norm_num
    rw [List.getElem_map, List.getElem_range, hdrShift, pow, ← Nat.div_div_eq_div_mul, high, packShifts_digit b.sh _ j h2,
      List.getD_eq_getElem _ _ h2]
    exact Nat.mod_eq_of_lt (hs _ (List.getElem_mem h2))
  have mants : unpackInts w 256 (b.image w / 2 ^ 32) = b.m := by rw [payload, ← hml]; exact unpackInts_packInts hw b.m hm
  rw [blkOf, scale, shifts, mants]

theorem fits_nanBlock (w : Nat) : (⟨0xff, List.replicate 8 0, List.replicate 256 0⟩ : Blk).Fits w where
  e := by decide
  sh_length := List.length_replicate
  sh := fun s hs => by rw [List.eq_of_mem_replicate hs]; decide
  m_length := List.length_replicate
  m := fun x hx => by rw [List.eq_of_mem_replicate hx]; exact ⟨by simp, by positivity⟩

/-- The block of 256 values fits its width. -/
theorem fits_encodeBlock {xs : List Val} {w : Nat} (hw : 1 ≤ w) (rm : Rnd) (rb : Nat → Nat) (hlen : xs.length = 256) : (encodeBlock xs w rm rb).Fits w := by
  by_cases h : ∃ x ∈ xs, x.special = true
  · rw [encodeBlock_special h]; exact fits_nanBlock w
  · have fin : ∀ x ∈ xs, x.special = false := fun x hx => Bool.eq_false_iff.mpr fun hs => h ⟨x, hx, hs⟩
    have hpow : (0 : Int) < 2 ^ (w - 1) := by positivity
    have hlim : (0 : Int) ≤ 2 ^ (w - 1) - 1 := by omega
    rw [encodeBlock_fin fin]
    exact {
      e := by have := scaleOf_le xs ((w : Int) - 2); simp only; omega
      sh_length := by simp [subShifts]
      sh := fun s hs => by
        obtain ⟨j, -, rfl⟩ := List.mem_map.mp hs
        exact Nat.lt_succ_of_le (subShift_spec w _ hw _).1
      m_length := by simp [hlen]
      m := fun m hm => by
        obtain ⟨y, -, rfl⟩ := List.mem_map.mp hm
        obtain ⟨low, high⟩ := abs_roundScaled_le rm (rb y.2) (127 - (scaleOf xs ((w : Int) - 2) : Int) +
          (subShifts xs w (scaleOf xs ((w : Int) - 2))).getD (y.2 / 32) 0) hlim y.1
        exact ⟨by omega, by omega⟩ }

/-! ### Elements (02 R56) -/

theorem Blk.val_nan {b : Blk} (h : b.e = 0xff) (i : Nat) : b.val i = .nan := by simp [Blk.val, h]

theorem rat_signed (m e : Int) : (Val.fin (decide (m < 0)) m.natAbs e).rat = (m : ℚ) * 2 ^ e := by
  have abs : ((m.natAbs : Nat) : ℚ) = |(m : ℚ)| := by rw [Nat.cast_natAbs, Int.cast_abs]
  by_cases hm : m < 0
  · have hq : (m : ℚ) < 0 := by exact_mod_cast hm
    simp only [Val.rat, hm, decide_true, if_true, abs, abs_of_neg hq]; ring
  · have hq : (0 : ℚ) ≤ m := by exact_mod_cast Int.not_lt.mp hm
    simp only [Val.rat, hm, decide_false, Bool.false_eq_true, if_false, abs, abs_of_nonneg hq]; ring

theorem Blk.val_of_ne {b : Blk} (h : b.e ≠ 0xff) (i : Nat) :
    b.val i = .fin (decide (b.m.getD i 0 < 0)) (b.m.getD i 0).natAbs ((b.e : Int) - 127 - b.sh.getD (i / 32) 0) := by
  rw [Blk.val, beq_false_of_ne h]
  rfl

end Sys2Proof.Machine
end

section
/-! SUPPORT. Elements of MX formats on the grid of their layout (02 R59, R62); then O31. -/
namespace Sys2Proof.Machine

/-! ### The grid of a layout -/

/-- The exponent of the least step of a layout. -/
def FpFmt.qmin (t : FpFmt) : Int := 1 - (t.bias : Int) - t.f

/-- The value of an encoding without sign, its exponent field unbounded and no encoding special. -/
def FpFmt.gridVal (t : FpFmt) (w : Nat) : ℚ :=
  if w < 2 ^ t.f then w * 2 ^ t.qmin else (2 ^ t.f + w % 2 ^ t.f : Nat) * 2 ^ (t.qmin + (w / 2 ^ t.f : Nat) - 1)

theorem gridVal_mul_add (t : FpFmt) (a : Nat) {r : Nat} (hr : r < 2 ^ t.f) :
    t.gridVal (2 ^ t.f * (a + 1) + r) = (2 ^ t.f + r : Nat) * 2 ^ (t.qmin + a) := by
  have hpos := Nat.two_pow_pos t.f
  have big : ¬2 ^ t.f * (a + 1) + r < 2 ^ t.f := by
    have := Nat.le_mul_of_pos_right (2 ^ t.f) (show 0 < a + 1 from Nat.succ_pos a)
    omega
  rw [FpFmt.gridVal, if_neg big, Nat.mul_add_mod, Nat.mod_eq_of_lt hr, Nat.mul_add_div hpos, Nat.div_eq_of_lt hr]
  congr 2
  push_cast
  ring

/-- The grid is in the order of its encodings. -/
theorem gridVal_le_succ (t : FpFmt) (w : Nat) : t.gridVal w ≤ t.gridVal (w + 1) := by
  have hpos := Nat.two_pow_pos t.f
  have hr : w % 2 ^ t.f < 2 ^ t.f := Nat.mod_lt _ hpos
  have div := Nat.div_add_mod w (2 ^ t.f)
  have step : (0 : ℚ) < 2 ^ t.qmin := by positivity
  rcases Nat.eq_zero_or_pos (w / 2 ^ t.f) with hq | hq
  · have hw : w < 2 ^ t.f := by rw [hq] at div; omega
    by_cases hc : w + 1 < 2 ^ t.f
    · rw [FpFmt.gridVal, FpFmt.gridVal, if_pos hw, if_pos hc]
      push_cast
      nlinarith
    · have carry : w + 1 = 2 ^ t.f * (0 + 1) + 0 := by omega
      rw [FpFmt.gridVal, if_pos hw, carry, gridVal_mul_add t 0 hpos]
      have : (w : ℚ) ≤ (2 ^ t.f + 0 : Nat) := by exact_mod_cast hw.le
      simpa using mul_le_mul_of_nonneg_right this step.le
  · obtain ⟨a, ha⟩ := Nat.exists_eq_add_of_le' hq
    rw [ha] at div
    generalize w % 2 ^ t.f = r at *
    have pow : (0 : ℚ) < 2 ^ (t.qmin + (a : Int)) := by positivity
    by_cases hc : r + 1 < 2 ^ t.f
    · rw [← div, Nat.add_assoc, gridVal_mul_add t a hr, gridVal_mul_add t a hc]
      exact mul_le_mul_of_nonneg_right (by push_cast; linarith) pow.le
    · have carry : 2 ^ t.f * (a + 1) + r + 1 = 2 ^ t.f * (a + 1 + 1) + 0 := by
        rw [Nat.mul_succ (2 ^ t.f) (a + 1)]; omega
      have exp : (2 : ℚ) ^ (t.qmin + ((a + 1 : Nat) : Int)) = 2 * 2 ^ (t.qmin + (a : Int)) := by
        rw [Nat.cast_succ, ← add_assoc, zpow_add_one₀ two_ne_zero, mul_comm]
      have hr' : ((2 ^ t.f + r : Nat) : ℚ) ≤ (2 ^ t.f : Nat) * 2 := by exact_mod_cast (by omega : 2 ^ t.f + r ≤ 2 ^ t.f * 2)
      rw [← div, carry, gridVal_mul_add t a hr, gridVal_mul_add t (a + 1) hpos, exp, Nat.add_zero, ← mul_assoc]
      exact mul_le_mul_of_nonneg_right hr' pow.le

theorem gridVal_mono (t : FpFmt) : Monotone t.gridVal := monotone_nat_of_le_succ (gridVal_le_succ t)

/-- An encoding of `n` steps of `2^q`, `n` a full fraction or `q` the least step. -/
theorem gridVal_encMag {t : FpFmt} {n : Nat} {q : Int} (hq : t.qmin ≤ q) (hn : n ≤ 2 * 2 ^ t.f) (hfull : q = t.qmin ∨ 2 ^ t.f ≤ n) :
    t.gridVal (t.encMag n q) = n * 2 ^ q := by
  obtain ⟨d, hd⟩ := Int.eq_ofNat_of_zero_le (sub_nonneg.mpr hq)
  have hq' : q = t.qmin + d := by omega
  have enc : t.encMag n q = d * 2 ^ t.f + n := by
    have : (q - (1 - (t.bias : Int) - t.f)).toNat = d := by rw [show (1 - (t.bias : Int) - t.f) = t.qmin from rfl]; omega
    rw [FpFmt.encMag, this]
  rw [enc, hq']
  by_cases hlow : n < 2 ^ t.f
  · obtain rfl : d = 0 := by omega
    rw [Nat.zero_mul, Nat.zero_add, FpFmt.gridVal, if_pos hlow]
    simp
  · obtain ⟨r, rfl⟩ := Nat.exists_eq_add_of_le (Nat.not_lt.mp hlow)
    by_cases hr : r < 2 ^ t.f
    · have : d * 2 ^ t.f + (2 ^ t.f + r) = 2 ^ t.f * (d + 1) + r := by ring
      rw [this, gridVal_mul_add t d hr]
    · obtain rfl : r = 2 ^ t.f := by omega
      have : d * 2 ^ t.f + (2 ^ t.f + 2 ^ t.f) = 2 ^ t.f * (d + 1 + 1) + 0 := by ring
      rw [this, gridVal_mul_add t (d + 1) (Nat.two_pow_pos _), Nat.cast_succ, ← add_assoc, zpow_add_one₀ two_ne_zero]
      push_cast
      ring

/-! ### Rounding onto the grid -/

/-- A magnitude rounds to a full fraction of its quantum, or on the least step to what is left. -/
theorem roundQuantum_quantum (t : FpFmt) (rm : Rnd) (s : Bool) {m : Nat} (hm : m ≠ 0) (e : Int) (rb : Nat) :
    let q := t.quantum m e
    t.qmin ≤ q ∧ roundQuantum rm s m e q rb ≤ 2 * 2 ^ t.f ∧ (q = t.qmin ∨ 2 ^ t.f ≤ roundQuantum rm s m e q rb) := by
  intro q
  have low := Nat.log2_self_le hm
  have high := Nat.lt_log2_self (n := m)
  have hq : q = max ((m.log2 : Int) + e - t.f) t.qmin := rfl
  refine ⟨by omega, ?_⟩
  by_cases hle : q ≤ e
  · obtain ⟨d, hd⟩ := Int.eq_ofNat_of_zero_le (sub_nonneg.mpr hle)
    have round : roundQuantum rm s m e q rb = m * 2 ^ d := by rw [roundQuantum, if_pos hle, hd]; rfl
    have upper : m * 2 ^ d < 2 * 2 ^ t.f := by
      calc m * 2 ^ d < 2 ^ (m.log2 + 1) * 2 ^ d := Nat.mul_lt_mul_of_pos_right high (Nat.two_pow_pos d)
        _ = 2 ^ (m.log2 + 1 + d) := (pow_add ..).symm
        _ ≤ 2 ^ (t.f + 1) := Nat.pow_le_pow_right (by decide) (by omega)
        _ = 2 * 2 ^ t.f := Nat.pow_succ'
    rw [round]
    refine ⟨upper.le, ?_⟩
    by_cases hmin : q = t.qmin
    · exact .inl hmin
    · right
      calc 2 ^ t.f = 2 ^ (m.log2 + d) := by congr 1; omega
        _ = 2 ^ m.log2 * 2 ^ d := pow_add ..
        _ ≤ m * 2 ^ d := Nat.mul_le_mul_right _ low
  · obtain ⟨k, hk⟩ := Int.eq_ofNat_of_zero_le (sub_nonneg.mpr (Int.not_le.mp hle).le)
    have round : m / 2 ^ k ≤ roundQuantum rm s m e q rb ∧ roundQuantum rm s m e q rb ≤ m / 2 ^ k + 1 := by
      have shift : (q - e).toNat = k := by omega
      rw [roundQuantum, if_neg hle]
      simp only [shift]
      split
      · omega
      · have := Bool.toNat_le (roundsUp rm s m k rb)
        omega
    have upper : m / 2 ^ k < 2 * 2 ^ t.f := by
      rw [Nat.div_lt_iff_lt_mul (Nat.two_pow_pos k), ← Nat.pow_succ', ← pow_add]
      exact high.trans_le (Nat.pow_le_pow_right (by decide) (by omega))
    refine ⟨by omega, ?_⟩
    by_cases hmin : q = t.qmin
    · exact .inl hmin
    · right
      refine le_trans ?_ round.1
      rw [Nat.le_div_iff_mul_le (Nat.two_pow_pos k), ← pow_add]
      exact le_trans (Nat.pow_le_pow_right (by decide) (by omega)) low

/-! ### Decoding (02 R45, R59) -/

/-- A layout whose encodings up to its largest are no specials and leave the sign free. -/
structure FpFmt.Sound (t : FpFmt) : Prop where
  lt : t.maxEnc < 2 ^ (t.f + t.x)
  ieee : t.top = .ieee → t.maxEnc / 2 ^ t.f < 2 ^ t.x - 1
  e4m3 : t.top = .e4m3 → t.maxEnc + 1 < 2 ^ (t.f + t.x)

theorem mxFp_sound {f : MxFmt} {t : FpFmt} (h : mxFp f = some t) : t.Sound ∧ t.f + t.x + 1 = mxBits f := by
  cases f <;> simp only [mxFp, Option.some.injEq, reduceCtorEq] at h <;> subst h <;>
    exact ⟨⟨by decide, by decide, by decide⟩, by decide⟩

theorem rat_fpDecode {t : FpFmt} (ht : t.Sound) (s : Bool) {w : Nat} (hw : w ≤ t.maxEnc) :
    (fpDecode t (t.signBit s + w)).rat = (if s then -1 else 1) * t.gridVal w := by
  obtain ⟨hlt, hieee, he4m3⟩ := ht
  have hpos := Nat.two_pow_pos t.f
  have hx := Nat.two_pow_pos t.x
  have hP : 2 ^ (t.f + t.x) = 2 ^ t.f * 2 ^ t.x := pow_add ..
  have hw' : w < 2 ^ t.f * 2 ^ t.x := by omega
  have sign : t.signBit s = 2 ^ t.f * (2 ^ t.x * s.toNat) := by cases s <;> simp [FpFmt.signBit, hP]
  have frac : (t.signBit s + w) % 2 ^ t.f = w % 2 ^ t.f := by rw [sign, Nat.mul_add_mod]
  have expo : (t.signBit s + w) / 2 ^ t.f % 2 ^ t.x = w / 2 ^ t.f := by
    rw [sign, Nat.mul_add_div hpos, Nat.mul_add_mod]
    exact Nat.mod_eq_of_lt (Nat.div_lt_of_lt_mul hw')
  have neg : ((t.signBit s + w) / 2 ^ (t.f + t.x) % 2 == 1) = s := by
    rw [sign, hP, ← Nat.mul_assoc, Nat.mul_add_div (by positivity), Nat.div_eq_of_lt hw']
    cases s <;> rfl
  have notIeee : (t.top == .ieee && w / 2 ^ t.f == 2 ^ t.x - 1) = false := by
    by_cases h : t.top = .ieee
    · have := hieee h
      have := Nat.div_le_div_right (c := 2 ^ t.f) hw
      rw [Bool.and_eq_false_iff]; right
      exact beq_false_of_ne (by omega)
    · rw [Bool.and_eq_false_iff]; left
      exact beq_false_of_ne h
  have notE4m3 : (t.top == .e4m3 && w / 2 ^ t.f == 2 ^ t.x - 1 && w % 2 ^ t.f == 2 ^ t.f - 1) = false := by
    by_cases h : t.top = .e4m3
    · have := he4m3 h
      simp only [Bool.and_eq_false_iff, beq_eq_false_iff_ne]
      by_contra hall
      push Not at hall
      obtain ⟨⟨-, he⟩, hf⟩ := hall
      have div := Nat.div_add_mod w (2 ^ t.f)
      rw [he, hf, Nat.mul_sub, Nat.mul_one] at div
      have := Nat.le_mul_of_pos_right (2 ^ t.f) hx
      omega
    · rw [beq_false_of_ne h]; rfl
  simp only [fpDecode, frac, expo, neg, notIeee, notE4m3, Bool.false_eq_true, if_false, beq_iff_eq]
  by_cases h0 : w / 2 ^ t.f = 0
  · have hwf : w < 2 ^ t.f := (Nat.div_eq_zero_iff_lt hpos).mp h0
    rw [if_pos h0, FpFmt.gridVal, if_pos hwf, Nat.mod_eq_of_lt hwf, Val.rat, mul_assoc]
    rfl
  · have hwf : ¬w < 2 ^ t.f := fun h => h0 (Nat.div_eq_of_lt h)
    rw [if_neg h0, FpFmt.gridVal, if_neg hwf, Val.rat, mul_assoc]
    congr 3
    unfold FpFmt.qmin
    ring

/-! ### Elements (02 R62) -/

section
variable {t : FpFmt} (ht : t.Sound) (rm : Rnd) (rb : Nat) (s : Bool)

theorem mxElem_zero (e : Int) : mxElem t rm rb (.fin s 0 e) = t.signBit s := rfl

theorem mxElem_of_ne_zero {m : Nat} (hm : m ≠ 0) (e : Int) : mxElem t rm rb (.fin s m e) =
    t.signBit s + min (t.encMag (roundQuantum rm s m e (t.quantum m e) rb) (t.quantum m e)) t.maxEnc := by
  simp only [mxElem, beq_false_of_ne hm, Bool.false_eq_true, if_false]

include ht

theorem mxElem_lt (v : Val) : mxElem t rm rb v < 2 ^ (t.f + t.x + 1) := by
  have sign (neg : Bool) : t.signBit neg ≤ 2 ^ (t.f + t.x) := by cases neg <;> simp [FpFmt.signBit]
  have pow : 2 ^ (t.f + t.x + 1) = 2 * 2 ^ (t.f + t.x) := Nat.pow_succ'
  have hlt := ht.lt
  cases v with
  | nan => exact Nat.two_pow_pos _
  | inf neg => exact Nat.two_pow_pos _
  | fin neg m e =>
    have := sign neg
    by_cases hm : m = 0
    · rw [hm, mxElem_zero]; omega
    · rw [mxElem_of_ne_zero rm rb neg hm]; omega

theorem rat_mxElem {m : Nat} (hm : m ≠ 0) (e : Int) :
    let q := t.quantum m e
    (fpDecode t (mxElem t rm rb (.fin s m e))).rat =
      (if s then -1 else 1) * min ((roundQuantum rm s m e q rb : ℚ) * 2 ^ q) (fpDecode t t.maxEnc).rat := by
  intro q
  obtain ⟨hq, hn, hfull⟩ := roundQuantum_quantum t rm s hm e rb
  have max : (fpDecode t t.maxEnc).rat = t.gridVal t.maxEnc := by
    have := rat_fpDecode ht false (le_refl t.maxEnc)
    simpa [FpFmt.signBit] using this
  rw [mxElem_of_ne_zero rm rb s hm, rat_fpDecode ht s (min_le_right _ _), (gridVal_mono t).map_min, gridVal_encMag hq hn hfull, max]

end

/-! ### Export (02 R62) -/

section
variable {xs : List Val} {f : MxFmt} {rm : Rnd} {rb : Nat → Nat}

theorem exportMx_special (h : ∃ x ∈ xs, x.special = true) : exportMx xs f rm rb = (0xff, List.replicate 32 0) :=
  if_pos (List.any_eq_true.mpr h)

/-- The element of a value under a scale. -/
def mxElemOf (f : MxFmt) (rm : Rnd) (rb : Nat) (v : Val) : Nat :=
  match mxFp f with
  | some t => mxElem t rm rb v
  | none => (roundScaled rm rb 6 127 v % 256).toNat

theorem exportMx_fin (h : ∀ x ∈ xs, x.special = false) : exportMx xs f rm rb =
    let x := scaleOf xs (mxEmax f)
    (x, xs.zipIdx.map fun y => mxElemOf f rm (rb y.2) (y.1.scale (127 - (x : Int)))) :=
  if_neg (by rw [List.any_eq_true]; rintro ⟨x, hx, hs⟩; rw [h x hx] at hs; cases hs)

theorem mxElemOf_fp {t : FpFmt} (h : mxFp f = some t) (rb : Nat) (v : Val) : mxElemOf f rm rb v = mxElem t rm rb v := by
  simp only [mxElemOf, h]

theorem mxFp_eq_none {f : MxFmt} (h : mxFp f = none) : f = .int8 := by
  cases f with
  | int8 => rfl
  | _ => cases h

theorem mxElemOf_lt (f : MxFmt) (rm : Rnd) (rb : Nat) (v : Val) : mxElemOf f rm rb v < 2 ^ mxBits f := by
  cases h : mxFp f with
  | some t =>
    obtain ⟨sound, bits⟩ := mxFp_sound h
    rw [mxElemOf_fp h, ← bits]
    exact mxElem_lt sound rm rb v
  | none =>
    obtain rfl := mxFp_eq_none h
    show (roundScaled rm rb 6 127 v % 256).toNat < 2 ^ 8
    omega

/-- An MXINT8 element read back is the clamped integer. -/
theorem mxElemOf_int8 (rm : Rnd) (rb : Nat) (v : Val) : (BitVec.ofNat 8 (mxElemOf .int8 rm rb v)).toInt = roundScaled rm rb 6 127 v := by
  obtain ⟨low, high⟩ := abs_roundScaled_le rm rb 6 (lim := 127) (by decide) v
  have field := sextNat_field (w := 8) (by decide) (m := roundScaled rm rb 6 127 v) (by omega) (by omega) 0
  rw [sextNat_eq_toInt, Nat.mul_zero, Nat.add_zero] at field
  exact field

theorem exportMx_elem (h : ∀ x ∈ xs, x.special = false) {i : Nat} {s : Bool} {m : Nat}
    {e : Int} (hi : xs[i]? = some (.fin s m e)) :
    (exportMx xs f rm rb).2[i]? = some (mxElemOf f rm (rb i) (.fin s m (e + (127 - ((exportMx xs f rm rb).1 : Int))))) := by
  rw [exportMx_fin h]
  simp only [List.getElem?_map, List.getElem?_zipIdx, hi, Option.map_some, Nat.zero_add, Val.scale]

end

end Sys2Proof.Machine

open Sys2Proof Sys2Proof.Machine

/-- Settles O31: the words are their results in flight (`exec_word_ok`); a block is given by `encodeBlock_fin`, fits its width
(`fits_encodeBlock`) and so is read back (`Blk.Fits.blkOf_image`); an MX element is a rounding on the grid of its layout (`rat_mxElem`). -/
theorem vectorBlockAndReductionWords : Obligations.VectorBlockAndReductionWords := by
  unfold Obligations.VectorBlockAndReductionWords
  refine ⟨fun s h r a w rm ty hs => ?_, ⟨fun xs wd rm rb hlen => ?_, fun b i => ⟨fun he => b.val_nan he i, fun he => ?_⟩, fun wd img => ?_⟩,
    fun xs f rm rb _ => ?_⟩
  · exact ⟨exec_word_ok hs rfl rfl, exec_word_ok hs rfl rfl, fun f => ⟨exec_word_ok hs rfl rfl, exec_word_ok hs rfl rfl⟩, exec_word_ok hs rfl rfl,
      exec_word_ok hs rfl rfl, exec_word_ok hs rfl rfl, exec_word_ok hs rfl rfl⟩
  · have hw := widthBits_pos wd
    refine ⟨(fits_encodeBlock hw rm rb hlen).blkOf_image hw, encodeBlock_special, fun hfin => ⟨fun hz => ?_, fun x k hx hmax hlow hhigh => ?_,
      fun j hj x hx hmax => encodeBlock_shift hw hfin hj hx hmax, fun i sg m e hi => encodeBlock_mant hfin hi⟩⟩
    · rw [encodeBlock_fin hfin]
      exact scaleOf_zeros hz _
    · rw [encodeBlock_fin hfin]
      exact scaleOf_eq hx hmax hlow hhigh _
  · rw [b.val_of_ne he i]
    exact ⟨rat_signed _ _, rfl⟩
  · refine ⟨rfl, fun j hj => ?_, fun i hi => ?_⟩
    · simp [blkOf, hj, hdrShift]
    · rw [blkOf, unpackInts_getD _ _ hi, sextNat_eq_toInt, Nat.div_div_eq_div_mul, ← pow_add]
  · refine ⟨rfl, exportMx_special, fun hfin => ⟨fun hz => ?_, fun x k hx hmax hlow hhigh => ?_, fun i sg m e hi =>
      ⟨_, exportMx_elem hfin hi, mxElemOf_lt f rm _ _, fun hf => ?_, fun t ht hm => ?_, fun t ht hm => ?_⟩⟩⟩
    · rw [exportMx_fin hfin]
      exact scaleOf_zeros hz _
    · rw [exportMx_fin hfin]
      exact scaleOf_eq hx hmax hlow hhigh _
    · subst hf
      rw [mxElemOf_int8, roundScaled_fin]
    · rw [mxElemOf_fp ht]
      exact rat_mxElem (mxFp_sound ht).1 rm _ sg hm.ne' _
    · rw [mxElemOf_fp ht, hm, mxElem_zero]

end

section
/-! SUPPORT. Words read back (03 R71 to R87): every instruction's own lemma gathered; then O3 and O4. -/
namespace Sys2Proof.Laws.Roundtrip

/-- The lemmas of PerInstr, one for each constructor, in the order of the table. -/
theorem statement_all (i : Instr) : Statement i :=
  Instr.casesOn (motive := Statement) i
    nop halt trap br brp brz call ret loop loops replay waitcue waitrel join waite clre waitown skipm markRb markOv jumpOv signal add sub
    and or xor shl shr sha min max minn maxn clz popc mul mulh mulhn div divn rem remn cmpEq cmpNe cmpLt cmpLtn cmpGe cmpGen sel bfx bfi
    addi andi ori xori shli shri shai li lih ld8 ld8Stream ld16 ld16Stream ld32 ld32Stream ld64 ld64Stream st8 st8Stream st16 st16Stream
    st32 st32Stream st64 st64Stream setk seta setd setlc setlb rdid rdcfg rdcue rddeck vadd vsub vmul vmulh vmin vmax vminn vmaxn vand
    vor vxor vshl vshr vsha vcmpEq vcmpNe vcmpLt vcmpLtn vcmpGe vcmpGen vcmpFeq vcmpFne vcmpFlt vcmpFge vpushm vinvm vpopm vsel vfadd
    vfsub vfmul vfma vfmin vfmax vfabs vfneg vcvt vqblk vdqblk vmxq vmxdq vexp2 vlog2 vrcp vrsq vtanh vredadd vredmax vredmin vscan vperm
    vshuf vbcast vins vext vlidx vld vldStream vst vstStream vldx vstx mloadbW mloadbS mpush mshift macc maccDrop mscale mzero mdrain
    mmode msparse mflags flyRd flyWr flyRd2 flyWr2 acopyRd acopyWr acopy2d qmark xcopy xfill give ownq wheelLd wheelSt wheelAdd wheelXchg
    wheelCas mbput mbget chorusAr chorusAg chorusRs chorusBc chorusBar chorusReady chorusCombine chorusJoin chorusLeave siteq hop hopPass
    recv xsend xrecv bandq cuetrim castKey castRand castUnif castScore castTopkK castTopkP castMass castPick castClr sequencerIssue
    resultLanding waitcueTargetReached waitrelExpiry waiteWake waiteDeadline waitownWake waitownDeadline localLimitDeadline missingMarkRb
    signalArrival hopBeatLanding crossingBeatArrival crossingWordLost gatedWriteRelease flyMemoryPoint flyCompletion wheelMemoryPoint
    wheelResult acopyLoadCompletion acopyStoreCompletion acopyPageFault qmarkCompletion tileCopyStart tileCopyCompletion
    mailboxPutPerformed mailboxGetPerformed chorusMemberCompletion chorusStaleCompletion chorusTimeout barCompletion combineCompletion
    ringBoundary overlayFetchCompletion holdAnnouncement holdBegin holdEnd companyStart launchEnd launchFaultEnd uncorrectableError
    rollbackRestart correctedError scrub freezeAnnouncement freeze freezeSaveComplete instructionMemoryRewrite resume placementPass pfack
    pageFaultUnresolvable pageMigration hostCxlRead hostCxlWrite hdmDecoderCommit periodicTrim trimExchange ofsMeasurement
    circuitTeardown circuitSetup linkCrcFailure islandRegulatorFailure regionRailFailure busLow busCollapse powerStageTrip
    presenceClampClosed presenceOpen clampOpen powerGood phaseTimeLimit selfTest admission siteTransitionEffect keepAliveSend
    keepAliveSilence cmdPower cmdDrain cmdUndrain cmdReset siteRequestButton freshrdClear rejoinGangStart doorbell qcmdResume qcmdSkip
    qcmdReset queueVisit packetUnblock packetNop launch copy copyCompletion weightload weightloadApply putmb waitmb unloadCode unloadData
    unloadLaunch unloadCompletion indirect fence rejoin rejoinWithdraw mailboxFullClear logdropClear deckColdStart recoveryImageWrite
    firmwareUpdate firmwareRestart ownerKeyEnrolment attestationReport commandLinkMessage commandLinkPermitTimeout networkWriteReceived
    congestionNotification retransmissionLimit sensorRead reefTargetRaise reefTargetLower thermalTrip reefLevelChange reefminWrite
    islandWake registerWrite fatalModuleError presenceOpenFor222Cycles overlayFetchTranslationFault linkReturnToService

end Sys2Proof.Laws.Roundtrip

namespace Sys2Proof

@[simp] theorem decode_zero (u : Slot) : decode u 0 = some .nop := rfl

/-! ### What the decoders give has a word in the same map -/

/-- Each instruction a map of the decoder may give has a word in the map `enc` of the encoder. -/
def HasWord (enc : Instr → Option Nat) (o : Option Instr) : Prop := ∀ i, o = some i → (enc i).isSome = true

section
variable {enc : Instr → Option Nat}

theorem HasWord.none : HasWord enc none := fun _ h => nomatch h

theorem HasWord.some {i : Instr} {w : Nat} (h : enc i = some w) : HasWord enc (some i) := fun j e => by
  rw [← Option.some.inj e, h]
  rfl

theorem HasWord.ite {c : Prop} [Decidable c] {a b : Option Instr} (ha : HasWord enc a) (hb : HasWord enc b) :
    HasWord enc (if c then a else b) := by
  split
  · exact ha
  · exact hb

theorem HasWord.bind {α : Type} {o : Option α} {f : α → Option Instr} (h : ∀ x, HasWord enc (f x)) : HasWord enc (o.bind f) := by
  cases o with
  | none => exact HasWord.none
  | some x => exact h x

end

theorem decodeC_hasWord (w : Nat) : HasWord encodeC (decodeC w) := by
  unfold decodeC
  split <;> repeat' first
    | refine HasWord.ite ?_ ?_
    | refine HasWord.bind fun _ => ?_
    | exact HasWord.none
    | exact HasWord.some rfl

theorem decodeS_hasWord (w : Nat) : HasWord encodeS (decodeS w) := by
  unfold decodeS
  split <;> repeat' first
    | refine HasWord.ite ?_ ?_
    | refine HasWord.bind fun _ => ?_
    | exact HasWord.none
    | exact HasWord.some rfl

theorem decodeV_hasWord (w : Nat) : HasWord encodeV (decodeV w) := by
  unfold decodeV
  split <;> repeat' first
    | refine HasWord.ite ?_ ?_
    | refine HasWord.bind fun _ => ?_
    | exact HasWord.none
    | exact HasWord.some rfl

theorem decodeM_hasWord (w : Nat) : HasWord encodeM (decodeM w) := by
  unfold decodeM
  split <;> repeat' first
    | refine HasWord.ite ?_ ?_
    | refine HasWord.bind fun _ => ?_
    | exact HasWord.none
    | exact HasWord.some rfl

theorem decodeX_hasWord (w : Nat) : HasWord encodeX (decodeX w) := by
  unfold decodeX
  split <;> repeat' first
    | refine HasWord.ite ?_ ?_
    | refine HasWord.bind fun _ => ?_
    | exact HasWord.none
    | exact HasWord.some rfl

theorem decodeF_hasWord (w : Nat) : HasWord encodeF (decodeF w) := by
  unfold decodeF
  split <;> repeat' first
    | refine HasWord.ite ?_ ?_
    | refine HasWord.bind fun _ => ?_
    | exact HasWord.none
    | exact HasWord.some rfl

/-- The encoder has a word for what one of its maps has a word for. -/
theorem encode_isSome {i : Instr} (h : (encodeC i).isSome ∨ (encodeS i).isSome ∨ (encodeV i).isSome ∨ (encodeM i).isSome ∨
    (encodeX i).isSome ∨ (encodeF i).isSome) : (encode i).isSome = true := by
  unfold encode
  split
  · rfl
  · simpa [Option.isSome_or, or_assoc] using h

theorem decode_ne_zero {u : Slot} {w : Nat} (hw : w ≠ 0) {i : Instr} (h : decode u w = some i) : i.wf = true ∧ (encode i).isSome = true := by
  simp only [decode, if_neg hw, Option.bind_eq_some_iff, Option.ite_none_right_eq_some, Option.some.injEq] at h
  obtain ⟨j, hj, hwf, rfl⟩ := h
  refine ⟨hwf, encode_isSome ?_⟩
  cases u with
  | c => exact .inl (decodeC_hasWord w j hj)
  | s => exact .inr (.inl (decodeS_hasWord w j hj))
  | va => exact .inr (.inr (.inl (decodeV_hasWord w j hj)))
  | vb => exact .inr (.inr (.inl (decodeV_hasWord w j hj)))
  | m => exact .inr (.inr (.inr (.inl (decodeM_hasWord w j hj))))
  | xa => exact .inr (.inr (.inr (.inr (.inl (decodeX_hasWord w j hj)))))
  | xb => exact .inr (.inr (.inr (.inr (.inl (decodeX_hasWord w j hj)))))
  | f => exact .inr (.inr (.inr (.inr (.inr (decodeF_hasWord w j hj)))))

end Sys2Proof

open Sys2Proof Sys2Proof.Machine

/-- Settles O4: the lemma of each instruction is in PerInstr. -/
theorem decodeReadsEncodedWords : Obligations.DecodeReadsEncodedWords := by
  unfold Obligations.DecodeReadsEncodedWords
  refine ⟨Sys2Proof.Laws.Roundtrip.statement_all, fun u => ⟨decode_zero u, fun i h => ?_⟩⟩
  rw [decode_zero] at h
  exact (Option.some.inj h).symm

/-- Settles O3: each word is decoded. -/
theorem decodesWrittenWords : Obligations.DecodesWrittenWords := by
  unfold Obligations.DecodesWrittenWords
  exact ⟨by decide, by decide, by decide, by decide, by decide, by decide, by decide, by decide, by decide, by decide⟩

/-- Settles O5: every branch of a map gives an instruction with a word in that map. -/
theorem decodeGivesOnlyLegalWords : Obligations.DecodeGivesOnlyLegalWords := by
  unfold Obligations.DecodeGivesOnlyLegalWords
  intro u w i h
  by_cases hw : w = 0
  · rw [hw, decode_zero] at h
    rw [← Option.some.inj h]
    exact ⟨rfl, rfl⟩
  · exact decode_ne_zero hw h

end

section
/-! SUPPORT. What a slot word leaves as it was (03 R80, R89; 10 R281). -/
namespace Sys2Proof.Machine

/-! ### The frame of a tile's words -/

/-- What stays as it was over every slot word: the memories, the queues, the cues, the agenda, the circuits, and which tiles there are. -/
structure State.Shared (s t : State) : Prop where
  mem : t.mem = s.mem
  weights : t.weights = s.weights
  hostMem : t.hostMem = s.hostMem
  mbox : t.mbox = s.mbox
  queues : t.queues = s.queues
  cue : t.cue = s.cue
  agenda : t.agenda = s.agenda
  inputs : t.inputs = s.inputs
  log : t.log = s.log
  circuits : t.circuits = s.circuits
  fw : t.fw = s.fw
  length : t.tiles.length = s.tiles.length

namespace State.Shared
variable {s t : State}

theorem refl (s : State) : s.Shared s := ⟨rfl, rfl, rfl, rfl, rfl, rfl, rfl, rfl, rfl, rfl, rfl, rfl⟩

theorem setTile (h : s.Shared t) (u : Tile) : s.Shared (t.setTile u) :=
  ⟨h.mem, h.weights, h.hostMem, h.mbox, h.queues, h.cue, h.agenda, h.inputs, h.log, h.circuits, h.fw, (t.setTile_length u).trans h.length⟩

theorem setCo (h : s.Shared t) (c : Company) : s.Shared (t.setCo c) :=
  ⟨h.mem, h.weights, h.hostMem, h.mbox, h.queues, h.cue, h.agenda, h.inputs, h.log, h.circuits, h.fw, h.length⟩

theorem setSite (h : s.Shared t) (n : SiteId) (f : Site → Site) : s.Shared (t.setSite n f) :=
  ⟨h.mem, h.weights, h.hostMem, h.mbox, h.queues, h.cue, h.agenda, h.inputs, h.log, h.circuits, h.fw, h.length⟩

theorem free (h : s.Shared t) (n : Nat) : s.Shared { t with free := n } :=
  ⟨h.mem, h.weights, h.hostMem, h.mbox, h.queues, h.cue, h.agenda, h.inputs, h.log, h.circuits, h.fw, h.length⟩

theorem raised (h : s.Shared t) (r : Option Raise) : s.Shared { t with raised := r } :=
  ⟨h.mem, h.weights, h.hostMem, h.mbox, h.queues, h.cue, h.agenda, h.inputs, h.log, h.circuits, h.fw, h.length⟩

end State.Shared

/-- What stays as it was over a word of a tile that touches no other tile: the shared parts, every other tile, every other company, the sites. -/
structure Here.Frame (h : Here) (t : State) : Prop where
  shared : h.s.Shared t
  tiles : ∀ k, k ≠ h.t.key → t.tileAt k = h.s.tileAt k
  companies : ∀ n, n ≠ h.co.num → t.coAt n = h.s.coAt n
  sites : t.sites = h.s.sites

namespace Here.Frame
variable {h : Here} {t : State}

theorem self (h : Here) : h.Frame h.s := ⟨State.Shared.refl _, fun _ _ => rfl, fun _ _ => rfl, rfl⟩

theorem setTile (hf : h.Frame t) {u : Tile} (hu : u.key = h.t.key) : h.Frame (t.setTile u) := by
  refine ⟨hf.shared.setTile u, fun k hk => ?_, hf.companies, hf.sites⟩
  rw [State.tileAt_setTile, if_neg fun e => hk (e.symm.trans hu), hf.tiles k hk]

theorem put (h : Here) (st : TState) : h.Frame (h.s.setTile { h.t with st := st }) := (self h).setTile rfl

theorem setCo (hf : h.Frame t) {c : Company} (hc : c.num = h.co.num) : h.Frame (t.setCo c) := by
  refine ⟨hf.shared.setCo c, hf.tiles, fun n hn => ?_, hf.sites⟩
  rw [State.coAt_setCo, if_neg fun e => hn (e.symm.trans hc), hf.companies n hn]

theorem free (hf : h.Frame t) (n : Nat) : h.Frame { t with free := n } := ⟨hf.shared.free n, hf.tiles, hf.companies, hf.sites⟩

theorem raised (hf : h.Frame t) (r : Option Raise) : h.Frame { t with raised := r } :=
  ⟨hf.shared.raised r, hf.tiles, hf.companies, hf.sites⟩

theorem endCause (hf : h.Frame t) (code : BitVec 8) (info : W64) (pc : W32) (unit : Nat) (k : Option TileKey) :
    h.Frame (t.endCause h.co.num code info pc unit k) := by
  unfold State.endCause
  split
  · exact hf
  · next c hc =>
    split
    · exact hf
    · have num : c.num = h.co.num := State.coAt_num hc
      exact (hf.setCo (by exact num)).free _

theorem takeTrap (h : Here) (b : Bool) (code : BitVec 8) (info : W64) : h.Frame (h.takeTrap b code info) := by
  unfold Here.takeTrap
  dsimp only
  split
  · split
    · refine endCause (setTile (self h) ?_) _ _ _ _ _
      rfl
    · exact (self h).setTile rfl
  · refine endCause (setTile (self h) ?_) _ _ _ _ _
    rfl

end Here.Frame

/-! ### Results of words -/

/-- A result of a word that touches its own tile and company only. -/
def Here.Stays (h : Here) (r : Res) : Prop := h.Frame (h.finish r)

namespace Here.Stays
variable {h : Here}

theorem ok (st : TState) : h.Stays (.ok st) := .put h st
theorem trap (code : BitVec 8) (info : W64) : h.Stays (.trap code info) := (Here.Frame.takeTrap h true code info).raised _
theorem fatal (code : BitVec 8) (info : W64) (unit : Nat) : h.Stays (.fatal code info unit) := (Here.Frame.self h).endCause _ _ _ _ _
theorem tile {t : Tile} (n : Nat) (ht : t.key = h.t.key) : h.Stays (.tile t n) := ((Here.Frame.self h).setTile ht).free _
theorem all {t : State} (ht : h.Frame t) : h.Stays (.all t) := ht

theorem ite {c : Prop} [Decidable c] {x y : Res} (hx : h.Stays x) (hy : h.Stays y) : h.Stays (if c then x else y) := by
  split
  · exact hx
  · exact hy

/-- The BOUNDS checks before a result. -/
theorem bounds {cs : List Check} {k : Res} (hk : h.Stays k) : h.Stays (bounds cs k) := by
  unfold Machine.bounds
  split
  · exact trap _ _
  · exact hk

/-- The OWNER check of an engine word before a result. -/
theorem owned {code : Nat} {ps : List Span} {k : Res} (hk : h.Stays k) : h.Stays (h.owned code ps k) := by
  unfold Here.owned
  split
  · exact trap _ _
  · exact hk

theorem scalarCheck {a : Int} {w : Nat} {k : Nat → Res} (hk : ∀ n, h.Stays (k n)) : h.Stays (h.scalarCheck a w k) := by
  unfold Here.scalarCheck
  split
  · split
    · exact trap _ _
    · exact hk _
  · exact trap _ _

theorem ownerCheck {a n : Nat} {k : Res} (hk : h.Stays k) : h.Stays (h.ownerCheck a n k) := by
  unfold Here.ownerCheck
  split
  · exact trap _ _
  · exact hk

theorem vecCheck {a : Int} {blk : Width → Nat → Res} {k : BankFmt → Nat → Res} (hb : ∀ w n, h.Stays (blk w n))
    (hk : ∀ f n, h.Stays (k f n)) : h.Stays (h.vecCheck a blk k) := by
  unfold Here.vecCheck
  refine ite (trap _ _) ?_
  dsimp only
  split
  · exact ite (hb _ _) (trap _ _)
  · exact ite (trap _ _) (ite (trap _ _) (ownerCheck (hk _ _)))

theorem vload (r : Dst) (a : Int) : h.Stays (h.vload r a) :=
  vecCheck (fun _ _ => ite (trap _ _) (ownerCheck (ok _))) fun _ _ => ok _

theorem vstore (d : Sel) (a : Int) : h.Stays (h.vstore d a) :=
  vecCheck (fun _ _ => ite (trap _ _) (ite (trap _ _) (ownerCheck (ok _)))) fun _ _ => ok _

theorem loopWord (lv : Fin 4) (t : BitVec 11) (n count stages : Nat) : h.Stays (h.loopWord lv t n count stages) := by
  unfold Here.loopWord
  split
  · exact trap _ _
  · split
    · exact trap _ _
    · exact ite (ok _) (ok _)

theorem mbEnter (kg : Fin 8) (put : Bool) (v : W64) (lat : Option (Slot × Fin 4)) : h.Stays (h.mbEnter kg put v lat) := bounds (ok _)

theorem fly (kg : Fin 8) (two wr : Bool) : h.Stays (h.fly kg two wr) := by
  refine bounds ?_
  split
  · exact ok _
  · dsimp only
    split
    · exact trap _ _
    · exact owned (ok _)

theorem acopy (kg : Fin 8) (sc : Scope) (six wr : Bool) : h.Stays (h.acopy kg sc six wr) := by
  refine bounds ?_
  split
  · exact ok _
  · exact owned (ok _)

theorem wheel (op : WheelOp) (kg : Fin 8) (lat : Option (Slot × Fin 4)) : h.Stays (h.wheel op kg lat) := by
  refine ite (trap _ _) (ite (trap _ _) (bounds ?_))
  split
  · exact ok _
  · exact ok _

theorem claimHop {d : Side} {n : Nat} {k : TState → Res} (hk : ∀ st, h.Stays (k st)) : h.Stays (h.claimHop d n k) := ite (trap _ _) (hk _)

theorem bankSame {f : ElFmt} {ps : List Span} {k : Res} (hk : h.Stays k) : h.Stays (h.bankSame f ps k) := by
  refine ite hk ?_
  split
  · exact trap _ _
  · exact hk

/-- XCOPY leaves out the check of a source in the weight store (07 R193). -/
theorem bankSameUnless {c : Prop} [Decidable c] {f : ElFmt} {ps : List Span} {k : Res} (hk : h.Stays k) :
    h.Stays ((if c then id else h.bankSame f ps) k) := by
  split
  · exact hk
  · exact bankSame hk

end Here.Stays

theorem Company.setRound_num (c : Company) (r : Round) : (c.setRound r).num = c.num := rfl

theorem Company.postDesc_num (c : Company) (t : Tile) (d : CDesc) (deck : Nat) : (c.postDesc t d deck).num = c.num := by
  unfold Company.postDesc
  split
  · rfl
  · split <;> rfl

theorem Here.Stays.chorusPost (h : Here) (kg : Fin 8) (kind : CKind) (op : COp) (sc : Scope) : h.Stays (h.chorusPost kg kind op sc) := by
  refine bounds (owned (all ?_))
  split
  · exact .put h _
  · exact (Here.Frame.put h _).setCo (Company.postDesc_num _ _ _ _)

/-- An instruction whose meaning is a word that touches its own tile and company only. -/
def FrameWord (i : Instr) : Prop := ∃ f, exec i = word f ∧ ∀ h : Here, h.Stays (f h)

namespace FrameWord
variable {i : Instr}

theorem of_word {f : Here → Res} (e : exec i = word f) (hf : ∀ h : Here, h.Stays (f h)) : FrameWord i := ⟨f, e, hf⟩

theorem of_engine {g : Guard} {f : Here → Res} (e : exec i = engine g f) (hf : ∀ h : Here, h.Stays (f h)) : FrameWord i :=
  of_word (e.trans rfl) fun h => .ite (hf h) (.ok _)

theorem of_vword {lat : Nat} {r : Dst} {f : Here → Vec} (e : exec i = vword lat r f) : FrameWord i := of_word (e.trans rfl) fun _ => .ok _

theorem of_pushWord {lat : Nat} {t : Here → W64} (e : exec i = pushWord lat t) : FrameWord i :=
  of_word (e.trans rfl) fun _ => .ite (.trap _ _) (.ok _)

theorem of_popWord {x : Eff} (e : exec i = popWord x) : FrameWord i := of_word (e.trans rfl) fun _ => .ite (.trap _ _) (.ok _)

theorem of_readIndex {r : Dst} {f : Here → Option W64} (e : exec i = readIndex r f) : FrameWord i := by
  refine of_word (e.trans rfl) fun h => ?_
  split
  · exact .ok _
  · exact .trap _ _

/-- A word that asks for a target, and then goes on. -/
theorem of_target {t : BitVec 11} {k : Here → Nat → Res} (hk : ∀ (h : Here) (a : Nat), h.Stays (k h a))
    (e : exec i = word fun h => match h.target t with
      | none => illegalC
      | some a => k h a) : FrameWord i := by
  refine of_word e fun h => ?_
  split
  · exact .trap _ _
  · exact hk h _

theorem br (t : BitVec 11) : FrameWord (.br t) := of_target (fun _ _ => .ok _) rfl
theorem brp (g : Guard) (t : BitVec 11) : FrameWord (.brp g t) := of_target (fun _ _ => .ok _) rfl
theorem brz (nz : Bool) (k : Fin 32) (t : BitVec 11) : FrameWord (.brz nz k t) := of_target (fun _ _ => .ok _) rfl
theorem call (g : Guard) (t : BitVec 11) : FrameWord (.call g t) :=
  of_target (fun _ _ => .ite (.ite (.trap _ _) (.ok _)) (.ok _)) rfl

theorem jumpOv (t : BitVec 11) : FrameWord (.jumpOv t) := by
  refine of_word rfl fun h => .ite (.trap _ _) (.ite (.trap _ _) ?_)
  split
  · exact .trap _ _
  · exact .ite (.trap _ _) (.ok _)

theorem vldx (r : Dst) (a b : Sel) : FrameWord (.vldx r a b) := by
  refine of_word rfl fun h => ?_
  dsimp only
  split
  · exact .trap _ _
  · exact .ok _

theorem vstx (d a b : Sel) : FrameWord (.vstx d a b) := by
  refine of_word rfl fun h => ?_
  dsimp only
  split
  · exact .trap _ _
  · exact .ok _

theorem xcopy (g : Guard) (kg : Fin 8) (rm : Rnd) : FrameWord (.xcopy g kg rm) := by
  refine of_engine rfl fun h => .bounds (.bankSameUnless (.bankSame (.ite (.trap _ _) (.owned ?_))))
  dsimp only
  split
  · exact .trap _ _
  · exact .ok _

theorem chorusReady (g : Guard) (kg : Fin 8) (sc : Scope) : FrameWord (.chorusReady g kg sc) := by
  refine of_engine rfl fun h => ?_
  dsimp only
  split
  · exact .trap _ _
  · refine .owned (.all ?_)
    split
    · split
      · exact (Here.Frame.put h _).setCo (Company.setRound_num _ _)
      · exact .put h _
    · exact .put h _

theorem xrecv (r : Dst) (side : Side) (w : Bool) (ch : Fin 8) : FrameWord (.xrecv r side w ch) := by
  refine of_word rfl fun h => ?_
  split
  · exact .tile _ rfl
  · exact .ok _

end FrameWord

/-- Every slot word but CUETRIM and XSEND touches its own tile and company only. -/
theorem frameWord_of_slot : ∀ i : Instr, (encode i).isSome = true → i ≠ .cuetrim → (∀ a d w ch, i ≠ .xsend a d w ch) → FrameWord i
  | .trap _ => fun _ _ _ => .of_word rfl fun _ => .trap _ _
  | .nop | .halt | .waitrel .. | .waite .. | .clre .. | .waitown .. | .skipm .. | .signal .. | .add .. | .sub .. | .and .. | .or ..
  | .xor .. | .shl .. | .shr .. | .sha .. | .min .. | .max .. | .minn .. | .maxn .. | .clz .. | .popc .. | .mul .. | .mulh .. | .mulhn ..
  | .div .. | .divn .. | .rem .. | .remn .. | .cmpEq .. | .cmpNe .. | .cmpLt .. | .cmpLtn .. | .cmpGe .. | .cmpGen .. | .sel .. | .bfx ..
  | .bfi .. | .addi .. | .andi .. | .ori .. | .xori .. | .shli .. | .shri .. | .shai .. | .li .. | .lih .. | .setk .. | .seta ..
  | .setd .. | .setlc .. | .rdcue .. | .rddeck .. | .vadd .. | .vsub .. | .vmul .. | .vmulh .. | .vmin .. | .vmax .. | .vminn ..
  | .vmaxn .. | .vand .. | .vor .. | .vxor .. | .vshl .. | .vshr .. | .vsha .. | .vsel .. | .vfadd .. | .vfsub .. | .vfmul .. | .vfma ..
  | .vfmin .. | .vfmax .. | .vfabs .. | .vfneg .. | .vcvt .. | .vqblk .. | .vdqblk .. | .vexp2 .. | .vlog2 .. | .vrcp .. | .vrsq ..
  | .vtanh .. | .vredadd .. | .vredmax .. | .vredmin .. | .vscan .. | .vperm .. | .vshuf .. | .vbcast .. | .vins .. | .vext ..
  | .vlidx .. | .mloadbS .. | .mpush .. | .mshift .. | .macc .. | .maccDrop .. | .mscale .. | .mzero .. | .mmode .. | .msparse ..
  | .mflags .. | .recv .. | .bandq .. | .castKey .. | .castRand .. | .castUnif .. | .castScore .. | .castTopkK .. | .castTopkP ..
  | .castMass .. | .castPick .. | .castClr => fun _ _ _ => .of_word rfl fun _ => .ok _
  | .vmxq .. | .vmxdq .. => fun _ _ _ => .of_vword rfl
  | .ld8 .. | .ld16 .. | .ld32 .. | .ld64 .. | .ld8Stream .. | .ld16Stream .. | .ld32Stream .. | .ld64Stream .. | .st8 .. | .st16 ..
  | .st32 .. | .st64 .. | .st8Stream .. | .st16Stream .. | .st32Stream .. | .st64Stream .. => fun _ _ _ => .of_word rfl fun _ => .scalarCheck fun _ => .ok _
  | .rdid .. | .rdcfg .. => fun _ _ _ => .of_readIndex rfl
  | .vcmpEq .. | .vcmpNe .. | .vcmpLt .. | .vcmpLtn .. | .vcmpGe .. | .vcmpGen .. | .vcmpFeq .. | .vcmpFne .. | .vcmpFlt .. | .vcmpFge ..
  | .vpushm .. => fun _ _ _ => .of_pushWord rfl
  | .vinvm | .vpopm => fun _ _ _ => .of_popWord rfl
  | .loop .. | .loops .. | .replay .. => fun _ _ _ => .of_word rfl fun _ => .loopWord _ _ _ _ _
  | .ret .. => fun _ _ _ => .of_word rfl fun _ => .ite (.ite (.trap _ _) (.ok _)) (.ok _)
  | .waitcue .. => fun _ _ _ => .of_word rfl fun _ => .ite (.ok _) (.trap _ _)
  | .join .. => fun _ _ _ => .of_word rfl fun _ => .ite (.ite (.ok _) (.ok _)) (.trap _ _)
  | .markOv .. => fun _ _ _ => .of_word rfl fun _ => .ite (.trap _ _) (.ite (.trap _ _) (.ok _))
  | .markRb | .setlb .. => fun _ _ _ => .of_word rfl fun _ => .ite (.trap _ _) (.ok _)
  | .mloadbW .. => fun _ _ _ => .of_word rfl fun _ => .ite (.trap _ _) (.ite (.trap _ _) (.ite (.fatal _ _ _) (.ok _)))
  | .mdrain .. => fun _ _ _ => .of_word rfl fun _ => .ok _
  | .vld .. | .vldStream .. => fun _ _ _ => .of_word rfl fun _ => .vload _ _
  | .vst .. | .vstStream .. => fun _ _ _ => .of_word rfl fun _ => .vstore _ _
  | .ownq .. | .siteq .. | .chorusJoin .. | .chorusLeave .. => fun _ _ _ => .of_engine rfl fun _ => .ok _
  | .flyRd .. | .flyWr .. | .flyRd2 .. | .flyWr2 .. => fun _ _ _ => .of_engine rfl fun _ => .fly _ _ _
  | .acopyRd .. | .acopyWr .. | .acopy2d .. => fun _ _ _ => .of_engine rfl fun _ => .acopy _ _ _ _
  | .wheelLd .. | .wheelSt .. | .wheelAdd .. | .wheelXchg .. | .wheelCas .. => fun _ _ _ => .of_engine rfl fun _ => .wheel _ _ _
  | .mbput .. | .mbget .. => fun _ _ _ => .of_engine rfl fun _ => .mbEnter _ _ _ _
  | .qmark .. => fun _ _ _ => .of_engine rfl fun _ => .bounds (.ok _)
  | .give .. | .xfill .. | .chorusCombine .. => fun _ _ _ => .of_engine rfl fun _ => .bounds (.owned (.ok _))
  | .chorusAr .. | .chorusAg .. | .chorusRs .. | .chorusBc .. | .chorusBar .. => fun _ _ _ => .of_engine rfl fun _ => .chorusPost _ _ _ _ _
  | .hop .. | .hopPass .. => fun _ _ _ => .of_word rfl fun _ => .claimHop fun _ => .ok _
  | .br t => fun _ _ _ => .br t
  | .brp g t => fun _ _ _ => .brp g t
  | .brz nz k t => fun _ _ _ => .brz nz k t
  | .call g t => fun _ _ _ => .call g t
  | .jumpOv t => fun _ _ _ => .jumpOv t
  | .vldx r a b => fun _ _ _ => .vldx r a b
  | .vstx d a b => fun _ _ _ => .vstx d a b
  | .xcopy g kg rm => fun _ _ _ => .xcopy g kg rm
  | .chorusReady g kg sc => fun _ _ _ => .chorusReady g kg sc
  | .xrecv r side w ch => fun _ _ _ => .xrecv r side w ch
  | .cuetrim => fun _ hc _ => absurd rfl hc
  | .xsend a d w ch => fun _ _ hx => absurd rfl (hx a d w ch)
  | .sequencerIssue .. | .resultLanding .. | .waitcueTargetReached .. | .waitrelExpiry .. | .waiteWake .. | .waiteDeadline ..
  | .waitownWake .. | .waitownDeadline .. | .localLimitDeadline .. | .missingMarkRb .. | .signalArrival .. | .hopBeatLanding ..
  | .crossingBeatArrival .. | .crossingWordLost .. | .gatedWriteRelease .. | .flyMemoryPoint .. | .flyCompletion ..
  | .wheelMemoryPoint .. | .wheelResult .. | .acopyLoadCompletion .. | .acopyStoreCompletion .. | .acopyPageFault ..
  | .qmarkCompletion .. | .tileCopyStart .. | .tileCopyCompletion .. | .mailboxPutPerformed .. | .mailboxGetPerformed ..
  | .chorusMemberCompletion .. | .chorusStaleCompletion .. | .chorusTimeout .. | .barCompletion .. | .combineCompletion ..
  | .ringBoundary .. | .overlayFetchCompletion .. | .holdAnnouncement .. | .holdBegin .. | .holdEnd .. | .companyStart .. | .launchEnd ..
  | .launchFaultEnd .. | .uncorrectableError .. | .rollbackRestart .. | .correctedError .. | .scrub .. | .freezeAnnouncement ..
  | .freeze .. | .freezeSaveComplete .. | .instructionMemoryRewrite .. | .resume .. | .placementPass | .pfack ..
  | .pageFaultUnresolvable .. | .pageMigration .. | .hostCxlRead .. | .hostCxlWrite .. | .hdmDecoderCommit .. | .periodicTrim ..
  | .trimExchange .. | .ofsMeasurement .. | .circuitTeardown .. | .circuitSetup .. | .linkCrcFailure .. | .islandRegulatorFailure ..
  | .regionRailFailure .. | .busLow | .busCollapse | .powerStageTrip .. | .presenceClampClosed .. | .presenceOpen .. | .clampOpen ..
  | .powerGood .. | .phaseTimeLimit .. | .selfTest .. | .admission .. | .siteTransitionEffect | .keepAliveSend .. | .keepAliveSilence ..
  | .cmdPower .. | .cmdDrain .. | .cmdUndrain .. | .cmdReset .. | .siteRequestButton .. | .freshrdClear .. | .rejoinGangStart ..
  | .doorbell .. | .qcmdResume .. | .qcmdSkip .. | .qcmdReset .. | .queueVisit | .packetUnblock .. | .packetNop .. | .launch ..
  | .copy .. | .copyCompletion .. | .weightload .. | .weightloadApply .. | .putmb .. | .waitmb .. | .unloadCode .. | .unloadData ..
  | .unloadLaunch .. | .unloadCompletion .. | .indirect .. | .fence .. | .rejoin .. | .rejoinWithdraw .. | .mailboxFullClear ..
  | .logdropClear .. | .deckColdStart .. | .recoveryImageWrite .. | .firmwareUpdate .. | .firmwareRestart | .ownerKeyEnrolment ..
  | .attestationReport .. | .commandLinkMessage .. | .commandLinkPermitTimeout .. | .networkWriteReceived .. | .congestionNotification ..
  | .retransmissionLimit .. | .sensorRead .. | .reefTargetRaise .. | .reefTargetLower .. | .thermalTrip .. | .reefLevelChange ..
  | .reefminWrite .. | .islandWake .. | .registerWrite .. | .fatalModuleError .. | .presenceOpenFor222Cycles ..
  | .overlayFetchTranslationFault .. | .linkReturnToService .. => nofun

theorem FrameWord.frame {i : Instr} (hi : FrameWord i) {s t : State} {h : Here} (hs : s.here = some h) (ht : exec i s = .next t) :
    h.Frame t := by
  obtain ⟨f, e, hf⟩ := hi
  rw [e, word_here hs] at ht
  exact Host.Outcome.next.inj ht ▸ hf h

/-! ### XSEND and CUETRIM -/

@[simp] theorem Tile.addTorn_key (t : Tile) (d : Side) (ch : Fin 8) : (t.addTorn d ch).key = t.key := rfl

/-- What a tear-down leaves: the tile's own side marked, then the side of the tile across, where that tile is another one. -/
theorem Here.frame_torn (h : Here) {own : Tile} (hown : own.key = h.t.key) (k : TileKey) (d : Side) (ch : Fin 8) {t : State}
    (ht : ((h.s.setTile own).tileAt k).elim (h.s.setTile own) (fun u => (h.s.setTile own).setTile (u.addTorn d ch)) = t) :
    h.Frame t ∨ ∃ u s', h.s.tileAt k = some u ∧ h.Frame s' ∧ t = s'.setTile (u.addTorn d ch) := by
  have marked : h.Frame (h.s.setTile own) := (Here.Frame.self h).setTile hown
  cases hu : (h.s.setTile own).tileAt k with
  | none =>
    rw [hu] at ht
    exact .inl (ht ▸ marked)
  | some u =>
    rw [hu] at ht
    by_cases hk : k = h.t.key
    · exact .inl (ht ▸ marked.setTile ((State.tileAt_key hu).trans hk))
    · exact .inr ⟨u, _, marked.tiles k hk ▸ hu, marked, ht.symm⟩

/-- XSEND touches its own tile, and in the very cycle of a tear-down the status words of the tile across (12 R320). -/
theorem exec_xsend_frame {s t : State} {h : Here} (hs : s.here = some h) {a : Sel} {d : Side} {w : Bool} {ch : Fin 8}
    (ht : exec (.xsend a d w ch) s = .next t) :
    h.Frame t ∨ ∃ (x : Crossing) (u : Tile) (s' : State), h.s.crossing h.gang h.t.key d = some x ∧ x.torn = true ∧
      h.s.tileAt x.peer = some u ∧ h.Frame s' ∧ t = s'.setTile (u.addTorn x.peerSide ch) := by
  change execXsend a d w ch s = _ at ht
  rw [execXsend, word_here hs] at ht
  replace ht := Host.Outcome.next.inj ht
  dsimp only at ht
  split at ht
  · exact .inl (ht ▸ Here.Stays.trap _ _)
  split at ht
  · exact .inl (ht ▸ Here.Stays.ok _)
  next x hx =>
    split at ht
    · split at ht
      next htorn =>
        refine (h.frame_torn (by rfl) x.peer x.peerSide ch ht).imp_right ?_
        rintro ⟨u, s', hu, hf, rfl⟩
        exact ⟨x, u, s', hx, htorn, hu, hf, rfl⟩
      · exact .inl (ht ▸ Here.Stays.tile _ rfl)
    · exact .inl (ht ▸ Here.Stays.tile _ rfl)

theorem exec_cuetrim_here {s : State} {h : Here} (hs : s.here = some h) :
    exec .cuetrim s = .next (s.askTrim h.t.site h.t.region (s.nextMultiple h.t.site h.t.region 4096)) := by
  change execCuetrim s = _
  rw [execCuetrim, hs]

/-- CUETRIM touches the sites alone. -/
theorem State.askTrim_shared (s : State) (n : SiteId) (q : Fin 4) (c : Nat) :
    s.Shared (s.askTrim n q c) ∧ (s.askTrim n q c).tiles = s.tiles ∧ (s.askTrim n q c).companies = s.companies := by
  unfold State.askTrim
  split
  · exact ⟨.refl s, rfl, rfl⟩
  · exact ⟨(State.Shared.refl s).setSite _ _, rfl, rfl⟩

end Sys2Proof.Machine

open Sys2Proof Sys2Proof.Machine

/-- Settles O43: CUETRIM and XSEND apart, each word leaves all but its own tile and company as they were. -/
theorem slotWordFrame : Obligations.SlotWordFrame := by
  unfold Obligations.SlotWordFrame
  intro i s t h hi hs ht
  have hst : h.s = s := State.here_s hs
  suffices parts : s.Shared t ∧
      (∀ k, k ≠ h.t.key → t.tileAt k = s.tileAt k ∨ (∃ a d w ch x u, i = .xsend a d w ch ∧ s.crossing h.gang h.t.key d = some x ∧
        x.torn = true ∧ x.peer = k ∧ s.tileAt k = some u ∧ t.tileAt k = some (u.addTorn x.peerSide ch))) ∧
      (∀ n, n ≠ h.co.num → t.coAt n = s.coAt n) ∧ (i ≠ .cuetrim → t.sites = s.sites) by
    obtain ⟨sh, rest⟩ := parts
    exact ⟨sh.mem, sh.weights, sh.hostMem, sh.mbox, sh.queues, sh.cue, sh.agenda, sh.inputs, sh.log, sh.circuits, sh.fw, sh.length, rest⟩
  subst hst
  by_cases hc : i = .cuetrim
  · subst hc
    rw [exec_cuetrim_here hs] at ht
    obtain rfl := Host.Outcome.next.inj ht
    obtain ⟨shared, tiles, companies⟩ := h.s.askTrim_shared h.t.site h.t.region (h.s.nextMultiple h.t.site h.t.region 4096)
    exact ⟨shared, fun k _ => .inl (by simp only [State.tileAt, tiles]), fun n _ => by simp only [State.coAt, companies],
      fun hne => absurd rfl hne⟩
  by_cases hx : ∃ a d w ch, i = .xsend a d w ch
  · obtain ⟨a, d, w, ch, rfl⟩ := hx
    rcases exec_xsend_frame hs ht with hf | ⟨x, u, s', hcross, htorn, hu, hf, rfl⟩
    · exact ⟨hf.shared, fun k hk => .inl (hf.tiles k hk), hf.companies, fun _ => hf.sites⟩
    · refine ⟨hf.shared.setTile _, fun k hk => ?_, hf.companies, fun _ => hf.sites⟩
      have key : (u.addTorn x.peerSide ch).key = x.peer := (u.addTorn_key _ _).trans (State.tileAt_key hu)
      rw [State.tileAt_setTile, key, hf.tiles k hk]
      by_cases hp : x.peer = k
      · subst hp
        rw [if_pos rfl, hu]
        exact .inr ⟨a, d, w, ch, x, u, rfl, hcross, htorn, rfl, rfl, rfl⟩
      · rw [if_neg hp]
        exact .inl rfl
  · have hf := (frameWord_of_slot i hi hc fun a d w ch e => hx ⟨a, d, w, ch, e⟩).frame hs ht
    exact ⟨hf.shared, fun k hk => .inl (hf.tiles k hk), hf.companies, fun _ => hf.sites⟩

end

section
/-! SUPPORT. Every step goes on (logs 6, 10): a slot word is `word` of what its tile makes of it, an event always has a next state; then O6. -/
namespace Sys2Proof.Machine

/-! ### Slot words -/

/-- Every slot word but CUETRIM, which asks for the module's trim, is a word of its tile. -/
theorem exec_eq_word {i : Instr} (hi : (encode i).isSome = true) (hc : i ≠ .cuetrim) : ∃ f, exec i = word f := by
  by_cases hx : ∃ a d w ch, i = .xsend a d w ch
  · obtain ⟨a, d, w, ch, rfl⟩ := hx
    exact ⟨_, rfl⟩
  · obtain ⟨f, e, _⟩ := frameWord_of_slot i hi hc fun a d w ch e => hx ⟨a, d, w, ch, e⟩
    exact ⟨f, e⟩

theorem exec_cuetrim_noTile {s : State} (hs : s.here = none) : exec .cuetrim s = .fault .noTile := by
  change execCuetrim s = _
  rw [execCuetrim, hs]

/-- What a slot word does: it goes on where its tile stands, and faults where none stands. -/
theorem exec_slot {i : Instr} (hi : (encode i).isSome = true) (s : State) :
    (s.here = none ∧ exec i s = .fault .noTile) ∨ ∃ h t, s.here = some h ∧ exec i s = .next t := by
  cases hs : s.here with
  | none =>
    refine .inl ⟨rfl, ?_⟩
    by_cases hc : i = .cuetrim
    · rw [hc, exec_cuetrim_noTile hs]
    · obtain ⟨f, hf⟩ := exec_eq_word hi hc
      rw [hf, word_noTile hs]
  | some h =>
    by_cases hc : i = .cuetrim
    · exact .inr ⟨h, _, rfl, hc ▸ exec_cuetrim_here hs⟩
    · obtain ⟨f, hf⟩ := exec_eq_word hi hc
      exact .inr ⟨h, _, rfl, by rw [hf, word_here hs]⟩

/-! ### Events -/

theorem goesOn_next (s : State) : goesOn (.next s) := ⟨s, rfl⟩

theorem goesOn_ite {c : Prop} [Decidable c] {x y : Host.Outcome State Fault Refusal} (hx : goesOn x) (hy : goesOn y) :
    goesOn (if c then x else y) := by
  split
  · exact hx
  · exact hy

theorem goesOn_atTile (k : TileKey) (f : Here → State) (s : State) : goesOn (atTile k f s) := by
  unfold atTile
  split <;> exact goesOn_next _

theorem goesOn_atEngine (k : TileKey) (f : Here → State) (s : State) : goesOn (atEngine k f s) := goesOn_atTile k _ s

theorem goesOn_gatedWriteRelease (co : Nat) (s : State) : goesOn (execGatedWriteRelease co s) := by
  unfold execGatedWriteRelease
  split
  · exact goesOn_next _
  dsimp only
  split
  · exact goesOn_next _
  · exact goesOn_ite (goesOn_next _) (goesOn_next _)

theorem goesOn_tileCopyStart (k : TileKey) (s : State) : goesOn (execTileCopyStart k s) := by
  unfold execTileCopyStart
  repeat' split
  all_goals exact goesOn_next _

theorem goesOn_tileCopyCompletion (k : TileKey) (s : State) : goesOn (execTileCopyCompletion k s) := by
  unfold execTileCopyCompletion
  repeat' split
  all_goals exact goesOn_next _

theorem goesOn_ringBoundary (co : Nat) (s : State) : goesOn (execRingBoundary co s) := by
  unfold execRingBoundary
  dsimp only
  split <;> exact goesOn_next _

theorem goesOn_rollbackRestart (co : Nat) (s : State) : goesOn (execRollbackRestart co s) := by
  unfold execRollbackRestart
  repeat' split
  all_goals exact goesOn_next _

theorem goesOn_pfack (i : BitVec 32) (s : State) : goesOn (execPfack i s) := by
  unfold execPfack
  split <;> exact goesOn_next _

theorem goesOn_pageFaultUnresolvable (i : BitVec 32) (s : State) : goesOn (execPageFaultUnresolvable i s) := by
  unfold execPageFaultUnresolvable
  split
  · exact goesOn_next _
  · refine goesOn_ite (goesOn_next _) ?_
    dsimp only
    split
    · split <;> exact goesOn_next _
    · split <;> exact goesOn_next _
    · exact goesOn_next _
    · exact goesOn_next _

theorem goesOn_pageMigration (co : Nat) (seg : Fin 64) (va frame : BitVec 48) (s : State) : goesOn (execPageMigration co seg va frame s) := by
  unfold execPageMigration
  split
  · exact goesOn_next _
  split
  · exact goesOn_next _
  split
  · exact goesOn_next _
  exact goesOn_ite (goesOn_next _) (goesOn_ite (goesOn_next _) (goesOn_ite (goesOn_next _) (goesOn_next _)))

theorem goesOn_siteTransitionEffect (s : State) : goesOn (execSiteTransitionEffect s) := goesOn_ite (goesOn_next _) (goesOn_next _)

theorem goesOn_deckColdStart (strap : Bool) (s : State) : goesOn (execDeckColdStart strap s) := goesOn_next _

theorem goesOn_packetStep (q : Fin 64) (p : Packet) (s : State) : goesOn (packetStep q p s) := by
  unfold packetStep
  repeat' split
  all_goals exact goesOn_next _

theorem goesOn_queueVisit (s : State) : goesOn (execQueueVisit s) :=
  goesOn_ite (goesOn_next _) (goesOn_ite (goesOn_next _) (goesOn_ite (goesOn_packetStep _ _ _) (goesOn_next _)))

theorem goesOn_qcmd (q : Fin 64) (n : Nat) (s : State) : goesOn (qcmd q n s) := by
  unfold qcmd
  split <;> exact goesOn_next _

theorem goesOn_writeBar0 (off : Nat) (v : W64) (s : State) : goesOn (writeBar0 off v s) :=
  goesOn_ite (goesOn_next _) (goesOn_ite (goesOn_ite (goesOn_qcmd _ _ _) (goesOn_next _)) (goesOn_ite (goesOn_next _)
    (goesOn_ite (goesOn_next _) (goesOn_ite (goesOn_pfack _ _) (goesOn_ite (goesOn_next _) (goesOn_next _))))))

theorem goesOn_siteCmd (n : SiteId) (c : Nat) (s : State) : goesOn (siteCmd n c s) := by
  unfold siteCmd
  split <;> exact goesOn_next _

theorem goesOn_writeSite (n : SiteId) (v : W64) (s : State) : goesOn (writeSite n v s) := goesOn_ite (goesOn_next _) (goesOn_siteCmd _ _ _)

theorem goesOn_writeBlock (n : SiteId) (off : Nat) (v : W64) (s : State) : goesOn (writeBlock n off v s) :=
  goesOn_ite (goesOn_next _) (goesOn_ite (goesOn_next _) (goesOn_ite (goesOn_next _) (goesOn_next _)))

theorem goesOn_writeBar2 (off : Nat) (v : W64) (s : State) : goesOn (writeBar2 off v s) :=
  goesOn_ite (goesOn_writeSite _ _ _) (goesOn_ite (goesOn_next _) (goesOn_ite (goesOn_writeBlock _ _ _ _)
    (goesOn_ite (goesOn_writeBlock _ _ _ _) (goesOn_ite (goesOn_next _) (goesOn_next _)))))

theorem goesOn_registerWrite (bar : PortBar) (off : BitVec 25) (v : BitVec 64) (s : State) : goesOn (execRegisterWrite bar off v s) :=
  goesOn_ite (goesOn_next _) (goesOn_ite
    (goesOn_ite (goesOn_next _) (goesOn_ite (goesOn_next _) (goesOn_ite (goesOn_next _) (goesOn_next _))))
    (goesOn_ite (goesOn_writeBar2 _ _ _) (goesOn_ite (goesOn_writeBar0 _ _ _) (goesOn_next _))))

/-- An event goes on. -/
theorem exec_event_goesOn : ∀ i : Instr, encode i = none → ∀ s, goesOn (exec i s)
  | .holdAnnouncement .. | .holdBegin .. | .holdEnd .. | .companyStart .. | .launchEnd .. | .launchFaultEnd .. | .uncorrectableError ..
  | .correctedError .. | .scrub .. | .freezeAnnouncement .. | .freeze .. | .freezeSaveComplete .. | .instructionMemoryRewrite ..
  | .resume .. | .placementPass | .hostCxlRead .. | .hostCxlWrite .. | .hdmDecoderCommit .. | .periodicTrim .. | .trimExchange ..
  | .circuitTeardown .. | .circuitSetup .. | .linkCrcFailure .. | .islandRegulatorFailure .. | .regionRailFailure .. | .busLow
  | .busCollapse | .powerStageTrip .. | .presenceClampClosed .. | .presenceOpen .. | .clampOpen .. | .powerGood .. | .phaseTimeLimit ..
  | .selfTest .. | .admission .. | .keepAliveSend .. | .keepAliveSilence .. | .cmdPower .. | .cmdDrain .. | .cmdUndrain .. | .cmdReset ..
  | .siteRequestButton .. | .freshrdClear .. | .rejoinGangStart .. | .doorbell .. | .qcmdResume .. | .qcmdSkip .. | .qcmdReset ..
  | .packetUnblock .. | .packetNop .. | .launch .. | .copy .. | .copyCompletion .. | .weightload .. | .weightloadApply .. | .putmb ..
  | .waitmb .. | .unloadCode .. | .unloadData .. | .unloadLaunch .. | .unloadCompletion .. | .indirect .. | .fence .. | .rejoin ..
  | .rejoinWithdraw .. | .mailboxFullClear .. | .logdropClear .. | .recoveryImageWrite .. | .firmwareUpdate .. | .firmwareRestart
  | .ownerKeyEnrolment .. | .attestationReport .. | .commandLinkMessage .. | .commandLinkPermitTimeout .. | .networkWriteReceived ..
  | .congestionNotification .. | .retransmissionLimit .. | .sensorRead .. | .reefTargetRaise .. | .reefTargetLower .. | .thermalTrip ..
  | .reefLevelChange .. | .reefminWrite .. | .islandWake .. | .fatalModuleError .. | .presenceOpenFor222Cycles ..
  | .linkReturnToService .. => fun _ _ => goesOn_next _
  | .sequencerIssue .. | .resultLanding .. | .waitcueTargetReached .. | .waitrelExpiry .. | .waiteWake .. | .waiteDeadline ..
  | .waitownWake .. | .waitownDeadline .. | .localLimitDeadline .. | .missingMarkRb .. | .signalArrival .. | .hopBeatLanding ..
  | .crossingBeatArrival .. | .crossingWordLost .. | .chorusMemberCompletion .. | .chorusStaleCompletion .. | .chorusTimeout ..
  | .barCompletion .. | .combineCompletion .. | .overlayFetchCompletion .. | .ofsMeasurement .. | .overlayFetchTranslationFault .. => fun _ s => goesOn_atTile _ _ s
  | .flyMemoryPoint .. | .flyCompletion .. | .wheelMemoryPoint .. | .wheelResult .. | .acopyLoadCompletion .. | .acopyStoreCompletion ..
  | .acopyPageFault .. | .qmarkCompletion .. | .mailboxPutPerformed .. | .mailboxGetPerformed .. => fun _ s => goesOn_atEngine _ _ s
  | .gatedWriteRelease a => fun _ s => goesOn_gatedWriteRelease a s
  | .tileCopyStart a => fun _ s => goesOn_tileCopyStart a s
  | .tileCopyCompletion a => fun _ s => goesOn_tileCopyCompletion a s
  | .ringBoundary a => fun _ s => goesOn_ringBoundary a s
  | .rollbackRestart a => fun _ s => goesOn_rollbackRestart a s
  | .pfack a => fun _ s => goesOn_pfack a s
  | .pageFaultUnresolvable a => fun _ s => goesOn_pageFaultUnresolvable a s
  | .pageMigration a b c d => fun _ s => goesOn_pageMigration a b c d s
  | .siteTransitionEffect => fun _ s => goesOn_siteTransitionEffect s
  | .queueVisit => fun _ s => goesOn_queueVisit s
  | .deckColdStart a => fun _ s => goesOn_deckColdStart a s
  | .registerWrite a b c => fun _ s => goesOn_registerWrite a b c s
  | .nop | .halt | .trap .. | .br .. | .brp .. | .brz .. | .call .. | .ret .. | .loop .. | .loops .. | .replay .. | .waitcue ..
  | .waitrel .. | .join .. | .waite .. | .clre .. | .waitown .. | .skipm .. | .markRb | .markOv .. | .jumpOv .. | .signal .. | .add ..
  | .sub .. | .and .. | .or .. | .xor .. | .shl .. | .shr .. | .sha .. | .min .. | .max .. | .minn .. | .maxn .. | .clz .. | .popc ..
  | .mul .. | .mulh .. | .mulhn .. | .div .. | .divn .. | .rem .. | .remn .. | .cmpEq .. | .cmpNe .. | .cmpLt .. | .cmpLtn .. | .cmpGe ..
  | .cmpGen .. | .sel .. | .bfx .. | .bfi .. | .addi .. | .andi .. | .ori .. | .xori .. | .shli .. | .shri .. | .shai .. | .li ..
  | .lih .. | .ld8 .. | .ld8Stream .. | .ld16 .. | .ld16Stream .. | .ld32 .. | .ld32Stream .. | .ld64 .. | .ld64Stream .. | .st8 ..
  | .st8Stream .. | .st16 .. | .st16Stream .. | .st32 .. | .st32Stream .. | .st64 .. | .st64Stream .. | .setk .. | .seta .. | .setd ..
  | .setlc .. | .setlb .. | .rdid .. | .rdcfg .. | .rdcue .. | .rddeck .. | .vadd .. | .vsub .. | .vmul .. | .vmulh .. | .vmin ..
  | .vmax .. | .vminn .. | .vmaxn .. | .vand .. | .vor .. | .vxor .. | .vshl .. | .vshr .. | .vsha .. | .vcmpEq .. | .vcmpNe ..
  | .vcmpLt .. | .vcmpLtn .. | .vcmpGe .. | .vcmpGen .. | .vcmpFeq .. | .vcmpFne .. | .vcmpFlt .. | .vcmpFge .. | .vpushm .. | .vinvm
  | .vpopm | .vsel .. | .vfadd .. | .vfsub .. | .vfmul .. | .vfma .. | .vfmin .. | .vfmax .. | .vfabs .. | .vfneg .. | .vcvt ..
  | .vqblk .. | .vdqblk .. | .vmxq .. | .vmxdq .. | .vexp2 .. | .vlog2 .. | .vrcp .. | .vrsq .. | .vtanh .. | .vredadd .. | .vredmax ..
  | .vredmin .. | .vscan .. | .vperm .. | .vshuf .. | .vbcast .. | .vins .. | .vext .. | .vlidx .. | .vld .. | .vldStream .. | .vst ..
  | .vstStream .. | .vldx .. | .vstx .. | .mloadbW .. | .mloadbS .. | .mpush .. | .mshift .. | .macc .. | .maccDrop .. | .mscale ..
  | .mzero .. | .mdrain .. | .mmode .. | .msparse .. | .mflags .. | .flyRd .. | .flyWr .. | .flyRd2 .. | .flyWr2 .. | .acopyRd ..
  | .acopyWr .. | .acopy2d .. | .qmark .. | .xcopy .. | .xfill .. | .give .. | .ownq .. | .wheelLd .. | .wheelSt .. | .wheelAdd ..
  | .wheelXchg .. | .wheelCas .. | .mbput .. | .mbget .. | .chorusAr .. | .chorusAg .. | .chorusRs .. | .chorusBc .. | .chorusBar ..
  | .chorusReady .. | .chorusCombine .. | .chorusJoin .. | .chorusLeave .. | .siteq .. | .hop .. | .hopPass .. | .recv .. | .xsend ..
  | .xrecv .. | .bandq .. | .cuetrim | .castKey .. | .castRand .. | .castUnif .. | .castScore .. | .castTopkK .. | .castTopkP ..
  | .castMass .. | .castPick .. | .castClr => nofun

/-- Every event stands for an instruction that has no word. -/
theorem Event.means_event (e : Event) : ∃ i, e.means i ∧ encode i = none := by
  cases e <;> exact ⟨_, rfl, rfl⟩

theorem Event.run_goesOn (e : Event) (s : State) : goesOn (e.run s) := by
  obtain ⟨i, hm, hi⟩ := e.means_event
  rw [Event.run_of_means hm]
  exact exec_event_goesOn i hi s

theorem step_goesOn (s : State) : goesOn (step s) := by
  cases ha : s.agenda with
  | nil => exact ⟨_, step_of_agenda_nil ha⟩
  | cons e r =>
    rw [step_of_agenda_cons ha]
    exact e.run_goesOn _

end Sys2Proof.Machine

open Sys2Proof Sys2Proof.Machine

/-- Settles O6: an event always goes on, a slot word wherever it has a tile. -/
theorem stepAlwaysGoesOn : Obligations.StepAlwaysGoesOn := by
  unfold Obligations.StepAlwaysGoesOn
  refine ⟨step_goesOn, fun i s x hx => ?_, fun i s x hx => ?_⟩
  · cases hi : encode i with
    | none =>
      obtain ⟨t, ht⟩ := exec_event_goesOn i hi s
      exact nomatch ht.symm.trans hx
    | some w =>
      rcases exec_slot (by rw [hi]; rfl) s with ⟨_, hf⟩ | ⟨_, t, _, ht⟩
      · exact nomatch hf.symm.trans hx
      · exact nomatch ht.symm.trans hx
  · cases hi : encode i with
    | none =>
      obtain ⟨t, ht⟩ := exec_event_goesOn i hi s
      exact nomatch ht.symm.trans hx
    | some w =>
      rcases exec_slot (by rw [hi]; rfl) s with ⟨hn, _⟩ | ⟨_, t, _, ht⟩
      · exact ⟨hn, rfl⟩
      · exact nomatch ht.symm.trans hx

end

section
/-! SUPPORT. Loop words (04 R97, R98) and engine words whose guard fails (03 R75); then O19 and O39. -/
namespace Sys2Proof.Machine

/-- An engine word whose guard fails leaves the tile as it is. -/
theorem exec_engine_fails {s : State} {h : Here} (hs : s.here = some h) {g : Guard} (hp : h.passes g = false) {i : Instr} {f : Here → Res}
    (e : exec i = engine g f) : exec i s = h.becomes h.st := by
  refine exec_word_ok hs (f := fun h => if h.passes g then f h else .ok h.st) (e.trans rfl) ?_
  simp only [hp, Bool.false_eq_true, if_false]

/-! ### Loop words -/

/-- The tinfo of LOOPREG, written out. -/
theorem bits_low (v : W64) (n : Nat) : bits v n 0 = v.toNat % 2 ^ (n + 1) := by
  simp [bits]

section
variable {h : Here} {t : BitVec 11} {e : Nat}

theorem Here.loopEnd_of_target (ht : h.target t = some e) :
    h.loopEnd t = if h.st.pc < e ∧ e < h.st.base + h.t.segLen then some e else none := by
  simp only [Here.loopEnd, ht, Option.bind_some]

variable {lv : Fin 4} {n count stages : Nat}

theorem Here.loopWord_illegal (hend : h.loopEnd t = none) : h.loopWord lv t n count stages = .trap cILLEGAL 1 := by
  simp only [Here.loopWord, hend, illegalC]

theorem Here.loopWord_loopreg {k : Nat} (hend : h.loopEnd t = some e) (hk : h.loopKind lv (stages != 0) = some k) :
    h.loopWord lv t n count stages = .trap cLOOPREG (loopregInfo k lv) := by
  simp only [Here.loopWord, hend, hk]

theorem Here.loopWord_activates (hend : h.loopEnd t = some e) (hk : h.loopKind lv (stages != 0) = none) (hn : n ≠ 0) :
    h.loopWord lv t n count stages = .ok { h.st with xfer := .loop lv (BitVec.ofNat 32 count) (BitVec.ofNat 11 e) stages } := by
  simp only [Here.loopWord, hend, hk, if_neg hn]

theorem Here.loopWord_skips (hend : h.loopEnd t = some e) (hk : h.loopKind lv (stages != 0) = none) (hn : n = 0) :
    h.loopWord lv t n count stages = .ok { h.st with xfer := .branch (e + 1) } := by
  simp only [Here.loopWord, hend, hk, if_pos hn, TState.goTo]

end
/-! ### The kind of LOOPREG -/

section
variable {h : Here} {lv : Fin 4} {replay : Bool}

theorem Here.loopKind_active (ha : (h.st.loops[lv]).active = true) : h.loopKind lv replay = some 0 := by
  simp only [Here.loopKind, ha, if_true]

variable (ha : (h.st.loops[lv]).active = false)
include ha

theorem Here.loopKind_replay (hr : ∃ l ∈ h.st.nest, (h.st.loops[l]).stages ≠ 0) : h.loopKind lv true = some 2 := by
  have staged : h.st.nest.any (fun l => (h.st.loops[l]).stages != 0) = true := by simpa using hr
  simp only [Here.loopKind, ha, staged, Bool.false_eq_true, if_false, Bool.and_true, if_true]

/-- Off an active level, and no REPLAY inside REPLAY, the bundle itself decides. -/
theorem Here.loopKind_end (hr : replay = true → ∀ l ∈ h.st.nest, (h.st.loops[l]).stages = 0) :
    h.loopKind lv replay = if h.st.nest.any (fun l => (h.st.loops[l]).stop.toNat == h.st.pc) then some 3 else none := by
  have noReplay : (replay && h.st.nest.any fun l => (h.st.loops[l]).stages != 0) = false := by
    cases replay with
    | false => rfl
    | true => simpa using hr rfl
  simp only [Here.loopKind, ha, noReplay, Bool.false_eq_true, if_false]

theorem Here.loopKind_atEnd (hr : replay = true → ∀ l ∈ h.st.nest, (h.st.loops[l]).stages = 0)
    (hs : ∃ l ∈ h.st.nest, (h.st.loops[l]).stop.toNat = h.st.pc) : h.loopKind lv replay = some 3 := by
  rw [Here.loopKind_end ha hr, if_pos]
  simpa using hs

theorem Here.loopKind_none (hr : replay = true → ∀ l ∈ h.st.nest, (h.st.loops[l]).stages = 0)
    (hs : ∀ l ∈ h.st.nest, (h.st.loops[l]).stop.toNat ≠ h.st.pc) : h.loopKind lv replay = none := by
  rw [Here.loopKind_end ha hr, if_neg]
  simpa using hs

end

end Sys2Proof.Machine

open Sys2Proof Sys2Proof.Machine

/-- Settles O19: the END is checked first, then the kinds of LOOPREG in order, then the count. -/
theorem loopWords : Obligations.LoopWords := by
  unfold Obligations.LoopWords
  refine ⟨fun s h lv x st k t e hs ht hpc hseg ha hstop => ?_, fun s h lv x st k t e hs ht => ⟨fun hbad => ?_, fun hpc hseg => ?_⟩⟩
  · have hend : h.loopEnd t = some e := by rw [Here.loopEnd_of_target ht, if_pos ⟨hpc, hseg⟩]
    have plain : h.loopKind lv false = none := Here.loopKind_none ha nofun hstop
    refine ⟨fun hx => exec_word_ok hs rfl (Here.loopWord_activates hend plain fun h0 => hx (BitVec.eq_of_toNat_eq h0)),
      fun hn => exec_word_ok hs rfl ?_, fun hn => exec_word_ok hs rfl ?_, fun hr => ?_⟩
    · simp only [bits_low]
      exact Here.loopWord_activates hend plain hn
    · exact Here.loopWord_skips hend plain ((bits_low _ 31).trans hn)
    · have staged : h.loopKind lv (st.val + 1 != 0) = none := Here.loopKind_none ha (fun _ => hr) hstop
      refine ⟨fun hm => exec_word_ok hs rfl ?_, fun hm => exec_word_ok hs rfl ?_⟩
      · simp only [bits_low]
        exact Here.loopWord_activates hend staged hm
      · exact Here.loopWord_skips hend staged ((bits_low _ 27).trans hm)
  · have hend : h.loopEnd t = none := by
      rw [Here.loopEnd_of_target ht, if_neg]
      omega
    simp only [List.forall_mem_cons, List.not_mem_nil, false_implies, implies_true, and_true]
    exact ⟨exec_word_trap hs rfl (Here.loopWord_illegal hend), exec_word_trap hs rfl (Here.loopWord_illegal hend),
      exec_word_trap hs rfl (Here.loopWord_illegal hend)⟩
  · have hend : h.loopEnd t = some e := by rw [Here.loopEnd_of_target ht, if_pos ⟨hpc, hseg⟩]
    refine ⟨fun ha => ?_, fun ha hr => ?_, fun ha hstop => ?_⟩
    · exact ⟨exec_word_trap hs rfl (Here.loopWord_loopreg hend (Here.loopKind_active ha)),
        exec_word_trap hs rfl (Here.loopWord_loopreg hend (Here.loopKind_active ha)),
        exec_word_trap hs rfl (Here.loopWord_loopreg hend (Here.loopKind_active ha))⟩
    · exact exec_word_trap hs rfl (Here.loopWord_loopreg hend (Here.loopKind_replay ha hr))
    · have plain : h.loopKind lv false = some 3 := Here.loopKind_atEnd ha nofun hstop
      exact ⟨exec_word_trap hs rfl (Here.loopWord_loopreg hend plain), exec_word_trap hs rfl (Here.loopWord_loopreg hend plain),
        fun hr => exec_word_trap hs rfl (Here.loopWord_loopreg hend (Here.loopKind_atEnd ha (fun _ => hr) hstop))⟩

/-- Settles O39: every word of the list is an engine word. -/
theorem guardedEngineWords : Obligations.GuardedEngineWords := by
  unfold Obligations.GuardedEngineWords
  intro s h g kg l sc op rm o st hs hp
  simp only [List.forall_mem_cons, List.not_mem_nil, false_implies, implies_true, and_true]
  refine ⟨?_, ?_, ?_, ?_, ?_, ?_, ?_, ?_, ?_, ?_, ?_, ?_, ?_, ?_, ?_, ?_, ?_, ?_, ?_, ?_, ?_, ?_, ?_, ?_, ?_, ?_, ?_, ?_, ?_⟩ <;>
    exact exec_engine_fails hs hp rfl

end

section
/-! SUPPORT. The issue of a bundle (03 R80, 04 R96, R110, 11 R289); then O2 and O25. -/
namespace Sys2Proof.Machine

/-! ### What the sequencer issues -/

/-- The sequencer does with a slot word what the instruction does. -/
theorem execWord_eq_exec : ∀ i : Instr, (encode i).isSome = true → execWord i = exec i
  | .nop | .halt | .trap .. | .br .. | .brp .. | .brz .. | .call .. | .ret .. | .loop .. | .loops .. | .replay .. | .waitcue ..
  | .waitrel .. | .join .. | .waite .. | .clre .. | .waitown .. | .skipm .. | .markRb | .markOv .. | .jumpOv .. | .signal .. | .add ..
  | .sub .. | .and .. | .or .. | .xor .. | .shl .. | .shr .. | .sha .. | .min .. | .max .. | .minn .. | .maxn .. | .clz .. | .popc ..
  | .mul .. | .mulh .. | .mulhn .. | .div .. | .divn .. | .rem .. | .remn .. | .cmpEq .. | .cmpNe .. | .cmpLt .. | .cmpLtn .. | .cmpGe ..
  | .cmpGen .. | .sel .. | .bfx .. | .bfi .. | .addi .. | .andi .. | .ori .. | .xori .. | .shli .. | .shri .. | .shai .. | .li ..
  | .lih .. | .ld8 .. | .ld8Stream .. | .ld16 .. | .ld16Stream .. | .ld32 .. | .ld32Stream .. | .ld64 .. | .ld64Stream .. | .st8 ..
  | .st8Stream .. | .st16 .. | .st16Stream .. | .st32 .. | .st32Stream .. | .st64 .. | .st64Stream .. | .setk .. | .seta .. | .setd ..
  | .setlc .. | .setlb .. | .rdid .. | .rdcfg .. | .rdcue .. | .rddeck .. | .vadd .. | .vsub .. | .vmul .. | .vmulh .. | .vmin ..
  | .vmax .. | .vminn .. | .vmaxn .. | .vand .. | .vor .. | .vxor .. | .vshl .. | .vshr .. | .vsha .. | .vcmpEq .. | .vcmpNe ..
  | .vcmpLt .. | .vcmpLtn .. | .vcmpGe .. | .vcmpGen .. | .vcmpFeq .. | .vcmpFne .. | .vcmpFlt .. | .vcmpFge .. | .vpushm .. | .vinvm
  | .vpopm | .vsel .. | .vfadd .. | .vfsub .. | .vfmul .. | .vfma .. | .vfmin .. | .vfmax .. | .vfabs .. | .vfneg .. | .vcvt ..
  | .vqblk .. | .vdqblk .. | .vmxq .. | .vmxdq .. | .vexp2 .. | .vlog2 .. | .vrcp .. | .vrsq .. | .vtanh .. | .vredadd .. | .vredmax ..
  | .vredmin .. | .vscan .. | .vperm .. | .vshuf .. | .vbcast .. | .vins .. | .vext .. | .vlidx .. | .vld .. | .vldStream .. | .vst ..
  | .vstStream .. | .vldx .. | .vstx .. | .mloadbW .. | .mloadbS .. | .mpush .. | .mshift .. | .macc .. | .maccDrop .. | .mscale ..
  | .mzero .. | .mdrain .. | .mmode .. | .msparse .. | .mflags .. | .flyRd .. | .flyWr .. | .flyRd2 .. | .flyWr2 .. | .acopyRd ..
  | .acopyWr .. | .acopy2d .. | .qmark .. | .xcopy .. | .xfill .. | .give .. | .ownq .. | .wheelLd .. | .wheelSt .. | .wheelAdd ..
  | .wheelXchg .. | .wheelCas .. | .mbput .. | .mbget .. | .chorusAr .. | .chorusAg .. | .chorusRs .. | .chorusBc .. | .chorusBar ..
  | .chorusReady .. | .chorusCombine .. | .chorusJoin .. | .chorusLeave .. | .siteq .. | .hop .. | .hopPass .. | .recv .. | .xsend ..
  | .xrecv .. | .bandq .. | .cuetrim | .castKey .. | .castRand .. | .castUnif .. | .castScore .. | .castTopkK .. | .castTopkP ..
  | .castMass .. | .castPick .. | .castClr => fun _ => rfl
  | .sequencerIssue .. | .resultLanding .. | .waitcueTargetReached .. | .waitrelExpiry .. | .waiteWake .. | .waiteDeadline ..
  | .waitownWake .. | .waitownDeadline .. | .localLimitDeadline .. | .missingMarkRb .. | .signalArrival .. | .hopBeatLanding ..
  | .crossingBeatArrival .. | .crossingWordLost .. | .gatedWriteRelease .. | .flyMemoryPoint .. | .flyCompletion ..
  | .wheelMemoryPoint .. | .wheelResult .. | .acopyLoadCompletion .. | .acopyStoreCompletion .. | .acopyPageFault ..
  | .qmarkCompletion .. | .tileCopyStart .. | .tileCopyCompletion .. | .mailboxPutPerformed .. | .mailboxGetPerformed ..
  | .chorusMemberCompletion .. | .chorusStaleCompletion .. | .chorusTimeout .. | .barCompletion .. | .combineCompletion ..
  | .ringBoundary .. | .overlayFetchCompletion .. | .holdAnnouncement .. | .holdBegin .. | .holdEnd .. | .companyStart .. | .launchEnd ..
  | .launchFaultEnd .. | .uncorrectableError .. | .rollbackRestart .. | .correctedError .. | .scrub .. | .freezeAnnouncement ..
  | .freeze .. | .freezeSaveComplete .. | .instructionMemoryRewrite .. | .resume .. | .placementPass | .pfack ..
  | .pageFaultUnresolvable .. | .pageMigration .. | .hostCxlRead .. | .hostCxlWrite .. | .hdmDecoderCommit .. | .periodicTrim ..
  | .trimExchange .. | .ofsMeasurement .. | .circuitTeardown .. | .circuitSetup .. | .linkCrcFailure .. | .islandRegulatorFailure ..
  | .regionRailFailure .. | .busLow | .busCollapse | .powerStageTrip .. | .presenceClampClosed .. | .presenceOpen .. | .clampOpen ..
  | .powerGood .. | .phaseTimeLimit .. | .selfTest .. | .admission .. | .siteTransitionEffect | .keepAliveSend .. | .keepAliveSilence ..
  | .cmdPower .. | .cmdDrain .. | .cmdUndrain .. | .cmdReset .. | .siteRequestButton .. | .freshrdClear .. | .rejoinGangStart ..
  | .doorbell .. | .qcmdResume .. | .qcmdSkip .. | .qcmdReset .. | .queueVisit | .packetUnblock .. | .packetNop .. | .launch ..
  | .copy .. | .copyCompletion .. | .weightload .. | .weightloadApply .. | .putmb .. | .waitmb .. | .unloadCode .. | .unloadData ..
  | .unloadLaunch .. | .unloadCompletion .. | .indirect .. | .fence .. | .rejoin .. | .rejoinWithdraw .. | .mailboxFullClear ..
  | .logdropClear .. | .deckColdStart .. | .recoveryImageWrite .. | .firmwareUpdate .. | .firmwareRestart | .ownerKeyEnrolment ..
  | .attestationReport .. | .commandLinkMessage .. | .commandLinkPermitTimeout .. | .networkWriteReceived .. | .congestionNotification ..
  | .retransmissionLimit .. | .sensorRead .. | .reefTargetRaise .. | .reefTargetLower .. | .thermalTrip .. | .reefLevelChange ..
  | .reefminWrite .. | .islandWake .. | .registerWrite .. | .fatalModuleError .. | .presenceOpenFor222Cycles ..
  | .overlayFetchTranslationFault .. | .linkReturnToService .. => nofun

theorem exec_sequencerIssue {s : State} {k : TileKey} {h : Here} (hs : s.hereAt k = some h) (hi : h.issues = true) :
    exec (.sequencerIssue k) s = .next h.issueBundle := by
  refine (atTile_here hs fun h => if h.issues then h.issueBundle else s).trans ?_
  rw [if_pos hi]

@[simp] theorem TState.beforeBundle_skip (st : TState) : st.beforeBundle.skip = st.skip := by
  unfold TState.beforeBundle
  split <;> rfl

/-- The state in which the words of a tile's bundle read. -/
def Here.issueState (h : Here) : State := { h.put h.st.beforeBundle with focus := h.t.key, raised := none }

section
variable {h₀ : Here} {b : Bundle} (hb : h₀.enterPopped.t.bundleAt h₀.enterPopped.st.pc = some b)
include hb

theorem Here.issueBundle_suppressed (hk : 0 < h₀.enterPopped.st.skip) :
    h₀.issueBundle = h₀.enterPopped.put { (h₀.enterPopped.st.beforeBundle.issued b).stepOn with skip := h₀.enterPopped.st.skip - 1 } := by
  simp only [Here.issueBundle, hb, TState.beforeBundle_skip, if_pos hk]

theorem Here.issueBundle_undone (hk : h₀.enterPopped.st.skip = 0) {c : BitVec 8 × W64} {h0 : Here}
    (hc : takenCause (issueSlots b slots h₀.enterPopped.issueState []).2 = some c)
    (h0s : h₀.enterPopped.issueState.hereAt h₀.enterPopped.t.key = some h0) : h₀.issueBundle = h0.takeIssueCause c.1 c.2 := by
  unfold Here.issueState at hc h0s
  simp only [Here.issueBundle, hb, TState.beforeBundle_skip, hk, lt_irrefl, if_false, hc, h0s]

theorem Here.issueBundle_done (hk : h₀.enterPopped.st.skip = 0) {t : State}
    (ht : issueSlots b slots h₀.enterPopped.issueState [] = (t, [])) :
    h₀.issueBundle = { t.finishBundle h₀.enterPopped.t.key b with raised := none } := by
  unfold Here.issueState at ht
  simp only [Here.issueBundle, hb, TState.beforeBundle_skip, hk, lt_irrefl, if_false, ht, takenCause]

end

/-- Words that raise nothing are issued one after the other. -/
theorem issueSlots_of_runWords {b : Bundle} {f : Slot → Instr} (rs : List Raise) {t : State} : ∀ {us : List Slot} {s : State},
    (∀ u ∈ us, decode u (slotWord b u) = some (f u)) → (∀ u ∈ us, (encode (f u)).isSome = true) → runWords f us s = some t →
    issueSlots b us s rs = (t, rs)
  | [], s, _, _, hr => by rw [issueSlots, Option.some.inj hr]
  | u :: us, s, hd, he, hr => by
    obtain ⟨hdu, hd⟩ := List.forall_mem_cons.mp hd
    obtain ⟨heu, he⟩ := List.forall_mem_cons.mp he
    rw [runWords] at hr
    rw [issueSlots, hdu]
    dsimp only
    rw [execWord_eq_exec _ heu]
    cases hx : exec (f u) { s with slot := u, raised := none } with
    | next t' =>
      rw [hx] at hr
      simp only [Option.ite_none_right_eq_some] at hr
      simp only [hr.1]
      exact issueSlots_of_runWords rs hd he hr.2
    | fault r => rw [hx] at hr; cases hr
    | refused r => rw [hx] at hr; cases hr

/-! ### A suppressed bundle (04 R110) -/

/-- The step past an address changes the address, the levels and q. -/
theorem TState.endSteps_frame (a : Nat) (ls : List (Fin 4)) : ∀ st : TState,
    ∃ pc loops nest q, TState.endSteps a ls st = { st with pc := pc, loops := loops, nest := nest, q := q } := by
  induction ls with
  | nil => exact fun st => ⟨_, _, _, _, rfl⟩
  | cons l r ih =>
    intro st
    by_cases he : (st.loops[l]).stop.toNat = a
    · by_cases hc : (st.loops[l]).count = 0
      · rw [TState.endSteps_leave a l r st he hc]
        obtain ⟨_, _, _, _, e⟩ := ih (st.deact l)
        exact ⟨_, _, _, _, e⟩
      · exact ⟨_, _, _, _, TState.endSteps_again a l r st he hc⟩
    · rw [TState.endSteps, if_neg he]
      exact ih st

/-- Where the step past an address leads is the levels' alone. -/
theorem TState.endSteps_congr (a : Nat) (ls : List (Fin 4)) : ∀ {st u : TState}, st.loops = u.loops →
    (TState.endSteps a ls st).pc = (TState.endSteps a ls u).pc ∧ (TState.endSteps a ls st).loops = (TState.endSteps a ls u).loops := by
  induction ls with
  | nil => exact fun h => ⟨rfl, h⟩
  | cons l r ih =>
    intro st u h
    have hd : (st.deact l).loops = (u.deact l).loops := by simp only [TState.deact, h]
    rw [TState.endSteps, TState.endSteps, h]
    dsimp only
    split
    · split
      · exact ⟨rfl, rfl⟩
      · exact ih hd
    · exact ih h

/-- What a bundle about to issue keeps of the state before it: all but the latches. -/
theorem TState.beforeBundle_keeps (st : TState) :
    st.beforeBundle.pc = st.pc ∧ st.beforeBundle.nest = st.nest ∧ st.beforeBundle.loops = st.loops ∧
      st.beforeBundle.ordinal = st.ordinal ∧ st.beforeBundle.s = st.s ∧ st.beforeBundle.v = st.v ∧ st.beforeBundle.spad = st.spad ∧
      st.beforeBundle.wait = st.wait := by
  unfold TState.beforeBundle
  split <;> exact ⟨rfl, rfl, rfl, rfl, rfl, rfl, rfl, rfl⟩

/-! ### A deadline beside a cause -/

section
variable {h : Here}

theorem Here.missedMark_iff : h.missedMark = true ↔
    0 < h.cue ∧ boundaryAt h.co (h.cue - 1) = true ∧ h.gang.base ≤ h.cue - 1 ∧ h.st.marked ≠ some (h.cue - 1) := by
  simp only [Here.missedMark, Bool.and_eq_true, decide_eq_true_eq, and_assoc]

theorem Here.finalDeadline_missed (hm : h.missedMark = true) : h.finalDeadline = some (deadlineInfo 7 0 (h.cue - 1)) := by
  simp only [Here.finalDeadline, hm, if_true]

theorem Here.finalDeadline_marked (hm : ¬h.missedMark = true) :
    h.finalDeadline = h.pastLimit.map fun c => deadlineInfo 5 0 (h.cue - c) := by
  simp only [Here.finalDeadline, hm, Bool.false_eq_true, if_false]

theorem Here.pastLimit_eq_none (hl : ∀ e, h.st.localSince = some e → h.cue ≤ e + h.gang.bin.localLimit) : h.pastLimit = none := by
  simpa only [Here.pastLimit, Option.filter_eq_none_iff, decide_eq_true_eq, not_lt] using hl

theorem Here.pastLimit_eq_some {e : Nat} (he : h.st.localSince = some e) (hl : e + h.gang.bin.localLimit < h.cue) :
    h.pastLimit = some e := by
  simp only [Here.pastLimit, he, Option.filter_some, hl, decide_true, if_true]

variable {code : BitVec 8} {info : W64}

theorem Here.takeIssueCause_own (hd : priority code < priority cDEADLINE ∨ h.finalDeadline = none) :
    h.takeIssueCause code info = h.takeTrap true code info := by
  have none_before : (if priority code < priority cDEADLINE then none else h.finalDeadline) = none := by
    split
    · rfl
    · next hp => exact hd.resolve_left hp
  simp only [Here.takeIssueCause, none_before]

theorem Here.takeIssueCause_deadline {d : W64} (hp : priority cDEADLINE ≤ priority code) (hd : h.finalDeadline = some d) :
    h.takeIssueCause code info = h.takeTrap false cDEADLINE d := by
  simp only [Here.takeIssueCause, if_neg (not_lt.mpr hp), hd]

end

end Sys2Proof.Machine

open Sys2Proof Sys2Proof.Machine

/-- Settles O2: words that run one after the other are issued so, and the bundle is finished. -/
theorem stepIssuesTheBundle : Obligations.StepIssuesTheBundle := by
  unfold Obligations.StepIssuesTheBundle
  intro s t k r h₀ b f ha hs hi h hb hk hd he hr
  have issued : issueSlots b slots h.issueState [] = (t, []) := issueSlots_of_runWords [] hd he hr
  rw [step_of_agenda_cons ha, run_sequencerIssue, exec_sequencerIssue hs hi, Here.issueBundle_done hb hk issued]

/-- Settles O25: the state the words read in takes the cause; a suppressed bundle steps on from it. -/
theorem bundleUndoneOrSuppressed : Obligations.BundleUndoneOrSuppressed := by
  unfold Obligations.BundleUndoneOrSuppressed
  constructor
  · intro s k h₀ h0 b c hs hi h hb hk s0 h0s hc
    have undone : exec (.sequencerIssue k) s = .next (h0.takeIssueCause c.1 c.2) := by
      rw [exec_sequencerIssue hs hi, Here.issueBundle_undone hb hk hc h0s]
    rw [undone]
    dsimp only
    rw [← Here.missedMark_iff]
    refine ⟨fun hown => ?_, fun hp hm => ?_, fun hp hm e he hl => ?_⟩
    · rw [Here.takeIssueCause_own]
      refine hown.imp_right fun ⟨hm, hl⟩ => ?_
      rw [Here.finalDeadline_marked hm, Here.pastLimit_eq_none hl, Option.map_none]
    · rw [Here.takeIssueCause_deadline hp (Here.finalDeadline_missed hm)]
      rfl
    · rw [Here.takeIssueCause_deadline hp (d := deadlineInfo 5 0 (h0.cue - e))]
      · rfl
      · rw [Here.finalDeadline_marked hm, Here.pastLimit_eq_some he hl, Option.map_some]
  · intro s k h₀ b hs hi h hb hk
    obtain ⟨hpc, hnest, hloops, hord, hregs, hvec, hspad, hwait⟩ := TState.beforeBundle_keeps h.st
    refine ⟨_, by rw [exec_sequencerIssue hs hi, Here.issueBundle_suppressed hb hk], rfl, ?_⟩
    obtain ⟨lpc, lloops⟩ := TState.endSteps_congr h.st.pc h.st.nest (st := h.st.beforeBundle.issued b) (u := h.st) hloops
    obtain ⟨_, _, _, _, frame⟩ := TState.endSteps_frame h.st.pc h.st.nest (h.st.beforeBundle.issued b)
    have stepped : (h.st.beforeBundle.issued b).stepOn = TState.endSteps h.st.pc h.st.nest (h.st.beforeBundle.issued b) := by
      simp only [TState.stepOn, TState.issued, hpc, hnest]
    refine ⟨?_, ?_, ?_, ?_, ?_, ?_, ?_⟩
    · rw [stepped, frame]
      exact congrArg (· + 1) hord
    · rw [stepped]
      exact lpc
    · rw [stepped]
      exact lloops
    · rw [stepped, frame]
      exact hregs
    · rw [stepped, frame]
      exact hvec
    · rw [stepped, frame]
      exact hspad
    · rw [stepped, frame]
      exact hwait

end

section
/-! SUPPORT. The scalar words that compute (04 R119 to R122): the arithmetic of each result; then O10, O11 and O12. -/
namespace Sys2Proof.Machine

/-- A word that computes a scalar result, its value rewritten. -/
theorem exec_scalar {s : State} {h : Here} (hs : s.here = some h) {i : Instr} {lat : Nat} {r : Dst} {f : Here → W64} {v : W64}
    (e : exec i = scalar lat r f) (hv : f h = v) : exec i s = h.gives lat r v :=
  exec_word_ok hs e (by rw [hv])

/-! ### Logic and shifts (04 R119) -/

theorem mul_eq_ofNat {n : Nat} (x y : BitVec n) : x * y = BitVec.ofNat n (x.toNat * y.toNat) :=
  BitVec.eq_of_toNat_eq (by simp)

theorem sub_eq_ofInt {n : Nat} (x y : BitVec n) : x - y = BitVec.ofInt n (x.toInt - y.toInt) :=
  BitVec.eq_of_toInt_eq (by simp)

theorem shl_eq_ofNat {n : Nat} (x : BitVec n) (k : Nat) : x <<< k = BitVec.ofNat n (x.toNat * 2 ^ k) :=
  BitVec.eq_of_toNat_eq (by simp [Nat.shiftLeft_eq])

theorem shr_eq_ofNat {n : Nat} (x : BitVec n) (k : Nat) : x >>> k = BitVec.ofNat n (x.toNat / 2 ^ k) := by
  apply BitVec.eq_of_toNat_eq
  rw [BitVec.toNat_ushiftRight, BitVec.toNat_ofNat, Nat.shiftRight_eq_div_pow,
    Nat.mod_eq_of_lt (Nat.lt_of_le_of_lt (Nat.div_le_self _ _) x.isLt)]

theorem sha_eq_ofInt {n : Nat} (x : BitVec n) (k : Nat) : x.sshiftRight k = BitVec.ofInt n (x.toInt / 2 ^ k) := by
  rw [← BitVec.ofInt_toInt (x := x.sshiftRight k), BitVec.toInt_sshiftRight, Int.shiftRight_eq_div_pow]
  norm_cast

theorem ofNat_shl (n u k : Nat) : BitVec.ofNat n u <<< k = BitVec.ofNat n (u * 2 ^ k) :=
  BitVec.eq_of_toNat_eq (by simp [Nat.shiftLeft_eq])

/-- LIH's immediate comes below the register shifted up. -/
theorem lih_eq_ofNat (d : W64) (i : BitVec 16) : d <<< 16 ||| i.setWidth 64 = BitVec.ofNat 64 (d.toNat * 2 ^ 16 + i.toNat) := by
  have apart : d <<< 16 &&& i.setWidth 64 = 0#64 := by
    ext j hj
    rw [BitVec.getElem_and, BitVec.getElem_shiftLeft, BitVec.getElem_setWidth, BitVec.getElem_zero]
    by_cases low : j < 16
    · rw [decide_eq_true low, Bool.not_true, Bool.false_and, Bool.false_and]
    · rw [BitVec.getLsbD_of_ge i j (Nat.le_of_not_lt low), Bool.and_false]
  rw [← BitVec.add_eq_or_of_and_eq_zero _ _ apart, shl_eq_ofNat, BitVec.ofNat_add, BitVec.ofNat_toNat]

theorem ite_ltS {n : Nat} {α : Type} (x y : BitVec n) (u v : α) : (if ltS x y then u else v) = if x.toInt < y.toInt then u else v := by
  simp only [ltS, decide_eq_true_eq]

theorem ite_ltU {n : Nat} {α : Type} (x y : BitVec n) (u v : α) : (if ltU x y then u else v) = if x.toNat < y.toNat then u else v := by
  simp only [ltU, decide_eq_true_eq]

/-- CLZ counts the zero bits above the highest one. -/
theorem leadingZeros_spec (a : W64) (n : Nat) : leadingZeros a n ≤ n ∧ (∀ j < leadingZeros a n, a.getLsbD (n - 1 - j) = false) ∧
    (leadingZeros a n < n → a.getLsbD (n - 1 - leadingZeros a n) = true) := by
  induction n with
  | zero => exact ⟨Nat.le_refl 0, fun j hj => absurd hj (Nat.not_lt_zero j), nofun⟩
  | succ n ih =>
    obtain ⟨hle, hzero, hone⟩ := ih
    cases hn : a.getLsbD n with
    | true => simp [leadingZeros, hn]
    | false =>
      simp only [leadingZeros, hn, Bool.false_eq_true, if_false]
      refine ⟨Nat.succ_le_succ hle, fun j hj => ?_, fun hlt => ?_⟩
      · cases j with
        | zero => exact hn
        | succ j => rw [show n + 1 - 1 - (j + 1) = n - 1 - j by omega]; exact hzero j (Nat.lt_of_succ_lt_succ hj)
      · rw [show n + 1 - 1 - (leadingZeros a n + 1) = n - 1 - leadingZeros a n by omega]
        exact hone (Nat.lt_of_succ_lt_succ hlt)

/-- POPC counts the one bits. -/
theorem oneBits_eq_countP (a : W64) (n : Nat) : oneBits a n = (List.range n).countP fun j => a.getLsbD j := by
  induction n with
  | zero => rfl
  | succ n ih =>
    rw [oneBits, ih, List.range_succ, List.countP_append, Nat.add_comm]
    cases hn : a.getLsbD n <;> simp [hn]

/-! ### Division and bit fields (04 R120, R122) -/

theorem remS_eq (x y : W64) : remS x y = if y = 0 then x else BitVec.ofInt 64 (x.toInt - x.toInt.tdiv y.toInt * y.toInt) := by
  rw [remS, Int.tmod_def, Int.mul_comm y.toInt]

theorem remU_eq (x y : W64) : remU x y = if y = 0 then x else BitVec.ofNat 64 (x.toNat - x.toNat / y.toNat * y.toNat) := by
  rw [remU, Nat.mod_eq_sub_div_mul]

theorem fieldLen_le (b : W64) : fieldLen b ≤ 64 := bits_lt b 13 8

theorem and_lowMask (x : W64) {len : Nat} (hlen : len ≤ 64) : x &&& BitVec.ofNat 64 (2 ^ len - 1) = BitVec.ofNat 64 (x.toNat % 2 ^ len) := by
  have small : 2 ^ len - 1 < 2 ^ 64 := Nat.lt_of_lt_of_le (Nat.sub_one_lt (Nat.two_pow_pos len).ne') (Nat.pow_le_pow_right (by decide) hlen)
  have part : x.toNat % 2 ^ len < 2 ^ 64 := Nat.lt_of_le_of_lt (Nat.mod_le _ _) x.isLt
  apply BitVec.eq_of_toNat_eq
  rw [BitVec.toNat_and, BitVec.toNat_ofNat, BitVec.toNat_ofNat, Nat.mod_eq_of_lt small, Nat.mod_eq_of_lt part, Nat.and_two_pow_sub_one_eq_mod]

theorem bfxOf_eq (x y : W64) : bfxOf x y = (x >>> bits y 5 0) &&& BitVec.ofNat 64 (2 ^ (bits y 13 8 + 1) - 1) := by
  show _ = _ &&& BitVec.ofNat 64 (2 ^ fieldLen y - 1)
  rw [and_lowMask _ (fieldLen_le y), BitVec.toNat_ushiftRight, Nat.shiftRight_eq_div_pow]
  rfl

theorem bfiOf_eq (d x y : W64) : bfiOf d x y = (d &&& ~~~(BitVec.ofNat 64 (2 ^ (bits y 13 8 + 1) - 1) <<< bits y 5 0)) |||
    ((x &&& BitVec.ofNat 64 (2 ^ (bits y 13 8 + 1) - 1)) <<< bits y 5 0) := by
  show _ = _ ||| ((x &&& BitVec.ofNat 64 (2 ^ fieldLen y - 1)) <<< _)
  rw [and_lowMask _ (fieldLen_le y), ofNat_shl, ofNat_shl]
  rfl

/-! ### Compares (04 R121) -/

theorem exec_compare {s : State} {h : Here} (hs : s.here = some h) {i : Instr} {n : Bool} {l : Fin 4} {p : Fin 8} {a b : Sel}
    {f : W64 → W64 → Bool} {t : Bool} (e : exec i = compare n l p a b f) (ht : f (h.getS a) (h.getS b) = t) : exec i s = h.compares n l p t :=
  exec_word_ok hs e (by rw [ht]; rfl)

theorem not_ltS {n : Nat} (x y : BitVec n) : (!ltS x y) = decide (y.toInt ≤ x.toInt) := by
  rw [ltS, ← decide_not, decide_eq_decide, not_lt]

theorem not_ltU {n : Nat} (x y : BitVec n) : (!ltU x y) = decide (y.toNat ≤ x.toNat) := by
  rw [ltU, ← decide_not, decide_eq_decide, not_lt]

end Sys2Proof.Machine

open Sys2Proof Sys2Proof.Machine

/-- Settles O10: each word is its result in flight (`exec_scalar`), its value by the arithmetic above; CLZ's count by `leadingZeros_spec`. -/
theorem logicAndShiftWords : Obligations.LogicAndShiftWords := by
  unfold Obligations.LogicAndShiftWords
  intro s h r a b i n hs x y d k
  refine ⟨exec_scalar hs rfl (BitVec.add_def x y), exec_scalar hs rfl (sub_eq_ofInt x y), exec_scalar hs rfl rfl, exec_scalar hs rfl rfl,
    exec_scalar hs rfl rfl, exec_scalar hs rfl (shl_eq_ofNat x k), exec_scalar hs rfl (shr_eq_ofNat x k),
    exec_scalar hs rfl (sha_eq_ofInt x k), exec_scalar hs rfl (ite_ltS x y x y), exec_scalar hs rfl (ite_ltS x y y x),
    exec_scalar hs rfl (ite_ltU x y x y), exec_scalar hs rfl (ite_ltU x y y x), ?clz, ?popc, exec_scalar hs rfl rfl, exec_scalar hs rfl rfl,
    exec_scalar hs rfl rfl, exec_scalar hs rfl rfl, exec_scalar hs rfl (shl_eq_ofNat d n.toNat), exec_scalar hs rfl (shr_eq_ofNat d n.toNat),
    exec_scalar hs rfl (sha_eq_ofInt d n.toNat), exec_scalar hs rfl rfl, exec_scalar hs rfl (lih_eq_ofNat d i)⟩
  case clz => exact ⟨leadingZeros x 64, exec_scalar hs rfl rfl, leadingZeros_spec x 64⟩
  case popc => exact exec_scalar hs rfl (congrArg (BitVec.ofNat 64) (oneBits_eq_countP x 64))

/-- Settles O11: products and quotients as they stand; a remainder is what the quotient leaves; a field is cut out by its mask. -/
theorem multiplyDivideAndFieldWords : Obligations.MultiplyDivideAndFieldWords := by
  unfold Obligations.MultiplyDivideAndFieldWords
  intro s h r a b hs x y d pos mask
  exact ⟨exec_scalar hs rfl (mul_eq_ofNat x y), exec_scalar hs rfl rfl, exec_scalar hs rfl rfl, exec_scalar hs rfl rfl, exec_scalar hs rfl rfl,
    exec_scalar hs rfl (remS_eq x y), exec_scalar hs rfl (remU_eq x y), exec_scalar hs rfl (bfxOf_eq x y), exec_scalar hs rfl (bfiOf_eq d x y)⟩

/-- Settles O12: each compare is `exec_compare` at its relation; SEL is a result in flight. -/
theorem compareWords : Obligations.CompareWords := by
  unfold Obligations.CompareWords
  intro s h n l p q r a b inv hs x y
  exact ⟨exec_compare hs rfl (beq_eq_decide x y), exec_compare hs rfl (by rw [bne, beq_eq_decide, decide_not]), exec_compare hs rfl rfl, exec_compare hs rfl rfl,
    exec_compare (f := fun u v => !ltS u v) hs rfl (not_ltS x y), exec_compare (f := fun u v => !ltU u v) hs rfl (not_ltU x y), exec_scalar hs rfl (if_congr bne_iff_ne rfl rfl)⟩

end

section
/-! SUPPORT. Scalar loads and stores (04 R123, R124) and the words that set registers (04 R100, R125); then O13 and O14. -/
namespace Sys2Proof.Machine

/-! ### The checks of a scalar access (04 R123) -/

theorem addrOk_eq_true_iff {a : Int} {w : Nat} : addrOk a w = true ↔ ¬(a < 0 ∨ 0xfffff < a ∨ a % w ≠ 0) := by
  have size : (spadSize : Int) = 0x100000 := rfl
  simp only [addrOk, Bool.and_eq_true, decide_eq_true_eq, beq_iff_eq, size]
  omega

/-- An aligned access stays in one unit. -/
theorem TState.notOwned_aligned (st : TState) (o : Nat) {a w : Nat} (hpos : 0 < w) (hdvd : 4096 % w = 0) (ha : a % w = 0) :
    st.notOwned o a w = if st.owner (a / 4096) ≠ o then some (a / 4096) else none := by
  simp only [TState.notOwned, div_eq_of_aligned hpos hdvd ha, Nat.add_sub_cancel_left]
  by_cases hu : st.owner (a / 4096) = o <;> simp [hu]

theorem TState.owner_lt (st : TState) (u : Nat) : st.owner u < 16 := Nat.mod_lt _ (by decide)

theorem ownerInfo_zero {owner unit : Nat} (ho : owner < 16) (hu : unit < 256) :
    ownerInfo 0 owner unit = BitVec.ofNat 64 (owner * 256 + unit) := by
  rw [ownerInfo, Nat.mod_eq_of_lt ho, Nat.mod_eq_of_lt hu, Nat.zero_mod, Nat.zero_mul, Nat.zero_add, show (256 : Nat) = 2 ^ 8 from rfl]

section
variable {s : State} {h : Here} {i : Instr} {w : Nat}

/-- A scalar access: BOUNDS, then OWNER, then its effect. -/
theorem Here.finish_scalarCheck (h : Here) (hw : 0 < w ∧ 4096 % w = 0) (a : Int) (k : Nat → TState) :
    Host.Outcome.next (h.finish (h.scalarCheck a w fun n => .ok (k n))) =
      if a < 0 ∨ 0xfffff < a ∨ a % w ≠ 0 then h.traps cBOUNDS (BitVec.ofInt 64 a)
      else if h.st.owner (a.toNat / 4096) ≠ 0 then
        h.traps cOWNER (BitVec.ofNat 64 (h.st.owner (a.toNat / 4096) * 256 + a.toNat / 4096))
      else h.becomes (k a.toNat) := by
  by_cases hok : addrOk a w = true
  · have hin := addrOk_eq_true_iff.mp hok
    have aligned : a.toNat % w = 0 := by
      obtain ⟨hlo, -, hmod⟩ : 0 ≤ a ∧ a ≤ 0xfffff ∧ a % w = 0 := by simpa only [not_or, not_lt, not_not] using hin
      rw [← Int.natCast_inj, Int.natCast_mod, Int.toNat_of_nonneg hlo, hmod, Nat.cast_zero]
    rw [if_neg hin, Here.scalarCheck, if_pos hok, TState.notOwned_aligned h.st ownCore hw.1 hw.2 aligned]
    by_cases hown : h.st.owner (a.toNat / 4096) = 0
    · simp only [hown, ownCore, ne_eq, not_true, if_false, Here.finish_ok]
    · simp only [hown, ownCore, ne_eq, not_false_eq_true, if_true, Here.finish_trap]
      rw [ownerInfo_zero (h.st.owner_lt _) (by omega)]
  · rw [if_pos (not_not.mp (mt addrOk_eq_true_iff.mpr hok)), Here.scalarCheck, if_neg hok, Here.finish_trap, addrInfo]

theorem Here.finish_loadScalar (h : Here) (hw : 0 < w ∧ 4096 % w = 0) (r : Dst) (a : Int) :
    Host.Outcome.next (h.finish (h.loadScalar w r a)) = h.loads w r a := h.finish_scalarCheck hw _ _

theorem Here.finish_storeScalar (h : Here) (hw : 0 < w ∧ 4096 % w = 0) (v : W64) (a : Int) :
    Host.Outcome.next (h.finish (h.storeScalar w v a)) = h.stores w v a := h.finish_scalarCheck hw _ _

variable {base : Fin 32} {off : BitVec 10} {n : Fin 8}

theorem exec_loadReg (hs : s.here = some h) (hw : 0 < w ∧ 4096 % w = 0) {r : Dst} (e : exec i = loadReg w r base off) :
    exec i s = h.loads w r ((h.st.sreg base).toInt + off.toInt * w) := by
  rw [e, loadReg, word_here hs]; exact h.finish_loadScalar hw _ _

theorem exec_loadStream (hs : s.here = some h) (hw : 0 < w ∧ 4096 % w = 0) {r : Dst} (e : exec i = loadStream w r n) :
    exec i s = h.loads w r (h.st.streamAddr n) := by
  rw [e, loadStream, word_here hs]; exact h.finish_loadScalar hw _ _

theorem exec_storeReg (hs : s.here = some h) (hw : 0 < w ∧ 4096 % w = 0) {d : Sel} (e : exec i = storeReg w d base off) :
    exec i s = h.stores w (h.getS d) ((h.st.sreg base).toInt + off.toInt * w) := by
  rw [e, storeReg, word_here hs]; exact h.finish_storeScalar hw _ _

theorem exec_storeStream (hs : s.here = some h) (hw : 0 < w ∧ 4096 % w = 0) {d : Sel} (e : exec i = storeStream w d n) :
    exec i s = h.stores w (h.getS d) (h.st.streamAddr n) := by
  rw [e, storeStream, word_here hs]; exact h.finish_storeScalar hw _ _

end

end Sys2Proof.Machine

open Sys2Proof Sys2Proof.Machine

/-- Settles O13: the checks of each access are those of `Here.finish_scalarCheck`, its unit one for every width. -/
theorem scalarMemoryWords : Obligations.ScalarMemoryWords := by
  unfold Obligations.ScalarMemoryWords
  have w1 : 0 < 1 ∧ 4096 % 1 = 0 := by decide
  have w2 : 0 < 2 ∧ 4096 % 2 = 0 := by decide
  have w4 : 0 < 4 ∧ 4096 % 4 = 0 := by decide
  have w8 : 0 < 8 ∧ 4096 % 8 = 0 := by decide
  constructor
  · intro s h r base off n hs at_ str
    exact ⟨exec_loadReg hs w1 rfl, exec_loadStream hs w1 rfl, exec_loadReg hs w2 rfl, exec_loadStream hs w2 rfl,
      exec_loadReg hs w4 rfl, exec_loadStream hs w4 rfl, exec_loadReg hs w8 rfl, exec_loadStream hs w8 rfl⟩
  · intro s h d base off n hs at_ str v
    exact ⟨exec_storeReg hs w1 rfl, exec_storeStream hs w1 rfl, exec_storeReg hs w2 rfl, exec_storeStream hs w2 rfl,
      exec_storeReg hs w4 rfl, exec_storeStream hs w4 rfl, exec_storeReg hs w8 rfl, exec_storeStream hs w8 rfl⟩

/-- Settles O14: each word leaves one effect in flight; SETLB's LOOPREG is the branch of its definition. -/
theorem registerSettingWords : Obligations.RegisterSettingWords := by
  unfold Obligations.RegisterSettingWords
  intro s h a b k n j hs x
  have low {w : Nat} {y : W64} (hw : w ≤ 64) : y.setWidth w = y.extractLsb' 0 w := BitVec.setWidth_eq_extractLsb' hw
  refine ⟨exec_word_ok hs rfl rfl, exec_word_ok hs rfl ?_, exec_word_ok hs rfl ?_, exec_word_ok hs rfl ?_, fun hact => ?_, fun ha hx => ?_⟩
  · rw [low (by decide)]
  · rw [low (by decide)]
  · rw [low (by decide)]
  · exact exec_word_trap hs rfl (if_pos (by simpa using hact))
  · refine exec_word_ok hs rfl ?_
    simp only [ha, hx, Bool.or_self, Bool.false_eq_true, if_false]
    rw [low (by decide), low (by decide)]
end

section
/-! SUPPORT. The read words and the selectors of the scalar and control slots (04 R126; 01 R40, R41; 03 R74); then O15. -/
namespace Sys2Proof.Machine

theorem exec_readIndex {s : State} {h : Here} (hs : s.here = some h) {i : Instr} {r : Dst} {f : Here → Option W64} {v : W64}
    (e : exec i = readIndex r f) (hv : f h = some v) : exec i s = h.gives 1 r v :=
  exec_word_ok hs e (by simp only [hv])

theorem exec_readIndex_unlisted {s : State} {h : Here} (hs : s.here = some h) {i : Instr} {r : Dst} {f : Here → Option W64}
    (e : exec i = readIndex r f) (hv : f h = none) : exec i s = h.traps cILLEGAL 2 :=
  exec_word_trap hs e (by simp only [hv])

theorem Here.rdid_unlisted (h : Here) {i : Nat} (hi : 6 < i) : h.rdid i = none := by
  obtain ⟨j, rfl⟩ := Nat.exists_eq_add_of_le' hi
  rfl

/-! ### Entries of the lists that RDCFG reads (01 R41) -/

theorem getD_map_toList {α β : Type} {n : Nat} (v : Vector α n) (f : α → β) (i : Fin n) (d : β) : (v.toList.map f).getD i.val d = f v[i] := by
  simp [List.getD_eq_getElem?_getD]

theorem getD_flatten {α : Type} {m : Nat} (d : α) {j : Nat} (hj : j < m) : ∀ (ls : List (List α)) {n : Nat}, (∀ l ∈ ls, l.length = m) →
    ls.flatten.getD (m * n + j) d = (ls.getD n []).getD j d
  | [], n, _ => by simp
  | l :: ls, 0, hl => by
    obtain ⟨hm, -⟩ := List.forall_mem_cons.mp hl
    rw [Nat.mul_zero, Nat.zero_add, List.flatten_cons, List.getD_append _ _ _ _ (hm ▸ hj)]
    rfl
  | l :: ls, n + 1, hl => by
    obtain ⟨hm, hls⟩ := List.forall_mem_cons.mp hl
    rw [List.flatten_cons, List.getD_append_right _ _ _ _ (by rw [hm]; nlinarith),
      show m * (n + 1) + j - l.length = m * n + j by rw [hm]; ring_nf; omega, getD_flatten d hj ls hls]
    rfl

theorem toNat_append_add {m n : Nat} (x : BitVec m) (y : BitVec n) : (x ++ y).toNat = x.toNat * 2 ^ n + y.toNat := by
  rw [BitVec.toNat_append, ← Nat.shiftLeft_add_eq_or_of_lt y.isLt, Nat.shiftLeft_eq]

theorem LoopLevel.word_eq (l : LoopLevel) : BitVec.ofNat 64 (l.active.toNat * 2 ^ 63 + l.stop.toNat * 2 ^ 11 + l.start.toNat) =
    BitVec.ofBool l.active ++ 0#41 ++ l.stop ++ l.start := by
  apply BitVec.eq_of_toNat_eq
  rw [toNat_append_add, toNat_append_add, toNat_append_add, BitVec.toNat_ofNat, BitVec.toNat_ofBool]
  have ha := Bool.toNat_lt l.active
  have hb := l.stop.isLt
  have hc := l.start.isLt
  simp only [BitVec.toNat_zero]
  omega

/-! ### The words of RDCFG (01 R41) -/

section
variable (h : Here)

theorem Here.rdcfg_fmt (f : Fin 16) : h.rdcfg f.val = some ((h.t.fmts[f]).setWidth 64) := by
  rw [Here.rdcfg, if_pos (by omega)]
  simp [Vector.getD]

theorem Here.rdcfg_count (l : Fin 4) : h.rdcfg (0x18 + l.val) = some ((h.st.loops[l]).count.setWidth 64) := by
  simp (disch := omega) only [Here.rdcfg, if_pos, if_neg, Nat.add_sub_cancel_left, getD_map_toList]

theorem Here.rdcfg_range (l : Fin 4) : h.rdcfg (0x1c + l.val) =
    some (BitVec.ofBool (h.st.loops[l]).active ++ 0#41 ++ (h.st.loops[l]).stop ++ (h.st.loops[l]).start) := by
  simp (disch := omega) only [Here.rdcfg, if_pos, if_neg, Nat.add_sub_cancel_left, getD_map_toList, LoopLevel.word_eq]

theorem Here.rdcfg_idx (l : Fin 4) : h.rdcfg (0x20 + l.val) = some ((h.st.loops[l]).idx.setWidth 64) := by
  simp (disch := omega) only [Here.rdcfg, if_pos, if_neg, Nat.add_sub_cancel_left, getD_map_toList]

theorem Here.rdcfg_bundle (q : Fin 4) : h.rdcfg (0x28 + q.val) = some (h.t.trap.bundle.extractLsb' (64 * q.val) 64) := by
  simp (disch := omega) only [Here.rdcfg, if_pos, if_neg, Nat.add_sub_cancel_left]

theorem Here.rdcfg_base (n : Fin 8) : h.rdcfg (0x30 + n.val) = some ((h.st.a[n]).base.setWidth 64) := by
  simp (disch := omega) only [Here.rdcfg, if_pos, if_neg, Nat.add_sub_cancel_left, getD_map_toList]

theorem Here.rdcfg_delta (n : Fin 8) (j : Fin 4) : h.rdcfg (0x40 + 4 * n.val + j.val) = some (((h.st.a[n]).d[j]).signExtend 64) := by
  have four : ∀ l ∈ h.st.a.toList.map (·.d.toList), l.length = 4 := by
    simp only [List.forall_mem_map]
    exact fun x _ => Vector.length_toList
  have place : 0x40 + 4 * n.val + j.val - 0x40 = 4 * n.val + j.val := by omega
  simp (disch := omega) only [Here.rdcfg, if_pos, if_neg, place]
  rw [getD_flatten 0 j.isLt _ four, getD_map_toList]
  simp [List.getD_eq_getElem?_getD]

theorem Here.rdcfg_unlisted {i : Nat} (hi : i = 0x17 ∨ i = 0x27 ∨ (0x2c ≤ i ∧ i ≤ 0x2f) ∨ (0x38 ≤ i ∧ i ≤ 0x3f) ∨ 0x60 < i) :
    h.rdcfg i = none := by
  rcases hi with rfl | rfl | hi | hi | hi <;> simp (disch := omega) only [Here.rdcfg, if_pos, if_neg, if_true]

/-! ### Selectors (03 R74) -/

theorem Here.getS_cuelo : h.getS .cuelo = BitVec.ofNat 64 (h.cue % 2 ^ 32) := by
  apply BitVec.eq_of_toNat_eq
  show ((BitVec.ofNat 32 h.cue).setWidth 64).toNat = _
  rw [BitVec.toNat_setWidth, BitVec.toNat_ofNat, BitVec.toNat_ofNat]

theorem Here.getS_tileid : h.getS .tileid = BitVec.ofNat 64 (tileIdOf h.t.key) := by
  have small : tileIdOf h.t.key < 2 ^ 32 := by
    unfold tileIdOf
    omega
  exact BitVec.setWidth_ofNat_of_le_of_lt (by decide) small

end

end Sys2Proof.Machine

open Sys2Proof Sys2Proof.Machine

/-- Settles O15: an index is a row of its table or is not listed; a selector names one source. -/
theorem readWordsAndSelectors : Obligations.ReadWordsAndSelectors := by
  unfold Obligations.ReadWordsAndSelectors
  constructor
  · intro s h r i hs
    have identity {i : BitVec 16} {v : W64} (hv : h.rdid i.toNat = some v) : exec (.rdid r i) s = h.gives 1 r v :=
      exec_readIndex hs rfl hv
    refine ⟨identity rfl, identity rfl, identity rfl, identity rfl, identity rfl, identity rfl, identity rfl,
      fun hi => exec_readIndex_unlisted hs rfl (h.rdid_unlisted hi), ?table, fun hi => exec_readIndex_unlisted hs rfl (h.rdcfg_unlisted hi),
      exec_scalar hs rfl rfl, ?deck⟩
    case deck => exact exec_scalar hs rfl (by rw [Here.deckCue, State.here_s hs])
    case table =>
      intro cfg st
      have listed {n : Nat} {v : W64} (hn : n < 2 ^ 16) (hv : h.rdcfg n = some v) : cfg n v := by
        refine exec_readIndex hs (f := fun h => h.rdcfg (BitVec.ofNat 16 n).toNat) rfl ?_
        rw [BitVec.toNat_ofNat, Nat.mod_eq_of_lt hn, hv]
      have fixed {n : Nat} {v : W64} (hv : h.rdcfg n = some v) (hn : n < 2 ^ 16 := by decide) : cfg n v := listed hn hv
      exact ⟨fun f => listed (by omega) (h.rdcfg_fmt f), fixed rfl, fixed rfl, fixed rfl, fixed rfl, fixed rfl, fixed rfl, fixed rfl,
        fun l => ⟨listed (by omega) (h.rdcfg_count l), listed (by omega) (h.rdcfg_range l), listed (by omega) (h.rdcfg_idx l)⟩,
        fixed rfl, fixed rfl, fixed rfl, fun q => listed (by omega) (h.rdcfg_bundle q),
        fun n => ⟨listed (by omega) (h.rdcfg_base n), fun j => listed (by omega) (h.rdcfg_delta n j)⟩, fixed rfl⟩
  · intro h r b
    exact ⟨fun hr => if_neg hr, rfl, rfl, rfl, rfl, rfl, rfl, rfl, h.getS_tileid, h.getS_cuelo, rfl, rfl, rfl, rfl⟩

end

section
/-! SUPPORT. Branches, CALL and RET (04 R101, R102), the waits (R103 to R107) and the other control words (R108 to R115); then O18, O21 and O22. -/
namespace Sys2Proof.Machine

/-- The tinfo of a DEADLINE that names no unit and no event. -/
theorem deadlineInfo_zero (kind n : Nat) : deadlineInfo kind 0 n = BitVec.ofNat 64 (kind * 2 ^ 60 + n % 2 ^ 40) := by
  rw [deadlineInfo, Nat.zero_mod, Nat.zero_mul, Nat.add_zero]

/-! ### The overlay words (04 R112, R113) -/

section
variable {s : State} {h : Here} (hs : s.here = some h)
include hs

theorem exec_markOv_illegal {seg : BitVec 16} (hbad : h.overlaid = false ∨ h.co.info.hasSegment seg = false) :
    exec (.markOv seg) s = h.traps cILLEGAL 1 :=
  exec_word_trap hs rfl (if_pos (by simpa using hbad))

theorem exec_jumpOv_illegal {t : BitVec 11} (hbad : h.overlaid = false ∨ 1024 ≤ t.toNat) : exec (.jumpOv t) s = h.traps cILLEGAL 1 :=
  exec_word_trap hs rfl (if_pos (by simpa using hbad))

variable (ho : h.overlaid = true)
include ho

theorem exec_markOv_segment {seg : BitVec 16} (hseg : h.co.info.hasSegment seg = true) : exec (.markOv seg) s =
    if h.st.handler then h.traps cILLEGAL 0x100 else h.becomes { h.st with ovl := some ⟨seg, h.cue + 4096, false, false⟩ } := by
  have legal : ¬(!h.overlaid || !h.co.info.hasSegment seg) = true := by simp [ho, hseg]
  cases hh : h.st.handler
  · exact exec_word_ok hs rfl ((if_neg legal).trans (if_neg (by simp [hh])))
  · exact exec_word_trap hs rfl ((if_neg legal).trans (if_pos hh))

/-- A JUMP.OV whose target lies in a half: the flow rule asks for the entry cue of the request. -/
theorem exec_jumpOv_target {t : BitVec 11} (ht : t.toNat < 1024) : exec (.jumpOv t) s =
    if h.st.handler = false ∧ ∃ o, h.st.ovl = some o ∧ o.entry ≤ h.cue then h.becomes { h.st with xfer := .jumpOv t }
    else h.traps cILLEGAL 0x100 := by
  have legal : ¬(!h.overlaid || decide (1024 ≤ t.toNat)) = true := by simp [ho, ht]
  cases hh : h.st.handler with
  | true =>
    rw [if_neg (by simp)]
    exact exec_word_trap hs rfl ((if_neg legal).trans (if_pos hh))
  | false =>
    have outside : ¬h.st.handler = true := by simp [hh]
    cases hv : h.st.ovl with
    | none =>
      rw [if_neg (by simp)]
      exact exec_word_trap hs rfl (by rw [if_neg legal, if_neg outside, hv]; rfl)
    | some o =>
      by_cases he : h.cue < o.entry
      · rw [if_neg (by simp [he])]
        exact exec_word_trap hs rfl (by rw [if_neg legal, if_neg outside, hv]; exact if_pos he)
      · rw [if_pos ⟨rfl, o, rfl, not_lt.mp he⟩]
        exact exec_word_ok hs rfl (by rw [if_neg legal, if_neg outside, hv]; exact if_neg he)

end

end Sys2Proof.Machine

open Sys2Proof Sys2Proof.Machine

/-- Settles O18: the target is checked first, then the condition, then the return stack. -/
theorem transferWords : Obligations.TransferWords := by
  unfold Obligations.TransferWords
  intro s h g nz k t hs
  refine ⟨fun a ht => ⟨?br, fun hp => ?brpTaken, fun hp => ?brpPassed, fun hz => ?brzTaken, fun hz => ?brzPassed, fun hp hr => ?call,
    fun hp hr => ?callFull, fun hp => ?callPassed⟩, fun ht => ⟨?_, ?_, ?_, ?_⟩, fun hp hr => ?ret, fun hp hr => ?retEmpty, fun hp => ?retPassed⟩
  case br => exact exec_word_ok hs rfl (by simp only [ht, TState.goTo])
  case brpTaken => exact exec_word_ok hs rfl (by simp only [ht, hp, if_true, TState.goTo])
  case brpPassed => exact exec_word_ok hs rfl (by simp only [ht, hp, Bool.false_eq_true, if_false])
  case brzTaken =>
    refine exec_word_ok hs rfl ?_
    have taken : ((h.st.sreg k == 0) != nz) = true := by cases nz <;> simpa using hz
    simp only [ht, taken, if_true, TState.goTo]
  case brzPassed =>
    refine exec_word_ok hs rfl ?_
    have passed : ((h.st.sreg k == 0) != nz) = false := by cases nz <;> simpa using hz
    simp only [ht, passed, Bool.false_eq_true, if_false]
  case call => exact exec_word_ok hs rfl (by simp only [ht, hp, if_true, if_neg (not_le.mpr hr)])
  case callFull => exact exec_word_trap hs rfl (by simp only [ht, hp, if_true, if_pos hr])
  case callPassed => exact exec_word_ok hs rfl (by simp only [ht, hp, Bool.false_eq_true, if_false])
  case ret => exact exec_word_ok hs rfl (by simp only [hp, if_true, List.isEmpty_iff, if_neg hr])
  case retEmpty => exact exec_word_trap hs rfl (by simp only [hp, if_true, List.isEmpty_iff, if_pos hr])
  case retPassed => exact exec_word_ok hs rfl (by simp only [hp, Bool.false_eq_true, if_false])
  · exact exec_word_trap hs rfl (by simp only [ht, illegalC])
  · exact exec_word_trap hs rfl (by simp only [ht, illegalC])
  · exact exec_word_trap hs rfl (by simp only [ht, illegalC])
  · exact exec_word_trap hs rfl (by simp only [ht, illegalC])

/-- Settles O21: a target ahead is waited for, another is passed by the cycles between. -/
theorem waitWords : Obligations.WaitWords := by
  unfold Obligations.WaitWords
  intro s h a imm j u hs t c at_ b
  refine ⟨fun hc => exec_word_ok hs rfl (if_pos hc), fun hc => ?_, fun hc hh => ?_, fun hc hh => ?_, fun hc => ?_, exec_word_ok hs rfl rfl,
    exec_word_ok hs rfl rfl, exec_word_ok hs rfl rfl⟩
  · exact exec_word_trap hs rfl ((if_neg (not_lt.mpr hc)).trans (by rw [← deadlineInfo_zero]; rfl))
  · exact exec_word_ok hs rfl ((if_pos hc).trans (if_neg (by simp [hh])))
  · exact exec_word_ok hs rfl ((if_pos hc).trans (if_pos hh))
  · exact exec_word_trap hs rfl ((if_neg (not_lt.mpr hc)).trans (by rw [← deadlineInfo_zero]; rfl))

/-- Settles O22: each word's checks are taken in their order. -/
theorem otherControlWords : Obligations.OtherControlWords := by
  unfold Obligations.OtherControlWords
  refine ⟨fun s h imm j n t o hs => ?_, fun s h imm hs => exec_word_trap hs rfl rfl⟩
  refine ⟨exec_word_ok hs rfl rfl, exec_word_ok hs rfl rfl, exec_word_ok hs rfl rfl, exec_word_ok hs rfl rfl, fun ha => ?_, fun ha => ?_,
    fun hh hl hb => ?_, fun hbad => ?_, fun ho hh => ⟨fun hseg => ?_, fun hv he ht => ?_, fun hv he ht => ?_, fun hv ht => ?_⟩,
    fun ho hh => ⟨fun hseg => ?_, fun ht => ?_⟩, fun hbad => ?_, fun hbad => ?_⟩
  · exact exec_word_ok hs rfl (by rw [if_neg ha])
  · exact exec_word_ok hs rfl (by rw [if_pos ha])
  · exact exec_word_ok hs rfl (if_neg (by simp [hh, hl, hb]))
  · rw [← deadlineInfo_zero]
    exact exec_word_trap hs rfl (if_pos (by simpa [Option.isSome_iff_ne_none, or_assoc] using hbad))
  · rw [exec_markOv_segment hs ho hseg, if_neg (by simp [hh])]
  · rw [exec_jumpOv_target hs ho ht, if_pos ⟨hh, o, hv, he⟩]
  · rw [exec_jumpOv_target hs ho ht, if_neg (by simp [hv, he])]
  · rw [exec_jumpOv_target hs ho ht, if_neg (by simp [hv])]
  · rw [exec_markOv_segment hs ho hseg, if_pos hh]
  · rw [exec_jumpOv_target hs ho ht, if_neg (by simp [hh])]
  · exact exec_markOv_illegal hs hbad
  · exact exec_jumpOv_illegal hs hbad

end

section
/-! SUPPORT. The ends of waits, the deadlines taken after issue (04 R103 to R107; 09 R241, R247) and the event flags (04 R106); then O26. -/
namespace Sys2Proof.Machine

/-- The tinfo of a DEADLINE whose event or unit fits its field. -/
theorem deadlineInfo_arg (kind n : Nat) {arg : Nat} (ha : arg < 2 ^ 8) :
    deadlineInfo kind arg n = BitVec.ofNat 64 (kind * 2 ^ 60 + arg * 2 ^ 40 + n % 2 ^ 40) := by
  rw [deadlineInfo, Nat.mod_eq_of_lt ha]

/-- An event at a tile whose meaning is a step of that tile. -/
theorem exec_of_atTile {s : State} {k : TileKey} {h : Here} (hs : s.hereAt k = some h) {i : Instr} {f : Here → State} {t : State}
    (e : exec i s = atTile k f s) (hf : f h = t) : exec i s = .next t := by
  rw [e, atTile_here hs, hf]

/-! ### The tile at its handler (11 R289) -/

theorem TState.trapped_eq_true {st : TState} (hh : st.handler = true) (hg : st.lastGroup = none) : st.trapped = true := by
  rw [TState.trapped, hh, hg]; rfl

theorem TState.trapped_eq_false {st : TState} (hg : st.handler = true → st.lastGroup ≠ none) : st.trapped = false := by
  cases hh : st.handler with
  | false => rw [TState.trapped, hh, Bool.false_and]
  | true => rw [TState.trapped, Option.isNone_eq_false_iff.mpr (Option.isSome_iff_ne_none.mpr (hg hh)), Bool.and_false]

/-! ### Flags (04 R106) -/

theorem TState.getLsbD_settleFlags (st : TState) (j : Nat) : st.settleFlags.e.getLsbD j = true ↔
    st.arrive.getLsbD j = true ∨ (st.e.getLsbD j = true ∧ st.clre.getLsbD j = false) := by
  have inside : st.e.getLsbD j = true → j < 16 := BitVec.lt_of_getLsbD
  simp only [TState.settleFlags, BitVec.getLsbD_or, BitVec.getLsbD_and, BitVec.getLsbD_not, Bool.or_eq_true, Bool.and_eq_true,
    decide_eq_true_eq, Bool.not_eq_true']
  exact ⟨fun h => h.symm.imp_right fun ⟨he, _, hc⟩ => ⟨he, hc⟩, fun h => h.symm.imp_left fun ⟨he, hc⟩ => ⟨he, inside he, hc⟩⟩

/-- After the engine work the flags settle, then the samples are taken. -/
theorem State.advance_of_work {s : State} (hstop : s.stopped = false) (hp : s.phase = .work) (hi : s.inputs = []) :
    s.advance = { s.settle with phase := .sample, agenda := s.settle.sampleEvents } := by
  have quiet : s.happenings .sample = [] := by rw [State.happenings, hi]; rfl
  simp only [State.advance, hstop, hp, quiet, Bool.false_eq_true, if_false, List.foldl_nil, State.spent]
  simp only [State.settle, hi, List.filter_nil]

end Sys2Proof.Machine

open Sys2Proof Sys2Proof.Machine

/-- Settles O26: each event's conditions hold, so its branch is taken; a tile that stands at its handler is left for a later cycle. -/
theorem waitsAndDeadlines : Obligations.WaitsAndDeadlines := by
  unfold Obligations.WaitsAndDeadlines
  refine ⟨fun s k h hs ha => ?waits, fun s k h hs ha => ?deadlines, fun st j => ⟨st.getLsbD_settleFlags j, rfl, rfl, rfl⟩,
    fun s t hag hst hp hi ht => ?settled⟩
  case waits =>
    refine ⟨fun t hw ht => exec_of_atTile hs rfl ?_, fun t hw ht => exec_of_atTile hs rfl ?_, fun j last b hw hl he => exec_of_atTile hs rfl ?_,
      fun u last b hw hl ho => exec_of_atTile hs rfl ?_⟩
    · simp only [hw, ha, ht, decide_true, Bool.and_self, if_true]
    · simp only [hw, ha, ht, decide_true, Bool.and_self, if_true]
    · simp only [hw, ha, hl, TState.flag, he, decide_true, Bool.and_self, if_true]
    · simp only [hw, ha, hl, ho, beq_self_eq_true, decide_true, Bool.and_self, if_true]
  case deadlines =>
    refine ⟨fun j last b hw hl => exec_of_atTile hs rfl ?_, fun u last b hw hl => exec_of_atTile hs rfl ?_,
      fun c hc hl => ⟨fun hg => exec_of_atTile hs rfl ?_, fun hh hg => exec_of_atTile hs rfl ?_⟩,
      fun h0 hb hbase hm => ⟨fun hg => exec_of_atTile hs rfl ?_, fun hh hg => exec_of_atTile hs rfl ?_⟩⟩
    · rw [← deadlineInfo_arg 3 b (by omega)]
      simp only [hw, ha, hl, decide_true, Bool.and_self, if_true]
    · rw [← deadlineInfo_arg 4 b u.isLt]
      simp only [hw, ha, hl, decide_true, Bool.and_self, if_true]
    · rw [← deadlineInfo_zero]
      simp only [Here.pastLimit_eq_some hc hl, ha, TState.trapped_eq_false hg, Bool.not_false, Bool.and_self, if_true]
    · simp only [Here.pastLimit_eq_some hc hl, TState.trapped_eq_true hh hg, Bool.not_true, Bool.and_false, Bool.false_eq_true, if_false]
    · have missed : h.missedMark = true := Here.missedMark_iff.mpr ⟨h0, hb, hbase, hm⟩
      rw [← deadlineInfo_zero]
      simp only [ha, TState.trapped_eq_false hg, missed, Bool.not_false, Bool.and_self, if_true]
    · simp only [TState.trapped_eq_true hh hg, Bool.not_true, Bool.and_false, Bool.false_and, Bool.false_eq_true, if_false]
  case settled =>
    rw [step_of_agenda_nil hag, State.advance_of_work hst hp hi] at ht
    cases ht
    exact ⟨rfl, rfl, rfl⟩

end

section
/-! SUPPORT. Traps taken and returned from (11 R289 to R298), replay boundaries and the causes delivered at them (09 R247 to R249); then O23. -/
namespace Sys2Proof.Machine

/-! ### The first cause that ends a launch (11 R298) -/

theorem State.coAt_setCo_self {s : State} {n : Nat} {c d : Company} (hn : d.num = n) (hc : s.coAt n = some c) :
    (s.setCo d).coAt n = some d := by
  rw [State.coAt_setCo, if_pos hn, hc]
  rfl

section
variable (s : State) (co : Nat) (code : BitVec 8) (info : W64) (pc : W32) (unit : Nat) (tile : Option TileKey)

@[simp] theorem State.endCause_tileAt (k : TileKey) : (s.endCause co code info pc unit tile).tileAt k = s.tileAt k := by
  unfold State.endCause
  split
  · rfl
  · split <;> rfl

variable {co} {c : Company} (hc : s.coAt co = some c)
include hc

theorem State.endCause_first (hf : c.fatal = none) : ∃ d f, (s.endCause co code info pc unit tile).coAt co = some d ∧ d.fatal = some f ∧
    f.code = code ∧ f.info = info ∧ f.tile = tile ∧ f.since = s.cue := by
  have num : c.num = co := State.coAt_num hc
  simp only [State.endCause, hc, hf]
  exact ⟨_, _, (State.coAt_setCo_self (by exact num) hc), rfl, rfl, rfl, rfl, rfl⟩

theorem State.endCause_ended {f : FatalCause} (hf : c.fatal = some f) : s.endCause co code info pc unit tile = s := by
  simp only [State.endCause, hc, hf]

end

/-! ### Traps taken (11 R289, R293, R294) -/

section
variable {h : Here} (b : Bool) {code : BitVec 8} {info : W64}

theorem Here.takeTrap_handled {hd : BitVec 11} (hh : h.co.info.handler = some hd) (hfin : finalCause code info = false)
    (hout : h.st.handler = false) : h.takeTrap b code info = h.s.setTile { h.t with
      trap := h.t.trapOf b code info
      st := (if b then h.st.stepOn else h.st).enterHandler h.cue hd.toNat } := by
  simp only [Here.takeTrap, hh, hfin, hout, Bool.or_self, Bool.false_eq_true, if_false]

theorem Here.takeTrap_unhandled (hno : h.co.info.handler = none ∨ finalCause code info = true ∨ h.st.handler = true) :
    h.takeTrap b code info = (h.s.setTile { h.t with trap := h.t.trapOf b code info, st := h.st.stopFatal }).endCause h.co.num code info
      (h.t.trapOf b code info).pc 0 (some h.t.key) := by
  cases hh : h.co.info.handler with
  | none => simp only [Here.takeTrap, hh]
  | some hd =>
    have ends : (finalCause code info || h.st.handler) = true := by simpa [hh] using hno
    simp only [Here.takeTrap, hh, ends, if_true]

@[simp] theorem Tile.trapOf_cause (t : Tile) (code : BitVec 8) (info : W64) : (t.trapOf b code info).cause = code := by
  cases b <;> rfl

@[simp] theorem Tile.trapOf_info (t : Tile) (code : BitVec 8) (info : W64) : (t.trapOf b code info).info = info := by
  cases b <;> rfl

/-- The tile that takes a trap changes in its trap state and its registers. -/
theorem Here.takeTrap_tileAt (h : Here) (code : BitVec 8) (info : W64) (ht : h.s.tileAt h.t.key = some h.t) : ∃ st,
    (h.takeTrap b code info).tileAt h.t.key = some { h.t with trap := h.t.trapOf b code info, st := st } := by
  by_cases hno : h.co.info.handler = none ∨ finalCause code info = true ∨ h.st.handler = true
  · rw [Here.takeTrap_unhandled b hno, State.endCause_tileAt]
    exact ⟨_, State.tileAt_setTile_self rfl ht⟩
  · obtain ⟨hsome, hfin, hout⟩ := not_or.mp hno |>.imp_right not_or.mp
    obtain ⟨hd, hh⟩ := Option.ne_none_iff_exists'.mp hsome
    rw [Here.takeTrap_handled b hh (Bool.eq_false_iff.mpr hfin) (Bool.eq_false_iff.mpr hout)]
    exact ⟨_, State.tileAt_setTile_self rfl ht⟩

end

/-! ### Return from the handler, MARK.RB (11 R295, 04 R111) -/

theorem TState.leaveBundle_trapReturn (st : TState) (c t : Nat) :
    st.leaveBundle c (.trapReturn t) = (st.leaveBundle c .none).trapReturn t := rfl

theorem TState.leaveBundle_markRb (st : TState) (c : Nat) :
    st.leaveBundle c .markRb = { st.leaveBundle c .none with marked := some c, lastGroup := none } := rfl

/-! ### The causes pending at a boundary (11 R296) -/

theorem Pending.bits_eq (p : Pending) : p.bits = (if p.siteLost then 1 else 0) + (if p.regionLost then 2 else 0) +
    (if p.islandLost then 4 else 0) + (if p.routeLost then 8 else 0) + (if p.hole then 16 else 0) := by
  have weight (b : Bool) (n : Nat) : (if b = true then n else 0) = n * b.toNat := by cases b <;> simp
  simp only [Pending.bits, flagsNat, weight]
  omega

/-- The causes of a boundary end no launch that has a handler. -/
theorem Tile.finalCause_boundaryCause (t : Tile) : finalCause t.boundaryCause.1 t.boundaryCause.2 = false := by
  have notFinal : ∀ c ∈ [cSITE, cREGION, cISLAND, cROUTE, cHOLE], ∀ i, finalCause c i = false := by
    intro c hc i
    have named : (c == cILLEGAL) = false ∧ (c == cDEADLINE) = false := by revert c; decide
    rw [finalCause, named.1, named.2, Bool.false_and, Bool.or_self]
  refine notFinal _ ?_ _
  unfold Tile.boundaryCause
  dsimp only
  split_ifs <;> simp

@[simp] theorem State.postRec_tileAt (s : State) (n : SiteId) (r : FaultRec) (k : TileKey) : (s.postRec n r).tileAt k = s.tileAt k := by
  unfold State.postRec State.logRec
  split
  · split <;> rfl
  · rfl

/-- A tile once the cause pending at its boundary is delivered, its trap taken. -/
def Tile.delivered (t : Tile) (code : BitVec 8) : Tile := { t with
  imgTrap := some t.trap
  pend := Pending.launch
  status := if code = cROUTE then Vector.replicate 4 SideStatus.launch else t.status }

section
variable {s : State} {k : TileKey} {h : Here}

theorem State.deliver_of_none (hs : s.hereAt k = none) : s.deliver k = s := by
  simp only [State.deliver, hs]

theorem State.deliver_quiet (hs : s.hereAt k = some h) (hp : h.t.pend.any = false) : s.deliver k = s := by
  simp only [State.deliver, hs, hp, Bool.false_eq_true, if_false]

theorem State.deliver_pending (hs : s.hereAt k = some h) (hp : h.t.pend.any = true) {t : Tile}
    (ht : (h.takeTrap false h.t.boundaryCause.1 h.t.boundaryCause.2).tileAt k = some t) : ∃ r, s.deliver k =
      ((h.takeTrap false h.t.boundaryCause.1 h.t.boundaryCause.2).setTile (t.delivered h.t.boundaryCause.1)).postRec h.t.site r := by
  simp only [State.deliver, hs, hp, if_true, ht]
  exact ⟨_, rfl⟩

/-- The tile to which a cause is delivered. -/
theorem State.deliver_tileAt_self (hs : s.hereAt k = some h) (hp : h.t.pend.any = true) {t : Tile}
    (ht : (h.takeTrap false h.t.boundaryCause.1 h.t.boundaryCause.2).tileAt k = some t) :
    (s.deliver k).tileAt k = some (t.delivered h.t.boundaryCause.1) := by
  obtain ⟨r, hr⟩ := State.deliver_pending hs hp ht
  have key : t.key = k := State.tileAt_key ht
  rw [hr, State.postRec_tileAt]
  exact State.tileAt_setTile_self (by exact key) ht

/-- A tile without a cause pending is left; another takes its trap, and the rest of it, its image too, stays. -/
theorem State.deliver_cases (s : State) (k : TileKey) : s.deliver k = s ∨ ∃ (h : Here) (st : TState) (tr : TrapState) (r : FaultRec),
    s.hereAt k = some h ∧
    (h.takeTrap false h.t.boundaryCause.1 h.t.boundaryCause.2).tileAt k = some { h.t with trap := tr, st := st } ∧
    s.deliver k = ((h.takeTrap false h.t.boundaryCause.1 h.t.boundaryCause.2).setTile
      ({ h.t with trap := tr, st := st }.delivered h.t.boundaryCause.1)).postRec h.t.site r := by
  cases hs : s.hereAt k with
  | none => exact .inl (State.deliver_of_none hs)
  | some h =>
    cases hp : h.t.pend.any with
    | false => exact .inl (State.deliver_quiet hs hp)
    | true =>
      obtain ⟨hstate, hk, -, -⟩ := State.hereAt_parts hs
      have key : h.t.key = k := State.tileAt_key hk
      subst key hstate
      obtain ⟨st, ht⟩ := h.takeTrap_tileAt false h.t.boundaryCause.1 h.t.boundaryCause.2 hk
      obtain ⟨r, hr⟩ := State.deliver_pending hs hp ht
      exact .inr ⟨h, st, _, r, rfl, ht, hr⟩

theorem State.deliver_tileAt_other (s : State) {k j : TileKey} (hj : j ≠ k) : (s.deliver k).tileAt j = s.tileAt j := by
  obtain heq | ⟨h, st, tr, r, hs, ht, hr⟩ := State.deliver_cases s k
  · rw [heq]
  · obtain ⟨hstate, hk, -, -⟩ := State.hereAt_parts hs
    have key : h.t.key = k := State.tileAt_key hk
    subst key hstate
    rw [hr, State.postRec_tileAt, State.tileAt_setTile_other (by exact hj.symm), (Here.Frame.takeTrap h _ _ _).tiles j hj]

/-- The image that a tile restarts from, and whether it is damaged. -/
def State.imageAt (s : State) (k : TileKey) : Option (TState × Bool) := (s.tileAt k).map fun t => (t.img, t.imgBad)

theorem State.deliver_imageAt (j : TileKey) (s : State) (k : TileKey) : (s.deliver k).imageAt j = s.imageAt j := by
  by_cases hj : j = k
  · subst hj
    obtain heq | ⟨h, st, tr, r, hs, ht, hr⟩ := State.deliver_cases s j
    · rw [heq]
    · obtain ⟨-, hk, -, -⟩ := State.hereAt_parts hs
      have key : h.t.key = j := State.tileAt_key hk
      rw [State.imageAt, State.imageAt, hr, State.postRec_tileAt, hk,
        State.tileAt_setTile_self (u := Tile.delivered _ _) (by exact key) ht]
      rfl
  · rw [State.imageAt, State.deliver_tileAt_other s hj, State.imageAt]

end

/-! ### The boundary of a company (04 R111; 09 R247, R248) -/

/-- A tile as the end of a boundary leaves it, before causes are delivered. -/
def Tile.imaged (s : State) (c : Company) (t : Tile) : Tile :=
  if t.lost then { t with img := t.img.onRail (s.drained c t) }
  else { t with img := (s.drained c t).image, imgTrap := none, imgBad := false }

/-- The machine once the images of a company are taken and its gate is sealed. -/
def State.imaged (s : State) (c : Company) : State :=
  (s.mapTiles c.num (Tile.imaged s c)).setCo { s.seal c with lastB := c.cue, sameB := 0, imgRounds := c.rounds }

/-- The tiles that marked the boundary. -/
def State.markedTiles (s : State) (c : Company) : List TileKey :=
  ((s.tilesOf c.num).filter fun t => decide (t.st.marked = some c.cue) && !t.lost).map (·.key)

theorem Tile.imaged_key (s : State) (c : Company) (t : Tile) : (t.imaged s c).key = t.key := by
  unfold Tile.imaged; split <;> rfl

theorem Tile.imaged_pend (s : State) (c : Company) (t : Tile) : (t.imaged s c).pend = t.pend := by
  unfold Tile.imaged; split <;> rfl

theorem Tile.imaged_of_stands (s : State) (c : Company) {t : Tile} (hl : t.lost = false) :
    t.imaged s c = { t with img := (s.drained c t).image, imgTrap := none, imgBad := false } := by
  rw [Tile.imaged, hl]; rfl

section
variable {s : State} {c : Company}

theorem State.closeBoundary_eq (hc : s.coAt c.num = some c) :
    s.closeBoundary c.num = (s.markedTiles c).foldl State.deliver (s.imaged c) := by
  simp only [State.closeBoundary, hc]
  rfl

theorem State.co_of_mem_markedTiles {k : TileKey} (hk : k ∈ s.markedTiles c) : k.co = c.num := by
  obtain ⟨t, ht, rfl⟩ := List.mem_map.mp hk
  exact of_decide_eq_true (List.mem_filter.mp (List.mem_filter.mp ht).1).2

theorem State.tileAt_imaged (k : TileKey) : (s.imaged c).tileAt k =
    (s.tileAt k).map fun t => if t.key.co = c.num then t.imaged s c else t :=
  State.tileAt_mapTiles (Tile.imaged_key s c) s c.num k

theorem State.mem_tilesOf_of_tileAt {k : TileKey} {t : Tile} (ht : s.tileAt k = some t) (hk : k.co = c.num) : t ∈ s.tilesOf c.num := by
  have key : t.key = k := State.tileAt_key ht
  exact List.mem_filter.mpr ⟨List.mem_of_find?_eq_some ht, decide_eq_true (key ▸ hk)⟩

theorem State.closeBoundary_imageAt (hc : s.coAt c.num = some c) (k : TileKey) :
    (s.closeBoundary c.num).imageAt k = (s.imaged c).imageAt k := by
  rw [State.closeBoundary_eq hc]
  exact foldl_keeps (g := fun u => State.imageAt u k) (State.deliver_imageAt k) _ _

theorem State.closeBoundary_tileAt_other (hc : s.coAt c.num = some c) {k : TileKey} (hk : k.co ≠ c.num) :
    (s.closeBoundary c.num).tileAt k = s.tileAt k := by
  have untouched : (s.imaged c).tileAt k = s.tileAt k := by
    rw [State.tileAt_imaged]
    cases ht : s.tileAt k with
    | none => rfl
    | some t => rw [Option.map_some, if_neg (State.tileAt_key ht ▸ hk)]
  rw [State.closeBoundary_eq hc]
  refine List.foldlRecOn _ _ (motive := fun u => State.tileAt u k = s.tileAt k) untouched fun u hu j hj => ?_
  have hne : k ≠ j := fun e => hk (by rw [e]; exact State.co_of_mem_markedTiles hj)
  rw [State.deliver_tileAt_other u hne, hu]

/-- Where no cause is pending, the boundary takes the images and seals the gate, and no more. -/
theorem State.closeBoundary_of_quiet (hc : s.coAt c.num = some c) (hq : ∀ t ∈ s.tilesOf c.num, t.pend.any = false) :
    s.closeBoundary c.num = s.imaged c := by
  rw [State.closeBoundary_eq hc]
  refine List.foldlRecOn _ _ (motive := fun u => u = s.imaged c) rfl fun u hu k hk => ?_
  subst hu
  cases hs : (s.imaged c).hereAt k with
  | none => exact State.deliver_of_none hs
  | some h =>
    refine State.deliver_quiet hs ?_
    obtain ⟨-, ht, -, -⟩ := State.hereAt_parts hs
    obtain ⟨t, hold, hnew⟩ := Option.map_eq_some_iff.mp ((State.tileAt_imaged k).symm.trans ht)
    have own := State.co_of_mem_markedTiles hk
    rw [if_pos (State.tileAt_key hold ▸ own)] at hnew
    rw [← hnew, Tile.imaged_pend]
    exact hq t (State.mem_tilesOf_of_tileAt hold own)

end

/-! ### The gate sealed (09 R248) -/

section
variable (s : State) (c : Company)

theorem State.mem_gateOpen_seal (w : GWrite) : w ∈ (s.seal c).gateOpen ↔ w ∈ c.gateOpen ∧ s.pastLoss w.site = true := List.mem_filter

theorem State.seal_of_all_held (hl : ∀ w ∈ c.gateOpen, s.pastLoss w.site = true) : s.seal c = c := by
  have none_sealed : (c.gateOpen.filter fun w => !s.pastLoss w.site) = [] := List.filter_eq_nil_iff.mpr fun w hw => by simp [hl w hw]
  have all_stay : (c.gateOpen.filter fun w => s.pastLoss w.site) = c.gateOpen := List.filter_eq_self.mpr hl
  simp only [State.seal, none_sealed, all_stay, List.isEmpty_nil, if_true]

/-- The writes of the open interval that are sealed. -/
def State.sealedWrites : List GWrite := c.gateOpen.filter fun w => !s.pastLoss w.site

theorem State.mem_sealedWrites (w : GWrite) : w ∈ s.sealedWrites c ↔ w ∈ c.gateOpen ∧ s.pastLoss w.site = false := by
  rw [State.sealedWrites, List.mem_filter, Bool.not_eq_true']

theorem State.seal_of_some_sealed (hl : ∃ w ∈ c.gateOpen, s.pastLoss w.site = false) :
    s.seal c = { c with gateSealed := c.gateSealed ++ [⟨c.cue, false, s.sealedWrites c⟩], gateOpen := (s.seal c).gateOpen } := by
  obtain ⟨w, hw⟩ := hl
  have some_sealed : (s.sealedWrites c).isEmpty = false :=
    List.isEmpty_eq_false_iff.mpr (List.ne_nil_of_mem ((s.mem_sealedWrites c w).mpr hw))
  rw [State.seal]
  simp only [State.sealedWrites] at some_sealed ⊢
  simp only [some_sealed, Bool.false_eq_true, if_false]

end

end Sys2Proof.Machine

open Sys2Proof Sys2Proof.Machine

/-- Settles O23: a trap is taken in one of two ways (`Here.takeTrap_handled`, `Here.takeTrap_unhandled`); a boundary takes the images and
delivers causes one tile after another, each delivery in its own tile. -/
theorem trapEntryAndReturn : Obligations.TrapEntryAndReturn := by
  unfold Obligations.TrapEntryAndReturn
  refine ⟨fun h b code info hd hh hfin hout => ?entry, fun h b code info ht hco hno => ?ended, fun st c t hn => ?back,
    ⟨fun st c hn hl => ?mark, fun st => ?image, fun s c => ?gate, fun s c hc => ?boundary⟩, fun t => ?cause,
    fun s k h hd hs => ⟨fun hp => ?quiet, fun hp hh hout => ?delivered⟩⟩
  case entry =>
    dsimp only
    rw [Here.takeTrap_handled b hh hfin hout]
    rfl
  case ended =>
    have shared := (Here.Frame.takeTrap h b code info)
    refine ⟨?_, fun hf => ?_, fun f hf => ?_, shared.shared.mem, shared.sites, shared.shared.weights⟩
    · rw [Here.takeTrap_unhandled b hno, State.endCause_tileAt]
      exact ⟨_, State.tileAt_setTile_self (by rfl) ht, rfl, Tile.trapOf_cause b _ _ _, Tile.trapOf_info b _ _ _⟩
    · rw [Here.takeTrap_unhandled b hno]
      exact State.endCause_first _ _ _ _ _ _ ((State.setTile_coAt _ _ _).trans hco) hf
    · rw [Here.takeTrap_unhandled b hno, State.endCause_ended _ _ _ _ _ _ ((State.setTile_coAt _ _ _).trans hco) hf]
      exact hco
  case back =>
    rw [TState.leaveBundle_trapReturn, TState.leaveBundle_of_none_ends st c hn]
    rfl
  case mark =>
    rw [TState.leaveBundle_markRb, TState.leaveBundle_of_none_ends st c hn]
    simp only [TState.settleLocal, hl, Option.getD_none]
  case image =>
    exact ⟨fun l => ⟨Vector.getElem_replicate l.isLt, Vector.getElem_replicate l.isLt⟩, st.mem_flight_groupSwitch, rfl⟩
  case gate =>
    exact ⟨s.mem_gateOpen_seal c, s.seal_of_all_held c,
      fun hl => ⟨s.sealedWrites c, List.filter_sublist, s.mem_sealedWrites c, s.seal_of_some_sealed c hl⟩⟩
  case boundary =>
    have imaged {k : TileKey} {t : Tile} (ht : s.tileAt k = some t) (hk : k.co = c.num) (hl : t.lost = false) : (s.imaged c).tileAt k =
        some { t with img := (s.drained c t).image, imgTrap := none, imgBad := false } := by
      rw [State.tileAt_imaged, ht, Option.map_some, if_pos (State.tileAt_key ht ▸ hk), Tile.imaged_of_stands s c hl]
    refine ⟨fun k t ht hk hl => ?_, fun k t ht hk => (State.closeBoundary_tileAt_other hc hk).trans ht, fun hq => ?_⟩
    · have kept := State.closeBoundary_imageAt hc k
      rw [State.imageAt, State.imageAt, imaged ht hk hl] at kept
      obtain ⟨t', ht', himg⟩ := Option.map_eq_some_iff.mp kept
      exact ⟨t', ht', congrArg Prod.fst himg, congrArg Prod.snd himg⟩
    · rw [State.closeBoundary_of_quiet hc hq]
      exact ⟨State.coAt_setCo_self (by rfl) hc, fun k t => imaged, rfl⟩
  case cause =>
    dsimp only
    rw [← Pending.bits_eq]
    refine ⟨fun h1 => ?_, fun h1 h2 => ?_, fun h1 h2 h3 => ?_, fun h1 h2 h3 h4 => ?_, fun h1 h2 h3 h4 _ => ⟨fun ha => ?_, fun a ha => ?_⟩⟩
    · simp only [Tile.boundaryCause, h1, if_true]
    · simp only [Tile.boundaryCause, h1, h2, Bool.false_eq_true, if_true, if_false]
    · simp only [Tile.boundaryCause, h1, h2, h3, Bool.false_eq_true, if_true, if_false]
    · simp only [Tile.boundaryCause, h1, h2, h3, h4, Bool.false_eq_true, if_true, if_false]
    · simp only [Tile.boundaryCause, h1, h2, h3, h4, ha, Bool.false_eq_true, if_false]
    · simp only [Tile.boundaryCause, h1, h2, h3, h4, ha, Bool.false_eq_true, if_false]
  case quiet => exact State.deliver_quiet hs hp
  case delivered =>
    obtain ⟨hstate, hk, -, -⟩ := State.hereAt_parts hs
    subst hstate
    have key : h.t.key = k := State.tileAt_key hk
    have taken : (h.takeTrap false h.t.boundaryCause.1 h.t.boundaryCause.2).tileAt k = some { h.t with
        trap := h.t.trapOf false h.t.boundaryCause.1 h.t.boundaryCause.2
        st := h.st.enterHandler h.cue hd.toNat } := by
      rw [Here.takeTrap_handled false hh h.t.finalCause_boundaryCause hout]
      exact State.tileAt_setTile_self (by exact key) hk
    exact ⟨_, State.deliver_tileAt_self hs hp taken, rfl, rfl, rfl, rfl, rfl, rfl⟩

end

section
/-! SUPPORT. Reduction trees and scan passes on integers (05 R146, R147); then O32. -/
namespace Sys2Proof.Machine

/-! ### The tree -/

theorem length_pairs (f : W32 → W32 → W32) : ∀ xs : List W32, (pairs f xs).length = (xs.length + 1) / 2
  | [] => rfl
  | [_] => by simp [pairs]
  | x :: y :: r => by
    rw [pairs, List.length_cons, length_pairs f r, List.length_cons, List.length_cons]
    omega

/-- `n` levels leave one value of `2^n`. -/
theorem treeFold_eq_singleton (f : W32 → W32 → W32) (n : Nat) : ∀ xs : List W32, xs.length = 2 ^ n →
    treeFold f n xs = [(treeFold f n xs).headD 0] := by
  induction n with
  | zero =>
    intro xs hlen
    obtain ⟨x, rfl⟩ := List.length_eq_one_iff.mp hlen
    rfl
  | succ n ih =>
    intro xs hlen
    exact ih (pairs f xs) (by rw [length_pairs, hlen, Nat.pow_succ]; omega)

/-- What every level keeps, the tree keeps. -/
theorem treeFold_keeps {f : W32 → W32 → W32} {p : List W32 → Prop} (hp : ∀ xs, p xs → p (pairs f xs)) (n : Nat) :
    ∀ xs : List W32, p xs → p (treeFold f n xs) := by
  induction n with
  | zero => exact fun _ h => h
  | succ n ih => exact fun xs h => ih _ (hp xs h)

theorem sum_pairs : ∀ xs : List W32, (pairs (· + ·) xs).sum = xs.sum
  | [] => rfl
  | [_] => rfl
  | x :: y :: r => by rw [pairs, List.sum_cons, sum_pairs r, List.sum_cons, List.sum_cons, add_assoc]

theorem treeFold_add {n : Nat} {xs : List W32} (hlen : xs.length = 2 ^ n) : (treeFold (· + ·) n xs).headD 0 = xs.sum := by
  have kept : (treeFold (· + ·) n xs).sum = xs.sum :=
    treeFold_keeps (p := fun ys => ys.sum = xs.sum) (fun ys h => (sum_pairs ys).trans h) n xs rfl
  rwa [treeFold_eq_singleton _ n xs hlen, List.sum_singleton] at kept

/-- An operation that takes the one of its two operands no lower in an order. -/
structure Extreme (le : W32 → W32 → Prop) (f : W32 → W32 → W32) : Prop where
  refl : ∀ x, le x x
  trans : ∀ {x y z}, le x y → le y z → le x z
  left : ∀ x y, le x (f x y)
  right : ∀ x y, le y (f x y)
  one : ∀ x y, f x y = x ∨ f x y = y

section
variable {le : W32 → W32 → Prop} {f : W32 → W32 → W32} (hf : Extreme le f)
include hf

theorem Extreme.mem_of_mem_pairs : ∀ {xs : List W32} {z : W32}, z ∈ pairs f xs → z ∈ xs
  | [], _, h => h
  | [_], _, h => h
  | x :: y :: r, z, h => by
    rcases List.mem_cons.mp h with rfl | hr
    · rcases hf.one x y with e | e <;> rw [e] <;> simp
    · exact List.mem_cons_of_mem _ (List.mem_cons_of_mem _ (Extreme.mem_of_mem_pairs hr))

theorem Extreme.le_pairs : ∀ {xs : List W32} {x : W32}, x ∈ xs → ∃ z ∈ pairs f xs, le x z
  | [_], x, h => ⟨x, h, hf.refl x⟩
  | a :: b :: r, x, h => by
    rcases List.mem_cons.mp h with rfl | h
    · exact ⟨_, List.mem_cons_self, hf.left x b⟩
    rcases List.mem_cons.mp h with rfl | h
    · exact ⟨_, List.mem_cons_self, hf.right a x⟩
    · obtain ⟨z, hz, hle⟩ := Extreme.le_pairs h
      exact ⟨z, List.mem_cons_of_mem _ hz, hle⟩

/-- The tree gives one of its values, and none is above it. -/
theorem Extreme.treeFold_spec {n : Nat} {xs : List W32} (hlen : xs.length = 2 ^ n) :
    (treeFold f n xs).headD 0 ∈ xs ∧ ∀ x ∈ xs, le x ((treeFold f n xs).headD 0) := by
  have single := treeFold_eq_singleton f n xs hlen
  constructor
  · have kept : ∀ z ∈ treeFold f n xs, z ∈ xs :=
      treeFold_keeps (p := fun ys => ∀ z ∈ ys, z ∈ xs) (fun ys h z hz => h z (hf.mem_of_mem_pairs hz)) n xs fun _ h => h
    exact kept _ (by rw [single]; exact List.mem_singleton_self _)
  · intro x hx
    obtain ⟨z, hz, hle⟩ := treeFold_keeps (f := f) (p := fun ys => ∃ z ∈ ys, le x z)
      (fun ys ⟨z, hz, hxz⟩ => by
        obtain ⟨w, hw, hzw⟩ := hf.le_pairs hz
        exact ⟨w, hw, hf.trans hxz hzw⟩) n xs ⟨x, hx, hf.refl x⟩
    rw [single, List.mem_singleton] at hz
    exact hz ▸ hle

end

/-- The one of two words with the higher key, and the one with the lower. -/
theorem extreme_of_key {α : Type} [LinearOrder α] (key : W32 → α) :
    Extreme (fun x y => key x ≤ key y) (fun x y => if decide (key x < key y) then y else x) ∧
    Extreme (fun x y => key y ≤ key x) (fun x y => if decide (key x < key y) then x else y) := by
  simp only [decide_eq_true_eq]
  constructor
  · refine ⟨fun x => le_rfl, fun h h' => h.trans h', fun x y => ?_, fun x y => ?_, fun x y => ?_⟩ <;> split
    · next h => exact h.le
    · exact le_rfl
    · exact le_rfl
    · next h => exact not_lt.mp h
    · exact .inr rfl
    · exact .inl rfl
  · refine ⟨fun x => le_rfl, fun h h' => h'.trans h, fun x y => ?_, fun x y => ?_, fun x y => ?_⟩ <;> split
    · exact le_rfl
    · next h => exact not_lt.mp h
    · next h => exact h.le
    · exact le_rfl
    · exact .inl rfl
    · exact .inr rfl

/-! ### The scan -/

/-- The sum of the `w` lanes that end at lane `i`, fewer at the start. -/
def windowSum (xs : List W32) (w i : Nat) : W32 := ∑ j ∈ Finset.Ico (i + 1 - w) (i + 1), xs.getD j 0

/-- A list whose lane `i` is the sum of the `w` lanes of `xs` that end there. -/
def Windows (xs : List W32) (w : Nat) (ys : List W32) : Prop :=
  ys.length = xs.length ∧ ∀ i < xs.length, ys.getD i 0 = windowSum xs w i

theorem windows_one (xs : List W32) : Windows xs 1 xs := ⟨rfl, fun i _ => by simp [windowSum]⟩

theorem windowSum_double (xs : List W32) {w i : Nat} (hi : w ≤ i) : windowSum xs (w + w) i = windowSum xs w (i - w) + windowSum xs w i := by
  have start : i + 1 - (w + w) = i - w + 1 - w := by omega
  have mid : i - w + 1 = i + 1 - w := by omega
  rw [windowSum, windowSum, windowSum, start, mid]
  exact (Finset.sum_Ico_consecutive _ (by omega) (by omega)).symm

theorem length_scanStep (f : W32 → W32 → W32) (d : Nat) (xs : List W32) : (scanStep f d xs).length = xs.length := by
  simp only [scanStep, List.length_append, List.length_take, List.length_zipWith, List.length_drop]
  omega

theorem scanStep_getD_of_lt (f : W32 → W32 → W32) {d i : Nat} {xs : List W32} (hd : i < d) :
    (scanStep f d xs).getD i 0 = xs.getD i 0 := by
  by_cases hi : i < xs.length
  · rw [scanStep, List.getD_append _ _ _ _ (by rw [List.length_take]; omega)]
    simp [List.getD_eq_getElem?_getD, hd]
  · rw [List.getD_eq_default _ _ (by rw [length_scanStep]; omega), List.getD_eq_default _ _ (by omega)]

theorem scanStep_getD_of_le (f : W32 → W32 → W32) {d i : Nat} {xs : List W32} (hd : d ≤ i) (hi : i < xs.length) :
    (scanStep f d xs).getD i 0 = f (xs.getD (i - d) 0) (xs.getD i 0) := by
  have taken : (xs.take d).length = d := by rw [List.length_take]; omega
  rw [scanStep, List.getD_append_right _ _ _ _ (by omega), taken, List.getD_eq_getElem _ _ (by simp; omega),
    List.getElem_zipWith, List.getElem_drop, List.getD_eq_getElem _ _ (by omega), List.getD_eq_getElem _ _ hi]
  congr 2
  omega

/-- A pass doubles the windows. -/
theorem Windows.scanStep {xs ys : List W32} {w : Nat} (h : Windows xs w ys) : Windows xs (w + w) (scanStep (· + ·) w ys) := by
  obtain ⟨hlen, hys⟩ := h
  refine ⟨by rw [length_scanStep, hlen], fun i hi => ?_⟩
  by_cases hw : i < w
  · have same : i + 1 - (w + w) = i + 1 - w := by omega
    rw [scanStep_getD_of_lt _ hw, hys i hi, windowSum, windowSum, same]
  · rw [scanStep_getD_of_le _ (by omega) (by omega), hys i hi, hys (i - w) (by omega), windowSum_double xs (by omega)]

theorem sum_take_eq_sum_range (xs : List W32) (n : Nat) : (xs.take n).sum = ∑ j ∈ Finset.range n, xs.getD j 0 := by
  induction n with
  | zero => simp
  | succ n ih =>
    rw [Finset.sum_range_succ, ← ih, List.take_add_one, List.sum_append, List.getD_eq_getElem?_getD]
    cases xs[n]? <;> simp

/-- The six passes give the sum of every lane and those below it. -/
theorem scan_getD {xs : List W32} (hlen : xs.length = 64) {i : Nat} (hi : i < 64) :
    ([1, 2, 4, 8, 16, 32].foldl (fun ys d => scanStep (· + ·) d ys) xs).getD i 0 = (xs.take (i + 1)).sum := by
  have passes := (windows_one xs).scanStep.scanStep.scanStep.scanStep.scanStep.scanStep
  have whole : i + 1 - 64 = 0 := by omega
  rw [sum_take_eq_sum_range, Finset.range_eq_Ico, ← whole]
  exact passes.2 i (hlen ▸ hi)

theorem foldl_add_eq_sum_words (xs : List W32) : xs.foldl (· + ·) 0 = xs.sum := List.sum_eq_foldl.symm

end Sys2Proof.Machine

open Sys2Proof Sys2Proof.Machine

/-- Settles O32: a level of the tree keeps the sum (`sum_pairs`) and an extreme (`Extreme.le_pairs`); a pass of the scan doubles the number of
lanes summed (`Windows.scanStep`). -/
theorem integerReductions : Obligations.IntegerReductions := by
  unfold Obligations.IntegerReductions
  intro ftz xs hlen
  obtain ⟨maxN, minN⟩ := extreme_of_key (fun x : W32 => x.toNat)
  obtain ⟨maxI, minI⟩ := extreme_of_key (fun x : W32 => x.toInt)
  have h64 : xs.length = 2 ^ 6 := hlen
  obtain ⟨memMaxN, leMaxN⟩ := maxN.treeFold_spec h64
  obtain ⟨memMinN, leMinN⟩ := minN.treeFold_spec h64
  obtain ⟨memMaxI, leMaxI⟩ := maxI.treeFold_spec h64
  obtain ⟨memMinI, leMinI⟩ := minI.treeFold_spec h64
  refine ⟨fun ty hty => ?_, fun x hx => ⟨leMaxN x hx, leMinN x hx⟩, fun x hx => ⟨leMaxI x hx, leMinI x hx⟩⟩
  simp only [foldl_add_eq_sum_words]
  rcases List.mem_pair.mp hty with rfl | rfl
  · exact ⟨treeFold_add h64, memMaxI, memMinI, fun i hi => scan_getD hlen hi⟩
  · exact ⟨treeFold_add h64, memMaxN, memMinN, fun i hi => scan_getD hlen hi⟩

end

section
/-! SUPPORT. Vector words whose result is given lane by lane (05 R127, R130); then O27. -/
namespace Sys2Proof.Machine

/-! ### Vector words -/

/-- A word whose only effect is a vector result, its lanes known. -/
theorem exec_vword {s : State} {h : Here} (hs : s.here = some h) {i : Instr} {lat : Nat} {r : Dst} {f : Here → Vec} {g : Nat → W32}
    (e : exec i = vword lat r f) (hf : f h = ofLanes g) : exec i s = h.givesV lat r g :=
  exec_word_ok hs e (by rw [hf])

/-- A lane-wise word of two sources. -/
theorem exec_lane2 {s : State} {h : Here} (hs : s.here = some h) {i : Instr} {lat : Nat} {r : Dst} {a b : Sel} {f : W32 → W32 → W32} {g : Nat → W32}
    (e : exec i = lane2 lat r a b f) (hfg : ∀ j, f (lane (h.getV h.s.slot a) j) (lane (h.getV h.s.slot b) j) = g j) :
    exec i s = h.givesV lat r g :=
  exec_vword hs e (congrArg ofLanes (funext hfg))

end Sys2Proof.Machine

open Sys2Proof Sys2Proof.Machine

/-- Settles O27: each word is one operation of its lanes (`exec_lane2`), and the operation on words is that on the numbers they hold. -/
theorem vectorIntegerWords : Obligations.VectorIntegerWords := by
  unfold Obligations.VectorIntegerWords
  intro s h r a b hs
  exact ⟨exec_lane2 hs (f := fun x y => x + y) rfl fun _ => BitVec.add_def _ _,
    exec_lane2 hs (f := fun x y => x - y) rfl fun _ => sub_eq_ofInt _ _,
    exec_lane2 hs (f := fun x y => x * y) rfl fun _ => mul_eq_ofNat _ _,
    exec_lane2 hs (f := fun x y => BitVec.ofInt 32 (x.toInt * y.toInt / 2 ^ 32)) rfl fun _ => rfl,
    exec_lane2 hs (f := fun x y => if ltS x y then x else y) rfl fun _ => ite_ltS _ _ _ _,
    exec_lane2 hs (f := fun x y => if ltS x y then y else x) rfl fun _ => ite_ltS _ _ _ _,
    exec_lane2 hs (f := fun x y => if ltU x y then x else y) rfl fun _ => ite_ltU _ _ _ _,
    exec_lane2 hs (f := fun x y => if ltU x y then y else x) rfl fun _ => ite_ltU _ _ _ _,
    exec_lane2 hs (f := fun x y => x &&& y) rfl fun _ => rfl,
    exec_lane2 hs (f := fun x y => x ||| y) rfl fun _ => rfl,
    exec_lane2 hs (f := fun x y => x ^^^ y) rfl fun _ => rfl,
    exec_lane2 hs (f := fun x y => x <<< (y.toNat % 32)) rfl fun _ => shl_eq_ofNat _ _,
    exec_lane2 hs (f := fun x y => x >>> (y.toNat % 32)) rfl fun _ => shr_eq_ofNat _ _,
    exec_lane2 hs (f := fun x y => x.sshiftRight (y.toNat % 32)) rfl fun _ => sha_eq_ofInt _ _⟩

end

section
/-! SUPPORT. Images read back lane by lane and byte by byte (01 R17, 05 R148); then O28. -/
namespace Sys2Proof.Machine

/-- An image has no more than its 64 lanes. -/
theorem ofLanes_lane (v : Vec) : ofLanes (lane v) = v := by
  have digits : ∀ n, lanesNat (lane v) n = v.toNat % 2 ^ (32 * n) := by
    intro n
    induction n with
    | zero => rw [Nat.mul_zero, Nat.pow_zero, Nat.mod_one]; rfl
    | succ n ih =>
      have digit : (lane v n).toNat = v.toNat / 2 ^ (32 * n) % 2 ^ 32 := by
        rw [lane, BitVec.extractLsb'_toNat, Nat.shiftRight_eq_div_pow]
      rw [lanesNat, ih, digit, Nat.mul_succ, pow_add, Nat.mod_mul, Nat.mul_comm (_ % 2 ^ 32)]
  rw [ofLanes, digits, ← BitVec.toNat_ofNat, BitVec.ofNat_toNat, BitVec.setWidth_eq, BitVec.ofNat_toNat, BitVec.setWidth_eq]

theorem leNat_digit (bs : List Byte) : ∀ q < bs.length, leNat bs / 256 ^ q % 256 = (bs.getD q 0).toNat := by
  induction bs with
  | nil => exact fun q hq => absurd hq (Nat.not_lt_zero q)
  | cons b bs ih =>
    intro q hq
    have hb : b.toNat < 256 := b.isLt
    cases q with
    | zero => rw [leNat, List.getD_cons_zero]; omega
    | succ q =>
      have rest : (b.toNat + 256 * leNat bs) / 256 = leNat bs := by omega
      rw [leNat, Nat.pow_succ', ← Nat.div_div_eq_div_mul, rest, List.getD_cons_succ]
      exact ih q (Nat.lt_of_succ_lt_succ hq)

/-- A byte of an image made from bytes. -/
theorem byteOf_leNat {bs : List Byte} (hlen : bs.length = 256) {q : Nat} (hq : q < 256) :
    byteOf (BitVec.ofNat 2048 (leNat bs)) q = bs.getD q 0 := by
  have pow : 2 ^ (8 * q) = 256 ^ q := by rw [Nat.pow_mul]
  have digit : 2 ^ 8 ∣ 2 ^ (8 * (256 - q)) := pow_dvd_pow 2 (by omega)
  apply BitVec.eq_of_toNat_eq
  rw [byteOf, BitVec.extractLsb'_toNat, BitVec.toNat_ofNat, Nat.shiftRight_eq_div_pow, show (2048 : Nat) = 8 * q + 8 * (256 - q) by omega,
    pow_add, Nat.mod_mul_right_div_self, Nat.mod_mod_of_dvd _ digit, pow]
  exact leNat_digit bs q (hlen ▸ hq)

theorem nonZeroBelow_eq_countP (x : Vec) (i : Nat) : nonZeroBelow x i = (List.range i).countP fun j => lane x j != 0 := by
  induction i with
  | zero => rfl
  | succ i ih =>
    rw [nonZeroBelow, ih, List.range_succ, List.countP_append, List.countP_singleton]
    cases lane x i != 0 <;> rfl

/-- The bytes that VSHUF puts together. -/
def shuffled (x y : Vec) : List Byte := (List.range 256).map fun q => byteOf x (byteOf y q).toNat

theorem shuffled_getD (x y : Vec) {q : Nat} (hq : q < 256) : (shuffled x y).getD q 0 = byteOf x (byteOf y q).toNat := by
  simp [shuffled, List.getD_eq_getElem?_getD, hq]

end Sys2Proof.Machine

open Sys2Proof Sys2Proof.Machine

/-- Settles O28: each word gives its lanes (`exec_vword`); VSHUF's image is the one its bytes make (`byteOf_leNat`). -/
theorem vectorLaneWords : Obligations.VectorLaneWords := by
  unfold Obligations.VectorLaneWords
  intro s h r a b hs
  refine ⟨exec_vword hs rfl (congrArg ofLanes (funext fun i => ?sel)), exec_vword hs rfl rfl,
    ⟨lane (BitVec.ofNat 2048 (leNat (shuffled (h.getV h.s.slot a) (h.getV h.s.slot b)))), exec_vword hs rfl (ofLanes_lane _).symm, fun q hq => ?shuf⟩,
    exec_vword hs rfl rfl, exec_vword hs rfl rfl, exec_vword hs rfl (congrArg ofLanes (funext fun i => ?ext)),
    exec_vword hs rfl (congrArg ofLanes (funext fun i => ?lidx))⟩
  case sel => simp only [bne_iff_ne]; rfl
  case shuf =>
    rw [ofLanes_lane, byteOf_leNat (by simp [shuffled]) hq, shuffled_getD _ _ hq]
  case ext => simp only [← Nat.lt_succ_iff]; rfl
  case lidx => rw [nonZeroBelow_eq_countP]; rfl

end

section
/-! SUPPORT. The checks of vector loads and stores where they fail (05 R149, R151, R154); then O33. -/
namespace Sys2Proof.Machine

/-! ### Units of another owner (01 R31, R32) -/

theorem TState.notOwned_eq_some {st : TState} {o a n u : Nat} (hlo : a / 4096 ≤ u) (hhi : u ≤ (a + n - 1) / 4096) (hu : st.owner u ≠ o)
    (hfirst : ∀ v, a / 4096 ≤ v → v < u → st.owner v = o) : st.notOwned o a n = some u := by
  rw [TState.notOwned, List.find?_eq_some_iff_getElem]
  refine ⟨by simpa using hu, u - a / 4096, by simp only [List.length_map, List.length_range]; omega, ?_, fun j hj => ?_⟩
  · simp only [List.getElem_map, List.getElem_range]; omega
  · simp [hfirst (j + a / 4096) (by omega) (by omega)]

/-- Units past the last are the core's. -/
theorem TState.lt_of_owner_ne_zero {st : TState} {u : Nat} (hu : st.owner u ≠ 0) : u < 256 := by
  by_contra hge
  exact hu (by simp [TState.owner, Vector.getD, hge])

theorem bankInfo_zero {bank : Nat} (hb : bank < 16) (reason : Nat) : bankInfo 0 bank reason = BitVec.ofNat 64 (bank * 2 ^ 16 + reason) := by
  rw [bankInfo, Nat.mod_eq_of_lt hb, Nat.zero_mod, Nat.zero_mul, Nat.zero_add]

section
variable {h : Here} {x : Nat} (blk : Width → Nat → Res) (k : BankFmt → Nat → Res)

theorem Here.ownerCheck_lent {n u : Nat} (r : Res) (hlo : x / 4096 ≤ u) (hhi : u ≤ (x + n - 1) / 4096) (hu : h.st.owner u ≠ 0)
    (hfirst : ∀ v, x / 4096 ≤ v → v < u → h.st.owner v = 0) :
    h.ownerCheck x n r = .trap cOWNER (BitVec.ofNat 64 (h.st.owner u * 2 ^ 8 + u)) := by
  have lent : h.st.notOwned ownCore x n = some u := TState.notOwned_eq_some hlo hhi hu hfirst
  simp only [Here.ownerCheck, lent, ownerInfo_zero (h.st.owner_lt u) (TState.lt_of_owner_ne_zero hu), Nat.reducePow]

/-! ### The checks in their order (05 R149) -/

theorem Here.vecCheck_outside {a : Int} (ha : a < 0 ∨ 0xfffff < a) : h.vecCheck a blk k = .trap cBOUNDS (BitVec.ofInt 64 a) := by
  have bad : addrOk a 1 = false := by
    rw [← Bool.not_eq_true, addrOk_eq_true_iff]; tauto
  rw [Here.vecCheck, if_pos (by rw [bad]; rfl), addrInfo]

/-- The checks of an access to a bank that is no block bank. -/
theorem Here.vecCheck_of_plain (hx : x < 0x100000) (hb : (h.t.bankFmt (x / 0x10000)).isBlock = false) : h.vecCheck (x : Int) blk k =
    let f := h.t.bankFmt (x / 0x10000)
    let last := (x + 64 * f.bytes - 1) / 0x10000
    if x % f.bytes ≠ 0 ∨ spadSize < x + 64 * f.bytes then .trap cBOUNDS (addrInfo x)
    else if last ≠ x / 0x10000 ∧ h.t.fmt last ≠ h.t.fmt (x / 0x10000) then .trap cBANKFMT (bankInfo 0 last 3)
    else h.ownerCheck x (64 * f.bytes) (k f x) := by
  rw [Here.vecCheck, if_neg (by rw [addrOk_one hx]; decide)]
  simp only [Int.toNat_natCast]
  split
  · next w hw => rw [hw] at hb; exact Bool.noConfusion (hb : true = false)
  · rfl

section
variable (hx : x < 0x100000) (hb : (h.t.bankFmt (x / 0x10000)).isBlock = false)
include hx hb

theorem Here.vecCheck_misplaced
    (hbad : x % (h.t.bankFmt (x / 0x10000)).bytes ≠ 0 ∨ 0x100000 < x + 64 * (h.t.bankFmt (x / 0x10000)).bytes) :
    h.vecCheck (x : Int) blk k = .trap cBOUNDS (BitVec.ofInt 64 x) := by
  rw [Here.vecCheck_of_plain blk k hx hb]
  exact if_pos hbad

variable (halign : x % (h.t.bankFmt (x / 0x10000)).bytes = 0) (hend : x + 64 * (h.t.bankFmt (x / 0x10000)).bytes ≤ 0x100000)
include halign hend

/-- The checks of an access that lies in the scratchpad, on an element. -/
theorem Here.vecCheck_placed {last : Nat} (hlast : last = (x + 64 * (h.t.bankFmt (x / 0x10000)).bytes - 1) / 0x10000) :
    h.vecCheck (x : Int) blk k = if last ≠ x / 0x10000 ∧ h.t.fmt last ≠ h.t.fmt (x / 0x10000) then .trap cBANKFMT (bankInfo 0 last 3)
      else h.ownerCheck x (64 * (h.t.bankFmt (x / 0x10000)).bytes) (k (h.t.bankFmt (x / 0x10000)) x) := by
  subst hlast
  exact (Here.vecCheck_of_plain blk k hx hb).trans (if_neg (by simp only [spadSize]; omega))

theorem Here.vecCheck_mixed {last : Nat} (hlast : last = (x + 64 * (h.t.bankFmt (x / 0x10000)).bytes - 1) / 0x10000)
    (hfmt : h.t.fmt last ≠ h.t.fmt (x / 0x10000)) :
    h.vecCheck (x : Int) blk k = .trap cBANKFMT (BitVec.ofNat 64 (last * 2 ^ 16 + 3)) := by
  have other : last ≠ x / 0x10000 := fun e => hfmt (by rw [e])
  rw [Here.vecCheck_placed blk k hx hb halign hend hlast, if_pos ⟨other, hfmt⟩, bankInfo_zero (by omega)]

theorem Here.vecCheck_owner
    (hfmt : h.t.fmt ((x + 64 * (h.t.bankFmt (x / 0x10000)).bytes - 1) / 0x10000) = h.t.fmt (x / 0x10000)) :
    h.vecCheck (x : Int) blk k = h.ownerCheck x (64 * (h.t.bankFmt (x / 0x10000)).bytes) (k (h.t.bankFmt (x / 0x10000)) x) := by
  rw [Here.vecCheck_placed blk k hx hb halign hend rfl, if_neg fun hne => hne.2 hfmt]

end

theorem Here.vecCheck_offBlock {w : Width} (hx : x < 0x100000) (hb : h.t.bankFmt (x / 0x10000) = .block w) (hstart : blockStart w x = false) :
    h.vecCheck (x : Int) blk k = .trap cBOUNDS (BitVec.ofInt 64 x) := by
  rw [Here.vecCheck, if_neg (by rw [addrOk_one hx]; decide)]
  simp only [Int.toNat_natCast, hb, hstart, Bool.false_eq_true, if_false, addrInfo]

end

/-! ### Words of block banks (05 R151) -/

section
variable {h : Here} {x : Nat} {w : Width} (hx : x < 0x100000) (hb : h.t.bankFmt (x / 0x10000) = .block w) (hstart : blockStart w x = true)
include hx hb hstart

theorem Here.vload_noGroup {r : Dst} (hr : r.d.val % 4 ≠ 0) :
    h.vload r (x : Int) = .trap cBANKFMT (BitVec.ofNat 64 (x / 0x10000 * 2 ^ 16 + 1)) := by
  rw [Here.vload, Here.vecCheck_block _ _ hb hx hstart, if_pos hr, bankInfo_zero (by omega)]

theorem Here.vstore_noGroup {d : Sel} (hd : d.isGroup = false) :
    h.vstore d (x : Int) = .trap cBANKFMT (BitVec.ofNat 64 (x / 0x10000 * 2 ^ 16 + 1)) := by
  rw [Here.vstore, Here.vecCheck_block _ _ hb hx hstart, if_pos (by rw [hd]; rfl), bankInfo_zero (by omega)]

theorem Here.vstore_masked {d : Sel} (hd : d.isGroup = true) (hact : h.st.active ≠ allLanes) :
    h.vstore d (x : Int) = .trap cBANKFMT (BitVec.ofNat 64 (x / 0x10000 * 2 ^ 16 + 2)) := by
  rw [Here.vstore, Here.vecCheck_block _ _ hb hx hstart, if_neg (by rw [hd]; decide), if_pos hact, bankInfo_zero (by omega)]

theorem Here.vload_owner {r : Dst} (hr : r.d.val % 4 = 0) : ∃ res, h.vload r (x : Int) = h.ownerCheck x (4 + 32 * widthBits w) res :=
  ⟨_, (Here.vecCheck_block _ _ hb hx hstart).trans (if_neg (not_not.mpr hr))⟩

theorem Here.vstore_owner {d : Sel} (hd : d.isGroup = true) (hact : h.st.active = allLanes) :
    ∃ res, h.vstore d (x : Int) = h.ownerCheck x (4 + 32 * widthBits w) res :=
  ⟨_, (Here.vecCheck_block _ _ hb hx hstart).trans ((if_neg (by rw [hd]; decide)).trans (if_neg (not_not.mpr hact)))⟩

end

end Sys2Proof.Machine

open Sys2Proof Sys2Proof.Machine

/-- Settles O33: loads and stores share their checks (`Here.vecCheck`), whose outcomes are told one by one; those of a block bank have more, in the
order of `Here.vstore_noGroup`, `Here.vstore_masked` and `Here.vstore_owner`. -/
theorem vectorMemoryWords : Obligations.VectorMemoryWords := by
  unfold Obligations.VectorMemoryWords
  constructor
  · intro s h r d base off n hs ok loads stores
    have load {i : Instr} {addr : Here → Int} {a : Nat} (e : exec i = word fun h => h.vload r (addr h)) (ha : addr h = a) : loads i a := by
      refine ⟨fun f hf hb halign hend hfmt hown => ?_, fun w hb hx hstart hr hown => ?_⟩
      · subst hf
        exact exec_word_ok hs e ((congrArg (h.vload r) ha).trans (Here.vecCheck_plain _ _ hb halign hend hfmt hown))
      · exact exec_word_ok hs e ((congrArg (h.vload r) ha).trans ((Here.vecCheck_block _ _ hb hx hstart).trans
          ((if_neg (not_not.mpr hr)).trans (Here.ownerCheck_of_core _ hown))))
    have store {i : Instr} {addr : Here → Int} {a : Nat} (e : exec i = word fun h => h.vstore d (addr h)) (ha : addr h = a) : stores i a := by
      refine ⟨fun f hf hb halign hend hfmt hown => ?_, fun w hb hx hstart hd hact hown => ?_⟩
      · subst hf
        exact exec_word_ok hs e ((congrArg (h.vstore d) ha).trans (Here.vecCheck_plain _ _ hb halign hend hfmt hown))
      · exact exec_word_ok hs e ((congrArg (h.vstore d) ha).trans ((Here.vecCheck_block _ _ hb hx hstart).trans
          ((if_neg (by rw [hd]; decide)).trans ((if_neg (not_not.mpr hact)).trans (Here.ownerCheck_of_core _ hown)))))
    exact ⟨fun a ha => ⟨load rfl ha, store rfl ha⟩, fun a ha => ⟨load rfl ha, store rfl ha⟩⟩
  · intro s h r d base off n ld st a hs words b f last both owner info
    have loaded : exec ld s = .next (h.finish (h.vload r a)) := by
      rcases words with ⟨rfl, -, rfl⟩ | ⟨rfl, -, rfl⟩ <;> exact word_here hs _
    have stored : exec st s = .next (h.finish (h.vstore d a)) := by
      rcases words with ⟨-, rfl, rfl⟩ | ⟨-, rfl, rfl⟩ <;> exact word_here hs _
    have load_traps {code : BitVec 8} {i : W64} (hres : h.vload r a = .trap code i) : exec ld s = h.traps code i := by
      rw [loaded, hres, Here.finish_trap]
    have store_traps {code : BitVec 8} {i : W64} (hres : h.vstore d a = .trap code i) : exec st s = h.traps code i := by
      rw [stored, hres, Here.finish_trap]
    have both_trap {code : BitVec 8} {i : W64} (hc : ∀ blk k, h.vecCheck a blk k = .trap code i) : both code i :=
      ⟨load_traps (hc _ _), store_traps (hc _ _)⟩
    refine ⟨fun hout => both_trap fun blk k => Here.vecCheck_outside blk k hout, fun hlo hhi => ?_⟩
    obtain ⟨x, rfl⟩ := Int.eq_ofNat_of_zero_le hlo
    have hx : x < 0x100000 := by omega
    refine ⟨fun hb => ⟨fun hbad => both_trap fun blk k => Here.vecCheck_misplaced blk k hx hb (by exact_mod_cast hbad), fun halign hend => ?plain⟩,
      fun w hw => ⟨fun hoff => both_trap fun blk k => Here.vecCheck_offBlock blk k hx hw hoff, fun hstart => ?block⟩⟩
    case plain =>
      replace halign : x % f.bytes = 0 := by exact_mod_cast halign
      replace hend : x + 64 * f.bytes ≤ 0x100000 := by exact_mod_cast hend
      refine ⟨fun hfmt => both_trap fun blk k => Here.vecCheck_mixed blk k hx hb halign hend rfl hfmt, fun hfmt u hown => ?_⟩
      obtain ⟨hlow, hhigh, hlent, hfirst⟩ := hown
      exact both_trap fun blk k => (Here.vecCheck_owner blk k hx hb halign hend hfmt).trans (Here.ownerCheck_lent _ hlow hhigh hlent hfirst)
    case block =>
      refine ⟨fun hr => load_traps (Here.vload_noGroup hx hw hstart hr), fun hd => store_traps (Here.vstore_noGroup hx hw hstart hd),
        fun hd hact => store_traps (Here.vstore_masked hx hw hstart hd hact), fun u hown => ?_⟩
      obtain ⟨hlow, hhigh, hlent, hfirst⟩ := hown
      refine ⟨fun hr => load_traps ?_, fun hd hact => store_traps ?_⟩
      · obtain ⟨res, hres⟩ := Here.vload_owner hx hw hstart hr
        exact hres.trans (Here.ownerCheck_lent _ hlow hhigh hlent hfirst)
      · obtain ⟨res, hres⟩ := Here.vstore_owner hx hw hstart hd hact
        exact hres.trans (Here.ownerCheck_lent _ hlow hhigh hlent hfirst)

end

section
/-! SUPPORT. Indexed access (05 R152): the lowest active lane that fails a check; then O34. -/
namespace Sys2Proof.Machine

/-- The address of a lane of an indexed access (05 R152). -/
def Here.laneAddr (h : Here) (a b : Sel) (i : Nat) : Nat := (lane (h.getV h.s.slot a) i).toNat + (lane (h.getV h.s.slot b) i).toNat

section
variable {h : Here} {a b : Sel}

theorem Here.laneAddrs_eq : h.laneAddrs a b = ((List.range 64).filter fun i => h.st.active.getLsbD i).map fun i => (i, h.laneAddr a b i) := rfl

/-- The active lanes are in order: the first of them with a property is the lowest. -/
theorem Here.find?_laneAddrs_eq_some {p : Nat × Nat → Bool} {i : Nat} (hi : i < 64) (hact : h.st.active.getLsbD i = true)
    (hp : p (i, h.laneAddr a b i) = true) (hlow : ∀ j < i, h.st.active.getLsbD j = true → p (j, h.laneAddr a b j) = false) :
    (h.laneAddrs a b).find? p = some (i, h.laneAddr a b i) := by
  have first : (List.range 64).find? (fun j => decide (h.st.active.getLsbD j = true ∧ p (j, h.laneAddr a b j) = true)) = some i := by
    refine List.find?_range_eq_some.mpr ⟨decide_eq_true ⟨hact, hp⟩, List.mem_range.mpr hi, fun j hj => ?_⟩
    rw [Bool.not_eq_true', decide_eq_false_iff_not]
    rintro ⟨hj', hpj⟩
    rw [hlow j hj hj'] at hpj
    cases hpj
  rw [Here.laneAddrs_eq, List.find?_map, List.find?_filter]
  exact congrArg (Option.map fun j => (j, h.laneAddr a b j)) first

theorem Here.find?_laneAddrs_eq_none {p : Nat × Nat → Bool}
    (hp : ∀ j < 64, h.st.active.getLsbD j = true → p (j, h.laneAddr a b j) = false) : (h.laneAddrs a b).find? p = none := by
  refine List.find?_eq_none.mpr fun q hq => ?_
  obtain ⟨hlt, hact, haddr⟩ := Here.mem_laneAddrs hq
  obtain ⟨j, x⟩ := q
  rw [show x = h.laneAddr a b j from haddr, hp j hlt hact]
  exact Bool.false_ne_true

/-- The address that VLDX finds for an active lane. -/
theorem Here.laneAddrs_lookup {i : Nat} (hi : i < 64) (hact : h.st.active.getLsbD i = true) :
    (((h.laneAddrs a b).find? fun p => p.1 == i).map (·.2)).getD 0 = h.laneAddr a b i := by
  rw [Here.find?_laneAddrs_eq_some (p := fun p => p.1 == i) hi hact (beq_self_eq_true i) fun j hj _ => beq_false_of_ne hj.ne]
  rfl

/-! ### The checks in their order (05 R152, R154) -/

/-- A lane outside the scratchpad, or off an element of its bank. -/
def Here.laneOff (h : Here) (p : Nat × Nat) : Bool :=
  decide (spadSize ≤ p.2) || (!(h.t.fmtAt p.2).isBlock && p.2 % (h.t.fmtAt p.2).bytes != 0)

theorem Here.laneOff_iff {i x : Nat} : h.laneOff (i, x) = true ↔
    0x100000 ≤ x ∨ (h.t.fmtAt x).isBlock = false ∧ x % (h.t.fmtAt x).bytes ≠ 0 := by
  simp only [Here.laneOff, Bool.or_eq_true, decide_eq_true_eq, Bool.and_eq_true, Bool.not_eq_true', bne_iff_ne]
  rfl

variable {ls : List (Nat × Nat)} {i x : Nat}

theorem Here.laneFault_off (hp : ls.find? h.laneOff = some (i, x)) :
    h.laneFault ls = some (cBOUNDS, BitVec.ofNat 64 (i * 2 ^ 40 + x)) := by
  unfold Here.laneOff at hp
  simp only [Here.laneFault, hp]

theorem Here.laneFault_block (hoff : ls.find? h.laneOff = none) (hp : ls.find? (fun p => (h.t.fmtAt p.2).isBlock) = some (i, x)) :
    h.laneFault ls = some (cBANKFMT, bankInfo i (x / 0x10000) 4) := by
  unfold Here.laneOff at hoff
  simp only [Here.laneFault, hoff, hp]

theorem Here.laneFault_lent (hoff : ls.find? h.laneOff = none) (hblock : ls.find? (fun p => (h.t.fmtAt p.2).isBlock) = none)
    (hp : ls.find? (fun p => (h.st.notOwned ownCore p.2 (h.t.fmtAt p.2).bytes).isSome) = some (i, x)) {u : Nat}
    (hu : h.st.notOwned ownCore x (h.t.fmtAt x).bytes = some u) :
    h.laneFault ls = some (cOWNER, ownerInfo i (h.st.owner u) u) := by
  unfold Here.laneOff at hoff
  simp only [Here.laneFault, hoff, hblock, hp, hu, Option.getD_some]

theorem bankInfo_lane {i bank : Nat} (hi : i < 64) (hb : bank < 16) (reason : Nat) :
    bankInfo i bank reason = BitVec.ofNat 64 (i * 2 ^ 40 + bank * 2 ^ 16 + reason) := by
  rw [bankInfo, Nat.mod_eq_of_lt hi, Nat.mod_eq_of_lt hb]

theorem ownerInfo_lane {i owner unit : Nat} (hi : i < 64) (ho : owner < 16) (hu : unit < 256) :
    ownerInfo i owner unit = BitVec.ofNat 64 (i * 2 ^ 40 + owner * 2 ^ 8 + unit) := by
  rw [ownerInfo, Nat.mod_eq_of_lt hi, Nat.mod_eq_of_lt ho, Nat.mod_eq_of_lt hu]

/-- An element in place lies in one unit. -/
theorem Here.notOwned_element {x : Nat} (halign : x % (h.t.fmtAt x).bytes = 0) :
    h.st.notOwned ownCore x (h.t.fmtAt x).bytes = if h.st.owner (x / 4096) ≠ 0 then some (x / 4096) else none := by
  obtain ⟨hpos, hdvd⟩ := bankFmtOf_bytes ((h.t.fmt (x / 0x10000)).toNat % 256)
  exact TState.notOwned_aligned h.st ownCore hpos hdvd halign

/-! ### The words -/

/-- An indexed load and an indexed store raise what a lane's check gives. -/
theorem exec_indexed_trap {s : State} (hs : s.here = some h) (r : Dst) (d : Sel) {code : BitVec 8} {info : W64}
    (hf : h.laneFault (h.laneAddrs a b) = some (code, info)) :
    exec (.vldx r a b) s = h.traps code info ∧ exec (.vstx d a b) s = h.traps code info :=
  ⟨exec_word_trap hs rfl (by simp only [hf]), exec_word_trap hs rfl (by simp only [hf])⟩

end

end Sys2Proof.Machine

open Sys2Proof Sys2Proof.Machine

/-- Settles O34: the lanes are searched in order (`Here.find?_laneAddrs_eq_some`), check after check (`Here.laneFault_off`, `Here.laneFault_block`,
`Here.laneFault_lent`). -/
theorem vectorIndexedWords : Obligations.VectorIndexedWords := by
  unfold Obligations.VectorIndexedWords
  constructor
  · intro s h r d a b hs addr f hgood
    have clear : h.laneFault (h.laneAddrs a b) = none := by
      refine Here.laneFault_eq_none fun p hp => ?_
      obtain ⟨hlt, hact, haddr⟩ := Here.mem_laneAddrs hp
      obtain ⟨j, x⟩ := p
      obtain rfl : x = addr j := haddr
      exact hgood j hlt hact
    refine ⟨⟨_, exec_word_ok hs rfl (by simp only [clear]; rfl), fun i hi hact => ?_⟩, exec_word_ok hs rfl ?_⟩
    · simp only [Here.laneAddrs_lookup hi hact]
      rfl
    · simp only [clear]
      rw [Here.laneAddrs_eq, List.map_map]
      rfl
  · intro s h r d a b i hs addr f on far lent first both
    have off_iff (j : Nat) : h.laneOff (j, addr j) = true ↔ far j := Here.laneOff_iff
    have in_place (hfar : ∀ j, on j → ¬far j) : (h.laneAddrs a b).find? h.laneOff = none :=
      Here.find?_laneAddrs_eq_none fun j hj hact => by
        rw [← Bool.not_eq_true]
        exact mt (off_iff j).mp (hfar j ⟨hj, hact⟩)
    refine ⟨fun ⟨⟨hi, hact⟩, hfar, hlow⟩ => ?bounds, fun hfar ⟨⟨hi, hact⟩, hblock, hlow⟩ => ?bankfmt,
      fun hplain ⟨⟨hi, hact⟩, hlent, hlow⟩ => ?owner⟩
    case bounds =>
      have found : (h.laneAddrs a b).find? h.laneOff = some (i, addr i) :=
        Here.find?_laneAddrs_eq_some hi hact ((off_iff i).mpr hfar) fun j hj hj' => by
          rw [← Bool.not_eq_true]
          exact mt (off_iff j).mp (hlow j hj ⟨hj.trans hi, hj'⟩)
      exact exec_indexed_trap hs r d (Here.laneFault_off found)
    case bankfmt =>
      have found : (h.laneAddrs a b).find? (fun p => (h.t.fmtAt p.2).isBlock) = some (i, addr i) :=
        Here.find?_laneAddrs_eq_some hi hact hblock fun j hj hj' => by
          rw [← Bool.not_eq_true]
          exact hlow j hj ⟨hj.trans hi, hj'⟩
      have inside : addr i < 0x100000 := Nat.not_le.mp fun hge => hfar i ⟨hi, hact⟩ (.inl hge)
      have fault := Here.laneFault_block (in_place hfar) found
      rw [bankInfo_lane hi (by omega)] at fault
      exact exec_indexed_trap hs r d fault
    case owner =>
      have no_block : (h.laneAddrs a b).find? (fun p => (h.t.fmtAt p.2).isBlock) = none :=
        Here.find?_laneAddrs_eq_none fun j hj hact => (hplain j ⟨hj, hact⟩).2
      have unit {j : Nat} (hj : on j) : h.st.notOwned ownCore (addr j) (h.t.fmtAt (addr j)).bytes =
          if lent j then some (addr j / 4096) else none := by
        obtain ⟨hfar, hb⟩ := hplain j hj
        exact Here.notOwned_element (not_not.mp fun hne => hfar (.inr ⟨hb, hne⟩))
      have unit_i := (unit ⟨hi, hact⟩).trans (if_pos hlent)
      have found : (h.laneAddrs a b).find? (fun p => (h.st.notOwned ownCore p.2 (h.t.fmtAt p.2).bytes).isSome) = some (i, addr i) :=
        Here.find?_laneAddrs_eq_some hi hact (Option.isSome_of_eq_some unit_i) fun j hj hj' => by
          have own : on j := ⟨hj.trans hi, hj'⟩
          have core := (unit own).trans (if_neg (hlow j hj own))
          exact Option.isSome_eq_false_iff.mpr (Option.isNone_iff_eq_none.mpr core)
      have fault := Here.laneFault_lent (in_place fun j hj => (hplain j hj).1) no_block found unit_i
      rw [ownerInfo_lane hi (h.st.owner_lt _) (TState.lt_of_owner_ne_zero hlent)] at fault
      exact exec_indexed_trap hs r d fault

end

section
/-! SUPPORT. Exact sums, products, minima and maxima of values (02 R47; 05 R134, R135). -/
namespace Sys2Proof.Machine

/-! ### Sums and products -/

/-- The sum of two finite values as an integer on the finer of their grids. -/
def sumScaled (s t : Bool) (m n : Nat) (e f : Int) : Int := scaled s m e (min e f) + scaled t n f (min e f)

section
variable (s t : Bool) (m n : Nat) (e f : Int)

theorem sumScaled_cast : (sumScaled s t m n e f : ℚ) * 2 ^ min e f = (Val.fin s m e).rat + (Val.fin t n f).rat := by
  rw [← scaled_cast s m e _ (min_le_left e f), ← scaled_cast t n f _ (min_le_right e f), sumScaled, Int.cast_add, add_mul]

theorem sumScaled_eq_zero_iff : sumScaled s t m n e f = 0 ↔ (Val.fin s m e).rat + (Val.fin t n f).rat = 0 := by
  have hpow : (2 : ℚ) ^ min e f ≠ 0 := by positivity
  rw [← sumScaled_cast, mul_eq_zero, or_iff_left hpow, Int.cast_eq_zero]

theorem sumScaled_lt_zero_iff : sumScaled s t m n e f < 0 ↔ (Val.fin s m e).rat + (Val.fin t n f).rat < 0 := by
  have hpow : (0 : ℚ) < 2 ^ min e f := by positivity
  rw [← sumScaled_cast, ← Int.cast_lt_zero (R := ℚ), ← mul_lt_mul_iff_left₀ hpow, zero_mul]

theorem Val.add_fin_of_zero (rm : Rnd) (h : sumScaled s t m n e f = 0) :
    Val.add rm (.fin s m e) (.fin t n f) = .fin (if s = t then s else decide (rm = .rd)) 0 0 := by
  unfold sumScaled at h
  simp only [Val.add, h, beq_self_eq_true, if_true, beq_eq_decide, decide_eq_true_eq]

theorem Val.add_fin_of_ne_zero (rm : Rnd) (h : sumScaled s t m n e f ≠ 0) : Val.add rm (.fin s m e) (.fin t n f) =
    .fin (decide (sumScaled s t m n e f < 0)) (sumScaled s t m n e f).natAbs (min e f) := by
  unfold sumScaled at h
  simp only [Val.add, beq_false_of_ne h, Bool.false_eq_true, if_false]
  rfl

theorem Val.rat_add_fin (rm : Rnd) : (Val.add rm (.fin s m e) (.fin t n f)).rat = (Val.fin s m e).rat + (Val.fin t n f).rat := by
  by_cases h : sumScaled s t m n e f = 0
  · rw [Val.add_fin_of_zero s t m n e f rm h, (sumScaled_eq_zero_iff s t m n e f).mp h]
    simp [Val.rat]
  · rw [Val.add_fin_of_ne_zero s t m n e f rm h, rat_signed, sumScaled_cast]

/-- The sign of a sum: that of its value, a zero by the rule of R47. -/
theorem Val.sign_add_fin (rm : Rnd) : ∃ k g, Val.add rm (.fin s m e) (.fin t n f) = .fin (if (Val.fin s m e).rat + (Val.fin t n f).rat = 0 then
    (if s = t then s else decide (rm = .rd)) else decide ((Val.fin s m e).rat + (Val.fin t n f).rat < 0)) k g := by
  by_cases h : sumScaled s t m n e f = 0
  · rw [if_pos ((sumScaled_eq_zero_iff s t m n e f).mp h)]
    exact ⟨0, 0, Val.add_fin_of_zero s t m n e f rm h⟩
  · rw [if_neg (mt (sumScaled_eq_zero_iff s t m n e f).mpr h)]
    simp only [← sumScaled_lt_zero_iff]
    exact ⟨_, _, Val.add_fin_of_ne_zero s t m n e f rm h⟩

/-! ### Minima and maxima -/

theorem minVal_fin : minVal (.fin s m e) (.fin t n f) = if (Val.fin s m e).eq (.fin t n f) then (if s then .fin s m e else .fin t n f)
    else if (Val.fin s m e).lt (.fin t n f) then .fin s m e else .fin t n f := rfl

theorem maxVal_fin : maxVal (.fin s m e) (.fin t n f) = if (Val.fin s m e).eq (.fin t n f) then (if s then .fin t n f else .fin s m e)
    else if (Val.fin s m e).lt (.fin t n f) then .fin t n f else .fin s m e := rfl

/-- Of two finite values in order, the lower is the minimum and the other the maximum. -/
theorem minVal_maxVal_of_lt (h : (Val.fin s m e).rat < (Val.fin t n f).rat) :
    minVal (.fin s m e) (.fin t n f) = .fin s m e ∧ minVal (.fin t n f) (.fin s m e) = .fin s m e ∧
    maxVal (.fin s m e) (.fin t n f) = .fin t n f ∧ maxVal (.fin t n f) (.fin s m e) = .fin t n f := by
  have lt := (Val.lt_fin s t m n e f).mpr h
  have notLt := mt (Val.lt_fin t s n m f e).mp h.not_gt
  have ne := mt (Val.eq_fin s t m n e f).mp h.ne
  have ne' := mt (Val.eq_fin t s n m f e).mp h.ne'
  simp only [minVal_fin, maxVal_fin, lt, notLt, ne, ne', if_true, Bool.false_eq_true, if_false, and_self]

theorem eq_fin_zeros : (Val.fin s 0 e).eq (.fin t 0 f) = true := (Val.eq_fin s t 0 0 e f).mpr (by simp [Val.rat])

end

end Sys2Proof.Machine
end

section
/-! SUPPORT. A value rounded to a grid, and its encoding (02 R48 to R51, R53). -/
namespace Sys2Proof.Machine

/-! ### Rounding to a multiple of a power of two (02 R49, R51) -/

/-- A magnitude on its grid is a whole number and kept; off it, it stands between two and one of them is taken. -/
theorem roundQuantum_cases (rm : Rnd) (neg : Bool) (m : Nat) (e q : Int) (rb : Nat) :
    (∃ n : Nat, (m : ℚ) * 2 ^ (e - q) = n ∧ roundQuantum rm neg m e q rb = n) ∨
    ∃ k, m % 2 ^ k ≠ 0 ∧ (m : ℚ) * 2 ^ (e - q) = m / 2 ^ k ∧
      roundQuantum rm neg m e q rb = m / 2 ^ k + (roundsUp rm neg m k rb).toNat := by
  by_cases hq : q ≤ e
  · obtain ⟨d, hd⟩ := Int.eq_ofNat_of_zero_le (sub_nonneg.mpr hq)
    left
    refine ⟨m * 2 ^ d, ?_, ?_⟩
    · rw [hd, zpow_natCast]; push_cast; rfl
    · rw [roundQuantum, if_pos hq, hd, Int.toNat_natCast]
  · obtain ⟨k, hk⟩ := Int.eq_ofNat_of_zero_le (sub_nonneg.mpr (Int.not_le.mp hq).le)
    have value : (m : ℚ) * 2 ^ (e - q) = m / 2 ^ k := by
      rw [← neg_sub q e, hk, zpow_neg, zpow_natCast, div_eq_mul_inv]
    have shift : (q - e).toNat = k := by omega
    rw [roundQuantum, if_neg hq, value]
    simp only [shift, beq_iff_eq]
    by_cases hrem : m % 2 ^ k = 0
    · left
      refine ⟨m / 2 ^ k, ?_, if_pos hrem⟩
      rw [Nat.cast_div (Nat.dvd_of_mod_eq_zero hrem) (by positivity), Nat.cast_pow, Nat.cast_ofNat]
    · exact .inr ⟨k, hrem, rfl, if_neg hrem⟩

section
variable {m k : Nat}

theorem floor_div_two_pow (m k : Nat) : ⌊(m : ℚ) / 2 ^ k⌋ = (m / 2 ^ k : Nat) := by
  have := Rat.floor_natCast_div_natCast m (2 ^ k)
  rwa [Nat.cast_pow, Nat.cast_ofNat] at this

theorem fract_div_two_pow (m k : Nat) : Int.fract ((m : ℚ) / 2 ^ k) = (m % 2 ^ k : Nat) / 2 ^ k := by
  have div : (2 : ℚ) ^ k * (m / 2 ^ k : Nat) + (m % 2 ^ k : Nat) = m := by exact_mod_cast Nat.div_add_mod m (2 ^ k)
  have hpow : (2 : ℚ) ^ k ≠ 0 := by positivity
  rw [Int.fract, floor_div_two_pow, Int.cast_natCast, eq_div_iff hpow, sub_mul, div_mul_cancel₀ _ hpow]
  linarith

theorem ceil_div_two_pow (hrem : m % 2 ^ k ≠ 0) : ⌈(m : ℚ) / 2 ^ k⌉ = (m / 2 ^ k : Nat) + 1 := by
  have hpos : (0 : ℚ) < (m % 2 ^ k : Nat) / 2 ^ k := by
    have : (0 : ℚ) < (m % 2 ^ k : Nat) := Nat.cast_pos.mpr (Nat.pos_of_ne_zero hrem)
    positivity
  rw [← fract_div_two_pow] at hpos
  rw [← floor_div_two_pow, Int.ceil_eq_floor_add_one_iff_notMem]
  exact fun hint => hpos.ne' (Int.fract_eq_zero_iff.mpr hint)

end

/-- How a number between two whole numbers is rounded under each mode (02 R49, R51). -/
def RoundsTo (rm : Rnd) (neg : Bool) (rb : Nat) (x : ℚ) (n : Nat) : Prop :=
  ((n : ℚ) = ⌊x⌋ ∨ (n : ℚ) = ⌈x⌉) ∧
  (rm = .rne → |x - n| ≤ 1 / 2 ∧ (|x - n| = 1 / 2 → n % 2 = 0)) ∧ (rm = .rz → (n : ℚ) = ⌊x⌋) ∧
  (rm = .ru → (n : ℚ) = if neg then ⌊x⌋ else ⌈x⌉) ∧ (rm = .rd → (n : ℚ) = if neg then ⌈x⌉ else ⌊x⌋) ∧
  (rm = .sr → (n : ℚ) = if 2 ^ 24 ≤ ⌊Int.fract x * 2 ^ 24⌋ + (rb : Int) then ⌊x⌋ + 1 else ⌊x⌋)

section
variable {rm : Rnd} {neg : Bool} {rb : Nat}

theorem roundsTo_whole (hrb : rb < 2 ^ 24) (n : Nat) : RoundsTo rm neg rb n n := by
  have no_carry : ¬2 ^ 24 ≤ ⌊Int.fract (n : ℚ) * 2 ^ 24⌋ + (rb : Int) := by
    rw [Int.fract_natCast, zero_mul, Int.floor_zero]; omega
  rw [RoundsTo, if_neg no_carry, Int.floor_natCast, Int.ceil_natCast, ite_self]
  have cast : (n : ℚ) = ((n : Int) : ℚ) := (Int.cast_natCast n).symm
  refine ⟨.inl cast, fun _ => ?_, fun _ => cast, fun _ => cast, fun _ => cast, fun _ => cast⟩
  rw [sub_self, abs_zero]
  exact ⟨by norm_num, fun h => by norm_num at h⟩

theorem roundsTo_between {m k : Nat} (hrem : m % 2 ^ k ≠ 0) :
    RoundsTo rm neg rb (m / 2 ^ k) (m / 2 ^ k + (roundsUp rm neg m k rb).toNat) := by
  have carry : ⌊Int.fract ((m : ℚ) / 2 ^ k) * 2 ^ 24⌋ = (m % 2 ^ k * 2 ^ 24 / 2 ^ k : Nat) := by
    rw [fract_div_two_pow, div_mul_eq_mul_div, ← floor_div_two_pow]
    push_cast
    rfl
  rw [RoundsTo, carry, ceil_div_two_pow hrem, floor_div_two_pow]
  refine ⟨?either, fun h => ?rne, fun h => ?rz, fun h => ?ru, fun h => ?rd, fun h => ?sr⟩
  case either => cases roundsUp rm neg m k rb <;> simp [-Int.natCast_ediv]
  case rne => subst h; exact rneUp_near m k
  case rz => subst h; simp [-Int.natCast_ediv, roundsUp]
  case ru => subst h; cases neg <;> simp [-Int.natCast_ediv, roundsUp]
  case rd => subst h; cases neg <;> simp [-Int.natCast_ediv, roundsUp]
  case sr =>
    subst h
    have up : (2 ^ 24 ≤ ((m % 2 ^ k * 2 ^ 24 / 2 ^ k : Nat) : Int) + (rb : Int)) ↔ roundsUp .sr neg m k rb = true := by
      rw [roundsUp, decide_eq_true_iff]; omega
    simp only [up]
    cases roundsUp .sr neg m k rb <;> simp [-Int.natCast_ediv]

/-- A rounding is to one of the two neighbours, as the mode says. -/
theorem roundQuantum_roundsTo (hrb : rb < 2 ^ 24) (m : Nat) (e q : Int) :
    RoundsTo rm neg rb ((m : ℚ) * 2 ^ (e - q)) (roundQuantum rm neg m e q rb) := by
  rcases roundQuantum_cases rm neg m e q rb with ⟨n, hx, hn⟩ | ⟨k, hrem, hx, hn⟩
  · rw [hx, hn]; exact roundsTo_whole hrb n
  · rw [hx, hn]; exact roundsTo_between hrem

end

/-! ### Encodings (02 R50, R53) -/

/-- The last encoding of a binade is below the first of the next. -/
theorem gridVal_binade_lt (t : FpFmt) (a : Nat) : t.gridVal (2 ^ t.f * (a + 1) + (2 ^ t.f - 1)) < t.gridVal (2 ^ t.f * (a + 1) + (2 ^ t.f - 1) + 1) := by
  have hpos := Nat.two_pow_pos t.f
  have next : 2 ^ t.f * (a + 1) + (2 ^ t.f - 1) + 1 = 2 ^ t.f * (a + 1 + 1) + 0 := by rw [Nat.mul_succ _ (a + 1)]; omega
  have step : (0 : ℚ) < 2 ^ (t.qmin + (a : Int)) := by positivity
  have full : ((2 ^ t.f + (2 ^ t.f - 1) : Nat) : ℚ) < (2 ^ t.f + 0 : Nat) * 2 := by
    exact_mod_cast (by omega : 2 ^ t.f + (2 ^ t.f - 1) < (2 ^ t.f + 0) * 2)
  rw [next, gridVal_mul_add t a (by omega), gridVal_mul_add t (a + 1) hpos, Nat.cast_succ, ← add_assoc, zpow_add_one₀ two_ne_zero,
    mul_comm (2 ^ _ : ℚ) 2, ← mul_assoc]
  exact mul_lt_mul_of_pos_right full step

section
variable {t : FpFmt} (ht : t = fp32 ∨ t = bf16 ∨ t = fp16)
include ht

theorem sound_of_ieee3 : t.Sound := by
  rcases ht with rfl | rfl | rfl <;> exact ⟨by decide, by decide, by decide⟩

/-- The encoding past the largest finite one is beyond it on the unbounded grid. -/
theorem gridVal_maxEnc_lt {w : Nat} (hw : t.maxEnc < w) : t.gridVal t.maxEnc < t.gridVal w := by
  obtain ⟨a, ha⟩ : ∃ a, t.maxEnc = 2 ^ t.f * (a + 1) + (2 ^ t.f - 1) := by
    rcases ht with rfl | rfl | rfl
    · exact ⟨253, by decide⟩
    · exact ⟨253, by decide⟩
    · exact ⟨29, by decide⟩
  refine lt_of_lt_of_le ?_ (gridVal_mono t hw)
  rw [ha]
  exact gridVal_binade_lt t a

theorem rat_fpDecode_magnitude {w : Nat} (hw : w ≤ t.maxEnc) : (fpDecode t w).rat = t.gridVal w := by
  simpa [FpFmt.signBit] using rat_fpDecode (sound_of_ieee3 ht) false hw

/-- A grid value is within the finite range where its encoding is. -/
theorem gridVal_le_max_iff (w : Nat) : t.gridVal w ≤ (fpDecode t t.maxEnc).rat ↔ w ≤ t.maxEnc := by
  rw [rat_fpDecode_magnitude ht le_rfl]
  exact ⟨fun h => Nat.not_lt.mp fun hw => h.not_gt (gridVal_maxEnc_lt ht hw), fun h => gridVal_mono t h⟩

theorem flushMag_of_ieee3 (ftz : Bool) (w : Nat) : t.flushMag ftz w = if ftz = true ∧ w < 2 ^ t.f then 0 else w := by
  have flushed : t.ieee3 = true := by rcases ht with rfl | rfl | rfl <;> rfl
  simp only [FpFmt.flushMag, flushed, Bool.and_true, Bool.and_eq_true, decide_eq_true_eq]

/-- What a magnitude beyond the range becomes (02 R50). -/
theorem overflow_of_ieee3 (rm : Rnd) (neg : Bool) : t.overflow rm neg = match rm with
    | .rne | .sr => t.infEnc
    | .rz => t.maxEnc
    | .ru => if neg then t.maxEnc else t.infEnc
    | .rd => if neg then t.infEnc else t.maxEnc := by
  have listed : (t == fp32 || t == bf16 || t == fp16) = true := by rcases ht with rfl | rfl | rfl <;> decide
  exact if_pos listed

/-- What R50 gives beyond the range is no subnormal. -/
theorem flushMag_overflow (ftz : Bool) (rm : Rnd) (neg : Bool) : t.flushMag ftz (t.overflow rm neg) = t.overflow rm neg := by
  have normal : ¬t.overflow rm neg < 2 ^ t.f := by
    rcases ht with rfl | rfl | rfl <;> cases rm <;> cases neg <;> decide
  rw [flushMag_of_ieee3 ht, if_neg fun h => normal h.2]

section
variable (rm : Rnd) (ftz neg : Bool) {m : Nat} (hm : 0 < m) (e : Int) (rb : Nat)
include hm

/-- A magnitude rounded into the range: its encoding has the rounded value, and is flushed where it is a subnormal. -/
theorem fpEncode_within (hle : (roundQuantum rm neg m e (t.quantum m e) rb : ℚ) * 2 ^ t.quantum m e ≤ (fpDecode t t.maxEnc).rat) :
    let mag := fpEncode t rm false rb (.fin neg m e) - t.signBit neg
    mag ≤ t.maxEnc ∧ (fpDecode t mag).rat = (roundQuantum rm neg m e (t.quantum m e) rb : ℚ) * 2 ^ t.quantum m e ∧
      fpEncode t rm ftz rb (.fin neg m e) = t.signBit neg + (if ftz = true ∧ mag < 2 ^ t.f then 0 else mag) := by
  obtain ⟨hq, hn, hfull⟩ := roundQuantum_quantum t rm neg hm.ne' e rb
  have value := gridVal_encMag hq hn hfull
  rw [← value, gridVal_le_max_iff ht] at hle
  rw [fpEncode_of_ne_zero t rm false rb neg hm.ne', fpEncode_of_ne_zero t rm ftz rb neg hm.ne', if_neg (Nat.not_lt.mpr hle), flushMag_false,
    Nat.add_sub_cancel_left, ← value]
  exact ⟨hle, rat_fpDecode_magnitude ht hle, by rw [flushMag_of_ieee3 ht]⟩

theorem fpEncode_beyond (hlt : (fpDecode t t.maxEnc).rat < (roundQuantum rm neg m e (t.quantum m e) rb : ℚ) * 2 ^ t.quantum m e) :
    fpEncode t rm ftz rb (.fin neg m e) = t.signBit neg + t.overflow rm neg := by
  obtain ⟨hq, hn, hfull⟩ := roundQuantum_quantum t rm neg hm.ne' e rb
  rw [← gridVal_encMag hq hn hfull, ← not_le, gridVal_le_max_iff ht, not_le] at hlt
  rw [fpEncode_of_ne_zero t rm ftz rb neg hm.ne', if_pos hlt, flushMag_overflow ht]

end

end

end Sys2Proof.Machine
end

section
/-! SUPPORT. The special functions on finite values (05 R140 to R145); then O30. -/
namespace Sys2Proof.Machine

/-! ### Bounds as the model compares them -/

section
variable (s : Bool) (m : Nat) (e : Int)

theorem abs_rat_fin : |(Val.fin s m e).rat| = (Val.fin false m e).rat := by
  rw [abs_rat]
  simp [Val.mag, magRat, Val.rat]

theorem rat_false : (Val.fin false m e).rat = (m : ℚ) * 2 ^ e := by simp [Val.rat]

theorem rat_true : (Val.fin true m e).rat = -((m : ℚ) * 2 ^ e) := by simp [Val.rat]

/-- A finite value below another, the other's value known. -/
theorem lt_fin_iff {t : Bool} {n : Nat} {f : Int} {x : ℚ} (hx : (Val.fin t n f).rat = x) :
    (Val.fin s m e).lt (.fin t n f) = true ↔ (Val.fin s m e).rat < x := by rw [Val.lt_fin, hx]

theorem eq_true_of_rat_neg {s : Bool} {m : Nat} {e : Int} (h : (Val.fin s m e).rat < 0) : s = true ∧ m ≠ 0 := by
  have := mt (Val.rat_nonneg_iff s m e).mpr (not_le.mpr h)
  simpa using this

theorem eq_false_of_rat_pos {s : Bool} {m : Nat} {e : Int} (h : 0 < (Val.fin s m e).rat) : s = false := by
  cases s with
  | false => rfl
  | true =>
    have : (0 : ℚ) ≤ m * 2 ^ e := by positivity
    rw [rat_true] at h
    linarith

/-! ### VEXP2 (05 R141) -/

theorem rat_128 : (Val.fin false 128 0).rat = 128 := by norm_num [Val.rat]
theorem rat_neg_160 : (Val.fin true 160 0).rat = -160 := by norm_num [Val.rat]

/-- Where VEXP2 overflows. -/
theorem vexp2_high_iff : (!s && (Val.lt (.fin false m e) (.fin false 128 0) == false)) = true ↔ 128 ≤ (Val.fin s m e).rat := by
  have notBelow : (Val.fin false m e).lt (.fin false 128 0) = false ↔ 128 ≤ (Val.fin false m e).rat := by
    rw [← Bool.not_eq_true, lt_fin_iff _ _ _ rat_128, not_lt]
  rw [Bool.and_eq_true, Bool.not_eq_true', beq_iff_eq, notBelow]
  constructor
  · rintro ⟨rfl, h⟩; exact h
  · intro h
    obtain rfl := eq_false_of_rat_pos (by linarith : 0 < (Val.fin s m e).rat)
    exact ⟨rfl, h⟩

theorem vexp2_of_high (h : 128 ≤ (Val.fin s m e).rat) : vexp2 (.fin s m e) = .inf false := by
  simp only [vexp2, (vexp2_high_iff s m e).mpr h, if_true]

theorem vexp2_of_low (h : (Val.fin s m e).rat < -160) : vexp2 (.fin s m e) = .fin false 0 0 := by
  have notHigh := mt (vexp2_high_iff s m e).mp (by linarith)
  simp only [vexp2, if_neg notHigh, (lt_fin_iff s m e rat_neg_160).mpr h, if_true]

theorem vexp2_of_mid (hlow : -160 ≤ (Val.fin s m e).rat) (hhigh : (Val.fin s m e).rat < 128) :
    let x := ⌊(Val.fin s m e).rat * 2 ^ 22⌋
    let f := (x % 2 ^ 22).toNat
    let r := f % 2 ^ 14
    let p := 2 ^ 30 + 744261118 * r / 2 ^ 22 + 257941248 * r * r / 2 ^ 44
    vexp2 (.fin s m e) = .fin false (tableT.getD (f / 2 ^ 14) 0 * p / 2 ^ 30) (x / 2 ^ 22 - 30) := by
  have notHigh := mt (vexp2_high_iff s m e).mp (not_le.mpr hhigh)
  have notLow := mt (lt_fin_iff s m e rat_neg_160).mp (not_lt.mpr hlow)
  have floor : floorScaled s m e 22 = ⌊(Val.fin s m e).rat * 2 ^ 22⌋ := floorScaled_eq s m e 22
  simp only [vexp2, if_neg notHigh, if_neg notLow, floor]

/-! ### VTANH (05 R145) -/

theorem rat_small : (Val.fin false 1 (-12)).rat = 1 / 2 ^ 12 := by norm_num [Val.rat]
theorem rat_16 : (Val.fin false 16 0).rat = 16 := by norm_num [Val.rat]

theorem vtanh_of_small (h : |(Val.fin s m e).rat| < 1 / 2 ^ 12) : vtanh (.fin s m e) = .fin s m e := by
  rw [abs_rat_fin] at h
  simp only [vtanh, (lt_fin_iff false m e rat_small).mpr h, if_true]

theorem vtanh_of_large (h : 16 ≤ |(Val.fin s m e).rat|) : vtanh (.fin s m e) = .fin s 1 0 := by
  rw [abs_rat_fin] at h
  have notSmall := mt (lt_fin_iff false m e rat_small).mp (by rw [not_lt]; linarith)
  have notBelow := mt (lt_fin_iff false m e rat_16).mp (not_lt.mpr h)
  simp only [vtanh, if_neg notSmall, eq_false_of_ne_true notBelow, Bool.not_false, if_true]

theorem vtanh_of_mid (hlow : 1 / 2 ^ 12 ≤ (m : ℚ) * 2 ^ e) (hhigh : (m : ℚ) * 2 ^ e < 16) :
    let one := Val.fin false 1 0
    let x := rnd32 (vexp2 (rnd32 (Val.mul (.fin false m e) (fpDecode fp32 0xc038aa3b))))
    let y := rnd32 (Val.mul (rnd32 (Val.add .rne one x.neg)) (rnd32 (vrcp (rnd32 (Val.add .rne one x)))))
    vtanh (.fin s m e) = if s then y.neg else y := by
  rw [← rat_false] at hlow hhigh
  have notSmall := mt (lt_fin_iff false m e rat_small).mp (not_lt.mpr hlow)
  have below := (lt_fin_iff false m e rat_16).mpr hhigh
  simp only [vtanh, if_neg notSmall, below, Bool.not_true, Bool.false_eq_true, if_false]

end

/-! ### The mantissa of 24 bits (05 R140) -/

section
variable {m M : Nat} {e k : Int} (hlow : 2 ^ 23 ≤ M) (hhigh : M < 2 ^ 24) (hval : (M : ℚ) * 2 ^ (k - 23) = (m : ℚ) * 2 ^ e)
include hlow hval

theorem ne_zero_of_mantissa : m ≠ 0 := by
  rintro rfl
  have hM : (0 : ℚ) < M := Nat.cast_pos.mpr (by omega)
  have : (0 : ℚ) < M * 2 ^ (k - 23) := by positivity
  rw [hval, Nat.cast_zero, zero_mul] at this
  exact lt_irrefl _ this

include hhigh

/-- The exponent of a mantissa of 24 bits is that of its value. -/
theorem exponent_of_mantissa : e + (ilog2 m : Int) = k := by
  have pow : (0 : ℚ) < 2 ^ (k - 23) := by positivity
  have low : ((2 : ℚ) ^ 23) ≤ M := by exact_mod_cast hlow
  have high : (M : ℚ) < 2 ^ 24 := by exact_mod_cast hhigh
  have start : (2 : ℚ) ^ k = 2 ^ 23 * 2 ^ (k - 23) := by rw [← zpow_natCast, ← zpow_add₀ two_ne_zero]; congr 1; push_cast; ring
  have stop : (2 : ℚ) ^ (k + 1) = 2 ^ 24 * 2 ^ (k - 23) := by rw [← zpow_natCast, ← zpow_add₀ two_ne_zero]; congr 1; push_cast; ring
  rw [add_comm]
  refine floorLog2_eq ?_ ?_
  · rw [magRat, ← hval, start]; exact mul_le_mul_of_nonneg_right low pow.le
  · rw [magRat, ← hval, stop]; exact mul_lt_mul_of_pos_right high pow

/-- `normM` finds the mantissa of 24 bits and its exponent. -/
theorem normM_eq : normM m e = (M, k) := by
  have exp := exponent_of_mantissa hlow hhigh hval
  have pow : (2 : ℚ) ^ (k - 23) ≠ 0 := by positivity
  have mant : (if ilog2 m ≤ 23 then m * 2 ^ (23 - ilog2 m) else m / 2 ^ (ilog2 m - 23)) = M := by
    split
    · next hl =>
      have split : (2 : ℚ) ^ e = 2 ^ (23 - ilog2 m) * 2 ^ (k - 23) := by
        rw [← zpow_natCast, ← zpow_add₀ two_ne_zero]; congr 1; omega
      rw [split, ← mul_assoc] at hval
      exact_mod_cast (mul_right_cancel₀ pow hval).symm
    · next hl =>
      have split : (2 : ℚ) ^ (k - 23) = 2 ^ (ilog2 m - 23) * 2 ^ e := by
        rw [← zpow_natCast, ← zpow_add₀ two_ne_zero]; congr 1; omega
      have pow' : (2 : ℚ) ^ e ≠ 0 := by positivity
      rw [split, ← mul_assoc] at hval
      have whole : M * 2 ^ (ilog2 m - 23) = m := by exact_mod_cast mul_right_cancel₀ pow' hval
      exact Nat.div_eq_of_eq_mul_left (Nat.two_pow_pos _) whole.symm
  simp only [normM, mant, exp]

end

/-- The table G is rounded to nearest, halves upward (05 R140). -/
theorem tableG_rounds (j : Nat) : (tableG j : ℚ) = ⌊(2 : ℚ) ^ 38 / (256 + (j : ℚ)) + 1 / 2⌋ := by
  have hj : (256 + (j : ℚ)) ≠ 0 := by positivity
  have sum : (2 : ℚ) ^ 38 / (256 + (j : ℚ)) + 1 / 2 = ((2 ^ 39 + (256 + j) : Nat) : ℚ) / ((2 * (256 + j) : Nat) : ℚ) := by
    push_cast
    field_simp
    ring
  rw [sum, Rat.floor_natCast_div_natCast, tableG]
  norm_cast

/-! ### VLOG2, VRCP, VRSQ by their tables (05 R142 to R144) -/

section
variable {m M : Nat} {e k : Int} (hm : m ≠ 0) (hn : normM m e = (M, k))
include hm hn

theorem vlog2_of_mantissa :
    let j := M / 2 ^ 15 - 256
    let u := M % 2 ^ 15 * tableG j / 2 ^ 23
    vlog2 (.fin false m e) = dyadic (k * 2 ^ 30 + tableL.getD j 0 +
      ((1549082005 * u / 2 ^ 30 : Nat) - (774541002 * (u * u / 2 ^ 30) / 2 ^ 30 : Nat) : Int)) (-30) := by
  simp only [vlog2, hm, if_false, Bool.false_eq_true, hn]

theorem vrcp_of_mantissa (s : Bool) :
    let j := M / 2 ^ 15 - 256
    let u := M % 2 ^ 15 * tableG j / 2 ^ 23
    vrcp (.fin s m e) = .fin s (tableG j * (2 ^ 30 - u + u * u / 2 ^ 30) / 2 ^ 30) (-k - 30) := by
  simp only [vrcp, hm, if_false, hn]

theorem vrsq_of_mantissa :
    let i := M / 2 ^ 16 - 128
    let w := M % 2 ^ 16 * tableG (2 * i) / 2 ^ 23
    let hh := (k % 2).toNat
    vrsq (.fin false m e) =
      .fin false (tableH.getD (128 * hh + i) 0 * (2 ^ 30 - w / 2 + 3 * (w * w / 2 ^ 30) / 8) / 2 ^ 30) (-((k - hh) / 2) - 30) := by
  simp only [vrsq, hm, if_false, Bool.false_eq_true, hn]

end

end Sys2Proof.Machine

open Sys2Proof Sys2Proof.Machine

/-- Settles O30: the words are their results in flight (`exec_word_ok`); sums are integers on the finer grid (`sumScaled_cast`); a rounding is
`roundQuantum_roundsTo`, its encoding `fpEncode_within` or `fpEncode_beyond`; the special functions take their steps from the mantissa that
`normM_eq` finds. -/
theorem vectorFloatWords : Obligations.VectorFloatWords := by
  unfold Obligations.VectorFloatWords
  refine ⟨fun s h r a b rm fr tf hs => ?words, ⟨fun rm s t m n e f => ?arith, fun rm v => ?nan, fun s t m n e f => ?order,
    fun t rm ftz neg rb m e ht hm hrb => ?round, fun t rm ftz neg rb e => ?corner, fp32_nanEnc⟩,
    ⟨⟨rfl, rfl, rfl, rfl, rfl⟩, ⟨rfl, rfl, rfl, rfl, rfl, rfl, fun s => ⟨rfl, rfl⟩⟩, fun s e => ?zeros, fun s m e => ?ranges,
      fun s m M e k hlow hhigh hval => ?tables⟩,
    tableT_rounds, tableL_rounds, fun h hh k hk => tableH_rounds h k hh hk⟩
  case words =>
    exact ⟨exec_word_ok hs rfl rfl, exec_word_ok hs rfl rfl, exec_word_ok hs rfl rfl, exec_word_ok hs rfl rfl, exec_word_ok hs rfl rfl,
      exec_word_ok hs rfl rfl, exec_word_ok hs rfl rfl, exec_word_ok hs rfl rfl, exec_word_ok hs rfl rfl, exec_word_ok hs rfl rfl,
      exec_word_ok hs rfl rfl, exec_word_ok hs rfl rfl, exec_word_ok hs rfl rfl, exec_word_ok hs rfl rfl⟩
  case arith =>
    refine ⟨Val.rat_add_fin s t m n e f rm, Val.sign_add_fin s t m n e f rm, rfl, rfl, rfl, ?_, rfl, ?_, ?_⟩
    · simp only [Val.add, beq_iff_eq]
    · simp only [Val.mul, beq_iff_eq]
    · simp only [Val.mul, beq_iff_eq]
  case nan => cases v <;> exact ⟨rfl, rfl, rfl, rfl, rfl, rfl, rfl, rfl⟩
  case order =>
    refine ⟨minVal_maxVal_of_lt s t m n e f, ?_, ?_⟩
    · rw [minVal_fin, if_pos (eq_fin_zeros s t e f)]
    · rw [maxVal_fin, if_pos (eq_fin_zeros s t e f)]
  case round =>
    intro q x n mag
    obtain ⟨either, rne, rz, ru, rd, sr⟩ := roundQuantum_roundsTo (rm := rm) (neg := neg) hrb m e q
    refine ⟨rfl, either, rne, rz, ru, rd, sr, fpEncode_within ht rm ftz neg hm e rb, fun hlt => ?_⟩
    exact (fpEncode_beyond ht rm ftz neg hm e rb hlt).trans (congrArg (t.signBit neg + ·) (overflow_of_ieee3 ht rm neg))
  case corner => exact ⟨rfl, rfl, by cases neg <;> rfl⟩
  case zeros =>
    have small : |(Val.fin s 0 e).rat| < 1 / 2 ^ 12 := by norm_num [Val.rat]
    exact ⟨rfl, rfl, rfl, vtanh_of_small s 0 e small⟩
  case ranges =>
    refine ⟨vexp2_of_high s m e, vexp2_of_low s m e, vexp2_of_mid s m e, fun hneg => ?_, vtanh_of_small s m e, vtanh_of_large s m e⟩
    obtain ⟨rfl, hm⟩ := eq_true_of_rat_neg hneg
    simp only [vlog2, vrsq, hm, if_false, if_true, and_self]
  case tables =>
    have hm := ne_zero_of_mantissa hlow hval
    have hn := normM_eq hlow hhigh hval
    exact ⟨tableG_rounds _, ⟨_, rfl, vlog2_of_mantissa hm hn⟩, vrcp_of_mantissa hm hn s, vrsq_of_mantissa hm hn, vtanh_of_mid s m e⟩

end

section
/-! SUPPORT. FLY and ACOPY past their checks (07 R178, R183 to R188); then O40. -/
namespace Sys2Proof.Machine

section
variable {h : Here} {kg : Fin 8} {wr : Bool} {e : SegEntry}

/-! ### FLY (07 R183 to R185) -/

section
variable {two : Bool} {n : Nat}

/-- The BOUNDS checks of a FLY word but the calendar's, in R178's order. -/
def Here.flyChecks (h : Here) (kg : Fin 8) (two wr : Bool) : List Check :=
  let m := h.flyMove kg two wr
  h.moveChecks m true [(decide (65536 < m.rows * m.len), boundsInfo 6 1 (m.len / 64 - 1))]

/-- The occurrence of the calendar that a FLY word finds, its transfer in segment `e`: none in local state (07 R184, 09 R238). -/
def Here.flyFound (h : Here) (kg : Fin 8) (two wr : Bool) (e : SegEntry) : Option Nat :=
  let m := h.flyMove kg two wr
  if h.st.localSince.isSome then none else h.flyEntry wr (siteOf (m.target e)) (m.rows * m.len)

theorem Here.flyFound_of_local (hl : h.st.localSince ≠ none) : h.flyFound kg two wr e = none :=
  if_pos (Option.isSome_iff_ne_none.mpr hl)

theorem Here.flyFound_of_not_local (hl : h.st.localSince = none) : h.flyFound kg two wr e =
    h.flyEntry wr (siteOf ((h.flyMove kg two wr).target e)) ((h.flyMove kg two wr).rows * (h.flyMove kg two wr).len) :=
  if_neg (by rw [hl]; decide)

/-- The tile with a FLY word outstanding that has taken occurrence `n`. -/
def Here.flyOut (h : Here) (kg : Fin 8) (two wr : Bool) (e : SegEntry) (n : Nat) : TState :=
  let m := h.flyMove kg two wr
  { h.st with
    flyTaken := (n, h.cue) :: h.st.flyTaken.filter fun p => p.2 == h.cue
    fly := h.st.fly ++ [⟨wr, h.cue, siteOf (m.target e), flyWindow h.t.site (siteOf (m.target e)), m.xrows e, [], false, false, h.s.slot⟩] }

variable (hcs : ∀ c ∈ h.flyChecks kg two wr, c.1 = false) (he : h.segOf (h.flyMove kg two wr).seg = some e)
include hcs he

theorem Here.fly_of_not_found (hnone : h.flyFound kg two wr e = none) :
    h.fly kg two wr = .trap cBOUNDS (boundsInfo 7 0 (h.stage kg 0).toNat) := by
  refine (bounds_of_pass _ hcs).trans ?_
  simp only [Here.flyFound] at hnone
  simp only [he, hnone]

/-- With its occurrence found, a FLY word is outstanding once its units are on loan. -/
theorem Here.fly_of_found (hn : h.flyFound kg two wr e = some n) :
    h.fly kg two wr = h.owned ownFly (rowSpans ((h.flyMove kg two wr).xrows e)) (.ok (h.flyOut kg two wr e n)) := by
  refine (bounds_of_pass _ hcs).trans ?_
  simp only [Here.flyFound] at hn
  simp only [he, hn, Here.flyOut]

end

/-! ### ACOPY (07 R187, R188) -/

section
variable {sc : Scope} {six : Bool}

/-- The BOUNDS checks of an ACOPY word that its transfer meets, in R178's order. -/
def Here.acopyMoveChecks (h : Here) (kg : Fin 8) (six wr : Bool) : List Check :=
  let m := h.acopyMove kg six wr
  h.moveChecks m false [(m.len % 64 != 0 || decide (m.len < 64) || decide (0x100000 < m.len), boundsInfo 6 2 m.len)]

/-- The checks of an ACOPY word after those of its transfer: the slot of its report is bound, its queue has room. -/
def Here.acopyQueueChecks (h : Here) (kg : Fin 8) (wr : Bool) : List Check :=
  [(bit (h.stage kg 1) 20 && (h.co.bound (bits (h.stage kg 1) 28 21)).isNone, boundsInfo 9 0 (h.stage kg 0).toNat),
    (decide (32 ≤ (if wr then h.st.storeQ else h.st.loadQ).length), boundsInfo 8 0 (h.stage kg 0).toNat)]

/-- The tile with an ACOPY word's entry in its queue. -/
def Here.acopyQueued (h : Here) (kg : Fin 8) (sc : Scope) (six wr : Bool) (e : SegEntry) : TState :=
  let m := h.acopyMove kg six wr
  let x : AcEntry := ⟨h.st.nextEntry, false, sc, m.seg, m.xrows e, bit (h.stage kg 1) 20, bits (h.stage kg 1) 28 21, .waiting, 0, []⟩
  { h.st with
    loadQ := if wr then h.st.loadQ else h.st.loadQ ++ [x], storeQ := if wr then h.st.storeQ ++ [x] else h.st.storeQ
    nextEntry := h.st.nextEntry + 1 }

theorem Here.acopy_of_first {a b : List Check} {c : Check} (hcs : h.acopyMoveChecks kg six wr ++ h.acopyQueueChecks kg wr = a ++ c :: b)
    (ha : ∀ x ∈ a, x.1 = false) (hc : c.1 = true) : h.acopy kg sc six wr = .trap cBOUNDS c.2 :=
  bounds_of_first _ hcs ha hc

theorem Here.acopyQueueChecks_pass (hrep : bit (h.stage kg 1) 20 = true → (h.co.bound (bits (h.stage kg 1) 28 21)).isSome = true)
    (hroom : (if wr then h.st.storeQ else h.st.loadQ).length < 32) : ∀ c ∈ h.acopyQueueChecks kg wr, c.1 = false := by
  simp only [Here.acopyQueueChecks, List.forall_mem_cons, List.not_mem_nil, false_implies, implies_true, and_true]
  exact ⟨check_guarded fun hk => Option.isNone_eq_false_iff.mpr (hrep hk), decide_eq_false (Nat.not_le.mpr hroom)⟩

/-- An ACOPY word all of whose BOUNDS checks pass joins its queue once its units are on loan. -/
theorem Here.acopy_of_checks (hcs : ∀ c ∈ h.acopyMoveChecks kg six wr, c.1 = false) (hq : ∀ c ∈ h.acopyQueueChecks kg wr, c.1 = false)
    (he : h.segOf (h.acopyMove kg six wr).seg = some e) :
    h.acopy kg sc six wr = h.owned ownAcopy (rowSpans ((h.acopyMove kg six wr).xrows e)) (.ok (h.acopyQueued kg sc six wr e)) := by
  refine (bounds_of_pass _ (List.forall_mem_append.mpr ⟨hcs, hq⟩)).trans ?_
  simp only [he]
  cases wr <;> rfl

end
end

end Sys2Proof.Machine

open Sys2Proof Sys2Proof.Machine

/-- Settles O40: the checks of each word are taken in their order, FLY's calendar after the others (`Here.fly_of_not_found`), OWNER last. -/
theorem transferEngineWords : Obligations.TransferEngineWords := by
  unfold Obligations.TransferEngineWords
  intro s h g kg sc hs hp fly acopy mark
  have fly_of (i : Instr) (two wr : Bool) (hi : exec i = engine g fun h => h.fly kg two wr) : fly i two wr := by
    refine ⟨fun a b c hcs ha hc => exec_engine_trap hs hp hi (bounds_of_first _ hcs ha hc),
      fun e hcs he hnone => exec_engine_trap hs hp hi (Here.fly_of_not_found hcs he ?_),
      fun e n u hcs he hl hn hu => exec_engine_trap hs hp hi ?_, fun e n hcs he hl hn hown => exec_engine_ok hs hp hi ?_⟩
    · by_cases hl : h.st.localSince = none
      · exact (Here.flyFound_of_not_local hl).trans (hnone.resolve_left (not_not.mpr hl))
      · exact Here.flyFound_of_local hl
    · exact (Here.fly_of_found hcs he ((Here.flyFound_of_not_local hl).trans hn)).trans (Here.owned_of_some _ hu)
    · exact (Here.fly_of_found hcs he ((Here.flyFound_of_not_local hl).trans hn)).trans (Here.owned_of_none _ hown)
  have acopy_of (i : Instr) (six wr : Bool) {f : Here → Res} (hi : exec i = engine g f) (hf : f h = h.acopy kg sc six wr) : acopy i six wr := by
    refine ⟨fun a b c hcs ha hc => exec_engine_trap hs hp hi (hf.trans (Here.acopy_of_first hcs ha hc)), fun e hcs hrep hroom he => ?_⟩
    have reached := hf.trans (Here.acopy_of_checks hcs (Here.acopyQueueChecks_pass hrep hroom) he)
    exact ⟨fun u hu => exec_engine_trap hs hp hi (reached.trans (Here.owned_of_some _ hu)),
      fun hown => exec_engine_ok hs hp hi (reached.trans (Here.owned_of_none _ hown))⟩
  refine ⟨fly_of _ false false rfl, fly_of _ false true rfl, fly_of _ true false rfl, fly_of _ true true rfl,
    acopy_of _ false false rfl rfl, acopy_of _ false true rfl rfl, fun dir hdir => acopy_of _ true dir rfl (by rw [hdir]),
    fun hld hst => exec_engine_ok hs hp rfl (bounds_of_pass _ ?_), fun hfull => exec_engine_trap hs hp rfl (bounds_cons_fail _ _ ?_)⟩
  · simp only [List.mem_singleton, forall_eq]
    exact Bool.or_eq_false_iff.mpr ⟨decide_eq_false (Nat.not_le.mpr hld), decide_eq_false (Nat.not_le.mpr hst)⟩
  · exact (Bool.or_eq_true _ _).mpr (hfull.imp decide_eq_true decide_eq_true)

end

section
/-! SUPPORT. Collective words past their checks (07 R199, R200); then O42. -/
namespace Sys2Proof.Machine

/-- A count of elements in its range meets the checks on it (07 R178). -/
theorem nelCheck_eq_false {n : Nat} (hpos : 1 ≤ n) (hle : n ≤ 0x100000) : (n == 0 || decide (0x100000 < n)) = false :=
  Bool.or_eq_false_iff.mpr ⟨beq_eq_false_iff_ne.mpr (Nat.one_le_iff_ne_zero.mp hpos), decide_eq_false (Nat.not_lt.mpr hle)⟩

section
variable {h : Here} {kg : Fin 8} {kind : CKind} {op : COp} {sc : Scope}

/-- The tile with a collective's descriptor standing. -/
def Here.chorusStands (h : Here) (kg : Fin 8) (kind : CKind) (op : COp) (sc : Scope) : Tile :=
  { h.t with st := { h.st with chorus := h.st.chorus ++ [h.chorusDesc kg kind op sc] } }

/-- What a collective leaves whose checks pass: a stale one joins no round. -/
def Here.chorusPosted (h : Here) (kg : Fin 8) (kind : CKind) (op : COp) (sc : Scope) : State :=
  let d := h.chorusDesc kg kind op sc
  let t := h.chorusStands kg kind op sc
  if d.stale then h.s.setTile t else (h.s.setTile t).setCo (h.co.postDesc t d h.s.cue)

/-- A collective all of whose checks pass stands in its tile. -/
theorem Here.chorusPost_of_pass
    (hdata : kind ≠ .bar → let d := h.chorusDesc kg kind op sc
      d.buf % 64 = 0 ∧ 1 ≤ d.nel ∧ d.nel ≤ 0x100000 ∧
      d.nel % (32 * (if kind = .bc then 1 else (h.co.bucketRing h.t.key.row h.t.key.col).length)) = 0 ∧ d.buf + d.nel * opBytes op ≤ 0x100000)
    (hred : kind = .ar ∨ kind = .rs → let d := h.chorusDesc kg kind op sc
      d.slots % 64 = 0 ∧ d.slots + d.nel * opBytes op ≤ 0x100000 ∧ h.st.notOwnedSpans ownChorus [(d.slots, d.nel * opBytes op)] = none)
    (hroot : kind = .bc → (h.chorusDesc kg kind op sc).root < (h.co.bucketRing h.t.key.row h.t.key.col).length)
    (htmo : (h.chorusDesc kg kind op sc).tmo ≠ 0) (hfree : ∀ x ∈ h.st.chorus, x.bucket ≠ (h.chorusDesc kg kind op sc).bucket) :
    h.chorusPost kg kind op sc = .all (h.chorusPosted kg kind op sc) := by
  have data (hk : decide (kind ≠ .bar) = true) := hdata (of_decide_eq_true hk)
  have red (hk : (decide (kind = .ar) || decide (kind = .rs)) = true) := hred (by simpa using hk)
  refine (bounds_of_pass _ ?_).trans (Here.owned_of_none _ ?_)
  · simp only [List.forall_mem_cons, List.not_mem_nil, false_implies, implies_true, and_true]
    refine ⟨check_guarded fun hk => ?_, check_guarded fun hk => ?_, check_guarded fun hk => ?_, ?_, check_guarded fun hk => ?_,
      check_guarded fun hk => ?_, check_guarded fun hk => ?_, ?_⟩
    · obtain ⟨hbuf, _⟩ := data hk
      exact bne_eq_false_iff_eq.mpr hbuf
    · obtain ⟨hslots, _⟩ := red hk
      exact bne_eq_false_iff_eq.mpr hslots
    · exact decide_eq_false (Nat.not_le.mpr (hroot (of_decide_eq_true hk)))
    · exact beq_eq_false_iff_ne.mpr htmo
    · obtain ⟨_, hpos, hle, hunit, _⟩ := data hk
      exact Bool.or_eq_false_iff.mpr ⟨nelCheck_eq_false hpos hle, bne_eq_false_iff_eq.mpr hunit⟩
    · obtain ⟨_, _, _, _, hend⟩ := data hk
      exact decide_eq_false (Nat.not_lt.mpr hend)
    · obtain ⟨_, hend, _⟩ := red hk
      exact decide_eq_false (Nat.not_lt.mpr hend)
    · exact List.any_eq_false.mpr fun x hx => by simpa using hfree x hx
  · split
    · next hk =>
      obtain ⟨_, _, hown⟩ := red hk
      exact hown
    · rfl

end

theorem Here.chorusDesc_stale_iff (h : Here) (kg : Fin 8) (kind : CKind) (op : COp) (sc : Scope) :
    let d := h.chorusDesc kg kind op sc
    d.stale = true ↔ (d.gen ≠ 0xffff ∧ d.gen ≠ h.co.gen) ∨ h.t.key.gang ∉ h.co.ring ∨ h.t.key.gang ∈ h.co.leaves := by
  simp only [Here.chorusDesc, Company.isMember, Bool.or_eq_true, Bool.and_eq_true, bne_iff_ne, Bool.not_eq_true', Bool.and_eq_false_iff,
    List.contains_eq_mem, decide_eq_false_iff_not, Bool.not_eq_false', decide_eq_true_eq]

theorem Company.mem_bucketRing_iff (c : Company) (row col g : Nat) :
    g ∈ c.bucketRing row col ↔ g ∈ c.ring ∧ ∃ y, c.gangAt g = some y ∧ row < y.bin.rows ∧ col < y.bin.cols := by
  simp only [Company.bucketRing, List.mem_filter, Option.any_eq_true, Bool.and_eq_true, decide_eq_true_eq]

/-- READY at the one descriptor that stands: it is ready, and no other tile is touched. -/
theorem exec_chorusReady_of_single {s : State} {h : Here} (hs : s.here = some h) {g : Guard} (hp : h.passes g = true) {kg : Fin 8}
    {sc : Scope} {d : CDesc} (hd : h.st.chorus = [d]) (hb : d.bucket.val = bits (h.stage kg 0) 41 36) (hstale : d.stale = false)
    (hready : d.ready = false) (hkind : d.kind ≠ .bar) (hown : h.st.notOwnedSpans ownChorus [(d.buf, d.nel * opBytes d.op)] = none) :
    ∃ t, exec (.chorusReady g kg sc) s = .next t ∧ t.tiles = (h.put { h.st with chorus := [{ d with ready := true }] }).tiles := by
  have found : (h.st.chorus.find? fun d => d.bucket.val == bits (h.stage kg 0) 41 36 && !d.stale && !d.ready && d.kind != .bar) = some d := by
    rw [hd, List.find?_cons_of_pos]
    simp [hb, hstale, hready, hkind]
  have marked : (h.st.chorus.map fun x => if x = d then { d with ready := true } else x) = [{ d with ready := true }] := by
    rw [hd, List.map_singleton, if_pos rfl]
  refine ⟨_, exec_engine hs hp rfl, ?_⟩
  simp only [found, Here.owned_of_none _ hown, Here.finish, marked]
  split
  · split <;> rfl
  · rfl

end Sys2Proof.Machine

open Sys2Proof Sys2Proof.Machine

/-- Settles O42: a collective past its checks stands (`Here.chorusPost_of_pass`), READY marks the descriptor it finds, COMBINE, JOIN and LEAVE
join their queues. -/
theorem chorusWords : Obligations.ChorusWords := by
  unfold Obligations.ChorusWords
  refine ⟨fun s h g kg sc op hs hp => ?_, fun s h g kg sc op d hs hp => ?_⟩
  · intro members posts
    have posts_of (i : Instr) (kind : CKind) (op : COp) (hi : exec i = engine g fun h => h.chorusPost kg kind op sc) : posts i kind op := by
      intro hdata hred hroot htmo hfree
      obtain ⟨rfl, _⟩ := State.hereAt_parts hs
      have posted : exec i h.s = .next (h.chorusPosted kg kind op sc) := by
        rw [exec_engine hs hp hi, Here.chorusPost_of_pass hdata hred hroot htmo hfree]
        rfl
      exact ⟨fun hstale => posted.trans (congrArg _ (if_pos hstale)), fun hstale => posted.trans (congrArg _ (if_neg (by simp [hstale])))⟩
    exact ⟨posts_of _ .ar op rfl, posts_of _ .ag .i32 rfl, posts_of _ .rs op rfl, posts_of _ .bc .i32 rfl, posts_of _ .bar .i32 rfl,
      h.chorusDesc_stale_iff kg .bar .i32 sc, h.co.mem_bucketRing_iff _ _⟩
  · intro w0 w2 isIn
    refine ⟨exec_chorusReady_of_single hs hp, fun hnone => exec_engine_trap hs hp rfl ?_,
      fun hbuf hslots htmo hpos hle hend hslotsEnd hown => exec_engine_ok hs hp rfl ((bounds_of_pass _ ?_).trans (Here.owned_of_none _ hown)),
      exec_engine_ok hs hp rfl ?_, exec_engine_ok hs hp rfl ?_⟩
    · simp only [hnone, List.find?_nil, boundsInfo_zero, w0]
    · simp only [List.forall_mem_cons, List.not_mem_nil, false_implies, implies_true, and_true]
      exact ⟨bne_eq_false_iff_eq.mpr hbuf, bne_eq_false_iff_eq.mpr hslots, bne_eq_false_iff_eq.mpr htmo, nelCheck_eq_false hpos hle,
        decide_eq_false (Nat.not_lt.mpr hend), decide_eq_false (Nat.not_lt.mpr hslotsEnd)⟩
    · simp only [Here.ringWord, beq_true, w0, isIn]
    · simp only [Here.ringWord, beq_false, w0, isIn]

end

section
/-! SUPPORT. The list of the cast state under a merge (08 R221, R222); then O38. -/
namespace Sys2Proof.Machine

/-! ### Rank order (08 R222) -/

/-- u ranks before v. -/
def RanksBefore (u v : W32 × W32) : Prop := v.1.toNat < u.1.toNat ∨ (u.1 = v.1 ∧ u.2.toNat < v.2.toNat)

theorem ranks_iff {u v : W32 × W32} : ranks u v = true ↔ RanksBefore u v := by
  simp only [ranks, ltU, RanksBefore, Bool.or_eq_true, Bool.and_eq_true, decide_eq_true_eq, beq_iff_eq]

theorem RanksBefore.trans {u v w : W32 × W32} (h : RanksBefore u v) (h' : RanksBefore v w) : RanksBefore u w := by
  simp only [RanksBefore, ← BitVec.toNat_inj] at *
  omega

/-- Of two entries with different ids one ranks before the other. -/
theorem RanksBefore.of_not {u v : W32 × W32} (hid : v.2 ≠ u.2) (h : ¬ RanksBefore u v) : RanksBefore v u := by
  simp only [RanksBefore, ne_eq, ← BitVec.toNat_inj] at *
  omega

theorem insertRank_perm (u : W32 × W32) (l : List (W32 × W32)) : (insertRank u l).Perm (u :: l) := by
  induction l with
  | nil => exact .refl _
  | cons v l ih =>
    rw [insertRank]
    split
    · exact .refl _
    · exact (ih.cons v).trans (.swap u v l)

theorem insertRank_sorted {u : W32 × W32} {l : List (W32 × W32)} (hl : l.Pairwise RanksBefore) (hu : ∀ v ∈ l, v.2 ≠ u.2) :
    (insertRank u l).Pairwise RanksBefore := by
  induction l with
  | nil => exact List.pairwise_singleton _ _
  | cons v l ih =>
    obtain ⟨hv, hl'⟩ := List.pairwise_cons.mp hl
    rw [insertRank]
    by_cases huv : ranks u v = true
    · rw [if_pos huv]
      have before := ranks_iff.mp huv
      exact List.pairwise_cons.mpr ⟨List.forall_mem_cons.mpr ⟨before, fun w hw => before.trans (hv w hw)⟩, hl⟩
    · rw [if_neg huv]
      refine List.pairwise_cons.mpr ⟨fun w hw => ?_, ih hl' fun w hw => hu w (List.mem_cons_of_mem _ hw)⟩
      rcases List.mem_cons.mp ((insertRank_perm u l).mem_iff.mp hw) with rfl | hw
      · exact .of_not (hu v List.mem_cons_self) (mt ranks_iff.mpr huv)
      · exact hv w hw

/-! ### A candidate (08 R222) -/

/-- A candidate of weight zero or of an id in the list is dropped, any other put in its place. -/
theorem takeCand_cases (l : List (W32 × W32)) (u : W32 × W32) :
    (takeCand l u = l ∧ (u.1 = 0 ∨ ∃ v ∈ l, v.2 = u.2)) ∨ (takeCand l u = insertRank u l ∧ u.1 ≠ 0 ∧ ∀ v ∈ l, v.2 ≠ u.2) := by
  have drop : (u.1 == 0 || l.any fun v => v.2 == u.2) = true ↔ u.1 = 0 ∨ ∃ v ∈ l, v.2 = u.2 := by
    simp only [Bool.or_eq_true, beq_iff_eq, List.any_eq_true]
  rw [takeCand]
  by_cases h : (u.1 == 0 || l.any fun v => v.2 == u.2) = true
  · exact .inl ⟨if_pos h, drop.mp h⟩
  · obtain ⟨hw, hid⟩ := not_or.mp (mt drop.mpr h)
    exact .inr ⟨if_neg h, hw, fun v hv e => hid ⟨v, hv, e⟩⟩

theorem takeCand_sorted (l : List (W32 × W32)) (u : W32 × W32) (hl : l.Pairwise RanksBefore) : (takeCand l u).Pairwise RanksBefore := by
  rcases takeCand_cases l u with ⟨e, -⟩ | ⟨e, -, hu⟩
  · rwa [e]
  · rw [e]
    exact insertRank_sorted hl hu

/-- In rank order, no id twice, no weight zero (08 R221). -/
structure RankedList (l : List (W32 × W32)) : Prop where
  sorted : l.Pairwise RanksBefore
  ids : (l.map (·.2)).Nodup
  weights : ∀ u ∈ l, u.1 ≠ 0

theorem RankedList.takeCand {l : List (W32 × W32)} (h : RankedList l) (u : W32 × W32) : RankedList (takeCand l u) := by
  rcases takeCand_cases l u with ⟨e, -⟩ | ⟨e, hw, hu⟩ <;> rw [e]
  · exact h
  · refine ⟨insertRank_sorted h.sorted hu, ?_, fun v hv => ?_⟩
    · rw [((insertRank_perm u l).map _).nodup_iff, List.map_cons, List.nodup_cons, List.mem_map]
      exact ⟨fun ⟨v, hv, e⟩ => hu v hv e, h.ids⟩
    · rcases List.mem_cons.mp ((insertRank_perm u l).mem_iff.mp hv) with rfl | hv
      · exact hw
      · exact h.weights v hv

theorem RankedList.foldl_takeCand {l : List (W32 × W32)} (h : RankedList l) (cands : List (W32 × W32)) :
    RankedList (cands.foldl Machine.takeCand l) := by
  induction cands generalizing l with
  | nil => exact h
  | cons u cands ih => exact ih (h.takeCand u)

theorem RankedList.take {l : List (W32 × W32)} (h : RankedList l) (n : Nat) : RankedList (l.take n) where
  sorted := h.sorted.sublist (List.take_sublist n l)
  ids := h.ids.sublist ((List.take_sublist n l).map _)
  weights := fun u hu => h.weights u (List.mem_of_mem_take hu)

/-! ### The candidates of a merge (08 R222) -/

theorem foldl_takeCand_sorted (cands : List (W32 × W32)) {l : List (W32 × W32)} (hl : l.Pairwise RanksBefore) :
    (cands.foldl takeCand l).Pairwise RanksBefore := by
  induction cands generalizing l with
  | nil => exact hl
  | cons u cands ih => exact ih (takeCand_sorted l u hl)

/-- A candidate such that no lower lane has its id, but with weight zero. -/
def LowestLane (cands : List (W32 × W32)) (u : W32 × W32) : Prop :=
  ∃ i : Nat, cands[i]? = some u ∧ ∀ j < i, ∀ v : W32 × W32, cands[j]? = some v → v.1 ≠ 0 → v.2 ≠ u.2

theorem not_lowestLane_nil (u : W32 × W32) : ¬ LowestLane [] u := fun ⟨_, hi, _⟩ => nomatch hi

theorem lowestLane_cons {x : W32 × W32} {cands : List (W32 × W32)} {u : W32 × W32} :
    LowestLane (x :: cands) u ↔ x = u ∨ ((x.1 ≠ 0 → x.2 ≠ u.2) ∧ LowestLane cands u) := by
  constructor
  · rintro ⟨i, hi, low⟩
    cases i with
    | zero => exact .inl (Option.some.inj hi)
    | succ i => exact .inr ⟨low 0 (Nat.succ_pos i) x rfl, i, hi, fun j hj => low (j + 1) (Nat.succ_lt_succ hj)⟩
  · rintro (rfl | ⟨hx, i, hi, low⟩)
    · exact ⟨0, rfl, fun j hj => absurd hj (Nat.not_lt_zero j)⟩
    · refine ⟨i + 1, hi, fun j hj v hv => ?_⟩
      cases j with
      | zero => exact Option.some.inj hv ▸ hx
      | succ j => exact low j (Nat.lt_of_succ_lt_succ hj) v hv

theorem mem_foldl_takeCand {u : W32 × W32} (cands l : List (W32 × W32)) :
    u ∈ cands.foldl takeCand l ↔ u ∈ l ∨ (u.1 ≠ 0 ∧ (∀ v ∈ l, v.2 ≠ u.2) ∧ LowestLane cands u) := by
  induction cands generalizing l with
  | nil => simp only [List.foldl_nil, not_lowestLane_nil, and_false, or_false]
  | cons x cands ih =>
    rw [List.foldl_cons, ih, lowestLane_cons]
    rcases takeCand_cases l x with ⟨e, dropped⟩ | ⟨e, hw, fresh⟩
    · rw [e]
      refine or_congr_right (and_congr_right fun hu => and_congr_right fun hid => ?_)
      have other : x ≠ u := by
        rintro rfl
        exact dropped.elim hu fun ⟨v, hv, e⟩ => hid v hv e
      have passes : x.1 ≠ 0 → x.2 ≠ u.2 := fun hx => by
        obtain ⟨v, hv, e⟩ := dropped.resolve_left hx
        exact e ▸ hid v hv
      exact ⟨fun low => .inr ⟨passes, low⟩, fun low => (low.resolve_left other).2⟩
    · have stands (v : W32 × W32) : v ∈ takeCand l x ↔ v = x ∨ v ∈ l := by rw [e, (insertRank_perm x l).mem_iff, List.mem_cons]
      simp only [stands, forall_eq_or_imp]
      constructor
      · rintro ((rfl | hu) | ⟨hu, ⟨hid, hold⟩, low⟩)
        · exact .inr ⟨hw, fresh, .inl rfl⟩
        · exact .inl hu
        · exact .inr ⟨hu, hold, .inr ⟨fun _ => hid, low⟩⟩
      · rintro (hu | ⟨hu, hold, rfl | ⟨hid, low⟩⟩)
        · exact .inl (.inr hu)
        · exact .inl (.inl rfl)
        · exact .inr ⟨hu, ⟨hid hw, hold⟩, low⟩

/-! ### The limit (08 R221) -/

theorem CastState.limit_eq (c : CastState) : c.limit = if 1 ≤ c.kmax.toNat ∧ c.kmax.toNat ≤ 64 then c.kmax.toNat else 64 := by
  rw [CastState.limit]
  split <;> split <;> omega

theorem CastState.limit_le (c : CastState) : c.limit ≤ 64 := by
  rw [CastState.limit_eq]
  split <;> omega

end Sys2Proof.Machine

open Sys2Proof Sys2Proof.Machine

/-- Settles O38: every candidate keeps the list ranked (`RankedList.takeCand`), which the cut at the limit leaves so; what a merge puts in is
`mem_foldl_takeCand`. -/
theorem castListStaysRanked : Obligations.CastListStaysRanked := by
  unfold Obligations.CastListStaysRanked
  refine ⟨fun c cands hc => ?_, fun st key m v seq pos tb p kmax sm kmin cands => ?_, fun c cands hc => ?_, CastState.limit_eq⟩
  · obtain ⟨sorted, ids, weights⟩ := hc
    obtain ⟨sorted', ids', weights'⟩ := (RankedList.foldl_takeCand ⟨sorted, ids, weights⟩ cands).take c.limit
    exact ⟨⟨sorted', ids', weights'⟩, List.length_take_le _ _, c.limit_le⟩
  · exact ⟨rfl, rfl, rfl, rfl, rfl, rfl, rfl⟩
  · exact ⟨_, foldl_takeCand_sorted cands hc, rfl, fun u => mem_foldl_takeCand cands c.list⟩

end

section
/-! SUPPORT. Hops, crossings, BANDQ and CUETRIM at issue (08 R210 to R218); then O36. -/
namespace Sys2Proof.Machine

/-- What a word does at the tile in focus, where it gives a new state of the tile with free choices drawn. -/
theorem exec_word_tile {s : State} {h : Here} (hs : s.here = some h) {i : Instr} {f : Here → Res} {u : Tile} {n : Nat} (e : exec i = word f)
    (hf : f h = .tile u n) : exec i s = .next { h.s.setTile u with free := h.s.free + n } := by
  rw [e, word_here hs, hf]
  rfl

/-- What a word does at the tile in focus, where it gives a new state of the part. -/
theorem exec_word_all {s : State} {h : Here} (hs : s.here = some h) {i : Instr} {f : Here → Res} {t : State} (e : exec i = word f)
    (hf : f h = .all t) : exec i s = .next t := by
  rw [e, word_here hs, hf]
  rfl

/-! ### Hops (08 R210, R211) -/

section
variable {h : Here} {d : Side}

theorem Here.claimHop_of_free (hfree : h.st.hopBusy[sideNo d] ≤ h.cue) (n : Nat) (k : TState → Res) :
    h.claimHop d n k = k { h.st with hopBusy := h.st.hopBusy.set (sideNo d) (h.cue + n) } :=
  if_neg (Nat.not_lt.mpr hfree)

theorem Here.claimHop_of_busy (hbusy : h.cue < h.st.hopBusy[sideNo d]) (n : Nat) (k : TState → Res) :
    h.claimHop d n k = .trap cBOUNDS (claimInfo d) :=
  if_pos hbusy

end

theorem low64_inLow (x : W64) : low64 (inLow x) = x := by
  rw [low64, inLow, ← BitVec.setWidth_eq_extractLsb' (by decide), BitVec.setWidth_setWidth_of_le _ (by decide), BitVec.setWidth_eq]

theorem TState.receive_scalar (st : TState) (c : Nat) (r : Dst) (x : W64) : st.receive c r false (inLow x) = st.resF c 1 r x := by
  rw [TState.receive, low64_inLow]
  rfl

/-! ### Status words of a side (08 R216, R217) -/

theorem Tile.lost_addLost (t : Tile) (d : Side) (n : Nat) :
    ((t.addLost d n).status[sideNo d]).lost.toNat = min 0xffff ((t.status[sideNo d]).lost.toNat + n) := by
  simp only [Tile.addLost, getElem_set_fin, if_true, BitVec.toNat_ofNat]
  omega

theorem Tile.torn_addTorn (t : Tile) (d : Side) (ch : Fin 8) :
    ((t.addTorn d ch).status[sideNo d]).torn = (t.status[sideNo d]).torn ||| 1#8 <<< ch.val := by
  simp only [Tile.addTorn, Tile.addLost, getElem_set_fin, if_true]

theorem Tile.lost_addTorn (t : Tile) (d : Side) (ch : Fin 8) :
    ((t.addTorn d ch).status[sideNo d]).lost.toNat = min 0xffff ((t.status[sideNo d]).lost.toNat + 1) := by
  rw [Tile.addTorn, Tile.lost_addLost, getElem_set_fin, if_pos rfl]

theorem Tile.under_addUnder (t : Tile) (d : Side) (ch : Fin 8) : ((t.addUnder d ch).status[sideNo d]).under.getLsbD ch.val = true := by
  simp only [Tile.addUnder, getElem_set_fin, if_true, BitVec.getLsbD_or]
  rw [← BitVec.twoPow_eq, BitVec.getLsbD_twoPow]
  simp

/-! ### XSEND (08 R215, 12 R319, R320) -/

/-- The tile's state with the link of a side claimed for a word. -/
def Here.xClaimed (h : Here) (d : Side) (w : Bool) : TState := { h.st with xBusy := h.st.xBusy.set (sideNo d) (h.cue + beatsOf w) }

/-- The cycle in which a word goes into a crossing that stands: within the band, not before the word sent last, else free (log 5). -/
def Here.xArrive (h : Here) (d : Side) (w : Bool) (b : Band) : Nat :=
  let last := h.cue + beatsOf w - 1
  let lo := max (last + b.lo) h.st.xLast[sideNo d]
  lo + Config.freeNat h.s.free % (last + b.hi - lo + 1)

/-- The tile's state with a word in a crossing that stands. -/
def Here.xSent (h : Here) (a : Sel) (d : Side) (w : Bool) (ch : Fin 8) (b : Band) : TState :=
  { h.xClaimed d w with
    xLast := h.st.xLast.set (sideNo d) (h.xArrive d w b)
    xwords := h.st.xwords ++ [⟨d, ch, w, if w then h.getV .f a else inLow (h.get64 .f a), h.cue, h.xArrive d w b, h.cue + beatsOf w - 1 + b.lo⟩] }

theorem Here.xArrive_bounds (h : Here) {d : Side} {w : Bool} {b : Band} (hb : b.lo ≤ b.hi)
    (hlast : h.st.xLast[sideNo d] ≤ h.cue + beatsOf w - 1 + b.hi) :
    h.cue + beatsOf w - 1 + b.lo ≤ h.xArrive d w b ∧ h.xArrive d w b ≤ h.cue + beatsOf w - 1 + b.hi ∧ h.st.xLast[sideNo d] ≤ h.xArrive d w b := by
  have ahead (last lo hi x f : Nat) (hb : lo ≤ hi) (hx : x ≤ last + hi) :
      let y := max (last + lo) x + f % (last + hi - max (last + lo) x + 1)
      last + lo ≤ y ∧ y ≤ last + hi ∧ x ≤ y := by
    have : f % (last + hi - max (last + lo) x + 1) < last + hi - max (last + lo) x + 1 := Nat.mod_lt _ (Nat.succ_pos _)
    omega
  exact ahead _ _ _ _ _ hb hlast

section
variable {s : State} {h : Here} (hs : s.here = some h) (a : Sel) {d : Side} (w : Bool) (ch : Fin 8)
include hs

theorem exec_xsend_busy (hbusy : h.cue < h.st.xBusy[sideNo d]) : exec (.xsend a d w ch) s = h.traps cBOUNDS (claimInfo d) :=
  exec_word_trap hs rfl (if_pos hbusy)

variable (hfree : h.st.xBusy[sideNo d] ≤ h.cue)
include hfree

theorem exec_xsend_none (hx : h.s.crossing h.gang h.t.key d = none) : exec (.xsend a d w ch) s = h.becomes (h.xClaimed d w) := by
  refine exec_word_ok hs rfl ((if_neg (Nat.not_lt.mpr hfree)).trans ?_)
  simp only [hx]
  rfl

variable {x : Crossing} (hx : h.s.crossing h.gang h.t.key d = some x)
include hx

theorem exec_xsend_down (hup : x.up = false) (htorn : x.torn = false) : exec (.xsend a d w ch) s = .next
    { h.s.setTile (({ h.t with st := h.xClaimed d w } : Tile).addLost d 1) with free := h.s.free + 0 } := by
  refine exec_word_tile hs rfl ((if_neg (Nat.not_lt.mpr hfree)).trans ?_)
  simp only [hx, hup, htorn, Bool.not_false, Bool.false_eq_true, if_false, if_true]
  rfl

theorem exec_xsend_torn (hup : x.up = false) (htorn : x.torn = true) : exec (.xsend a d w ch) s = .next
    ((h.s.setTile (({ h.t with st := h.xClaimed d w } : Tile).addTorn d ch)).tornAt x ch) := by
  refine exec_word_all hs rfl ((if_neg (Nat.not_lt.mpr hfree)).trans ?_)
  simp only [hx, hup, htorn, Bool.not_false, if_true]
  rfl

theorem exec_xsend_up (hup : x.up = true) : exec (.xsend a d w ch) s = .next
    { h.s.setTile { h.t with st := h.xSent a d w ch x.band } with free := h.s.free + 1 } := by
  refine exec_word_tile hs rfl ((if_neg (Nat.not_lt.mpr hfree)).trans ?_)
  simp only [hx, hup, Bool.not_true, Bool.false_eq_true, if_false]
  rfl

end

/-! ### XRECV (08 R216) -/

section
variable {s : State} {h : Here} (hs : s.here = some h) (r : Dst) {d : Side} (w : Bool) {ch : Fin 8}
include hs

theorem exec_xrecv_of_word {x : FifoWord} {rest : List FifoWord} (hx : h.st.fifo[fifoIdx d ch] = x :: rest) :
    exec (.xrecv r d w ch) s = h.becomes (TState.receive
      { h.st with fifo := h.st.fifo.set (fifoIdx d ch) rest } h.cue r w (if x.vec then x.v else inLow (low64 x.v))) :=
  exec_word_ok hs rfl (by simp only [hx])

theorem exec_xrecv_of_empty (hx : h.st.fifo[fifoIdx d ch] = []) : exec (.xrecv r d w ch) s = .next
    { h.s.setTile (({ h.t with st := h.st.receive h.cue r w 0 } : Tile).addUnder d ch) with free := h.s.free + 0 } :=
  exec_word_tile hs rfl (by simp only [hx])

end

/-! ### BANDQ (08 R217) -/

/-- The side whose band word stands at an index of BANDQ's table. -/
def bandSide (i : Nat) : Side := if i = 0 then .n else if i = 1 then .e else if i = 2 then .s else .w

theorem Here.bandq_side (h : Here) {i : Nat} (hi : i < 4) : h.bandq i = h.bandWord (bandSide i) := by
  interval_cases i <;> rfl

theorem Here.bandq_status (h : Here) (q : Fin 4) : h.bandq (4 + q.val) = (h.t.status[q]).image := by
  fin_cases q <;> rfl

theorem Here.bandq_beyond (h : Here) {i : Nat} (hi : 8 < i) : h.bandq i = 0 := by
  obtain ⟨k, rfl⟩ := Nat.exists_eq_add_of_le' hi
  rfl

theorem Here.bandWord_of_up {h : Here} {d : Side} {c : Crossing} (hc : h.s.crossing h.gang h.t.key d = some c) (hup : c.up = true) :
    h.bandWord d = c.band.word h.t.ofs[sideNo d] := by
  simp only [Here.bandWord, hc, hup, Bool.not_true, Bool.false_eq_true, if_false]

theorem Here.bandWord_of_down {h : Here} {d : Side} (hc : ∀ c ∈ h.s.crossing h.gang h.t.key d, c.up = false) : h.bandWord d = 0 := by
  rw [Here.bandWord]
  cases hx : h.s.crossing h.gang h.t.key d with
  | none => rfl
  | some c => simp only [hc c hx, Bool.not_false, if_true]

/-! ### CUETRIM (08 R218, 12 R315) -/

theorem State.nextMultiple_bounds (s : State) (n : SiteId) (q : Fin 4) :
    s.cue < s.nextMultiple n q 4096 ∧ s.nextMultiple n q 4096 ≤ s.cue + 4096 := by
  rw [State.nextMultiple]
  omega

/-- There the region's counter stands at a multiple, unless a correction still holds it. -/
theorem State.counterAt_nextMultiple {s : State} {n : SiteId} {q : Fin 4} (hheld : ((s.sites[n]).regions[q]).heldTo ≤ s.cue) :
    ((s.sites[n]).regions[q]).counterAt (s.nextMultiple n q 4096) % 4096 = 0 := by
  rw [State.nextMultiple, State.counter, Region.counterAt, Region.counterAt]
  omega

theorem State.askTrim_of_root {s : State} {n : SiteId} {q : Fin 4} (hp : s.parentOf n q = none) (m : Nat) : s.askTrim n q m = s := by
  rw [State.askTrim, hp]
  rfl

theorem State.askTrim_of_parent {s : State} {n : SiteId} {q : Fin 4} (hp : s.parentOf n q ≠ none) (m : Nat) :
    s.askTrim n q m = s.setRegion n q fun y => { y with trimFrom := some ((y.trimFrom.map (min m)).getD m) } :=
  if_neg (by rw [Option.isNone_iff_eq_none]; exact hp)

end Sys2Proof.Machine

open Sys2Proof Sys2Proof.Machine

/-- Settles O36: a claim succeeds or raises BOUNDS (`Here.claimHop_of_free`, `exec_xsend_busy`); XSEND and XRECV by what stands at the side, BANDQ
by its index, CUETRIM by the region's parent. -/
theorem fabricWords : Obligations.FabricWords := by
  unfold Obligations.FabricWords
  refine ⟨fun s h a r d fr hs => ?hops, fun s h a r d w ch hs => ?crossings⟩
  case hops =>
    intro busy claimed
    refine ⟨fun hfree => ?_, fun hbusy w => ⟨?_, ?_⟩, exec_word_ok hs rfl rfl,
      exec_word_ok hs rfl (congrArg Res.ok (h.st.receive_scalar _ r _))⟩
    · have free := Here.claimHop_of_free hfree
      exact ⟨exec_word_ok hs rfl (free _ _), exec_word_ok hs rfl (free _ _), exec_word_ok hs rfl (free _ _), exec_word_ok hs rfl (free _ _)⟩
    · exact exec_word_trap hs rfl (Here.claimHop_of_busy hbusy _ _)
    · exact exec_word_trap hs rfl (Here.claimHop_of_busy hbusy _ _)
  case crossings =>
    intro n last v st
    have hss := State.here_s hs
    refine ⟨exec_xsend_busy hs a w ch, fun hfree => ⟨exec_xsend_none hs a w ch hfree, fun x hx hup htorn => ?_, fun x hx hup htorn => ?_,
      fun x hx hup hlast hband => ?_⟩, fun t f => ⟨t.torn_addTorn f ch, t.lost_addTorn f ch, rfl⟩, fun x rest => exec_xrecv_of_word hs r w,
      fun hempty => ?_, fun i hi => ?bandq, fun hp => ?_, fun hp => ?_⟩
    · exact ⟨_, _, exec_xsend_down hs a w ch hfree hx hup htorn, rfl, rfl, rfl, Tile.lost_addLost _ d 1, rfl⟩
    · rw [exec_xsend_torn hs a w ch hfree hx hup htorn, hss]
      rfl
    · obtain ⟨low, high, order⟩ := h.xArrive_bounds hband hlast
      exact ⟨_, _, exec_xsend_up hs a w ch hfree hx hup, low, high, order, rfl⟩
    · exact ⟨_, _, exec_xrecv_of_empty hs r w hempty, rfl, rfl, rfl, Tile.under_addUnder _ d ch, rfl⟩
    case bandq =>
      intro reads side x
      have read {v : W64} (hv : h.bandq i = v) : reads v := exec_word_ok hs rfl (by rw [hi, hv])
      refine ⟨fun hlt => ⟨fun c hc hup => read ?_, fun hc => read ?_⟩, fun q hq => read ?_, fun h8 => read ?_, fun hgt => read (h.bandq_beyond hgt)⟩
      · rw [h.bandq_side hlt]
        exact Here.bandWord_of_up hc hup
      · rw [h.bandq_side hlt]
        exact Here.bandWord_of_down hc
      · rw [hq]
        exact h.bandq_status q
      · rw [h8]
        rfl
    · rw [exec_cuetrim_here hs, State.askTrim_of_root hp]
    · obtain ⟨after, soon⟩ := s.nextMultiple_bounds h.t.site h.t.region
      exact ⟨_, after, soon, State.counterAt_nextMultiple, by rw [exec_cuetrim_here hs, State.askTrim_of_parent hp]⟩

end

section
/-! SUPPORT. Two tiles of one key in different regions, as their instruction memory is written again (09 R253, R255; 12 R315); then O52. -/
namespace Sys2Proof.Machine

/-- Site 0 and site S in service and a company chosen for resumption, with two tiles of one key: the first in region 1 of site 0, which trims from
region 0, the second in region 0, the trim root's anchor. -/
def twinTiles : State :=
  let s := ((State.reset.withBundle 0).setSite 0 fun x => { x with state := .admitted }).setSite siteS fun x => { x with state := .admitted }
  { s with
    companies := s.companies.map fun c => { c with mode := .resuming false 0 }
    tiles := s.tiles.flatMap fun t => [{ t with region := 1 }, t]
    fw := { s.fw with mode := .running } }

theorem twinTiles_serviceUp : twinTiles.serviceUp = true := by decide +kernel

theorem twinTiles_company : ∃ c, twinTiles.coAt 0 = some c ∧ c.fatal = none ∧ c.mode = .resuming false 0 ∧ c.info.overlaid = false := by
  have found : (twinTiles.coAt 0).any (fun c => decide (c.fatal = none ∧ c.mode = .resuming false 0 ∧ c.info.overlaid = false)) = true := by
    decide +kernel
  obtain ⟨c, hc, holds⟩ := (Option.any_eq_true _ _).mp found
  exact ⟨c, hc, of_decide_eq_true holds⟩

/-- The first of the two tiles stands, in a region with a trim parent. -/
theorem twinTiles_first : ∃ t ∈ twinTiles.tilesOf 0, t.lost = false ∧ (t.site = 0 ∧ t.region = 1) ∧ (twinTiles.parentOf t.site t.region).isSome = true := by
  decide +kernel

/-- The second tile written again takes the place of both, and no exchange of the first one's region is asked for. -/
theorem twinTiles_untrimmed : ∃ u, exec (.instructionMemoryRewrite 0) twinTiles = .next u ∧ ((u.sites[(0 : SiteId)]).regions[(1 : Fin 4)]).trimFrom = none :=
  ⟨_, rfl, by decide +kernel⟩

end Sys2Proof.Machine

open Sys2Proof Sys2Proof.Machine

/-- Refutes O52: the clause on the trims of a company whose instruction memory is written again holds of every tile of the company, and not only, as
the clause after it, of a tile that is the one of its key. Of two tiles of one key the tile written last takes the place of both (`State.setTile`), and
the region of the other, which has a trim parent, is asked for no exchange (`twinTiles_untrimmed`). -/
theorem not_holdAndFreezeEvents : ¬ Obligations.HoldAndFreezeEvents := by
  unfold Obligations.HoldAndFreezeEvents
  rintro ⟨-, freezes⟩
  obtain ⟨c, hc, hfatal, hmode, hplain⟩ := twinTiles_company
  obtain ⟨-, -, -, -, -, -, -, rewrite, -⟩ := freezes twinTiles 0 0 c hc hfatal
  obtain ⟨u, hu, -, trims, -⟩ := rewrite hmode twinTiles_serviceUp hplain
  obtain ⟨t, ht, hlost, ⟨hsite, hregion⟩, hparent⟩ := twinTiles_first
  obtain ⟨v, hv, untrimmed⟩ := twinTiles_untrimmed
  obtain rfl : u = v := Host.Outcome.next.inj (hu.symm.trans hv)
  have asked := trims t ht hlost hparent
  simp only [hsite, hregion, untrimmed, Option.isSome_none, Bool.false_eq_true] at asked

end

section
/-! SUPPORT. What shared operations leave of the machine: tiles replaced one after another, records posted (11 R301), sites and decisions set anew
(13 R326, 15 R365). -/
namespace Sys2Proof.Machine

/-! ### Tiles replaced one after another -/

/-- A tile of a list replaced, if another stands for it. -/
abbrev State.setTile? (f : Tile → Option Tile) (s : State) (t : Tile) : State := (f t).elim s s.setTile

/-- Of tiles of one list replaced, each by one of its own key, a tile that is the only one of its key stands changed. -/
theorem State.tileAt_foldl_setTile {f : Tile → Option Tile} (hf : ∀ t, ∀ v ∈ f t, v.key = t.key) {u v : Tile} (hv : f u = some v)
    (ts : List Tile) : ∀ s : State, (∀ x ∈ ts, x.key = u.key → x = u) → (u ∈ ts ∧ (s.tileAt u.key).isSome = true) ∨ s.tileAt u.key = some v →
      (ts.foldl (State.setTile? f) s).tileAt u.key = some v := by
  induction ts with
  | nil => exact fun s _ h => h.resolve_left fun h => absurd h.1 List.not_mem_nil
  | cons x xs ih =>
    intro s hone h
    rw [List.forall_mem_cons] at hone
    refine ih _ hone.2 ?_
    by_cases hx : x.key = u.key
    · obtain rfl := hone.1 hx
      obtain ⟨w, hw⟩ : ∃ w, s.tileAt x.key = some w := by
        obtain ⟨_, hs⟩ | hs := h
        · exact Option.isSome_iff_exists.mp hs
        · exact ⟨_, hs⟩
      rw [State.setTile?, hv]
      exact .inr (State.tileAt_setTile_self (hf x v hv) hw)
    · have left_alone : (s.setTile? f x).tileAt u.key = s.tileAt u.key := by
        unfold State.setTile?
        cases hy : f x with
        | none => rfl
        | some y => exact State.tileAt_setTile_other (by rw [hf x y hy]; exact hx)
      rw [left_alone]
      refine h.imp_left fun ⟨hu, hs⟩ => ⟨(List.mem_cons.mp hu).resolve_left fun e => hx (by rw [e]), hs⟩

/-! ### Records posted (11 R301) -/

/-- The machine with records more in its log, or held at a site. -/
def State.Recorded (s t : State) : Prop :=
  t = { s with log := t.log, logHead := t.logHead, logDrop := t.logDrop, sites := t.sites } ∧
    ∀ n : SiteId, ∃ r d, t.sites[n] = { s.sites[n] with heldRecs := r, dropped := d }

theorem State.Recorded.refl (s : State) : s.Recorded s := ⟨rfl, fun _ => ⟨_, _, rfl⟩⟩

theorem State.logRec_recorded (s : State) (r : FaultRec) : s.Recorded (s.logRec r) := by
  unfold State.logRec
  split
  · -- Reducible: an unfolding `rfl` counts the log's 1,024 places down one by one.
    dsimp only [State.Recorded]
    exact ⟨by with_reducible rfl, fun _ => ⟨_, _, rfl⟩⟩
  · exact ⟨rfl, fun _ => ⟨_, _, rfl⟩⟩

theorem State.postRec_recorded (s : State) (n : SiteId) (r : FaultRec) : s.Recorded (s.postRec n r) := by
  unfold State.postRec
  split
  · exact s.logRec_recorded r
  · refine ⟨rfl, fun m => ?_⟩
    by_cases hm : m = n
    · subst hm
      rw [State.setSite_self]
      split <;> exact ⟨_, _, rfl⟩
    · exact ⟨_, _, State.setSite_other _ _ _ _ hm⟩

namespace State.Recorded
variable {s t : State} (h : s.Recorded t)
include h

theorem tiles : t.tiles = s.tiles := by rw [h.1]
theorem companies : t.companies = s.companies := by rw [h.1]
theorem mem : t.mem = s.mem := by rw [h.1]
theorem cue : t.cue = s.cue := by rw [h.1]
theorem weightBad : t.weightBad = s.weightBad := by rw [h.1]
theorem tileAt (k : TileKey) : t.tileAt k = s.tileAt k := by rw [State.tileAt, h.tiles, ← State.tileAt]
theorem coAt (n : Nat) : t.coAt n = s.coAt n := by rw [State.coAt, h.companies, ← State.coAt]
theorem tilesOf (n : Nat) : t.tilesOf n = s.tilesOf n := by rw [State.tilesOf, h.tiles, ← State.tilesOf]

theorem lossAt (n : SiteId) : (t.sites[n]).lossAt = (s.sites[n]).lossAt := by
  obtain ⟨r, d, hn⟩ := h.2 n
  rw [hn]
  rfl

theorem regions (n : SiteId) : (t.sites[n]).regions = (s.sites[n]).regions := by
  obtain ⟨r, d, hn⟩ := h.2 n
  rw [hn]

theorem modCounts (n : SiteId) : (t.sites[n]).modCounts = (s.sites[n]).modCounts := by
  obtain ⟨r, d, hn⟩ := h.2 n
  rw [hn]

theorem weightBaseAt (n : SiteId) (q : Fin 4) (r c : Fin 16) : t.weightBaseAt n q r c = s.weightBaseAt n q r c := by
  simp only [State.weightBaseAt, h.regions]

theorem pastLoss (n : SiteId) : t.pastLoss n = s.pastLoss n := by
  simp only [State.pastLoss, State.lossOf, h.lossAt, h.cue]

end State.Recorded

/-! ### Sites and decisions set anew (12 R317; 13 R326, R333; 15 R365) -/

/-- The machine with its sites and the keeper's decisions others. -/
def State.Resited (s t : State) : Prop := t = { s with sites := t.sites, decisions := t.decisions }

namespace State.Resited
variable {s t : State}

theorem refl (s : State) : s.Resited s := rfl

theorem trans {u : State} (h : s.Resited t) (h' : t.Resited u) : s.Resited u := by
  unfold State.Resited at *
  rw [h', h]

theorem foldl {α : Type} {f : State → α → State} (hf : ∀ (u : State) a, u.Resited (f u a)) (l : List α) (s : State) : s.Resited (l.foldl f s) :=
  List.foldlRecOn _ _ (motive := s.Resited) (refl s) fun u hu a _ => hu.trans (hf u a)

variable (h : s.Resited t)
include h

theorem tiles : t.tiles = s.tiles := by rw [h]
theorem companies : t.companies = s.companies := by rw [h]
theorem circuits : t.circuits = s.circuits := by rw [h]
theorem mem : t.mem = s.mem := by rw [h]
theorem ops : t.ops = s.ops := by rw [h]
theorem mbox : t.mbox = s.mbox := by rw [h]
theorem tileAt (k : TileKey) : t.tileAt k = s.tileAt k := by rw [State.tileAt, h.tiles, ← State.tileAt]
theorem coAt (n : Nat) : t.coAt n = s.coAt n := by rw [State.coAt, h.companies, ← State.coAt]

end State.Resited

theorem State.setRegion_resited (s : State) (n : SiteId) (q : Fin 4) (f : Region → Region) : s.Resited (s.setRegion n q f) := rfl

theorem State.restIslands_resited (s : State) : s.Resited s.restIslands := by
  refine State.Resited.foldl (fun u n => ?_) _ s
  split
  · exact State.Resited.refl u
  · exact State.Resited.foldl (fun v q => v.setRegion_resited n q _) _ u

theorem State.remap_resited (s : State) : s.Resited s.remap := by
  refine State.Resited.foldl (fun u n => State.Resited.foldl (fun v q => ?_) _ u) _ s
  split
  · exact State.Resited.refl v
  · exact v.setRegion_resited n q _

theorem State.judge_resited (s : State) (n : SiteId) (to_ : SiteState) (cause : BitVec 8) : s.Resited (s.judge n to_ cause) := by
  unfold State.judge State.decide_
  split <;> rfl

theorem State.reuse_resited (s : State) : s.Resited s.reuse := by
  refine State.Resited.foldl (fun u n => ?_) _ s
  split
  · exact State.Resited.refl u
  · split
    · exact u.judge_resited n _ _
    · exact u.judge_resited n _ _
    · exact u.judge_resited n _ _
    · exact State.Resited.refl u

end Sys2Proof.Machine
end

section
/-! SUPPORT. Overlay fetches (09 R245, R246), page faults and their service (11 R303, 14 R340), migration (10 R276); then O50. -/
namespace Sys2Proof.Machine

/-! ### Segments fetched (09 R245) -/

theorem State.fetchFrom_bundles (s : State) (k : XlateKey) (root : Nat) (l : List Nat) : (s.fetchFrom k root l).bundles =
    (s.fetchFrom k root l).frames.map fun pa => BitVec.ofNat 256 (memNat s.mem pa 32) := by
  induction l with
  | nil => rfl
  | cons va l ih =>
    simp only [State.fetchFrom]
    split
    · split
      · rfl
      · rw [List.map_cons, ih]
    · rfl
    · rfl

/-- Where no translation fails, every address has its bundle. -/
theorem State.fetchFrom_length (s : State) (k : XlateKey) (root : Nat) (l : List Nat) (h : (s.fetchFrom k root l).bad = none) :
    (s.fetchFrom k root l).bundles.length = l.length := by
  induction l with
  | nil => rfl
  | cons va l ih =>
    simp only [State.fetchFrom] at h ⊢
    split
    · split
      · next hw hh => simp [hw, hh] at h
      · next hw hh => simp only [hw, hh, Bool.false_eq_true, if_false] at h; rw [List.length_cons, ih h, List.length_cons]
    · next hw => simp [hw] at h
    · next hw => simp [hw] at h

theorem State.fetch_length {s : State} {c : Company} {site : SiteId} {q : Fin 4} {seg : Nat} (h : (s.fetch c site q seg).bad = none) {e : Nat × Nat}
    (he : c.info.ovTab[seg]? = some e) : (s.fetch c site q seg).bundles.length = e.2 := by
  rw [State.fetch, State.fetchFrom_length _ _ _ _ h, he, Option.elim_some, List.length_map, List.length_range]

/-! ### Reads of a fetch (11 R300) -/

theorem State.ReadOf.tiles {s t : State} (h : s.ReadOf t) : t.tiles = s.tiles := by rw [h]

theorem State.ReadOf.pfNext {s t : State} (h : s.ReadOf t) : t.pfNext = s.pfNext := by rw [h]

/-- Table entries are all read where no block is poisoned. -/
theorem State.walkerRead_of_clean (c : Company) (p : RecPlace) (ws : List Nat) : ∀ s : State, (∀ a n, s.poisoned a n = false) →
    (s.walkerRead c p ws).2 = true := by
  induction ws with
  | nil => exact fun _ _ => rfl
  | cons a ws ih =>
    intro s hp
    rw [State.walkerRead, hp, if_neg Bool.false_ne_true]
    exact ih _ fun b n => by rw [(s.freshRead_marked _ _ _ _).poisoned, hp]

/-- Frames are all read where no block is poisoned. -/
theorem State.readFrames_readOf (c : Company) (p : RecPlace) (fs : List Nat) : ∀ s : State, (∀ a n, s.poisoned a n = false) →
    ∃ t, fs.foldl (fun (x : State × Bool) a => if x.2 then x.1.companyRead c p a 32 else x) (s, true) = (t, true) ∧ s.ReadOf t := by
  induction fs with
  | nil => exact fun s _ => ⟨s, rfl, rfl⟩
  | cons a fs ih =>
    intro s hp
    obtain ⟨t, ht, hm⟩ := State.companyRead_marked c p (hp a 32)
    obtain ⟨u, hu, hr⟩ := ih t fun b n => by rw [hm.poisoned, hp]
    exact ⟨u, by rw [List.foldl_cons, if_pos rfl, ht, hu], hm.readOf.trans hr⟩

theorem State.readFetch_readOf {s : State} (c : Company) (p : RecPlace) (f : SegFetch) (hp : ∀ a n, s.poisoned a n = false) :
    ∃ t, s.readFetch c p f = (t, true) ∧ s.ReadOf t := by
  have filled : s.ReadOf (s.fill f.fills) := State.fill_readOf _ _
  have stands := State.walkerRead_of_clean c p f.walks.eraseDups (s.fill f.fills) fun a n => by rw [filled.poisoned, hp]
  have walked := filled.trans (State.walkerRead_readOf c p f.walks.eraseDups _ stands)
  obtain ⟨t, ht, hr⟩ := State.readFrames_readOf c p f.frames _ fun a n => by rw [walked.poisoned, hp]
  exact ⟨t, by rw [State.readFetch, ← ht, ← stands], walked.trans hr⟩

/-! ### Tiles that share a fetch (09 R245) -/

theorem State.ReadOf.sharers {s t : State} (h : s.ReadOf t) (k : TileKey) : t.sharers k = s.sharers k := by
  rw [State.sharers, h.tileAt, h.tiles, ← State.sharers]

theorem State.mem_sharers {s : State} {k : TileKey} {t u : Tile} {o : OvlReq} (ht : s.tileAt k = some t) (ho : t.st.ovl = some o) :
    u ∈ s.sharers k ↔ u ∈ s.tiles ∧ u.key.co = k.co ∧ u.site = t.site ∧ u.region = t.region ∧
      ∃ y, u.st.ovl = some y ∧ y.seg = o.seg ∧ y.entry = o.entry := by
  simp only [State.sharers, ht, ho, List.mem_filter, Bool.and_eq_true, beq_iff_eq, and_assoc]
  refine and_congr_right fun _ => and_congr_right fun _ => and_congr_right fun _ => and_congr_right fun _ => ?_
  cases u.st.ovl with
  | none => simp
  | some y => simp only [Bool.and_eq_true, beq_iff_eq, Option.some.injEq, exists_eq_left', @eq_comm _ o.seg, @eq_comm _ o.entry]

theorem State.sharers_subset {s : State} {k : TileKey} {u : Tile} (h : u ∈ s.sharers k) : u ∈ s.tiles := by
  unfold State.sharers at h
  split at h
  · exact absurd h List.not_mem_nil
  · exact List.mem_of_mem_filter h

section
variable {s u : State} {k : TileKey} {f : Tile → Tile} (hf : ∀ t, (f t).key = t.key) (hr : s.ReadOf u)
include hf hr

/-- A tile that shares a fetch, the only one of its key, stands changed. -/
theorem State.tileAt_mapSharers {x : Tile} (hx : x ∈ s.sharers k) (hone : ∀ y ∈ s.tiles, y.key = x.key → y = x) :
    (u.mapSharers k f).tileAt x.key = some (f x) := by
  rw [State.mapSharers, hr.sharers]
  refine State.tileAt_foldl_setTile (f := fun t => some (f t)) (fun t v hv => Option.some.inj hv ▸ hf t) rfl _ _
    (fun y hy => hone y (State.sharers_subset hy)) (.inl ⟨hx, ?_⟩)
  rw [hr.tileAt, State.tileAt, List.find?_isSome]
  exact ⟨x, State.sharers_subset hx, decide_eq_true rfl⟩

theorem State.tileAt_mapSharers_alone {t : Tile} (ht : s.tileAt k = some t) (hone : s.sharers k = [t]) :
    (u.mapSharers k f).tileAt k = some (f t) := by
  rw [State.mapSharers, hr.sharers, hone]
  exact State.tileAt_setTile_self ((hf t).trans (State.tileAt_key ht)) ((hr.tileAt k).trans ht)

end

theorem State.mapSharers_pfNext (s : State) (k : TileKey) (f : Tile → Tile) : (s.mapSharers k f).pfNext = s.pfNext :=
  foldl_keeps (g := State.pfNext) (fun s t => s.setTile_pfNext (f t)) _ _

theorem Tile.fetched_key (seg : BitVec 16) (bs : List Bundle) (t : Tile) : (t.fetched seg bs).key = t.key := rfl

theorem Tile.ovlFault_key (b : Bool) (t : Tile) : (t.ovlFault b).key = t.key := rfl

/-! ### Overlay fetches (09 R245, R246) -/

/-- The segment that a tile's overlay request asks for, as its region's overlay engine reads it. -/
abbrev Here.fetched (h : Here) (o : OvlReq) : SegFetch := h.s.fetch h.co h.t.site h.t.region o.seg.toNat

section
variable {s : State} {k : TileKey} {h : Here} {o : OvlReq} (hs : s.hereAt k = some h) (ho : h.st.ovl = some o) (hdone : o.done = false)
  (hfault : o.fault = false) (hf : h.fetches = true)
include hs ho hdone hfault hf

theorem exec_overlayFetchCompletion (hb : (h.fetched o).bad = none) (hp : ∀ a n, s.poisoned a n = false) :
    ∃ u, s.ReadOf u ∧ exec (.overlayFetchCompletion k) s = .next (u.mapSharers k fun t => t.fetched o.seg (h.fetched o).bundles) := by
  obtain ⟨rfl, -, -, -⟩ := State.hereAt_parts hs
  obtain ⟨u, hu, hr⟩ := State.readFetch_readOf h.co (h.s.placeOf h.t) (h.fetched o) hp
  refine ⟨u, hr, exec_of_atTile hs rfl ?_⟩
  simp only [ho, hdone, hfault, hb, hf, hu, Option.isSome_none, Bool.not_true, Bool.or_false, Bool.false_eq_true, if_false, if_true]

theorem exec_overlayFetchCompletion_of_bad {b : Nat × Nat} (hb : (h.fetched o).bad = some b) :
    exec (.overlayFetchCompletion k) s = .next s := by
  obtain ⟨rfl, -, -, -⟩ := State.hereAt_parts hs
  refine exec_of_atTile hs rfl ?_
  simp only [ho, hdone, hfault, hb, hf, Option.isSome_some, Bool.or_true, Bool.true_or, if_true]

theorem exec_overlayFetchTranslationFault {c va : Nat} (hb : (h.fetched o).bad = some (c, va)) (hp : ∀ a n, s.poisoned a n = false) :
    ∃ u, s.ReadOf u ∧ exec (.overlayFetchTranslationFault k) s = .next ((u.mapSharers k (Tile.ovlFault true)).reportFault
      ⟨0, h.co.num, o.seg.toNat, c, va, 0, s.cue, k, .overlay, true⟩) := by
  obtain ⟨rfl, -, -, -⟩ := State.hereAt_parts hs
  obtain ⟨u, hu, hr⟩ := State.readFetch_readOf h.co (h.s.placeOf h.t) (h.fetched o) hp
  refine ⟨u, hr, exec_of_atTile hs rfl ?_⟩
  simp only [ho, hdone, hfault, hb, hf, hu, Bool.not_true, Bool.or_false, Bool.false_eq_true, if_false]

end

/-! ### Requests (11 R303, 14 R340) -/

theorem State.closeReq_closed (s : State) (i : W32) : ∀ q ∈ (s.closeReq i).pfReqs, q.idx = i → q.live = false := by
  intro q hq hi
  obtain ⟨r, -, rfl⟩ := List.mem_map.mp hq
  by_cases hr : r.idx = i
  · rw [if_pos hr]
  · rw [if_neg hr] at hi
    exact absurd hi hr

@[simp] theorem State.closeReq_tileAt (s : State) (i : W32) (k : TileKey) : (s.closeReq i).tileAt k = s.tileAt k := rfl

/-- A request reported once more stands under the next index, its limit counting from the first report. -/
theorem State.exists_reportAgain {s t : State} (h : t.pfNext = s.pfNext) (r : PfReq) (c va : Nat) : (t.reportAgain r c va).pfNext = s.pfNext + 1 ∧
    ∃ q ∈ (t.reportAgain r c va).pfReqs, q.idx = s.pfNext ∧ q.cause = c ∧ q.va = va ∧ q.first = r.first ∧ q.live = true := by
  rw [← h]
  exact ⟨rfl, _, State.mem_reportFault _ _, rfl, rfl, rfl, rfl, rfl⟩

/-- The entry that a request suspends stands in the tile of the request. -/
theorem State.hereAt_of_suspendedBy {s : State} {r : PfReq} {h : Here} {x : AcEntry} (hx : s.suspendedBy r = some (h, x)) :
    s.hereAt r.tile = some h := by
  obtain ⟨g, hg, hx⟩ := Option.bind_eq_some_iff.mp hx
  obtain ⟨y, -, hy⟩ := Option.map_eq_some_iff.mp hx
  rw [hg, (Prod.mk.inj hy).1]

theorem PfReq.samePage_iff {r : PfReq} {va : Nat} : r.samePage va = true ↔ va / 4096 = r.va / 4096 := beq_iff_eq

theorem PfReq.samePage_page {r : PfReq} {p : Piece} : r.samePage p.page = true ↔ p.mem / 4096 = r.va / 4096 := by
  rw [PfReq.samePage_iff, Piece.page, Nat.mul_div_cancel _ (by decide)]

/-- Draws made change nothing else of the machine. -/
theorem Here.exists_hostDrawn (h : Here) (ps : List (Piece × Place)) : ∃ n, h.hostDrawn ps = { h with s := { h.s with free := n } } := by
  unfold Here.hostDrawn
  split <;> exact ⟨_, rfl⟩

/-! ### Walks done again (11 R303) -/

/-- The machine as the tables of a suspended entry are read again, the entry in another stage. -/
def Here.restaged (h : Here) (store : Bool) (x : AcEntry) (g : AcStage) : State :=
  ({ h with s := (h.readTables (h.reachLeft store x)).1 } : Here).put (h.st.restage store x.id g)

section
variable {s : State} {r : PfReq} {h : Here} {x : AcEntry} (hx : s.suspendedBy r = some (h, x)) (hk : r.kind = .load ∨ r.kind = .store)
include hx

theorem Here.restaged_tileAt {store : Bool} (hr : (h.readTables (h.reachLeft store x)).2 = true) (g : AcStage) :
    (h.restaged store x g).tileAt r.tile = some { h.t with st := h.st.restage store x.id g } := by
  obtain ⟨rfl, ht, -, -⟩ := State.hereAt_parts (State.hereAt_of_suspendedBy hx)
  have key : h.t.key = r.tile := State.tileAt_key ht
  exact State.tileAt_setTile_self (by exact key) (((Here.readTables_readOf hr).tileAt _).trans ht)

include hk

theorem State.retryReq_goesOn (hr : (h.readTables (h.reachLeft (decide (r.kind = .store)) x)).2 = true)
    (hf : ∀ p c, (h.reachLeft (decide (r.kind = .store)) x).fault = some (p, c) → p.mem / 4096 ≠ r.va / 4096) :
    s.retryReq r = (h.restaged (decide (r.kind = .store)) x .waiting).closeReq r.idx := by
  cases hq : (h.reachLeft (decide (r.kind = .store)) x).fault with
  | none => obtain e | e := hk <;> (simp only [e] at hr hq; simp only [State.retryReq, e, hx, hr, hq]; rfl)
  | some f =>
    have later : r.samePage f.1.page = false := Bool.eq_false_iff.mpr (mt PfReq.samePage_page.mp (hf f.1 f.2 hq))
    obtain e | e := hk <;> (simp only [e] at hr hq; simp only [State.retryReq, e, hx, hr, hq, later]; rfl)

theorem State.retryReq_again (hr : (h.readTables (h.reachLeft (decide (r.kind = .store)) x)).2 = true) {p : Piece} {c : Nat}
    (hf : (h.reachLeft (decide (r.kind = .store)) x).fault = some (p, c)) (hp : p.mem / 4096 = r.va / 4096) :
    s.retryReq r = (h.restaged (decide (r.kind = .store)) x (.suspended c (p.pos / 4096) s.pfNext)).reportAgain r c p.page := by
  have same : r.samePage p.page = true := PfReq.samePage_page.mpr hp
  obtain e | e := hk <;> (simp only [e] at hr hf; simp only [State.retryReq, e, hx, hr, hf, same]; rfl)

end

section
variable {s : State} {r : PfReq} {h : Here} {o : OvlReq} (hk : r.kind = .overlay) (hs : s.hereAt r.tile = some h) (ho : h.st.ovl = some o)
  (hp : ∀ a n, s.poisoned a n = false)
include hk hs ho hp

theorem State.retryReq_overlay_goesOn (hf : ∀ c va, (h.fetched o).bad = some (c, va) → va / 4096 ≠ r.va / 4096) :
    ∃ u, s.ReadOf u ∧ s.retryReq r = (u.mapSharers r.tile (Tile.ovlFault false)).closeReq r.idx := by
  obtain ⟨rfl, -, -, -⟩ := State.hereAt_parts hs
  obtain ⟨u, hu, hr⟩ := State.readFetch_readOf h.co (h.s.placeOf h.t) (h.fetched o) hp
  refine ⟨u, hr, ?_⟩
  cases hb : (h.fetched o).bad with
  | none => simp only [State.retryReq, hk, hs, ho, hu, hb, Bool.not_true, Bool.false_eq_true, if_false]
  | some b =>
    have later : r.samePage b.2 = false := Bool.eq_false_iff.mpr (mt PfReq.samePage_iff.mp (hf b.1 b.2 hb))
    simp only [State.retryReq, hk, hs, ho, hu, hb, later, Bool.not_true, Bool.false_eq_true, if_false]

theorem State.retryReq_overlay_again {c va : Nat} (hb : (h.fetched o).bad = some (c, va)) (hva : va / 4096 = r.va / 4096) :
    ∃ u, s.ReadOf u ∧ s.retryReq r = u.reportAgain r c va := by
  obtain ⟨rfl, -, -, -⟩ := State.hereAt_parts hs
  obtain ⟨u, hu, hr⟩ := State.readFetch_readOf h.co (h.s.placeOf h.t) (h.fetched o) hp
  have same : r.samePage va = true := PfReq.samePage_iff.mpr hva
  exact ⟨u, hr, by simp only [State.retryReq, hk, hs, ho, hu, hb, same, Bool.not_true, Bool.false_eq_true, if_false, if_true]⟩

end

/-! ### Requests acknowledged, and those that stand too long (11 R303) -/

/-- What a load has still to read before a page of its stream. -/
abbrev Here.unreadTo (h : Here) (e : SegEntry) (x : AcEntry) (page : Nat) : List (Piece × Place) :=
  x.unread (h.reachOf e false x x.toRead) (4096 * page)

section
variable {s : State} {i : BitVec 32} {r : PfReq} (hr : (s.pfReqs.find? fun r => r.idx == i && r.live) = some r)
include hr

theorem exec_pfack : exec (.pfack i) s = .next (if s.serviceUp && decide ((s.pfHead - i - 1).toNat < 2 ^ 31) then s.retryReq r else s) := by
  show execPfack i s = _
  simp only [execPfack, hr]

theorem exec_pageFaultUnresolvable_early (h : r.cause = 3 ∨ s.cue < r.first + 2 ^ 26) : exec (.pageFaultUnresolvable i) s = .next s := by
  show execPageFaultUnresolvable i s = _
  simp only [execPageFaultUnresolvable, hr]
  exact if_pos h

variable (hcause : r.cause ≠ 3) (hlate : r.first + 2 ^ 26 ≤ s.cue)
include hcause hlate

theorem exec_pageFaultUnresolvable_gone (ht : s.tileAt r.tile = none) (hk : r.kind = .overlay) : exec (.pageFaultUnresolvable i) s =
    .next ((s.closeReq i).endCause r.co 0x3a (BitVec.ofNat 64 r.va) 0 0 none) := by
  have due : ¬(r.cause = 3 ∨ s.cue < r.first + faultLimit) := fun h => h.elim hcause (Nat.not_lt.mpr hlate)
  show execPageFaultUnresolvable i s = _
  simp only [execPageFaultUnresolvable, hr, if_neg due, hk, State.closeReq_tileAt, ht]

section
variable (hk : r.kind = .load) {h : Here} {x : AcEntry} (hx : (s.closeReq i).suspendedBy r = some (h, x)) {q page : Nat} {j : W32}
  (hstage : x.stage = .suspended q page j) {e : SegEntry} (he : h.segOf x.seg = some e)
include hk hx hstage he

theorem exec_pageFaultUnresolvable_load : ∃ s1, (s.closeReq i).Recorded s1 ∧ exec (.pageFaultUnresolvable i) s =
    .next (if usesHost (h.unreadTo e x page) && !s.serviceUp then s
      else (({ h with s := s1 } : Here).hostDrawn (h.unreadTo e x page)).loadDo x h.st.loadQ.tail
        (h.reachOf e false x x.toRead) (some (((hostError (h.unreadTo e x page) s1.free).map
          fun p => (3, p)).getD (1, 4096 * page)))) := by
  have due : ¬(r.cause = 3 ∨ s.cue < r.first + faultLimit) := fun h => h.elim hcause (Nat.not_lt.mpr hlate)
  obtain ⟨-, ht, -, -⟩ := State.hereAt_parts (State.hereAt_of_suspendedBy hx)
  refine ⟨_, (s.closeReq i).postRec_recorded h.t.site
    (faultRec 6 0x20 r.co ((s.closeReq i).placeOf h.t) 0 (BitVec.ofNat 64 r.va) 0 s.cue), ?_⟩
  show execPageFaultUnresolvable i s = _
  simp only [execPageFaultUnresolvable, hr, if_neg due, hk, hx, hstage, he, ht]
  rfl

/-- A load whose fault stands too long ends: with an error of its earlier accesses to the host, the draws of it made from `n` on, or at the page that
has no mapping. -/
theorem pageFaultUnresolvable_load_ends : ∃ s1 n, s1.tiles = s.tiles ∧ s1.mem = s.mem ∧ exec (.pageFaultUnresolvable i) s =
    .next (if usesHost (h.unreadTo e x page) && !s.serviceUp then s
      else ({ h with s := s1 } : Here).loadDo x h.st.loadQ.tail (h.reachOf e false x x.toRead)
        (some (((hostError (h.unreadTo e x page) n).map fun p => (3, p)).getD (1, 4096 * page)))) := by
  obtain ⟨s1, recorded, run⟩ := exec_pageFaultUnresolvable_load hr hcause hlate hk hx hstage he
  obtain ⟨n, drawn⟩ := ({ h with s := s1 } : Here).exists_hostDrawn (h.unreadTo e x page)
  exact ⟨{ s1 with free := n }, s1.free, recorded.tiles, recorded.mem, by rw [run, drawn]⟩

end

end

/-! ### Migration (10 R276) -/

section
variable {s : State} {co : Nat} {seg : Fin 64} {va frame : BitVec 48} {c : Company} {e : SegEntry} {a b : Nat} {p : Pte}
  (hc : s.coAt co = some c) (he : c.info.segtab[seg.val]? = some e) (hpaged : e.paged = true)
  (hleaf : s.leafOf va.toNat walkLevels e.root = some (a, p, b)) (haper : p.aper = 0) (halign : frame.toNat % 2 ^ b = 0)
  (hpop : populatedRange frame.toNat (2 ^ b) = true) (hto : s.hole frame.toNat = false) (hfrom : s.hole p.pa = false)
include hc he hpaged hleaf haper halign hpop hto hfrom

theorem exec_pageMigration_mark (hmig : p.mig = false) :
    exec (.pageMigration co seg va frame) s = .next (s.placeWrite .leaf (cellsAt a (leBytes 8 (memNat s.mem a 8 + 8)))) := by
  show execPageMigration co seg va frame s = _
  simp only [execPageMigration, hc, he, hleaf, hpaged, haper, halign, hpop, hto, hfrom, hmig]
  rfl

variable (hmig : p.mig = true)
include hmig

theorem exec_pageMigration_waits (hbusy : s.referenced co seg.val (va.toNat / 2 ^ b * 2 ^ b) (2 ^ b) = true ∨
      ∃ d ∈ s.companies, ∃ w ∈ d.gated, w.touches p.pa (2 ^ b) = true) :
    exec (.pageMigration co seg va frame) s = .next s := by
  have busy : (s.referenced co seg.val (va.toNat / 2 ^ b * 2 ^ b) (2 ^ b) ||
      s.companies.any fun d => d.gated.any fun w => w.touches p.pa (2 ^ b)) = true := by
    simpa only [Bool.or_eq_true, List.any_eq_true] using hbusy
  show execPageMigration co seg va frame s = _
  simp only [execPageMigration, hc, he, hleaf, hpaged, haper, halign, hpop, hto, hfrom, hmig, busy]
  rfl

/-- The machine with a page moved: its bytes in the new frame, which its entry names, the mark gone. -/
def State.pageMoved (s : State) (frame a b : Nat) (p : Pte) : State :=
  (((s.freshRead none 0xffff p.pa (2 ^ b)).placeWrite .leaf (cellsAt frame (memBytes s.mem p.pa (2 ^ b)))).placeWrite .leaf (cellsAt a
    (leBytes 8 (2 ^ 48 * (memNat s.mem a 8 / 2 ^ 48) + frame + memNat s.mem a 8 % 8))))

theorem exec_pageMigration_moves (hfree : s.referenced co seg.val (va.toNat / 2 ^ b * 2 ^ b) (2 ^ b) = false)
    (hgate : ∀ d ∈ s.companies, ∀ w ∈ d.gated, w.touches p.pa (2 ^ b) = false) :
    exec (.pageMigration co seg va frame) s = .next (((s.pageMoved frame.toNat a b p).pfReqs.filter fun r => r.live && r.co == co && r.cause == 3).foldl
      (fun s r => s.retryReq r) (s.pageMoved frame.toNat a b p)) := by
  have quiet : (s.referenced co seg.val (va.toNat / 2 ^ b * 2 ^ b) (2 ^ b) ||
      s.companies.any fun d => d.gated.any fun w => w.touches p.pa (2 ^ b)) = false := by
    simpa only [Bool.or_eq_false_iff, List.any_eq_false, Bool.not_eq_true] using ⟨hfree, hgate⟩
  show execPageMigration co seg va frame s = _
  simp only [execPageMigration, hc, he, hleaf, hpaged, haper, halign, hpop, hto, hfrom, hmig, quiet]
  rfl

end

/-- A write placed and performed changes no tile, company or request. -/
theorem State.placeWrite_others (s : State) (p : Placer) (cs : List Host.Cell) : (s.placeWrite p cs).tiles = s.tiles ∧
    (s.placeWrite p cs).companies = s.companies ∧ (s.placeWrite p cs).pfReqs = s.pfReqs := by
  obtain ⟨m, o, w, q, e⟩ := ({ s with nextOrd := s.nextOrd + 1 } : State).perform_memoryOf (s.place0 p 0) cs
  rw [State.placeWrite, e]
  exact ⟨rfl, rfl, rfl⟩

/-- Nor does a page moved. -/
theorem State.pageMoved_others (s : State) (frame a b : Nat) (p : Pte) : (s.pageMoved frame a b p).tiles = s.tiles ∧
    (s.pageMoved frame a b p).companies = s.companies ∧ (s.pageMoved frame a b p).pfReqs = s.pfReqs := by
  obtain ⟨e, -⟩ := s.freshRead_marked none 0xffff p.pa (2 ^ b)
  simp only [State.pageMoved, State.placeWrite_others]
  rw [e]
  exact ⟨rfl, rfl, rfl⟩

end Sys2Proof.Machine

open Sys2Proof Sys2Proof.Machine

/-- Settles O50: the fetches by `exec_overlayFetchCompletion` and its kin with `State.tileAt_mapSharers`, the faults by what `State.retryReq` and the
limit leave, the migration by the three ends of `exec_pageMigration`. -/
theorem overlayAndPageEvents : Obligations.OverlayAndPageEvents := by
  unfold Obligations.OverlayAndPageEvents
  refine ⟨fun s k h o hs ho hdone hfault hf => ?fetches, fun s i r hr => ?faults,
    fun s co seg va frame c e a b p hc he hpaged hleaf haper halign hpop hto hfrom => ?migration⟩
  case fetches =>
    obtain ⟨rfl, ht, -, -⟩ := State.hereAt_parts hs
    refine ⟨State.fetchFrom_bundles _ _ _ _, fun hb e he => State.fetch_length hb he, fun hb hp => ?_, fun c va hb hp => ?_,
      fun u => State.mem_sharers ht ho⟩
    · obtain ⟨u, hr, run⟩ := exec_overlayFetchCompletion hs ho hdone hfault hf hb hp
      refine ⟨_, run, fun x hx hone => ⟨_, State.tileAt_mapSharers (Tile.fetched_key _ _) hr hx hone, rfl, rfl, rfl⟩, fun hone => ?_⟩
      exact ⟨_, State.tileAt_mapSharers_alone (Tile.fetched_key _ _) hr ht hone, rfl, rfl, congrArg (Option.map _) ho⟩
    · obtain ⟨u, hr, run⟩ := exec_overlayFetchTranslationFault hs ho hdone hfault hf hb hp
      have next : (u.mapSharers k (Tile.ovlFault true)).pfNext = h.s.pfNext := (u.mapSharers_pfNext _ _).trans hr.pfNext
      refine ⟨exec_overlayFetchCompletion_of_bad hs ho hdone hfault hf hb, _, run, congrArg (· + 1) next,
        ⟨_, State.mem_reportFault _ _, next, rfl, rfl, rfl, rfl⟩,
        fun x hx hone => ⟨_, State.tileAt_mapSharers (Tile.ovlFault_key true) hr hx hone, rfl⟩, fun hone => ?_⟩
      exact ⟨_, State.tileAt_mapSharers_alone (Tile.ovlFault_key true) hr ht hone, congrArg (Option.map _) ho⟩
  case faults =>
    refine ⟨fun hup hseen => ?seen, fun hdown => ?unserved, exec_pageFaultUnresolvable_gone hr,
      fun h x e q page j hcause hlate hk hx hstage he => ?late, exec_pageFaultUnresolvable_early hr, fun h x hk hx => ?retried,
      fun h o hk hs ho hp => ?overlay⟩
    case seen =>
      rw [exec_pfack hr, hup, decide_eq_true hseen]
      rfl
    case unserved =>
      rw [exec_pfack hr, hdown]
      rfl
    case late =>
      obtain ⟨s1, n, htiles, hmem, run⟩ := pageFaultUnresolvable_load_ends hr hcause hlate hk hx hstage he
      refine ⟨fun hhost => ⟨s1, htiles, hmem, ?_⟩, fun hhost hdown => ?_, fun hhost hup => ?_⟩
      · rw [run, hhost, hostError_of_not_usesHost hhost]
        rfl
      · rw [run, hhost, hdown]
        rfl
      · rw [hhost, hup] at run
        cases hpage : hostError (h.unreadTo e x page) n with
        | none =>
          rw [hpage] at run
          exact .inl ⟨s1, htiles, hmem, run⟩
        | some p =>
          obtain ⟨y, hy, hyhost, rfl⟩ := mem_of_hostError hpage
          rw [hpage] at run
          exact .inr ⟨y, hy, hyhost, s1, htiles, hmem, run⟩
    case retried =>
      intro store reach hread
      obtain ⟨rfl, -, -, -⟩ := State.hereAt_parts (State.hereAt_of_suspendedBy hx)
      by_cases again : ∃ p c, reach.fault = some (p, c) ∧ p.mem / 4096 = r.va / 4096
      · obtain ⟨p, c, hf, hp⟩ := again
        rw [State.retryReq_again hx hk hread hf hp]
        refine ⟨_, h.restaged_tileAt hx hread _, fun hn => absurd (hf.symm.trans hn) (Option.some_ne_none _), fun p' c' hf' hp' => ?_,
          fun p' c' hf' _ => ?_⟩
        · obtain ⟨rfl, rfl⟩ := Prod.mk.inj (Option.some.inj (hf'.symm.trans hf))
          exact absurd hp hp'
        · obtain ⟨rfl, rfl⟩ := Prod.mk.inj (Option.some.inj (hf'.symm.trans hf))
          exact ⟨rfl, State.exists_reportAgain (Here.readTables_readOf hread).pfNext r _ _⟩
      · have later : ∀ p c, reach.fault = some (p, c) → p.mem / 4096 ≠ r.va / 4096 := fun p c hf hp => again ⟨p, c, hf, hp⟩
        rw [State.retryReq_goesOn hx hk hread later]
        have closed := (h.restaged store x .waiting).closeReq_closed r.idx
        exact ⟨_, h.restaged_tileAt hx hread _, fun _ => ⟨rfl, closed⟩, fun _ _ _ _ => ⟨rfl, closed⟩, fun p c hf hp => absurd hp (later p c hf)⟩
    case overlay =>
      obtain ⟨rfl, -, -, -⟩ := State.hereAt_parts hs
      refine ⟨fun hf => ?_, fun c va hb hva => ?_⟩
      · obtain ⟨u, hu, retried⟩ := State.retryReq_overlay_goesOn hk hs ho hp hf
        rw [retried]
        exact ⟨fun x hx hone => ⟨_, State.tileAt_mapSharers (Tile.ovlFault_key false) hu hx hone, rfl⟩, State.closeReq_closed _ _⟩
      · obtain ⟨u, hu, retried⟩ := State.retryReq_overlay_again hk hs ho hp hb hva
        rw [retried]
        exact ⟨hu.tiles, State.exists_reportAgain hu.pfNext r c va⟩
  case migration =>
    refine ⟨exec_pageMigration_mark hc he hpaged hleaf haper halign hpop hto hfrom,
      exec_pageMigration_waits hc he hpaged hleaf haper halign hpop hto hfrom, fun hmig hfree hgate hreqs => ?_⟩
    obtain ⟨tiles, companies, reqs⟩ := s.pageMoved_others frame.toNat a b p
    have none_waits : ((s.pageMoved frame.toNat a b p).pfReqs.filter fun r => r.live && r.co == co && r.cause == 3) = [] :=
      List.filter_eq_nil_iff.mpr fun r hr => by rw [beq_eq_false_iff_ne.mpr (hreqs r (reqs ▸ hr)), Bool.and_false]; exact Bool.false_ne_true
    refine ⟨_, exec_pageMigration_moves hc he hpaged hleaf haper halign hpop hto hfrom hmig hfree hgate, ?_⟩
    rw [none_waits]
    exact ⟨rfl, tiles, companies⟩

end

section
/-! SUPPORT. Launches as they start and end (09 R235, R260, R261; 11 R298), rollbacks (09 R250, R255), errors in storage (11 R299, R300, R302);
then O53. -/
namespace Sys2Proof.Machine

/-! ### The start of a launch (09 R235) -/

/-- A company as it starts: every cue of it is the deck cue, its level the highest target of its sites. -/
def Company.started (s : State) (c : Company) : Company :=
  let top := c.gangs.foldl (fun (m : Nat) g => max m (s.sites[g.site]).target.toNat) 0
  let lv : Fin 4 := ⟨top % 4, Nat.mod_lt _ (by decide)⟩
  { c with
    mode := .running
    base := s.cue
    cue := s.cue
    since := s.cue
    lastB := s.cue - 1
    d0 := s.cue
    level := lv
    wanted := lv
    wantedCue := s.cue
    gangs := c.gangs.map fun g => { g with base := s.cue } }

theorem State.tileAt_startCounters {s : State} {k : TileKey} {t : Tile} (ht : s.tileAt k = some t) :
    (s.startCounters k.co).tileAt k = some { t with skew := ((s.sites[t.site]).regions[t.region]).offset } := by
  rw [State.startCounters, State.tileAt_mapTiles (f := s.counterOf) (fun _ => rfl), ht, Option.map_some, if_pos (congrArg _ (State.tileAt_key ht))]
  rfl

section
variable {s : State} {co : Nat} {c : Company} (hc : s.coAt co = some c)
include hc

theorem exec_companyStart {start : Nat} (hmode : c.mode = .loading start) (hstart : start ≤ s.cue) (hloads : c.info.loads = [])
    (hf : c.fatal = none) (hawake : s.awake co 4096 = true) :
    exec (.companyStart co) s = .next ((s.setCo (c.started s)).startCounters co).restIslands := by
  have starts : ¬(s.cue < start ∨ (!c.info.loads.isEmpty) = true ∨ c.fatal.isSome = true ∨ (!s.awake co 4096) = true) := by
    rw [hloads, hf, hawake]
    simp only [not_or]
    exact ⟨Nat.not_lt.mpr hstart, by decide, by decide, by decide⟩
  show execCompanyStart co s = _
  simp only [execCompanyStart, hc, hmode, if_neg starts]
  rfl

/-! ### The end of a launch (09 R260) -/

theorem exec_launchEnd (hmode : c.mode = .running) (hf : c.fatal = none) (hdone : ∀ t ∈ s.tilesOf co, t.finished = true) :
    exec (.launchEnd co) s = .next (if !c.gateOpen.isEmpty then s.setCo (s.seal c)
      else if !c.gateSealed.isEmpty || ((s.tilesOf co).any fun t => !t.lost && !(t.st.loadQ.isEmpty && t.st.storeQ.isEmpty)) then s
      else s.freeCompany c 0) := by
  have all_done : (s.tilesOf co).all Tile.finished = true := List.all_eq_true.mpr hdone
  have ends : ¬(c.mode ≠ .running ∨ c.fatal.isSome = true ∨ (!(s.tilesOf co).all Tile.finished) = true) := by
    rw [hmode, hf, all_done]
    decide
  show execLaunchEnd co s = _
  simp only [execLaunchEnd, hc, if_neg ends]

end

/-- An interval none of whose writes is held back by a loss is sealed whole (09 R248). -/
theorem State.seal_of_none_held {s : State} {c : Company} (hopen : c.gateOpen ≠ []) (hup : ∀ w ∈ c.gateOpen, s.pastLoss w.site = false) :
    s.seal c = { c with gateSealed := c.gateSealed ++ [⟨c.cue, false, c.gateOpen⟩], gateOpen := [] } := by
  have all_sealed : (c.gateOpen.filter fun w => !s.pastLoss w.site) = c.gateOpen :=
    List.filter_eq_self.mpr fun w hw => by rw [hup w hw]; rfl
  have none_stays : (c.gateOpen.filter fun w => s.pastLoss w.site) = [] :=
    List.filter_eq_nil_iff.mpr fun w hw => by rw [hup w hw]; exact Bool.false_ne_true
  simp only [State.seal, all_sealed, none_stays, List.isEmpty_eq_false_iff.mpr hopen, Bool.false_eq_true, if_false]

/-! ### Sealed writes released at the end of a launch (11 R298; 13 R330, R336) -/

/-- The machine with deck memory and host memory others. -/
def State.Released (s t : State) : Prop :=
  t = { s with mem := t.mem, memOrd := t.memOrd, written := t.written, poison := t.poison, hostMem := t.hostMem }

theorem State.Released.refl (s : State) : s.Released s := rfl

theorem State.Released.trans {s t u : State} (h : s.Released t) (h' : t.Released u) : s.Released u := by
  unfold State.Released at *
  rw [h', h]

theorem State.performGated_released (s : State) (w : GWrite) : s.Released (s.performGated w) := by
  unfold State.performGated
  split
  · obtain ⟨m, o, d, p, e⟩ := s.perform_memoryOf w.ord w.bytes
    rw [e]
    rfl
  · unfold State.hostPut
    split <;> rfl

/-- The sealed intervals of a company that are left: writes to the host wait for PCIe. -/
def State.waiting (s : State) (c : Company) : List GInterval :=
  let later := (((c.gateSealed.map (·.writes)).flatten).filter fun w => !s.pastLoss w.site).filter fun w => w.host.isSome && !s.serviceUp
  if later.isEmpty then [] else [⟨0, true, later⟩]

theorem State.waiting_flatMap (s : State) (c : Company) : (s.waiting c).flatMap (·.writes) =
    (c.gateSealed.flatMap (·.writes)).filter fun w => !s.pastLoss w.site && (w.host.isSome && !s.serviceUp) := by
  have both : (((c.gateSealed.map (·.writes)).flatten).filter fun w => !s.pastLoss w.site).filter (fun w => w.host.isSome && !s.serviceUp) =
      (c.gateSealed.flatMap (·.writes)).filter fun w => !s.pastLoss w.site && (w.host.isSome && !s.serviceUp) := by
    rw [List.filter_filter, List.flatMap_def]
    exact congrArg (List.filter · _) (funext fun w => Bool.and_comm _ _)
  rw [State.waiting, both]
  split
  · next h => rw [List.isEmpty_iff.mp h]; rfl
  · exact List.append_nil _

theorem State.waiting_eq_nil {s : State} {c : Company} (h : (s.waiting c).flatMap (·.writes) = []) : s.waiting c = [] := by
  unfold State.waiting at h ⊢
  dsimp only at h ⊢
  split
  · rfl
  · next hne => rw [if_neg hne] at h; exact absurd (List.isEmpty_iff.mpr ((List.append_nil _).symm.trans h)) hne

theorem State.waiting_of_serviceUp {s : State} (c : Company) (hup : s.serviceUp = true) : s.waiting c = [] := by
  refine State.waiting_eq_nil ?_
  rw [State.waiting_flatMap, hup]
  exact List.filter_eq_nil_iff.mpr fun w _ => by simp

theorem State.releaseSealed_eq (s : State) (c : Company) : ∃ u, s.Released u ∧ s.releaseSealed c = u.setCo { c with gateSealed := s.waiting c } :=
  ⟨_, List.foldlRecOn _ _ (motive := s.Released) (State.Released.refl s) fun u hu w _ => hu.trans (u.performGated_released w), rfl⟩

namespace State.Released
variable {s t : State} (h : s.Released t)
include h

theorem tiles : t.tiles = s.tiles := by rw [h]
theorem coAt (n : Nat) : t.coAt n = s.coAt n := by rw [h]; rfl
theorem tileAt (k : TileKey) : t.tileAt k = s.tileAt k := by rw [h]; rfl
theorem serviceUp : t.serviceUp = s.serviceUp := by rw [h]; rfl
theorem logRoom : t.logHead - t.logTail.setWidth 32 = s.logHead - s.logTail.setWidth 32 := by rw [h]

end State.Released

theorem State.coAt_releaseSealed {s : State} {c : Company} (hc : s.coAt c.num = some c) :
    (s.releaseSealed c).coAt c.num = some { c with gateSealed := s.waiting c } := by
  obtain ⟨u, hu, released⟩ := s.releaseSealed_eq c
  rw [released]
  exact State.coAt_setCo_self (by rfl) ((hu.coAt _).trans hc)

theorem State.releaseSealed_tiles (s : State) (c : Company) : (s.releaseSealed c).tiles = s.tiles := by
  obtain ⟨u, hu, released⟩ := s.releaseSealed_eq c
  rw [released]
  exact hu.tiles

/-! ### A launch with a cause ends (11 R298) -/

/-- A company whose regions have stopped: what is left of its sealed writes, nothing in the open interval. -/
def Company.stopped (c : Company) (left : List GInterval) (f : FatalCause) : Company :=
  { c with gateSealed := left, gateOpen := [], fatal := some { f with stopped := true } }

/-- A tile of a launch that ends. -/
def Tile.ended (t : Tile) : Tile := if t.lost then t else { t with st := t.st.ended }

theorem Tile.ended_key (t : Tile) : t.ended.key = t.key := by
  unfold Tile.ended
  split <;> rfl

theorem TState.ended_own (st : TState) (i : Fin 256) : st.ended.own[i] = st.own[i] &&& 0x10 := by
  show (st.own.map fun b => b &&& 0x10)[i] = _
  simp only [Fin.getElem_fin, Vector.getElem_map]

/-- The machine with a company's sealed writes released and its regions stopped, but for its record. -/
def State.regionsStopped (s : State) (c : Company) (f : FatalCause) : State :=
  ((s.releaseSealed c).setCo (c.stopped (s.waiting c) f)).mapTiles c.num Tile.ended

/-- The record of a cause that ends a launch. -/
def FatalCause.record (f : FatalCause) (co : Nat) (p : RecPlace) : FaultRec :=
  { faultRec 1 f.code co p f.unit f.info f.pc f.since with st := f.words }

section
variable {s : State} {co : Nat} {c : Company} (hc : s.coAt co = some c) {f : FatalCause} (hf : c.fatal = some f)
include hc hf

theorem exec_launchFaultEnd_early (hearly : s.cue < f.since + 257) : exec (.launchFaultEnd co) s = .next s := by
  show execLaunchFaultEnd co s = _
  simp only [execLaunchFaultEnd, hc, hf, if_pos hearly]

variable (hdue : f.since + 257 ≤ s.cue)
include hdue

theorem exec_launchFaultEnd_done (hstopped : f.stopped = true) (hsealed : c.gateSealed = []) :
    exec (.launchFaultEnd co) s = .next (s.freeCompany c f.code) := by
  show execLaunchFaultEnd co s = _
  simp only [execLaunchFaultEnd, hc, hf, if_neg (Nat.not_lt.mpr hdue), hstopped, hsealed]
  rfl

theorem exec_launchFaultEnd_releases (hstopped : f.stopped = true) (hsealed : c.gateSealed ≠ []) :
    exec (.launchFaultEnd co) s = .next (s.releaseSealed c) := by
  show execLaunchFaultEnd co s = _
  simp only [execLaunchFaultEnd, hc, hf, if_neg (Nat.not_lt.mpr hdue), hstopped, List.isEmpty_eq_false_iff.mpr hsealed]
  rfl

theorem exec_launchFaultEnd_stops (hstopped : f.stopped = false) : ∃ p, exec (.launchFaultEnd co) s =
    .next ((s.regionsStopped c f).postRec (recSite p) (f.record co p)) := by
  obtain rfl : c.num = co := State.coAt_num hc
  have left := State.coAt_releaseSealed hc
  show ∃ p, execLaunchFaultEnd c.num s = _
  simp only [execLaunchFaultEnd, hc, hf, if_neg (Nat.not_lt.mpr hdue), hstopped, left, Option.map_some, Option.getD_some, Bool.false_and,
    Bool.false_eq_true, if_false]
  exact ⟨_, rfl⟩

end

section
variable {s : State} {c : Company} {f : FatalCause}

theorem State.coAt_regionsStopped (hc : s.coAt c.num = some c) : (s.regionsStopped c f).coAt c.num = some (c.stopped (s.waiting c) f) :=
  State.coAt_setCo_self (s := s.releaseSealed c) (by rfl) (State.coAt_releaseSealed hc)

theorem State.tileAt_regionsStopped {k : TileKey} {t : Tile} (ht : s.tileAt k = some t) (hk : k.co = c.num) :
    (s.regionsStopped c f).tileAt k = some t.ended := by
  obtain ⟨u, hu, released⟩ := s.releaseSealed_eq c
  rw [State.regionsStopped, State.tileAt_mapTiles Tile.ended_key, State.setCo_tileAt, released, State.setCo_tileAt, hu.tileAt, ht,
    Option.map_some, if_pos ((congrArg _ (State.tileAt_key ht)).trans hk)]

theorem State.regionsStopped_serviceUp : (s.regionsStopped c f).serviceUp = s.serviceUp := by
  obtain ⟨u, hu, released⟩ := s.releaseSealed_eq c
  rw [State.regionsStopped, released]
  exact hu.serviceUp

theorem State.regionsStopped_logRoom : (s.regionsStopped c f).logHead - (s.regionsStopped c f).logTail.setWidth 32 =
    s.logHead - s.logTail.setWidth 32 := by
  obtain ⟨u, hu, released⟩ := s.releaseSealed_eq c
  rw [State.regionsStopped, released]
  exact hu.logRoom

end

/-! ### The record posted (11 R301) -/

/-- A record posted while site S is there and the log has room is the last of the log. -/
theorem State.postRec_log {s : State} (hup : s.serviceUp = true) (hroom : (s.logHead - s.logTail.setWidth 32).toNat < 1024) (n : SiteId)
    (r : FaultRec) : (s.postRec n r).log.getLast? = some r := by
  have kept : s.log.length + 1 - 1024 ≤ s.log.length := by omega
  simp only [State.postRec, hup, if_true, State.logRec, hroom]
  rw [List.drop_append_of_le_length kept, List.getLast?_concat]

theorem upperBytes {kind code rest : Nat} (hcode : code < 256) (hrest : rest < 281474976710656) :
    (kind * 72057594037927936 + code * 281474976710656 + rest) % 18446744073709551616 / 72057594037927936 % 256 = kind % 256 ∧
      (kind * 72057594037927936 + code * 281474976710656 + rest) % 18446744073709551616 / 281474976710656 % 256 = code := by
  omega

/-- The two upper bytes of a word, the rest below them. -/
theorem extractLsb'_upper {kind rest : Nat} {code : BitVec 8} (hrest : rest < 2 ^ 48) :
    (BitVec.ofNat 64 (kind * 2 ^ 56 + code.toNat * 2 ^ 48 + rest)).extractLsb' 56 8 = BitVec.ofNat 8 kind ∧
      (BitVec.ofNat 64 (kind * 2 ^ 56 + code.toNat * 2 ^ 48 + rest)).extractLsb' 48 8 = code := by
  obtain ⟨hkind, hcode⟩ := upperBytes (kind := kind) code.isLt hrest
  refine ⟨BitVec.eq_of_toNat_eq ?_, BitVec.eq_of_toNat_eq ?_⟩
  · rw [BitVec.extractLsb'_toNat, BitVec.toNat_ofNat, Nat.shiftRight_eq_div_pow, BitVec.toNat_ofNat]
    exact hkind
  · rw [BitVec.extractLsb'_toNat, BitVec.toNat_ofNat, Nat.shiftRight_eq_div_pow]
    exact hcode

/-- KIND and CODE of a record. -/
theorem faultRec_head (kind : Nat) (code : BitVec 8) (co : Nat) (p : RecPlace) (unit : Nat) (info : W64) (pc : W32) (deck : Nat) :
    (faultRec kind code co p unit info pc deck).w0.extractLsb' 56 8 = BitVec.ofNat 8 kind ∧
      (faultRec kind code co p unit info pc deck).w0.extractLsb' 48 8 = code := by
  have below : co % 2 ^ 16 * 2 ^ 32 + p.site % 32 * 2 ^ 27 + p.region % 4 * 2 ^ 25 + p.row % 16 * 2 ^ 21 + p.col % 16 * 2 ^ 17 +
      p.pcol % 32 * 2 ^ 12 + unit % 256 * 2 ^ 4 < 2 ^ 48 := by omega
  simpa only [faultRec, Nat.add_assoc] using extractLsb'_upper (kind := kind) (code := code) below

/-! ### The cause of an end (11 R298, R301) -/

theorem State.causeWords_route {s : State} {k : TileKey} {t : Tile} (ht : s.tileAt k = some t) :
    s.causeWords cROUTE (some k) = t.status.map SideStatus.image := by
  rw [State.causeWords, if_pos rfl, Option.bind_some, ht]
  rfl

theorem State.causeWords_other (s : State) {code : BitVec 8} (h : code ≠ cROUTE) (tile : Option TileKey) :
    s.causeWords code tile = Vector.replicate 4 0 := if_neg h

/-- The cause that a launch ends with. -/
def State.causeOf (s : State) (code : BitVec 8) (info : W64) (pc : W32) (unit : Nat) (tile : Option TileKey) : FatalCause :=
  ⟨code, info, pc, unit, tile, s.cue, s.free, false, s.causeWords code tile⟩

theorem State.coAt_endCause {s : State} {co : Nat} {c : Company} (hc : s.coAt co = some c) (hf : c.fatal = none) (code : BitVec 8) (info : W64)
    (pc : W32) (unit : Nat) (tile : Option TileKey) : (s.endCause co code info pc unit tile).coAt co =
      some { c with fatal := some (s.causeOf code info pc unit tile), freezeAt := none, freezeNext := none } := by
  have num : c.num = co := State.coAt_num hc
  simp only [State.endCause, hc, hf]
  exact State.coAt_setCo_self (by exact num) hc

/-! ### A launch leaves (09 R260, R261; 14 R343) -/

theorem State.mbPost_mem (s : State) (w : Nat) (v : W64) : (s.mbPost w v).mem = s.mem := by
  unfold State.mbPost
  split <;> rfl

theorem State.opDone_mem (s : State) (id : Nat) (w : W64) : (s.opDone id w).mem = s.mem := by
  unfold State.opDone
  split
  · rfl
  · dsimp only
    split
    · exact State.mbPost_mem _ _ _
    · rfl

/-- A packet that is the only one pending, and asked for a completion, completes. -/
theorem State.opDone_of_one {s : State} {o : PendOp} {m : Nat} (hops : s.ops = [o]) (hdone : o.done = some m) (hup : s.serviceUp = true) (w : W64) :
    s.opDone o.id w = ({ s with ops := [] } : State).mbSet m ⟨w, true⟩ := by
  have up : ({ s with ops := [] } : State).serviceUp = true := hup
  simp [State.opDone, hops, hdone, State.mbPost, up]

/-- The machine once the packets of a launch that leaves have completed. -/
def State.packetsDone (s : State) (c : Company) (code : BitVec 8) : State :=
  let s := c.info.loads.foldl (fun s l => s.opDone l.op (Machine.statusWord (if code = 0 then 0 else code))) s
  let s := (s.rejoinsOf c.info none).foldl (fun s o => s.opDone o.id (Machine.statusWord cUNLOADED)) s
  (s.closeReqs c.num).opDone c.info.op (completionWord code c.rollbacks (c.holdTotal s.cue))

theorem State.packetsDone_mem (s : State) (c : Company) (code : BitVec 8) : (s.packetsDone c code).mem = s.mem := by
  have loads := foldl_keeps (g := State.mem) (fun (s : State) (l : WLoad) => s.opDone_mem l.op (Machine.statusWord (if code = 0 then 0 else code)))
    c.info.loads s
  have rejoins (s : State) := foldl_keeps (g := State.mem) (fun (s : State) (o : PendOp) => s.opDone_mem o.id (Machine.statusWord cUNLOADED))
    (s.rejoinsOf c.info none) s
  rw [State.packetsDone, State.opDone_mem]
  exact (rejoins _).trans loads

/-- The machine without the tiles, company, circuits and translations of a launch. -/
def State.without (s : State) (n : Nat) : State :=
  { s with
    tiles := s.tiles.filter fun t => t.key.co != n
    companies := s.companies.filter fun d => d.num != n
    circuits := s.circuits.filter fun x => x.co != n
    xlate := s.xlate.filter fun x => x.key.co != n }

theorem State.freeCompany_resited (s : State) (c : Company) (code : BitVec 8) :
    ((s.packetsDone c code).without c.num).Resited (s.freeCompany c code) :=
  ((State.remap_resited _).trans (State.restIslands_resited _)).trans (State.reuse_resited _)

theorem State.coAt_without (s : State) (n : Nat) : (s.without n).coAt n = none :=
  List.find?_eq_none.mpr fun d hd => by simpa using (List.mem_filter.mp hd).2

theorem State.co_ne_of_without {s : State} {n : Nat} {t : Tile} (ht : t ∈ (s.without n).tiles) : t.key.co ≠ n := by
  simpa using (List.mem_filter.mp ht).2

theorem State.circuit_ne_of_without {s : State} {n : Nat} {x : Circuit} (hx : x ∈ (s.without n).circuits) : x.co ≠ n := by
  simpa using (List.mem_filter.mp hx).2

theorem State.rejoinsOf_eq_nil {s : State} {o : PendOp} (hops : s.ops = [o]) (hkind : ∀ w x y, o.kind ≠ .rejoin w x y) (i : LaunchInfo) :
    s.rejoinsOf i none = [] := by
  rw [State.rejoinsOf, hops]
  refine List.filter_eq_nil_iff.mpr fun p hp => ?_
  rw [List.mem_singleton.mp hp]
  split
  · next w x y h => exact absurd h (hkind w x y)
  · exact Bool.false_ne_true

/-- A launch whose packet is the only one pending posts its completion word alone. -/
theorem State.packetsDone_of_one {s : State} {c : Company} {o : PendOp} {m : Nat} (hops : s.ops = [o]) (hid : o.id = c.info.op)
    (hkind : ∀ w x y, o.kind ≠ .rejoin w x y) (hdone : o.done = some m) (hloads : c.info.loads = []) (hup : s.serviceUp = true) (code : BitVec 8) :
    s.packetsDone c code = ({ s.closeReqs c.num with ops := [] } : State).mbSet m ⟨completionWord code c.rollbacks (c.holdTotal s.cue), true⟩ := by
  rw [State.packetsDone, hloads, List.foldl_nil]
  dsimp only
  rw [State.rejoinsOf_eq_nil hops hkind, List.foldl_nil, ← hid]
  exact State.opDone_of_one (s := s.closeReqs c.num) hops hdone hup _

/-- The completion word of a launch whose packet is the only one pending stands in its mailbox word. -/
theorem State.freeCompany_of_one {s : State} {c : Company} {o : PendOp} {m : Nat} (hops : s.ops = [o]) (hid : o.id = c.info.op)
    (hkind : ∀ w x y, o.kind ≠ .rejoin w x y) (hdone : o.done = some m) (hloads : c.info.loads = []) (hup : s.serviceUp = true) (code : BitVec 8) :
    (s.freeCompany c code).ops = [] ∧
      (s.freeCompany c code).mb m = ⟨completionWord code c.rollbacks (c.holdTotal s.cue), true⟩ := by
  have left := s.freeCompany_resited c code
  rw [State.packetsDone_of_one hops hid hkind hdone hloads hup] at left
  refine ⟨left.ops, ?_⟩
  rw [State.mb, left.mbox]
  exact State.mb_mbSet_self _ m _ (by simp)

/-- The fields of a completion word (09 R261). -/
theorem completionWord_toNat (code : BitVec 8) {rb hold : Nat} (hrb : rb ≤ 255) (hhold : hold < 2 ^ 48) :
    (completionWord code rb hold).toNat = code.toNat * 2 ^ 56 + rb * 2 ^ 48 + hold := by
  have hcode := code.isLt
  rw [completionWord, BitVec.toNat_ofNat, min_eq_right hrb, min_eq_right (by omega)]
  exact Nat.mod_eq_of_lt (by omega)

/-! ### Rollback (09 R250) -/

theorem Tile.restored_key (t : Tile) (c : Company) : (t.restored c).key = t.key := by
  unfold Tile.restored
  split
  · rfl
  · dsimp only
    split <;> rfl

theorem Tile.restored_imgTrap (t : Tile) (c : Company) : (t.restored c).imgTrap = t.imgTrap := by
  unfold Tile.restored
  split
  · rfl
  · dsimp only
    split <;> rfl

/-- A tile without a cause delivered at its boundary is not touched as those of others are delivered again. -/
theorem State.redeliver_tileAt (s : State) (c : Company) (j : TileKey) {k : TileKey} {t : Tile} (ht : s.tileAt k = some t) (hq : t.imgTrap = none) :
    (s.redeliver c j).tileAt k = some t := by
  unfold State.redeliver
  split
  · exact ht
  · next u hu =>
    split
    · next tr htr =>
      have hne : u.key ≠ k := fun e => by
        obtain rfl : j = k := (State.tileAt_key hu).symm.trans e
        obtain rfl := Option.some.inj (hu.symm.trans ht)
        exact absurd (hq.symm.trans htr) (Option.some_ne_none _).symm
      split
      · exact ht
      · rw [State.postRec_tileAt, State.tileAt_setTile_other (by exact hne)]
        exact ht
    · exact ht

theorem State.redeliver_coAt (s : State) (c : Company) (j : TileKey) (n : Nat) : (s.redeliver c j).coAt n = s.coAt n := by
  unfold State.redeliver
  split
  · rfl
  · split
    · split
      · rfl
      · exact ((State.postRec_recorded _ _ _).coAt n).trans rfl
    · rfl

/-- A company taken back to its last boundary. -/
def Company.rolledBack (s : State) (c : Company) : Company :=
  { c with
    rollbacks := c.rollbacks + 1
    sameB := c.sameB + 1
    gateOpen := c.gateOpen.filter fun w => s.pastLoss w.site
    cue := c.lastB + 1
    holdCyc := c.holdTotal s.cue
    rounds := c.imgRounds
    mode := match c.mode with
      | .frozen .. | .resuming .. | .loading _ => c.mode
      | _ => .rolling none }

theorem Company.rolledBack_recorded {s u : State} (h : s.Recorded u) (c : Company) : c.rolledBack u = c.rolledBack s := by
  simp only [Company.rolledBack, h.pastLoss, h.cue]

theorem Company.rolledBack_mode (s : State) {c : Company} {since : Nat} (h : c.mode = .running ∨ c.mode = .held since) :
    (c.rolledBack s).mode = .rolling none := by
  obtain h | h := h <;> simp only [Company.rolledBack, h]

/-- The machine with a company and its tiles taken back, the causes of the boundary still to be delivered again. -/
def State.rolledBack (s : State) (c : Company) : State :=
  (((s.setCo (c.rolledBack s)).closeReqs c.num).mapTiles c.num fun t => t.restored c).closeRounds c.num

section
variable {s : State} {co : Nat} {c : Company} (hc : s.coAt co = some c) (hf : c.fatal = none) (unit : Nat) (info : W64) (p : RecPlace)
include hc hf

theorem State.rollback_back (hfew : c.sameB < 2) (himg : ∀ t ∈ s.tilesOf co, t.imgBad = false ∨ t.lost = true) : ∃ u, s.Recorded u ∧
    s.rollback co unit info p = ((u.rolledBack c).tilesOf co).foldl (fun t u => t.redeliver c u.key) (u.rolledBack c) := by
  obtain rfl : c.num = co := State.coAt_num hc
  have recorded := s.postRec_recorded (recSite p) (faultRec 3 cECC c.num p unit info 0 s.cue)
  have alive : c.fatal.isSome = false := by rw [hf]; rfl
  have sound : ((s.tilesOf c.num).any fun t => t.imgBad && !t.lost) = false := List.any_eq_false.mpr fun t ht => by
    obtain h | h := himg t ht <;> rw [h] <;> simp
  refine ⟨_, recorded, ?_⟩
  simp only [State.rollback, hc, alive, recorded.tilesOf, sound, Nat.not_le.mpr hfew, Bool.false_eq_true, if_false,
    decide_false, Bool.or_self]
  rfl

theorem State.rollback_ends (h : 2 ≤ c.sameB ∨ ∃ t ∈ s.tilesOf co, t.imgBad = true ∧ t.lost = false) : ∃ u, s.Recorded u ∧
    s.rollback co unit info p = (u.setCo { c with rollbacks := c.rollbacks + 1 }).endCause co cECC info 0 unit none := by
  have recorded := s.postRec_recorded (recSite p) (faultRec 3 cECC co p unit info 0 s.cue)
  have ends : (decide (2 ≤ c.sameB) || (s.tilesOf co).any fun t => t.imgBad && !t.lost) = true := by
    rw [Bool.or_eq_true, decide_eq_true_eq, List.any_eq_true]
    exact h.imp_right fun ⟨t, ht, hbad, hlost⟩ => ⟨t, ht, by rw [hbad, hlost]; rfl⟩
  refine ⟨_, recorded, ?_⟩
  simp only [State.rollback, hc, hf, recorded.tilesOf, ends, Option.isSome_none, Bool.false_eq_true, if_false, if_true]

end

section
variable {s : State} {c : Company} (hc : s.coAt c.num = some c) (hrounds : c.imgRounds = [])
include hc hrounds

theorem State.rolledBack_eq : s.rolledBack c = ((s.setCo (c.rolledBack s)).closeReqs c.num).mapTiles c.num fun t => t.restored c :=
  State.closeRounds_of_none (State.coAt_setCo_self (d := c.rolledBack s) (by rfl) hc) fun r hr => by
    have none_left : (c.rolledBack s).rounds = [] := hrounds
    rw [none_left] at hr
    exact absurd hr List.not_mem_nil

theorem State.coAt_rolledBack : (s.rolledBack c).coAt c.num = some (c.rolledBack s) := by
  rw [State.rolledBack_eq hc hrounds]
  exact State.coAt_setCo_self (d := c.rolledBack s) (by rfl) hc

theorem State.tileAt_rolledBack {k : TileKey} {t : Tile} (ht : s.tileAt k = some t) (hk : k.co = c.num) :
    (s.rolledBack c).tileAt k = some (t.restored c) := by
  have found : ((s.setCo (c.rolledBack s)).closeReqs c.num).tileAt k = some t := ht
  rw [State.rolledBack_eq hc hrounds, State.tileAt_mapTiles (f := fun t => t.restored c) (fun t => t.restored_key c), found, Option.map_some,
    if_pos ((congrArg _ (State.tileAt_key ht)).trans hk)]

end

section
variable {s : State} {co : Nat} {c : Company} (hc : s.coAt co = some c) (hf : c.fatal = none) (hrounds : c.imgRounds = []) (hfew : c.sameB < 2)
  (himg : ∀ t ∈ s.tilesOf co, t.imgBad = false ∨ t.lost = true) (unit : Nat) (info : W64) (p : RecPlace)
include hc hf hrounds hfew himg

theorem State.coAt_rollback : (s.rollback co unit info p).coAt co = some (c.rolledBack s) := by
  obtain ⟨u, recorded, run⟩ := State.rollback_back hc hf unit info p hfew himg
  obtain rfl : c.num = co := State.coAt_num hc
  rw [run, ← Company.rolledBack_recorded recorded]
  exact (foldl_keeps (g := fun v => State.coAt v c.num) (fun v (w : Tile) => v.redeliver_coAt c w.key c.num) _ _).trans
    (State.coAt_rolledBack ((recorded.coAt _).trans hc) hrounds)

/-- A tile stands as its image holds it, where no cause was delivered at the boundary. -/
theorem State.tileAt_rollback {k : TileKey} {t : Tile} (ht : s.tileAt k = some t) (hk : k.co = co) (hquiet : t.imgTrap = none) :
    (s.rollback co unit info p).tileAt k = some (t.restored c) := by
  obtain ⟨u, recorded, run⟩ := State.rollback_back hc hf unit info p hfew himg
  obtain rfl : c.num = co := State.coAt_num hc
  have back := State.tileAt_rolledBack ((recorded.coAt _).trans hc) hrounds ((recorded.tileAt k).trans ht) hk
  rw [run]
  exact List.foldlRecOn _ _ (motive := fun v => State.tileAt v k = some (t.restored c)) back fun v hv w _ =>
    v.redeliver_tileAt c w.key hv ((t.restored_imgTrap c).trans hquiet)

end

/-! ### Instruction memory written again, and the restart (09 R250, R255) -/

/-- A tile of a binary without overlays, its instruction memory written again from the binary of its gang. -/
def Company.rewrites (c : Company) (t : Tile) : Option Tile := (c.gangAt t.key.gang).map fun g => { t with imem := #v[g.bin.segment 0, []] }

theorem Company.rewrites_key (c : Company) (t : Tile) : ∀ v ∈ c.rewrites t, v.key = t.key := by
  intro v hv
  obtain ⟨g, -, rfl⟩ := Option.map_eq_some_iff.mp hv
  rfl

theorem State.rewriteAll_of_plain (s : State) {c : Company} (hplain : c.info.overlaid = false) (ts : List Tile) :
    s.rewriteAll c ts = ((ts.filter fun t => !t.lost).foldl (State.setTile? c.rewrites) s, true) := by
  have each : (fun (s' : State) (t : Tile) => match c.gangAt t.key.gang with
      | some g => s'.setTile (s.rewritten c g t)
      | none => s') = State.setTile? c.rewrites := by
    funext s' t
    unfold State.setTile? Company.rewrites
    cases c.gangAt t.key.gang with
    | none => rfl
    | some g => simp only [State.rewritten, hplain, Bool.false_eq_true, if_false]; rfl
  simp only [State.rewriteAll, hplain, Bool.false_eq_true, if_false, List.foldl_nil, Bool.not_true, List.findSome?_nil]
  exact congrArg (fun f => ((ts.filter fun t => !t.lost).foldl f s, true)) each

theorem State.rewriteFold_coAt (c : Company) (ts : List Tile) (s : State) (n : Nat) : (ts.foldl (State.setTile? c.rewrites) s).coAt n = s.coAt n := by
  refine foldl_keeps (g := fun u => State.coAt u n) (fun u t => ?_) ts s
  unfold State.setTile?
  cases c.rewrites t <;> rfl

/-- A tile that is the only one of its key is written again from the binary of its gang. -/
theorem State.tileAt_rewriteFold {s : State} {c : Company} {t : Tile} (ht : s.tileAt t.key = some t) (hone : ∀ x ∈ s.tiles, x.key = t.key → x = t)
    (hco : t.key.co = c.num) (hlost : t.lost = false) {g : Gang} (hg : c.gangAt t.key.gang = some g) :
    (((s.tilesOf c.num).filter fun t => !t.lost).foldl (State.setTile? c.rewrites) s).tileAt t.key =
      some { t with imem := #v[g.bin.segment 0, []] } := by
  have rewritten : c.rewrites t = some { t with imem := #v[g.bin.segment 0, []] } := by rw [Company.rewrites, hg]; rfl
  refine State.tileAt_foldl_setTile c.rewrites_key rewritten _ s (fun x hx => hone x ?_) (.inl ⟨?_, by rw [ht]; rfl⟩)
  · exact (List.mem_filter.mp (List.mem_filter.mp hx).1).1
  · exact List.mem_filter.mpr ⟨State.mem_tilesOf_of_tileAt ht hco, by rw [hlost]; rfl⟩

section
variable {s : State} {co : Nat} {c : Company} (hc : s.coAt co = some c) (hf : c.fatal = none)
include hc hf

theorem exec_rollbackRestart_announces (hmode : c.mode = .rolling none) (hplain : c.info.overlaid = false) :
    exec (.rollbackRestart co) s = .next { ((((s.tilesOf co).filter fun t => !t.lost).foldl (State.setTile? c.rewrites) s).setCo
      { c with mode := .rolling (some (s.cue + 256 + Config.freeNat s.free)) }) with free := s.free + 1 } := by
  show execRollbackRestart co s = _
  simp only [execRollbackRestart, hc, hmode, hf, s.rewriteAll_of_plain hplain]
  rfl

theorem exec_rollbackRestart_goesOn {at_ : Nat} (hmode : c.mode = .rolling (some at_)) (hdue : at_ ≤ s.cue) :
    exec (.rollbackRestart co) s = .next ((s.setCo { c with mode := .running, d0 := s.cue }).startCounters co) := by
  have due : at_ ≤ s.cue ∧ c.fatal.isNone = true := ⟨hdue, by rw [hf]; rfl⟩
  show execRollbackRestart co s = _
  simp only [execRollbackRestart, hc, hmode, if_pos due]

end

theorem exec_rollbackRestart_early {s : State} {co : Nat} {c : Company} (hc : s.coAt co = some c) {at_ : Nat}
    (hmode : c.mode = .rolling (some at_)) (hearly : s.cue < at_) : exec (.rollbackRestart co) s = .next s := by
  have early : ¬(at_ ≤ s.cue ∧ c.fatal.isNone = true) := fun h => Nat.not_le.mpr hearly h.1
  show execRollbackRestart co s = _
  simp only [execRollbackRestart, hc, hmode, if_neg early]

theorem Company.holdTotal_held {c : Company} {d : Nat} (h : c.mode = .held d) (deck : Nat) : c.holdTotal deck = c.holdCyc + (deck - d) := by
  simp only [Company.holdTotal, h]

theorem Company.holdTotal_running {c : Company} (h : c.mode = .running) (deck : Nat) : c.holdTotal deck = c.holdCyc := by
  simp only [Company.holdTotal, h, Nat.add_zero]

/-! ### Errors (11 R299, R300, R302) -/

theorem exec_uncorrectableError (w : ErrPlace) (s : State) : exec (.uncorrectableError w) s = execUncorrectableError w s := rfl

theorem exec_correctedError (w : ErrPlace) (s : State) : exec (.correctedError w) s = execCorrectedError w s := rfl

section
variable {s : State} {k : TileKey} {t : Tile} (ht : s.tileAt k = some t)
include ht

theorem exec_tileError (u : Fin 6) : exec (.uncorrectableError (.tile k u)) s =
    .next ((s.uncorrected k.co u (s.placeOf t) none).rollback k.co u 0 (s.placeOf t)) := by
  simp only [exec_uncorrectableError, execUncorrectableError, ht]

theorem exec_boundaryImageError : exec (.uncorrectableError (.shadow k true)) s =
    .next ((s.uncorrected k.co 7 (s.placeOf t) none).setTile { t with imgBad := true }) := by
  simp only [exec_uncorrectableError, execUncorrectableError, ht, if_true]

theorem exec_freezeImageError : exec (.uncorrectableError (.shadow k false)) s =
    .next ((s.uncorrected k.co 7 (s.placeOf t) none).setTile { t with frz := none }) := by
  simp only [exec_uncorrectableError, execUncorrectableError, ht, Bool.false_eq_true, if_false]

theorem exec_correctedError_spad : exec (.correctedError (.tile k 1)) s = .next (s.regCount t.site t.region 3 1) := by
  simp only [exec_correctedError, execCorrectedError, ht, if_true]

theorem exec_correctedError_imem : exec (.correctedError (.tile k 2)) s = .next (s.regCount t.site t.region 2 2) := by
  simp only [exec_correctedError, execCorrectedError, ht]
  rfl

end

theorem exec_gateError {s : State} {co : Nat} (hc : (s.coAt co).isSome = true) (n : SiteId) (q : Fin 4) :
    exec (.uncorrectableError (.gate co n q false)) s = .next ((s.uncorrected co 8 ⟨n, q, 0, 0, 0⟩ none).rollback co 8 0 ⟨n, q, 0, 0, 0⟩) := by
  obtain ⟨c, hc⟩ := Option.isSome_iff_exists.mp hc
  simp only [exec_uncorrectableError, execUncorrectableError, hc, Bool.not_false, if_true]

theorem exec_correctedError_hbm {s : State} {a : BitVec 48} {n : SiteId} (h : winSite a.toNat = some n) :
    exec (.correctedError (.hbm a)) s = .next (s.modCount n 3 9) := by
  simp only [exec_correctedError, execCorrectedError, h]

/-! ### Weight stores -/

/-- The machine with companies others, and free choices drawn. -/
def State.CompaniesOf (s t : State) : Prop := t = { s with companies := t.companies, free := t.free }

theorem State.endCause_companiesOf (s : State) (co : Nat) (code : BitVec 8) (info : W64) (pc : W32) (unit : Nat) (tile : Option TileKey) :
    s.CompaniesOf (s.endCause co code info pc unit tile) := by
  unfold State.endCause
  split
  · rfl
  · split <;> rfl

/-- The tiles that stand at a logical position and are not lost. -/
def State.standing (s : State) (n : SiteId) (q : Fin 4) (r c : Fin 16) : List Tile :=
  s.tiles.filter fun t => t.site == n && t.region == q && t.row == r && t.col == c && !t.lost

theorem State.mem_standing {s : State} {n : SiteId} {q : Fin 4} {r c : Fin 16} {t : Tile} : t ∈ s.standing n q r c ↔
    t ∈ s.tiles ∧ t.site = n ∧ t.region = q ∧ t.row = r ∧ t.col = c ∧ t.lost = false := by
  simp only [State.standing, List.mem_filter, Bool.and_eq_true, beq_iff_eq, Bool.not_eq_true', and_assoc]

/-- The launches of some tiles ended by an error in a weight store. -/
def State.weightsLost (s : State) (ts : List Tile) : State := ts.foldl (fun s t => s.endCause t.key.co cECC 0 0 6 (some t.key)) s

theorem State.weightsLost_companiesOf (s : State) (ts : List Tile) : s.CompaniesOf (s.weightsLost ts) := by
  refine List.foldlRecOn _ _ (motive := s.CompaniesOf) (rfl : s = { s with companies := s.companies, free := s.free }) fun u hu t _ => ?_
  have next := u.endCause_companiesOf t.key.co cECC 0 0 6 (some t.key)
  unfold State.CompaniesOf at *
  rw [next, hu]

/-- The first of the tiles ends its launch, and the others, which are the same, find it ended. -/
theorem State.weightsLost_fatal {s : State} {t : Tile} {d : Company} (hd : s.coAt t.key.co = some d) (hf : d.fatal = none) {ts : List Tile}
    (hne : ts ≠ []) (hall : ∀ x ∈ ts, x = t) :
    ∃ e f, (s.weightsLost ts).coAt t.key.co = some e ∧ e.fatal = some f ∧ f.code = cECC := by
  obtain ⟨x, xs, rfl⟩ := List.exists_cons_of_ne_nil hne
  rw [List.forall_mem_cons] at hall
  obtain ⟨rfl, hall⟩ := hall
  rw [State.weightsLost, List.foldl_cons]
  refine List.foldlRecOn _ _ (motive := fun u => ∃ e f, State.coAt u x.key.co = some e ∧ e.fatal = some f ∧ f.code = cECC)
    ⟨_, _, State.coAt_endCause hd hf _ _ _ _ _, rfl, rfl⟩ fun u hu y hy => ?_
  obtain ⟨e, f, he, hef, hcode⟩ := hu
  rw [hall y hy, State.endCause_ended u _ _ _ _ _ he hef]
  exact ⟨e, f, he, hef, hcode⟩

/-- An error in a weight store is kept against the store, and ends the launches of the tiles that have it. -/
theorem exec_weightsError (s : State) (n : SiteId) (q : Fin 4) (r c : Fin 16) : ∃ u, s.Recorded u ∧ exec (.uncorrectableError (.weights n q r c)) s =
    .next (({ u with free := s.free + 1, weightBad := (s.weightBaseAt n q r c :: s.weightBad).eraseDups } : State).weightsLost (s.standing n q r c)) := by
  have recorded := s.postRec_recorded (recSite ⟨n, q, r, c, physCol ((s.sites[n]).regions[q]).mapped (physRow ((s.sites[n]).regions[q]).mapped r) c⟩)
    (faultRec 5 cECC (((s.standing n q r c).head?.map (·.key.co)).getD 0)
      ⟨n, q, r, c, physCol ((s.sites[n]).regions[q]).mapped (physRow ((s.sites[n]).regions[q]).mapped r) c⟩ 6
      (BitVec.ofNat 64 (Config.freeNat s.free)) 0 s.cue)
  refine ⟨_, recorded, ?_⟩
  have base := recorded.weightBaseAt n q r c
  have bad := recorded.weightBad
  rw [← base, ← bad]
  rfl

/-- An error in the weight store of one tile that stands ends its launch. -/
theorem weightsError_fatal {s : State} {t : Tile} {d : Company} (ht : t ∈ s.tiles) (hlost : t.lost = false)
    (hone : ∀ x ∈ s.tiles, x.site = t.site → x.region = t.region → x.row = t.row → x.col = t.col → x.lost = false → x = t)
    (hd : s.coAt t.key.co = some d) (hf : d.fatal = none) {v : State}
    (hv : exec (.uncorrectableError (.weights t.site t.region t.row t.col)) s = .next v) :
    ∃ e f, v.coAt t.key.co = some e ∧ e.fatal = some f ∧ f.code = cECC := by
  obtain ⟨u, recorded, run⟩ := exec_weightsError s t.site t.region t.row t.col
  obtain rfl := Host.Outcome.next.inj (hv.symm.trans run)
  have stands : t ∈ s.standing t.site t.region t.row t.col := State.mem_standing.mpr ⟨ht, rfl, rfl, rfl, rfl, hlost⟩
  refine State.weightsLost_fatal (by exact (recorded.coAt _).trans hd) hf (List.ne_nil_of_mem stands) fun x hx => ?_
  obtain ⟨hmem, hn, hq, hr, hc, hl⟩ := State.mem_standing.mp hx
  exact hone x hmem hn hq hr hc hl

/-! ### Deck memory, mailbox words, scrubs and counts -/

theorem State.winSite_of_hole {s : State} {a : Nat} (h : s.hole a = false) : ∃ n, winSite a = some n := by
  unfold State.hole at h
  cases hw : winSite a with
  | none => simp [hw] at h
  | some n => exact ⟨n, rfl⟩

theorem exec_hbmError {s : State} {a : BitVec 48} (h : s.hole a.toNat = false) : ∃ u, s.Recorded u ∧ exec (.uncorrectableError (.hbm a)) s =
    .next { u with free := s.free + 1, poison := (blockOf a.toNat :: s.poison).eraseDups } := by
  obtain ⟨n, hn⟩ := State.winSite_of_hole h
  refine ⟨_, s.postRec_recorded (recSite ⟨n, 0, 0, 0, 0⟩) (faultRec 5 cECC 0 ⟨n, 0, 0, 0, 0⟩ 9 (BitVec.ofNat 64 a.toNat) 0 s.cue), ?_⟩
  simp only [exec_uncorrectableError, execUncorrectableError, hn, h, Bool.false_eq_true, if_false]
  rfl

theorem exec_mailboxError {s : State} (hon : (s.sites[siteS]).state.powered = true) (hup : s.pastLoss siteS = false) (m : Fin 4096) :
    exec (.uncorrectableError (.mailbox m)) s =
      .next ((s.uncorrected 0 0x0a ⟨16, 0, 0, 0, 0⟩ (some m.val)).mbSet m ⟨BitVec.allOnes 64, true⟩) := by
  simp only [exec_uncorrectableError, execUncorrectableError, hon, hup, Bool.not_false, Bool.and_self, if_true]

theorem State.crossing4_recorded (s : State) (b : Bool) (n : SiteId) (q : Fin 4) (unit : Nat) : s.Recorded (s.crossing4 b n q unit) := by
  unfold State.crossing4
  split
  · exact s.postRec_recorded _ _
  · exact State.Recorded.refl s

/-- A count of a module one higher, but for the record of a multiple of 4,096. -/
theorem State.modCount_recorded (s : State) (n : SiteId) (j : Fin 4) (unit : Nat) :
    (s.setSite n fun x => { x with modCounts := x.modCounts.set j (countUp (s.sites[n]).modCounts[j]).1 }).Recorded (s.modCount n j unit) :=
  State.crossing4_recorded _ _ _ _ _

theorem State.modCount_modCounts (s : State) (n : SiteId) (j : Fin 4) (unit : Nat) :
    ((s.modCount n j unit).sites[n]).modCounts[j] = (countUp (s.sites[n]).modCounts[j]).1 := by
  rw [(s.modCount_recorded n j unit).modCounts n, State.setSite_self]
  simp

theorem exec_scrub (s : State) (n : SiteId) : ∃ v, exec (.scrub n) s = .next v ∧ v.mem = s.mem ∧ v.tiles = s.tiles ∧ v.companies = s.companies := by
  have counted := ({ s with free := s.free + 1 } : State).modCount_recorded n 3 9
  refine ⟨_, rfl, ?_⟩
  split
  · dsimp only
    split
    · exact ⟨counted.mem, counted.tiles, counted.companies⟩
    · exact ⟨rfl, rfl, rfl⟩
  · exact ⟨rfl, rfl, rfl⟩

end Sys2Proof.Machine

open Sys2Proof Sys2Proof.Machine

/-- Settles O53: launches by the equations of their events and what the steps after them leave (`State.restIslands_resited`, `State.releaseSealed_eq`,
`State.freeCompany_resited`), rollbacks by `State.rollback_back` and `State.rollback_ends`, errors each by its own equation. -/
theorem launchAndRollbackEvents : Obligations.LaunchAndRollbackEvents := by
  unfold Obligations.LaunchAndRollbackEvents
  refine ⟨fun s co c hc => ?launches, fun s co unit since info p c hc hf => ?rollbacks, fun s k t n q r c a m u => ?errors⟩
  case launches =>
    obtain rfl : c.num = co := State.coAt_num hc
    refine ⟨fun start hmode hstart hloads hf hawake => ?starts, fun hmode hf hdone hopen hsealed hqueues => ?ends, fun hmode hf hdone hopen => ?seals,
      State.seal_of_none_held, fun f hf hdue hstopped => ?stops, fun f hf hdue hstopped hsealed => exec_launchFaultEnd_done hc hf hdue hstopped hsealed,
      fun f hf hdue hstopped hsealed => ?releases, fun f hf hearly => exec_launchFaultEnd_early hc hf hearly,
      fun f hf hdue hstopped hup hroom => ?posts, fun code info pc unit tile hf => ?cause, fun code => ?leaves,
      fun code rb hold hrb hhold => completionWord_toNat code hrb hhold⟩
    case starts =>
      have rest := ((s.setCo (c.started s)).startCounters c.num).restIslands_resited
      refine ⟨_, c.started s, exec_companyStart hc hmode hstart hloads hf hawake, (rest.coAt _).trans (State.coAt_setCo_self (by rfl) hc),
        rfl, rfl, rfl, rfl, rfl, fun g hg => ?_, rest.mem, fun k t ht hk => ?_⟩
      · obtain ⟨g', -, rfl⟩ := List.mem_map.mp hg
        rfl
      · rw [rest.tileAt, ← hk]
        exact State.tileAt_startCounters (s := s.setCo (c.started s)) ht
    case ends =>
      have empty : ((s.tilesOf c.num).any fun t => !t.lost && !(t.st.loadQ.isEmpty && t.st.storeQ.isEmpty)) = false :=
        List.any_eq_false.mpr fun t ht => by rw [(hqueues t ht).1, (hqueues t ht).2]; simp
      rw [exec_launchEnd hc hmode hf hdone, hopen, hsealed, empty]
      rfl
    case seals =>
      rw [exec_launchEnd hc hmode hf hdone, List.isEmpty_eq_false_iff.mpr hopen]
      rfl
    case stops =>
      obtain ⟨p, run⟩ := exec_launchFaultEnd_stops hc hf hdue hstopped
      have recorded := (s.regionsStopped c f).postRec_recorded (recSite p) (f.record c.num p)
      refine ⟨_, s.waiting c, run, (recorded.coAt _).trans (State.coAt_regionsStopped hc), s.waiting_flatMap c, State.waiting_eq_nil,
        fun k t ht hk hlost => ⟨t.ended, (recorded.tileAt k).trans (State.tileAt_regionsStopped ht hk), ?_⟩⟩
      rw [Tile.ended, hlost]
      exact ⟨rfl, rfl, rfl, rfl, rfl, rfl, rfl, rfl, rfl, t.st.ended_own, rfl, rfl⟩
    case releases =>
      exact ⟨_, _, exec_launchFaultEnd_releases hc hf hdue hstopped hsealed, State.coAt_releaseSealed hc, hf, State.waiting_of_serviceUp c,
        s.releaseSealed_tiles c⟩
    case posts =>
      obtain ⟨p, run⟩ := exec_launchFaultEnd_stops hc hf hdue hstopped
      exact ⟨_, f.record c.num p, run, State.postRec_log (State.regionsStopped_serviceUp.trans hup)
        (by rw [State.regionsStopped_logRoom]; exact hroom) _ _, rfl, rfl, faultRec_head 1 f.code c.num p f.unit f.info f.pc f.since⟩
    case cause =>
      refine ⟨_, _, State.coAt_endCause hc hf code info pc unit tile, rfl, rfl, rfl, rfl, rfl, fun hcode => s.causeWords_other hcode tile, ?_⟩
      rintro k t rfl rfl ht
      exact State.causeWords_route ht
    case leaves =>
      have left := s.freeCompany_resited c code
      exact ⟨(left.coAt _).trans (State.coAt_without _ _), fun t ht => State.co_ne_of_without (left.tiles ▸ ht),
        fun x hx => State.circuit_ne_of_without (left.circuits ▸ hx), left.mem.trans (s.packetsDone_mem c code),
        fun o m hops hid hkind hdone hloads hup => State.freeCompany_of_one hops hid hkind hdone hloads hup code⟩
  case rollbacks =>
    obtain rfl : c.num = co := State.coAt_num hc
    refine ⟨fun hfew hmode hrounds himg => ?back, fun hbad => ?ends, fun hmode hplain => ?announces, fun at_ hmode => ⟨fun hdue => ?goesOn, ?early⟩,
      fun d hmode => Company.holdTotal_held hmode _, fun hmode => Company.holdTotal_running hmode _⟩
    case back =>
      exact ⟨_, State.coAt_rollback hc hf hrounds hfew himg unit info p, Company.rolledBack_mode s hmode, rfl, rfl, rfl, rfl, rfl,
        fun k t ht hk hquiet => State.tileAt_rollback hc hf hrounds hfew himg unit info p ht hk hquiet⟩
    case ends =>
      obtain ⟨u, recorded, run⟩ := State.rollback_ends hc hf unit info p hbad
      have counted := State.coAt_setCo_self (d := { c with rollbacks := c.rollbacks + 1 }) rfl ((recorded.coAt _).trans hc)
      rw [run]
      exact ⟨_, _, State.coAt_endCause counted hf _ _ _ _ _, rfl, rfl, rfl⟩
    case announces =>
      refine ⟨_, _, exec_rollbackRestart_announces hc hf hmode hplain, Nat.le_add_right _ _,
        State.coAt_setCo_self (by rfl) ((State.rewriteFold_coAt c _ s _).trans hc), fun k t g ht hone hk hlost hg => ?_⟩
      obtain rfl : t.key = k := State.tileAt_key ht
      exact State.tileAt_rewriteFold ht hone hk hlost hg
    case goesOn =>
      refine ⟨_, exec_rollbackRestart_goesOn hc hf hmode hdue, State.coAt_setCo_self (by rfl) hc, fun k t ht hk => ?_⟩
      rw [← hk]
      exact State.tileAt_startCounters (s := s.setCo { c with mode := .running, d0 := s.cue }) ht
    case early => exact exec_rollbackRestart_early hc hmode
  case errors =>
    refine ⟨fun ht => ⟨exec_tileError ht u, exec_boundaryImageError ht, exec_freezeImageError ht⟩, fun hc => exec_gateError hc n q, ?weights,
      fun hhole => ?hbm, fun hon hup => ?mailbox, fun ht => ⟨exec_correctedError_spad ht, exec_correctedError_imem ht⟩, exec_correctedError_hbm,
      fun j unit => ?counts, exec_scrub s n⟩
    case weights =>
      obtain ⟨u, recorded, run⟩ := exec_weightsError s n q r c
      have ended := ({ u with free := s.free + 1, weightBad := (s.weightBaseAt n q r c :: s.weightBad).eraseDups } : State).weightsLost_companiesOf
        (s.standing n q r c)
      refine ⟨_, run, ?_, ?_, fun hlost => ?_, fun d ht hone hn hq hr hc hlost hd hf => ?_⟩
      · rw [ended]
        exact List.mem_eraseDups.mpr List.mem_cons_self
      · rw [ended]
        exact recorded.mem
      · have none_stands : s.standing n q r c = [] := List.eq_nil_iff_forall_not_mem.mpr fun t ht => by
          obtain ⟨hmem, hn, hq, hr, hc, hl⟩ := State.mem_standing.mp ht
          exact absurd (hlost t hmem hn hq hr hc) (by rw [hl]; exact Bool.false_ne_true)
        rw [none_stands]
        exact recorded.companies
      · obtain rfl : t.key = k := State.tileAt_key ht
        subst hn hq hr hc
        exact weightsError_fatal (List.mem_of_find?_eq_some ht) hlost hone hd hf run
    case hbm =>
      obtain ⟨u, recorded, run⟩ := exec_hbmError hhole
      exact ⟨_, run, List.mem_eraseDups.mpr List.mem_cons_self, recorded.mem, recorded.tiles⟩
    case mailbox => exact ⟨_, exec_mailboxError hon hup m, State.mb_mbSet_self _ _ _ (by decide)⟩
    case counts =>
      have counted := s.modCount_recorded n j unit
      refine ⟨counted.mem, counted.tiles, fun hroom => ?_, fun hfull => ?_⟩
      · rw [State.modCount_modCounts, countUp, if_neg hroom]
      · rw [State.modCount_modCounts, countUp, if_pos hfull]
        exact hfull

end

section
/-! SUPPORT. The two memories that every step keeps in canonical form (10 R265, R267): what leaves both as they were. -/
namespace Sys2Proof.Machine

/-- The two memories every company shares: deck memory and the weight stores (10 R265, R267). -/
def State.stores (s : State) : Memory × Memory := (s.mem, s.weights)

/-- Where the two memories are the same, they are in canonical form as before. -/
theorem State.MemInv.of_stores {s t : State} (h : s.MemInv) (e : t.stores = s.stores) : t.MemInv := by
  obtain ⟨hm, hw⟩ := Prod.mk.inj e
  exact ⟨hm ▸ h.1, hw ▸ h.2⟩

/-- What a state whose fields are written out holds of the memories. -/
@[simp] theorem State.stores_mk : ∀ phase agenda inputs focus slot raised free cue tiles companies launches sites cards decisions changes linksOut
    stitchesOut circuits mem memOrd nextOrd written poison xlate weights weightBad hostMem hostRead mbox mirror mirrorHolder heldPosts netPuts
    area queues nextQueue ops nextOp nextBlock logHead logTail logDrop log pfHead pfNext pfReqs busCv deckWatts busLowSince deckHotSince outlet
    inlet fw hdm peers badWord stopped,
    (State.mk phase agenda inputs focus slot raised free cue tiles companies launches sites cards decisions changes linksOut stitchesOut
      circuits mem memOrd nextOrd written poison xlate weights weightBad hostMem hostRead mbox mirror mirrorHolder heldPosts netPuts area queues
      nextQueue ops nextOp nextBlock logHead logTail logDrop log pfHead pfNext pfReqs busCv deckWatts busLowSince deckHotSince outlet inlet fw
      hdm peers badWord stopped).stores = (mem, weights) := by intros; rfl

@[simp] theorem State.mem_weights (s : State) : (s.mem, s.weights) = s.stores := rfl

theorem foldl_stores {α : Type} {f : State → α → State} (hf : ∀ s a, (f s a).stores = s.stores) (l : List α) (s : State) :
    (l.foldl f s).stores = s.stores := foldl_keeps (g := State.stores) hf l s

theorem foldl_stores_fst {α : Type} {f : State × Bool → α → State × Bool} (hf : ∀ x a, (f x a).1.stores = x.1.stores) (l : List α)
    (x : State × Bool) : (l.foldl f x).1.stores = x.1.stores := foldl_keeps (g := fun x => State.stores x.1) hf l x

@[simp] theorem ite_stores {p : Prop} [Decidable p] (s t : State) : (if p then s else t).stores = if p then s.stores else t.stores :=
  apply_ite State.stores p s t

theorem elim_stores {α : Type} {o : Option α} {s : State} {f : α → State} (hf : ∀ a, (f a).stores = s.stores) :
    (o.elim s f).stores = s.stores := by
  cases o with
  | none => rfl
  | some a => exact hf a

theorem State.Resited.stores {s t : State} (h : s.Resited t) : t.stores = s.stores := by rw [h]; rfl

/-! ### Updates -/

@[simp] theorem State.setTile_stores (s : State) (t : Tile) : (s.setTile t).stores = s.stores := rfl

@[simp] theorem State.setCo_stores (s : State) (c : Company) : (s.setCo c).stores = s.stores := rfl

@[simp] theorem State.setSite_stores (s : State) (n : SiteId) (f : Site → Site) : (s.setSite n f).stores = s.stores := rfl

@[simp] theorem State.setRegion_stores (s : State) (n : SiteId) (q : Fin 4) (f : Region → Region) : (s.setRegion n q f).stores = s.stores := rfl

@[simp] theorem Here.put_stores (h : Here) (st : TState) : (h.put st).stores = h.s.stores := rfl

@[simp] theorem State.mapTiles_stores (s : State) (n : Nat) (f : Tile → Tile) : (s.mapTiles n f).stores = s.stores := rfl

/-! ### Deck memory read, host memory, mailbox words, records -/

@[simp] theorem State.freshRead_stores (s : State) (c : Option Company) (who : BitVec 16) (a n : Nat) :
    (s.freshRead c who a n).stores = s.stores := by
  refine foldl_stores (fun s b => ?_) _ _
  split <;> simp

@[simp] theorem State.hostPut_stores (s : State) (port : Nat) (cs : List Host.Cell) : (s.hostPut port cs).stores = s.stores := by
  unfold State.hostPut
  split <;> simp

@[simp] theorem State.mbSet_stores (s : State) (w : Nat) (x : MbWord) : (s.mbSet w x).stores = s.stores := rfl

@[simp] theorem State.mbPost_stores (s : State) (w : Nat) (v : W64) : (s.mbPost w v).stores = s.stores := by simp [State.mbPost]

@[simp] theorem State.flushPosts_stores (s : State) : s.flushPosts.stores = s.stores := foldl_stores (fun _ _ => by simp) _ _

@[simp] theorem State.logRec_stores (s : State) (r : FaultRec) : (s.logRec r).stores = s.stores := by simp [State.logRec]

@[simp] theorem State.postRec_stores (s : State) (site : SiteId) (r : FaultRec) : (s.postRec site r).stores = s.stores := by simp [State.postRec]

@[simp] theorem State.flushRecs_stores (s : State) (site : SiteId) : (s.flushRecs site).stores = s.stores := by
  unfold State.flushRecs
  dsimp only
  split
  · rfl
  · rw [foldl_stores State.logRec_stores, State.setSite_stores]

@[simp] theorem State.askTrim_stores (s : State) (n : SiteId) (q : Fin 4) (from_ : Nat) :
    (s.askTrim n q from_).stores = s.stores := by simp [State.askTrim]

@[simp] theorem State.startCounters_stores (s : State) (co : Nat) : (s.startCounters co).stores = s.stores := rfl

@[simp] theorem State.startGang_stores (s : State) (co g : Nat) : (s.startGang co g).stores = s.stores := rfl

/-! ### Trims, causes, traps -/

@[simp] theorem State.endCause_stores (s : State) (co : Nat) (code : BitVec 8) (info : W64) (pc : W32) (unit : Nat) (tile : Option TileKey) :
    (s.endCause co code info pc unit tile).stores = s.stores := by
  unfold State.endCause
  split
  · simp
  · split <;> simp

@[simp] theorem Here.takeTrap_stores (h : Here) (atIssue : Bool) (code : BitVec 8) (info : W64) :
    (h.takeTrap atIssue code info).stores = h.s.stores := by
  unfold Here.takeTrap
  split <;> simp

/-! ### Reports, translations, page faults -/

@[simp] theorem State.report_stores (s : State) (c : Company) (rep : Bool) (rslot : Nat) (w : W64) : (s.report c rep rslot w).stores = s.stores := by
  unfold State.report
  split
  · split <;> simp
  · simp

@[simp] theorem State.fill1_stores (s : State) (x : XlateEntry) : (s.fill1 x).stores = s.stores := rfl

@[simp] theorem State.fill_stores (s : State) (xs : List XlateEntry) : (s.fill xs).stores = s.stores := foldl_stores State.fill1_stores _ _

@[simp] theorem State.reportFault_stores (s : State) (r : PfReq) : (s.reportFault r).stores = s.stores := rfl

@[simp] theorem State.closeReq_stores (s : State) (i : W32) : (s.closeReq i).stores = s.stores := rfl

@[simp] theorem State.closeReqs_stores (s : State) (co : Nat) : (s.closeReqs co).stores = s.stores := rfl

@[simp] theorem State.rewriteFault_stores (s : State) (c : Company) (k : TileKey) (seg : Nat) (f : Nat × Nat) :
    (s.rewriteFault c k seg f).stores = s.stores := by simp [State.rewriteFault]

/-! ### Collectives -/

@[simp] theorem State.resend_stores (s : State) (k : TileKey) : (s.resend k).stores = s.stores := by
  unfold State.resend
  split
  · rfl
  · refine foldl_stores (fun s r => ?_) _ _
    split
    · rfl
    · rw [ite_stores]
      split
      · split <;> simp
      · rfl

@[simp] theorem State.closeRound_stores (s : State) (c : Company) (r : Round) : (s.closeRound c r).stores = s.stores := by simp [State.closeRound]

@[simp] theorem State.closeRounds_stores (s : State) (co : Nat) : (s.closeRounds co).stores = s.stores := by
  unfold State.closeRounds
  split
  · rfl
  · refine foldl_stores (fun s r => ?_) _ _
    split <;> simp

@[simp] theorem Here.chorusEnd_stores (h : Here) (d : CDesc) (cells : List Host.Cell) (poison : Bool) (flag code sub : Nat) :
    (h.chorusEnd d cells poison flag code sub).stores = h.s.stores := by
  unfold Here.chorusEnd
  dsimp only
  rw [ite_stores]
  split
  · simp
  · split
    · simp
    · split <;> simp

/-! ### Bundles, boundaries, rollbacks -/

@[simp] theorem State.finishBundle_stores (s : State) (k : TileKey) (b : Bundle) : (s.finishBundle k b).stores = s.stores := by
  unfold State.finishBundle
  split
  · rfl
  · next h hs => simp [(State.hereAt_parts hs).1]

@[simp] theorem Here.takeIssueCause_stores (h : Here) (code : BitVec 8) (info : W64) : (h.takeIssueCause code info).stores = h.s.stores := by
  unfold Here.takeIssueCause
  split <;> simp

@[simp] theorem State.deliver_stores (s : State) (k : TileKey) : (s.deliver k).stores = s.stores := by
  unfold State.deliver
  split
  · rfl
  · next h hs =>
    obtain rfl := (State.hereAt_parts hs).1
    dsimp only
    rw [ite_stores, State.postRec_stores]
    split
    · split <;> simp
    · rfl

@[simp] theorem State.closeBoundary_stores (s : State) (co : Nat) : (s.closeBoundary co).stores = s.stores := by
  unfold State.closeBoundary
  split
  · rfl
  · exact (foldl_stores State.deliver_stores _ _).trans (by simp)

@[simp] theorem State.redeliver_stores (s : State) (c : Company) (k : TileKey) : (s.redeliver c k).stores = s.stores := by
  unfold State.redeliver
  split
  · simp
  · split <;> simp

@[simp] theorem State.rollback_stores (s : State) (co unit : Nat) (info : W64) (p : RecPlace) : (s.rollback co unit info p).stores = s.stores := by
  unfold State.rollback
  split
  · rfl
  · dsimp only
    rw [ite_stores, ite_stores, foldl_stores fun s t => s.redeliver_stores _ _]
    simp

@[simp] theorem State.companyRead_stores (s : State) (c : Company) (p : RecPlace) (a n : Nat) : (s.companyRead c p a n).1.stores = s.stores := by
  unfold State.companyRead
  split <;> simp

@[simp] theorem State.walkerRead_stores (s : State) (c : Company) (p : RecPlace) (l : List Nat) : (s.walkerRead c p l).1.stores = s.stores := by
  induction l generalizing s with
  | nil => rfl
  | cons a l ih =>
    rw [State.walkerRead]
    split
    · simp
    · rw [ih, State.freshRead_stores]

@[simp] theorem State.readFetch_stores (s : State) (c : Company) (p : RecPlace) (f : SegFetch) : (s.readFetch c p f).1.stores = s.stores := by
  refine (foldl_stores_fst (fun x a => ?_) _ _).trans (by simp)
  split <;> simp

@[simp] theorem State.rewriteAll_stores (s : State) (c : Company) (ts : List Tile) : (s.rewriteAll c ts).1.stores = s.stores := by
  unfold State.rewriteAll
  extract_lets ts fs w
  have read : w.1.stores = s.stores := foldl_stores_fst (fun x f => by split <;> simp) _ _
  split
  · exact read
  · split
    · exact (State.rewriteFault_stores ..).trans read
    · refine (foldl_stores (fun s' t => ?_) _ _).trans read
      split <;> simp

/-! ### Engines -/

@[simp] theorem State.noteHole_stores (s : State) (co : Nat) (k : TileKey) (a : Nat) : (s.noteHole co k a).stores = s.stores := rfl

@[simp] theorem State.flyPoint_stores (s : State) (k : TileKey) (c : FlyCmd) : (s.flyPoint k c).stores = s.stores := by
  unfold State.flyPoint
  split
  · rfl
  · next h hs =>
    dsimp only
    rw [ite_stores]
    split
    · simp
    · rw [ite_stores]
      split
      · simp
      · refine (foldl_stores_fst (fun x r => ?_) _ _).trans (by simp)
        split <;> simp

@[simp] theorem State.flyFinish_stores (s : State) (k : TileKey) (c : FlyCmd) : (s.flyFinish k c).stores = s.stores := by
  unfold State.flyFinish
  split
  · rfl
  · next h hs => simp [(State.hereAt_parts hs).1]

@[simp] theorem Here.readTables_stores (h : Here) (r : Reach) : (h.readTables r).1.stores = h.s.stores := by simp [Here.readTables]

@[simp] theorem Here.acopyEnd_stores (h : Here) (st : TState) (x : AcEntry) (store : Bool) (fault : Option (Nat × Nat)) :
    (h.acopyEnd st x store fault).stores = h.s.stores := by simp [Here.acopyEnd]

@[simp] theorem State.readPieces_stores (s : State) (h : Here) (ps : List (Piece × Place)) : (s.readPieces h ps).1.stores = s.stores := by
  refine foldl_stores_fst (fun x p => ?_) _ _
  split
  · split <;> simp
  · rfl

@[simp] theorem Here.loadDo_stores (h : Here) (x : AcEntry) (rest : List AcEntry) (r : Reach) (stop : Option (Nat × Nat)) :
    (h.loadDo x rest r stop).stores = h.s.stores := by simp [Here.loadDo]

@[simp] theorem Here.acopyReads_stores (h : Here) (id : Nat) (places : List Nat) : (h.acopyReads id places).stores = h.s.stores := by
  unfold Here.acopyReads
  split
  · simp
  · split <;> simp

@[simp] theorem State.acopyRead_stores (s : State) (k : TileKey) (id : Nat) (places : List Nat) : (s.acopyRead k id places).stores = s.stores := by
  unfold State.acopyRead
  split
  · next h hs => simp [(State.hereAt_parts hs).1]
  · rfl

@[simp] theorem drainStores_stores (k : TileKey) (m : Nat) (s : State) : (drainStores k m s).stores = s.stores := by
  induction m generalizing s with
  | zero => rfl
  | succ m ih =>
    unfold drainStores
    split
    · rfl
    · next h hs =>
      split
      · rfl
      · rw [ite_stores, ih, Here.acopyEnd_stores, (State.hereAt_parts hs).1, ite_self]

@[simp] theorem Here.storeDo_stores (h : Here) (x : AcEntry) (r : Reach) (stop : Option Nat) (done : AcStage) :
    (h.storeDo x r stop done).stores = h.s.stores := by simp [Here.storeDo]

/-! ### Page faults taken up again -/

@[simp] theorem State.reportAgain_stores (s : State) (r : PfReq) (cause va : Nat) : (s.reportAgain r cause va).stores = s.stores := rfl

@[simp] theorem State.mapSharers_stores (s : State) (k : TileKey) (f : Tile → Tile) :
    (s.mapSharers k f).stores = s.stores := foldl_stores (fun s t => s.setTile_stores (f t)) _ _

@[simp] theorem State.retryReq_stores (s : State) (r : PfReq) : (s.retryReq r).stores = s.stores := by
  unfold State.retryReq
  split
  case h_1 | h_2 =>
    split
    · rfl
    · next h x hx =>
      obtain rfl := (State.hereAt_parts (State.hereAt_of_suspendedBy hx)).1
      dsimp only
      rw [ite_stores]
      split
      · simp
      · split <;> simp
  case h_3 | h_4 =>
    split
    · rfl
    · split
      · rfl
      · dsimp only
        rw [ite_stores]
        split
        · simp
        · split <;> simp

/-! ### Sites lost, links, circuits, counts -/

@[simp] theorem State.decide_stores (s : State) (d : Decision) : (s.decide_ d).stores = s.stores := by simp [State.decide_]

@[simp] theorem State.judge_stores (s : State) (n : SiteId) (to_ : SiteState) (cause : BitVec 8) :
    (s.judge n to_ cause).stores = s.stores := by simp [State.judge]

@[simp] theorem State.loseBy_stores (s : State) (n : SiteId) (to_ : SiteState) (cause : BitVec 8) (l at_ : Nat) (opening : Bool) :
    (s.loseBy n to_ cause l at_ opening).stores = s.stores := by simp [State.loseBy]

@[simp] theorem State.lose_stores (s : State) (n : SiteId) (to_ : SiteState) (cause : BitVec 8) (l at_ : Nat) :
    (s.lose n to_ cause l at_).stores = s.stores := by simp [State.lose]

@[simp] theorem State.faultPathless_stores (s : State) : s.faultPathless.stores = s.stores := by
  unfold State.faultPathless
  split
  · rfl
  · refine foldl_stores (fun s n => ?_) _ _
    simp

@[simp] theorem State.rootless_stores (s : State) (n : SiteId) : (s.rootless n).stores = s.stores := by
  unfold State.rootless
  dsimp only
  rw [ite_stores, foldl_stores fun t c => by simp, ite_self]

@[simp] theorem State.retree_stores (s t : State) : (s.retree t).stores = t.stores := by
  unfold State.retree
  dsimp only
  refine (foldl_stores (fun u n => ?_) _ _).trans ((State.faultPathless_stores _).trans (foldl_stores (fun u c => ?_) _ _))
  · simp
  · simp

@[simp] theorem State.onTile_stores (s : State) (k : TileKey) (f : Tile → Tile) : (s.onTile k f).stores = s.stores := by
  unfold State.onTile
  split <;> simp

@[simp] theorem State.tearWords_stores (s : State) (a b : TileKey × Side) : (s.tearWords a b).stores = s.stores := by
  unfold State.tearWords
  split
  · rfl
  · exact foldl_stores (fun _ _ => by simp) _ _

@[simp] theorem State.tearDown_stores (s : State) (i : Nat) : (s.tearDown i).stores = s.stores := by
  unfold State.tearDown
  split <;> simp

@[simp] theorem State.tearFallen_stores (s : State) : s.tearFallen.stores = s.stores := by
  refine foldl_stores (fun s i => ?_) _ _
  split <;> simp

@[simp] theorem State.crossing4_stores (s : State) (crossed : Bool) (site : SiteId) (q : Fin 4) (unit : Nat) :
    (s.crossing4 crossed site q unit).stores = s.stores := by simp [State.crossing4]

@[simp] theorem State.modCount_stores (s : State) (site : SiteId) (j : Fin 4) (unit : Nat) :
    (s.modCount site j unit).stores = s.stores := by simp [State.modCount]

@[simp] theorem State.regCount_stores (s : State) (site : SiteId) (q : Fin 4) (j : Fin 4) (unit : Nat) :
    (s.regCount site q j unit).stores = s.stores := by simp [State.regCount]

@[simp] theorem State.linkOut_stores (s : State) (l : DeckLink) : (s.linkOut l).stores = s.stores := by simp [State.linkOut]

@[simp] theorem State.retrain_stores (s : State) (n : SiteId) (q : Fin 4) : (s.retrain n q).stores = s.stores := rfl

@[simp] theorem State.askOfs_stores (s : State) (n : SiteId) (q : Fin 4) : (s.askOfs n q).stores = s.stores := rfl

@[simp] theorem State.pathOut_stores (s : State) (n : SiteId) (q : Fin 4) (p : Parent) : (s.pathOut n q p).stores = s.stores := by
  unfold State.pathOut
  split <;> simp

/-! ### Companies -/

@[simp] theorem State.reuse_stores (s : State) : s.reuse.stores = s.stores := s.reuse_resited.stores

@[simp] theorem State.restIslands_stores (s : State) : s.restIslands.stores = s.stores := s.restIslands_resited.stores

@[simp] theorem State.remap_stores (s : State) : s.remap.stores = s.stores := s.remap_resited.stores

@[simp] theorem State.opDone_stores (s : State) (id : Nat) (w : W64) : (s.opDone id w).stores = s.stores := by
  unfold State.opDone
  split
  · simp
  · split <;> simp

@[simp] theorem State.freeCompany_stores (s : State) (c : Company) (code : BitVec 8) : (s.freeCompany c code).stores = s.stores := by
  refine (s.freeCompany_resited c code).stores.trans ?_
  show (s.packetsDone c code).stores = s.stores
  rw [State.packetsDone, State.opDone_stores, State.closeReqs_stores, foldl_stores fun s o => s.opDone_stores _ _,
    foldl_stores fun s l => s.opDone_stores _ _]

@[simp] theorem State.rewant_stores (s : State) : s.rewant.stores = s.stores := rfl

@[simp] theorem State.heldWords_stores (s : State) (co h d : Nat) : (s.heldWords co h d).stores = s.stores := rfl

@[simp] theorem State.uncorrected_stores (s : State) (co unit : Nat) (p : RecPlace) (addr : Option Nat) :
    (s.uncorrected co unit p addr).stores = s.stores := by simp [State.uncorrected]

@[simp] theorem State.dropXlate_stores (s : State) (site : SiteId) (q : Fin 4) : (s.dropXlate site q).stores = s.stores := by
  unfold State.dropXlate
  dsimp only
  split <;> simp

/-! ### Firmware, transitions of sites -/

@[simp] theorem State.bootService_stores (s : State) : s.bootService.stores = s.stores := rfl

@[simp] theorem State.serviceOff_stores (s : State) : s.serviceOff.stores = s.stores := rfl

@[simp] theorem State.withRecords_stores (s : State) (f : Firmware) : (s.withRecords f).stores = s.stores := rfl

@[simp] theorem State.keepCard_stores (s : State) (n : SiteId) : (s.keepCard n).stores = s.stores := rfl

@[simp] theorem State.opened_stores (s : State) (n : SiteId) (cause : BitVec 8) : (s.opened n cause).stores = s.stores := by simp [State.opened]

@[simp] theorem State.trainLinks_stores (s : State) (n : SiteId) (ps : List (Fin 8)) : (s.trainLinks n ps).stores = s.stores := by
  refine foldl_stores (fun s x => ?_) _ _
  split <;> simp

@[simp] theorem State.keepArea_stores (s : State) : s.keepArea.stores = s.stores := rfl

@[simp] theorem State.loadService_stores (s : State) : s.loadService.stores = s.stores := by simp [State.loadService]

@[simp] theorem State.takeWaiting_stores (s : State) : s.takeWaiting.stores = s.stores := rfl

@[simp] theorem State.linkTraining_stores (s : State) (n : SiteId) (ps : List (Fin 8)) :
    (s.linkTraining n ps).stores = s.stores := by simp [State.linkTraining]

@[simp] theorem State.measureLink_stores (s : State) (n : SiteId) (p : Fin 8) (t1 t2 t4 : W64) : (s.measureLink n p t1 t2 t4).stores = s.stores := by
  unfold State.measureLink
  split <;> simp

@[simp] theorem State.silent_stores (s : State) (n : SiteId) : (s.silent n).stores = s.stores := by simp [State.silent]

@[simp] theorem State.cmdRefused_stores (s : State) (n : SiteId) : (s.cmdRefused n).stores = s.stores := rfl

@[simp] theorem State.drain_stores (s : State) (n : SiteId) : (s.drain n).stores = s.stores := by simp [State.drain]

@[simp] theorem State.cancelRejoins_stores (s : State) (n : SiteId) (c : Company) :
    (s.cancelRejoins n c).stores = s.stores := foldl_stores (fun _ _ => foldl_stores (fun s _ => s.opDone_stores _ _) _ _) _ _

@[simp] theorem State.siteLostFor_stores (s : State) (n : SiteId) (c0 : Company) :
    (s.siteLostFor n c0).stores = s.stores := by simp [State.siteLostFor]

@[simp] theorem State.untrain_stores (s : State) (n : SiteId) : (s.untrain n).stores = s.stores := by
  refine (foldl_stores (fun s p => ?_) _ _).trans (s.setSite_stores _ _)
  split <;> simp

@[simp] theorem State.renewed_stores (s : State) (n : SiteId) (old : SiteState) : (s.renewed n old).stores = s.stores := by simp [State.renewed]

@[simp] theorem State.transit_stores (s : State) (d0 : Decision) : (s.transit d0).stores = s.stores := by
  unfold State.transit
  dsimp only
  rw [ite_stores]
  split
  · rfl
  · split
    · simp [foldl_stores fun t c => State.siteLostFor_stores t _ c]
    · simp [foldl_stores fun t c => State.siteLostFor_stores t _ c]
    · simp
    · split <;> simp
    · simp
    · simp

@[simp] theorem State.afterSeated_stores (s : State) (n : SiteId) : (s.afterSeated n).stores = s.stores := by simp [State.afterSeated]

@[simp] theorem State.holdMirror_stores (s : State) : s.holdMirror.stores = s.stores := by simp [State.holdMirror]

@[simp] theorem State.loadGang_stores (s : State) (c : Company) (g : Nat) : (s.loadGang c g).1.stores = s.stores := by
  unfold State.loadGang
  dsimp only
  split <;> simp

@[simp] theorem State.setRejoin_stores (s : State) (id w g : Nat) (x : RejoinStage) : (s.setRejoin id w g x).stores = s.stores := rfl

@[simp] theorem State.placeRejoin_stores (s : State) (o : PendOp) : (s.placeRejoin o).stores = s.stores := by
  unfold State.placeRejoin
  split
  · split
    · rfl
    · split
      · rfl
      · extract_lets st runs
        rw [ite_stores]
        split
        · rfl
        · split
          · simp
          · rfl
          · rw [ite_stores]
            split
            · rfl
            · split
              · rfl
              · split
                · exact s.loadGang_stores _ _
                · exact s.loadGang_stores _ _
  · rfl

@[simp] theorem State.placeRejoins_stores (s : State) :
    s.placeRejoins.stores = s.stores := (State.reuse_stores _).trans (foldl_stores State.placeRejoin_stores _ _)

@[simp] theorem State.tell_stores (s : State) : s.tell.stores = s.stores := rfl

@[simp] theorem State.change_stores (s : State) (d : Decision) : (s.change d).stores = s.stores := by simp [State.change]

@[simp] theorem State.serviceBack_stores (s : State) (was : Bool) : (s.serviceBack was).stores = s.stores := by
  unfold State.serviceBack
  rw [ite_stores, foldl_stores State.flushRecs_stores]
  simp

/-! ### Power -/

@[simp] theorem State.sense_stores (s : State) (n : SiteId) : (s.sense n).stores = s.stores := by simp [State.sense]

@[simp] theorem State.setTarget_stores (s : State) (n : SiteId) (v : Nat) : (s.setTarget n v).stores = s.stores := by simp [State.setTarget]

@[simp] theorem State.raise_stores (s : State) (n : SiteId) : (s.raise n).stores = s.stores := by simp [State.raise]

@[simp] theorem State.raiseAll_stores (s : State) : s.raiseAll.stores = s.stores := foldl_stores State.raise_stores _ _

/-! ### Queues -/

@[simp] theorem State.wordReadAt_stores (s : State) (w : W64) (off n : Nat) : (s.wordReadAt w off n).stores = s.stores := by simp [State.wordReadAt]

@[simp] theorem State.wordRead_stores (s : State) (w : W64) (n : Nat) : (s.wordRead w n).stores = s.stores := by simp [State.wordRead]

@[simp] theorem State.onQueue_stores (s : State) (q : Fin 64) (f : Queue → Queue) : (s.onQueue q f).stores = s.stores := rfl

@[simp] theorem State.complete_stores (s : State) (q : Fin 64) (p : Packet) (code : BitVec 8) : (s.complete q p code).stores = s.stores := by
  unfold State.complete
  split <;> simp

@[simp] theorem State.later_stores (s : State) (q : Fin 64) (p : Packet) (k : OpKind) : (s.later q p k).stores = s.stores := rfl

@[simp] theorem State.block_stores (s : State) (q : Fin 64) : (s.block q).stores = s.stores := by simp [State.block]

@[simp] theorem State.waitDone_stores (s : State) (q : Fin 64) (p : Packet) : (s.waitDone q p).stores = s.stores := by
  unfold State.waitDone
  split <;> simp

@[simp] theorem State.waits_stores (s : State) (q : Fin 64) (p : Packet) : (s.waits q p).stores = s.stores := by simp [State.waits]

@[simp] theorem State.noteFreed_stores (s : State) : s.noteFreed.stores = s.stores := by
  refine foldl_stores (fun s q => ?_) _ _
  split <;> simp

@[simp] theorem State.dropLaunch_stores (s : State) (i : LaunchInfo) (code : BitVec 8) : (s.dropLaunch i code).stores = s.stores := by
  unfold State.dropLaunch
  rw [State.opDone_stores, foldl_stores fun s l => s.opDone_stores _ _]
  simp

@[simp] theorem State.launchReads_stores (s : State) (p : Packet) : (s.launchReads p).stores = s.stores := by simp [State.launchReads]

/-! ### Placement -/

@[simp] theorem State.addCircuit_stores (s : State) (x : Circuit) : (s.addCircuit x).stores = s.stores := by simp [State.addCircuit]

@[simp] theorem State.addCircuits_stores (s : State) (c : Company) : (s.addCircuits c).stores = s.stores := by
  refine foldl_stores (fun s b => foldl_stores (fun s t => foldl_stores (fun s d => ?_) _ _) _ _) _ _
  split
  · exact elim_stores s.addCircuit_stores
  · rfl

@[simp] theorem State.preempt_stores (s : State) (n : Nat) : (s.preempt n).stores = s.stores := by
  unfold State.preempt
  split <;> simp

/-! ### Firmware and host -/

@[simp] theorem State.resetService_stores (s : State) : s.resetService.stores = s.stores := by simp [State.resetService]

@[simp] theorem State.startUpdate_stores (s : State) (len : BitVec 64) : (s.startUpdate len).stores = s.stores := by simp [State.startUpdate]

@[simp] theorem State.bringRecord_stores (s : State) (r : FlashRecord) : (s.bringRecord r).stores = s.stores := by simp [State.bringRecord]

@[simp] theorem State.writeModCounts_stores (s : State) (n : SiteId) (v : W64) : (s.writeModCounts n v).stores = s.stores := by
  refine foldl_stores (fun s x => ?_) _ _
  simp

@[simp] theorem State.writeRegCounts_stores (s : State) (n : SiteId) (q : Fin 4) (v : W64) : (s.writeRegCounts n q v).stores = s.stores := by
  refine foldl_stores (fun s x => ?_) _ _
  simp

@[simp] theorem State.landPuts_stores (s : State) : s.landPuts.stores = s.stores := by
  unfold State.landPuts
  rw [ite_stores, foldl_stores fun s p => by simp]
  simp

@[simp] theorem State.dropPeer_stores (s : State) (p : Fin 16) : (s.dropPeer p).stores = s.stores := by
  refine foldl_stores (fun s x => ?_) _ _
  simp

/-! ### The parts of a cycle -/

@[simp] theorem State.measureBus_stores (s : State) (watts cv : BitVec 16) :
    (s.measureBus watts cv).stores = s.stores := foldl_stores State.sense_stores _ _

@[simp] theorem State.measureOutlet_stores (s : State) (t : BitVec 8) : (s.measureOutlet t).stores = s.stores := by simp [State.measureOutlet]

@[simp] theorem State.endCycle_stores (s : State) : s.endCycle.stores = s.stores := foldl_stores (fun s _ => s.mapTiles_stores _ _) _ _

@[simp] theorem State.endBoundaries_stores (s : State) : s.endBoundaries.stores = s.stores := foldl_stores (fun s _ => s.closeBoundary_stores _) _ _

@[simp] theorem State.tick_stores (s : State) : s.tick.stores = s.stores := rfl

end Sys2Proof.Machine
end

section
/-! SUPPORT. The events that leave deck memory and the weight stores as they were. -/
namespace Sys2Proof.Machine

/-- An outcome that leaves the two memories as they were. -/
def Keeps (s : State) (o : Host.Outcome State Fault Refusal) : Prop := ∀ t, o = .next t → t.stores = s.stores

@[simp] theorem keeps_next (s t : State) : Keeps s (.next t) ↔ t.stores = s.stores :=
  ⟨fun h => h t rfl, fun h _ e => Host.Outcome.next.inj e ▸ h⟩

theorem keeps_atTile {s : State} (k : TileKey) {f : Here → State} (hf : ∀ h : Here, h.s = s → (f h).stores = s.stores) :
    Keeps s (atTile k f s) := by
  unfold atTile
  split
  · simp
  · next h hs => simpa using hf h (State.hereAt_parts hs).1

theorem keeps_atEngine {s : State} (k : TileKey) {f : Here → State} (hf : ∀ h : Here, h.s = s → (f h).stores = s.stores) :
    Keeps s (atEngine k f s) := keeps_atTile k fun h hs => by simp [hf h hs]

theorem keeps_packet {s : State} (n : Nat) (q : Fin 64) {f : Packet → State} (hf : ∀ p, (f p).stores = s.stores) : Keeps s (packet n q f s) := by
  unfold packet
  split
  · simpa using hf _
  · simp

theorem Keeps.of_stores {s t : State} {o : Host.Outcome State Fault Refusal} (e : t.stores = s.stores) (h : Keeps t o) : Keeps s o :=
  fun u hu => (h u hu).trans e

@[simp] theorem Here.hostDrawn_stores (h : Here) (ps : List (Piece × Place)) : (h.hostDrawn ps).s.stores = h.s.stores := by
  unfold Here.hostDrawn
  split <;> simp

@[simp] theorem Here.enterPopped_stores (h : Here) : h.enterPopped.s.stores = h.s.stores := by
  unfold Here.enterPopped
  split <;> simp

/-- The words of a bundle touch neither memory (`slotWordFrame`). -/
theorem execWord_keeps {i : Instr} (hi : (encode i).isSome = true) (s : State) : Keeps s (execWord i s) := by
  intro t ht
  rw [execWord_eq_exec i hi] at ht
  obtain ⟨-, hf⟩ | ⟨h, -, hs, -⟩ := exec_slot hi s
  · exact nomatch hf.symm.trans ht
  · obtain ⟨hm, hw, -⟩ := slotWordFrame i s t h hi hs ht
    rw [State.stores, hm, hw, State.stores]

theorem issueSlots_stores (b : Bundle) (us : List Slot) : ∀ (s : State) (rs : List Raise), (issueSlots b us s rs).1.stores = s.stores := by
  induction us with
  | nil => exact fun _ _ => rfl
  | cons u us ih =>
    intro s rs
    unfold issueSlots
    split
    · exact ih _ _
    · next i hi =>
      have keeps := execWord_keeps (decodeGivesOnlyLegalWords u _ i hi).2 { s with slot := u, raised := none }
      split
      · next t ht =>
        split
        · exact ih _ _
        · exact (ih _ _).trans (keeps t ht)
      · exact ih _ _

@[simp] theorem Here.issueBundle_stores (h : Here) : h.issueBundle.stores = h.s.stores := by
  unfold Here.issueBundle
  extract_lets u
  split
  · simp [u]
  · rename_i st src s0 _ b _
    extract_lets r
    have start : s0.stores = h.s.stores := by simp [s0, src, u]
    rw [ite_stores]
    split
    · simp [u]
    · split
      · split
        · next h0 hs => rw [Here.takeIssueCause_stores, (State.hereAt_parts hs).1, start]
        · exact start
      · exact (State.finishBundle_stores ..).trans ((issueSlots_stores ..).trans start)

/-! ### Results and beats landing -/

theorem execResultLanding_keeps (k : TileKey) (s : State) : Keeps s (execResultLanding k s) := by
  refine keeps_atTile _ fun h hs => ?_
  subst hs
  simp

theorem execHopBeatLanding_keeps (k : TileKey) (s : State) : Keeps s (execHopBeatLanding k s) := by
  refine keeps_atTile _ fun h hs => ?_
  subst hs
  refine (foldl_stores (fun s b => ?_) _ _).trans (h.put_stores _)
  split <;> simp

theorem execCrossingBeatArrival_keeps (k : TileKey) (s : State) : Keeps s (execCrossingBeatArrival k s) := by
  refine keeps_atTile _ fun h hs => ?_
  subst hs
  dsimp only
  rw [ite_stores]
  split
  · rfl
  · refine (foldl_stores (fun s x => ?_) _ _).trans (h.put_stores _)
    split
    · exact elim_stores fun t => s.setTile_stores _
    · exact elim_stores fun t => s.setTile_stores _
    · rfl

theorem execCrossingWordLost_keeps (k : TileKey) (side : Side) (ch : Fin 8) (s : State) : Keeps s (execCrossingWordLost k side ch s) := by
  refine keeps_atTile _ fun h hs => ?_
  subst hs
  split
  · rfl
  · dsimp only
    split
    · rfl
    · exact elim_stores fun t => State.setTile_stores ..

theorem execSignalArrival_keeps (k : TileKey) (s : State) : Keeps s (execSignalArrival k s) := by
  refine keeps_atTile _ fun h hs => ?_
  subst hs
  refine (foldl_stores (fun s x => ?_) _ _).trans (h.put_stores _)
  rfl

/-! ### Collectives -/

theorem execChorusMemberCompletion_keeps (k : TileKey) (b : Fin 64) (s : State) : Keeps s (execChorusMemberCompletion k b s) := by
  refine keeps_atTile _ fun h hs => ?_
  subst hs
  split <;> simp

theorem execBarCompletion_keeps (k : TileKey) (b : Fin 64) (s : State) : Keeps s (execBarCompletion k b s) := by
  refine keeps_atTile _ fun h hs => ?_
  subst hs
  split <;> simp

theorem execChorusStaleCompletion_keeps (k : TileKey) (s : State) : Keeps s (execChorusStaleCompletion k s) := by
  refine keeps_atTile _ fun h hs => ?_
  subst hs
  refine foldl_stores (fun s d => ?_) _ _
  cases hd : s.hereAt k with
  | none => rfl
  | some h => simp [(State.hereAt_parts hd).1]

theorem execChorusTimeout_keeps (k : TileKey) (b : Fin 64) (s : State) : Keeps s (execChorusTimeout k b s) := by
  refine keeps_atTile _ fun h hs => ?_
  subst hs
  split <;> simp

theorem execCombineCompletion_keeps (k : TileKey) (s : State) : Keeps s (execCombineCompletion k s) := by
  refine keeps_atTile _ fun h hs => ?_
  subst hs
  split <;> simp

theorem execRingBoundary_keeps (co : Nat) (s : State) : Keeps s (execRingBoundary co s) := by
  unfold execRingBoundary
  dsimp only
  split
  · simp
  · rw [keeps_next]
    refine (foldl_stores (fun s a => foldl_stores (fun s r => ?_) _ _) _ _).trans (by simp)
    simp

/-! ### Tile copies -/

theorem execTileCopyStart_keeps (k : TileKey) (s : State) : Keeps s (execTileCopyStart k s) := by
  unfold execTileCopyStart
  split
  · simp
  · next h hs =>
    obtain rfl := (State.hereAt_parts hs).1
    split
    · split
      · split <;> simp
      · simp
    · simp

theorem execTileCopyCompletion_keeps (k : TileKey) (s : State) : Keeps s (execTileCopyCompletion k s) := by
  unfold execTileCopyCompletion
  split
  · simp
  · next h hs =>
    obtain rfl := (State.hereAt_parts hs).1
    split
    · split
      · split <;> simp
      · simp
    · simp

/-! ### The sequencer -/

theorem execSequencerIssue_keeps (k : TileKey) (s : State) : Keeps s (execSequencerIssue k s) := by
  refine keeps_atTile _ fun h hs => ?_
  subst hs
  simp

theorem execWaitcueTargetReached_keeps (k : TileKey) (s : State) : Keeps s (execWaitcueTargetReached k s) := by
  refine keeps_atTile _ fun h hs => ?_
  subst hs
  split <;> simp

theorem execWaitrelExpiry_keeps (k : TileKey) (s : State) : Keeps s (execWaitrelExpiry k s) := by
  refine keeps_atTile _ fun h hs => ?_
  subst hs
  split <;> simp

theorem execWaiteWake_keeps (k : TileKey) (s : State) : Keeps s (execWaiteWake k s) := by
  refine keeps_atTile _ fun h hs => ?_
  subst hs
  split <;> simp

theorem execWaiteDeadline_keeps (k : TileKey) (s : State) : Keeps s (execWaiteDeadline k s) := by
  refine keeps_atTile _ fun h hs => ?_
  subst hs
  split <;> simp

theorem execWaitownWake_keeps (k : TileKey) (s : State) : Keeps s (execWaitownWake k s) := by
  refine keeps_atTile _ fun h hs => ?_
  subst hs
  split <;> simp

theorem execWaitownDeadline_keeps (k : TileKey) (s : State) : Keeps s (execWaitownDeadline k s) := by
  refine keeps_atTile _ fun h hs => ?_
  subst hs
  split <;> simp

theorem execLocalLimitDeadline_keeps (k : TileKey) (s : State) : Keeps s (execLocalLimitDeadline k s) := by
  refine keeps_atTile _ fun h hs => ?_
  subst hs
  split <;> simp

theorem execMissingMarkRb_keeps (k : TileKey) (s : State) : Keeps s (execMissingMarkRb k s) := by
  refine keeps_atTile _ fun h hs => ?_
  subst hs
  simp

/-! ### Rollback -/

theorem execRollbackRestart_keeps (co : Nat) (s : State) : Keeps s (execRollbackRestart co s) := by
  unfold execRollbackRestart
  split
  · simp
  · split
    · split <;> simp
    · split <;> simp
    · simp

/-! ### Engines -/

theorem execFlyMemoryPoint_keeps (k : TileKey) (s : State) : Keeps s (execFlyMemoryPoint k s) := by
  refine keeps_atEngine _ fun h hs => ?_
  split <;> simp

theorem execFlyCompletion_keeps (k : TileKey) (s : State) : Keeps s (execFlyCompletion k s) := by
  refine keeps_atEngine _ fun h hs => ?_
  exact foldl_stores (fun s c => s.flyFinish_stores k c) _ _

theorem execWheelResult_keeps (k : TileKey) (s : State) : Keeps s (execWheelResult k s) := by
  refine keeps_atEngine _ fun h hs => ?_
  subst hs
  simp

theorem execAcopyLoadCompletion_keeps (k : TileKey) (s : State) : Keeps s (execAcopyLoadCompletion k s) := by
  refine keeps_atEngine _ fun h hs => ?_
  subst hs
  split
  · rfl
  · split
    · rfl
    · dsimp only
      rw [ite_stores, ite_stores]
      split
      · simp
      · split
        · rfl
        · split
          · simp
          · split <;> simp

theorem execAcopyStoreCompletion_keeps (k : TileKey) (s : State) : Keeps s (execAcopyStoreCompletion k s) := by
  refine keeps_atEngine _ fun h hs => ?_
  subst hs
  split
  · simp
  · split
    · rfl
    · dsimp only
      rw [ite_stores, ite_stores]
      split
      · simp
      · split
        · rfl
        · split
          · simp
          · split <;> simp

theorem execQmarkCompletion_keeps (k : TileKey) (s : State) : Keeps s (execQmarkCompletion k s) := by
  refine keeps_atEngine _ fun h hs => ?_
  subst hs
  split <;> simp

theorem execMailboxPutPerformed_keeps (k : TileKey) (s : State) : Keeps s (execMailboxPutPerformed k s) := by
  refine keeps_atEngine _ fun h hs => ?_
  split <;> simp

theorem execMailboxGetPerformed_keeps (k : TileKey) (s : State) : Keeps s (execMailboxGetPerformed k s) := by
  refine keeps_atEngine _ fun h hs => ?_
  subst hs
  split <;> simp

/-! ### Page faults -/

theorem execAcopyPageFault_keeps (k : TileKey) (store : Bool) (s : State) : Keeps s (execAcopyPageFault k store s) := by
  refine keeps_atEngine _ fun h hs => ?_
  subst hs
  split
  · rfl
  · dsimp only
    rw [ite_stores]
    split
    · rfl
    · split <;> simp

theorem execPfack_keeps (i : BitVec 32) (s : State) : Keeps s (execPfack i s) := by
  unfold execPfack
  split <;> simp

theorem execPageFaultUnresolvable_keeps (i : BitVec 32) (s : State) : Keeps s (execPageFaultUnresolvable i s) := by
  unfold execPageFaultUnresolvable
  split
  · simp
  next r _ =>
    split
    · simp
    extract_lets s0 rec_
    have recorded (u : State) (code : BitVec 8) : (rec_ u code).stores = u.stores := by
      dsimp only [rec_]
      split <;> simp
    have closed : s0.stores = s.stores := s.closeReq_stores i
    split
    case h_1 | h_2 =>
      split
      · simp [closed]
      · rename_i s1 _ _ _ _ _ _
        have before : s1.stores = s.stores := (recorded s0 _).trans closed
        rw [keeps_next, ite_stores]
        split
        · simp [before]
        · split <;> simp [before]
    case h_3 | h_4 => simp [recorded, closed]

theorem execOverlayFetchCompletion_keeps (k : TileKey) (s : State) : Keeps s (execOverlayFetchCompletion k s) := by
  refine keeps_atTile _ fun h hs => ?_
  subst hs
  split <;> simp

theorem execOverlayFetchTranslationFault_keeps (k : TileKey) (s : State) : Keeps s (execOverlayFetchTranslationFault k s) := by
  refine keeps_atTile _ fun h hs => ?_
  subst hs
  split
  · dsimp only
    rw [ite_stores]
    split
    · rfl
    · split <;> simp
  · rfl

/-! ### Trims, circuits, links -/

theorem execCircuitTeardown_keeps (i : Nat) (s : State) : Keeps s (execCircuitTeardown i s) := by
  unfold execCircuitTeardown
  split <;> simp

theorem execCircuitSetup_keeps (i : Nat) (route : List DeckLink) (s : State) : Keeps s (execCircuitSetup i route s) := by
  unfold execCircuitSetup
  split
  · simp
  · split <;> simp

theorem execLinkCrcFailure_keeps (link : DeckLink) (second : Bool) (s : State) :
    Keeps s (execLinkCrcFailure link second s) := by simp [execLinkCrcFailure]

theorem execLinkReturnToService_keeps (link : DeckLink) (s : State) : Keeps s (execLinkReturnToService link s) := by simp [execLinkReturnToService]

theorem execPeriodicTrim_keeps (site : SiteId) (q : Fin 4) (s : State) : Keeps s (execPeriodicTrim site q s) := by simp [execPeriodicTrim]

theorem execTrimExchange_keeps (site : SiteId) (q : Fin 4) (t1 t2 t4 : BitVec 64) (s : State) : Keeps s (execTrimExchange site q t1 t2 t4 s) := by
  unfold execTrimExchange
  split <;> simp

theorem execOfsMeasurement_keeps (k : TileKey) (side : Side) (t1 t2 t4 : BitVec 64) (s : State) : Keeps s (execOfsMeasurement k side t1 t2 t4 s) := by
  refine keeps_atTile _ fun h hs => ?_
  split
  · split <;> simp
  · rfl

/-! ### Companies and memory errors -/

theorem execHoldAnnouncement_keeps (co : Nat) (h : Nat) (s : State) : Keeps s (execHoldAnnouncement co h s) := by
  unfold execHoldAnnouncement
  split <;> simp

theorem execHoldBegin_keeps (co : Nat) (s : State) : Keeps s (execHoldBegin co s) := by
  unfold execHoldBegin
  split <;> simp

theorem execHoldEnd_keeps (co : Nat) (s : State) : Keeps s (execHoldEnd co s) := by
  unfold execHoldEnd
  split
  · simp
  · split <;> simp

theorem execReefLevelChange_keeps (co : Nat) (s : State) : Keeps s (execReefLevelChange co s) := by
  unfold execReefLevelChange
  split
  · simp
  · split <;> simp

theorem execFreezeAnnouncement_keeps (co : Nat) (cue : Nat) (s : State) : Keeps s (execFreezeAnnouncement co cue s) := by
  unfold execFreezeAnnouncement
  split
  · simp
  · split
    · simp
    · split <;> simp

theorem execFreezeSaveComplete_keeps (co : Nat) (s : State) : Keeps s (execFreezeSaveComplete co s) := by
  unfold execFreezeSaveComplete
  split
  · simp
  · split <;> simp

theorem execInstructionMemoryRewrite_keeps (co : Nat) (s : State) : Keeps s (execInstructionMemoryRewrite co s) := by
  rw [execInstructionMemoryRewrite, keeps_next]
  split
  · rfl
  · split
    · dsimp only
      rw [ite_stores, ite_stores, foldl_stores fun s t => by simp]
      simp
    · rfl

theorem execResume_keeps (co : Nat) (s : State) : Keeps s (execResume co s) := by
  unfold execResume
  split
  · simp
  · split <;> simp

theorem execCompanyStart_keeps (co : Nat) (s : State) : Keeps s (execCompanyStart co s) := by
  unfold execCompanyStart
  split
  · simp
  · split <;> simp

theorem execLaunchEnd_keeps (co : Nat) (s : State) : Keeps s (execLaunchEnd co s) := by
  unfold execLaunchEnd
  split <;> simp

theorem execUncorrectableError_keeps (w : ErrPlace) (s : State) : Keeps s (execUncorrectableError w s) := by
  unfold execUncorrectableError
  rw [keeps_next]
  cases w with
  | tile k u =>
    dsimp only
    split <;> simp
  | weights n q r c => exact (foldl_stores (fun s t => s.endCause_stores ..) _ _).trans (by simp)
  | shadow k boundary =>
    dsimp only
    split <;> simp
  | gate co n q sealed =>
    dsimp only
    split
    · rfl
    · rw [ite_stores]
      split
      · simp
      · split <;> simp
  | hbm a =>
    dsimp only
    split <;> simp
  | mailbox m => simp
  | link l => simp
  | xlate n q => simp

theorem execCorrectedError_keeps (w : ErrPlace) (s : State) : Keeps s (execCorrectedError w s) := by
  unfold execCorrectedError
  rw [keeps_next]
  cases w with
  | tile k u =>
    dsimp only
    split <;> simp
  | weights n q r c => exact s.regCount_stores n q 1 6
  | shadow k boundary =>
    dsimp only
    split <;> simp
  | gate co n q sealed => exact s.modCount_stores n 2 8
  | hbm a =>
    dsimp only
    split <;> simp
  | mailbox m => rfl
  | link l => exact s.modCount_stores l.site 1 0x0b
  | xlate n q => simp

theorem execScrub_keeps (site : SiteId) (s : State) : Keeps s (execScrub site s) := by simp [execScrub]

/-! ### Sites -/

theorem execPresenceOpen_keeps (site : SiteId) (s : State) : Keeps s (execPresenceOpen site s) := by simp [execPresenceOpen]

theorem execClampOpen_keeps (site : SiteId) (s : State) : Keeps s (execClampOpen site s) := by simp [execClampOpen]

theorem execPresenceClampClosed_keeps (site : SiteId) (s : State) : Keeps s (execPresenceClampClosed site s) := by simp [execPresenceClampClosed]

theorem execPresenceOpenFor222Cycles_keeps (site : SiteId) (s : State) :
    Keeps s (execPresenceOpenFor222Cycles site s) := by simp [execPresenceOpenFor222Cycles]

theorem execPowerGood_keeps (site : SiteId) (s : State) : Keeps s (execPowerGood site s) := by simp [execPowerGood]

theorem execPhaseTimeLimit_keeps (site : SiteId) (s : State) : Keeps s (execPhaseTimeLimit site s) := by
  unfold execPhaseTimeLimit
  split <;> simp

theorem execPowerStageTrip_keeps (site : SiteId) (s : State) : Keeps s (execPowerStageTrip site s) := by simp [execPowerStageTrip]

theorem execFatalModuleError_keeps (site : SiteId) (s : State) : Keeps s (execFatalModuleError site s) := by simp [execFatalModuleError]

theorem execKeepAliveSend_keeps (site : SiteId) (s : State) : Keeps s (execKeepAliveSend site s) := by simp [execKeepAliveSend]

theorem execKeepAliveSilence_keeps (site : SiteId) (s : State) : Keeps s (execKeepAliveSilence site s) := by simp [execKeepAliveSilence]

theorem execCmdPower_keeps (site : SiteId) (s : State) : Keeps s (execCmdPower site s) := by simp [execCmdPower]

theorem execCmdDrain_keeps (site : SiteId) (s : State) : Keeps s (execCmdDrain site s) := by simp [execCmdDrain]

theorem execCmdUndrain_keeps (site : SiteId) (s : State) : Keeps s (execCmdUndrain site s) := by simp [execCmdUndrain]

theorem execCmdReset_keeps (site : SiteId) (s : State) : Keeps s (execCmdReset site s) := by simp [execCmdReset]

theorem execSiteRequestButton_keeps (site : SiteId) (s : State) : Keeps s (execSiteRequestButton site s) := by simp [execSiteRequestButton]

theorem execFreshrdClear_keeps (site : SiteId) (s : State) : Keeps s (execFreshrdClear site s) := by simp [execFreshrdClear]

theorem execRejoinGangStart_keeps (co : Nat) (g : Fin 8) (s : State) : Keeps s (execRejoinGangStart co g s) := by
  unfold execRejoinGangStart
  rw [keeps_next]
  split
  · rfl
  split
  · rfl
  split
  · rfl
  dsimp only
  rw [State.reuse_stores, State.restIslands_stores, State.rewant_stores, State.startGang_stores, foldl_stores fun s o => s.opDone_stores ..,
    foldl_stores fun s i => ?_, State.mapTiles_stores, State.setCo_stores]
  split
  · rw [ite_stores]
    split
    · split
      · next t ht => exact execCircuitSetup_keeps _ _ s t ht
      · rfl
    · rfl
  · rfl

theorem execSiteTransitionEffect_keeps (s : State) : Keeps s (execSiteTransitionEffect s) := by
  unfold execSiteTransitionEffect
  dsimp only
  split
  · simp
  · rw [keeps_next]
    simp [foldl_stores State.afterSeated_stores, foldl_stores State.change_stores]

/-! ### Power -/

theorem execIslandRegulatorFailure_keeps (site : SiteId) (q : Fin 4) (i : Fin 32) (s : State) :
    Keeps s (execIslandRegulatorFailure site q i s) := by simp [execIslandRegulatorFailure]

theorem execRegionRailFailure_keeps (site : SiteId) (q : Fin 4) (s : State) :
    Keeps s (execRegionRailFailure site q s) := by simp [execRegionRailFailure]

theorem execReefTargetRaise_keeps (site : SiteId) (s : State) : Keeps s (execReefTargetRaise site s) := by simp [execReefTargetRaise]

theorem execReefTargetLower_keeps (site : SiteId) (s : State) : Keeps s (execReefTargetLower site s) := by simp [execReefTargetLower]

theorem execThermalTrip_keeps (site : SiteId) (s : State) : Keeps s (execThermalTrip site s) := by simp [execThermalTrip]

theorem execReefminWrite_keeps (site : SiteId) (v : BitVec 2) (s : State) : Keeps s (execReefminWrite site v s) := by simp [execReefminWrite]

theorem execBusLow_keeps (s : State) : Keeps s (execBusLow s) := by simp [execBusLow]

theorem execBusCollapse_keeps (s : State) : Keeps s (execBusCollapse s) := by simp [execBusCollapse]

theorem execSensorRead_keeps (site : SiteId) (q : Fin 4) (i : Fin 32) (temp : BitVec 8) (s : State) :
    Keeps s (execSensorRead site q i temp s) := by simp [execSensorRead]

theorem execIslandWake_keeps (site : SiteId) (q : Fin 4) (i : Fin 32) (s : State) : Keeps s (execIslandWake site q i s) := by
  unfold execIslandWake
  split <;> simp

/-! ### Queues -/

theorem execDoorbell_keeps (q : Fin 64) (v : BitVec 32) (s : State) : Keeps s (execDoorbell q v s) := by simp [execDoorbell]

theorem execQcmdResume_keeps (q : Fin 64) (s : State) : Keeps s (execQcmdResume q s) := by simp [execQcmdResume]

theorem execQcmdSkip_keeps (q : Fin 64) (s : State) : Keeps s (execQcmdSkip q s) := by simp [execQcmdSkip]

theorem execQcmdReset_keeps (q : Fin 64) (s : State) : Keeps s (execQcmdReset q s) := by simp [execQcmdReset]

theorem execPacketNop_keeps (q : Fin 64) (s : State) : Keeps s (execPacketNop q s) := by
  refine keeps_packet _ _ fun p => ?_
  simp

theorem execPutmb_keeps (q : Fin 64) (s : State) : Keeps s (execPutmb q s) := by
  refine keeps_packet _ _ fun p => ?_
  simp

theorem execWaitmb_keeps (q : Fin 64) (s : State) : Keeps s (execWaitmb q s) := by
  refine keeps_packet _ _ fun p => ?_
  simp

theorem execFence_keeps (q : Fin 64) (s : State) : Keeps s (execFence q s) := by
  refine keeps_packet _ _ fun p => ?_
  simp

theorem execPacketUnblock_keeps (q : Fin 64) (s : State) : Keeps s (execPacketUnblock q s) := by
  unfold execPacketUnblock
  split <;> simp

theorem execIndirect_keeps (q : Fin 64) (s : State) : Keeps s (execIndirect q s) := by
  refine keeps_packet _ _ fun p => ?_
  simp

theorem execCopy_keeps (q : Fin 64) (s : State) : Keeps s (execCopy q s) := by
  refine keeps_packet _ _ fun p => ?_
  simp

theorem execRetransmissionLimit_keeps (id : Nat) (s : State) : Keeps s (execRetransmissionLimit id s) := by
  unfold execRetransmissionLimit
  split
  · split <;> simp
  · simp

theorem execWeightload_keeps (q : Fin 64) (s : State) : Keeps s (execWeightload q s) := by
  refine keeps_packet _ _ fun p => ?_
  simp

theorem execUnloadCode_keeps (q : Fin 64) (s : State) : Keeps s (execUnloadCode q s) := by
  refine keeps_packet _ _ fun p => ?_
  simp

theorem execUnloadData_keeps (q : Fin 64) (s : State) : Keeps s (execUnloadData q s) := by
  refine keeps_packet _ _ fun p => ?_
  simp

theorem execUnloadLaunch_keeps (q : Fin 64) (s : State) : Keeps s (execUnloadLaunch q s) := by
  refine keeps_packet _ _ fun p => ?_
  dsimp only
  rw [ite_stores, foldl_stores fun s c => s.endCause_stores .., foldl_stores fun s i => s.dropLaunch_stores ..]
  simp

theorem execUnloadCompletion_keeps (id : Nat) (s : State) : Keeps s (execUnloadCompletion id s) := by
  unfold execUnloadCompletion
  split <;> simp

theorem execRejoin_keeps (q : Fin 64) (s : State) : Keeps s (execRejoin q s) := by
  refine keeps_packet _ _ fun p => ?_
  dsimp only
  split
  · split <;> simp
  · simp

theorem execRejoinWithdraw_keeps (q : Fin 64) (s : State) : Keeps s (execRejoinWithdraw q s) := by
  refine keeps_packet _ _ fun p => ?_
  rw [ite_stores]
  split
  · rfl
  · split <;> simp

/-! ### Launches and queue visits -/

theorem execLaunch_keeps (q : Fin 64) (s : State) : Keeps s (execLaunch q s) := by
  refine keeps_packet _ _ fun p => ?_
  dsimp only
  split <;> simp

theorem packetStep_keeps (q : Fin 64) (p : Packet) (s : State) : Keeps s (packetStep q p s) := by
  unfold packetStep
  split
  · exact execPacketNop_keeps q s
  · exact execLaunch_keeps q s
  · exact execCopy_keeps q s
  · exact execWeightload_keeps q s
  · exact execPutmb_keeps q s
  · exact execWaitmb_keeps q s
  · split
    · exact execUnloadCode_keeps q s
    · exact execUnloadData_keeps q s
    · exact execUnloadLaunch_keeps q s
  · exact execIndirect_keeps q s
  · exact execFence_keeps q s
  · split
    · exact execRejoinWithdraw_keeps q s
    · exact execRejoin_keeps q s

theorem execQueueVisit_keeps (s : State) : Keeps s (execQueueVisit s) := by
  unfold execQueueVisit
  split
  · simp
  · dsimp only
    split
    · simp
    · split
      · exact (packetStep_keeps _ _ _).of_stores (by simp)
      · simp

/-! ### Firmware -/

theorem execRecoveryImageWrite_keeps (len : BitVec 64) (s : State) : Keeps s (execRecoveryImageWrite len s) := by simp [execRecoveryImageWrite]

theorem execFirmwareUpdate_keeps (len : BitVec 64) (s : State) : Keeps s (execFirmwareUpdate len s) := by simp [execFirmwareUpdate]

theorem execFirmwareRestart_keeps (s : State) : Keeps s (execFirmwareRestart s) := by
  unfold execFirmwareRestart
  split <;> simp

theorem execOwnerKeyEnrolment_keeps (rec : FlashRecord) (s : State) : Keeps s (execOwnerKeyEnrolment rec s) := by simp [execOwnerKeyEnrolment]

theorem execAttestationReport_keeps (nonce : BitVec 512) (s : State) : Keeps s (execAttestationReport nonce s) := by simp [execAttestationReport]

theorem execCommandLinkMessage_keeps (site : SiteId) (up : Bool) (s : State) :
    Keeps s (execCommandLinkMessage site up s) := by simp [execCommandLinkMessage]

theorem execCommandLinkPermitTimeout_keeps (site : SiteId) (up : Bool) (s : State) :
    Keeps s (execCommandLinkPermitTimeout site up s) := by simp [execCommandLinkPermitTimeout]

/-! ### Host and network -/

theorem execHostCxlRead_keeps (at_ : PortAddr) (n : Nat) (s : State) : Keeps s (execHostCxlRead at_ n s) := by simp [execHostCxlRead]

theorem execHdmDecoderCommit_keeps (port : Fin 4) (dec : Fin 4) (base : BitVec 48) (size : BitVec 48) (s : State) :
    Keeps s (execHdmDecoderCommit port dec base size s) := by simp [execHdmDecoderCommit]

theorem execMailboxFullClear_keeps (i : Fin 64) (mask : BitVec 64) (s : State) : Keeps s (execMailboxFullClear i mask s) := by
  rw [execMailboxFullClear, keeps_next, ite_stores, foldl_stores fun s b => by simp, ite_self]

theorem execLogdropClear_keeps (v : BitVec 64) (s : State) : Keeps s (execLogdropClear v s) := by simp [execLogdropClear]

theorem qcmd_keeps (q : Fin 64) (n : Nat) (s : State) : Keeps s (qcmd q n s) := by
  unfold qcmd
  split
  · exact execQcmdResume_keeps q s
  · exact execQcmdSkip_keeps q s
  · exact execQcmdReset_keeps q s
  · simp

theorem writeBar0_keeps (off : Nat) (v : W64) (s : State) : Keeps s (writeBar0 off v s) := by
  unfold writeBar0
  split
  · exact execDoorbell_keeps _ _ s
  split
  · dsimp only
    split
    · exact qcmd_keeps _ _ s
    · simp
  split
  · simp
  split
  · exact execLogdropClear_keeps _ s
  split
  · exact execPfack_keeps _ s
  split
  · exact execMailboxFullClear_keeps _ _ s
  · simp

theorem siteCmd_keeps (n : SiteId) (c : Nat) (s : State) : Keeps s (siteCmd n c s) := by
  unfold siteCmd
  split
  · simp
  · exact execCmdPower_keeps n s
  · exact execCmdDrain_keeps n s
  · exact execCmdUndrain_keeps n s
  · exact execCmdReset_keeps n s
  · simp

theorem writeSite_keeps (n : SiteId) (v : W64) (s : State) : Keeps s (writeSite n v s) := by
  unfold writeSite
  split
  · simp
  · exact (siteCmd_keeps _ _ _).of_stores (by simp)

theorem writeBlock_keeps (n : SiteId) (off : Nat) (v : W64) (s : State) : Keeps s (writeBlock n off v s) := by
  unfold writeBlock
  split
  · exact execReefminWrite_keeps _ _ s
  split
  · simp
  split <;> simp

theorem writeBar2_keeps (off : Nat) (v : W64) (s : State) : Keeps s (writeBar2 off v s) := by
  unfold writeBar2
  split
  · exact writeSite_keeps _ _ s
  split
  · simp
  split
  · exact writeBlock_keeps _ _ _ s
  split
  · exact writeBlock_keeps _ _ _ s
  split <;> simp

theorem execRegisterWrite_keeps (bar : PortBar) (off : BitVec 25) (v : BitVec 64) (s : State) : Keeps s (execRegisterWrite bar off v s) := by
  unfold execRegisterWrite
  dsimp only
  split
  · simp
  split
  · split
    · simp
    split
    · exact execRecoveryImageWrite_keeps _ s
    split <;> simp
  split
  · exact writeBar2_keeps _ _ s
  split
  · exact writeBar0_keeps _ _ s
  · simp

theorem execCongestionNotification_keeps (peer : Fin 16) (s : State) :
    Keeps s (execCongestionNotification peer s) := by simp [execCongestionNotification]

end Sys2Proof.Machine
end

section
/-! SUPPORT. What writes a memory keeps its canonical form; then O8 and O7. -/
namespace Sys2Proof.Machine

/-! ### Steps that write a memory -/

theorem foldl_memInv {α : Type} {f : State → α → State} (hf : ∀ s a, s.MemInv → (f s a).MemInv) (l : List α) {s : State} (h : s.MemInv) :
    (l.foldl f s).MemInv := List.foldlRecOn l f h fun s hs a _ => hf s a hs

theorem ite_memInv {p : Prop} [Decidable p] {s t : State} (hs : s.MemInv) (ht : t.MemInv) : (if p then s else t).MemInv := by
  split
  · exact hs
  · exact ht

section
variable {s : State} (h : s.MemInv)
include h

theorem State.performByte_memInv (o : Coh) (c : Host.Cell) : (s.performByte o c).MemInv := by
  unfold State.performByte
  split
  · exact ⟨memWf_put c.1 c.2 h.1, h.2⟩
  · exact h

theorem State.perform_memInv (o : Coh) (cs : List Host.Cell) : (s.perform o cs).MemInv :=
  (foldl_memInv (fun _ c hs => State.performByte_memInv hs o c) (cs.filter fun c => !s.hole c.1) h).of_stores rfl

theorem State.placeWrite_memInv (p : Placer) (cs : List Host.Cell) : (s.placeWrite p cs).MemInv :=
  State.perform_memInv (s := { s with nextOrd := s.nextOrd + 1 }) h _ cs

theorem State.writeEntry_memInv (a word : Nat) : (s.writeEntry a word).MemInv := State.placeWrite_memInv h _ _

theorem State.performGated_memInv (w : GWrite) : (s.performGated w).MemInv := by
  unfold State.performGated
  split
  · exact State.perform_memInv h _ _
  · exact h.of_stores (s.hostPut_stores _ _)

theorem State.releaseSealed_memInv (c : Company) : (s.releaseSealed c).MemInv :=
  (foldl_memInv (fun _ w hs => State.performGated_memInv hs w) _ h).of_stores (State.setCo_stores ..)

theorem State.wheelPoint_memInv (k : TileKey) (c : WheelCmd) : (s.wheelPoint k c).MemInv := by
  unfold State.wheelPoint
  split
  · exact h
  · split
    · exact h.of_stores (s.setTile_stores _)
    · extract_lets x r
      have read : r.1.MemInv := h.of_stores (by simp only [r]; split <;> simp)
      split
      · split
        · exact State.placeWrite_memInv (read.of_stores (r.1.setTile_stores _)) _ _
        · exact read.of_stores (r.1.setTile_stores _)
      · exact read

theorem State.wheelThrough_memInv (k : TileKey) (c : WheelCmd) : (s.wheelThrough k c).MemInv :=
  foldl_memInv (fun _ _ hs => ite_memInv (State.wheelPoint_memInv hs _ _) hs) _ h

theorem State.drainPoints_memInv (co : Nat) : (s.drainPoints co).MemInv := by
  refine foldl_memInv (fun t d ht => ite_memInv ?_ ht) _ h
  split
  · exact ht.of_stores (t.flyPoint_stores _ _)
  · exact State.wheelThrough_memInv ht _ _

theorem State.clearWeights_memInv (n : SiteId) : (s.clearWeights n).MemInv := ⟨h.1, memWf_clear _ _ h.2⟩

theorem State.clearWindow_memInv (n : SiteId) : (s.clearWindow n).MemInv := ⟨memWf_clear _ _ h.1, h.2⟩

theorem State.copyPart_memInv (src dst : W64) (off n : Nat) : (s.copyPart src dst off n).MemInv := by
  have read : (s.wordReadAt src off n).MemInv := h.of_stores (s.wordReadAt_stores src off n)
  unfold State.copyPart
  dsimp only
  split
  · exact State.placeWrite_memInv read _ _
  · exact read.of_stores (State.hostPut_stores ..)
  · exact read

theorem State.copyBlock_memInv (id b : Nat) : (s.copyBlock id b).MemInv := by
  unfold State.copyBlock
  split
  · exact h
  · split
    · next src dst len imm moved _ =>
      refine ite_memInv h ?_
      exact (State.copyPart_memInv h src dst (64 * b) 64).of_stores (by simp)
    · exact h

theorem State.applyLoad_memInv (co : Nat) (l : WLoad) : (s.applyLoad co l).1.MemInv := by
  unfold State.applyLoad
  extract_lets spots off hole hostBad u
  have drawn : u.MemInv := h.of_stores (by simp [u])
  split
  · exact drawn
  · refine foldl_memInv (fun s x hs => ?_) spots drawn
    split
    · exact hs
    · extract_lets base v
      have read : v.MemInv := hs.of_stores (by simp [v])
      exact ⟨read.1, memWf_putAll _ read.2⟩

theorem State.loadSegments_memInv (i : LaunchInfo) : (s.loadSegments i).MemInv := by
  refine ite_memInv h (foldl_memInv (fun s g hs => ?_) _ h)
  split
  · exact hs
  · refine foldl_memInv (fun s b hs => ?_) _ hs
    split
    · exact ite_memInv hs (State.placeWrite_memInv hs _ _)
    · exact hs

theorem State.placeAt_memInv (i : LaunchInfo) (ps : List Spot) : (s.placeAt i ps).MemInv := by
  unfold State.placeAt
  extract_lets u num seats covering c ts v
  have placed : v.MemInv := h
  exact (State.loadSegments_memInv placed i).of_stores (State.addCircuits_stores ..)

theorem State.consider_memInv (w : Waiter) : (s.consider w).MemInv := by
  cases w with
  | launch i =>
    unfold State.consider
    dsimp only
    split
    · next t ht =>
      obtain ⟨ps, -, hps⟩ := Option.bind_eq_some_iff.mp ht
      split at hps
      · exact Option.some.inj hps ▸ State.placeAt_memInv h i ps
      · cases hps
    · exact ite_memInv (h.of_stores (by rw [foldl_stores State.preempt_stores]; simp)) h
  | frozen c => exact h.of_stores (by simp [State.consider])

theorem State.happen_memInv (x : Stim) : (s.happen x).MemInv := by
  cases x with
  | copyBlock id b => exact State.copyBlock_memInv h id b
  | event e => exact h
  | acopyRead k id places => exact h.of_stores (s.acopyRead_stores k id places)
  | linkOfs n p t1 t2 t4 => exact h.of_stores (s.measureLink_stores n p t1 t2 t4)
  | contacts n present clamp typ => exact h
  | record r => exact h.of_stores (s.bringRecord_stores r)
  | inlet t => exact h
  | mute n m => exact h
  | hostBytes port bytes => exact h.of_stores (s.hostPut_stores port bytes)
  | power n watts => exact h.of_stores (by simp [State.happen])
  | current n a => exact h
  | bus watts cv => exact h.of_stores (s.measureBus_stores watts cv)
  | outlet t => exact h.of_stores (s.measureOutlet_stores t)
  | jumper b => exact h

theorem State.happenings_memInv (xs : List Stim) : (xs.foldl State.happen s).MemInv := foldl_memInv (fun _ x hs => State.happen_memInv hs x) xs h

theorem State.openCycle_memInv : s.openCycle.MemInv := by
  unfold State.openCycle
  refine ite_memInv (State.happenings_memInv h _) ?_
  exact State.happenings_memInv (h.of_stores (by simp)) _

theorem State.advance_memInv : s.advance.MemInv := by
  unfold State.advance
  refine ite_memInv (State.openCycle_memInv h) ?_
  split
  · exact h
  · exact h
  · exact h
  · exact State.happenings_memInv (s := s.settle) h _
  · exact h
  · exact State.openCycle_memInv (h.of_stores (by simp))

end

/-! ### Events -/

/-- An outcome whose state has its memories in canonical form. -/
def Canonical (o : Host.Outcome State Fault Refusal) : Prop := ∀ t, o = .next t → t.MemInv

@[simp] theorem canonical_next (t : State) : Canonical (.next t) ↔ t.MemInv := ⟨fun h => h t rfl, fun h _ e => Host.Outcome.next.inj e ▸ h⟩

theorem Keeps.canonical {s : State} {o : Host.Outcome State Fault Refusal} (k : Keeps s o) (h : s.MemInv) : Canonical o :=
  fun t ht => h.of_stores (k t ht)

section
variable {s : State} (h : s.MemInv)
include h

theorem execGatedWriteRelease_canonical (co : Nat) : Canonical (execGatedWriteRelease co s) := by
  unfold execGatedWriteRelease
  split
  · exact (canonical_next s).mpr h
  · extract_lets stuck
    split
    · exact (canonical_next _).mpr (h.of_stores (s.setCo_stores _))
    · next w _ =>
      split
      · exact (canonical_next s).mpr h
      · exact (canonical_next _).mpr ((State.performGated_memInv h w).of_stores (by simp))

theorem execWheelMemoryPoint_canonical (k : TileKey) : Canonical (execWheelMemoryPoint k s) := by
  unfold execWheelMemoryPoint atEngine atTile
  split
  · exact (canonical_next s).mpr h
  · refine (canonical_next _).mpr (ite_memInv ?_ h)
    dsimp only
    split
    · exact State.wheelPoint_memInv h k _
    · exact h

theorem execLaunchFaultEnd_canonical (co : Nat) : Canonical (execLaunchFaultEnd co s) := by
  unfold execLaunchFaultEnd
  refine (canonical_next _).mpr ?_
  split
  · exact h
  · next c _ =>
    split
    · exact h
    · have released := State.releaseSealed_memInv h c
      refine ite_memInv h (ite_memInv (h.of_stores (s.freeCompany_stores _ _)) (ite_memInv released ?_))
      exact released.of_stores (by simp)

theorem execFreeze_canonical (co : Nat) : Canonical (execFreeze co s) := by
  unfold execFreeze
  refine (canonical_next _).mpr ?_
  split
  · exact h
  · refine ite_memInv h (ite_memInv ?_ (ite_memInv h ?_))
    · exact (State.drainPoints_memInv h co).of_stores (State.mapTiles_stores ..)
    · exact h.of_stores (by simp)

theorem execPlacementPass_canonical : Canonical (execPlacementPass s) := by
  refine (canonical_next _).mpr (ite_memInv ?_ h)
  exact (foldl_memInv (fun _ w hs => State.consider_memInv hs w) s.waiters h).of_stores (by simp)

theorem execPageMigration_canonical (co : Nat) (seg : Fin 64) (va frame : BitVec 48) : Canonical (execPageMigration co seg va frame s) := by
  unfold execPageMigration
  split
  · exact (canonical_next s).mpr h
  split
  · exact (canonical_next s).mpr h
  split
  · exact (canonical_next s).mpr h
  next a p b _ =>
    extract_lets n word page
    split
    · exact (canonical_next s).mpr h
    split
    · exact (canonical_next _).mpr (State.writeEntry_memInv h _ _)
    split
    · exact (canonical_next s).mpr h
    have read : (s.freshRead none 0xffff p.pa n).MemInv := h.of_stores (s.freshRead_stores ..)
    have moved := State.writeEntry_memInv (State.placeWrite_memInv read .leaf (cellsAt frame.toNat (memBytes s.mem p.pa n))) a
    exact (canonical_next _).mpr ((moved _).of_stores (foldl_stores State.retryReq_stores _ _))

theorem execHostCxlWrite_canonical (a : PortAddr) (bytes : List (BitVec 8)) : Canonical (execHostCxlWrite a bytes s) :=
  (canonical_next _).mpr (ite_memInv (State.placeWrite_memInv h _ _) h)

theorem execSelfTest_canonical (n : SiteId) (o : TestOutcome) : Canonical (execSelfTest n o s) := by
  refine (canonical_next _).mpr (ite_memInv h ?_)
  extract_lets es pass result s1 s2 grade gr kept words s3
  have cleared : s1.MemInv := State.clearWeights_memInv (s := s.setSite n _) h n
  have reported : s3.MemInv := cleared.of_stores (by simp [s3, s2])
  exact reported.of_stores (by simp)

theorem execAdmission_canonical (n : SiteId) (o : TrainOutcome) : Canonical (execAdmission n o s) := by
  refine (canonical_next _).mpr (ite_memInv h (ite_memInv ?_ ?_))
  · refine ite_memInv (h.of_stores (s.judge_stores _ _ _)) (ite_memInv h ?_)
    exact (State.clearWeights_memInv (State.clearWindow_memInv h n) n).of_stores (by simp)
  · split
    · exact h.of_stores (s.judge_stores _ _ _)
    · exact h
    · exact h.of_stores (by simp)

theorem execCopyCompletion_canonical (id : Nat) : Canonical (execCopyCompletion id s) := by
  unfold execCopyCompletion
  refine (canonical_next _).mpr ?_
  split
  · exact h
  · split
    · next src dst len imm moved _ =>
      refine ite_memInv h ?_
      extract_lets host good left cut u peer v
      have drawn : u.MemInv := h.of_stores (by simp [u])
      have copied : v.MemInv := foldl_memInv (fun _ b hs => State.copyPart_memInv hs src dst _ _) _ drawn
      exact copied.of_stores (v.opDone_stores _ _)
    · exact h

theorem execWeightloadApply_canonical (co : Nat) : Canonical (execWeightloadApply co s) := by
  unfold execWeightloadApply
  refine (canonical_next _).mpr ?_
  split
  · exact h
  · split
    · next l _ _ _ =>
      have applied := State.applyLoad_memInv h co l
      exact ite_memInv h (ite_memInv (applied.of_stores (by simp)) (applied.of_stores (by simp)))
    · exact h

theorem execNetworkWriteReceived_canonical (peer : Fin 16) (a : BitVec 48) (bytes : List (BitVec 8)) (imm : Option (BitVec 32)) :
    Canonical (execNetworkWriteReceived peer a bytes imm s) := by
  refine (canonical_next _).mpr (ite_memInv h (ite_memInv (h.of_stores (s.dropPeer_stores peer)) ?_))
  have written := State.placeWrite_memInv h .host (cellsAt a.toNat bytes)
  split
  · exact written.of_stores (by simp)
  · exact written

end

theorem reset_memInv : State.reset.MemInv := ⟨rfl, rfl⟩

theorem execDeckColdStart_canonical (strap : Bool) (s : State) : Canonical (execDeckColdStart strap s) :=
  (canonical_next _).mpr (ite_memInv reset_memInv reset_memInv)

theorem Event.run_canonical {s : State} (h : s.MemInv) : ∀ e : Event, Canonical (e.run s)
  | .sequencerIssue k => (execSequencerIssue_keeps k s).canonical h
  | .resultLanding k => (execResultLanding_keeps k s).canonical h
  | .waitcueTargetReached k => (execWaitcueTargetReached_keeps k s).canonical h
  | .waitrelExpiry k => (execWaitrelExpiry_keeps k s).canonical h
  | .waiteWake k => (execWaiteWake_keeps k s).canonical h
  | .waiteDeadline k => (execWaiteDeadline_keeps k s).canonical h
  | .waitownWake k => (execWaitownWake_keeps k s).canonical h
  | .waitownDeadline k => (execWaitownDeadline_keeps k s).canonical h
  | .localLimitDeadline k => (execLocalLimitDeadline_keeps k s).canonical h
  | .missingMarkRb k => (execMissingMarkRb_keeps k s).canonical h
  | .signalArrival k => (execSignalArrival_keeps k s).canonical h
  | .hopBeatLanding k => (execHopBeatLanding_keeps k s).canonical h
  | .crossingBeatArrival k => (execCrossingBeatArrival_keeps k s).canonical h
  | .crossingWordLost k side ch => (execCrossingWordLost_keeps k side ch s).canonical h
  | .gatedWriteRelease co => execGatedWriteRelease_canonical h co
  | .flyMemoryPoint k => (execFlyMemoryPoint_keeps k s).canonical h
  | .flyCompletion k => (execFlyCompletion_keeps k s).canonical h
  | .wheelMemoryPoint k => execWheelMemoryPoint_canonical h k
  | .wheelResult k => (execWheelResult_keeps k s).canonical h
  | .acopyLoadCompletion k => (execAcopyLoadCompletion_keeps k s).canonical h
  | .acopyStoreCompletion k => (execAcopyStoreCompletion_keeps k s).canonical h
  | .acopyPageFault k store => (execAcopyPageFault_keeps k store s).canonical h
  | .qmarkCompletion k => (execQmarkCompletion_keeps k s).canonical h
  | .tileCopyStart k => (execTileCopyStart_keeps k s).canonical h
  | .tileCopyCompletion k => (execTileCopyCompletion_keeps k s).canonical h
  | .mailboxPutPerformed k => (execMailboxPutPerformed_keeps k s).canonical h
  | .mailboxGetPerformed k => (execMailboxGetPerformed_keeps k s).canonical h
  | .chorusMemberCompletion k b => (execChorusMemberCompletion_keeps k b s).canonical h
  | .chorusStaleCompletion k => (execChorusStaleCompletion_keeps k s).canonical h
  | .chorusTimeout k b => (execChorusTimeout_keeps k b s).canonical h
  | .barCompletion k b => (execBarCompletion_keeps k b s).canonical h
  | .combineCompletion k => (execCombineCompletion_keeps k s).canonical h
  | .ringBoundary co => (execRingBoundary_keeps co s).canonical h
  | .overlayFetchCompletion k => (execOverlayFetchCompletion_keeps k s).canonical h
  | .holdAnnouncement co at_ => (execHoldAnnouncement_keeps co at_ s).canonical h
  | .holdBegin co => (execHoldBegin_keeps co s).canonical h
  | .holdEnd co => (execHoldEnd_keeps co s).canonical h
  | .companyStart co => (execCompanyStart_keeps co s).canonical h
  | .launchEnd co => (execLaunchEnd_keeps co s).canonical h
  | .launchFaultEnd co => execLaunchFaultEnd_canonical h co
  | .uncorrectableError w => (execUncorrectableError_keeps w s).canonical h
  | .rollbackRestart co => (execRollbackRestart_keeps co s).canonical h
  | .correctedError w => (execCorrectedError_keeps w s).canonical h
  | .scrub site => (execScrub_keeps site s).canonical h
  | .freezeAnnouncement co cue => (execFreezeAnnouncement_keeps co cue s).canonical h
  | .freeze co => execFreeze_canonical h co
  | .freezeSaveComplete co => (execFreezeSaveComplete_keeps co s).canonical h
  | .instructionMemoryRewrite co => (execInstructionMemoryRewrite_keeps co s).canonical h
  | .resume co => (execResume_keeps co s).canonical h
  | .placementPass => execPlacementPass_canonical h
  | .pfack i => (execPfack_keeps i s).canonical h
  | .pageFaultUnresolvable i => (execPageFaultUnresolvable_keeps i s).canonical h
  | .pageMigration co seg va frame => execPageMigration_canonical h co seg va frame
  | .hostCxlRead at_ n => (execHostCxlRead_keeps at_ n s).canonical h
  | .hostCxlWrite at_ bytes => execHostCxlWrite_canonical h at_ bytes
  | .hdmDecoderCommit port dec base size => (execHdmDecoderCommit_keeps port dec base size s).canonical h
  | .periodicTrim site q => (execPeriodicTrim_keeps site q s).canonical h
  | .trimExchange site q t1 t2 t4 => (execTrimExchange_keeps site q t1 t2 t4 s).canonical h
  | .ofsMeasurement k side t1 t2 t4 => (execOfsMeasurement_keeps k side t1 t2 t4 s).canonical h
  | .circuitTeardown i => (execCircuitTeardown_keeps i s).canonical h
  | .circuitSetup i route => (execCircuitSetup_keeps i route s).canonical h
  | .linkCrcFailure link second => (execLinkCrcFailure_keeps link second s).canonical h
  | .islandRegulatorFailure site q i => (execIslandRegulatorFailure_keeps site q i s).canonical h
  | .regionRailFailure site q => (execRegionRailFailure_keeps site q s).canonical h
  | .busLow => (execBusLow_keeps s).canonical h
  | .busCollapse => (execBusCollapse_keeps s).canonical h
  | .powerStageTrip site => (execPowerStageTrip_keeps site s).canonical h
  | .presenceClampClosed site => (execPresenceClampClosed_keeps site s).canonical h
  | .presenceOpen site => (execPresenceOpen_keeps site s).canonical h
  | .clampOpen site => (execClampOpen_keeps site s).canonical h
  | .powerGood site => (execPowerGood_keeps site s).canonical h
  | .phaseTimeLimit site => (execPhaseTimeLimit_keeps site s).canonical h
  | .selfTest site o => execSelfTest_canonical h site o
  | .admission site o => execAdmission_canonical h site o
  | .siteTransitionEffect => (execSiteTransitionEffect_keeps s).canonical h
  | .keepAliveSend site => (execKeepAliveSend_keeps site s).canonical h
  | .keepAliveSilence site => (execKeepAliveSilence_keeps site s).canonical h
  | .cmdPower site => (execCmdPower_keeps site s).canonical h
  | .cmdDrain site => (execCmdDrain_keeps site s).canonical h
  | .cmdUndrain site => (execCmdUndrain_keeps site s).canonical h
  | .cmdReset site => (execCmdReset_keeps site s).canonical h
  | .siteRequestButton site => (execSiteRequestButton_keeps site s).canonical h
  | .freshrdClear site => (execFreshrdClear_keeps site s).canonical h
  | .rejoinGangStart co g => (execRejoinGangStart_keeps co g s).canonical h
  | .doorbell q v => (execDoorbell_keeps q v s).canonical h
  | .qcmdResume q => (execQcmdResume_keeps q s).canonical h
  | .qcmdSkip q => (execQcmdSkip_keeps q s).canonical h
  | .qcmdReset q => (execQcmdReset_keeps q s).canonical h
  | .queueVisit => (execQueueVisit_keeps s).canonical h
  | .packetUnblock q => (execPacketUnblock_keeps q s).canonical h
  | .packetNop q => (execPacketNop_keeps q s).canonical h
  | .launch q => (execLaunch_keeps q s).canonical h
  | .copy q => (execCopy_keeps q s).canonical h
  | .copyCompletion id => execCopyCompletion_canonical h id
  | .weightload q => (execWeightload_keeps q s).canonical h
  | .weightloadApply co => execWeightloadApply_canonical h co
  | .putmb q => (execPutmb_keeps q s).canonical h
  | .waitmb q => (execWaitmb_keeps q s).canonical h
  | .unloadCode q => (execUnloadCode_keeps q s).canonical h
  | .unloadData q => (execUnloadData_keeps q s).canonical h
  | .unloadLaunch q => (execUnloadLaunch_keeps q s).canonical h
  | .unloadCompletion id => (execUnloadCompletion_keeps id s).canonical h
  | .indirect q => (execIndirect_keeps q s).canonical h
  | .fence q => (execFence_keeps q s).canonical h
  | .rejoin q => (execRejoin_keeps q s).canonical h
  | .rejoinWithdraw q => (execRejoinWithdraw_keeps q s).canonical h
  | .mailboxFullClear i mask => (execMailboxFullClear_keeps i mask s).canonical h
  | .logdropClear v => (execLogdropClear_keeps v s).canonical h
  | .deckColdStart strap => execDeckColdStart_canonical strap s
  | .recoveryImageWrite len => (execRecoveryImageWrite_keeps len s).canonical h
  | .firmwareUpdate len => (execFirmwareUpdate_keeps len s).canonical h
  | .firmwareRestart => (execFirmwareRestart_keeps s).canonical h
  | .ownerKeyEnrolment rec => (execOwnerKeyEnrolment_keeps rec s).canonical h
  | .attestationReport nonce => (execAttestationReport_keeps nonce s).canonical h
  | .commandLinkMessage site up => (execCommandLinkMessage_keeps site up s).canonical h
  | .commandLinkPermitTimeout site up => (execCommandLinkPermitTimeout_keeps site up s).canonical h
  | .networkWriteReceived peer addr bytes imm => execNetworkWriteReceived_canonical h peer addr bytes imm
  | .congestionNotification peer => (execCongestionNotification_keeps peer s).canonical h
  | .retransmissionLimit id => (execRetransmissionLimit_keeps id s).canonical h
  | .sensorRead site q i temp => (execSensorRead_keeps site q i temp s).canonical h
  | .reefTargetRaise site => (execReefTargetRaise_keeps site s).canonical h
  | .reefTargetLower site => (execReefTargetLower_keeps site s).canonical h
  | .thermalTrip site => (execThermalTrip_keeps site s).canonical h
  | .reefLevelChange co => (execReefLevelChange_keeps co s).canonical h
  | .reefminWrite site v => (execReefminWrite_keeps site v s).canonical h
  | .islandWake site q i => (execIslandWake_keeps site q i s).canonical h
  | .registerWrite bar off v => (execRegisterWrite_keeps bar off v s).canonical h
  | .fatalModuleError site => (execFatalModuleError_keeps site s).canonical h
  | .presenceOpenFor222Cycles site => (execPresenceOpenFor222Cycles_keeps site s).canonical h
  | .overlayFetchTranslationFault k => (execOverlayFetchTranslationFault_keeps k s).canonical h
  | .linkReturnToService link => (execLinkReturnToService_keeps link s).canonical h

theorem State.step_memInv {s t : State} (h : s.MemInv) (ht : step s = .next t) : t.MemInv := by
  cases ha : s.agenda with
  | nil =>
    rw [step_of_agenda_nil ha] at ht
    exact Host.Outcome.next.inj ht ▸ State.advance_memInv h
  | cons e r =>
    rw [step_of_agenda_cons ha] at ht
    exact Event.run_canonical (s := { s with agenda := r }) h e t ht

end Sys2Proof.Machine

open Sys2Proof Sys2Proof.Machine

/-- Settles O8: both memories are empty lists. -/
theorem resetMemoriesCanonical : Obligations.ResetMemoriesCanonical := reset_memInv

/-- Settles O7: a part of the cycle writes deck memory by what happens in it alone (`State.advance_memInv`); an event leaves both memories as they
were, or writes them cell by cell (`Event.run_canonical`). -/
theorem stepKeepsMemoriesCanonical : Obligations.StepKeepsMemoriesCanonical :=
  fun _ _ h ht => State.step_memInv h ht

end

section
/-! SUPPORT. A table walk entry by entry, and the translation buffers (10 R273, R274); then O51. -/
namespace Sys2Proof.Machine

/-! ### One level of a walk (10 R273) -/

/-- The address of the table entry that a level of a walk reads: the index of 9 bits starts at bit `b` of the virtual address. -/
def entryAddr (va b table : Nat) : Nat := table + 8 * (va / 2 ^ b % 512)

section
variable {s : State} {instr wr : Bool} {va l b table : Nat} {r : List (Nat × Nat)}

theorem State.walkFrom_hole (hh : s.hole (entryAddr va b table) = true) : s.walkFrom instr wr va ((l, b) :: r) table = (.hole, []) := if_pos hh

variable {e : Pte} (hh : s.hole (entryAddr va b table) = false) (he : pteOf (s.deckWord (entryAddr va b table)) = e)
include hh he

theorem State.walkFrom_invalid (hv : e.v = false) : s.walkFrom instr wr va ((l, b) :: r) table = (.fault 1, [entryAddr va b table]) := by
  unfold entryAddr at *
  simp [State.walkFrom, hh, he, hv]

variable (hv : e.v = true)
include hv

theorem State.walkFrom_malformed (hm : e.malformed instr l b = true) :
    s.walkFrom instr wr va ((l, b) :: r) table = (.fault 2, [entryAddr va b table]) := by
  unfold entryAddr at *
  simp [State.walkFrom, hh, he, hv, hm]

variable (hm : e.malformed instr l b = false)
include hm

theorem State.walkFrom_table (hl : e.leaf = false) : (s.walkFrom instr wr va ((l, b) :: r) table).1 = (s.walkFrom instr wr va r e.pa).1 := by
  unfold entryAddr at *
  simp [State.walkFrom, hh, he, hv, hm, hl]

variable (hl : e.leaf = true)
include hl

theorem State.walkFrom_migrating (hg : e.mig = true) : s.walkFrom instr wr va ((l, b) :: r) table = (.fault 3, [entryAddr va b table]) := by
  unfold entryAddr at *
  simp [State.walkFrom, hh, he, hv, hm, hl, hg]

variable (hg : e.mig = false)
include hg

theorem State.walkFrom_readOnly (hwr : wr = true) (hw : e.w = false) :
    s.walkFrom instr wr va ((l, b) :: r) table = (.fault 4, [entryAddr va b table]) := by
  unfold entryAddr at *
  simp [State.walkFrom, hh, he, hv, hm, hl, hg, hwr, hw]

theorem State.walkFrom_leaf (hw : wr = true → e.w = true) :
    s.walkFrom instr wr va ((l, b) :: r) table = (.ok e.aper (e.pa + va % 2 ^ b), [entryAddr va b table]) := by
  unfold entryAddr at *
  simpa [State.walkFrom, hh, he, hv, hm, hl, hg] using hw

end

/-! ### Translation buffers (10 R274) -/

/-- A walk made for an entry that references no page ends as the tables say. -/
theorem State.heldWalk_of_none_held (s : State) (wr : Bool) (va : Nat) (w : Walk × List Nat) : s.heldWalk wr (fun _ _ => false) va w = w := by
  unfold State.heldWalk
  split <;> simp

theorem XlateEntry.serves_iff {x : XlateEntry} {s : State} {k : XlateKey} {wr : Bool} {va : Nat} : x.serves s k wr va = true ↔
    x.key = k ∧ va / 2 ^ x.bits * 2 ^ x.bits = x.page ∧ (wr = true → x.w = true) ∧ ∀ p ∈ x.words, s.deckWord p.1 = p.2 := by
  cases hw : x.w <;> cases wr <;> simp [XlateEntry.serves, hw, and_assoc]

section
variable {s : State} {k : XlateKey} {wr : Bool} {va : Nat}

theorem State.translate_walk_of_none (h : (s.xlate.find? fun x => x.serves s k wr va) = none) (root : Nat) :
    (s.translate k root wr (fun _ _ => false) va).walk = (s.walk root k.seg.isNone wr va).1 := by
  simp only [State.translate, h, State.heldWalk_of_none_held]

theorem State.translate_walk_of_some {x : XlateEntry} (h : (s.xlate.find? fun x => x.serves s k wr va) = some x) (root : Nat)
    (held : Nat → Nat → Bool) : (s.translate k root wr held va).walk = .ok x.aper (x.pa + va % 2 ^ x.bits) := by
  simp only [State.translate, h]

end

end Sys2Proof.Machine

open Sys2Proof Sys2Proof.Machine

/-- Settles O51: each case of an entry is one equation of the walk (`State.walkFrom_leaf` and its kin); a translation that is found serves
(`XlateEntry.serves_iff`). -/
theorem translationWalk : Obligations.TranslationWalk := by
  unfold Obligations.TranslationWalk
  intro s instr wr va l b table r a e w
  refine ⟨fun hh => congrArg Prod.fst (State.walkFrom_hole hh), fun hh => ⟨fun hv => ?_, fun hv hm => ?_, fun hv hm => ⟨fun hl hg => ?_,
    fun hl hg hwr hw => ?_, fun hl hg hw => ?_, fun hl => ?_⟩⟩, fun k root => ⟨fun h => ?_, fun x h => ?_⟩⟩
  · exact congrArg Prod.fst (State.walkFrom_invalid hh rfl hv)
  · exact congrArg Prod.fst (State.walkFrom_malformed hh rfl hv hm)
  · exact congrArg Prod.fst (State.walkFrom_migrating hh rfl hv hm hl hg)
  · exact congrArg Prod.fst (State.walkFrom_readOnly hh rfl hv hm hl hg hwr hw)
  · exact congrArg Prod.fst (State.walkFrom_leaf hh rfl hv hm hl hg hw)
  · exact State.walkFrom_table hh rfl hv hm hl
  · exact State.translate_walk_of_none h root
  · have serves := List.find?_some (p := fun x : XlateEntry => x.serves s k wr va) h
    obtain ⟨hkey, -, hw, hwords⟩ := XlateEntry.serves_iff.mp serves
    exact ⟨State.translate_walk_of_some h root _, hkey, hw, hwords⟩

end

section
/-! SUPPORT. AT of a queue whose buffer is past every length a packet can give (14 R341); then O59 refuted. -/
namespace Sys2Proof.Machine

/-- A queue stopped at packet 2^56 of an open buffer of 2^57 packets. No INDIRECT opens such a buffer, whose count has 16 bits (14 R349); but
the state holds the place as a natural number, and so one that the 32 bits of AT do not show. -/
def farQueue : Queue := { Queue.reset with stopped := true, chain := [⟨0, 2 ^ 57, 2 ^ 56⟩] }

/-- A deck whose stage manager is there, queue 0 stopped so. -/
def farDeck : State := { State.reset with
  sites := State.reset.sites.set 16 { Site.reset with state := .admitted }
  fw := { Firmware.reset with mode := .running }
  queues := State.reset.queues.set 0 farQueue }

theorem farDeck_accepts : farDeck.accepts = true := by decide

/-- The queue's word at 0x20: STATE 3, depth 1, and AT in the place of CODE, which is zero. -/
theorem farDeck_reads : farDeck.readBar0 0 0x1020 = some 0x0103000100000000#64 := by decide

end Sys2Proof.Machine

open Sys2Proof Sys2Proof.Machine

/-- Refutes O59: its clause on the word at 0x20 of a queue's register block has CODE in bits 63 to 56 of every state, but the word is a sum whose
last term, AT, is a natural number without a bound; a queue stopped at packet 2^56 of a buffer (`farQueue`) carries into CODE. The statement
is of all states, and asks for no bound on the place. -/
theorem not_hostEvents : ¬ Obligations.HostEvents := by
  unfold Obligations.HostEvents
  intro h
  obtain ⟨-, registers, -⟩ := h
  obtain ⟨-, ⟨w, reads, hcode, -⟩, -⟩ := registers farDeck 0 0 0 0 0 0 0 0 farDeck_accepts
  obtain rfl : 0x0103000100000000#64 = w := Option.some.inj (farDeck_reads.symm.trans reads)
  exact absurd hcode (by decide)

end

section
/-! SUPPORT. Which of the causes of one bundle is taken (11 R291, 03 R78); then O24. -/
namespace Sys2Proof.Machine

/-- The causes that name a slot, put together, name it. -/
theorem getLsbD_foldl_infos (n : Nat) (rs : List Raise) : ∀ i : W64,
    (rs.foldl (fun i y => i ||| y.info) i).getLsbD n = (i.getLsbD n || rs.any fun y => y.info.getLsbD n) := by
  induction rs with
  | nil => exact fun i => (Bool.or_false _).symm
  | cons x rs ih =>
    intro i
    rw [List.foldl_cons, ih, BitVec.getLsbD_or, List.any_cons, Bool.or_assoc]

theorem takenCause_of_illegal {rs : List Raise} (h : ∃ x ∈ rs, x.code = cILLEGAL) :
    takenCause rs = some (cILLEGAL, (rs.filter fun y => y.code == cILLEGAL).foldl (fun i y => i ||| y.info) 0) := by
  cases rs with
  | nil => simp at h
  | cons x rs =>
    have some_illegal : ((x :: rs).any fun y => y.code == cILLEGAL) = true := by simpa [-List.mem_cons, -List.any_cons] using h
    simp only [takenCause, some_illegal, if_true]

/-- Of two causes the earlier stands, unless the other has the higher priority. -/
def Raise.orBetter (a y : Raise) : Raise := if priority y.code < priority a.code then y else a

theorem takenCause_of_legal {x : Raise} {rs : List Raise} (h : ∀ y ∈ x :: rs, y.code ≠ cILLEGAL) :
    takenCause (x :: rs) = some ((rs.foldl Raise.orBetter x).code, (rs.foldl Raise.orBetter x).info) := by
  have none_illegal : ((x :: rs).any fun y => y.code == cILLEGAL) = false := by
    simpa [-List.mem_cons, -List.any_cons] using h
  simp only [takenCause, none_illegal, Bool.false_eq_true, if_false]
  rfl

/-- A cause is the first of the highest priority in a list. -/
def Raise.FirstBest (x : Raise) (rs : List Raise) : Prop :=
  ∃ a b : List Raise, rs = a ++ x :: b ∧ (∀ y ∈ a, priority x.code < priority y.code) ∧ ∀ y ∈ b, priority x.code ≤ priority y.code

theorem Raise.FirstBest.le {x : Raise} {rs : List Raise} (h : x.FirstBest rs) : ∀ y ∈ rs, priority x.code ≤ priority y.code := by
  obtain ⟨a, b, rfl, before, after⟩ := h
  intro y hy
  obtain hy | rfl | hy := by simpa using hy
  · exact (before y hy).le
  · exact le_rfl
  · exact after y hy

/-- One more cause: it is the best where it has the higher priority; else the one before stands. -/
theorem Raise.FirstBest.concat {x : Raise} {rs : List Raise} (h : x.FirstBest rs) (y : Raise) : (x.orBetter y).FirstBest (rs ++ [y]) := by
  unfold Raise.orBetter
  split
  next better => exact ⟨rs, [], rfl, fun z hz => better.trans_le (h.le z hz), by simp⟩
  next no_better =>
    obtain ⟨a, b, rfl, before, after⟩ := h
    refine ⟨a, b ++ [y], by simp, before, fun z hz => ?_⟩
    obtain hz | rfl := by simpa using hz
    · exact after z hz
    · exact Nat.not_lt.mp no_better

theorem Raise.firstBest_foldl (x : Raise) (rs : List Raise) : (rs.foldl Raise.orBetter x).FirstBest (x :: rs) := by
  induction rs using List.reverseRecOn with
  | nil => exact ⟨[], [], rfl, by simp, by simp⟩
  | append_singleton rs y ih =>
    rw [List.foldl_append]
    exact ih.concat y

end Sys2Proof.Machine

open Sys2Proof Sys2Proof.Machine

/-- Settles O24: the slots that ILLEGAL names are those of its causes (`getLsbD_foldl_infos`); else the first of the highest priority is kept
(`Raise.firstBest_foldl`). -/
theorem causePriority : Obligations.CausePriority := by
  unfold Obligations.CausePriority
  refine fun rs hne => ⟨fun illegal => ⟨_, takenCause_of_illegal illegal, fun n _ => ?_⟩, fun legal => ?_⟩
  · rw [getLsbD_foldl_infos, List.any_filter]
    simp
  · obtain ⟨x, rs, rfl⟩ := List.exists_cons_of_ne_nil hne
    obtain ⟨a, b, split, before, after⟩ := Raise.firstBest_foldl x rs
    exact ⟨a, b, _, split, takenCause_of_legal legal, before, after⟩

end

section
/-! SUPPORT. What trim exchanges, and the recomputed tree, leave (12 R311 to R316). -/
namespace Sys2Proof.Machine

/-! ### Counters moved (12 R312, R314) -/

/-- A counter moved forward jumps. -/
theorem Region.counterAt_corrected_forward (r : Region) {k : Int} (cue : Nat) (a : Nat) (hk : 0 ≤ k) :
    (r.corrected k cue).counterAt a = r.counterAt a + k := by
  simp only [Region.counterAt, Region.corrected, if_neg (Int.not_lt.mpr hk)]
  omega

/-- A counter moved back by k stands k cycles, and runs k lower from then on. -/
theorem Region.counterAt_corrected_back (r : Region) {k : Int} {cue a : Nat} (hk : k < 0) (hheld : r.heldTo < cue) (ha : cue ≤ a) :
    (r.corrected k cue).counterAt a = if a < cue + k.natAbs then r.counterAt cue - 1 else r.counterAt a + k := by
  simp only [Region.counterAt, Region.corrected, if_pos hk]
  split <;> omega

theorem Region.counterAt_corrected_ge (r : Region) (k : Int) {cue a : Nat} (ha : cue ≤ a) :
    r.counterAt (cue - 1) ≤ (r.corrected k cue).counterAt a := by
  simp only [Region.counterAt, Region.corrected]
  split <;> omega

/-! ### The tree recomputed (12 R313, R315) -/

/-- The machine with its sites and the keeper's decisions others, every region's rail and grade as they were. -/
def State.Retrimmed (s t : State) : Prop := s.Resited t ∧
  ∀ (n : SiteId) (q : Fin 4), ((t.sites[n]).regions[q]).rail = ((s.sites[n]).regions[q]).rail ∧
    ((t.sites[n]).regions[q]).grade = ((s.sites[n]).regions[q]).grade

namespace State.Retrimmed
variable {s t : State}

theorem refl (s : State) : s.Retrimmed s := ⟨State.Resited.refl s, fun _ _ => ⟨rfl, rfl⟩⟩

theorem trans {u : State} (h : s.Retrimmed t) (h' : t.Retrimmed u) : s.Retrimmed u :=
  ⟨h.1.trans h'.1, fun n q => ⟨(h'.2 n q).1.trans (h.2 n q).1, (h'.2 n q).2.trans (h.2 n q).2⟩⟩

theorem foldl {α : Type} {f : State → α → State} (hf : ∀ (u : State) a, u.Retrimmed (f u a)) (l : List α) (s : State) :
    s.Retrimmed (l.foldl f s) :=
  List.foldlRecOn _ _ (motive := s.Retrimmed) (refl s) fun u hu a _ => hu.trans (hf u a)

end State.Retrimmed

theorem State.setRegion_regions (s : State) (n m : SiteId) (q o : Fin 4) (f : Region → Region) :
    ((s.setRegion n q f).sites[m]).regions[o] = if m = n ∧ o = q then f ((s.sites[n]).regions[q]) else (s.sites[m]).regions[o] := by
  by_cases hm : m = n
  · subst hm
    simp only [State.setRegion, State.setSite_self, getElem_set_fin, true_and]
  · simp only [State.setRegion, State.setSite_other _ _ _ _ hm, hm, false_and, if_false]

theorem State.setRegion_retrimmed (s : State) (n : SiteId) (q : Fin 4) (f : Region → Region)
    (hf : ∀ r, (f r).rail = r.rail ∧ (f r).grade = r.grade) :
    s.Retrimmed (s.setRegion n q f) := by
  refine ⟨s.setRegion_resited n q f, fun m o => ?_⟩
  rw [State.setRegion_regions]
  split
  next here => rw [here.1, here.2]; exact hf _
  next => exact ⟨rfl, rfl⟩

theorem State.askTrim_retrimmed (s : State) (n : SiteId) (q : Fin 4) (a : Nat) : s.Retrimmed (s.askTrim n q a) := by
  unfold State.askTrim
  split
  · exact State.Retrimmed.refl s
  · exact s.setRegion_retrimmed n q _ fun _ => ⟨rfl, rfl⟩

theorem State.decide_sites (s : State) (d : Decision) : (s.decide_ d).sites = s.sites := by
  unfold State.decide_
  split <;> rfl

theorem State.decide_resited (s : State) (d : Decision) : s.Resited (s.decide_ d) := by
  unfold State.decide_
  split <;> rfl

theorem State.lose_retrimmed (s : State) (n : SiteId) (to_ : SiteState) (cause : BitVec 8) (l a : Nat) : s.Retrimmed (s.lose n to_ cause l a) := by
  unfold State.lose State.loseBy
  refine ⟨State.Resited.trans (t := { s.setSite n _ with decisions := _ }) rfl (State.decide_resited _ _), fun m q => ?_⟩
  rw [State.decide_sites]
  by_cases hm : m = n
  · subst hm
    simp only [State.setSite_self, and_self]
  · simp only [State.setSite_other _ _ _ _ hm, and_self]

theorem State.faultPathless_retrimmed (s : State) : s.Retrimmed s.faultPathless := by
  unfold State.faultPathless
  split
  · exact State.Retrimmed.refl s
  · refine State.Retrimmed.foldl (fun u n => ?_) _ s
    split
    · exact u.lose_retrimmed n _ _ _ _
    · exact State.Retrimmed.refl u

theorem State.rootless_retrimmed (s : State) (n : SiteId) : s.Retrimmed (s.rootless n) := by
  unfold State.rootless
  split
  · exact State.Retrimmed.refl s
  · refine State.Retrimmed.foldl (fun u c => ?_) _ s
    split
    · exact u.setRegion_retrimmed c.1 c.2 _ fun _ => ⟨rfl, rfl⟩
    · exact State.Retrimmed.refl u

/-- A tree recomputed sets counters and exchanges, and loses sites; nothing else. -/
theorem State.retree_retrimmed (s t : State) : t.Retrimmed (s.retree t) := by
  unfold State.retree
  refine (State.Retrimmed.foldl (fun u c => ?_) _ t).trans ((State.faultPathless_retrimmed _).trans (State.Retrimmed.foldl (fun u n => ?_) _ _))
  · split
    · exact State.Retrimmed.refl u
    · refine State.Retrimmed.trans ?_ (State.askTrim_retrimmed _ _ _ _)
      exact u.setRegion_retrimmed c.1 c.2 _ fun _ => ⟨rfl, rfl⟩
  · split
    · exact u.rootless_retrimmed n
    · exact State.Retrimmed.refl u

/-! ### Exchanges (12 R314 to R316) -/

theorem State.retrain_regions (s : State) (n : SiteId) (q o : Fin 4) : ((s.retrain n q).sites[n]).regions[o] =
    if o = q then (s.sites[n]).regions[q] else { (s.sites[n]).regions[o] with loads := 0, zeros := 0 } := by
  rw [State.retrain, State.setSite_self]
  simp only [Fin.getElem_fin, Vector.getElem_mapFinIdx, Fin.ext_iff]
  split
  next here => simp only [here]
  next => rfl

theorem State.ite_retrain_cue (c : Prop) [Decidable c] (s : State) (n : SiteId) (q : Fin 4) : (if c then s.retrain n q else s).cue = s.cue := by
  split <;> rfl

theorem State.trains_iff (s : State) (n : SiteId) (q : Fin 4) (p : Parent) : s.trains n q p = true ↔
    ((s.sites[n]).regions[q]).loads < 8 ∧ ((s.sites[n]).regions[q]).zeros < 2 ∧
      ∀ o, p = .stitch o → 2 ≤ ((s.sites[n]).regions[o]).zeros ∨ (s.rootSite = none ∧ s.parentOf n o = none) := by
  cases p <;> simp [State.trains, and_assoc]

theorem State.nearAll_iff (s : State) (n : SiteId) (q : Fin 4) (k : Int) : s.nearAll n q k = true ↔ ∀ c ∈ s.counters, c = (n, q) ∨
    ((s.sites[c.1]).state.up = false ∧ ((s.sites[c.1]).regions[c.2]).loads = 0) ∨ (s.counter n q + k - s.counter c.1 c.2).natAbs ≤ 2 := by
  simp [State.nearAll, or_assoc]

/-! ### Tiles changed, circuits torn down (12 R319) -/

/-- The machine with its tiles and circuits others. -/
def State.Rewired (s t : State) : Prop := t = { s with tiles := t.tiles, circuits := t.circuits }

namespace State.Rewired
variable {s t : State}

theorem refl (s : State) : s.Rewired s := rfl

theorem trans {u : State} (h : s.Rewired t) (h' : t.Rewired u) : s.Rewired u := by
  unfold State.Rewired at *
  rw [h', h]

theorem foldl {α : Type} {f : State → α → State} (hf : ∀ (u : State) a, u.Rewired (f u a)) (l : List α) (s : State) :
    s.Rewired (l.foldl f s) :=
  List.foldlRecOn _ _ (motive := s.Rewired) (refl s) fun u hu a _ => hu.trans (hf u a)

variable (h : s.Rewired t)
include h

theorem sites : t.sites = s.sites := by rw [h]
theorem linksOut : t.linksOut = s.linksOut := by rw [h]
theorem mem : t.mem = s.mem := by rw [h]
theorem notStarted (n : Nat) : t.notStarted n = s.notStarted n := by rw [h]; rfl

end State.Rewired

theorem State.onTile_rewired (s : State) (k : TileKey) (f : Tile → Tile) : s.Rewired (s.onTile k f) := by
  unfold State.onTile
  split <;> exact rfl

theorem State.onTile_circuits (s : State) (k : TileKey) (f : Tile → Tile) : (s.onTile k f).circuits = s.circuits := by
  unfold State.onTile
  split <;> rfl

theorem State.tileAt_onTile (s : State) {f : Tile → Tile} (hf : ∀ t, (f t).key = t.key) (k j : TileKey) :
    (s.onTile k f).tileAt j = if k = j then (s.tileAt j).map f else s.tileAt j := by
  cases hk : s.tileAt k with
  | none =>
    simp only [State.onTile, hk]
    split
    next e => rw [← e, hk]; rfl
    next => rfl
  | some t =>
    have key : (f t).key = k := (hf t).trans (State.tileAt_key hk)
    simp only [State.onTile, hk, State.tileAt_setTile, key]
    split
    next e => rw [← e, hk]; rfl
    next => rfl

theorem State.tearWords_rewired (s : State) (a b : TileKey × Side) : s.Rewired (s.tearWords a b) := by
  unfold State.tearWords
  split
  · exact State.Rewired.refl s
  · refine State.Rewired.trans (t := s.setTile _) rfl (State.Rewired.foldl (fun u x => ?_) _ _)
    exact (u.onTile_rewired _ _).trans (State.onTile_rewired _ _ _)

theorem State.tearWords_circuits (s : State) (a b : TileKey × Side) : (s.tearWords a b).circuits = s.circuits := by
  unfold State.tearWords
  split
  · rfl
  · exact foldl_keeps (fun u x => (State.onTile_circuits _ _ _).trans (u.onTile_circuits _ _)) _ _

theorem State.flagged_key (s : State) (j : Nat) (t : Tile) : (s.flagged j t).key = t.key := by
  unfold State.flagged
  split <;> rfl

theorem State.flagged_lost (s : State) (j : Nat) (t : Tile) : (s.flagged j t).lost = t.lost := by
  unfold State.flagged
  split <;> rfl

/-- e7 alone arrives, and only in a tile that stands, of a launch that has started. -/
theorem State.getLsbD_flagged (s : State) (t : Tile) (b : Nat) : (s.flagged 7 t).st.arrive.getLsbD b =
    (t.st.arrive.getLsbD b || !(t.lost || s.notStarted t.key.co) && b == 7) := by
  have bit : (1#16 <<< 7).getLsbD b = (b == 7) := by
    rw [← BitVec.twoPow_eq, BitVec.getLsbD_twoPow, Bool.beq_comm]
    simp [beq_eq_decide]
  unfold State.flagged
  cases t.lost || s.notStarted t.key.co with
  | true => simp
  | false => simp only [TState.arrives, BitVec.getLsbD_or, bit, Bool.not_false, Bool.true_and, Bool.false_eq_true, if_false]

section
/-! What of a tile is neither its words in crossings, nor its sides' status, stays as it was where words are torn. -/
variable {γ : Type} {g : Tile → γ} (hwords : ∀ (t : Tile) ws, g { t with st := { t.st with xwords := ws } } = g t)
  (htorn : ∀ (t : Tile) d ch, g (t.addTorn d ch) = g t)

theorem State.onTile_keeps (s : State) (f : Tile → Tile) (hf : ∀ t, (f t).key = t.key) (hg : ∀ t, g (f t) = g t) (k j : TileKey) :
    ((s.onTile k f).tileAt j).map g = (s.tileAt j).map g := by
  rw [State.tileAt_onTile s hf]
  split
  · rw [Option.map_map]
    exact congrArg (Option.map · _) (funext hg)
  · rfl

include hwords htorn

theorem State.tearWords_keeps (s : State) (a b : TileKey × Side) (j : TileKey) : ((s.tearWords a b).tileAt j).map g = (s.tileAt j).map g := by
  unfold State.tearWords
  cases ha : s.tileAt a.1 with
  | none => rfl
  | some t =>
    have torn (u : State) (e : TileKey × Side) (ch : Fin 8) : ((u.onTile e.1 fun t => t.addTorn e.2 ch).tileAt j).map g = (u.tileAt j).map g :=
      u.onTile_keeps (fun t => t.addTorn e.2 ch) (fun _ => rfl) (fun t => htorn t e.2 ch) e.1 j
    refine (foldl_keeps (g := fun u : State => (u.tileAt j).map g) (fun u x => ?_) _ _).trans ?_
    · exact (torn _ b x.ch).trans (torn u a x.ch)
    · rw [State.tileAt_setTile]
      split
      next e =>
        obtain rfl : a.1 = j := (State.tileAt_key ha).symm.trans e
        rw [ha]
        exact congrArg some (hwords t _)
      next => rfl

/-- A circuit that is down, its words torn, no flag set yet. -/
def State.torn (s : State) (i : Nat) (c : Circuit) : State :=
  (({ s with circuits := s.circuits.set i { c with up := false, tornAt := some s.cue } } : State).tearWords c.a c.b).tearWords c.b c.a

/-- e7 at both ends of a circuit. -/
def State.flagEnds (s : State) (c : Circuit) : State := (s.onTile c.a.1 (s.flagged 7)).onTile c.b.1 (s.flagged 7)

omit hwords htorn in
theorem State.tearDown_of_up {s : State} {i : Nat} {c : Circuit} (hc : s.circuits[i]? = some c) (hup : c.up = true) :
    s.tearDown i = (s.torn i c).flagEnds c := by
  simp only [State.tearDown, hc, hup, Bool.not_true, Bool.false_eq_true, if_false]
  rfl

omit hwords htorn in
theorem State.tearDown_of_down {s : State} {i : Nat} (h : ∀ c, s.circuits[i]? = some c → c.up = false) : s.tearDown i = s := by
  cases hc : s.circuits[i]? with
  | none => simp only [State.tearDown, hc]
  | some c => simp only [State.tearDown, hc, h c hc, Bool.not_false, if_true]

theorem State.torn_keeps (s : State) (i : Nat) (c : Circuit) (j : TileKey) : ((s.torn i c).tileAt j).map g = (s.tileAt j).map g :=
  (State.tearWords_keeps hwords htorn _ _ _ j).trans (State.tearWords_keeps hwords htorn _ _ _ j)

variable (hflag : ∀ t : Tile, g { t with st := t.st.arrives 7 } = g t)
include hflag

theorem State.tearDown_keeps (s : State) (i : Nat) (j : TileKey) : ((s.tearDown i).tileAt j).map g = (s.tileAt j).map g := by
  have flagged (u v : State) (k : TileKey) : ((u.onTile k (v.flagged 7)).tileAt j).map g = (u.tileAt j).map g :=
    u.onTile_keeps _ (v.flagged_key 7) (fun t => by unfold State.flagged; split <;> [rfl; exact hflag t]) k j
  by_cases h : ∀ c, s.circuits[i]? = some c → c.up = false
  · rw [State.tearDown_of_down h]
  · push Not at h
    obtain ⟨c, hc, hup⟩ := h
    rw [State.tearDown_of_up hc (Bool.eq_true_of_not_eq_false hup)]
    exact ((flagged _ _ _).trans (flagged _ _ _)).trans (State.torn_keeps hwords htorn s i c j)

theorem State.tearFallen_keeps (s : State) (j : TileKey) : (s.tearFallen.tileAt j).map g = (s.tileAt j).map g := by
  refine foldl_keeps (g := fun u : State => (u.tileAt j).map g) (fun u i => ?_) _ s
  split
  · split
    · rfl
    · exact u.tearDown_keeps hwords htorn hflag i j
  · rfl

end

theorem State.torn_rewired (s : State) (i : Nat) (c : Circuit) : s.Rewired (s.torn i c) :=
  State.Rewired.trans (t := { s with circuits := s.circuits.set i { c with up := false, tornAt := some s.cue } }) rfl
    ((State.tearWords_rewired _ _ _).trans (State.tearWords_rewired _ _ _))

theorem State.tearDown_rewired (s : State) (i : Nat) : s.Rewired (s.tearDown i) := by
  by_cases h : ∀ c, s.circuits[i]? = some c → c.up = false
  · rw [State.tearDown_of_down h]
    exact State.Rewired.refl s
  · push Not at h
    obtain ⟨c, hc, hup⟩ := h
    rw [State.tearDown_of_up hc (Bool.eq_true_of_not_eq_false hup)]
    exact (s.torn_rewired i c).trans ((State.onTile_rewired _ _ _).trans (State.onTile_rewired _ _ _))

theorem State.tearFallen_rewired (s : State) : s.Rewired s.tearFallen := by
  refine State.Rewired.foldl (fun u i => ?_) _ s
  split
  · split
    · exact State.Rewired.refl u
    · exact u.tearDown_rewired i
  · exact State.Rewired.refl u

theorem State.tearDown_circuits {s : State} {i : Nat} {c : Circuit} (hc : s.circuits[i]? = some c) (hup : c.up = true) :
    (s.tearDown i).circuits[i]? = some { c with up := false, tornAt := some s.cue } := by
  rw [State.tearDown_of_up hc hup, State.flagEnds, State.onTile_circuits, State.onTile_circuits, State.torn, State.tearWords_circuits,
    State.tearWords_circuits]
  obtain ⟨hi, -⟩ := List.getElem?_eq_some_iff.mp hc
  exact List.getElem?_set_self hi

/-- Where both ends of a circuit are changed, each by what keeps its key. -/
theorem State.tileAt_onTile_onTile {s : State} {f g : Tile → Tile} (hf : ∀ t, (f t).key = t.key) (hg : ∀ t, (g t).key = t.key) (a b : TileKey)
    {k : TileKey} {t : Tile} (ht : s.tileAt k = some t) : ((s.onTile a f).onTile b g).tileAt k =
      some (if b = k then g (if a = k then f t else t) else if a = k then f t else t) := by
  rw [State.tileAt_onTile _ hg, State.tileAt_onTile _ hf, ht]
  by_cases ha : a = k <;> by_cases hb : b = k <;> simp [ha, hb]

theorem State.tileAt_flagEnds {s : State} {c : Circuit} {k : TileKey} {t : Tile} (hk : k = c.a.1 ∨ k = c.b.1) (ht : s.tileAt k = some t)
    (hlost : t.lost = false) (hstart : s.notStarted k.co = false) :
    ∃ u, (s.flagEnds c).tileAt k = some u ∧ ∀ b, u.st.arrive.getLsbD b = (t.st.arrive.getLsbD b || b == 7) := by
  have key : t.key.co = k.co := congrArg TileKey.co (State.tileAt_key ht)
  refine ⟨_, State.tileAt_onTile_onTile (s.flagged_key 7) (s.flagged_key 7) c.a.1 c.b.1 ht, fun b => ?_⟩
  by_cases ha : c.a.1 = k
  · by_cases hb : c.b.1 = k
    · simp [ha, hb, State.getLsbD_flagged, State.flagged_lost, State.flagged_key, hlost, key, hstart]
    · simp [ha, hb, State.getLsbD_flagged, hlost, key, hstart]
  · have hb : c.b.1 = k := (hk.resolve_left (Ne.symm ha)).symm
    simp [ha, hb, State.getLsbD_flagged, hlost, key, hstart]

theorem State.tearDown_flags {s : State} {i : Nat} {c : Circuit} (hc : s.circuits[i]? = some c) (hup : c.up = true) {k : TileKey} {t : Tile}
    (hk : k = c.a.1 ∨ k = c.b.1) (ht : s.tileAt k = some t) (hlost : t.lost = false) (hstart : s.notStarted k.co = false) :
    ∃ u, (s.tearDown i).tileAt k = some u ∧ ∀ b, u.st.arrive.getLsbD b = (t.st.arrive.getLsbD b || b == 7) := by
  have torn := State.torn_keeps (g := fun t : Tile => (t.lost, t.st.arrive)) (fun _ _ => rfl) (fun _ _ _ => rfl) s i c k
  rw [ht] at torn
  obtain ⟨v, hv, same⟩ := Option.map_eq_some_iff.mp torn
  obtain ⟨lost, arrive⟩ := Prod.mk.inj same
  rw [State.tearDown_of_up hc hup, ← arrive]
  exact State.tileAt_flagEnds hk hv (lost.trans hlost) (((s.torn_rewired i c).notStarted k.co).trans hstart)

/-! ### The exchange that may run (12 R314 to R316) -/

/-- A follower's counter moved by k, unless that takes it further than 2 from another; then the OFS of its region's tiles is to be
measured. `f` counts the exchange in TRAINING. -/
def State.counterMoved (s : State) (n : SiteId) (q : Fin 4) (k : Int) (f : Region → Region) : State :=
  if k ≠ 0 && !s.nearAll n q k then s else (s.setRegion n q fun r => f (r.corrected k s.cue)).askOfs n q

theorem State.counterMoved_of_near {s : State} {n : SiteId} {q : Fin 4} {k : Int} (hnear : k ≠ 0 → s.nearAll n q k = true)
    (f : Region → Region) : s.counterMoved n q k f = (s.setRegion n q fun r => f (r.corrected k s.cue)).askOfs n q :=
  if_neg (by simpa using hnear)

theorem State.counterMoved_of_far {s : State} {n : SiteId} {q : Fin 4} {k : Int} (hk : k ≠ 0) (hfar : s.nearAll n q k = false)
    (f : Region → Region) : s.counterMoved n q k f = s :=
  if_pos (by simpa [hfar] using hk)

section
variable {s : State} {n : SiteId} {q : Fin 4} {p : Parent} {y : SiteId × Fin 4} {t1 t2 t4 : W64}
  (hp : s.parentOf n q = some p) (hy : s.parentAt n p = some y) (hn : s.pastLoss n = false) (hyl : s.pastLoss y.1 = false)
include hp hy hn hyl

theorem exec_trimExchange_not_trains (hstate : (s.sites[n]).state = .training) (hmay : s.trains n q p = false) :
    exec (.trimExchange n q t1 t2 t4) s = .next s := by
  show execTrimExchange n q t1 t2 t4 s = _
  simp only [execTrimExchange, hp, hy, Option.bind_some, Option.map_some, hn, hyl, hstate, hmay, decide_true, Bool.or_false, Bool.not_true,
    Bool.not_false, Bool.false_and, Bool.true_or, Bool.false_eq_true, if_false, if_true]

variable (hfit : stampsFit (s.counter n q) (s.counter y.1 y.2) t1 t2 t4 = true) (hheld : ((s.sites[n]).regions[q]).heldTo ≤ s.cue)
include hfit hheld

/-- In service the exchange ends that began at its cue and not more than 512 cycles ago. -/
theorem exec_trimExchange_service (hstate : (s.sites[n]).state ≠ .training) {a : Nat} (ha : ((s.sites[n]).regions[q]).trimStart = some a)
    (hbegun : a ≤ s.cue) (hend : s.cue ≤ a + 512) (ht1 : t1 = BitVec.ofInt 64 (s.counter n q - ((s.cue - a : Nat) : Int))) :
    exec (.trimExchange n q t1 t2 t4) s = .next (if (trimD t1 t2 t4).natAbs ≤ 2 then s.counterMoved n q (trimD t1 t2 t4).sign id
      else (s.counterMoved n q 0 id).pathOut n q p) := by
  have ends : s.serviceEnds n q t1 = true := by
    simp only [State.serviceEnds, ha, Option.any_some, hbegun, ht1, decide_true, Bool.and_self]
  show execTrimExchange n q t1 t2 t4 s = _
  simp only [execTrimExchange, hp, hy, Option.bind_some, Option.map_some, hn, hyl, hstate, ha, Option.any_some, Nat.not_lt.mpr hend, ends, hfit,
    Nat.not_lt.mpr hheld, decide_false, Bool.or_false, Bool.and_false, Bool.false_and, Bool.not_true, Bool.false_eq_true, if_false]
  rfl

/-- The first exchange in TRAINING takes the whole difference; the anchor's has the module's other regions begin again. -/
theorem exec_trimExchange_first (hstate : (s.sites[n]).state = .training) (hmay : s.trains n q p = true)
    (hfirst : ((s.sites[n]).regions[q]).loads = 0) : exec (.trimExchange n q t1 t2 t4) s = .next
      ((if isCompute n && q == s.anchor n && decide (trimD t1 t2 t4 ≠ 0) then s.retrain n q else s).counterMoved n q (trimD t1 t2 t4)
        fun r => r.counted (trimD t1 t2 t4)) := by
  show execTrimExchange n q t1 t2 t4 s = _
  simp only [execTrimExchange, hp, hy, Option.bind_some, Option.map_some, hn, hyl, hstate, hmay, hfit, hfirst, Nat.not_lt.mpr hheld,
    decide_true, decide_false, Bool.or_false, Bool.not_true, Bool.false_and, Bool.false_eq_true, if_false, if_true, beq_self_eq_true, Bool.true_and,
    Bool.and_true]
  rfl

/-- The later ones take one each. -/
theorem exec_trimExchange_later (hstate : (s.sites[n]).state = .training) (hmay : s.trains n q p = true)
    (hlater : 0 < ((s.sites[n]).regions[q]).loads) (hd : (trimD t1 t2 t4).natAbs ≤ 2) : exec (.trimExchange n q t1 t2 t4) s = .next
      (s.counterMoved n q (trimD t1 t2 t4).sign fun r => r.counted (trimD t1 t2 t4)) := by
  have not_first : (((s.sites[n]).regions[q]).loads == 0) = false := beq_false_of_ne hlater.ne'
  show execTrimExchange n q t1 t2 t4 s = _
  simp only [execTrimExchange, hp, hy, Option.bind_some, Option.map_some, hn, hyl, hstate, hmay, hfit, not_first, hd, Nat.not_lt.mpr hheld,
    decide_true, decide_false, Bool.or_false, Bool.not_true, Bool.false_and, Bool.and_false, Bool.false_eq_true, if_false, if_true]
  rfl

end

theorem exec_ofsMeasurement {s : State} {k : TileKey} {h : Here} {side : Side} {x : Crossing} {u : Tile} {t1 t2 t4 : W64} (hs : s.hereAt k = some h)
    (hx : s.crossing h.gang k side = some x) (hup : x.up = true) (hu : s.tileAt x.peer = some u) (hdue : h.t.ofsDue[sideNo side] = true)
    (hfit : stampsFit (s.counter h.t.site h.t.region) (s.counter u.site u.region) t1 t2 t4 = true) (hd : (trimD t1 t2 t4).natAbs ≤ 2) :
    exec (.ofsMeasurement k side t1 t2 t4) s = .next (s.setTile { h.t with
      ofs := h.t.ofs.set (sideNo side) (BitVec.ofInt 8 (trimD t1 t2 t4)), ofsDue := h.t.ofsDue.set (sideNo side) false }) := by
  refine (atTile_here hs _).trans ?_
  simp only [hx, hu, hup, hdue, ofsFits, hfit, hd, decide_true, Bool.and_self, if_true]

/-! ### Links and paths out of service (11 R299; 12 R316, R319) -/

theorem State.Resited.linksOut {s t : State} (h : s.Resited t) : t.linksOut = s.linksOut := by rw [h]
theorem State.Resited.stitchesOut {s t : State} (h : s.Resited t) : t.stitchesOut = s.stitchesOut := by rw [h]
theorem State.Recorded.linksOut {s t : State} (h : s.Recorded t) : t.linksOut = s.linksOut := by rw [h.1]
theorem State.Recorded.stitchesOut {s t : State} (h : s.Recorded t) : t.stitchesOut = s.stitchesOut := by rw [h.1]

theorem State.linkOut_linksOut {s : State} {l : DeckLink} (h : s.linksOut.contains l = false) : (s.linkOut l).linksOut = s.linksOut ++ [l] := by
  simp only [State.linkOut, h, Bool.false_eq_true, if_false]
  rw [(State.retree_retrimmed _ _).1.linksOut, (State.tearFallen_rewired _).linksOut, (State.postRec_recorded _ _ _).linksOut]

/-- A stitch, or the command link, that goes out of trim service stands in the list of those that are out, under its number. -/
theorem State.pathOut_stitchesOut (s : State) (n : SiteId) (q : Fin 4) {p : Parent} {x : Fin 4}
    (hp : p = .command ∧ x = 0 ∨ ∃ o, p = .stitch o ∧ x = if o = q + 1 then q else o) : (n, x) ∈ (s.pathOut n q p).stitchesOut := by
  obtain ⟨rfl, rfl⟩ | ⟨o, rfl, rfl⟩ := hp <;>
  · simp only [State.pathOut]
    rw [(State.retree_retrimmed _ _).1.stitchesOut, (State.postRec_recorded _ _ _).stitchesOut]
    exact List.mem_append_right _ (List.mem_singleton_self _)

theorem exec_linkReturnToService (s : State) (l : DeckLink) :
    ∃ t, exec (.linkReturnToService l) s = .next t ∧ l ∉ t.linksOut ∧ t.mem = s.mem := by
  refine ⟨_, rfl, ?_, (State.retree_retrimmed _ _).1.mem⟩
  rw [(State.retree_retrimmed _ _).1.linksOut]
  simp

/-! ### Circuits that come up (12 R311, R319) -/

theorem otherRoutes_head (route : List DeckLink) : ∃ r, otherRoutes route = route :: r := by
  unfold otherRoutes
  split <;> exact ⟨_, rfl⟩

theorem State.chosenRoute_of_ends {s : State} {c : Circuit} {e : (Tile × Side) × (Tile × Side)} (he : s.circuitEnds c = some e) (i : Nat) :
    s.chosenRoute i c = (otherRoutes c.route).find? fun r => s.routeFits e.1 e.2 r && s.routeRoom i r := by
  simp only [State.chosenRoute, he, Option.bind_some]

theorem State.circuitEnds_eq_some {s : State} {c : Circuit} {e : (Tile × Side) × (Tile × Side)} (he : s.circuitEnds c = some e) :
    s.tileAt c.a.1 = some e.1.1 ∧ s.tileAt c.b.1 = some e.2.1 := by
  obtain ⟨t, ht, he⟩ := Option.bind_eq_some_iff.mp he
  obtain ⟨u, hu, rfl⟩ := Option.map_eq_some_iff.mp he
  exact ⟨ht, hu⟩

/-- An end of a circuit that comes up: e7, and its OFS to be measured. -/
def State.endUpTile (s : State) (d : Side) (t : Tile) : Tile := (s.flagged 7 t).askOfs d

theorem State.endUpTile_key (s : State) (d : Side) (t : Tile) : (s.endUpTile d t).key = t.key := s.flagged_key 7 t

/-- Both ends of a circuit told. -/
def State.tellEnds (s : State) (c : Circuit) : State := (s.onTile c.a.1 (s.endUpTile c.a.2)).onTile c.b.1 (s.endUpTile c.b.2)

/-- A circuit up on a route, both its ends told. -/
def State.comesUp (s : State) (i : Nat) (c : Circuit) (route : List DeckLink) : State :=
  State.tellEnds { s with circuits := s.circuits.set i { c with up := true, route := route } } c

theorem State.comesUp_rewired (s : State) (i : Nat) (c : Circuit) (route : List DeckLink) : s.Rewired (s.comesUp i c route) :=
  State.Rewired.trans (t := { s with circuits := s.circuits.set i { c with up := true, route := route } }) rfl
    ((State.onTile_rewired _ _ _).trans (State.onTile_rewired _ _ _))

theorem State.comesUp_circuits (s : State) (i : Nat) (c : Circuit) (route : List DeckLink) :
    (s.comesUp i c route).circuits = s.circuits.set i { c with up := true, route := route } :=
  (State.onTile_circuits _ _ _).trans (State.onTile_circuits _ _ _)

theorem exec_circuitSetup {s : State} {i : Nat} {c : Circuit} {route : List DeckLink} {e : (Tile × Side) × (Tile × Side)}
    (hc : s.circuits[i]? = some c) (he : s.circuitEnds c = some e) (hdown : c.up = false) (ha : e.1.1.lost = false) (hb : e.2.1.lost = false)
    (hroute : s.chosenRoute i c = some route) : exec (.circuitSetup i route) s = .next (s.comesUp i c route) := by
  show execCircuitSetup i route s = _
  simp only [execCircuitSetup, hc, he, hdown, ha, hb, hroute, Bool.not_false, Bool.and_self, decide_true, if_true]
  rfl

theorem exec_circuitSetup_of_not_chosen {s : State} {i : Nat} {c : Circuit} {route : List DeckLink} (hc : s.circuits[i]? = some c)
    (hroute : s.chosenRoute i c ≠ some route) : exec (.circuitSetup i route) s = .next s := by
  show execCircuitSetup i route s = _
  simp only [execCircuitSetup, hc, hroute, decide_false, Bool.and_false, Bool.false_eq_true, if_false]
  split <;> rfl

/-- A tile has been told of a circuit at its side: OFS is due there, and e7 has arrived if its launch has started. -/
def State.Told (s : State) (d : Side) (t : Tile) : Prop :=
  t.ofsDue[sideNo d] = true ∧ (s.notStarted t.key.co = false → t.st.arrive.getLsbD 7 = true)

theorem State.endUpTile_ofsDue (s : State) (d : Side) (t : Tile) : (s.endUpTile d t).ofsDue = t.ofsDue.set (sideNo d) true := by
  unfold State.endUpTile State.flagged
  split <;> rfl

theorem State.told_endUpTile {s : State} {t : Tile} (hlost : t.lost = false) (d : Side) : s.Told d (s.endUpTile d t) := by
  refine ⟨by rw [s.endUpTile_ofsDue, getElem_set_fin, if_pos rfl], fun hstart => ?_⟩
  rw [s.endUpTile_key] at hstart
  exact (s.getLsbD_flagged t 7).trans (by simp [hlost, hstart])

theorem State.Told.endUpTile {s : State} {d : Side} {t : Tile} (h : s.Told d t) (d' : Side) : s.Told d (s.endUpTile d' t) := by
  obtain ⟨hdue, hflag⟩ := h
  refine ⟨?_, fun hstart => ?_⟩
  · rw [s.endUpTile_ofsDue, getElem_set_fin]
    split
    · rfl
    · exact hdue
  · rw [s.endUpTile_key] at hstart
    exact (s.getLsbD_flagged t 7).trans (by rw [hflag hstart, Bool.true_or])

/-- Both ends are told, also where they are sides of one tile. -/
theorem State.tileAt_tellEnds {s : State} {c : Circuit} {t u : Tile} (ht : s.tileAt c.a.1 = some t) (hu : s.tileAt c.b.1 = some u)
    (htl : t.lost = false) (hul : u.lost = false) :
    (∃ v, (s.tellEnds c).tileAt c.a.1 = some v ∧ s.Told c.a.2 v) ∧ ∃ v, (s.tellEnds c).tileAt c.b.1 = some v ∧ s.Told c.b.2 v := by
  have ends {k : TileKey} {w : Tile} (hw : s.tileAt k = some w) :=
    State.tileAt_onTile_onTile (s.endUpTile_key c.a.2) (s.endUpTile_key c.b.2) c.a.1 c.b.1 hw
  refine ⟨⟨_, ends ht, ?_⟩, _, ends hu, ?_⟩
  · rw [if_pos rfl]
    split
    · exact (State.told_endUpTile htl c.a.2).endUpTile c.b.2
    · exact State.told_endUpTile htl c.a.2
  · rw [if_pos rfl]
    refine State.told_endUpTile ?_ c.b.2
    split
    · exact (s.flagged_lost 7 u).trans hul
    · exact hul

theorem State.tileAt_comesUp {s : State} {c : Circuit} {e : (Tile × Side) × (Tile × Side)} (he : s.circuitEnds c = some e)
    (ha : e.1.1.lost = false) (hb : e.2.1.lost = false) (i : Nat) (route : List DeckLink) :
    (∃ u, (s.comesUp i c route).tileAt c.a.1 = some u ∧ s.Told c.a.2 u) ∧
      ∃ u, (s.comesUp i c route).tileAt c.b.1 = some u ∧ s.Told c.b.2 u :=
  have ⟨ta, tb⟩ := State.circuitEnds_eq_some he
  State.tileAt_tellEnds (s := { s with circuits := s.circuits.set i { c with up := true, route := route } }) ta tb ha hb

end Sys2Proof.Machine

open Sys2Proof Sys2Proof.Machine

/-- Settles O54: an exchange that may run ends in one of four ways (`exec_trimExchange_service` and its kin), a counter moved by the arithmetic of its
hold; a circuit's ends are found after each of its changes (`State.tearDown_keeps`, `State.tileAt_comesUp`); what the recomputed tree leaves is
`State.retree_retrimmed`. -/
theorem linkAndTrimEvents : Obligations.LinkAndTrimEvents := by
  unfold Obligations.LinkAndTrimEvents
  refine ⟨fun s n q p y t1 t2 t4 => ?trim, fun s i c route e hc => ?circuits, fun s l => ?links⟩
  case trim =>
    refine ⟨rfl, fun a => ⟨fun hp => State.askTrim_of_root hp a, fun hp => State.askTrim_of_parent (by rw [hp]; nofun) a⟩,
      fun hp hy hn hyl hfit hheld => ⟨fun a hstate ha hbegun hend ht1 => ?service, fun hstate hmay => ?training,
        exec_trimExchange_not_trains hp hy hn hyl⟩,
      s.retrain_regions n q, s.trains_iff n q p, s.nearAll_iff n q, fun r k cue a => ?counter, fun o l => ?paths,
      fun k h side x u => exec_ofsMeasurement⟩
    case service =>
      have ends := exec_trimExchange_service hp hy hn hyl hfit hheld hstate ha hbegun hend ht1
      refine ⟨fun hd hnear => ?_, fun hd hne hfar => ?_, fun hd => ?_⟩
      · rw [ends, if_pos hd, State.counterMoved_of_near fun hk => hnear (by simpa using hk)]
        rfl
      · rw [ends, if_pos hd, State.counterMoved_of_far (by simpa using hne) hfar]
      · rw [ends, if_neg (Nat.not_le.mpr hd), State.counterMoved_of_near (by simp)]
        rfl
    case training =>
      refine ⟨fun hfirst hnear => ?_, fun hlater hd hnear => ?_⟩
      · rw [exec_trimExchange_first hp hy hn hyl hfit hheld hstate hmay hfirst, State.counterMoved_of_near hnear, State.ite_retrain_cue]
      · rw [exec_trimExchange_later hp hy hn hyl hfit hheld hstate hmay hlater hd, State.counterMoved_of_near fun hk => hnear (by simpa using hk)]
    case counter =>
      exact ⟨rfl, rfl, rfl, rfl, rfl, fun hk _ => r.counterAt_corrected_forward cue a hk, r.counterAt_corrected_back, r.counterAt_corrected_ge k⟩
    case paths =>
      exact ⟨s.pathOut_stitchesOut n q (.inr ⟨o, rfl, rfl⟩), s.pathOut_stitchesOut n q (.inl ⟨rfl, rfl⟩), rfl⟩
  case circuits =>
    refine ⟨fun hstands => ?stands, fun hfallen => ?fallen,
      fun hup => ⟨⟨_, State.tearDown_circuits hc hup, rfl, rfl, rfl⟩, fun k t hk ht hlost hstart => ?flags⟩, fun he hdown ha hb hroute => ?setup,
      exec_circuitSetup_of_not_chosen hc, fun he hroute => ?chosen, fun e he hfits hroom => ?own⟩
    case stands =>
      show execCircuitTeardown i s = _
      simp only [execCircuitTeardown, hc, hstands, if_true]
    case fallen =>
      show execCircuitTeardown i s = _
      simp only [execCircuitTeardown, hc, hfallen, Bool.false_eq_true, if_false]
    case flags =>
      obtain ⟨u, hu, flags⟩ := State.tearDown_flags hc hup hk ht hlost hstart
      exact ⟨u, hu, by simp [flags], fun b hb => by simp [flags, hb]⟩
    case setup =>
      obtain ⟨⟨u, hu, hudue, huflag⟩, v, hv, hvdue, hvflag⟩ := State.tileAt_comesUp he ha hb i route
      refine ⟨_, exec_circuitSetup hc he hdown ha hb hroute, s.comesUp_circuits i c route, (s.comesUp_rewired i c route).mem,
        ⟨u, hu, hudue, State.tileAt_key hu ▸ huflag⟩, v, hv, hvdue, State.tileAt_key hv ▸ hvflag⟩
    case chosen =>
      rw [State.chosenRoute_of_ends he] at hroute
      have fits := List.find?_some hroute
      rw [Bool.and_eq_true] at fits
      exact ⟨fits.1, fits.2, List.mem_of_find?_eq_some hroute⟩
    case own =>
      obtain ⟨r, hr⟩ := otherRoutes_head c.route
      rw [State.chosenRoute_of_ends he, hr, List.find?_cons_of_pos (by rw [hfits, hroom]; rfl)]
  case links =>
    refine ⟨fun hup => ?_, fun hdown b => ?_, fun h => ?_, exec_linkReturnToService s l⟩
    · constructor
      · show execLinkCrcFailure l false s = _
        simp only [execLinkCrcFailure, hup, Bool.not_true, Bool.false_eq_true, if_false]
      · show execLinkCrcFailure l true s = _
        simp only [execLinkCrcFailure, hup, Bool.not_true, Bool.false_eq_true, if_false, if_true]
    · show execLinkCrcFailure l b s = _
      simp only [execLinkCrcFailure, hdown, Bool.not_false, if_true]
    · rw [State.linkOut_linksOut h]
      exact List.mem_append_right _ (List.mem_singleton_self l)

end

section
/-! SUPPORT. Islands and rails that fail (12 R317, R318), the bus (13 R321), targets, sensors and island voltages (15 R363 to R366, R370);
then O56. -/
namespace Sys2Proof.Machine

theorem State.setRegion_tileAt (s : State) (n : SiteId) (q : Fin 4) (f : Region → Region) (k : TileKey) :
    (s.setRegion n q f).tileAt k = s.tileAt k := rfl

/-! ### Tiles that fail (12 R317, R318; 11 R297) -/

/-- A tile that a failure hits is lost; one that stands in a gang of such a tile is marked. -/
def State.failTile (s : State) (hit : Tile → Bool) (mark : Tile → Tile) (t : Tile) : Tile :=
  if hit t then t.lose
  else if !t.lost && (((s.tiles.filter hit).map fun t => (t.key.co, t.key.gang)).eraseDups).contains (t.key.co, t.key.gang) then mark t else t

def State.failTiles (s : State) (hit : Tile → Bool) (mark : Tile → Tile) : State := { s with tiles := s.tiles.map (s.failTile hit mark) }

section
variable {s : State} {hit : Tile → Bool} {mark : Tile → Tile} (hmark : ∀ t, (mark t).key = t.key)
  {k : TileKey} {u : Tile} (hu : s.tileAt k = some u)
include hmark

theorem State.failTile_key (t : Tile) : (s.failTile hit mark t).key = t.key := by
  unfold State.failTile
  split
  · rfl
  · split
    · exact hmark t
    · rfl

include hu

theorem State.tileAt_failTiles : (s.failTiles hit mark).tileAt k = some (s.failTile hit mark u) :=
  (State.tileAt_map (State.failTile_key hmark) s k).trans (congrArg _ hu)

theorem State.tileAt_failTiles_hit (hhit : hit u = true) : (s.failTiles hit mark).tileAt k = some u.lose := by
  rw [State.tileAt_failTiles hmark hu, State.failTile, if_pos hhit]

theorem State.tileAt_failTiles_gang (hlost : u.lost = false) (hmiss : hit u = false) {g : TileKey} {v : Tile} (hv : s.tileAt g = some v)
    (hhit : hit v = true) (hco : g.co = k.co) (hgang : g.gang = k.gang) : (s.failTiles hit mark).tileAt k = some (mark u) := by
  have in_gang : (u.key.co, u.key.gang) ∈ (s.tiles.filter hit).map fun t => (t.key.co, t.key.gang) := by
    refine List.mem_map.mpr ⟨v, List.mem_filter.mpr ⟨List.mem_of_find?_eq_some hv, hhit⟩, ?_⟩
    rw [State.tileAt_key hu, State.tileAt_key hv, hco, hgang]
  have marked := List.contains_iff_mem.mpr (List.mem_eraseDups.mpr in_gang)
  rw [State.tileAt_failTiles hmark hu, State.failTile, if_neg (by simp [hmiss]), if_pos (by rw [hlost, marked]; rfl)]

end

/-! ### An island's regulator (12 R317) -/

theorem isCompute_of_lt {n : SiteId} (hn : n.val < 8) : isCompute n = true := decide_eq_true hn

/-- Whether a tile stands on an island. -/
def State.onIsland (s : State) (n : SiteId) (q : Fin 4) (i : Fin 32) (t : Tile) : Bool := t.site == n && t.region == q && s.islandOf t == i

theorem State.onIsland_iff {s : State} {n : SiteId} {q : Fin 4} {i : Fin 32} {t : Tile} :
    s.onIsland n q i t = true ↔ t.site = n ∧ t.region = q ∧ s.islandOf t = i := by
  simp [State.onIsland, and_assoc]

/-- ISLAND_LOST becomes pending in a tile, with the first island that fails. -/
def Tile.pendIsland (n : SiteId) (q : Fin 4) (i : Fin 32) (t : Tile) : Tile :=
  { t with pend := { t.pend with
    islandLost := true
    island := if t.pend.islandLost then t.pend.island else BitVec.ofNat 10 (n.val * 128 + q.val * 32 + i.val) } }

theorem Tile.pendIsland_key (n : SiteId) (q : Fin 4) (i : Fin 32) (t : Tile) : (t.pendIsland n q i).key = t.key := rfl

/-- A region with one island failed, its row retired. -/
def Region.loseIsland (r : Region) (i : Fin 32) : Region :=
  let p : Fin 16 := ⟨i.val / 2, by omega⟩
  { r with defects := r.defects.set p (r.defects[p] ||| 0x80), islands := r.islands.set i { r.islands[i].off with failed := true } }

theorem Region.loseIsland_island (r : Region) (i : Fin 32) : (r.loseIsland i).islands[i] = { r.islands[i].off with failed := true } := by
  rw [Region.loseIsland, getElem_set_fin, if_pos rfl]

theorem Region.loseIsland_defects (r : Region) (i : Fin 32) (p : Fin 16) :
    (r.loseIsland i).defects[p] = if p.val = i.val / 2 then r.defects[p] ||| 0x80 else r.defects[p] := by
  rw [Region.loseIsland, getElem_set_fin]
  simp only [Fin.ext_iff]
  split
  next row => simp only [Fin.getElem_fin, row]
  next => rfl

/-- The tiles of an island lost, those of their gangs marked, its row retired and the maps that may come in force in force. -/
def State.failIsland (s : State) (n : SiteId) (q : Fin 4) (i : Fin 32) : State :=
  ((s.failTiles (s.onIsland n q i) (Tile.pendIsland n q i)).setRegion n q fun r => r.loseIsland i).remap

theorem exec_islandRegulatorFailure {s : State} {n : SiteId} {q : Fin 4} {i : Fin 32} (hn : n.val < 8)
    (hf : (((s.sites[n]).regions[q]).islands[i]).failed = false) : exec (.islandRegulatorFailure n q i) s = .next (s.failIsland n q i) := by
  show execIslandRegulatorFailure n q i s = _
  simp only [execIslandRegulatorFailure, isCompute_of_lt hn, hf, Bool.not_true, Bool.or_false, Bool.false_eq_true, if_false]
  rfl

/-- What a change of regions leaves alone is as it was in each of them. -/
theorem State.setRegion_keeps {γ : Type} {g : Region → γ} (s : State) (m : SiteId) (o : Fin 4) (f : Region → Region) (hf : ∀ r, g (f r) = g r)
    (n : SiteId) (q : Fin 4) : g ((s.setRegion m o f).sites[n]).regions[q] = g (s.sites[n]).regions[q] := by
  rw [State.setRegion_regions]
  split
  next here => rw [here.1, here.2]; exact hf _
  next => rfl

/-- A map that comes in force changes no island, nor the live map. -/
theorem State.remap_regions (s : State) (n : SiteId) (q : Fin 4) : ((s.remap.sites[n]).regions[q]).islands = ((s.sites[n]).regions[q]).islands ∧
    ((s.remap.sites[n]).regions[q]).defects = ((s.sites[n]).regions[q]).defects := by
  refine Prod.mk.inj (foldl_keeps (g := fun u : State => (((u.sites[n]).regions[q]).islands, ((u.sites[n]).regions[q]).defects)) (fun u m => ?_) _ s)
  refine foldl_keeps (g := fun u : State => (((u.sites[n]).regions[q]).islands, ((u.sites[n]).regions[q]).defects)) (fun v o => ?_) _ u
  split
  · rfl
  · refine v.setRegion_keeps (g := fun r : Region => (r.islands, r.defects)) m o _ ?_ n q
    exact fun _ => rfl

theorem State.failIsland_keeps (s : State) (n : SiteId) (q : Fin 4) (i : Fin 32) :
    (s.failTiles (s.onIsland n q i) (Tile.pendIsland n q i)).Resited (s.failIsland n q i) ∧
      (((s.failIsland n q i).sites[n]).regions[q]).islands = (((s.sites[n]).regions[q]).loseIsland i).islands ∧
      (((s.failIsland n q i).sites[n]).regions[q]).defects = (((s.sites[n]).regions[q]).loseIsland i).defects := by
  refine ⟨State.Resited.trans (State.setRegion_resited _ n q _) (State.remap_resited _), ?_⟩
  have kept := State.remap_regions ((s.failTiles (s.onIsland n q i) (Tile.pendIsland n q i)).setRegion n q fun r => r.loseIsland i) n q
  rw [State.setRegion_regions, if_pos ⟨rfl, rfl⟩] at kept
  exact kept

/-! ### A region's rail (12 R318) -/

/-- Whether a tile stands in a region. -/
def Tile.inRegion (n : SiteId) (q : Fin 4) (t : Tile) : Bool := t.site == n && t.region == q

theorem Tile.inRegion_iff {n : SiteId} {q : Fin 4} {t : Tile} : t.inRegion n q = true ↔ t.site = n ∧ t.region = q := by
  simp [Tile.inRegion]

/-- REGION_LOST becomes pending in a tile, with the first region that fails. -/
def Tile.pendRegion (n : SiteId) (q : Fin 4) (t : Tile) : Tile :=
  { t with pend := { t.pend with
    regionLost := true
    region := if t.pend.regionLost then t.pend.region else BitVec.ofNat 10 (n.val * 128 + q.val * 32) } }

theorem Tile.pendRegion_key (n : SiteId) (q : Fin 4) (t : Tile) : (t.pendRegion n q).key = t.key := rfl

/-- A region whose rail is dead. -/
def Region.dead (r : Region) : Region := { r with rail := false, grade := 0, islands := r.islands.map Island.off }

theorem exec_regionRailFailure {s : State} {n : SiteId} {q : Fin 4} (hn : n.val < 8) (hrail : s.railLive n q = true) :
    exec (.regionRailFailure n q) s =
      .next (s.retree ((s.failTiles (Tile.inRegion n q) (Tile.pendRegion n q)).setRegion n q Region.dead).tearFallen) := by
  show execRegionRailFailure n q s = _
  simp only [execRegionRailFailure, isCompute_of_lt hn, hrail, Bool.not_true, Bool.or_false, Bool.false_eq_true, if_false]
  rfl

/-- Circuits torn down and a tree recomputed leave of a tile its loss and the loss of a region pending in it. -/
theorem State.retree_tearFallen_tileAt (s : State) {t : State} {k : TileKey} {u : Tile} (hu : t.tileAt k = some u) :
    ∃ w, (s.retree t.tearFallen).tileAt k = some w ∧ w.lost = u.lost ∧ w.pend.regionLost = u.pend.regionLost := by
  have kept := State.tearFallen_keeps (g := fun t : Tile => (t.lost, t.pend.regionLost)) (fun _ _ => rfl) (fun _ _ _ => rfl) (fun _ => rfl) t k
  rw [hu] at kept
  obtain ⟨w, hw, same⟩ := Option.map_eq_some_iff.mp kept
  exact ⟨w, ((State.retree_retrimmed s _).1.tileAt k).trans hw, Prod.mk.inj same⟩

theorem State.retree_tearFallen_region (s t : State) (n : SiteId) (q : Fin 4) :
    (((s.retree t.tearFallen).sites[n]).regions[q]).rail = ((t.sites[n]).regions[q]).rail ∧
      (((s.retree t.tearFallen).sites[n]).regions[q]).grade = ((t.sites[n]).regions[q]).grade := by
  rw [← t.tearFallen_rewired.sites]
  exact (State.retree_retrimmed s _).2 n q

/-! ### The bus and power stages (13 R321, R323) -/

theorem Site.dark_railsOff_stage (x : Site) : x.dark.railsOff.stage = false := rfl

theorem Site.dark_railsOff_rail (x : Site) (q : Fin 4) : (x.dark.railsOff.regions[q]).rail = false := by
  simp only [Site.railsOff, Site.dark, Bool.false_eq_true, if_false, Fin.getElem_fin, Vector.getElem_map]

theorem exec_busCollapse {s : State} (h : s.busCv.toNat < 4500) :
    exec .busCollapse s = .next { s with sites := s.sites.map fun x => x.dark.railsOff, stopped := true, agenda := [] } :=
  congrArg Host.Outcome.next (if_pos h)

theorem exec_thermalTrip {s : State} {n : SiteId} (hstage : (s.sites[n]).stage = true) (hpower : (s.sites[n]).state.powered = true)
    (hhot : n.val < 8 ∧ 110 ≤ (s.sites[n]).tmax.toNat ∨ ∃ c, (s.sites[n]).tripSince = some c ∧ c + 2 ^ 24 ≤ s.cue) :
    exec (.thermalTrip n) s = .next ((s.setSite n fun x => x.dark.railsOff).lose n .faulted 12 s.cue s.cue) := by
  have trips : ((isCompute n && decide (110 ≤ (s.sites[n]).tmax.toNat)) ||
      (s.sites[n]).tripSince.any fun c => decide (c + 2 ^ 24 ≤ s.cue)) = true := by
    obtain ⟨hn, hot⟩ | ⟨c, hc, long⟩ := hhot
    · rw [isCompute_of_lt hn, decide_eq_true hot, Bool.and_self, Bool.true_or]
    · rw [hc, Option.any_some, decide_eq_true long, Bool.or_true]
  exact congrArg Host.Outcome.next (if_pos (by rw [hstage, hpower, trips]; rfl))

/-! ### Targets (15 R363) -/

theorem State.setSite_congr {s : State} {n : SiteId} {f g : Site → Site} (h : f s.sites[n] = g s.sites[n]) : s.setSite n f = s.setSite n g := by
  rw [State.setSite, h, State.setSite]

theorem State.sense_target (s : State) (n : SiteId) : ((s.sense n).sites[n]).target = (s.sites[n]).target := by
  unfold State.sense
  split
  · rw [State.setSite_self]
    rfl
  · rfl

theorem State.setTarget_target (s : State) (n : SiteId) (k : Nat) :
    ((s.setTarget n k).sites[n]).target.toNat = max (s.sites[n]).reefMin.toNat (min 3 k) := by
  have target : ((s.setTarget n k).sites[n]).target = BitVec.ofNat 2 (max (s.sites[n]).reefMin.toNat (min 3 k)) :=
    (State.sense_target _ n).trans (by rw [State.setSite_self])
  have := (s.sites[n]).reefMin.isLt
  rw [target, BitVec.toNat_ofNat, Nat.mod_eq_of_lt (by omega)]

theorem Company.rewanted_wanted (c : Company) (w : Fin 4) : (c.rewanted w).wanted = w := by
  unfold Company.rewanted
  dsimp only
  split
  next same => exact same.symm
  next => rfl

/-- A condition that is due counts once, and is due again 2^16 cycles later; one that is not counts nothing. -/
def raiseDue (cue : Nat) (x : Option Nat) (k : Nat) (later : Option Nat) : Prop :=
  (x = none ∧ k = 0 ∧ later = none) ∨ ∃ c, x = some c ∧ c ≤ cue ∧ k = 1 ∧ later = some (c + 2 ^ 16)

theorem raiseDue.eqs {cue k : Nat} {x later : Option Nat} (h : raiseDue cue x k later) : (x.any fun c => decide (c ≤ cue)).toNat = k ∧
    (if (x.any fun c => decide (c ≤ cue)) = true then x.map (· + 2 ^ 16) else x) = later := by
  obtain ⟨rfl, rfl, rfl⟩ | ⟨c, rfl, hc, rfl, rfl⟩ := h
  · exact ⟨rfl, rfl⟩
  · simp [hc]

theorem exec_reefTargetRaise {s : State} {n : SiteId} (hup : s.serviceUp = true) (hn : n.val < 8) (hdeck : s.deckHotSince = none)
    {j k : Nat} {hot warm : Option Nat} (hhot : raiseDue s.cue (s.sites[n]).hotNext j hot) (hwarm : raiseDue s.cue (s.sites[n]).warmNext k warm)
    (hsome : j + k ≠ 0) : exec (.reefTargetRaise n) s = .next
      ((s.setSite n fun x => { x with hotNext := hot, warmNext := warm }).setTarget n ((s.sites[n]).target.toNat + (j + k))) := by
  obtain ⟨hj, hhot⟩ := hhot.eqs
  obtain ⟨hk, hwarm⟩ := hwarm.eqs
  show execReefTargetRaise n s = _
  simp only [execReefTargetRaise, hup, isCompute_of_lt hn, hdeck, hj, hk, hsome, Option.any_none, Bool.not_true, Bool.or_false,
    Bool.false_eq_true, if_false]
  refine congrArg (fun u : State => Host.Outcome.next (u.setTarget n _)) (State.setSite_congr ?_)
  simp only [hhot, hwarm]

theorem exec_reefTargetLower {s : State} {n : SiteId} (hup : s.serviceUp = true) (hn : n.val < 8) {c : Nat} (hc : (s.sites[n]).coolSince = some c)
    (hlong : c + 2 ^ 26 ≤ s.cue) : exec (.reefTargetLower n) s = .next
      ((s.setSite n fun x => { x with coolSince := some s.cue }).setTarget n ((s.sites[n]).target.toNat - 1)) := by
  have due : ((s.sites[n]).coolSince.any fun c => decide (c + 2 ^ 26 ≤ s.cue)) = true := by
    rw [hc, Option.any_some, decide_eq_true hlong]
  exact congrArg Host.Outcome.next (if_pos (by rw [hup, isCompute_of_lt hn, due]; rfl))

theorem exec_busLow {s : State} {c : Nat} (hc : s.busLowSince = some c) (hlong : c + 4096 ≤ s.cue) (hup : s.serviceUp = true) :
    exec .busLow s = .next { s with busLowSince := none }.raiseAll := by
  have due : (s.busLowSince.any fun c => decide (c + 4096 ≤ s.cue)) = true := by
    rw [hc, Option.any_some, decide_eq_true hlong]
  exact congrArg Host.Outcome.next ((if_pos due).trans (if_pos hup))

/-! ### Sensors and islands (15 R365, R366, R370) -/

theorem foldl_max_le_iff {b : Nat} (xs : List Nat) : ∀ a, xs.foldl max a ≤ b ↔ a ≤ b ∧ ∀ x ∈ xs, x ≤ b := by
  induction xs with
  | nil => simp
  | cons x xs ih => intro a; simp [ih, and_assoc]

/-- The hottest sensor of a module is no cooler than any. -/
theorem Site.sensed_tmax_ge (x : Site) (busOk : Bool) (cue : Nat) (q : Fin 4) (i : Fin 32) :
    ((x.regions[q]).islands[i]).temp.toNat ≤ (x.sensed busOk cue).tmax.toNat := by
  have byte : ∀ t ∈ (x.regions.toList.map fun r => r.islands.toList.map (·.temp.toNat)).flatten, t ≤ 255 := by
    simp only [List.mem_flatten, List.mem_map]
    rintro t ⟨_, ⟨r, -, rfl⟩, ht⟩
    obtain ⟨y, -, rfl⟩ := List.mem_map.mp ht
    exact Nat.le_of_lt_succ y.temp.isLt
  have mem : ((x.regions[q]).islands[i]).temp.toNat ∈ (x.regions.toList.map fun r => r.islands.toList.map (·.temp.toNat)).flatten :=
    List.mem_flatten.mpr ⟨_, List.mem_map.mpr ⟨x.regions[q], by simp, rfl⟩, List.mem_map.mpr ⟨(x.regions[q]).islands[i], by simp, rfl⟩⟩
  have top := (foldl_max_le_iff _ 0).mpr ⟨Nat.zero_le 255, byte⟩
  rw [show (x.sensed busOk cue).tmax = BitVec.ofNat 8 _ from rfl, BitVec.toNat_ofNat, Nat.mod_eq_of_lt (Nat.lt_succ_of_le top)]
  exact ((foldl_max_le_iff _ 0).mp le_rfl).2 _ mem

/-- A region with one island set. -/
def Region.withIsland (r : Region) (i : Fin 32) (x : Island) : Region := { r with islands := r.islands.set i x }

theorem Region.withIsland_self (r : Region) (i : Fin 32) (x : Island) : (r.withIsland i x).islands[i] = x := by
  rw [Region.withIsland, getElem_set_fin, if_pos rfl]

/-- A sensor read on an island. -/
def State.readSensor (s : State) (n : SiteId) (q : Fin 4) (i : Fin 32) (temp : BitVec 8) : State :=
  s.setRegion n q fun r => r.withIsland i { r.islands[i] with temp := temp }

theorem State.readSensor_temp (s : State) (n : SiteId) (q : Fin 4) (i : Fin 32) (temp : BitVec 8) :
    ((((s.readSensor n q i temp).sites[n]).regions[q]).islands[i]).temp = temp := by
  rw [State.readSensor, State.setRegion_regions, if_pos ⟨rfl, rfl⟩, Region.withIsland_self]

theorem exec_sensorRead_island {s : State} {n : SiteId} (hn : n.val < 8) (hcue : s.cue % 4096 = 0) (hpower : (s.sites[n]).state.powered = true)
    (q : Fin 4) (i : Fin 32) (temp : BitVec 8) : ∃ t, exec (.sensorRead n q i temp) s = .next t ∧
      (((t.sites[n]).regions[q]).islands[i]).temp = temp ∧ temp.toNat ≤ ((t.sites[n]).tmax).toNat := by
  refine ⟨(s.readSensor n q i temp).sense n, ?_, ?_⟩
  · refine congrArg Host.Outcome.next ((if_neg ?_).trans (if_pos (isCompute_of_lt hn)))
    rw [hcue, hpower]
    nofun
  · rw [State.sense, if_pos (isCompute_of_lt hn), State.setSite_self]
    refine ⟨s.readSensor_temp n q i temp, ?_⟩
    conv_lhs => rw [← s.readSensor_temp n q i temp]
    exact Site.sensed_tmax_ge _ _ _ q i

theorem exec_sensorRead_module {s : State} {n : SiteId} (hn : 8 ≤ n.val) (hcue : s.cue % 4096 = 0) (hpower : (s.sites[n]).state.powered = true)
    (q : Fin 4) (i : Fin 32) (temp : BitVec 8) : exec (.sensorRead n q i temp) s = .next (s.setSite n fun x => { x with tmax := temp }) := by
  have not_compute : isCompute n = false := decide_eq_false (Nat.not_lt.mpr hn)
  show execSensorRead n q i temp s = _
  simp only [execSensorRead, hcue, hpower, not_compute, beq_self_eq_true, Bool.and_self, Bool.not_true, Bool.false_eq_true, if_false]

theorem exec_sensorRead_between {s : State} (hcue : s.cue % 4096 ≠ 0) (n : SiteId) (q : Fin 4) (i : Fin 32) (temp : BitVec 8) :
    exec (.sensorRead n q i temp) s = .next s :=
  congrArg Host.Outcome.next (if_pos (by rw [beq_false_of_ne hcue]; rfl))

section
variable {x : Island} {rail : Bool}

theorem Island.served_off (h : x.failed = true ∨ rail = false) (chip q i : Nat) (lv : Option (Fin 4)) : x.served rail chip q i lv = x.off :=
  if_pos (by obtain h | h := h <;> simp [h])

variable (hf : x.failed = false) (hr : rail = true)
include hf hr

theorem Island.served_awake (hw : x.woken.isSome = true) (chip q i : Nat) (l : Fin 4) :
    x.served rail chip q i (some l) = x.setTo 2 (Config.islandVolts chip q i l.val) := by
  simp only [Island.served, hf, hr, hw, Bool.not_true, Bool.or_false, Bool.false_eq_true, if_false, if_true]

theorem Island.served_rests {lv : Option (Fin 4)} (h : lv = none ∨ x.woken = none) (chip q i : Nat) :
    (x.served rail chip q i lv).mode = 1 ∧ (x.served rail chip q i lv).vset = Config.retentionVolts chip q i := by
  cases lv with
  | none =>
    simp only [Island.served, hf, hr, Bool.not_true, Bool.or_false, Bool.false_eq_true, if_false]
    exact ⟨rfl, rfl⟩
  | some l =>
    have asleep : x.woken = none := h.resolve_left nofun
    simp only [Island.served, hf, hr, asleep, Option.isSome_none, Bool.not_true, Bool.or_false, Bool.false_eq_true, if_false]
    exact ⟨rfl, rfl⟩

end

def Island.wokenAt (x : Island) (cue : Nat) : Island := { x with woken := some cue }

theorem exec_islandWake {s : State} {n : SiteId} {q : Fin 4} {i : Fin 32} {l : Fin 4} (hl : s.islandLevel n q i = some l)
    (hf : (((s.sites[n]).regions[q]).islands[i]).failed = false) (hw : (((s.sites[n]).regions[q]).islands[i]).woken = none)
    (hrail : s.railLive n q = true) : exec (.islandWake n q i) s = .next (s.setRegion n q fun r => r.withIsland i
      (((((s.sites[n]).regions[q]).islands[i]).wokenAt s.cue).setTo 2 (Config.islandVolts (s.sites[n]).chip q.val i.val l.val))) := by
  rw [← Island.served_awake (x := (((s.sites[n]).regions[q]).islands[i]).wokenAt s.cue) (rail := true) hf rfl rfl]
  refine congrArg Host.Outcome.next ?_
  simp only [hl]
  exact if_neg (by rw [hf, hw, hrail]; nofun)

end Sys2Proof.Machine

open Sys2Proof Sys2Proof.Machine

/-- Settles O56: what fails stops its tiles and marks their gangs (`State.tileAt_failTiles_hit`, `State.tileAt_failTiles_gang`), which the
circuits torn down and the tree recomputed leave so (`State.retree_tearFallen_tileAt`); a target is raised by what is due (`exec_reefTargetRaise`);
an island is served by `Island.served_awake` and its kin. -/
theorem powerEvents : Obligations.PowerEvents := by
  unfold Obligations.PowerEvents
  refine ⟨fun s n q i hn => ⟨fun hf => ?island, fun hrail => ?rail⟩, fun s n v => ?power, fun s n q i temp l => ?sensors⟩
  case island =>
    obtain ⟨kept, islands, defects⟩ := s.failIsland_keeps n q i
    have hit {u : Tile} (hs : u.site = n) (hq : u.region = q) (hi : s.islandOf u = i) := State.onIsland_iff.mpr ⟨hs, hq, hi⟩
    have key := Tile.pendIsland_key n q i
    refine ⟨_, exec_islandRegulatorFailure hn hf, fun k u hu hs hq hi => ?lost, ?failed, ?mode, fun p => ?row,
      fun k u g w hu hul hmiss hw _ hs hq hi hco hgang => ?gang, kept.mem⟩
    case lost => exact ⟨_, (kept.tileAt k).trans (State.tileAt_failTiles_hit key hu (hit hs hq hi)), rfl⟩
    case failed => rw [islands, Region.loseIsland_island]
    case mode =>
      rw [islands, Region.loseIsland_island]
      rfl
    case row => rw [defects, Region.loseIsland_defects]
    case gang =>
      have miss : s.onIsland n q i u = false := by simpa using mt State.onIsland_iff.mp hmiss
      exact ⟨_, (kept.tileAt k).trans (State.tileAt_failTiles_gang key hu hul miss hw (hit hs hq hi) hco hgang), rfl⟩
  case rail =>
    obtain ⟨rail, grade⟩ := s.retree_tearFallen_region ((s.failTiles (Tile.inRegion n q) (Tile.pendRegion n q)).setRegion n q Region.dead) n q
    rw [State.setRegion_regions, if_pos ⟨rfl, rfl⟩] at rail grade
    have hit {u : Tile} (hs : u.site = n) (hq : u.region = q) := Tile.inRegion_iff.mpr ⟨hs, hq⟩
    have key := Tile.pendRegion_key n q
    refine ⟨_, exec_regionRailFailure hn hrail, rail, grade, ((State.retree_retrimmed _ _).1.mem).trans (State.tearFallen_rewired _).mem,
      fun k u hu hs hq => ?lost, fun k u g w hu hul hmiss hw hs hq hco hgang => ?gang⟩
    case lost =>
      have struck := State.tileAt_failTiles_hit key hu (hit hs hq)
      obtain ⟨w, hw, lost, -⟩ := s.retree_tearFallen_tileAt ((State.setRegion_tileAt _ n q Region.dead k).trans struck)
      exact ⟨w, hw, lost⟩
    case gang =>
      have miss : u.inRegion n q = false := by simpa using mt Tile.inRegion_iff.mp hmiss
      have marked := State.tileAt_failTiles_gang key hu hul miss hw (hit hs hq) hco hgang
      obtain ⟨x, hx, -, pending⟩ := s.retree_tearFallen_tileAt ((State.setRegion_tileAt _ n q Region.dead k).trans marked)
      exact ⟨x, hx, pending⟩
  case power =>
    refine ⟨fun h => ⟨_, exec_busCollapse h, rfl, rfl, fun m q => ?dark⟩, fun h => congrArg Host.Outcome.next (if_neg (Nat.not_lt.mpr h)),
      fun c hc hlong hup => exec_busLow hc hlong hup,
      fun hup hn => ⟨fun hdeck h hh hdue => ⟨fun hw => ?hot, fun w hw hwdue => ?hotAndWarm⟩,
        fun c hc hlong => exec_reefTargetLower hup hn hc hlong, ?reefmin⟩,
      s.setTarget_target n, Company.rewanted_wanted,
      fun hstage hpower hn hhot => exec_thermalTrip hstage hpower (.inl ⟨hn, hhot⟩),
      fun hstage hpower c hc hlong => exec_thermalTrip hstage hpower (.inr ⟨c, hc, hlong⟩)⟩
    case dark =>
      simp only [Fin.getElem_fin, Vector.getElem_map]
      exact ⟨Site.dark_railsOff_stage _, Site.dark_railsOff_rail _ q⟩
    case hot => exact exec_reefTargetRaise (j := 1) (k := 0) hup hn hdeck (.inr ⟨h, hh, hdue, rfl, rfl⟩) (.inl ⟨hw, rfl, rfl⟩) (by decide)
    case hotAndWarm =>
      exact exec_reefTargetRaise (j := 1) (k := 1) hup hn hdeck (.inr ⟨h, hh, hdue, rfl, rfl⟩) (.inr ⟨w, hw, hwdue, rfl, rfl⟩) (by decide)
    case reefmin => exact congrArg Host.Outcome.next (if_pos (by rw [hup, isCompute_of_lt hn]; rfl))
  case sensors =>
    refine ⟨fun hn hcue hpower => exec_sensorRead_island hn hcue hpower q i temp,
      fun hn hcue hpower => exec_sensorRead_module hn hcue hpower q i temp, fun hcue => exec_sensorRead_between hcue n q i temp,
      fun hl hf hw hrail => ⟨_, exec_islandWake hl hf hw hrail, ?wakes⟩,
      fun x rail lv chip => ⟨fun h => ?off, fun hf hr h => Island.served_rests hf hr h chip q.val i.val, fun hf hr hw hlv => ?awake⟩⟩
    case wakes =>
      rw [State.setRegion_regions, if_pos ⟨rfl, rfl⟩, Region.withIsland_self]
      exact ⟨rfl, rfl, rfl, rfl⟩
    case off =>
      rw [Island.served_off h]
      exact ⟨rfl, rfl, rfl⟩
    case awake =>
      rw [hlv, Island.served_awake hf hr hw]
      exact ⟨rfl, rfl⟩

end

section
/-! SUPPORT. A weight load from host memory while the service module is away (14 R348, 13 R336); then O58 refuted. -/
namespace Sys2Proof.Machine

/-- A weight load of 64 bytes from address 0 of host memory (APER 1: 14 R343, R348). -/
def hostLoad : WLoad := ⟨0, 0, 0x4000000000000000, 0, 0, 1, 1, 0, 0, 64⟩

/-- What a launch with that one load brings. -/
def hostLoadInfo : LaunchInfo where
  op := 1
  queue := 0
  cmb := 0
  gen := 0
  pri := 0
  readCue := 0
  overlaid := false
  handler := none
  seed := 0
  segtab := []
  binds := []
  ovRoot := 0
  ovTab := []
  pins := []
  gangs := []
  loads := [hostLoad]

/-- The launch placed, before its start. -/
def hostLoading : Company := mkCompany 0 hostLoadInfo [] 0 4096 false

/-- A deck with the launch on it, and no service module. -/
def awayDeck : State := { State.reset with companies := [hostLoading] }

/-! ### What a completion leaves (14 R339, R343, R344) -/

/-- The machine with mailbox words, posts that wait and pending packets others. -/
def State.Posted (s t : State) : Prop := t = { s with mbox := t.mbox, mirror := t.mirror, heldPosts := t.heldPosts, ops := t.ops }

namespace State.Posted
variable {s t : State}

theorem refl (s : State) : s.Posted s := rfl

theorem trans {u : State} (h : s.Posted t) (h' : t.Posted u) : s.Posted u := by
  unfold State.Posted at *
  rw [h', h]

theorem foldl {α : Type} {f : State → α → State} (hf : ∀ (u : State) a, u.Posted (f u a)) (l : List α) (s : State) : s.Posted (l.foldl f s) :=
  List.foldlRecOn _ _ (motive := s.Posted) (refl s) fun u hu a _ => hu.trans (hf u a)

variable (h : s.Posted t)
include h

theorem coAt (n : Nat) : t.coAt n = s.coAt n := by rw [h]; rfl

end State.Posted

theorem State.mbPost_posted (s : State) (w : Nat) (v : W64) : s.Posted (s.mbPost w v) := by
  unfold State.mbPost
  split <;> rfl

theorem State.opDone_posted (s : State) (id : Nat) (w : W64) : s.Posted (s.opDone id w) := by
  unfold State.opDone
  split
  · exact State.Posted.refl s
  · dsimp only
    split
    · exact State.Posted.trans (t := { s with ops := _ }) rfl (State.mbPost_posted _ _ _)
    · rfl

theorem awayDeck_coAt : awayDeck.coAt 0 = some hostLoading := rfl

/-- Host memory is out of reach: the load waits. -/
theorem exec_weightloadApply_awayDeck : exec (.weightloadApply 0) awayDeck = .next awayDeck := rfl

/-- What is found in the place of a company replaced is the new one. -/
theorem State.eq_of_coAt_setCo {s : State} {c d : Company} {n : Nat} (hc : c.num = n) (h : (s.setCo c).coAt n = some d) : d = c := by
  rw [State.coAt_setCo, if_pos hc] at h
  obtain ⟨-, -, found⟩ := Option.map_eq_some_iff.mp h
  exact found.symm

/-- A company that has left is no more. -/
theorem State.coAt_freeCompany (s : State) (c : Company) (code : BitVec 8) : (s.freeCompany c code).coAt c.num = none :=
  ((s.freeCompany_resited c code).coAt c.num).trans (State.coAt_without _ _)

end Sys2Proof.Machine

open Sys2Proof Sys2Proof.Machine

/-- Refutes O58: its clauses on WEIGHTLOAD_APPLY ask of every placed launch with a load that the step applies the load, or ends the launch; they leave
out that host memory is out of reach without site S (13 R336). There the load waits (`exec_weightloadApply_awayDeck`): whether or not the host read
would fail, which is free, the launch keeps its load. -/
theorem not_packetEvents : ¬ Obligations.PacketEvents := by
  unfold Obligations.PacketEvents
  rintro ⟨-, completions⟩
  obtain ⟨-, loads, -⟩ := completions awayDeck 0 0 ⟨0, 0, .weightload, none⟩ hostLoading hostLoad []
  obtain ⟨applied, failed, -⟩ := loads 4096 awayDeck_coAt rfl rfl rfl
  have found (t : State) (step : exec (.weightloadApply 0) awayDeck = .next t) : t.coAt 0 = some hostLoading := by
    rw [← Host.Outcome.next.inj (exec_weightloadApply_awayDeck.symm.trans step), awayDeck_coAt]
  cases read : (awayDeck.applyLoad 0 hostLoad).2 with
  | true =>
    have kept := found _ (applied read)
    rw [(State.opDone_posted _ _ _).coAt] at kept
    have loaded := congrArg (fun c => c.info.loads) (State.eq_of_coAt_setCo rfl kept)
    exact absurd loaded (List.cons_ne_nil hostLoad [])
  | false =>
    have kept := found _ (failed read)
    exact absurd (kept.symm.trans (State.coAt_freeCompany _ _ _)) (by simp)

end

section
/-! SUPPORT. Queues: registers and commands (14 R341), the packet in hand (14 R342 to R344), the visit; then O57. -/
namespace Sys2Proof.Machine

/-! ### A queue changed (14 R341) -/

@[simp] theorem State.onQueue_self (s : State) (q : Fin 64) (f : Queue → Queue) : (s.onQueue q f).queues[q] = f s.queues[q] := by
  simp [State.onQueue]

theorem State.onQueue_other (s : State) {q r : Fin 64} (f : Queue → Queue) (h : r ≠ q) : (s.onQueue q f).queues[r] = s.queues[r] := by
  have : q.val ≠ r.val := fun e => h (Fin.ext e.symm)
  simp [State.onQueue, this]

theorem State.onQueue_congr {s : State} {q : Fin 64} {f g : Queue → Queue} (h : f s.queues[q] = g s.queues[q]) : s.onQueue q f = s.onQueue q g := by
  rw [State.onQueue, h, ← State.onQueue]

@[simp] theorem State.onQueue_accepts (s : State) (q : Fin 64) (f : Queue → Queue) : (s.onQueue q f).accepts = s.accepts := rfl

/-- A queue without open buffers goes on at its head. -/
theorem Queue.issued_of_chain_nil {x : Queue} (h : x.chain = []) :
    x.issued = { x with head := x.head + 1, packet := none, blocked := none, freed := none } := by
  simp [Queue.issued, Queue.live, h]

/-! ### Doorbell and commands (14 R341, R352) -/

variable {s : State} {q : Fin 64}

theorem exec_doorbell (hh : s.hostReaches = true) (v : W32) : exec (.doorbell q v) s = .next (s.onQueue q fun x =>
    if x.stopped = false ∧ 2 ^ x.log2n < (v - x.head).toNat then ({ x with tail := v } : Queue).stop cFORMAT else { x with tail := v }) := by
  show execDoorbell q v s = _
  simp only [execDoorbell, hh, Bool.not_true, Bool.false_eq_true, if_false, Bool.and_eq_true, Bool.not_eq_true', decide_eq_true_eq]

theorem exec_doorbell_unheard (hh : s.hostReaches = false) (v : W32) : exec (.doorbell q v) s = .next s := by
  show execDoorbell q v s = _
  simp only [execDoorbell, hh, Bool.not_false, if_true]

theorem exec_qcmdResume (ha : s.accepts = true) : exec (.qcmdResume q) s =
    .next (if (s.queues[q]).stopped = true then s.onQueue q fun x => { x with stopped := false, code := 0 } else s) := by
  show execQcmdResume q s = _
  simp only [execQcmdResume, ha, Bool.true_and]

theorem exec_qcmdSkip (ha : s.accepts = true) : exec (.qcmdSkip q) s =
    .next (if (s.queues[q]).stopped = true then s.onQueue q fun x => { x.issued with stopped := false, code := 0 } else s) := by
  show execQcmdSkip q s = _
  simp only [execQcmdSkip, ha, Bool.true_and]

theorem exec_qcmdReset (ha : s.accepts = true) : exec (.qcmdReset q) s = .next (s.onQueue q fun x =>
    { x with head := x.tail, chain := [], code := 0, stopped := false, packet := none, blocked := none, freed := none }) := by
  show execQcmdReset q s = _
  simp only [execQcmdReset, ha, Bool.not_true, Bool.false_eq_true, if_false]

/-! ### The packet in hand (14 R342 to R344) -/

variable {p : Packet} {t : Nat}

theorem packet_of_hand (ha : s.accepts = true) (hp : (s.queues[q]).packet = some p) (ht : pkType p = t) (f : Packet → State) :
    packet t q f s = .next (f p) := by
  simp only [packet, State.packetOf, ha, hp, if_true, Option.filter_some, ht, beq_self_eq_true]

section
variable (ha : s.accepts = true) (hp : (s.queues[q]).packet = some p)
include ha hp

theorem exec_packetNop (ht : pkType p = 0) : exec (.packetNop q) s = .next (s.complete q p 0) := packet_of_hand ha hp ht _

theorem exec_copy (ht : pkType p = 2) : exec (.copy q) s = .next (s.later q p
    (.copy p[1] p[2] (bits p[3] 47 0) (if bit p[4] 63 then some (p[4].setWidth 32) else none) [])) := packet_of_hand ha hp ht _

theorem exec_putmb (ht : pkType p = 4) : exec (.putmb q) s = .next (if (s.mb (pkWord p)).full = false ∧ s.behind q p = false
    then (s.mbSet (pkWord p) ⟨p[1], true⟩).complete q p 0 else s.block q) := by
  refine (packet_of_hand ha hp ht _).trans ?_
  simp only [State.waits, State.free?, State.waitDone, ht, Bool.and_eq_true, Bool.not_eq_true']

theorem exec_waitmb (ht : pkType p = 5) : exec (.waitmb q) s = .next (if (s.mb (pkWord p)).full = true ∧ s.behind q p = false
    then (if bit p[0] 12 then s else s.mbSet (pkWord p) ⟨(s.mb (pkWord p)).v, false⟩).complete q p 0 else s.block q) := by
  refine (packet_of_hand ha hp ht _).trans ?_
  simp only [State.waits, State.free?, State.waitDone, ht, Bool.and_eq_true, Bool.not_eq_true']

theorem exec_fence (ht : pkType p = 8) : exec (.fence q) s =
    .next (if ∃ o ∈ s.ops, o.queue = q.val then s.block q else s.complete q p 0) := by
  refine (packet_of_hand ha hp ht _).trans ?_
  simp only [State.waits, State.free?, State.waitDone, ht, Bool.not_eq_true', List.any_eq_false, beq_iff_eq]
  by_cases h : ∃ o ∈ s.ops, o.queue = q.val
  · rw [if_pos h, if_neg (by simpa using h)]
  · rw [if_neg h, if_pos (by simpa using h)]

theorem exec_unloadCode (ht : pkType p = 6) (hk : bits p[0] 31 30 = 0) : exec (.unloadCode q) s =
    .next (s.later q p (.unloadCode (bits p[0] 15 0))) :=
  (packet_of_hand ha hp ht _).trans (congrArg Host.Outcome.next (if_pos hk))

theorem exec_unloadData (ht : pkType p = 6) (hk : bits p[0] 31 30 = 1) : exec (.unloadData q) s = .next (s.later q p .unloadData) :=
  (packet_of_hand ha hp ht _).trans (congrArg Host.Outcome.next (if_pos hk))

end

/-! ### The visit (14 R342, R343) -/

theorem State.Marked.accepts {s t : State} (h : s.Marked t) : t.accepts = s.accepts := by
  obtain ⟨e, hs⟩ := h
  obtain ⟨b, c, hn⟩ := hs siteS
  have fw : t.fw = s.fw := by rw [e]
  have stopped : t.stopped = s.stopped := by rw [e]
  simp only [State.accepts, State.serviceUp, hn, fw, stopped]

/-- The packet that a visit finds. -/
def State.visitPacket (s : State) : Packet :=
  let at_ := (s.queues[s.nextQueue]).next
  Vector.ofFn fun i => BitVec.ofNat 64 (s.wordNat at_.1 (at_.2 + 8 * i.val) 8)

/-- The machine with the next queue's turn past. -/
def State.turnPast (s : State) : State := { s with nextQueue := s.nextQueue + 1 }

/-- The machine once the packet is read: fresh blocks are marked (13 R332). -/
def State.visitRead (s : State) : State :=
  let at_ := (s.queues[s.nextQueue]).next
  if aperOf at_.1 = 0 then s.turnPast.freshRead none 0xffff (addrOf at_.1 + at_.2) 64 else s.turnPast

/-- The machine with the packet in hand. -/
def State.visitHand (s : State) : State := s.visitRead.onQueue s.nextQueue fun x => { x with packet := some s.visitPacket }

theorem State.visitRead_marked (s : State) : s.turnPast.Marked s.visitRead := by
  unfold State.visitRead
  dsimp only
  split
  · exact State.freshRead_marked _ _ _ _ _
  · exact State.Marked.refl _

theorem State.visitHand_accepts (s : State) : s.visitHand.accepts = s.accepts := s.visitRead_marked.accepts

theorem State.visitHand_packet (s : State) : (s.visitHand.queues[s.nextQueue]).packet = some s.visitPacket := by
  rw [State.visitHand, State.onQueue_self]

/-- What has a packet in hand is, but for its queues, the machine as it was read. -/
theorem State.visitHand_others (s : State) : s.visitHand.nextQueue = s.nextQueue + 1 ∧ s.visitHand.mem = s.mem ∧ s.visitHand.mbox = s.mbox ∧
    s.visitHand.ops = s.ops := by
  have e := s.visitRead_marked.1
  rw [State.visitHand, e]
  exact ⟨rfl, rfl, rfl, rfl⟩

section
variable (ha : s.accepts = true)
include ha

theorem exec_queueVisit_passed (hr : (s.queues[s.nextQueue]).ready = false) : exec .queueVisit s = .next s.turnPast := by
  show execQueueVisit s = _
  simp only [execQueueVisit, ha, hr, Bool.not_true, Bool.not_false, Bool.false_eq_true, if_false, if_true]
  rfl

theorem exec_queueVisit_ready (hr : (s.queues[s.nextQueue]).ready = true) : exec .queueVisit s =
    if packetOk s.visitPacket = true then packetStep s.nextQueue s.visitPacket s.visitHand
    else .next (s.visitRead.onQueue s.nextQueue fun x => x.stop cFORMAT) := by
  show execQueueVisit s = _
  simp only [execQueueVisit, ha, hr, Bool.not_true, Bool.false_eq_true, if_false]
  rfl

end

/-- The step of a packet is that of the event of its type (14 R344). -/
theorem packetStep_of_type {y : Nat × Instr} (hy : y ∈ [(0, Instr.packetNop q), (1, .launch q), (2, .copy q), (3, .weightload q), (4, .putmb q),
    (5, .waitmb q), (7, .indirect q), (8, .fence q)]) (ht : pkType p = y.1) (s : State) : packetStep q p s = exec y.2 s := by
  simp only [List.mem_cons, List.not_mem_nil, or_false] at hy
  rcases hy with rfl | rfl | rfl | rfl | rfl | rfl | rfl | rfl <;> rw [packetStep, ht] <;> rfl

theorem packetStep_of_unload (ht : pkType p = 6) (s : State) : (bits p[0] 31 30 = 0 → packetStep q p s = exec (.unloadCode q) s) ∧
    (bits p[0] 31 30 = 1 → packetStep q p s = exec (.unloadData q) s) ∧ (bits p[0] 31 30 = 2 → packetStep q p s = exec (.unloadLaunch q) s) := by
  refine ⟨fun hk => ?_, fun hk => ?_, fun hk => ?_⟩ <;> rw [packetStep, ht, hk] <;> rfl

theorem packetStep_of_rejoin (ht : pkType p = 9) (s : State) : packetStep q p s =
    if bit p[0] 15 = true then exec (.rejoinWithdraw q) s else exec (.rejoin q) s := by
  rw [packetStep, ht]
  rfl

theorem packetStep_next (q : Fin 64) (p : Packet) (s : State) : ∃ t, packetStep q p s = .next t := by
  unfold packetStep
  split
  case h_7 => split <;> exact ⟨_, rfl⟩
  case h_10 => split <;> exact ⟨_, rfl⟩
  all_goals exact ⟨_, rfl⟩

theorem State.visitHand_mb (s : State) (w : Nat) : s.visitHand.mb w = s.mb w := by
  rw [State.mb, s.visitHand_others.2.2.1, ← State.mb]

end Sys2Proof.Machine

open Sys2Proof Sys2Proof.Machine

/-- Settles O57: each register is one equation of its event (`exec_doorbell` and its kin); a visit with a well-formed packet is the step of the packet's
own event with the packet in hand (`exec_queueVisit_ready`, `packetStep_of_type`), whose effect is that event's equation. -/
theorem queueEvents : Obligations.QueueEvents := by
  unfold Obligations.QueueEvents
  refine ⟨fun s q v => ⟨fun hh => ?doorbell, fun hh => exec_doorbell_unheard hh v,
    fun ha => ⟨fun hstop => ⟨?resume, fun hc => ?skip⟩, fun hrun => ⟨?resumeRunning, ?skipRunning⟩, ?reset⟩,
    fun f => ⟨s.onQueue_self q f, fun r => s.onQueue_other f⟩⟩, fun s ha => ?visit⟩
  case doorbell => exact (exec_doorbell hh v).trans (congrArg _ (State.onQueue_congr rfl))
  case resume =>
    rw [exec_qcmdResume ha, if_pos hstop]
    exact congrArg _ (State.onQueue_congr rfl)
  case skip =>
    rw [exec_qcmdSkip ha, if_pos hstop]
    refine congrArg _ (State.onQueue_congr ?_)
    rw [Queue.issued_of_chain_nil hc]
  case resumeRunning =>
    rw [exec_qcmdResume ha, if_neg (by simpa using hrun)]
  case skipRunning =>
    rw [exec_qcmdSkip ha, if_neg (by simpa using hrun)]
  case reset => exact (exec_qcmdReset ha).trans (congrArg _ (State.onQueue_congr rfl))
  case visit =>
    have hand : s.visitHand.accepts = true := s.visitHand_accepts.trans ha
    have held := s.visitHand_packet
    obtain ⟨turn, mem, mbox, ops⟩ := s.visitHand_others
    refine ⟨exec_queueVisit_passed ha, fun hr hbad => ?illFormed, ⟨hand, turn, held, mem, mbox, ops⟩, fun hr hok => ?wellFormed⟩
    case illFormed => exact (exec_queueVisit_ready ha hr).trans (if_neg (Bool.eq_false_iff.mp hbad))
    case wellFormed =>
      have visit : exec .queueVisit s = packetStep s.nextQueue s.visitPacket s.visitHand :=
        (exec_queueVisit_ready ha hr).trans (if_pos hok)
      have step {i : Instr} (n : Nat) (ht : pkType s.visitPacket = n) (hi : (n, i) ∈ _) : exec .queueVisit s = exec i s.visitHand :=
        visit.trans (packetStep_of_type hi ht _)
      have does {i : Instr} (hi : packetStep s.nextQueue s.visitPacket s.visitHand = exec i s.visitHand) :
          ∃ t, exec .queueVisit s = .next t ∧ exec i s.visitHand = .next t := by
        obtain ⟨t, ht⟩ := packetStep_next s.nextQueue s.visitPacket s.visitHand
        exact ⟨t, visit.trans ht, hi.symm.trans ht⟩
      refine ⟨fun ht => ?nop, fun ht => ?copy, fun ht => ?putmb, fun ht => ?waitmb, fun ht => ?fence, fun ht hk => ?code, fun ht hk => ?data,
        fun y hy ht => ?does, fun ht => ⟨fun hk => ?doesCode, fun hk => ?doesData, fun hk => ?doesLaunch⟩,
        fun ht => ⟨fun hb => ?doesRejoin, fun hb => ?doesWithdraw⟩⟩
      case nop => exact (step 0 ht (by simp)).trans (exec_packetNop hand held ht)
      case copy => exact (step 2 ht (by simp)).trans (exec_copy hand held ht)
      case putmb =>
        rw [← s.visitHand_mb]
        exact (step 4 ht (by simp)).trans (exec_putmb hand held ht)
      case waitmb =>
        rw [← s.visitHand_mb]
        exact (step 5 ht (by simp)).trans (exec_waitmb hand held ht)
      case fence =>
        refine (step 8 ht (by simp)).trans ((exec_fence hand held ht).trans ?_)
        rw [ops]
        rfl
      case code => exact (visit.trans ((packetStep_of_unload ht _).1 hk)).trans (exec_unloadCode hand held ht hk)
      case data => exact (visit.trans ((packetStep_of_unload ht _).2.1 hk)).trans (exec_unloadData hand held ht hk)
      case does => exact does (packetStep_of_type hy ht _)
      case doesCode => exact does ((packetStep_of_unload ht _).1 hk)
      case doesData => exact does ((packetStep_of_unload ht _).2.1 hk)
      case doesLaunch => exact does ((packetStep_of_unload ht _).2.2 hk)
      case doesRejoin => exact does ((packetStep_of_rejoin ht _).trans (if_neg (Bool.eq_false_iff.mp hb)))
      case doesWithdraw => exact does ((packetStep_of_rejoin ht _).trans (if_pos hb))

end

section
/-! SUPPORT. What completions, a site's loss, its transition and the stage manager's return leave (13 R326 to R337); firmware (14 R353 to R358);
then O60. -/
namespace Sys2Proof.Machine

/-! ### Completions and records (11 R301; 14 R339, R343, R344) -/

theorem State.mbSet_posted (s : State) (w : Nat) (x : MbWord) : s.Posted (s.mbSet w x) := rfl

theorem State.flushPosts_posted (s : State) : s.Posted s.flushPosts :=
  State.Posted.trans (t := { s with heldPosts := [] }) rfl (State.Posted.foldl (fun (u : State) (p : Nat × W64) => u.mbSet_posted p.1 _) _ _)

theorem State.flushPosts_ops (s : State) : s.flushPosts.ops = s.ops :=
  foldl_keeps (g := State.ops) (fun (u : State) (p : Nat × W64) => show (u.mbSet p.1 ⟨p.2, true⟩).ops = u.ops from rfl) _ _

theorem State.Posted.tiles {s t : State} (h : s.Posted t) : t.tiles = s.tiles := by rw [h]
theorem State.Posted.fw {s t : State} (h : s.Posted t) : t.fw = s.fw := by rw [h]
theorem State.Posted.changes {s t : State} (h : s.Posted t) : t.changes = s.changes := by rw [h]

theorem State.Recorded.trans {s t u : State} (h : s.Recorded t) (h' : t.Recorded u) : s.Recorded u := by
  obtain ⟨e, hs⟩ := h
  obtain ⟨e', hs'⟩ := h'
  refine ⟨by rw [e', e], fun n => ?_⟩
  obtain ⟨r, d, hn⟩ := hs n
  obtain ⟨r', d', hn'⟩ := hs' n
  exact ⟨r', d', by rw [hn', hn]⟩

theorem State.Recorded.foldl {α : Type} {f : State → α → State} (hf : ∀ (u : State) a, u.Recorded (f u a)) (l : List α) (s : State) :
    s.Recorded (l.foldl f s) :=
  List.foldlRecOn _ _ (motive := s.Recorded) (State.Recorded.refl s) fun u hu a _ => hu.trans (hf u a)

/-- Records held at a site and dropped there are records, wherever they go. -/
theorem State.flushRecs_recorded (s : State) (n : SiteId) : s.Recorded (s.flushRecs n) := by
  unfold State.flushRecs
  dsimp only
  split
  · exact State.Recorded.refl s
  · refine State.Recorded.trans ⟨rfl, fun m => ?_⟩ (State.Recorded.foldl State.logRec_recorded _ _)
    by_cases hm : m = n
    · subst hm
      exact ⟨_, _, State.setSite_self _ _ _⟩
    · exact ⟨_, _, State.setSite_other _ _ _ _ hm⟩

/-! ### The stage manager back (13 R336; 14 R355, R358) -/

/-- The machine with what waited for the stage manager done, but for the fault records. -/
def State.backed (s : State) : State := { s.flushPosts.takeWaiting with pfHead := s.pfNext }

theorem State.serviceBack_recorded (s : State) (was : Bool) :
    (if (!was && s.serviceUp) = true then s.backed else s).Recorded (s.serviceBack was) := by
  unfold State.serviceBack
  split
  · exact State.Recorded.foldl State.flushRecs_recorded _ _
  · exact State.Recorded.refl s

theorem State.backed_fw (s : State) : s.backed.fw = s.fw := s.flushPosts_posted.fw

theorem State.backed_changes (s : State) : s.backed.changes = s.changes := s.flushPosts_posted.changes

theorem State.backed_tiles (s : State) : s.backed.tiles = s.tiles := s.flushPosts_posted.tiles

theorem State.backed_ops (s : State) : s.backed.ops = s.ops := s.flushPosts_ops

/-- Every message of every module has been acted on, and its permit returned. -/
theorem State.takeWaiting_site (s : State) (n : SiteId) : ((s.takeWaiting.sites[n]).waitingMsgs[(1 : Fin 2)] = 0 ∧
    (s.takeWaiting.sites[n]).permits[(1 : Fin 2)] = 16) ∧ (s.takeWaiting.sites[n]).permitSince[(1 : Fin 2)] = none := by
  simp [State.takeWaiting]

section
variable (s : State) (was : Bool)

theorem State.serviceBack_fw : (s.serviceBack was).fw = s.fw := by
  rw [(s.serviceBack_recorded was).1, apply_ite State.fw, State.backed_fw, ite_self]

theorem State.serviceBack_tiles : (s.serviceBack was).tiles = s.tiles := by
  rw [(s.serviceBack_recorded was).tiles, apply_ite State.tiles, State.backed_tiles, ite_self]

theorem State.serviceBack_ops : (s.serviceBack was).ops = s.ops := by
  rw [(s.serviceBack_recorded was).1, apply_ite State.ops, State.backed_ops, ite_self]

end

/-! ### A site lost, and its transition (13 R326, R330) -/

/-- What the service module runs, and the transitions that counters have still to reach. -/
def State.watch (s : State) : Firmware × List SiteChange := (s.fw, s.changes)

theorem State.Posted.watch {s t : State} (h : s.Posted t) : t.watch = s.watch := by rw [h]; rfl

theorem State.Recorded.watch {s t : State} (h : s.Recorded t) : t.watch = s.watch := by rw [h.1]; rfl

theorem foldl_watch {α : Type} {f : State → α → State} (hf : ∀ s a, (f s a).watch = s.watch) (l : List α) (s : State) :
    (l.foldl f s).watch = s.watch := foldl_keeps (g := State.watch) hf l s

theorem State.cancelRejoins_posted (s : State) (n : SiteId) (c : Company) : s.Posted (s.cancelRejoins n c) :=
  State.Posted.foldl (fun _ _ => State.Posted.foldl (fun (u : State) (o : PendOp) => u.opDone_posted o.id _) _ _) _ _

theorem State.closeRounds_watch (s : State) (co : Nat) : (s.closeRounds co).watch = s.watch := by
  unfold State.closeRounds
  split
  · rfl
  · refine foldl_watch (fun u r => ?_) _ _
    split
    · unfold State.closeRound
      split <;> rfl
    · rfl

theorem State.endCause_watch (s : State) (co : Nat) (code : BitVec 8) (info : W64) (pc : W32) (unit : Nat) (tile : Option TileKey) :
    (s.endCause co code info pc unit tile).watch = s.watch := by
  unfold State.endCause
  split
  · rfl
  · split <;> rfl

theorem State.siteLostFor_watch (s : State) (n : SiteId) (c : Company) : (s.siteLostFor n c).watch = s.watch := by
  have cancelled := (s.cancelRejoins_posted n c).watch
  have closed (d : Company) (f : Tile → Tile) :
      ((((s.cancelRejoins n c).setCo d).rewant.mapTiles d.num f).closeRounds d.num).watch = s.watch :=
    (State.closeRounds_watch _ _).trans cancelled
  unfold State.siteLostFor
  dsimp only
  split
  · exact cancelled
  · split
    · exact (State.endCause_watch _ _ _ _ _ _ _).trans (closed _ _)
    · split
      · exact closed _ _
      · exact (State.postRec_recorded _ _ _).watch.trans (closed _ _)

theorem State.untrain_watch (s : State) (n : SiteId) : (s.untrain n).watch = s.watch := by
  refine (foldl_watch (fun u p => ?_) _ _).trans rfl
  split <;> rfl

theorem State.renewed_changes (s : State) (n : SiteId) (old : SiteState) : (s.renewed n old).changes = s.changes := by
  unfold State.renewed
  split <;> rfl

theorem State.renewed_fw (s : State) (n : SiteId) (old : SiteState) : (s.renewed n old).fw = s.fw := by
  unfold State.renewed
  split <;> rfl

theorem Decision.resolve_decided (d : Decision) (x : Site) (h : d.opening = false) : d.resolve x = d := by
  simp only [Decision.resolve, h, Bool.not_false, if_true]

/-- A decision that the table lacks is void (13 R326). -/
theorem State.transit_void {s : State} {d : Decision} (h : transits (s.sites[d.site]).state (d.resolve s.sites[d.site]).to_ = false) :
    s.transit d = s := by
  unfold State.transit
  exact if_pos (by rw [h]; rfl)

/-- The machine without a site that is lost or faulted: its service module's power, its links, its gangs where it was up (13 R330; 14 R354). -/
def State.fallen (t : State) (n : SiteId) (old to_ : SiteState) : State :=
  let t := if n = siteS && (old.up || to_ == .lost || !(t.sites[siteS]).stage) then t.serviceOff else t
  if old.up then
    let t := (t.companies.foldl (fun t c => t.siteLostFor n c) t).untrain n
    if n = siteS then { t with mbox := [], ops := t.ops.map PendOp.rechosen } else t
  else t.untrain n

theorem State.fallen_watch (t : State) (n : SiteId) (old to_ : SiteState) : (t.fallen n old to_).watch =
    (if n = siteS && (old.up || to_ == .lost || !(t.sites[siteS]).stage) then t.serviceOff else t).watch := by
  unfold State.fallen
  generalize (if n = siteS && (old.up || to_ == .lost || !(t.sites[siteS]).stage) then t.serviceOff else t) = u
  have lost : ((u.companies.foldl (fun t c => t.siteLostFor n c) u).untrain n).watch = u.watch :=
    (State.untrain_watch _ _).trans (foldl_watch (fun v c => v.siteLostFor_watch n c) _ _)
  dsimp only
  split
  · split <;> exact lost
  · exact u.untrain_watch n

theorem State.fallen_siteS_lost (t : State) (old : SiteState) : (t.fallen siteS old .lost).fw = t.fw.unpowered := by
  refine (congrArg Prod.fst (t.fallen_watch siteS old .lost)).trans ?_
  rw [if_pos (by simp)]
  rfl

/-- A transition adds nothing to those still to be seen: `State.change` does. -/
theorem State.transit_changes (s : State) (d : Decision) : (s.transit d).changes = s.changes := by
  have of_watch {t u : State} (h : u.watch = t.watch) : u.changes = t.changes := congrArg Prod.snd h
  have fallen (t : State) (n : SiteId) (old to_ : SiteState) : (t.fallen n old to_).changes = t.changes := by
    rw [of_watch (t.fallen_watch n old to_)]
    split <;> rfl
  unfold State.transit
  generalize d.resolve s.sites[d.site] = e
  dsimp only
  split
  · rfl
  · split
    case h_1 => exact fallen (s.setSite e.site fun x => x.enter e.to_ e.cause s.cue) _ _ _
    case h_2 => exact fallen (s.setSite e.site fun x => x.enter e.to_ e.cause s.cue) _ _ _
    case h_3 =>
      refine (of_watch (State.untrain_watch _ e.site)).trans ?_
      split <;> rfl
    case h_4 =>
      split
      · show (State.renewed _ _ _).changes = _
        exact State.renewed_changes _ _ _
      · exact State.renewed_changes _ _ _
    all_goals rfl

/-! ### The service module loses its power and has it again (14 R354, R358) -/

theorem transits_lost {x : SiteState} (h : x.powered = true) : transits x .lost = true := by
  revert h
  cases x <;> decide

theorem State.transit_siteS_lost (s : State) (cue : Nat) (cause : BitVec 8) (h : (s.sites[siteS]).state.powered = true) :
    (s.transit ⟨cue, siteS, .lost, cause, false⟩).fw.mode = .off := by
  have step : s.transit ⟨cue, siteS, .lost, cause, false⟩ =
      (s.setSite siteS fun x => x.enter .lost cause s.cue).fallen siteS (s.sites[siteS]).state .lost := by
    unfold State.transit
    rw [Decision.resolve_decided _ _ rfl]
    exact if_neg (by rw [transits_lost h]; decide)
  rw [step, State.fallen_siteS_lost]
  rfl

theorem State.transit_siteS_powering (s : State) (cue : Nat) (cause : BitVec 8) (h : transits (s.sites[siteS]).state .powering = true)
    (hoff : s.fw.mode = .off) (htorn : s.fw.torn = true) : (s.transit ⟨cue, siteS, .powering, cause, false⟩).fw.mode = .recovery := by
  unfold State.transit
  rw [Decision.resolve_decided _ _ rfl]
  dsimp only
  rw [if_neg (by rw [h]; decide), State.renewed_fw, if_pos ⟨rfl, hoff⟩]
  show (Firmware.boot (State.renewed _ _ _).fw _).mode = _
  rw [State.renewed_fw, Firmware.boot]
  simp [State.setSite, htorn]

/-! ### Cold start, recovery, restart (14 R354, R358) -/

theorem Firmware.boot_mode (f : Firmware) (draw : Nat) :
    (f.boot draw).mode = if f.strap = false ∧ f.torn = false ∧ f.imageGood f.flash = true then .running else .recovery := by
  simp only [Firmware.boot, Bool.and_eq_true, Bool.not_eq_true', and_assoc]

theorem Firmware.boot_running_iff (f : Firmware) (draw : Nat) :
    (f.boot draw).mode = .running ↔ f.strap = false ∧ f.torn = false ∧ f.imageGood f.flash = true := by
  rw [Firmware.boot_mode]
  split <;> simp [*]

theorem Firmware.boot_starts (f : Firmware) (draw : Nat) : (f.boot draw).mode = .running ∨ (f.boot draw).mode = .recovery := by
  rw [Firmware.boot_mode]
  split
  · exact .inl rfl
  · exact .inr rfl

/-- The machine at a cold start, before its mask ROM runs (14 R354). -/
def State.coldStarted (s : State) (strap : Bool) : State :=
  { State.reset with
    inputs := s.inputs
    free := s.free
    sites := s.sites.map Site.cold
    hostMem := s.hostMem
    busCv := s.busCv
    deckWatts := s.deckWatts
    outlet := s.outlet
    inlet := s.inlet
    fw := { s.fw with strap := strap } }

theorem State.coldStarted_seated (s : State) (strap : Bool) :
    (s.coldStarted strap).serviceSeated = ((s.sites[siteS]).present && (s.sites[siteS]).clamp) := by
  simp [State.serviceSeated, State.coldStarted, Site.cold, Site.reset]

theorem exec_deckColdStart (s : State) (strap : Bool) : exec (.deckColdStart strap) s =
    .next (if (s.coldStarted strap).serviceSeated = true then (s.coldStarted strap).bootService else (s.coldStarted strap).serviceOff) := rfl

theorem State.loadService_fw (s : State) : s.loadService.fw = s.fw := by
  unfold State.loadService
  dsimp only
  split <;> rfl

theorem State.resetService_fw (s : State) : s.resetService.fw = s.fw.boot s.free := by
  refine (State.serviceBack_fw _ _).trans ?_
  split
  · exact State.loadService_fw _
  · rfl

theorem State.resetService_mem (s : State) : s.resetService.mem = s.mem := congrArg Prod.fst s.resetService_stores

theorem State.recovers_iff (s : State) : s.recovers = true ↔ s.fw.mode = .recovery ∧ (s.sites[siteS]).present = true ∧
    (s.sites[siteS]).clamp = true ∧ (s.sites[siteS]).lossCue = none ∧ s.stopped = false := by
  simp [State.recovers, State.serviceSeated, and_assoc]

theorem exec_recoveryImageWrite (s : State) (len : BitVec 64) : exec (.recoveryImageWrite len) s =
    .next (if s.recovers = true ∧ s.fw.imageGood (memBytes s.fw.window 0 len.toNat) = true
      then ({ s with fw := { s.fw with flash := memBytes s.fw.window 0 len.toNat, torn := false } } : State).resetService else s) := by
  show execRecoveryImageWrite len s = _
  unfold execRecoveryImageWrite
  cases s.recovers <;> simp

/-- The stage manager runs its new code (14 R358). -/
def State.restarted (s : State) : State := { s with fw := { s.fw with mode := .running, secVersion := Config.imageVersion s.fw.flash } }

theorem exec_firmwareRestart {s : State} {c : Nat} (h : s.fw.mode = .restarting c) :
    exec .firmwareRestart s = .next (s.restarted.serviceBack false).keepArea := by
  show execFirmwareRestart s = _
  simp only [execFirmwareRestart, h]
  rfl

/-- A site of the stage manager that has come back has no message waiting toward it, and its permits. -/
theorem State.serviceBack_site {s : State} (hup : s.serviceUp = true) (m : SiteId) : (((s.serviceBack false).sites[m]).waitingMsgs[(1 : Fin 2)] = 0 ∧
    ((s.serviceBack false).sites[m]).permits[(1 : Fin 2)] = 16) ∧ ((s.serviceBack false).sites[m]).permitSince[(1 : Fin 2)] = none := by
  have back := s.serviceBack_recorded false
  rw [if_pos (by rw [hup]; rfl)] at back
  obtain ⟨r, d, hm⟩ := back.2 m
  rw [hm]
  exact s.flushPosts.takeWaiting_site m

/-! ### Update, owner keys, attestation (14 R356 to R358) -/

section
variable {s : State} (ha : s.accepts = true)
include ha

theorem exec_firmwareUpdate_begins (h1 : s.fw.updStat ≠ 1) (h2 : s.fw.updStat ≠ 2) (len : BitVec 64) : exec (.firmwareUpdate len) s =
    .next { s with fw := { s.fw with updStat := 1, update := memBytes s.fw.window 0 len.toNat } } := by
  show execFirmwareUpdate len s = _
  simp only [execFirmwareUpdate, State.startUpdate, ha, if_neg h1, if_neg h2, beq_false_of_ne h1, beq_false_of_ne h2, Bool.not_true, Bool.or_false,
    Bool.false_eq_true, if_false]

theorem exec_firmwareUpdate_verified (h1 : s.fw.updStat = 1) (len : BitVec 64) : exec (.firmwareUpdate len) s =
    .next (if s.fw.imageGood s.fw.update = true then { s with fw := { s.fw with updStat := 2, torn := true } }
      else { s with fw := { s.fw with updStat := 3 } }) := by
  show execFirmwareUpdate len s = _
  simp only [execFirmwareUpdate, ha, h1, Bool.not_true, Bool.false_eq_true, if_false, if_true]

theorem exec_firmwareUpdate_written (h2 : s.fw.updStat = 2) (len : BitVec 64) : exec (.firmwareUpdate len) s =
    .next { s with fw := { s.fw with flash := s.fw.update, torn := false, updStat := 4, mode := .restarting s.cue } } := by
  show execFirmwareUpdate len s = _
  have h1 : ¬s.fw.updStat = 1 := by rw [h2]; decide
  simp only [execFirmwareUpdate, ha, if_neg h1, if_pos h2, Bool.not_true, Bool.false_eq_true, if_false]

theorem exec_ownerKeyEnrolment (rec : FlashRecord) : exec (.ownerKeyEnrolment rec) s =
    .next (if s.fw.jumper = true ∧ s.fw.ownerOk rec = true then ({ s with free := s.free + 1 }.withRecords
      { s.fw with records := s.fw.records ++ [rec], nonce := BitVec.ofNat 512 (Config.freeNat s.free) }).keepArea else s) := by
  show execOwnerKeyEnrolment rec s = _
  simp only [execOwnerKeyEnrolment, ha, Bool.true_and, Bool.and_eq_true]

theorem exec_attestationReport (nonce : BitVec 512) : exec (.attestationReport nonce) s = .next { s with fw := { s.fw with
    report := s.attested nonce ++ Config.identitySign (s.sites[siteS]).chip s.fw.helper (Config.sha3 (s.attested nonce)) } } := by
  show execAttestationReport nonce s = _
  simp only [execAttestationReport, ha, if_true]

end

theorem Firmware.imageGood_iff (f : Firmware) (img : List Byte) : f.imageGood img = true ↔
    f.signedBy (Config.sha3 img) (Config.imageSignature img) = true ∧ f.minVersion ≤ (Config.imageVersion img).toNat := by
  simp only [Firmware.imageGood, Bool.and_eq_true, decide_eq_true_eq]

theorem Firmware.ownerOk_of_other (f : Firmware) {r : FlashRecord} (h : r.typ ≠ 2) : f.ownerOk r = false := by
  simp [Firmware.ownerOk, h]

/-! ### Command links (14 R355) -/

/-- Whether the sender of a command link is there, and whether its receiver is. -/
def State.sends (s : State) (n : SiteId) (up : Bool) : Bool := if up then (s.sites[n]).state.powered && !(s.sites[n]).mute else s.serviceThere
def State.acts (s : State) (n : SiteId) (up : Bool) : Bool := if up then s.serviceThere else (s.sites[n]).state.powered && !(s.sites[n]).mute

theorem exec_commandLinkMessage (s : State) (n : SiteId) (up : Bool) : exec (.commandLinkMessage n up) s = .next (
    if !s.sends n up then s
    else if s.acts n up = true then s.setSite n fun x => { x with
      permits := x.permits.set (dirOf up) 16, permitSince := x.permitSince.set (dirOf up) none, waitingMsgs := x.waitingMsgs.set (dirOf up) 0 }
    else if 0 < (s.sites[n]).permits[dirOf up] then
      s.setSite n fun x => { x with permits := x.permits.set (dirOf up) (x.permits[dirOf up] - 1) }
    else s.setSite n fun x => { x with
      waitingMsgs := x.waitingMsgs.set (dirOf up) (x.waitingMsgs[dirOf up] + 1)
      permitSince := x.permitSince.set (dirOf up) ((x.permitSince[dirOf up]).orElse fun _ => some s.cue) }) := rfl

theorem exec_commandLinkPermitTimeout {s : State} {n m : SiteId} {up : Bool} {c : Nat} (hm : m = if up then siteS else n)
    (hthere : if up then (s.sites[m]).state.up = true ∧ s.fw.mode.restarts = false else (s.sites[m]).state.powered = true)
    (hl : s.losing m 3 = false) (hw : 0 < (s.sites[n]).waitingMsgs[dirOf up]) (hc : (s.sites[n]).permitSince[dirOf up] = some c)
    (hlong : c + 2 ^ 20 ≤ s.cue) : exec (.commandLinkPermitTimeout n up) s = .next (s.silent m) := by
  have away : (if up then (s.sites[m]).state.up && !s.fw.mode.restarts else (s.sites[m]).state.powered) = true := by
    cases up with
    | true => simpa only [if_true, Bool.and_eq_true, Bool.not_eq_true'] using hthere
    | false => exact hthere
  have late : (some c).any (fun c => decide (c + 2 ^ 20 ≤ s.cue)) = true := by
    rw [Option.any_some]
    exact decide_eq_true hlong
  subst hm
  refine congrArg Host.Outcome.next (if_pos ?_)
  rw [away, hl, decide_eq_true hw, hc, late]
  rfl

/-- A module found silent is lost within 8,192 cycles. -/
theorem State.silent_within (s : State) (n : SiteId) : ∃ k : Nat, k ≤ 8192 ∧
    s.silent n = { s with free := s.free + 1 }.lose n .lost 3 ((s.sites[n]).keepAlive + 4096) (s.cue + k) :=
  ⟨Config.freeNat s.free % 8193, Nat.le_of_lt_succ (Nat.mod_lt _ (by decide)), rfl⟩

end Sys2Proof.Machine

open Sys2Proof Sys2Proof.Machine

/-- Settles O60: each step of the service module is one equation of its event (`exec_firmwareUpdate_begins` and its kin); what a start, a restart
and a loss of power leave of it is `Firmware.boot_mode`, `State.serviceBack_fw` and `State.transit_siteS_lost`. -/
theorem firmwareEvents : Obligations.FirmwareEvents := by
  unfold Obligations.FirmwareEvents
  intro s len v rec nonce n up strap
  refine ⟨?cold, s.recovers_iff, fun hr => ?recovery, fun hr => ?away, fun ha => ⟨fun h1 h2 => exec_firmwareUpdate_begins ha h1 h2 len,
    fun h1 => exec_firmwareUpdate_verified ha h1 len, fun h2 => exec_firmwareUpdate_written ha h2 len, fun hj => ?enrolled, fun hj => ?open_,
    exec_attestationReport ha nonce⟩, fun c hc => ?restart, s.fw.imageGood_iff _, s.fw.ownerOk_of_other,
    fun cue cause => ⟨s.transit_siteS_lost cue cause, s.transit_siteS_powering cue cause⟩, ?link, ?permit⟩
  case cold =>
    refine ⟨_, exec_deckColdStart s strap, ?_⟩
    rw [s.coldStarted_seated strap]
    cases there : (s.sites[siteS]).present && (s.sites[siteS]).clamp with
    | true =>
      refine ⟨rfl, rfl, rfl, rfl, rfl, rfl, rfl, rfl, rfl, fun _ _ => ⟨Firmware.boot_starts _ _, Firmware.boot_running_iff _ _⟩, fun away => ?_⟩
      obtain ⟨hp, hc⟩ := Bool.and_eq_true_iff.mp there
      rw [hp, hc] at away
      exact away.elim nofun nofun
    | false =>
      refine ⟨rfl, rfl, rfl, rfl, rfl, rfl, rfl, rfl, rfl, fun hp hc => ?_, fun _ => rfl⟩
      rw [hp, hc] at there
      exact absurd there (by decide)
  case recovery =>
    rw [exec_recoveryImageWrite]
    split
    next good =>
      intro hstrap
      rw [if_pos ⟨hr, good⟩]
      refine ⟨_, rfl, ?_⟩
      rw [State.resetService_fw, State.resetService_mem]
      exact ⟨rfl, (Firmware.boot_running_iff _ _).mpr ⟨hstrap, rfl, good⟩, rfl⟩
    next bad => exact congrArg _ (if_neg fun h => bad h.2)
  case away => rw [exec_recoveryImageWrite, if_neg (by simp [hr])]
  case enrolled =>
    rw [exec_ownerKeyEnrolment ha]
    split
    next good =>
      rw [if_pos ⟨hj, good⟩]
      exact ⟨_, rfl, rfl, rfl, rfl, fun other => if_neg other, fun same => if_pos same⟩
    next bad => exact congrArg _ (if_neg fun h => bad h.2)
  case open_ => rw [exec_ownerKeyEnrolment ha, if_neg (by simp [hj])]
  case restart =>
    refine ⟨_, exec_firmwareRestart hc, ?_⟩
    have kept : (s.restarted.serviceBack false).keepArea.fw = s.restarted.fw := State.serviceBack_fw _ _
    rw [kept]
    refine ⟨rfl, rfl, rfl, congrArg Prod.fst (State.serviceBack_stores s.restarted false), fun hserving hloss m => ?_⟩
    have up : s.restarted.serviceUp = true := by
      show ((s.sites[siteS]).state.serving && (s.sites[siteS]).lossCue.isNone && decide (FwMode.running = .running)) = true
      rw [hserving, hloss]
      rfl
    obtain ⟨⟨messages, permits⟩, since⟩ := State.serviceBack_site up m
    exact ⟨messages, permits, since⟩
  case link =>
    have sent (hs : s.sends n up = true) : ¬(!s.sends n up) = true := by rw [hs]; decide
    have away (h : s.acts n up = false) : ¬s.acts n up = true := Bool.eq_false_iff.mp h
    have unsent (hs : s.sends n up = false) : (!s.sends n up) = true := by rw [hs]; rfl
    rw [exec_commandLinkMessage]
    refine ⟨fun hs hacts => ?acted, fun hs haway hp => ?permitTaken, fun hs haway hp hsince => ?waits, fun hs => congrArg _ (if_pos (unsent hs))⟩
    case acted => exact congrArg _ ((if_neg (sent hs)).trans (if_pos hacts))
    case permitTaken => exact congrArg _ ((if_neg (sent hs)).trans ((if_neg (away haway)).trans (if_pos hp)))
    case waits =>
      refine congrArg _ ((if_neg (sent hs)).trans ((if_neg (away haway)).trans ((if_neg (Nat.not_lt.mpr hp.le)).trans ?_)))
      refine State.setSite_congr ?_
      rw [show (s.sites[n]).permitSince[dirOf up] = none from hsince]
      rfl
  case permit =>
    intro c m hthere hl hw hc hlong
    obtain ⟨k, hk, silent⟩ := s.silent_within m
    exact ⟨k, hk, (exec_commandLinkPermitTimeout rfl hthere hl hw hc hlong).trans (congrArg _ silent)⟩

end

section
/-! SUPPORT. Decisions of the keeper (13 R327, R338), contacts and power stages (13 R322, R326), keep-alive (13 R327, R329). -/
namespace Sys2Proof.Machine

/-! ### Decisions (13 R326, R327, R338) -/

/-- A decision on record stands there, unless it gives way to a loss of its site at its cue. -/
theorem mem_addDecision {d : Decision} {l : List Decision}
    (h : d.isLoss = true ∨ ∀ x ∈ l, x.site = d.site → x.effect = d.effect → x.isLoss = false) : d ∈ addDecision d l := by
  have stands : ¬(!d.isLoss && l.any fun x => (x.site == d.site && x.effect == d.effect) && x.isLoss) = true := by
    obtain hd | hx := h
    · simp [hd]
    · simp only [Bool.and_eq_true, List.any_eq_true, beq_iff_eq, not_and, not_exists]
      rintro - x hx' ⟨hsite, heff⟩
      simp [hx x hx' hsite heff]
  unfold addDecision
  exact (if_neg stands).symm ▸ List.mem_append_right _ (List.mem_cons_self ..)

theorem State.mem_decide {s : State} {d : Decision} (hk : s.kept = true)
    (h : d.isLoss = true ∨ ∀ x ∈ s.decisions, x.site = d.site → x.effect = d.effect → x.isLoss = false) : d ∈ (s.decide_ d).decisions := by
  rw [State.decide_, if_pos hk]
  exact mem_addDecision h

theorem State.judge_sites (s : State) (n : SiteId) (to_ : SiteState) (cause : BitVec 8) : (s.judge n to_ cause).sites = s.sites :=
  s.decide_sites _

/-- Whether there is a keeper rests on the states of the sites and on the firmware. -/
theorem State.kept_congr {s t : State} (hfw : t.fw = s.fw) (hsites : ∀ n : SiteId, (t.sites[n]).state = (s.sites[n]).state) : t.kept = s.kept := by
  simp only [State.kept, State.rootSite, hfw, hsites]

/-- The machine with the loss cue of a site set, and its release no longer to come (13 R329, R338). -/
def State.sensed (s : State) (n : SiteId) (l : Nat) : State :=
  { s.setSite n fun x => { x with lossCue := some ((x.lossCue.map (min l)).getD l) } with
    decisions := s.decisions.filter fun d => !(d.site == n && d.to_ == SiteState.released) }

theorem State.sensed_self (s : State) (n : SiteId) (l : Nat) :
    (s.sensed n l).sites[n] = { s.sites[n] with lossCue := some (((s.sites[n]).lossCue.map (min l)).getD l) } :=
  s.setSite_self n fun x => { x with lossCue := some ((x.lossCue.map (min l)).getD l) }

theorem State.sensed_other (s : State) {n m : SiteId} (l : Nat) (h : m ≠ n) : (s.sensed n l).sites[m] = s.sites[m] :=
  s.setSite_other n m (fun x => { x with lossCue := some ((x.lossCue.map (min l)).getD l) }) h

theorem State.sensed_kept (s : State) (n : SiteId) (l : Nat) : (s.sensed n l).kept = s.kept := by
  refine State.kept_congr rfl fun m => ?_
  by_cases hm : m = n
  · subst hm
    rw [State.sensed_self]
  · rw [State.sensed_other s l hm]

theorem State.lose_lossCue (s : State) (n : SiteId) (to_ : SiteState) (cause : BitVec 8) (l a : Nat) :
    ((s.lose n to_ cause l a).sites[n]).lossCue = some (((s.sites[n]).lossCue.map (min l)).getD l) := by
  have sites : (s.lose n to_ cause l a).sites = (s.sensed n l).sites := State.decide_sites _ _
  rw [sites, State.sensed_self]

theorem State.mem_lose {s : State} (hk : s.kept = true) (n : SiteId) {to_ : SiteState} (hto : to_ = .lost ∨ to_ = .faulted) (cause : BitVec 8)
    (l a : Nat) : ⟨a + 4096, n, to_, cause, false⟩ ∈ (s.lose n to_ cause l a).decisions := by
  refine State.mem_decide (s := s.sensed n l) ((s.sensed_kept n l).trans hk) (.inl ?_)
  obtain rfl | rfl := hto <;> rfl

/-! ### Contacts (13 R326) -/

variable {s : State} {n : SiteId}

/-- A time that has passed since a moment on record. -/
theorem any_passed {o : Option Nat} {c k cue : Nat} (ho : o = some c) (h : c + k ≤ cue) : (o.any fun c => decide (c + k ≤ cue)) = true := by
  rw [ho, Option.any_some]
  exact decide_eq_true h

theorem none_passed {o : Option Nat} {cue : Nat} (h : ∀ c, o = some c → cue < c) : (o.any fun c => decide (c ≤ cue)) = false := by
  cases o with
  | none => rfl
  | some c => exact decide_eq_false (Nat.not_le.mpr (h c rfl))

theorem exec_presenceClampClosed {c : Nat} (hx : (s.sites[n]).state = .empty) (ha : s.awaits n .seated = false)
    (hc : (s.sites[n]).closedSince = some c) (hlong : c + 2 ^ 22 ≤ s.cue) : exec (.presenceClampClosed n) s = .next (s.judge n .seated 0) :=
  congrArg Host.Outcome.next (if_pos ⟨hx, by rw [ha]; rfl, any_passed hc hlong⟩)

theorem exec_presenceOpenFor222Cycles {c : Nat} (hx : (s.sites[n]).state = .lost ∨ (s.sites[n]).state = .faulted) (ha : s.awaits n .empty = false)
    (hc : (s.sites[n]).openSince = some c) (hlong : c + 2 ^ 22 ≤ s.cue) : exec (.presenceOpenFor222Cycles n) s = .next (s.judge n .empty 0) :=
  congrArg Host.Outcome.next (if_pos ⟨hx, by rw [ha]; rfl, any_passed hc hlong⟩)

theorem exec_presenceOpen (h : (s.sites[n]).present = true) : exec (.presenceOpen n) s = .next ((s.setSite n fun x => { x with
    present := false, module := 0, closedSince := none, openSince := some s.cue }).opened n 1) :=
  congrArg Host.Outcome.next (if_neg (by rw [h]; decide))

theorem exec_clampOpen (h : (s.sites[n]).clamp = true) :
    exec (.clampOpen n) s = .next ((s.setSite n fun x => { x with clamp := false, closedSince := none }).opened n 2) :=
  congrArg Host.Outcome.next (if_neg (by rw [h]; decide))

/-- An opening under power loses the site from now on; the decision comes within 12,288 cycles (log 40). -/
theorem State.opened_of_powered (h : (s.sites[n]).state.powered = true) (cause : BitVec 8) : ∃ k : Nat, k ≤ 12288 ∧
    s.opened n cause = { s with free := s.free + 1 }.loseBy n .lost cause s.cue (s.cue + k) true :=
  ⟨Config.freeNat s.free % 12289, Nat.le_of_lt_succ (Nat.mod_lt _ (by decide)), if_pos h⟩

/-! ### Power (13 R322, R323, R326) -/

theorem exec_powerGood (hp : s.inPhase n .powering = true) (hstage : (s.sites[n]).stage = true) (hsoon : s.cue < (s.sites[n]).phaseSince + 2 ^ 26) :
    exec (.powerGood n) s = .next (s.judge n .testing 0) :=
  congrArg Host.Outcome.next (if_pos (by rw [hp, hstage, decide_eq_true hsoon]; rfl))

theorem exec_powerGood_open (hstage : (s.sites[n]).stage = false) : exec (.powerGood n) s = .next s :=
  congrArg Host.Outcome.next (if_neg (by rw [hstage, Bool.and_false, Bool.false_and]; exact Bool.false_ne_true))

theorem exec_phaseTimeLimit {limit : Nat} {cause : BitVec 8} (hl : phaseLimit (s.sites[n]).state = some (limit, cause))
    (hp : s.inPhase n (s.sites[n]).state = true) (hlong : (s.sites[n]).phaseSince + limit ≤ s.cue) :
    exec (.phaseTimeLimit n) s = .next (s.judge n .faulted cause) := by
  show execPhaseTimeLimit n s = _
  simp only [execPhaseTimeLimit, hl, hp, hlong, decide_true, Bool.and_self, if_true]

section
variable (hstage : (s.sites[n]).stage = true)
include hstage

theorem exec_powerStageTrip_opens {c : Nat} (ho : (s.sites[n]).openAt = some c) (hc : c ≤ s.cue) :
    exec (.powerStageTrip n) s = .next (s.setSite n fun x => x.dark.railsOff) := by
  have opens : (s.sites[n]).openAt.any (fun c => decide (c ≤ s.cue)) = true := any_passed (k := 0) ho hc
  show execPowerStageTrip n s = _
  simp only [execPowerStageTrip, hstage, opens, Bool.not_true, Bool.false_eq_true, if_false, if_true]

variable (hshut : ∀ c, (s.sites[n]).openAt = some c → s.cue < c)
include hshut

theorem exec_powerStageTrip_tripped (ht : (s.sites[n]).tripped = true) : exec (.powerStageTrip n) s = .next s := by
  have shut : (s.sites[n]).openAt.any (fun c => decide (c ≤ s.cue)) = false := none_passed hshut
  show execPowerStageTrip n s = _
  simp only [execPowerStageTrip, hstage, shut, ht, Bool.not_true, Bool.false_eq_true, if_false, if_true]

theorem exec_powerStageTrip_trips (ht : (s.sites[n]).tripped = false) : ∃ k : Nat, k ≤ 40000 ∧
    exec (.powerStageTrip n) s = .next (if (s.sites[n]).state.powered = true
      then ({ s with free := s.free + 1 }.setSite n fun x => x.trip (s.cue + k)).lose n .faulted 6 s.cue s.cue
      else { s with free := s.free + 1 }.setSite n fun x => x.trip (s.cue + k)) := by
  have shut : (s.sites[n]).openAt.any (fun c => decide (c ≤ s.cue)) = false := none_passed hshut
  refine ⟨Config.freeNat s.free % 40001, Nat.le_of_lt_succ (Nat.mod_lt _ (by decide)), ?_⟩
  show execPowerStageTrip n s = _
  simp only [execPowerStageTrip, hstage, shut, ht, Bool.not_true, Bool.false_eq_true, if_false]

end

theorem Site.trip_openAt (x : Site) (a : Nat) : ∃ c, (x.trip a).openAt = some c ∧ c ≤ a ∧ ∀ o, x.openAt = some o → c ≤ o := by
  refine ⟨_, rfl, ?_⟩
  cases x.openAt with
  | none => exact ⟨Nat.le_refl a, nofun⟩
  | some o => exact ⟨Nat.min_le_left a o, fun p hp => Option.some.inj hp ▸ Nat.min_le_right a o⟩

theorem Site.dark_railsOff_island (x : Site) (q : Fin 4) (i : Fin 32) : ((x.dark.railsOff.regions[q]).islands[i]).vset = 0 ∧
    ((x.dark.railsOff.regions[q]).islands[i]).vmeas = 0 := by
  simp [Site.railsOff, Site.dark, Island.off]

theorem exec_fatalModuleError (h : (s.sites[n]).state.up = true) : exec (.fatalModuleError n) s = .next (s.lose n .faulted 12 s.cue s.cue) :=
  congrArg Host.Outcome.next (if_pos h)

/-! ### Keep-alive (13 R327, R329) -/

theorem exec_keepAliveSend (hx : (s.sites[n]).state.powered = true) (hm : (s.sites[n]).mute = false) :
    exec (.keepAliveSend n) s = .next (s.setSite n fun x => { x with keepAlive := s.cue }) :=
  congrArg Host.Outcome.next (if_pos (by rw [hx, hm]; rfl))

theorem exec_keepAliveSend_mute (hm : (s.sites[n]).mute = true) : exec (.keepAliveSend n) s = .next s :=
  congrArg Host.Outcome.next (if_neg (by rw [hm, Bool.not_true, Bool.and_false]; decide))

theorem exec_keepAliveSilence (hx : (s.sites[n]).state.powered = true) (hl : s.losing n 3 = false)
    (hlong : (s.sites[n]).keepAlive + 256000 ≤ s.cue) : exec (.keepAliveSilence n) s = .next (s.silent n) :=
  congrArg Host.Outcome.next (if_pos (by rw [hx, hl, decide_eq_true hlong]; rfl))

/-- A mute module's window is a hole from 4,096 cycles after its last keep-alive. -/
theorem State.siteHole_of_mute (hx : (s.sites[n]).state.powered = true) (hm : (s.sites[n]).mute = true)
    (hlong : (s.sites[n]).keepAlive + 4096 ≤ s.cue) : s.siteHole n = true := by
  have loss : s.lossOf n = some (((s.sites[n]).lossCue.map (min ((s.sites[n]).keepAlive + 4096))).getD ((s.sites[n]).keepAlive + 4096)) :=
    if_pos (by rw [hm, hx]; rfl)
  have past : s.pastLoss n = true := by
    rw [State.pastLoss, loss, Option.any_some, decide_eq_true_eq]
    cases (s.sites[n]).lossCue with
    | none => exact hlong
    | some l => exact (Nat.min_le_left _ l).trans hlong
  rw [State.siteHole, past, Bool.or_true]

end Sys2Proof.Machine

end

section
/-! SUPPORT. Self-test (12 R305; 15 R367, R368), link training and admission (13 R328). -/
namespace Sys2Proof.Machine

/-! ### Memory cleared (10 R265, R267) -/

theorem memGet_memClear (m : Memory) {a n b : Nat} (hlo : a ≤ b) (hhi : b < a + n) : memGet (memClear m a n) b = 0 := by
  induction m with
  | nil => rfl
  | cons c r ih =>
    unfold memClear at ih ⊢
    rw [List.filter_cons]
    split
    next out =>
      have other : c.1 ≠ b := by
        simp only [Bool.or_eq_true, decide_eq_true_eq] at out
        omega
      exact (if_neg other).trans ih
    next => exact ih

/-! ### Self-test (15 R367, R368) -/

variable {s : State} {n : SiteId}

/-- The module of a site past a self-test: its regions, and the firmware its leaf controller holds. -/
def Site.tested (x : Site) (n : SiteId) (o : TestOutcome) (flash : List Byte) : Site :=
  let es := if isCompute n then o.entries else o.entries.filter fun e => moduleUnit e.unit
  let pass := !testFails o && o.recordOk && o.firmwareOk
  { x with
    regions := if isCompute n then x.regions.mapFinIdx fun i r h => r.tested es ⟨i, h⟩ pass else x.regions
    leaf := if o.firmwareOk then Config.leafDigest flash else x.leaf }

/-- The machine past a self-test of a site, its report written. -/
def State.tested (s : State) (n : SiteId) (o : TestOutcome) (words : List W64) : State :=
  let t := (s.setSite n fun x => x.tested n o s.fw.flash).clearWeights n
  (if isCompute n then t.keepCard n else t).setSite n fun x => { x with report := words }

/-- The outcome of a self-test decides where its site goes, and with which cause (13 R326). -/
theorem judge_outcome (t : State) (n : SiteId) (o : TestOutcome) :
    (if testFails o then t.judge n .faulted 7 else if !o.recordOk then t.judge n .faulted 8 else if !o.firmwareOk then t.judge n .faulted 14
      else t.judge n .training 0) = t.judge n (if testFails o ∨ o.recordOk = false ∨ o.firmwareOk = false then .faulted else .training)
        (if testFails o then 7 else if o.recordOk = false then 8 else if o.firmwareOk = false then 14 else 0) := by
  cases testFails o <;> cases o.recordOk <;> cases o.firmwareOk <;> rfl

theorem exec_selfTest (hp : s.inPhase n .testing = true) (o : TestOutcome) : ∃ words : List W64, 2 ≤ words.length ∧
    exec (.selfTest n o) s = .next ((s.tested n o words).judge n
      (if testFails o ∨ o.recordOk = false ∨ o.firmwareOk = false then .faulted else .training)
      (if testFails o then 7 else if o.recordOk = false then 8 else if o.firmwareOk = false then 14 else 0)) := by
  refine ⟨_, ?_, congrArg Host.Outcome.next ((if_neg (by rw [hp]; decide)).trans (judge_outcome _ n o))⟩
  exact Nat.le_add_left 2 _

section
variable (s n) (o : TestOutcome) (words : List W64)

theorem State.tested_site : (s.tested n o words).sites[n] = { (s.sites[n]).tested n o s.fw.flash with report := words } := by
  have card (t : State) : (if isCompute n then t.keepCard n else t).sites = t.sites := by
    split <;> rfl
  have module : (s.setSite n fun x => x.tested n o s.fw.flash).sites[n] = (s.sites[n]).tested n o s.fw.flash := State.setSite_self _ _ _
  rw [State.tested, State.setSite_self, card, ← module]
  rfl

theorem State.tested_weights {a : Nat} (hlo : n.val * 4 * 16 * 17 * 0x400000 ≤ a) (hhi : a < (n.val + 1) * 4 * 16 * 17 * 0x400000) :
    memGet (s.tested n o words).weights a = 0 := by
  have cleared : (s.tested n o words).weights = memClear s.weights (weightSpan n).1 (weightSpan n).2 := by
    unfold State.tested
    dsimp only
    split <;> rfl
  rw [cleared]
  refine memGet_memClear _ hlo ?_
  simp only [weightSpan, Config.weightBytes]
  omega

variable (hn : isCompute n = true)
include hn

theorem State.tested_region (q : Fin 4) : ((s.tested n o words).sites[n]).regions[q] =
    ((s.sites[n]).regions[q]).tested o.entries q (!testFails o && o.recordOk && o.firmwareOk) := by
  rw [State.tested_site]
  simp only [Site.tested, hn, if_true, Fin.getElem_fin, Vector.getElem_mapFinIdx]

/-- The maps stay with the module: its record is the first under its number. -/
theorem State.tested_cardOf : (s.tested n o words).cardOf (s.sites[n]).chip = ((s.tested n o words).sites[n]).regions.map (·.record) := by
  have module : ((s.setSite n fun x => x.tested n o s.fw.flash).clearWeights n).sites[n] = (s.sites[n]).tested n o s.fw.flash :=
    s.setSite_self n fun x => x.tested n o s.fw.flash
  have chip : ((s.sites[n]).tested n o s.fw.flash).chip = (s.sites[n]).chip := rfl
  rw [State.tested_site, State.tested, if_pos hn]
  show ((List.find? _ ((_, _) :: _)).map _).getD _ = _
  rw [module, chip, List.find?_cons_of_pos (by exact beq_self_eq_true _)]
  rfl

end

/-! ### The maps a self-test writes (15 R368) -/

section
variable {s : State} {n : SiteId} (r : Region) (es : List TestEntry) (q : Fin 4) (pass : Bool)

theorem Region.tested_record : (r.tested es q pass).record = mapOf es q := by
  cases pass <;> rfl

theorem Region.tested_defects : (r.tested es q pass).defects = if pass then mapOf es q else r.defects := by
  cases pass <;> rfl

/-- A self-test passes where nothing of its outcome fails. -/
theorem passes_iff (o : TestOutcome) :
    (!testFails o && o.recordOk && o.firmwareOk) = true ↔ ¬(testFails o ∨ o.recordOk = false ∨ o.firmwareOk = false) := by
  cases testFails o <;> cases o.recordOk <;> cases o.firmwareOk <;> decide

variable (o : TestOutcome) (words : List W64) (hn : isCompute n = true)

theorem State.tested_report : ((s.tested n o words).sites[n]).report = words := by
  rw [State.tested_site]

include hn in
theorem State.tested_defects : (((s.tested n o words).sites[n]).regions[q]).defects =
    if testFails o ∨ o.recordOk = false ∨ o.firmwareOk = false then ((s.sites[n]).regions[q]).defects else mapOf o.entries q := by
  rw [State.tested_region s n o words hn, Region.tested_defects]
  by_cases hf : testFails o ∨ o.recordOk = false ∨ o.firmwareOk = false
  · rw [if_pos hf, if_neg fun hp => (passes_iff o).mp hp hf]
  · rw [if_neg hf, if_pos ((passes_iff o).mpr hf)]

end

/-! ### Link training (13 R328) -/

/-- One link of a site trains, and its peer's end with it. -/
def State.trainLink (s : State) (n : SiteId) (p : Fin 8) : State :=
  match linkPeer ⟨n, p⟩ with
  | some y =>
    let s := s.setSite n fun x => { x with links := (x.links ++ [p]).eraseDups }
    let s := s.setSite y.site fun x => { x with links := (x.links ++ [y.port]).eraseDups }
    { s with linksOut := s.linksOut.filter fun l => l != ⟨n, p⟩ && l != y }
  | none => s

theorem State.trainLinks_eq (s : State) (n : SiteId) (ps : List (Fin 8)) : s.trainLinks n ps = ps.foldl (fun t p => t.trainLink n p) s := rfl

/-- A site with a link added has it, and those it had. -/
theorem State.links_addLink (s : State) (n m : SiteId) (p q : Fin 8) (h : (m = n ∧ q = p) ∨ q ∈ (s.sites[m]).links) :
    q ∈ ((s.setSite n fun x => { x with links := (x.links ++ [p]).eraseDups }).sites[m]).links := by
  by_cases hm : m = n
  · subst hm
    rw [State.setSite_self s m fun x => { x with links := (x.links ++ [p]).eraseDups }]
    show q ∈ (_ : List (Fin 8)).eraseDups
    rw [List.mem_eraseDups, List.mem_append, List.mem_singleton]
    exact h.symm.imp_right And.right
  · rw [s.setSite_other n m _ hm]
    exact h.resolve_left fun c => hm c.1

theorem State.links_trainLink {s : State} {n : SiteId} {p q : Fin 8} (h : (q = p ∧ (linkPeer ⟨n, p⟩).isSome = true) ∨ q ∈ (s.sites[n]).links) :
    q ∈ ((s.trainLink n p).sites[n]).links := by
  unfold State.trainLink
  split
  next y hy =>
    refine State.links_addLink _ y.site n y.port q (.inr (s.links_addLink n n p q ?_))
    exact h.imp_left fun c => ⟨rfl, c.1⟩
  next hnone =>
    refine h.resolve_left fun c => ?_
    rw [hnone] at c
    exact Bool.false_ne_true c.2

theorem State.links_trainLinks {s : State} {n : SiteId} {ps : List (Fin 8)} {p : Fin 8}
    (h : (p ∈ ps ∧ (linkPeer ⟨n, p⟩).isSome = true) ∨ p ∈ (s.sites[n]).links) : p ∈ ((s.trainLinks n ps).sites[n]).links := by
  rw [State.trainLinks_eq]
  induction ps generalizing s with
  | nil => exact h.resolve_left fun c => List.not_mem_nil c.1
  | cons r rs ih =>
    refine ih ?_
    obtain ⟨hmem, hpeer⟩ | hold := h
    · obtain rfl | hmem := List.mem_cons.mp hmem
      · exact .inr (State.links_trainLink (.inl ⟨rfl, hpeer⟩))
      · exact .inl ⟨hmem, hpeer⟩
    · exact .inr (State.links_trainLink (.inr hold))

/-- Where a site whose links have still to train comes to. -/
def State.trainsTo (s : State) (n : SiteId) : TrainOutcome → State
  | .noLink => s.judge n .faulted 9
  | .noTrim => s
  | .trained ps =>
    let ps := ps.filter (s.trainable n)
    if ps.isEmpty && n ≠ siteS && (List.finRange 8).any (s.trainable n) then s.judge n .faulted 9
    else s.linkTraining n ps

section
variable {s : State} {n : SiteId} (hp : s.inPhase n .training = true)
include hp

section
variable (ht : (s.sites[n]).trained = false)
include ht

theorem exec_admission_untrained (o : TrainOutcome) : exec (.admission n o) s = .next (s.trainsTo n o) := by
  refine congrArg Host.Outcome.next ((if_neg (by rw [hp]; decide)).trans ((if_neg (by rw [ht]; decide)).trans ?_))
  cases o <;> rfl

theorem exec_admission_trained {ps : List (Fin 8)} (h : ∃ p ∈ ps, s.trainable n p = true) :
    exec (.admission n (.trained ps)) s = .next (s.linkTraining n (ps.filter (s.trainable n))) := by
  obtain ⟨p, hmem, hok⟩ := h
  have some : (ps.filter (s.trainable n)).isEmpty = false :=
    List.isEmpty_eq_false_iff_exists_mem.mpr ⟨p, List.mem_filter.mpr ⟨hmem, hok⟩⟩
  rw [exec_admission_untrained hp ht]
  exact congrArg Host.Outcome.next (if_neg (by rw [some]; exact Bool.false_ne_true))

end

variable (ht : (s.sites[n]).trained = true) (o : TrainOutcome)
include ht

theorem exec_admission_failed (hf : s.trimFailed n = true) : exec (.admission n o) s = .next (s.judge n .faulted 10) :=
  congrArg Host.Outcome.next ((if_neg (by rw [hp]; decide)).trans ((if_pos ht).trans (if_pos hf)))

theorem exec_admission_waits (hf : s.trimFailed n = false) (hw : s.trimDone n = false ∨ s.linksMeasured n = false) :
    exec (.admission n o) s = .next s := by
  refine congrArg Host.Outcome.next ((if_neg (by rw [hp]; decide)).trans ((if_pos ht).trans ((if_neg (by rw [hf]; decide)).trans (if_pos ?_))))
  obtain hw | hw := hw
  · rw [hw]; rfl
  · rw [hw, Bool.and_false]; rfl

/-- A site admitted: its window and its weights cleared, its regions mapped by their defects (10 R265, 12 R305). -/
def State.cleared (s : State) (n : SiteId) : State :=
  ((s.clearWindow n).clearWeights n).setSite n fun x => { x with regions := x.regions.map fun r => { r with mapped := r.defects, grade := r.gradeOf } }

theorem exec_admission_admits (hf : s.trimFailed n = false) (hd : s.trimDone n = true) (hm : s.linksMeasured n = true) (hn : n ≠ siteS) :
    exec (.admission n o) s = .next ((s.cleared n).judge n .admitted 0) := by
  refine congrArg Host.Outcome.next ((if_neg (by rw [hp]; decide)).trans ((if_pos ht).trans ((if_neg (by rw [hf]; decide)).trans
    ((if_neg (by rw [hd, hm]; decide)).trans ?_))))
  exact congrArg (State.judge · n .admitted 0) (if_neg hn)

end

theorem State.cleared_mem (s : State) (n : SiteId) {a : Nat} (hlo : n.val * 0x10000000000 ≤ a) (hhi : a < (n.val + 1) * 0x10000000000) :
    memGet (s.cleared n).mem a = 0 := by
  refine memGet_memClear s.mem hlo ?_
  rw [Config.siteWindow]
  omega

theorem State.cleared_mapped (s : State) (n : SiteId) (q : Fin 4) :
    (((s.cleared n).sites[n]).regions[q]).mapped = ((s.sites[n]).regions[q]).defects := by
  rw [State.cleared, State.setSite_self _ n fun x => { x with regions := x.regions.map fun r => { r with mapped := r.defects, grade := r.gradeOf } }]
  dsimp only
  rw [Fin.getElem_fin, Vector.getElem_map]
  rfl

/-! ### Trimming and links in admission (13 R328) -/

theorem mem_countersOf {n : SiteId} {q : Fin 4} (h : isCompute n = true ∨ q = 0) : (n, q) ∈ countersOf n := by
  unfold countersOf
  split
  next => exact List.mem_map.mpr ⟨q, List.mem_finRange q, rfl⟩
  next hn =>
    obtain h | rfl := h
    · exact absurd h hn
    · exact List.mem_cons_self ..

theorem State.trimDone_zeros {s : State} {n : SiteId} {q : Fin 4} {p : Parent} (hd : s.trimDone n = true) (hn : isCompute n = true)
    (hr : s.railLive n q = true) (hp : s.parentOf n q = some p) : 2 ≤ ((s.sites[n]).regions[q]).zeros := by
  have trimmed : (n, q) ∈ s.trimmed n := List.mem_filter.mpr ⟨mem_countersOf (.inl hn), by rw [hr, Bool.or_true]⟩
  have zeros := List.all_eq_true.mp hd (n, q) trimmed
  simp only [hp, decide_eq_true_eq] at zeros
  exact zeros

theorem State.linksMeasured_iff (s : State) (n : SiteId) :
    s.linksMeasured n = true ↔ ∀ l ∈ s.linksOf n, ((s.sites[n]).linkOfs[l.port]).isSome = true :=
  List.all_eq_true

theorem State.measureLink_linkOfs {s : State} {n : SiteId} {p : Fin 8} {y : SiteId × Fin 4} {t1 t2 t4 : W64} (hp : s.inPhase n .training = true)
    (ht : (s.sites[n]).trained = true) (hd : s.trimDone n = true) (hl : s.linkUp ⟨n, p⟩ = true) (hy : s.parentAt n (.link ⟨n, p⟩) = some y)
    (hfit : ofsFits (s.counter n (if isCompute n then linkRegion p else 0)) (s.counter y.1 y.2) t1 t2 t4 = true) :
    ((s.measureLink n p t1 t2 t4).sites[n]).linkOfs[p] = some (BitVec.ofInt 8 (trimD t1 t2 t4)) := by
  have measured : s.measureLink n p t1 t2 t4 =
      s.setSite n fun x => { x with linkOfs := x.linkOfs.set p (some (BitVec.ofInt 8 (trimD t1 t2 t4))) } := by
    unfold State.measureLink
    rw [hy]
    exact if_pos (by rw [hp, ht, hd, hl, hfit]; rfl)
  rw [measured, State.setSite_self s n fun x => { x with linkOfs := x.linkOfs.set p (some (BitVec.ofInt 8 (trimD t1 t2 t4))) }]
  exact Vector.getElem_set_self ..

end Sys2Proof.Machine

end

section
/-! SUPPORT. What a site keeps as it enters a state (13 R325, R326). -/
namespace Sys2Proof.Machine

/-- Rails without their stage: only the regions change. -/
theorem Site.railsOff_regions (x : Site) : ∃ r, x.railsOff = { x with regions := r } := by
  unfold Site.railsOff
  split
  · exact ⟨x.regions, rfl⟩
  · exact ⟨_, rfl⟩

variable (x : Site) (to_ : SiteState) (cause : BitVec 8) (cue : Nat)

/-- A site that enters a state is in it from now on, its epoch one higher where a module comes in from TRAINING, its trip kept. -/
theorem Site.enter_keeps : (x.enter to_ cause cue).state = to_ ∧ (x.enter to_ cause cue).phaseSince = cue ∧
    (x.enter to_ cause cue).tripped = x.tripped ∧
    (x.enter to_ cause cue).epoch = if x.state = .training ∧ to_ = .admitted then x.epoch + 1 else x.epoch := by
  have other (h : to_ ≠ .admitted) : (if x.state = .training ∧ to_ = .admitted then x.epoch + 1 else x.epoch) = x.epoch :=
    if_neg fun c => h c.2
  cases to_ with
  | admitted =>
    unfold Site.enter
    dsimp only
    split
    next ht => exact ⟨rfl, rfl, rfl, (if_pos ⟨ht, rfl⟩).symm⟩
    next ht => exact ⟨rfl, rfl, rfl, (if_neg fun c => ht c.1).symm⟩
  | lost | faulted =>
    obtain ⟨r, hr⟩ := Site.railsOff_regions { x with state := _, phaseSince := cue }
    rw [other (by decide)]
    dsimp only [Site.enter]
    rw [hr]
    exact ⟨rfl, rfl, rfl, rfl⟩
  | _ =>
    rw [other (by decide)]
    exact ⟨rfl, rfl, rfl, rfl⟩

end Sys2Proof.Machine
end

section
/-! SUPPORT. Commands of a site, transitions, and what the counters are told (13 R325 to R327). -/
namespace Sys2Proof.Machine

variable {s : State} {n : SiteId}

/-! ### Commands (13 R325, R326) -/

section
variable (hup : s.serviceUp = true)
include hup

theorem exec_cmdPower (hx : (s.sites[n]).state = .seated) :
    exec (.cmdPower n) s = .next (if s.awaits n .faulted then s else s.judge n .powering 0) :=
  congrArg Host.Outcome.next ((if_neg (by rw [hup]; decide)).trans (if_pos hx))

theorem exec_cmdPower_refused (hx : (s.sites[n]).state ≠ .seated) : exec (.cmdPower n) s = .next (s.cmdRefused n) :=
  congrArg Host.Outcome.next ((if_neg (by rw [hup]; decide)).trans (if_neg hx))

theorem exec_cmdDrain : exec (.cmdDrain n) s = .next (s.drain n) := congrArg Host.Outcome.next (if_pos hup)

theorem exec_cmdUndrain (hx : (s.sites[n]).state = .draining) :
    exec (.cmdUndrain n) s = .next (s.judge n (if s.inUse n then .active else .admitted) 0) :=
  congrArg Host.Outcome.next ((if_neg (by rw [hup]; decide)).trans (if_pos hx))

theorem exec_cmdUndrain_refused (hx : (s.sites[n]).state ≠ .draining) : exec (.cmdUndrain n) s = .next (s.cmdRefused n) :=
  congrArg Host.Outcome.next ((if_neg (by rw [hup]; decide)).trans (if_neg hx))

theorem exec_cmdReset (hx : (s.sites[n]).state.unplugged = true) (hp : (s.sites[n]).present = true) (hc : (s.sites[n]).clamp = true) :
    exec (.cmdReset n) s = .next ((s.setSite n fun x => { x with tripped := false }).judge n .powering 0) :=
  congrArg Host.Outcome.next ((if_neg (by rw [hup]; decide)).trans (if_pos ⟨hx, hp, hc⟩))

theorem exec_cmdReset_refused (h : ¬((s.sites[n]).state.unplugged = true ∧ (s.sites[n]).present = true ∧ (s.sites[n]).clamp = true)) :
    exec (.cmdReset n) s = .next (s.cmdRefused n) :=
  congrArg Host.Outcome.next ((if_neg (by rw [hup]; decide)).trans (if_neg h))

theorem exec_freshrdClear : exec (.freshrdClear n) s = .next (s.setSite n fun x => { x with freshRd := false }) :=
  congrArg Host.Outcome.next (if_pos hup)

end

theorem SiteState.unplugged_iff (x : SiteState) : x.unplugged = true ↔ x = .released ∨ x = .lost ∨ x = .faulted := by
  cases x <;> decide

/-- A drain of a site other than S (13 R326, R338). -/
theorem State.drain_of_ne_siteS (ho : s.openedNow n = false) (hn : n ≠ siteS) :
    s.drain n = if (s.sites[n]).state.serving = true then s.judge n .draining 0 else s.cmdRefused n := by
  unfold State.drain
  dsimp only
  rw [if_neg (Bool.eq_false_iff.mp ho), decide_eq_true hn]
  simp only [Bool.true_or, Bool.and_true]

/-! ### Where a decision on an opening leads (13 R326) -/

section
variable {d : Decision} {x : Site} (ho : d.opening = true)
include ho

theorem Decision.resolve_empties (h : x.state = .seated ∨ (x.state = .released ∧ d.cause = 1)) : (d.resolve x).to_ = .empty := by
  have empties : (x.state == .seated || (x.state == .released && d.cause == 1)) = true := by
    obtain h | ⟨h, hc⟩ := h
    · rw [h]; rfl
    · rw [h, hc]; rfl
  simp only [Decision.resolve, ho, empties, Bool.not_true, Bool.false_eq_true, if_false, if_true]

/-- An opening judged by the contacts: it loses a powered site whose contacts stand open, and changes no other. -/
theorem Decision.resolve_judges (he : d.to_ = .empty) (hs : x.state ≠ .seated) (hr : x.state = .released → d.cause ≠ 1) :
    (d.resolve x).to_ = if ((x.present && x.clamp) || !x.state.powered) = true then x.state else .lost := by
  have stays : ¬(x.state == .seated || (x.state == .released && d.cause == 1)) = true := by
    simp only [Bool.or_eq_true, beq_iff_eq, Bool.and_eq_true, not_or, not_and]
    exact ⟨hs, hr⟩
  rw [Decision.resolve, if_neg (by rw [ho]; decide), if_neg stays, if_pos (by rw [he]; rfl)]

end

theorem SiteState.powered_plugged {x : SiteState} (h : x.powered = true) : x ≠ .seated ∧ x ≠ .released := by
  constructor <;> rintro rfl <;> exact absurd h (by decide)

theorem transits_self (x : SiteState) : transits x x = false := by
  cases x <;> rfl

/-- An opening that the contacts do not bear out changes no site. -/
theorem State.transit_unborne {d : Decision} (ho : d.opening = true) (he : d.to_ = .empty) (hs : (s.sites[d.site]).state ≠ .seated)
    (hr : (s.sites[d.site]).state = .released → d.cause ≠ 1)
    (h : (((s.sites[d.site]).present && (s.sites[d.site]).clamp) || !(s.sites[d.site]).state.powered) = true) : s.transit d = s := by
  refine State.transit_void ?_
  rw [Decision.resolve_judges ho he hs hr, if_pos h, transits_self]

/-- Past a site's RELEASED, LOST or FAULTED state, no loss decided of it before stands (13 R326). -/
theorem State.renewed_noLoss {old : SiteState} (h : old = .released ∨ old = .lost ∨ old = .faulted) {y : Decision}
    (hy : y ∈ (s.renewed n old).decisions) (hn : y.site = n) : y.isLoss = false := by
  rw [State.renewed, if_neg (by rw [(SiteState.unplugged_iff old).mpr h]; decide)] at hy
  obtain ⟨x, -, rfl⟩ := List.mem_map.mp hy
  split
  next => rfl
  next other =>
    rw [if_neg other] at hn
    rw [hn, beq_self_eq_true, Bool.true_and] at other
    exact Bool.eq_false_iff.mpr other

/-! ### The step of the deck (13 R327) -/

section
variable (s)

/-- The machine past the decisions that are due, told to the counters. -/
def State.stepped (s : State) : State :=
  ((s.decisions.filter fun d => decide (d.effect ≤ s.firstCue)).foldl State.change
    { s with decisions := s.decisions.filter fun d => decide (s.firstCue < d.effect) }).tell

/-- The deck past a step: trees, mirror, queues, what SEATED sites come to, the queue area, islands and rejoins. -/
def State.settled (s t : State) : State :=
  (((s.decisions.filter fun d => decide (d.effect ≤ s.firstCue)).map (·.site)).eraseDups.foldl State.afterSeated
    ((s.retree t.tearFallen).holdMirror.serviceBack s.serviceUp)).keepArea.remap.restIslands.reuse.placeRejoins

theorem exec_siteTransitionEffect : exec .siteTransitionEffect s =
    .next (if (s.decisions.filter fun d => decide (d.effect ≤ s.firstCue)).isEmpty then s.tell else s.settled s.stepped) := by
  show execSiteTransitionEffect s = _
  unfold execSiteTransitionEffect
  dsimp only
  split <;> rfl

theorem State.holdMirror_tiles : s.holdMirror.tiles = s.tiles := by
  unfold State.holdMirror
  dsimp only
  split <;> rfl

theorem State.holdMirror_ops : s.holdMirror.ops = s.ops := by
  unfold State.holdMirror
  dsimp only
  split <;> rfl

theorem State.afterSeated_resited (n : SiteId) : s.Resited (s.afterSeated n) := by
  unfold State.afterSeated
  dsimp only
  split
  · split
    · exact s.judge_resited n _ _
    · split
      · exact s.judge_resited n _ _
      · exact State.Resited.refl s
  · exact State.Resited.refl s

theorem State.tearFallen_noCircuits (h : s.circuits = []) : s.tearFallen = s := by
  rw [State.tearFallen, h]
  rfl

/-- Without rejoin requests the steps after a transition leave the tiles as they stand. -/
theorem State.settled_tiles {t : State} (hc : t.circuits = []) (ho : t.ops = []) : (s.settled t).tiles = t.tiles := by
  unfold State.settled
  rw [t.tearFallen_noCircuits hc]
  have seated := State.Resited.foldl State.afterSeated_resited
    ((s.decisions.filter fun d => decide (d.effect ≤ s.firstCue)).map (·.site)).eraseDups ((s.retree t).holdMirror.serviceBack s.serviceUp)
  generalize List.foldl State.afterSeated _ _ = u at seated ⊢
  have rest := ((State.remap_resited u.keepArea).trans (State.restIslands_resited _)).trans (State.reuse_resited _)
  generalize u.keepArea.remap.restIslands.reuse = v at rest ⊢
  have tree := (s.retree_retrimmed t).1
  have noOps : v.ops = [] := by
    rw [rest.ops]
    show u.ops = []
    rw [seated.ops, State.serviceBack_ops, State.holdMirror_ops, tree.ops, ho]
  calc v.placeRejoins.tiles
    _ = v.reuse.tiles := by rw [State.placeRejoins, noOps]; rfl
    _ = u.tiles := v.reuse_resited.tiles.trans rest.tiles
    _ = t.tiles := by rw [seated.tiles, State.serviceBack_tiles, State.holdMirror_tiles, tree.tiles]

/-- The sites whose loss becomes pending in a tile as the counters are told (13 R330). -/
def State.sitesLostIn (s : State) (t : Tile) : List SiteId :=
  if t.lost then [] else
    (s.changes.filter fun c => c.loses.contains t.key.co && c.ahead.contains (t.site, t.region) && s.reached c.effect (t.site, t.region)).map (·.site)

/-- Whether a transition reaches a region now. -/
def State.tells (s : State) (t : Tile) : Bool := (s.changes.flatMap fun c => c.ahead.filter (s.reached c.effect)).contains (t.site, t.region)

/-- A tile as its counter is told. -/
def State.toldTile (s : State) (t : Tile) : Tile :=
  if s.tells t then s.flagged 8 ((s.sitesLostIn t).foldl Tile.siteLost t) else (s.sitesLostIn t).foldl Tile.siteLost t

theorem State.tell_tiles : s.tell.tiles = s.tiles.map s.toldTile := rfl

theorem State.tell_noChanges (h : s.changes = []) : s.tell = s := by
  have told (t : Tile) : s.toldTile t = t := by
    simp only [State.toldTile, State.tells, State.sitesLostIn, h, List.filter_nil, List.map_nil, ite_self, List.flatMap_nil, List.contains_nil,
      List.foldl_nil, Bool.false_eq_true, if_false]
  have tiles : s.tell.tiles = s.tiles := by
    rw [State.tell_tiles, List.map_congr_left fun t _ => told t, List.map_id']
  have changes : s.tell.changes = s.changes := by
    show List.filter _ (s.changes.map _) = _
    rw [h]
    rfl
  calc s.tell
    _ = { s with changes := s.tell.changes, tiles := s.tell.tiles } := rfl
    _ = s := by rw [changes, tiles]

theorem State.change_void {d : Decision} (h : transits (s.sites[d.site]).state (d.resolve s.sites[d.site]).to_ = false) : s.change d = s := by
  rw [State.change, State.transit_void h]
  exact if_pos rfl

theorem State.change_voids {ds : List Decision} (h : ∀ x ∈ ds, transits (s.sites[x.site]).state (x.resolve s.sites[x.site]).to_ = false) :
    ds.foldl State.change s = s := by
  induction ds with
  | nil => rfl
  | cons d ds ih =>
    rw [List.foldl_cons, s.change_void (h d (List.mem_cons_self ..))]
    exact ih fun x hx => h x (List.mem_cons_of_mem _ hx)

/-- A step that decides nothing and has nothing to tell leaves the machine, its decisions apart. -/
theorem State.stepped_void (hv : ∀ x ∈ s.decisions, x.effect ≤ s.firstCue → transits (s.sites[x.site]).state (x.resolve s.sites[x.site]).to_ = false)
    (hc : s.changes = []) : s.stepped = { s with decisions := s.decisions.filter fun d => decide (s.firstCue < d.effect) } := by
  unfold State.stepped
  rw [State.change_voids, State.tell_noChanges]
  · exact hc
  · intro x hx
    obtain ⟨hmem, hdue⟩ := List.mem_filter.mp hx
    exact hv x hmem (of_decide_eq_true hdue)

/-- A transition that changes its site, with the counters that have still to see it. -/
theorem State.change_changes {d : Decision} (h : ((s.transit d).sites[d.site]).state ≠ (s.sites[d.site]).state) :
    ∃ loses, (s.change d).changes = s.changes ++ [⟨d.effect, d.site, (s.sites[d.site]).state, (s.sites[d.site]).epoch, (s.sites[d.site]).typ,
      (s.sites[d.site]).lastCause, (s.transit d).countersUp, loses⟩] := by
  rw [State.change, if_neg h]
  exact ⟨_, congrArg (· ++ [_]) (s.transit_changes d)⟩

theorem State.mem_countersUp {q : Fin 4} (hup : (s.sites[n]).state.up = true) (h : n.val < 8 ∨ q = 0) : (n, q) ∈ s.countersUp :=
  List.mem_flatMap.mpr ⟨n, List.mem_filter.mpr ⟨List.mem_finRange n, hup⟩, mem_countersOf (h.imp_left decide_eq_true)⟩

/-! ### What the counters are told (13 R327, R330) -/

theorem State.tell_ahead {c : SiteChange} (hc : c ∈ s.tell.changes) {x : SiteId × Fin 4} (hx : x ∈ c.ahead) : s.counter x.1 x.2 < c.effect := by
  obtain ⟨d, -, rfl⟩ := List.mem_map.mp (List.mem_filter.mp hc).1
  obtain ⟨-, far⟩ := List.mem_filter.mp hx
  simp only [State.reached, Bool.not_or, Bool.not_not, Bool.and_eq_true, Bool.not_eq_true', decide_eq_false_iff_not, not_le] at far
  exact far.2

variable {u : Tile} (hlost : u.lost = false) (hstart : s.notStarted u.key.co = false) (hup : (s.sites[u.site]).state.up = true)

include hup in
theorem State.reached_of_up (e : Nat) : s.reached e (u.site, u.region) = true ↔ (e : Int) ≤ s.counter u.site u.region := by
  rw [State.reached, hup, Bool.not_true, Bool.false_or, decide_eq_true_eq]

include hup in
theorem State.tells_iff :
    s.tells u = true ↔ ∃ c ∈ s.changes, (u.site, u.region) ∈ c.ahead ∧ (c.effect : Int) ≤ s.counter u.site u.region := by
  rw [State.tells, List.contains_iff_mem, List.mem_flatMap]
  simp only [List.mem_filter, s.reached_of_up hup]

include hup in
theorem State.tells_one {c : SiteChange} (h : s.changes = [c]) :
    s.tells u = true ↔ (u.site, u.region) ∈ c.ahead ∧ (c.effect : Int) ≤ s.counter u.site u.region := by
  simp only [s.tells_iff hup, h, List.mem_singleton, exists_eq_left]

include hlost hstart in
theorem State.flagged_live (v : Tile) (hl : v.lost = u.lost) (hk : v.key = u.key) : s.flagged 8 v = { v with st := v.st.arrives 8 } :=
  if_neg (by rw [hl, hk, hlost, hstart]; decide)

/-- A tile of a company that loses no site: e8 where a transition reaches its region. -/
theorem State.sitesLostIn_none (h : ∀ c ∈ s.changes, u.key.co ∉ c.loses) : s.sitesLostIn u = [] := by
  unfold State.sitesLostIn
  split
  · rfl
  · rw [List.map_eq_nil_iff, List.filter_eq_nil_iff]
    intro c hc
    rw [Bool.eq_false_iff.mpr fun hm => h c hc (List.contains_iff_mem.mp hm)]
    exact Bool.false_ne_true

include hlost hup in
/-- A tile of a company that loses the site of the one transition there is. -/
theorem State.sitesLostIn_one {c : SiteChange} (h : s.changes = [c]) (hc : u.key.co ∈ c.loses) : s.sitesLostIn u = if s.tells u = true then [c.site] else [] := by
  have loses : (c.loses.contains u.key.co && c.ahead.contains (u.site, u.region) && s.reached c.effect (u.site, u.region)) = true ↔
      s.tells u = true := by
    rw [s.tells_one hup h, List.contains_iff_mem.mpr hc, Bool.true_and, Bool.and_eq_true, List.contains_iff_mem, s.reached_of_up hup]
  rw [State.sitesLostIn, h, if_neg (by rw [hlost]; decide)]
  simp only [List.filter_cons, List.filter_nil, loses]
  split <;> rfl

include hlost hstart

theorem State.toldTile_kept (h : ∀ c ∈ s.changes, u.key.co ∉ c.loses) :
    s.toldTile u = if s.tells u = true then { u with st := u.st.arrives 8 } else u := by
  rw [State.toldTile, s.sitesLostIn_none h, List.foldl_nil, s.flagged_live hlost hstart u rfl rfl]

include hup in
theorem State.toldTile_loses {c : SiteChange} (h : s.changes = [c]) (hc : u.key.co ∈ c.loses) :
    s.toldTile u = if s.tells u = true then { u with
      st := u.st.arrives 8
      pend := { u.pend with siteLost := true, sites := u.pend.sites ||| (1#16 <<< c.site.val) } } else u := by
  rw [State.toldTile, s.sitesLostIn_one hlost hup h hc]
  split
  · exact s.flagged_live hlost hstart (u.siteLost c.site) rfl rfl
  · rfl

end
end Sys2Proof.Machine
end

section
open Sys2Proof Sys2Proof.Machine

/-- Settles O55: contacts, phases and commands each by its own equation; a self-test by `State.tested_site` and what the cleared memories give, admission
by `State.links_trainLinks` and `State.cleared_mem`; decisions by `State.transit_unborne` and `Site.enter_keeps`, the step of the deck by
`State.settled_tiles`, what the counters are told by `State.toldTile_kept` and `State.toldTile_loses`. -/
theorem siteEvents : Obligations.SiteEvents := by
  unfold Obligations.SiteEvents
  refine ⟨fun s n => ?contacts, fun s n => ?keepAlive, fun s n o ps => ?tests, fun s n hup => ?commands, fun s d => ?transitions, fun s => ?told⟩
  case contacts =>
    refine ⟨fun hx ha ⟨c, hc, hlong⟩ => exec_presenceClampClosed hx ha hc hlong,
      fun hx ha ⟨c, hc, hlong⟩ => exec_presenceOpenFor222Cycles hx ha hc hlong,
      exec_presenceOpen, exec_clampOpen, fun cause hx => State.opened_of_powered hx cause,
      exec_powerGood, exec_powerGood_open, fun limit cause hl hp hlong => exec_phaseTimeLimit hl hp hlong,
      fun hstage hshut => ⟨fun ht => ?_, exec_powerStageTrip_tripped hstage hshut⟩,
      fun a => ⟨rfl, rfl, (s.sites[n]).trip_openAt a⟩, fun to_ cause => ⟨?_, rfl, rfl⟩, fun c hstage ho hc => exec_powerStageTrip_opens hstage ho hc,
      ⟨(s.sites[n]).dark_railsOff_stage, fun q i => ⟨(s.sites[n]).dark_railsOff_rail q, (s.sites[n]).dark_railsOff_island q i⟩⟩,
      exec_fatalModuleError, fun to_ cause hk hd => ⟨s.judge_sites n to_ cause, State.mem_decide hk (.inr hd)⟩⟩
    · exact exec_powerStageTrip_trips hstage hshut ht
    · obtain ⟨-, -, tripped, -⟩ := (s.sites[n]).enter_keeps to_ cause s.cue
      exact tripped
  case keepAlive =>
    refine ⟨exec_keepAliveSend, exec_keepAliveSend_mute, fun hx hl hlong => ?_, State.siteHole_of_mute, s.lose_lossCue n,
      fun to_ cause l a hk hto => State.mem_lose hk n hto cause l a⟩
    obtain ⟨d, hd, silent⟩ := s.silent_within n
    exact ⟨d, hd, (exec_keepAliveSilence hx hl hlong).trans (congrArg _ silent)⟩
  case tests =>
    refine ⟨fun hp => ?tested, fun hp ht => ⟨exec_admission_untrained hp ht .noLink, exec_admission_untrained hp ht .noTrim, exec_admission_trained hp ht⟩,
      fun p hmem hpeer => State.links_trainLinks (.inl ⟨hmem, hpeer⟩),
      fun out hp ht => ⟨exec_admission_failed hp ht out, exec_admission_waits hp ht out, fun hf hd hm hn => ?admitted⟩,
      fun q p hd hn hr hparent => State.trimDone_zeros hd hn hr hparent, s.linksMeasured_iff n,
      fun p y t1 t2 t4 hp ht hd hl hy hfit => State.measureLink_linkOfs hp ht hd hl hy hfit⟩
    case tested =>
      obtain ⟨words, hwords, tested⟩ := exec_selfTest hp o
      refine ⟨s.tested n o words, tested, ?_, fun hn q => ⟨?_, State.tested_defects q o words hn⟩, s.tested_cardOf n o words,
        fun a hlo hhi => s.tested_weights n o words hlo hhi⟩
      · rw [State.tested_report]
        exact hwords
      · rw [State.tested_region s n o words hn, Region.tested_record]
    case admitted =>
      exact ⟨s.cleared n, exec_admission_admits hp ht out hf hd hm hn, fun a hlo hhi => s.cleared_mem n hlo hhi, s.cleared_mapped n⟩
  case commands =>
    have drain (ho : s.openedNow n = false) (hn : n ≠ siteS) (hx : (s.sites[n]).state.serving = true) : s.drain n = s.judge n .draining 0 :=
      (State.drain_of_ne_siteS ho hn).trans (if_pos hx)
    have undrained (ho : s.openedNow n = false) (hn : n ≠ siteS) (hx : (s.sites[n]).state.serving = false) : s.drain n = s.cmdRefused n :=
      (State.drain_of_ne_siteS ho hn).trans (if_neg (Bool.eq_false_iff.mp hx))
    refine ⟨fun hx => ⟨fun ha => ?_, fun ha => ?_⟩, exec_cmdPower_refused hup,
      fun ho hn => ⟨fun hx => ⟨(exec_cmdDrain hup).trans (congrArg _ (drain ho hn hx)), congrArg Host.Outcome.next (drain ho hn hx)⟩,
        fun hx => ⟨(exec_cmdDrain hup).trans (congrArg _ (undrained ho hn hx)), congrArg Host.Outcome.next (undrained ho hn hx)⟩⟩,
      exec_cmdUndrain hup, exec_cmdUndrain_refused hup, fun hx => exec_cmdReset hup ((SiteState.unplugged_iff _).mpr hx),
      fun _ away => exec_cmdReset_refused hup fun ⟨_, hp, hc⟩ => ?_, fun hx => exec_cmdReset_refused hup fun h => hx ((SiteState.unplugged_iff _).mp h.1),
      exec_freshrdClear hup⟩
    · exact (exec_cmdPower hup hx).trans (congrArg _ (if_neg (Bool.eq_false_iff.mp ha)))
    · exact (exec_cmdPower hup hx).trans (congrArg _ (if_pos ha))
    · rw [hp, hc] at away
      exact away.elim nofun nofun
  case transitions =>
    refine ⟨State.transit_void, Decision.resolve_decided d _, fun ho hx => Decision.resolve_empties ho (.inl hx), fun ho he => ?opened,
      fun old hold y hy hsite hto => ?renewed, fun x to_ cause => ?entered, ?step, fun hchanged => ?changed⟩
    case opened =>
      refine ⟨fun hx => ?unplugged, fun hx => ⟨fun hc => Decision.resolve_empties ho (.inr ⟨hx, hc⟩), fun hc => ?released⟩,
        fun hx => ⟨fun ⟨hp, hc⟩ => ?closed, fun hopen => ?open_⟩⟩
      case unplugged =>
        obtain hx | hx := hx
        · exact State.transit_unborne ho he (by rw [hx]; decide) (by rw [hx]; nofun) (by rw [hx]; exact Bool.or_true _)
        · exact State.transit_unborne ho he (by rw [hx]; decide) (by rw [hx]; nofun) (by rw [hx]; exact Bool.or_true _)
      case released => exact State.transit_unborne ho he (by rw [hx]; decide) (fun _ => hc) (by rw [hx]; exact Bool.or_true _)
      case closed =>
        obtain ⟨hseated, hreleased⟩ := SiteState.powered_plugged hx
        exact State.transit_unborne ho he hseated (fun h => absurd h hreleased) (by rw [hp, hc]; rfl)
      case open_ =>
        obtain ⟨hseated, hreleased⟩ := SiteState.powered_plugged hx
        rw [Decision.resolve_judges ho he hseated fun h => absurd h hreleased]
        refine if_neg ?_
        rw [hx]
        obtain h | h := hopen <;> rw [h] <;> simp
    case renewed =>
      have kept := State.renewed_noLoss hold hy hsite
      obtain hto | hto := hto <;> rw [Decision.isLoss, hto] at kept <;> exact absurd kept (by decide)
    case entered =>
      obtain ⟨state, since, -, epoch⟩ := x.enter_keeps to_ cause s.cue
      exact ⟨state, since, fun h => epoch.trans (if_pos h), fun h => epoch.trans (if_neg h)⟩
    case step =>
      refine ⟨_, (exec_siteTransitionEffect s), fun hnone => if_pos ?_, fun _ => ?_, fun hv hc hk ho => ?_⟩
      · exact List.isEmpty_iff.mpr (List.filter_eq_nil_iff.mpr fun x hx => by rw [decide_eq_true_eq]; exact Nat.not_le.mpr (hnone x hx))
      · exact congrArg Prod.fst (execSiteTransitionEffect_keeps s _ (exec_siteTransitionEffect s))
      · split
        · rw [s.tell_noChanges hc]
        · rw [s.stepped_void hv hc, State.settled_tiles]
          · exact hk
          · exact ho
    case changed =>
      obtain ⟨loses, changes⟩ := s.change_changes hchanged
      exact ⟨_, changes, rfl, rfl, rfl, rfl, rfl, rfl, fun n q => State.mem_countersUp _⟩
  case told =>
    refine ⟨s.tell_noChanges, fun c hc x hx => s.tell_ahead hc hx, fun u hu hlost hstart hup hkept => ?kept,
      fun c u hu hone hloses hlost hstart hup => ?loses, fun _ => rfl, fun _ => rfl, s.siteView_eq⟩
    case kept => exact List.mem_map.mpr ⟨u, hu, (s.toldTile_kept hlost hstart hkept).trans (if_congr (s.tells_iff hup) rfl rfl)⟩
    case loses => exact List.mem_map.mpr ⟨u, hu, (s.toldTile_loses hlost hstart hup hone hloses).trans (if_congr (s.tells_one hup hone) rfl rfl)⟩

end
